-- ==== Sys2Proof/Word.lean ====
section
/-! DEFINITION. The word types of the model and the saturating counter of the register pages. -/

namespace Sys2Proof

/-- A byte of a scratchpad, of DDR or of a record. -/
abbrev Byte := BitVec 8

/-- A 32-bit scalar, lane or accumulator word. -/
abbrev Word := BitVec 32

/-- A 64-bit register value. -/
abbrev DWord := BitVec 64

/-- A counter of `w` bits after `k` more events; the counters of the register pages saturate (R46, R248). -/
def satAdd (w n k : Nat) : Nat := min (n + k) (2 ^ w - 1)

/-- Division rounded up. -/
def ceilDiv (a b : Nat) : Nat := (a + b - 1) / b

end Sys2Proof
end

