-- ==== Sys2Proof/Config.lean ====
section
/-! DEFINITION. What an implementation fixes and what the spec leaves open. An `opaque` constant below has no body:
nothing can be proved of its value, so a statement about it holds whatever the hardware gives (the free values). -/

namespace Sys2Proof.Config

/-- Sites of one quadrant (00_scope). -/
def sitesPerQuad : Nat := 576

/-- Logical tiles of one quadrant (R48). -/
def tilesPerQuad : Nat := 512

/-- FREE: scalar register `r` not written since the work-window start numbered `epoch` (R66, R125). -/
opaque freeS : (epoch r : Nat) → Word

/-- FREE: loop counter `r` not written since the work-window start (R66, R125). -/
opaque freeK : (epoch r : Nat) → Word

/-- FREE: predicate `r` (not P0) not written since the work-window start (R66, R125). -/
opaque freeP : (epoch r : Nat) → Bool

/-- FREE: lane `l` of vector register `r` not written since the work-window start (R66). -/
opaque freeV : (epoch r l : Nat) → Word

/-- FREE: the poison bit of that lane. -/
opaque freeVPoison : (epoch r l : Nat) → Bool

/-- FREE: vector mask `r` (not VM0) not written since the work-window start (R66). -/
opaque freeVM : (epoch r : Nat) → DWord

/-- FREE: column `c` of ACC row `r` not written since the work-window start (R66, R106). -/
opaque freeAcc : (epoch r c : Nat) → Word

/-- FREE: the poison mark of half `h` of that row. -/
opaque freeAccPoison : (epoch r h : Nat) → Bool

/-- FREE: the bits of a poisoned result (R195): of the vector operation issued in `cycle`, by lane; of the ACC row that
lands in it, by 64 + column; of a load issued in it, by 128 + lane; of a message taken in it, by 256 + 64 × register +
lane. -/
opaque poisonedBits : (epoch cycle lane : Nat) → Word

/-- FREE: whether an MMUL on a buffer not loaded in the turn raises FORMAT rather than running (R155). -/
opaque unloadedClash : (epoch cycle : Nat) → Bool

/-- FREE: a column of an ACC row that such an MMUL, or a stream whose fetch clashed (R154), writes. -/
opaque undefinedProduct : (epoch cycle row col : Nat) → Word

/-- FREE: the flags such a row raises in a column's set (R155). -/
opaque undefinedFlags : (epoch cycle row col : Nat) → BitVec 5

/-- FREE: register S`r` when two results of one slot land in it in one cycle, which the spec leaves unstated (R123
covers results of different slots). -/
opaque sameSlotLanding : (epoch cycle r : Nat) → Word

/-- FREE: whether an ML-DSA-87 signature over a message with a context string verifies under a public key. The spec
names the algorithm (R474, R485, R486) and the model leaves it uninterpreted. -/
opaque mldsaOk : (key context message sig : List Byte) → Bool

/-- FREE: the failed condition of check 4 and the first refused offset that a SLUICE_VIOLATION record of a write to
another device names (R244): an ANSWER (Table 12.3) carries neither. -/
opaque remoteViolation : (ctx inst packet : Nat) → Nat × Nat

/-- FREE: the Welwald firmware public key `k` in the boot ROM (R475), whose bytes the spec does not give. -/
opaque firmwareKey : (k : Nat) → List Byte

/-- FREE: the Welwald return key in the boot ROM (R486). -/
opaque returnKey : List Byte

/-- FREE: measurement 1, the digest of the boot ROM (Table 17.3). -/
opaque bootRomDigest : List Byte

/-- FREE: measurement 5, the digest of the boot state (Table 17.3), whose serialisation the spec does not give. -/
opaque bootStateDigest : (svn : Nat) → (revoked : List Nat) → (owner : List Byte) → (rma : Bool) → List Byte

/-- FREE: the firmware keys that a boot configuration component names for revocation (R475). -/
opaque revokes : (component : List Byte) → List Nat

/-- FREE: the bytes of certificate slot 0 under a chain digest (R477). -/
opaque certChain : (chain : List Byte) → List Byte

/-- FREE: output number `n` of the DRBG (R478). -/
opaque drbg : (n : Nat) → List Byte

/-- FREE: the measurement summary of a challenge's answer (R483), which SPDM computes from the measurements. -/
opaque measurementSummary : (measured : List (List Byte)) → List Byte

/-- FREE: a signature of the alias key over bytes, with hedged randomness number `n` (R477, R478). -/
opaque aliasSign : (chain message : List Byte) → (n : Nat) → List Byte

/-- FREE: the module's serial number (Table 10.19). -/
opaque serial : DWord

/-- FREE: the module input energy in µJ drawn before the turn generator starts for the `n`th time (R276): no turn's energy holds it. -/
opaque startEnergy : (n : Nat) → Nat

/-- FREE: the Welwald vendor ID (Table 10.18). -/
opaque vendorId : BitVec 16

/-- FREE: the board revision number (Table 18.11). -/
opaque boardRev : BitVec 4

/-- FREE: byte `i` of the part of snapshot `seq` that has no byte layout in the spec (Tables 15.4 to 15.6). -/
opaque snapshotByte : (seq i : Nat) → Byte

/-- FREE: the pair digest of tile `g` of context `c` in a turn in which only BATCH_OUT and TWIN_OUT entries were seen to differ (R404
gives items no byte layout). -/
opaque pairDigest : (turn c g : Nat) → BitVec 64

/-- FREE: the position of the oldest unit of hopper `h` of tile `g` in snapshot `seq` (Table 15.6 gives none). -/
opaque hopperStart : (seq g h : Nat) → Nat

/-- FREE: the entry of the oldest message in the index of pond `h` of tile `g` in snapshot `seq` (Table 15.6 gives none). -/
opaque pondStart : (seq g h : Nat) → Nat

/-- FREE: the digest of a manifest region that holds poisoned units (R396 states none). -/
opaque poisonedDigest : (turn ctx quad region : Nat) → List Byte

/-- FREE: bundle `i` of a configuration slot whose reload failed in `cycle` (R133: its content is then undefined). -/
opaque undefinedSlot : (epoch cycle slot i : Nat) → BitVec 256

/-- FREE: the ownership map of that slot. -/
opaque undefinedMap : (epoch cycle slot : Nat) → DWord

/-- FREE: steering entry `i` of that slot. -/
opaque undefinedSteer : (epoch cycle slot i : Nat) → BitVec 128

end Sys2Proof.Config
end

