-- ==== Sys2Proof/Syntax.lean ====
section
/-! DEFINITION. The commands of the block and their operands: the slot operations of a bundle as their encodings give
them, what a plan image declares, what arrives from outside, and `Instr`, one constructor per row of the command
table. -/

namespace Sys2Proof

/-! ### The formats of the bundle slots (Tables 4.2, 4.4, 5.2, 5.5, 5.9), reserved fields left out -/

/-- GUARD (R119): bits 3 to 1 name a predicate, bit 0 inverts it. -/
abbrev Guard := BitVec 4

/-- Format SR of Table 4.2. -/
structure FmtSR where
  g : Guard
  sd : BitVec 5
  sa : BitVec 5
  sb : BitVec 5
  deriving DecidableEq, Repr

/-- Format SI of Table 4.2. -/
structure FmtSI where
  g : Guard
  sd : BitVec 5
  sa : BitVec 5
  imm : Word
  deriving DecidableEq, Repr

/-- Format PC of Table 4.2. -/
structure FmtPC where
  g : Guard
  pd : BitVec 3
  sa : BitVec 5
  sb : BitVec 5
  deriving DecidableEq, Repr

/-- Format PCI of Table 4.2. -/
structure FmtPCI where
  g : Guard
  pd : BitVec 3
  sa : BitVec 5
  imm : Word
  deriving DecidableEq, Repr

/-- Format PL of Table 4.2. -/
structure FmtPL where
  g : Guard
  pd : BitVec 3
  pa : BitVec 3
  na : BitVec 1
  pb : BitVec 3
  nb : BitVec 1
  deriving DecidableEq, Repr

/-- Format MK of Table 4.2 (MOVK). -/
structure FmtMK where
  g : Guard
  sd : BitVec 5
  kn : BitVec 4
  deriving DecidableEq, Repr

/-- Format BR of Table 4.2 (BR, CALL). -/
structure FmtBR where
  g : Guard
  target : BitVec 10
  deriving DecidableEq, Repr

/-- Format JR of Table 4.2. -/
structure FmtJR where
  g : Guard
  sa : BitVec 5
  deriving DecidableEq, Repr

/-- Format LP of Table 4.2 (LOOP). -/
structure FmtLP where
  g : Guard
  kn : BitVec 4
  sa : BitVec 5
  end_ : BitVec 10
  deriving DecidableEq, Repr

/-- Format LI of Table 4.2 (LOOPI). -/
structure FmtLI where
  g : Guard
  kn : BitVec 4
  count : BitVec 20
  end_ : BitVec 10
  deriving DecidableEq, Repr

/-- Format SW of Table 4.2 (SWITCH). -/
structure FmtSW where
  g : Guard
  slot : BitVec 2
  entry : BitVec 10
  deriving DecidableEq, Repr

/-- Format RL of Table 4.2 (RELOAD). -/
structure FmtRL where
  g : Guard
  slot : BitVec 2
  bank : BitVec 5
  trailer : BitVec 10
  deriving DecidableEq, Repr

/-- Format OW of Table 4.2 (OWNR). -/
structure FmtOW where
  g : Guard
  first : BitVec 5
  count : BitVec 6
  code : BitVec 2
  deriving DecidableEq, Repr

/-- Format CY of Table 4.2 (IDLE, WAITC). -/
structure FmtCY where
  g : Guard
  n : BitVec 20
  deriving DecidableEq, Repr

/-- The scalar operations of format SR (Table 4.3, 0x01 to 0x0E). -/
inductive AluOp where
  | add | sub | mul | mulhu | and | or | xor | shl | shr | sra | min | max | minu | maxu
  deriving DecidableEq, Repr

/-- The scalar operations of format SI with a source register (Table 4.3, 0x11 to 0x1A). -/
inductive AluImmOp where
  | add | mul | and | or | xor | shl | shr | sra
  deriving DecidableEq, Repr

/-- The relations of CMP and CMPI (Table 4.3). -/
inductive Rel where
  | eq | ne | lt | le | ltu | leu
  deriving DecidableEq, Repr

/-- The predicate operations PAND, POR and PXOR, and the mask operations VMAND, VMOR and VMXOR. -/
inductive LogicOp where
  | and | or | xor
  deriving DecidableEq, Repr

/-- What the scalar and control slot holds (Table 4.3). -/
inductive ScalarOp where
  | nop
  | alu (op : AluOp) (f : FmtSR)
  | alui (op : AluImmOp) (f : FmtSI)
  | movi (g : Guard) (sd : BitVec 5) (imm : Word)
  | cmp (r : Rel) (f : FmtPC)
  | cmpi (r : Rel) (f : FmtPCI)
  | plog (op : LogicOp) (f : FmtPL)
  | movk (f : FmtMK)
  | rdid (g : Guard) (sd : BitVec 5)
  | br (f : FmtBR)
  | call (f : FmtBR)
  | jr (f : FmtJR)
  | loop (f : FmtLP)
  | loopi (f : FmtLI)
  | switch (f : FmtSW)
  | reload (f : FmtRL)
  | ownr (f : FmtOW)
  | idle (f : FmtCY)
  | waitc (f : FmtCY)
  | endwork (g : Guard)
  deriving DecidableEq, Repr

/-- Formats SV and SS of Table 4.4 (SS has LEN = 0 and a scalar source). -/
structure FmtSV where
  g : Guard
  dq : BitVec 2
  dtile : BitVec 9
  hop : BitVec 2
  len : BitVec 3
  vsrc : BitVec 5
  tag : BitVec 8
  deriving DecidableEq, Repr

/-- Format SS of Table 4.4. -/
structure FmtSS where
  g : Guard
  dq : BitVec 2
  dtile : BitVec 9
  hop : BitVec 2
  ssrc : BitVec 5
  tag : BitVec 8
  deriving DecidableEq, Repr

/-- Format MV of Table 4.4. -/
structure FmtMV where
  g : Guard
  group : BitVec 6
  hop : BitVec 2
  len : BitVec 3
  vsrc : BitVec 5
  tag : BitVec 8
  deriving DecidableEq, Repr

/-- Formats RV and RX of Table 4.4: `d` is VD or SD. -/
structure FmtRV where
  g : Guard
  d : BitVec 5
  sst : BitVec 5
  hop : BitVec 2
  deriving DecidableEq, Repr

/-- Format TP of Table 4.4. -/
structure FmtTP where
  g : Guard
  tq : BitVec 2
  sa : BitVec 5
  deriving DecidableEq, Repr

/-- Format TI of Table 4.4. -/
structure FmtTI where
  g : Guard
  tq : BitVec 2
  imm : Word
  deriving DecidableEq, Repr

/-- Format TO of Table 4.4. -/
structure FmtTO where
  g : Guard
  sd : BitVec 5
  tq : BitVec 2
  deriving DecidableEq, Repr

/-- Format DM of Table 4.4. -/
structure FmtDM where
  g : Guard
  desc : BitVec 8
  sa : BitVec 5
  sb : BitVec 5
  deriving DecidableEq, Repr

/-- What the exchange slot holds (Table 4.5). -/
inductive ExchOp where
  | nop
  | sendV (f : FmtSV)
  | sendS (f : FmtSS)
  | msendV (f : FmtMV)
  | recvV (f : FmtRV)
  | recvS (f : FmtRV)
  | tpush (f : FmtTP)
  | tpushi (f : FmtTI)
  | tpop (f : FmtTO)
  | dma (f : FmtDM)
  deriving DecidableEq, Repr

/-- Format MW of Table 5.2 (MLDW). -/
structure FmtMW where
  g : Guard
  wb : BitVec 1
  fmt : BitVec 3
  sa : BitVec 5
  deriving DecidableEq, Repr

/-- Format MF of Table 5.2 (MFEED). -/
structure FmtMF where
  g : Guard
  fmt : BitVec 3
  sa : BitVec 5
  sb : BitVec 5
  n : BitVec 9
  deriving DecidableEq, Repr

/-- Format MM of Table 5.2 (MMUL). -/
structure FmtMM where
  g : Guard
  wb : BitVec 1
  mode : BitVec 1
  row0 : BitVec 9
  deriving DecidableEq, Repr

/-- What the matrix slot holds (Table 5.3). -/
inductive MatOp where
  | nop
  | mldw (f : FmtMW)
  | mfeed (f : FmtMF)
  | mmul (f : FmtMM)
  deriving DecidableEq, Repr

/-- The mask fields MASK and MINV that begin every vector format (R148). -/
structure VMask where
  mask : BitVec 3
  minv : BitVec 1
  deriving DecidableEq, Repr

/-- Format V3 of Table 5.5. -/
structure FmtV3 where
  m : VMask
  vd : BitVec 5
  va : BitVec 5
  vb : BitVec 5
  vc : BitVec 5
  bs : BitVec 1
  cs : BitVec 1
  deriving DecidableEq, Repr

/-- Format VI of Table 5.5. -/
structure FmtVI where
  m : VMask
  vd : BitVec 5
  va : BitVec 5
  imm : Word
  deriving DecidableEq, Repr

/-- Format VA of Table 5.5. -/
structure FmtVA where
  m : VMask
  vd : BitVec 5
  row : BitVec 9
  vb : BitVec 5
  vc : BitVec 5
  bs : BitVec 1
  cs : BitVec 1
  deriving DecidableEq, Repr

/-- Format VU of Table 5.5. -/
structure FmtVU where
  m : VMask
  vd : BitVec 5
  va : BitVec 5
  fmt : BitVec 3
  deriving DecidableEq, Repr

/-- Format OC of Table 5.5. -/
structure FmtOC where
  m : VMask
  vd : BitVec 5
  as : BitVec 1
  src : BitVec 9
  vsc : BitVec 5
  vbi : BitVec 5
  scl : BitVec 5
  fmt : BitVec 3
  sat : BitVec 1
  clip : BitVec 1
  ssc : BitVec 1
  sbi : BitVec 1
  qsel : BitVec 2
  itype : BitVec 1
  deriving DecidableEq, Repr

/-- Format VC of Table 5.5. -/
structure FmtVC where
  m : VMask
  vmd : BitVec 3
  va : BitVec 5
  vb : BitVec 5
  bs : BitVec 1
  deriving DecidableEq, Repr

/-- Format ML of Table 5.5. -/
structure FmtML where
  m : VMask
  vmd : BitVec 3
  vma : BitVec 3
  na : BitVec 1
  vmb : BitVec 3
  nb : BitVec 1
  deriving DecidableEq, Repr

/-- Format RD of Table 5.5. -/
structure FmtRD where
  m : VMask
  vd : BitVec 5
  va : BitVec 5
  deriving DecidableEq, Repr

/-- Format LU of Table 5.5. -/
structure FmtLU where
  m : VMask
  vd : BitVec 5
  va : BitVec 5
  vt : BitVec 5
  deriving DecidableEq, Repr

/-- Format SM of Table 5.5. -/
structure FmtSM where
  m : VMask
  vd : BitVec 5
  sk : BitVec 5
  st : BitVec 5
  sdr : BitVec 5
  purp : BitVec 8
  u : BitVec 1
  deriving DecidableEq, Repr

/-- Format EX of Table 5.5. -/
structure FmtEX where
  m : VMask
  sd : BitVec 5
  va : BitVec 5
  lane : BitVec 6
  deriving DecidableEq, Repr

/-- Format FL of Table 5.5. -/
structure FmtFL where
  m : VMask
  vd : BitVec 5
  sel : BitVec 1
  deriving DecidableEq, Repr

/-- The vector operations of format V3 (Table 5.6). -/
inductive V3Op where
  | add | sub | mul | fma | fms | fnma | min | max | abs | neg | mov
  | rcp | rsqrt | sqrt | exp2 | log2
  | iadd | isub | imul | and | or | xor | shl | shr | sra | imin | imax
  | cvtF2I | cvtI2F
  deriving DecidableEq, Repr

/-- The vector operations of format VI (Table 5.6). -/
inductive VIOp where
  | addi | muli | movi
  deriving DecidableEq, Repr

/-- The vector operations of format VA (Table 5.6). -/
inductive VAOp where
  | rda | add | mul | fma
  deriving DecidableEq, Repr

/-- The vector compares (Table 5.6, 0x40 to 0x46). -/
inductive VCmpOp where
  | eq | lt | le | un | ieq | ilt | iltu
  deriving DecidableEq, Repr

/-- The reductions (R164). -/
inductive RedOp where
  | sum | max | min | argmax
  deriving DecidableEq, Repr

/-- What the vector slot holds (Table 5.6). -/
inductive VecOp where
  | nop
  | v3 (op : V3Op) (f : FmtV3)
  | vi (op : VIOp) (f : FmtVI)
  | va (op : VAOp) (f : FmtVA)
  | unpk (f : FmtVU)
  | ocvt (f : FmtOC)
  | cmp (op : VCmpOp) (f : FmtVC)
  | mlog (op : LogicOp) (f : FmtML)
  | red (op : RedOp) (f : FmtRD)
  | lut (f : FmtLU)
  | sample (f : FmtSM)
  | ext (f : FmtEX)
  | frd (f : FmtFL)
  | fclr (m : VMask) (sel : BitVec 1)
  deriving DecidableEq, Repr

/-- Format LQ of Table 5.9. -/
structure FmtLQ where
  g : Guard
  vd : BitVec 5
  q : BitVec 2
  sa : BitVec 5
  off : BitVec 14
  deriving DecidableEq, Repr

/-- Format LP of Table 5.9 (the post-increment forms). -/
structure FmtLPI where
  g : Guard
  vd : BitVec 5
  q : BitVec 2
  sa : BitVec 5
  sb : BitVec 5
  deriving DecidableEq, Repr

/-- Format LS of Table 5.9. -/
structure FmtLS where
  g : Guard
  sd : BitVec 5
  sa : BitVec 5
  off : BitVec 14
  deriving DecidableEq, Repr

/-- What the load/store slot holds (Table 5.10). -/
inductive LsOp where
  | nop
  | vldq (f : FmtLQ)
  | vldqP (f : FmtLPI)
  | vstq (f : FmtLQ)
  | vstqP (f : FmtLPI)
  | vldb (f : FmtLQ)
  | vldbX (f : FmtLQ)
  | vldh (f : FmtLQ)
  | sld (f : FmtLS)
  | sst (f : FmtLS)
  deriving DecidableEq, Repr

/-- A bundle: what its five slots hold (Table 4.1). -/
structure Bundle where
  vec : VecOp
  mat : MatOp
  ls : LsOp
  exch : ExchOp
  scal : ScalarOp
  deriving DecidableEq, Repr

/-- The five slots of a bundle (Table 4.1). -/
inductive SlotName where
  | vector | matrix | loadStore | exchange | scalar
  deriving DecidableEq, Repr

/-- A bundle whose five slots are NOP (R118). -/
def Bundle.nops : Bundle := { vec := .nop, mat := .nop, ls := .nop, exch := .nop, scal := .nop }

/-- The actions of a steering entry (Table 7.2). -/
inductive SteerAction where
  | drop | a | b | both
  deriving DecidableEq, Repr

/-- An output of a steering entry (Table 7.1). -/
inductive SteerOut where
  | none
  | tq (q : BitVec 2)
  | send (hop : BitVec 2) (quad : BitVec 2) (tile : BitVec 9)
  | msend (hop : BitVec 2) (group : BitVec 6)
  deriving DecidableEq, Repr

/-- The data input of a steering entry (Table 7.1, DSRC). -/
inductive DataSrc where
  | hopper (h : BitVec 2)
  | tq (q : BitVec 2)
  deriving DecidableEq, Repr

/-- A valid steering entry (Table 7.1); `csrc` is `none` for CNONE, and `const` its control word. -/
structure SteerEntry where
  dsrc : DataSrc
  csrc : Option (BitVec 2)
  shift : BitVec 5
  act0 : SteerAction
  act1 : SteerAction
  act2 : SteerAction
  act3 : SteerAction
  outA : SteerOut
  payA : BitVec 1
  outB : SteerOut
  payB : BitVec 1
  tag : Byte
  const : Word
  deriving DecidableEq, Repr

/-- What the ECC of the instruction store finds at a fetch (R124). -/
inductive FetchEcc where
  | clean | corrected | uncorrectable
  deriving DecidableEq, Repr

/-- What an access finds uncorrectable in a site's storage, which then holds poison (Table 13.1): a scratchpad word, half
of an ACC row, a quarter of a vector register, a hopper's unit, a weight buffer, the array weight register (R104). -/
inductive Upset where
  | scratch (word : Nat)
  | acc (row : Nat) (high : Bool)
  | quarter (r q : Nat)
  | hopper (h message unit : Nat)
  | weights (wb : Nat)
  | array
  deriving DecidableEq, Repr

/-- The physical happenings in the cycle of a bundle's issue, which the model takes as inputs: the fetch's ECC
(R124), a lockstep mismatch (R89) and whether it is one of router control (Table 13.1), a failed residue check with its unit (0 matrix, 1 vector) and column or lane
(R104, R170), scratchpad words corrected (R96) and what was found uncorrectable (Table 13.1). -/
structure Checks where
  ecc : FetchEcc
  lockstep : Bool
  router : Bool
  residue : Option (Nat × Nat)
  corrected : Nat
  upsets : List Upset
  deriving DecidableEq, Repr

/-- A cycle without any physical happening. -/
def Checks.clean : Checks := { ecc := .clean, lockstep := false, router := false, residue := none, corrected := 0, upsets := [] }

/-! ### What a plan image declares (ch. 02). TILE_PROGRAMS, ROUTES, BANK_MAP, STEERING and STAGE_TABLE have no byte
layout in the spec; their content is an operand of PLAN_LOAD. -/

/-- The state classes of Table 2.3. -/
inductive StateClass where
  | immutable | append | parity | turnLocal | batchDesc | stream
  deriving DecidableEq, Repr

/-- A slot image: bundles, ownership map, and steering table (R91, R92). -/
structure SlotImage where
  bundles : List (Nat × BitVec 256)
  own : DWord
  steer : List (Nat × BitVec 128)
  deriving DecidableEq, Repr

/-- A pond of a hopper (R228). -/
structure PondDecl where
  hop : Nat
  base : Nat
  units : Nat
  deriving DecidableEq, Repr

/-- The ENTRY slot and bundle of a gearing in which a tile is active (R125, R260). -/
structure EntryPoint where
  gearing : Nat
  slot : Nat
  bundle : Nat
  deriving DecidableEq, Repr

/-- A multicast group of a tile in the ROUTES of one gearing (R139, R260). -/
structure GroupDecl where
  gearing : Nat
  no : Nat
  members : List Nat
  deriving DecidableEq, Repr

/-- What TILE_PROGRAMS, ROUTES and BANK_MAP give one logical tile: slot images, initial scratchpad images (descriptor
table, fold images, IMMUTABLE regions), fold images by base and length, the descriptor table's address, ponds, entry
points, multicast groups. `tile` is the global logical tile in the plan (R48). -/
structure PlanTile where
  tile : Nat
  slots : List (Nat × SlotImage)
  image : List (Nat × List Byte)
  folds : List (Nat × Nat)
  descBase : Nat
  ponds : List PondDecl
  entries : List EntryPoint
  groups : List GroupDecl
  deriving DecidableEq, Repr

/-- The role a region plays beside its class (R324, R403). -/
inductive RegionUse where
  | plain | kv | batchDesc | batchOut | twinOut
  deriving DecidableEq, Repr

/-- A region of BANK_MAP: of one tile's scratchpad, or of DDR in every bound quadrant (R64, R342). -/
structure Region where
  tile : Option Nat
  base : Nat
  bytes : Nat
  cls : Option StateClass
  use : RegionUse
  pair : Option Nat
  deriving DecidableEq, Repr

/-- A sluice declaration (R237). `sources` has bit 0 same quadrant, bit 1 other quadrants, bit 2 another device, whose source
stage `stageRef` names. -/
structure SluiceDecl where
  planQuad : Nat
  no : Nat
  owner : Nat
  base : Nat
  bytes : Nat
  sources : Nat
  stageRef : Nat
  cls : StateClass
  deriving DecidableEq, Repr

/-- A batch declaration (Table 11.2). -/
structure BatchDecl where
  rx : List Nat
  inputSpan : Nat
  outTile : Nat
  outOffset : Nat
  returnTurns : Nat
  kvRegion : Nat
  kvPosBytes : Nat
  kvBytes : Nat
  deriving DecidableEq, Repr

/-- An inbound crossing record (Table 12.5) in the STAGE_TABLE of one gearing (R260). -/
structure CrossingDecl where
  gearing : Nat
  sluice : Nat
  planQuad : Nat
  packets : Nat
  dueEvery : Nat
  duePhase : Nat
  deriving DecidableEq, Repr

/-- A pair of the pair map of one gearing (R403): the primary tile and its twin. -/
structure PairDecl where
  gearing : Nat
  primary : Nat
  twin : Nat
  deriving DecidableEq, Repr

/-- The content of a plan's sections. `links` and `tileRates` are the declared volumes (bytes per 48 cycles of the
busiest links, units per 48 cycles into the busiest tiles, R53), `shapes` the digest of each gearing's tile programs
(R70), `stageSum` Σ s_d,g + Σ x_c per gearing (Table 2.10), `workTargets` the classes of the windows that work-window
releases target (R62), `pairs` the pair map (R403). -/
structure PlanBody where
  tiles : List PlanTile
  regions : List Region
  sluices : List SluiceDecl
  batches : List BatchDecl
  crossings : List CrossingDecl
  links : List Nat
  tileRates : List Nat
  shapes : List (List Byte)
  stageSum : List Nat
  workTargets : List StateClass
  pairs : List PairDecl
  deriving DecidableEq, Repr

/-! ### What arrives from outside -/

/-- A turn mark (R25, R370), which carries TURN_NO[15:0] only: `aligned` says whether its boundaries coincide with the
device's own within the compensation tolerance (R31, R32), `offset` is the device's offset from it in ns (Table 1.11). -/
structure Mark where
  turnLow : Nat
  geometry : BitVec 32
  priority : Nat
  pos : Nat
  hops : Nat
  offset : BitVec 16
  aligned : Bool
  deriving DecidableEq, Repr

/-- A headrace record's header (Table 10.4) with its function and ring; `rsvd` says that a reserved field of the
record is nonzero, `readOk` that its read completed. -/
structure CmdHead where
  fn : Nat
  ring : Nat
  units : Nat
  tag : Nat
  deadline : Nat
  ctx : Nat
  rsvd : Bool
  readOk : Bool
  deriving DecidableEq, Repr

/-- A ring's indices in the ring pointer block (Table 10.3). -/
structure PtrIndex where
  ring : Nat
  hrProd : Nat
  trCons : Nat
  deriving DecidableEq, Repr

/-- The packet kinds of Table 12.3. -/
inductive PacketKind where
  | write | answer | control | mgmt
  deriving DecidableEq, Repr

/-- An Avdin packet (Table 12.3): the tail's fields; `data` the data flits' words of 64 bytes; `poison` the numbers of
poisoned words; `counts` admitted, WINDOW_CLOSED, BANK_OFF, RESETTING, violation; `crcOk` whether its CRC passes;
`delayNs` and `fullTurn` what a MGMT packet carries (R25, R370). -/
structure Packet where
  kind : PacketKind
  vc : Nat
  seq : Nat
  ack : Nat
  retryReq : Bool
  ackValid : Bool
  credits : List Nat
  dest : Nat
  src : Nat
  cls : Bool
  detoured : Bool
  pipeline : Nat
  sluice : Nat
  hops : Nat
  destTile : Nat
  srcTile : Nat
  offset : Nat
  words : List (List Byte)
  nwords : Nat
  inst : Nat
  pktNo : Nat
  srcCtx : Nat
  srcQuad : Nat
  gens : Nat × Nat × Nat
  status : Nat
  desc : Nat
  tag : Nat
  counts : List Nat
  poison : List Nat
  crcOk : Bool
  delayNs : Option Nat
  fullTurn : Option Nat
  deriving DecidableEq, Repr

/-- A port entry of a fabric manifest (Table 12.6): role code, peer port, required flag, peer position. -/
structure PortEntry where
  role : Nat
  peerPort : Nat
  required : Bool
  peerPos : Nat
  deriving DecidableEq, Repr

/-- A detour entry (R365). -/
structure Detour where
  matchPos : Nat
  mask : Nat
  deadRole : Nat
  newPort : Nat
  deriving DecidableEq, Repr

/-- A fabric manifest (Table 12.6); `crcOk` and `layoutOk` say whether its CRC and MAGIC are right and whether it keeps
the rest of the layout. -/
structure FabricManifest where
  crcOk : Bool
  layoutOk : Bool
  seq : Nat
  position : Nat
  spare : Bool
  applyTurn : Nat
  dx : Nat
  dy : Nat
  dz : Nat
  priority : Nat
  allowMissing : Nat
  groupId : Nat
  ports : List PortEntry
  detours : List Detour
  deriving DecidableEq, Repr

/-- A memory module as the hardware finds it (Table 11.6): its capacity code (1 64 GiB to 4 512 GiB), the highest data
rate it supports (code of DDR_STATUS.RATE), and whether it is a supported type. -/
structure MemModule where
  cap : Nat
  rate : Nat
  supported : Bool
  deriving DecidableEq, Repr

/-- An audit's outcome at the close (R402); `check` is a hardware check on the auditor (R409), by its cause code. -/
inductive AuditEnd where
  | equal | incomplete | poisoned
  | differ (target auditor : DWord)
  | check (cause : Nat)
  deriving DecidableEq, Repr

/-- The audit of a logical tile by an auditor site. -/
structure AuditFact where
  tile : Nat
  auditor : Nat
  result : AuditEnd
  deriving DecidableEq, Repr

/-- A pair comparison (R404): the primary tile of a context, and its digests where they differ. -/
structure PairFact where
  ctx : Nat
  primary : Nat
  poisoned : Bool
  differ : Option (DWord × DWord)
  deriving DecidableEq, Repr

/-- A wrong answer of a dressing item (R411, R417): the site, the item's order in Table 14.1 (0 a checker that did not
fire), its index in the structure (the instance for items 4 and 7), whether the repeat gave the same wrong answer, and whether a
scratchpad word was read uncorrectable (R412). -/
structure DressFact where
  site : Nat
  item : Nat
  index : Nat
  again : Bool
  unread : Bool
  deriving DecidableEq, Repr

/-- How steps 10 and 11 of a start end (R462, R470, R491): after some milliseconds of fusing, or because PWR_EN falls: with some bits
of the security version blown, while the entry after the first `n` defect entries is programmed, or during the flash write. -/
inductive FuseEnd where
  | done (ms : Nat)
  | cutVersion (bits : Nat)
  | cutEntry (n : Nat)
  | cutFlash
  deriving DecidableEq, Repr

/-- How a March pass ends (R416, R417): `failed` with whether its repeat gave the same wrong answer. -/
inductive MarchEnd where
  | clean
  | failed (again : Bool)
  deriving DecidableEq, Repr

/-- A broadcast activation (R452): the quadrant, and the sites that miss it. -/
structure Activation where
  quad : Nat
  missed : List Nat
  deriving DecidableEq, Repr

/-- What the check summaries and the dressing windows bring to a close (R393, R402, R404, R417): audits, pair
comparisons, dressing findings, words that read-checks corrected per quadrant, and the poisoned positions the
controller meets in BATCH_OUT as it reads it. -/
structure CloseFacts where
  audits : List AuditFact
  pairs : List PairFact
  dress : List DressFact
  corrected : List (Nat × Nat)
  deriving DecidableEq, Repr

/-- A close without findings. -/
def CloseFacts.clean : CloseFacts := { audits := [], pairs := [], dress := [], corrected := [] }

/-- How a training of an Avdin port ends (R389): UP with the peer's position and port, or failed. -/
inductive TrainEnd where
  | up (peerPos peerPort : Nat)
  | failed
  deriving DecidableEq, Repr

/-- What the devices of a channel deliver wrong in the burst of one access (R343): device Dd and the error in its 64 bits, beat
`b` in bits [4b + 3:4b]. -/
structure EccFind where
  errors : List (Nat × BitVec 64)
  deriving DecidableEq, Repr

/-- An access in which every device delivers what it stores. -/
def EccFind.clean : EccFind := { errors := [] }

/-- A start's finding about a defect (R427, R428): its quadrant is the site's. -/
structure DefectFact where
  kind : Nat
  site : Nat
  structure_ : Nat
  index : Nat
  deriving DecidableEq, Repr

/-- The SPDM transports (R483). -/
inductive Transport where
  | doe | mctp
  deriving DecidableEq, Repr

/-- An unlock record (R486): `sigOk` stands in its signature bytes. -/
structure UnlockRecord where
  serial : DWord
  nonce : List Byte
  action : Nat
  reserved : List Byte
  sig : List Byte
  deriving DecidableEq, Repr

/-! ### The commands of the block: one constructor per row of the command table -/

/-- A command: an event or a request that changes the state of the module. The commands that name a site and a format
are the operations of a bundle's slots; `k` holds the physical happenings of their cycle. -/
inductive Instr where
  /-- TURN_BOUNDARY (R21). -/
  | turnBoundary (energy vin : Nat)
  /-- WORK_WINDOW_START (R125). -/
  | workWindowStart
  /-- DRESSING_WINDOW_START (R90). -/
  | dressingWindowStart
  /-- CLOSE_WINDOW_START (R393). -/
  | closeWindowStart (facts : CloseFacts)
  /-- DMA_TOKEN_CLOSE_DEADLINE (R378). -/
  | dmaTokenCloseDeadline (site : Nat) (xfer : Nat)
  /-- TURN_STEP (R32). -/
  | turnStep (energy vin : Nat)
  /-- HOLDOVER_ENTER (R31). -/
  | holdoverEnter
  /-- MASTER_KEY_DISCARD (R31). -/
  | masterKeyDiscard
  /-- TURN_MARK_RECEIVE (R29). -/
  | turnMarkReceive (port : Nat) (m : Mark)
  /-- CHANGE_SET_STAGED (R39). -/
  | changeSetStaged (key : Nat)
  /-- CHANGE_SET_APPLY (R41). -/
  | changeSetApply (key : Nat)
  /-- CHANGE_SET_EXPIRE (R38). -/
  | changeSetExpire (key : Nat)
  /-- GOVERNOR_STAGE (R259). -/
  | governorStage (ctx : Nat)
  /-- BANK_DRAIN_DONE (R268). -/
  | bankDrainDone (site : Nat) (bank : Nat)
  /-- BANK_DRAIN_TIMEOUT (R268). -/
  | bankDrainTimeout (site : Nat) (bank : Nat)
  /-- BUNDLE_FETCH (R124). -/
  | bundleFetch (site : Nat) (k : Checks)
  /-- NOP (R118). -/
  | nop (site : Nat) (slot : SlotName) (k : Checks)
  /-- ADD (R126). -/
  | sAdd (site : Nat) (f : FmtSR) (k : Checks)
  /-- SUB (R126). -/
  | sSub (site : Nat) (f : FmtSR) (k : Checks)
  /-- MUL (R126). -/
  | sMul (site : Nat) (f : FmtSR) (k : Checks)
  /-- MULHU (R126). -/
  | sMulhu (site : Nat) (f : FmtSR) (k : Checks)
  /-- AND (R126). -/
  | sAnd (site : Nat) (f : FmtSR) (k : Checks)
  /-- OR (R126). -/
  | sOr (site : Nat) (f : FmtSR) (k : Checks)
  /-- XOR (R126). -/
  | sXor (site : Nat) (f : FmtSR) (k : Checks)
  /-- SHL (R126). -/
  | sShl (site : Nat) (f : FmtSR) (k : Checks)
  /-- SHR (R126). -/
  | sShr (site : Nat) (f : FmtSR) (k : Checks)
  /-- SRA (R126). -/
  | sSra (site : Nat) (f : FmtSR) (k : Checks)
  /-- MIN (R126). -/
  | sMin (site : Nat) (f : FmtSR) (k : Checks)
  /-- MAX (R126). -/
  | sMax (site : Nat) (f : FmtSR) (k : Checks)
  /-- MINU (R126). -/
  | sMinu (site : Nat) (f : FmtSR) (k : Checks)
  /-- MAXU (R126). -/
  | sMaxu (site : Nat) (f : FmtSR) (k : Checks)
  /-- ADDI (R126). -/
  | sAddi (site : Nat) (f : FmtSI) (k : Checks)
  /-- MULI (R126). -/
  | sMuli (site : Nat) (f : FmtSI) (k : Checks)
  /-- ANDI (R126). -/
  | sAndi (site : Nat) (f : FmtSI) (k : Checks)
  /-- ORI (R126). -/
  | sOri (site : Nat) (f : FmtSI) (k : Checks)
  /-- XORI (R126). -/
  | sXori (site : Nat) (f : FmtSI) (k : Checks)
  /-- SHLI (R126). -/
  | sShli (site : Nat) (f : FmtSI) (k : Checks)
  /-- SHRI (R126). -/
  | sShri (site : Nat) (f : FmtSI) (k : Checks)
  /-- SRAI (R126). -/
  | sSrai (site : Nat) (f : FmtSI) (k : Checks)
  /-- MOVI (R126). -/
  | sMovi (site : Nat) (g : Guard) (sd : BitVec 5) (imm : Word) (k : Checks)
  /-- CMP_EQ (R126). -/
  | cmpEq (site : Nat) (f : FmtPC) (k : Checks)
  /-- CMP_NE (R126). -/
  | cmpNe (site : Nat) (f : FmtPC) (k : Checks)
  /-- CMP_LT (R126). -/
  | cmpLt (site : Nat) (f : FmtPC) (k : Checks)
  /-- CMP_LE (R126). -/
  | cmpLe (site : Nat) (f : FmtPC) (k : Checks)
  /-- CMP_LTU (R126). -/
  | cmpLtu (site : Nat) (f : FmtPC) (k : Checks)
  /-- CMP_LEU (R126). -/
  | cmpLeu (site : Nat) (f : FmtPC) (k : Checks)
  /-- CMPI_EQ (R126). -/
  | cmpiEq (site : Nat) (f : FmtPCI) (k : Checks)
  /-- CMPI_NE (R126). -/
  | cmpiNe (site : Nat) (f : FmtPCI) (k : Checks)
  /-- CMPI_LT (R126). -/
  | cmpiLt (site : Nat) (f : FmtPCI) (k : Checks)
  /-- CMPI_LE (R126). -/
  | cmpiLe (site : Nat) (f : FmtPCI) (k : Checks)
  /-- CMPI_LTU (R126). -/
  | cmpiLtu (site : Nat) (f : FmtPCI) (k : Checks)
  /-- CMPI_LEU (R126). -/
  | cmpiLeu (site : Nat) (f : FmtPCI) (k : Checks)
  /-- PAND (R126). -/
  | pand (site : Nat) (f : FmtPL) (k : Checks)
  /-- POR (R126). -/
  | por (site : Nat) (f : FmtPL) (k : Checks)
  /-- PXOR (R126). -/
  | pxor (site : Nat) (f : FmtPL) (k : Checks)
  /-- MOVK (R126). -/
  | movk (site : Nat) (f : FmtMK) (k : Checks)
  /-- RDID (R126). -/
  | rdid (site : Nat) (g : Guard) (sd : BitVec 5) (k : Checks)
  /-- BR (R127). -/
  | branch (site : Nat) (f : FmtBR) (k : Checks)
  /-- CALL (R127). -/
  | call (site : Nat) (f : FmtBR) (k : Checks)
  /-- JR (R127). -/
  | jr (site : Nat) (f : FmtJR) (k : Checks)
  /-- LOOP (R129). -/
  | loop (site : Nat) (f : FmtLP) (k : Checks)
  /-- LOOPI (R129). -/
  | loopi (site : Nat) (f : FmtLI) (k : Checks)
  /-- SWITCH (R132). -/
  | switchSlot (site : Nat) (f : FmtSW) (k : Checks)
  /-- RELOAD (R133). -/
  | reload (site : Nat) (f : FmtRL) (k : Checks)
  /-- OWNR (R135). -/
  | ownr (site : Nat) (f : FmtOW) (k : Checks)
  /-- IDLE (R137). -/
  | idle (site : Nat) (f : FmtCY) (k : Checks)
  /-- WAITC (R137). -/
  | waitc (site : Nat) (f : FmtCY) (k : Checks)
  /-- WAIT_EXPIRE (R137). -/
  | waitExpire (site : Nat) (k : Checks)
  /-- ENDWORK (R136). -/
  | endwork (site : Nat) (g : Guard) (k : Checks)
  /-- SEND_V (R138). -/
  | sendV (site : Nat) (f : FmtSV) (k : Checks)
  /-- SEND_S (R139). -/
  | sendS (site : Nat) (f : FmtSS) (k : Checks)
  /-- MSEND_V (R139). -/
  | msendV (site : Nat) (f : FmtMV) (k : Checks)
  /-- RECV_V (R141). -/
  | recvV (site : Nat) (f : FmtRV) (k : Checks)
  /-- RECV_S (R141). -/
  | recvS (site : Nat) (f : FmtRV) (k : Checks)
  /-- TPUSH (R142). -/
  | tpush (site : Nat) (f : FmtTP) (k : Checks)
  /-- TPUSHI (R142). -/
  | tpushi (site : Nat) (f : FmtTI) (k : Checks)
  /-- TPOP (R142). -/
  | tpop (site : Nat) (f : FmtTO) (k : Checks)
  /-- DMA (R143). -/
  | dma (site : Nat) (f : FmtDM) (k : Checks)
  /-- DMA_DESCRIPTOR_FETCH (R144). -/
  | dmaDescriptorFetch (site : Nat) (cycle : Nat)
  /-- DMA_TRANSFER_DONE (R112). -/
  | dmaTransferDone (site : Nat) (xfer : Nat) (cycle : Nat) (found : List (Nat × EccFind))
  /-- MLDW (R152). -/
  | mldw (site : Nat) (f : FmtMW) (k : Checks)
  /-- MFEED (R154). -/
  | mfeed (site : Nat) (f : FmtMF) (k : Checks)
  /-- MMUL (R155). -/
  | mmul (site : Nat) (f : FmtMM) (k : Checks)
  /-- FEED_TIMING (R155). -/
  | feedTiming (site : Nat)
  /-- VADD (R160). -/
  | vadd (site : Nat) (f : FmtV3) (k : Checks)
  /-- VSUB (R160). -/
  | vsub (site : Nat) (f : FmtV3) (k : Checks)
  /-- VMUL (R160). -/
  | vmul (site : Nat) (f : FmtV3) (k : Checks)
  /-- VFMA (R160). -/
  | vfma (site : Nat) (f : FmtV3) (k : Checks)
  /-- VFMS (R160). -/
  | vfms (site : Nat) (f : FmtV3) (k : Checks)
  /-- VFNMA (R160). -/
  | vfnma (site : Nat) (f : FmtV3) (k : Checks)
  /-- VMIN (R160). -/
  | vmin (site : Nat) (f : FmtV3) (k : Checks)
  /-- VMAX (R160). -/
  | vmax (site : Nat) (f : FmtV3) (k : Checks)
  /-- VABS (R160). -/
  | vabs (site : Nat) (f : FmtV3) (k : Checks)
  /-- VNEG (R160). -/
  | vneg (site : Nat) (f : FmtV3) (k : Checks)
  /-- VMOV (R160). -/
  | vmov (site : Nat) (f : FmtV3) (k : Checks)
  /-- VRCP (R161). -/
  | vrcp (site : Nat) (f : FmtV3) (k : Checks)
  /-- VRSQRT (R161). -/
  | vrsqrt (site : Nat) (f : FmtV3) (k : Checks)
  /-- VSQRT (R161). -/
  | vsqrt (site : Nat) (f : FmtV3) (k : Checks)
  /-- VEXP2 (R161). -/
  | vexp2 (site : Nat) (f : FmtV3) (k : Checks)
  /-- VLOG2 (R161). -/
  | vlog2 (site : Nat) (f : FmtV3) (k : Checks)
  /-- VADDI (R160). -/
  | vaddi (site : Nat) (f : FmtVI) (k : Checks)
  /-- VMULI (R160). -/
  | vmuli (site : Nat) (f : FmtVI) (k : Checks)
  /-- VMOVI (R160). -/
  | vmovi (site : Nat) (f : FmtVI) (k : Checks)
  /-- VRDA (R159). -/
  | vrda (site : Nat) (f : FmtVA) (k : Checks)
  /-- VADD_A (R159). -/
  | vaddA (site : Nat) (f : FmtVA) (k : Checks)
  /-- VMUL_A (R159). -/
  | vmulA (site : Nat) (f : FmtVA) (k : Checks)
  /-- VFMA_A (R159). -/
  | vfmaA (site : Nat) (f : FmtVA) (k : Checks)
  /-- VIADD (R159). -/
  | viadd (site : Nat) (f : FmtV3) (k : Checks)
  /-- VISUB (R159). -/
  | visub (site : Nat) (f : FmtV3) (k : Checks)
  /-- VIMUL (R159). -/
  | vimul (site : Nat) (f : FmtV3) (k : Checks)
  /-- VAND (R159). -/
  | vand (site : Nat) (f : FmtV3) (k : Checks)
  /-- VOR (R159). -/
  | vor (site : Nat) (f : FmtV3) (k : Checks)
  /-- VXOR (R159). -/
  | vxor (site : Nat) (f : FmtV3) (k : Checks)
  /-- VSHL (R159). -/
  | vshl (site : Nat) (f : FmtV3) (k : Checks)
  /-- VSHR (R159). -/
  | vshr (site : Nat) (f : FmtV3) (k : Checks)
  /-- VSRA (R159). -/
  | vsra (site : Nat) (f : FmtV3) (k : Checks)
  /-- VIMIN (R159). -/
  | vimin (site : Nat) (f : FmtV3) (k : Checks)
  /-- VIMAX (R159). -/
  | vimax (site : Nat) (f : FmtV3) (k : Checks)
  /-- VCVT_F2I (R162). -/
  | vcvtF2i (site : Nat) (f : FmtV3) (k : Checks)
  /-- VCVT_I2F (R162). -/
  | vcvtI2f (site : Nat) (f : FmtV3) (k : Checks)
  /-- VUNPK (R162). -/
  | vunpk (site : Nat) (f : FmtVU) (k : Checks)
  /-- OCVT (R166). -/
  | ocvt (site : Nat) (f : FmtOC) (k : Checks)
  /-- VCMP_EQ (R163). -/
  | vcmpEq (site : Nat) (f : FmtVC) (k : Checks)
  /-- VCMP_LT (R163). -/
  | vcmpLt (site : Nat) (f : FmtVC) (k : Checks)
  /-- VCMP_LE (R163). -/
  | vcmpLe (site : Nat) (f : FmtVC) (k : Checks)
  /-- VCMP_UN (R163). -/
  | vcmpUn (site : Nat) (f : FmtVC) (k : Checks)
  /-- VICMP_EQ (R163). -/
  | vicmpEq (site : Nat) (f : FmtVC) (k : Checks)
  /-- VICMP_LT (R163). -/
  | vicmpLt (site : Nat) (f : FmtVC) (k : Checks)
  /-- VICMP_LTU (R163). -/
  | vicmpLtu (site : Nat) (f : FmtVC) (k : Checks)
  /-- VMAND (R163). -/
  | vmand (site : Nat) (f : FmtML) (k : Checks)
  /-- VMOR (R163). -/
  | vmor (site : Nat) (f : FmtML) (k : Checks)
  /-- VMXOR (R163). -/
  | vmxor (site : Nat) (f : FmtML) (k : Checks)
  /-- VRSUM (R164). -/
  | vrsum (site : Nat) (f : FmtRD) (k : Checks)
  /-- VRMAX (R164). -/
  | vrmax (site : Nat) (f : FmtRD) (k : Checks)
  /-- VRMIN (R164). -/
  | vrmin (site : Nat) (f : FmtRD) (k : Checks)
  /-- VRARGMAX (R164). -/
  | vrargmax (site : Nat) (f : FmtRD) (k : Checks)
  /-- VLUT (R165). -/
  | vlut (site : Nat) (f : FmtLU) (k : Checks)
  /-- SAMPLE (R167). -/
  | sample (site : Nat) (f : FmtSM) (k : Checks)
  /-- VEXT (R168). -/
  | vext (site : Nat) (f : FmtEX) (k : Checks)
  /-- VFRD (R169). -/
  | vfrd (site : Nat) (f : FmtFL) (k : Checks)
  /-- VFCLR (R169). -/
  | vfclr (site : Nat) (m : VMask) (sel : BitVec 1) (k : Checks)
  /-- VLDQ (R171). -/
  | vldq (site : Nat) (f : FmtLQ) (k : Checks)
  /-- VLDQ_P (R171). -/
  | vldqP (site : Nat) (f : FmtLPI) (k : Checks)
  /-- VSTQ (R172). -/
  | vstq (site : Nat) (f : FmtLQ) (k : Checks)
  /-- VSTQ_P (R172). -/
  | vstqP (site : Nat) (f : FmtLPI) (k : Checks)
  /-- VLDB (R171). -/
  | vldb (site : Nat) (f : FmtLQ) (k : Checks)
  /-- VLDB_X (R171). -/
  | vldbX (site : Nat) (f : FmtLQ) (k : Checks)
  /-- VLDH (R171). -/
  | vldh (site : Nat) (f : FmtLQ) (k : Checks)
  /-- SLD (R173). -/
  | sld (site : Nat) (f : FmtLS) (k : Checks)
  /-- SST (R172). -/
  | sst (site : Nat) (f : FmtLS) (k : Checks)
  /-- STEERING_CYCLE (R209). -/
  | steeringCycle (site : Nat) (cycle : Nat) (bad : Option Nat)
  /-- MESSAGE_RELEASE (R225). -/
  | messageRelease (site : Nat) (hop late : Nat)
  /-- POND_SPILL (R230). -/
  | pondSpill (site : Nat) (hop cycle : Nat)
  /-- POND_REFILL (R232). -/
  | pondRefill (site : Nat) (hop cycle : Nat) (bad : Option Nat)
  /-- POND_REFILL_DONE (R232). -/
  | pondRefillDone (site : Nat) (hop cycle : Nat)
  /-- SLUICE_WRITE_ARRIVAL (R241). -/
  | sluiceWriteArrival (site : Nat) (xfer cycle : Nat) (bad : Option Nat)
  /-- SLUICE_WRITE_LAND (R242). -/
  | sluiceWriteLand (site : Nat) (bank cycle : Nat)
  /-- SLUICE_ANSWER_ARRIVAL (R243). -/
  | sluiceAnswerArrival (site : Nat) (xfer cycle : Nat)
  /-- BATCH_FILL (R329). -/
  | batchFill (ctx : Nat)
  /-- BATCH_HEADER_WRITE (R329). -/
  | batchHeaderWrite (ctx : Nat)
  /-- INPUT_WINDOW_READ_DONE (R329). -/
  | inputWindowReadDone (stream : Nat) (found : EccFind)
  /-- STREAM_ENTRY_FETCH_DONE (R322). -/
  | streamEntryFetchDone (stream : Nat) (found : EccFind)
  /-- POINTER_BLOCK_ARRIVAL (R286). -/
  | pointerBlockArrival (fn : Nat) (ok : Bool) (idx : List PtrIndex)
  /-- HEADRACE_SKIP (R287). -/
  | headraceSkip (h : CmdHead) (span : Nat)
  /-- UNKNOWN_COMMAND (R296). -/
  | unknownCommand (h : CmdHead) (opc : Nat)
  /-- PLAN_LOAD (R302). -/
  | planLoad (h : CmdHead) (image home quads pipeline prevPos : Nat) (body : PlanBody)
  /-- PLAN_LOAD_DONE (R76). -/
  | planLoadDone (ctx : Nat)
  /-- PLAN_UNLOAD (R297). -/
  | planUnload (h : CmdHead)
  /-- PLAN_UNLOAD_DONE (R303). -/
  | planUnloadDone (ctx : Nat)
  /-- CTX_ASSIGN (R283). -/
  | ctxAssign (h : CmdHead) (function : Nat)
  /-- CFG_STAGE_REMAP (R39). -/
  | cfgStageRemap (h : CmdHead) (id : Nat) (tiles : List Nat)
  /-- CFG_STAGE_REEF_RANGE (R263). -/
  | cfgStageReefRange (h : CmdHead) (id lo hi : Nat)
  /-- CFG_STAGE_VOUCH (R302). -/
  | cfgStageVouch (h : CmdHead) (id mode : Nat)
  /-- CFG_STAGE_AUDIT (R400). -/
  | cfgStageAudit (h : CmdHead) (id quad reserve : Nat)
  /-- CFG_STAGE_GEOMETRY (R43). -/
  | cfgStageGeometry (h : CmdHead) (id m d c : Nat)
  /-- CFG_COMMIT (R40). -/
  | cfgCommit (h : CmdHead) (id turn : Nat)
  /-- WEIGHT_DIGEST (R396). -/
  | weightDigest (h : CmdHead) (region : Nat)
  /-- DIGEST_PASS_START (R396). -/
  | digestPassStart
  /-- DIGEST_REGION_DONE (R396). -/
  | digestRegionDone (ctx quad region : Nat)
  /-- CTX_ABORT (R303). -/
  | ctxAbort (h : CmdHead)
  /-- CTX_ABORT_DONE (R442). -/
  | ctxAbortDone (ctx : Nat)
  /-- CTX_QUERY (R301). -/
  | ctxQuery (h : CmdHead)
  /-- CTX_START (R303). -/
  | ctxStart (h : CmdHead)
  /-- CTX_PAUSE (R303). -/
  | ctxPause (h : CmdHead)
  /-- CTX_RESUME (R303). -/
  | ctxResume (h : CmdHead)
  /-- CTX_DRAIN (R304). -/
  | ctxDrain (h : CmdHead) (flags : Nat)
  /-- STREAM_OPEN (R319). -/
  | streamOpen (h : CmdHead) (id adapter priv : Nat) (seed : DWord) (kvBase kvLimit : Nat)
  /-- STREAM_STEP (R305). -/
  | streamStep (h : CmdHead) (id gen flags inputCount newTokens : Nat) (stop : Word) (inputAddr : Nat) (inputs : List Word)
  /-- STREAM_CANCEL (R306). -/
  | streamCancel (h : CmdHead) (id gen : Nat)
  /-- STREAM_TRUNCATE (R335). -/
  | streamTruncate (h : CmdHead) (id gen position : Nat)
  /-- STREAM_EVICT (R336). -/
  | streamEvict (h : CmdHead) (id gen : Nat)
  /-- STREAM_EVICT_DONE (R336). -/
  | streamEvictDone (stream : Nat)
  /-- STREAM_RESTORE (R337). -/
  | streamRestore (h : CmdHead) (id gen : Nat)
  /-- STREAM_RESTORE_DONE (R337). -/
  | streamRestoreDone (stream : Nat) (found : EccFind)
  /-- STREAM_CLOSE (R318). -/
  | streamClose (h : CmdHead) (id gen : Nat)
  /-- STREAM_QUERY (R301). -/
  | streamQuery (h : CmdHead) (id : Nat)
  /-- RING_ENABLE (R284). -/
  | ringEnable (fn ring : Nat) (cfg : Word)
  /-- RING_DISABLE (R284). -/
  | ringDisable (fn ring : Nat) (cfg : Word)
  /-- HOST_ALLOWANCE_WRITE (R251). -/
  | hostAllowanceWrite (value : Word)
  /-- RESET_REQ_QUAD_FAST (R444). -/
  | resetReqQuadFast (key quads : Nat)
  /-- RESET_REQ_QUAD_FULL (R444). -/
  | resetReqQuadFull (key quads : Nat)
  /-- RESET_REQ_CHIP (R313). -/
  | resetReqChip (key : Nat)
  /-- FW_STAGE (R482). -/
  | fwStage (key : Nat)
  /-- OWNER_SET (R485). -/
  | ownerSet (key : Nat)
  /-- FW_UPDATE_DONE (R482). -/
  | fwUpdateDone (readBackOk : Bool)
  /-- REGISTER_WRITE (R282). -/
  | registerWrite (fn offset size : Nat) (value : DWord)
  /-- BAR2_READ (R280). -/
  | bar2Read (offset bytes : Nat) (found : List (Nat × EccFind))
  /-- BAR2_WRITE (R280). -/
  | bar2Write (offset : Nat) (data : List Byte) (poison : Bool) (found : List (Nat × EccFind))
  /-- PF_FLR (R313). -/
  | pfFlr
  /-- VF_FLR (R313). -/
  | vfFlr (quad : Nat)
  /-- HOT_RESET (R313). -/
  | hotReset
  /-- PCIE_LINK_DOWN (R313). -/
  | pcieLinkDown
  /-- D3HOT_TO_D0 (R313). -/
  | d3hotToD0 (fn : Nat)
  /-- PERST_N_RISE (R458). -/
  | perstNRise
  /-- PERST_N_FALL (R514). -/
  | perstNFall
  /-- PWR_EN_RISE (R498). -/
  | pwrEnRise (lowMs : Nat)
  /-- POWER_UP_COMPLETE (R498). -/
  | powerUpComplete
  /-- POWER_SEQ_TIMEOUT (R499). -/
  | powerSeqTimeout
  /-- PWR_EN_FALL (R500). -/
  | pwrEnFall
  /-- THERMTRIP (R272). -/
  | thermtrip (die : Nat)
  /-- SLOT_ID_CHANGE (R503). -/
  | slotIdChange (value : BitVec 6)
  /-- MEMORY_MODULE_INSERT (R507). -/
  | memoryModuleInsert (channel : Nat) (module : MemModule)
  /-- OSFP_CABLE_INSERT (R506). -/
  | osfpCableInsert (port milliwatts : Nat)
  /-- OSFP_CABLE_REMOVE (R506). -/
  | osfpCableRemove (port : Nat)
  /-- CHIP_CONTROLLER_START (R476). -/
  | chipControllerStart (incomplete : List Nat)
  /-- DDR_TRAINING_DONE (R339). -/
  | ddrTrainingDone (failed : List Nat) (ms : Nat)
  /-- ZEROING_DONE (R351). -/
  | zeroingDone (ms : Nat)
  /-- FULL_DRESSING_DONE (R428). -/
  | fullDressingDone (found : List DefectFact) (ms : Nat)
  /-- E_FLOOR_MEASURED (R253). -/
  | eFloorMeasured (floor : Nat)
  /-- READINESS_DECISION (R467). -/
  | readinessDecision (totalMs : Nat) (fuse : FuseEnd)
  /-- TEMP_SAMPLE (R271). -/
  | tempSample (temps : List Nat)
  /-- BRAKE_PTR_POLL (R311). -/
  | brakePtrPoll (fn : Nat) (ok : Bool) (idx : List PtrIndex)
  /-- BRAKE_RECORD_TIMEOUT (R311). -/
  | brakeRecordTimeout
  /-- TRAY_ALLOWANCE_SET (R251). -/
  | trayAllowanceSet (watts : Nat)
  /-- PLDM_OWNER_KEY (R485). -/
  | pldmOwnerKey (digest : List Byte)
  /-- PLDM_FW_UPDATE (R482). -/
  | pldmFwUpdate (image : List Byte)
  /-- ROM_RECOVERY_UPDATE (R481). -/
  | romRecoveryUpdate (image : List Byte)
  /-- FABRIC_MANIFEST_RECEIVE (R386). -/
  | fabricManifestReceive (m : FabricManifest)
  /-- MANIFEST_APPLY (R387). -/
  | manifestApply
  /-- RETURN_NONCE (R487). -/
  | returnNonce
  /-- RETURN_NONCE_EXPIRE (R487). -/
  | returnNonceExpire
  /-- RETURN_UNLOCK (R488). -/
  | returnUnlock (record : UnlockRecord)
  /-- GET_VERSION (R483). -/
  | getVersion (t : Transport)
  /-- GET_CAPABILITIES (R483). -/
  | getCapabilities (t : Transport)
  /-- NEGOTIATE_ALGORITHMS (R483). -/
  | negotiateAlgorithms (t : Transport) (mldsa87 sha3 : Bool)
  /-- GET_DIGESTS (R483). -/
  | getDigests (t : Transport)
  /-- GET_CERTIFICATE (R483). -/
  | getCertificate (t : Transport) (slot offset length : Nat)
  /-- CHALLENGE (R483). -/
  | challenge (t : Transport) (slot : Nat) (nonce : List Byte)
  /-- GET_MEASUREMENTS (R483). -/
  | getMeasurements (t : Transport) (index : Nat) (signed : Bool) (nonce : List Byte)
  /-- DOE_ABORT (R484). -/
  | doeAbort
  /-- TRNG_HEALTH_FAIL (R478). -/
  | trngHealthFail
  /-- AVDIN_WRITE_PACKET (R368). -/
  | avdinWritePacket (port : Nat) (p : Packet)
  /-- AVDIN_ANSWER_PACKET (R381). -/
  | avdinAnswerPacket (port : Nat) (p : Packet)
  /-- AVDIN_CONTROL_PACKET (R359). -/
  | avdinControlPacket (port : Nat) (p : Packet)
  /-- AVDIN_MGMT_PACKET (R370). -/
  | avdinMgmtPacket (port : Nat) (p : Packet)
  /-- BRAKE_FLIT_RECEIVE (R369). -/
  | brakeFlitReceive (port : Nat)
  /-- LINK_RETRY_TIMEOUT (R359). -/
  | linkRetryTimeout (port : Nat)
  /-- CODEWORD_LOCK_LOSS (R389). -/
  | codewordLockLoss (port : Nat)
  /-- LINK_TRAINING_DONE (R389). -/
  | linkTrainingDone (port : Nat) (result : TrainEnd)
  /-- PORT_RETRY_TIMER (R389). -/
  | portRetryTimer (port : Nat)
  /-- BER_WINDOW_END (R388). -/
  | berWindowEnd (port : Nat) (corrBits uncorrected : Nat)
  /-- SCRUB_READ (R350). -/
  | scrubRead (channel : Nat) (found : EccFind)
  /-- MODULE_TEMP_READ (R510). -/
  | moduleTempRead (channel temp : Nat)
  /-- DEADLINE_PASSED (R434). -/
  | deadlinePassed (fn ring tag : Nat)
  /-- SNAPSHOT_SITE_CAPTURE (R438). -/
  | snapshotSiteCapture (quad : Nat)
  /-- ENGINE_RESET_DONE (R440). -/
  | engineResetDone (quad engine : Nat)
  /-- REPLAY_END (R440). -/
  | replayEnd (quad : Nat)
  /-- LATE_RESUME (R437). -/
  | lateResume (ctx : Nat)
  /-- HW_CHECK_WATCH_END (R397). -/
  | hwCheckWatchEnd (site : Nat)
  /-- DRESS_WATCH_END (R417). -/
  | dressWatchEnd (site : Nat) (item : Nat)
  /-- DIAGNOSIS_END (R398). -/
  | diagnosisEnd (ctx : Nat)
  /-- REPLACEMENT_COPY_DONE (R423). -/
  | replacementCopyDone (quad tile : Nat) (poisoned : List Nat)
  /-- QUAD_RESET_DONE (R446). -/
  | quadResetDone (quad : Nat) (failed : List Nat) (found : List DefectFact)
  /-- RESET_ESCALATE (R443). -/
  | resetEscalate (level quad : Nat)
  /-- QC_HEARTBEAT_MISS (R448). -/
  | qcHeartbeatMiss (quad : Nat)
  /-- HUB_WATCHDOG_EXPIRE (R448). -/
  | hubWatchdogExpire
  /-- CYCLE_REQ_TIMEOUT (R448). -/
  | cycleReqTimeout
  /-- BROADCAST_RECEIPT (R451). -/
  | broadcastReceipt (quad : Nat) (service : Bool) (incomplete : List Nat)
  /-- BROADCAST_ACTIVATE (R452). -/
  | broadcastActivate (quad : Activation)
  /-- WEAR_DAY_END (R430). -/
  | wearDayEnd
  /-- WEAR_LOG_WRITE (R430). -/
  | wearLogWrite
  /-- D3HOT_ENTRY (R313). -/
  | d3hotEntry (fn : Nat)
  /-- MARCH_PASS_DONE (R416). -/
  | marchPassDone (site : Nat) (ok : MarchEnd)
  /-- HUB_LOCKSTEP (R397). -/
  | hubLockstep
  deriving DecidableEq, Repr

end Sys2Proof
end

