-- ==== Sys2Proof/Machine/State.lean ====
section
/-! DEFINITION. The state of the module as plain data: tile sites, contexts, streams, quadrants, the reef governor, the
host rings, DDR, the Avdin ports, checking, repair, security and the module's pins, with `State.reset`. -/

namespace Sys2Proof.Machine
/-- A turn geometry (R14-R16): `m` in units of 1,024 cycles, `d` and `c` in units of 256 cycles. -/
structure Geometry where
  m : Nat
  d : Nat
  c : Nat
  deriving DecidableEq, Repr

/-- The four windows of a turn (Table 1.1). -/
inductive Window where
  | intake | work | dressing | close
  deriving DecidableEq, Repr

/-- The turn generator and the turn page's registers (ch. 01). `clock` counts the cycles from the generator's start to the
last boundary, so that `clock + cycle` is a time that does not scale with the turn (R12). -/
structure Turn where
  geom : Geometry
  running : Bool
  no : Nat
  window : Window
  cycle : Nat
  clock : Nat
  stepTurn : Bool
  locked : Bool
  isMaster : Bool
  holdover : Bool
  mismatch : Bool
  stepPending : Bool
  masterHops : Nat
  masterPos : Nat
  masterPrio : Nat
  ownPrio : Nat
  offsetNs : BitVec 16
  sinceMark : Nat
  sinceKey : Nat
  /-- the best mark heard, with its arrival port (R29), and the turns since a mark came on that port -/
  best : Option (Nat × Mark)
  bestAge : Nat
  /-- the master's full TURN_NO at its last mark, once a management message has told it (R25) -/
  masterNo : Option Nat
  stepTo : Option Nat
  overrunTurns : Nat
  stepCount : Nat
  applied : Nat
  discarded : Nat
  deriving DecidableEq, Repr

/-! ### A tile site (ch. 03 to 08) -/

/-- One lane of a vector register with its poison bit (R108). -/
structure Lane where
  bits : Word
  poison : Bool
  deriving DecidableEq, Repr

/-- One ACC row: 32 columns, and the poison marks of its two 64-byte words (R105). -/
structure AccRow where
  cols : List Word
  pLo : Bool
  pHi : Bool
  deriving DecidableEq, Repr

/-- A 64-byte unit with its poison mark (R109, R222). -/
structure MsgUnit where
  bytes : List Byte
  poison : Bool
  deriving DecidableEq, Repr

/-- The source of a message (R222): a sending tile, or the receiving tile's own DMA engine. -/
inductive MsgSource where
  | tile (g : Nat)
  | ownDma
  deriving DecidableEq, Repr

/-- A message in a hopper, or waiting for one, with its side information (R222). `visible` is the work cycle from
which RECV and steering intake see it; `pinned` its pinned delivery cycle (R52). -/
structure Message where
  units : List MsgUnit
  tag : Byte
  source : MsgSource
  visible : Nat
  pinned : Nat
  deriving DecidableEq, Repr

/-- An entry of a pond index (R229); `skip` marks a SKIP unit's entry (R231). -/
structure PondEntry where
  pos : Nat
  len : Nat
  tag : Byte
  source : MsgSource
  poison : List Bool
  skip : Bool
  spillEnd : Nat
  deriving DecidableEq, Repr

/-- A refill in progress (R232): its message, the cycles of its first and last read, and the pond positions it reads. -/
structure Refill where
  msg : Message
  start : Nat
  lastRead : Nat
  pos : Nat
  len : Nat
  deriving DecidableEq, Repr

/-- A hopper with its pond (R222-R236). `freed` holds positions freed by RECV or intake in cycle `freedAt`, which
count as occupied in that cycle (R141). `doneAt` is one more than the cycle in which the last refill became visible (R247);
`relAt` one more than the cycle of the last release, `relOrder` its place in the order of R226. -/
structure Hopper where
  msgs : List Message
  freed : Nat
  freedAt : Nat
  pondBase : Nat
  pondUnits : Nat
  index : List PondEntry
  wpos : Nat
  rpos : Nat
  waiting : List Message
  refills : List Refill
  doneAt : Nat
  relAt : Nat
  relOrder : Nat
  failed : Bool
  deriving DecidableEq, Repr

/-- An entry of a token queue, visible from a work cycle (R142, R209). -/
structure Token where
  value : Word
  visible : Nat
  deriving DecidableEq, Repr

/-- An item of a steering skid buffer (R208). -/
inductive Item where
  | unit (u : MsgUnit)
  | word (w : Word)
  deriving DecidableEq, Repr

/-- The two skid buffers of a steering entry (R110). -/
structure Skid where
  data : List Item
  ctrl : List Item
  deriving DecidableEq, Repr

/-- A loop-stack entry {KN, start, end} (R129). -/
structure LoopEntry where
  kn : Nat
  start : Nat
  end_ : Nat
  deriving DecidableEq, Repr

/-- The status of a site's sequencer (R121, R136, R137, R101). -/
inductive SeqStatus where
  /-- no turn's work has started on the site -/
  | off
  | running
  /-- IDLE or WAITC: no bundle before the cycle -/
  | waiting (until_ : Nat)
  /-- ENDWORK issued in the cycle -/
  | ended (at_ : Nat)
  /-- stopped by a fault of its own for the rest of the turn -/
  | stopped (at_ : Nat)
  deriving DecidableEq, Repr

/-- A result in flight: what it writes when it lands (R120). -/
inductive Result where
  | s (r : Nat) (v : Word)
  | p (r : Nat) (v : Bool)
  | k (r : Nat) (v : Word)
  /-- a vector register: per lane the bits to write, which bits are written, and the poison drawn in -/
  | v (r : Nat) (lanes : List (Word × Word × Bool))
  /-- a vector mask: new bits and which bits are written -/
  | vm (r : Nat) (bits : DWord) (which : DWord)
  /-- flags to OR into the lanes, of a result written to `dst` (file and number, as `Result.dest`) -/
  | flags (dst : Nat × Nat) (lanes : List (BitVec 5))
  | clrLanes (which : DWord)
  | clrCols
  deriving DecidableEq, Repr

/-- A result in flight with its landing cycle and its slot's rank in the order of R123 (0 clears, 1 scalar and
control, 2 vector, 3 exchange, 4 load/store). -/
structure Landing where
  at_ : Nat
  rank : Nat
  res : Result
  deriving DecidableEq, Repr

/-- The number formats of Table 5.1. -/
inductive ElemFmt where
  | fp32 | fp16 | bf16 | e4m3 | e5m2 | int8 | mx4
  deriving DecidableEq, Repr

/-- A weight block's content: its format, bytes (scales from byte 512 for MX4), and whether a word was poisoned. -/
structure Block where
  fmt : ElemFmt
  bytes : List Byte
  poison : Bool
  deriving DecidableEq, Repr

/-- A weight buffer (R102): its block if one was loaded in the turn, and the first cycle it is readable. -/
structure WBuf where
  block : Option Block
  readable : Nat
  deriving DecidableEq, Repr

/-- A weight load in progress (R152): accesses made so far and what they read. -/
structure WLoad where
  wb : Nat
  fmt : ElemFmt
  addr : Nat
  done : Nat
  bytes : List Byte
  poison : Bool
  deriving DecidableEq, Repr

/-- One fetched activation group (R154): its bytes and poison; `none` bytes when the fetch clashed. -/
structure Group where
  bytes : List Byte
  poison : Bool
  ok : Bool
  deriving DecidableEq, Repr

/-- The multiply that took an armed stream (R155): issue cycle, first ACC row, accumulate mode, and the block copied
into the array weight register (`none` where the buffer was never loaded in the turn). Rows that enter from cycle `spoilt`
on meet a poisoned array weight register (R104); `noFlags` lists (row, column) whose product failed its residue check, so
that its flags are not used (R197). -/
structure Multiply where
  at_ : Nat
  row0 : Nat
  accumulate : Bool
  block : Option Block
  spoilt : Option Nat
  noFlags : List (Nat × Nat)
  deriving DecidableEq, Repr

/-- An armed activation stream (R154), and its multiply once MMUL took it (R155). -/
structure Feed where
  start : Nat
  fmt : ElemFmt
  rows : Nat
  addr : Nat
  stride : Nat
  groups : List Group
  mmul : Option Multiply
  deriving DecidableEq, Repr

/-- A slot reload in progress (R133). -/
structure Reload where
  slot : Nat
  bank : Nat
  trailer : Nat
  start : Nat
  done : Nat
  deriving DecidableEq, Repr

/-- A configuration slot (R91). `undef` marks content left undefined by a reload that failed in that epoch and cycle (R133);
`readyAt` is the cycle from which it can be switched to (R132). -/
structure CfgSlot where
  bundles : List (Nat × BitVec 256)
  own : DWord
  steer : List (Nat × BitVec 128)
  undef : Option (Nat × Nat)
  readyAt : Nat
  deriving DecidableEq, Repr

/-- The causes of fault records (Table 13.2). -/
inductive Cause where
  | turnOverrun | pondFull | skewOverflow | bankClash | poison | lockstep | residue | eccUe
  | auditMismatch | pairMismatch | digestMismatch | sluiceViolation | thermal | watchdog
  deriving DecidableEq, Repr

/-- A fault that a site raised in the turn (R101, R406): `data` is CAUSE_DATA (Table 13.4), `service` whether it was
raised in service mode (R90). -/
structure SiteFault where
  cause : Cause
  detail : Nat
  cycle : Nat
  pc : Nat
  slot : Nat
  data : List Byte
  service : Bool
  deriving DecidableEq, Repr

/-- The roles of Table 3.1. -/
inductive Role where
  | live | spare | auditor | fenced
  deriving DecidableEq, Repr

/-- The scalar sequencer of a site (Table 3.2). Registers are held where they differ from what an unwritten register
reads (0 after the clear of R87; a free value of the turn after a work-window start, R66). `clock` is the first work
cycle whose accesses and landings are still to come, `next` the cycle in which the next bundle issues. -/
structure Sequencer where
  status : SeqStatus
  pc : Nat
  slot : Nat
  oldSlot : Nat
  slotFrom : Nat
  loops : List LoopEntry
  s : List (Nat × Word)
  p : List (Nat × Bool)
  k : List (Nat × Word)
  epoch : Nat
  undef : Bool
  clock : Nat
  next : Nat
  landings : List Landing
  stalls : Nat
  steerStalls : Nat
  deriving DecidableEq, Repr

/-- Bank ownership in force (R97): `own` applies from cycle `from_`, `old` before it. -/
structure Ownership where
  own : DWord
  old : DWord
  from_ : Nat
  mask : BitVec 32
  /-- banks powering down with admitted writes (R268), and banks that power up at the last boundary (R269) -/
  draining : List Nat
  rising : List Nat
  deriving DecidableEq, Repr

/-- The matrix unit of a site (`lastWide` is one more than the last cycle in which it used the wide port): weight buffers, accumulator file, column flag sets (R157), streams and loads. -/
structure MatrixUnit where
  wb0 : WBuf
  wb1 : WBuf
  array : Option Block
  acc : List (Nat × AccRow)
  cols : List (Nat × BitVec 5)
  feeds : List Feed
  loads : List WLoad
  lastWide : Nat
  deriving DecidableEq, Repr

/-- The vector unit of a site: registers, masks and lane flags (R169). -/
structure VectorUnit where
  v : List (Nat × List Lane)
  vm : List (Nat × DWord)
  flags : List (Nat × BitVec 5)
  deriving DecidableEq, Repr

/-- A scratchpad or DDR memory: bytes where they differ from 0, strictly rising addresses, and the numbers of the
poisoned words (64 bytes in a scratchpad, 128-byte units in DDR), strictly rising. -/
structure Memory where
  cells : List Host.Cell
  poisoned : List Nat
  deriving DecidableEq, Repr

/-- A descriptor the DMA engine holds (R143): its index and the scalar operands read at issue. -/
structure DmaReq where
  desc : Nat
  sa : Word
  sb : Word
  cycle : Nat
  deriving DecidableEq, Repr

/-- The destination classes of R144. -/
inductive DmaClass where
  | ddr | sameQuad | otherQuad | otherDevice
  deriving DecidableEq, Repr

/-- A DMA descriptor entry decoded from its 32 bytes (Table 4.7). -/
structure DmaDesc where
  op : Nat
  hopper : Nat
  tag : Nat
  scratch : Nat
  rowBytes : Nat
  rows : Nat
  farRegion : Nat
  farBase : Nat
  stride : Nat
  dest : Nat
  deriving DecidableEq, Repr

/-- A transfer the engine is processing (R112, R145): counts so far and the first non-OK status. -/
structure Transfer where
  /-- its number at the engine, and the source quadrant and context generations it carries (R240) -/
  id : Nat
  quadGen : Nat
  ctxGen : Nat
  desc : Nat
  d : DmaDesc
  scratch : Nat
  far : Nat
  cls : DmaClass
  turn : Nat
  /-- the number of its first packet in the crossing's instance (R371) -/
  pkt : Nat
  word : Nat
  sent : Nat
  answered : Nat
  status : Nat
  bytes : Nat
  nackOff : Nat
  nackClosed : Nat
  nackReset : Nat
  /-- words a sluice refused as a violation: the condition and offset of the first (R244) -/
  violation : Option (Nat × Nat)
  /-- after an overrun its token is discarded (R35) -/
  silent : Bool
  /-- the token went out at the close deadline (R378) -/
  tokenSent : Bool
  deriving DecidableEq, Repr

/-- A message on its way (R52): the sender's stamp is in `msg.pinned`, the order of R226 in `order`. -/
structure Flight where
  toTile : Nat
  hop : Nat
  order : Nat
  msg : Message
  deriving DecidableEq, Repr

/-- An admitted sluice write waiting for its bank (R241, R242). -/
structure SluiceWrite where
  addr : Nat
  bytes : List Byte
  poison : Bool
  fromSite : Nat
  entry : Nat
  xfer : Nat
  deriving DecidableEq, Repr

/-- An answer to one sluice write on its way to the sending engine (R243): the transfer, a status code of Table 10.6,
and for a violation the failed condition of check 4 with the write's offset. -/
structure Answer where
  xfer : Nat
  status : Nat
  cond : Nat
  off : Nat
  deriving DecidableEq, Repr

/-- A site's exchange side: hoppers H0-H3, token queues TQ0-TQ3, the injection queue (`injUnits` units held in cycle `injAt`), the
DMA engine, steering skid buffers, the pad buffer of its router and the remote-port queue. `landAt` is one more than the
cycle of the last sluice write that the remote port wrote (R245). -/
structure Exchange where
  h : List (Nat × Hopper)
  tq : List (Nat × List Token)
  injUnits : Nat
  injAt : Nat
  dmaq : List DmaReq
  xfers : List Transfer
  xferNo : Nat
  skids : List (Nat × Skid)
  /-- the work cycle of the next steering cycle (R209) -/
  steer : Nat
  /-- the steering unit fires no entry for the rest of the turn (R215, R220, R233) -/
  steerOff : Bool
  /-- the queue and cycle of the last TPOP, whose entry counts as held in that cycle (R211) -/
  popQ : Nat
  popAt : Option Nat
  /-- a message to the site was delivered after its pinned cycle in the turn (R215, R233) -/
  late : Bool
  pad : List Flight
  writes : List SluiceWrite
  answers : List Answer
  landAt : Nat
  deriving DecidableEq, Repr

/-- The state of a tile site (Table 3.2). `ltile` is its logical tile in its quadrant, `gtile` its global logical
tile number within the plan (R48, RDID), `descBase` its descriptor table (R143). `service` says that it is in service mode
(R90); `usedBanks` are the banks with a local access in cycle `usedAt`, the latest cycle with one (R242). -/
structure Site where
  role : Role
  service : Bool
  ltile : Option Nat
  ctx : Option Nat
  gtile : Nat
  descBase : Nat
  seq : Sequencer
  bank : Ownership
  slots : List (Nat × CfgSlot)
  reload : Option Reload
  mat : MatrixUnit
  vec : VectorUnit
  scr : Memory
  ex : Exchange
  faults : List SiteFault
  /-- the faults that the turn's close has judged -/
  judged : List SiteFault
  usedAt : Nat
  usedBanks : List Nat
  deriving DecidableEq, Repr
/-! ### The reef governor (ch. 09) -/

/-- The reef governor and its page (Tables 9.6 to 9.15). Energies are in µJ, powers in W, kept exactly; temperatures
are listed per die: compute die of QDq at 2q, its SRAM die at 2q + 1, the hub at 8. -/
structure Reef where
  level : Nat
  upCount : Nat
  overAllowance : Bool
  thermalLimit : Bool
  pending : Bool
  thermalPending : Bool
  /-- contexts whose switch was discarded since the last level change (R256) -/
  dropped : List Nat
  hostW : Nat
  trayW : Nat
  energy : Nat
  /-- P_meas of the last turn and of the turn before it (R252, R256) -/
  measured : Rat
  measuredPrev : Rat
  eMeas : Nat
  pred : Rat
  predUp : Rat
  eFloor : Rat
  k : Rat
  temps : List Nat
  tempsNow : List Nat
  hot : List Bool
  peak : Nat
  /-- whether a gearing switch took effect, or a HOT hold applied, in the turn (R253) -/
  switchedNow : Bool
  hotNow : Bool
  applied : Nat
  switchDiscarded : Nat
  overshoot : Nat
  thermalTurns : Nat
  drainWaits : Nat
  bankOffDrops : Nat
  drainTimeouts : Nat
  deriving DecidableEq, Repr
/-! ### The host interface (ch. 10) -/

/-- A tailrace record (Table 10.5) before its phase is known: type, body from byte 0x10, and the sequence number and
turn that it carries. -/
structure Rec where
  type : Nat
  units : Nat
  seq : Nat
  turn : Nat
  body : List Byte
  deriving DecidableEq, Repr

/-- RING_STATUS.STATE (Table 10.31). -/
inductive RingState where
  | disabled | active | full | halted | braked
  deriving DecidableEq, Repr

/-- A ring pair of a function (Tables 10.28 to 10.34). `due` holds the records that the turn's close will write, `held`
the records held on chip (R292). -/
structure Ring where
  hrBase : Nat
  trBase : Nat
  intEn : Bool
  vector : Nat
  trLog : Nat
  hrLog : Nat
  state : RingState
  haltCause : Nat
  haltOffset : Nat
  hrProd : Nat
  hrCons : Nat
  trProd : Nat
  trCons : Nat
  phase : Bool
  seq : Nat
  due : List Rec
  held : List Rec
  brakeWritten : Bool
  gained : Bool
  /-- HR_CONS and TR_PROD as last written to the device index block -/
  shownCons : Nat
  shownProd : Nat
  /-- TURN of the last TOKENS record or STREAM_STEP completion since enable (Table 10.15) -/
  lastOutput : Nat
  /-- units read from the headrace in the turn (R286) -/
  readNow : Nat
  fullEvents : Nat
  wrongState : Nat
  deriving DecidableEq, Repr

/-- The errors that AER records (R277): a read that met a poisoned DDR word (R280), a pointer-block read that completed with
an error (R286), an access to the DDR of a quadrant that retrains (Table 15.11). -/
inductive AerError where
  | poisonedRead | pointerBlock | unsupported
  deriving DecidableEq, Repr

/-- A function's registers outside its rings (Tables 10.26, 10.27), its PCI Express state, the words written to its
MSI-X table (R279), by word number, its MSI-X Function Mask and pending bits, and the errors that its AER has recorded.
`polled` tells how the turn's pointer-block read ended (R286), `sent` whether the turn's MSI-X message has gone (R293). -/
structure Fn where
  ptrBlock : Nat
  devBlock : Nat
  busMaster : Bool
  d3hot : Bool
  msix : List (Nat × Nat)
  msixMask : Bool
  msixPending : List Nat
  aer : List AerError
  polled : Option Bool
  sent : Bool
  rings : List (Nat × Ring)
  deriving DecidableEq, Repr

/-- A command read and not yet completed (R294, R300): where it came from, what it names, its deadline in elapsed
turns and the turns elapsed. `arg` is its change set, stream or region. -/
structure Cmd where
  fn : Nat
  ring : Nat
  opc : Nat
  ctx : Nat
  tag : Nat
  arg : Nat
  deadline : Nat
  elapsed : Nat
  deriving DecidableEq, Repr

/-- The SPDM error codes that the spec names (R483, R484), and the refusal of what Table 17.4 does not support. -/
inductive SpdmError where
  | notReady | busy | unspecified | unsupported
  deriving DecidableEq, Repr

/-- An SPDM answer (R483, Table 17.4): certificate slot 0 by its bytes with the bytes that remain, a challenge by the chain's
digest, the device's nonce, the measurements' summary and a signature, measurements by index. -/
inductive SpdmAnswer where
  | version (major minor : Nat)
  | capabilities
  | algorithms (mldsa87 sha3 : Bool)
  | digests (slots : List Nat) (digest : List Byte)
  | certificate (bytes : List Byte) (remaining : Nat)
  | challengeAuth (digest nonce summary sig : List Byte)
  | measurements (l : List (Nat × List Byte)) (signed : Option (List Byte × List Byte))
  | error (e : SpdmError)
  deriving DecidableEq, Repr

/-- The PLDM events that the spec names (R399, R431, R468). -/
inductive PldmEvent where
  | readinessChanged | spareWanted | replaceSoon
  | moduleReplace (channel : Nat)
  deriving DecidableEq, Repr

/-- What the device sends out: the model's own log of what leaves the module. -/
inductive Out where
  /-- the first write of a tailrace record at a unit position: all but the first 8 bytes of unit 0 (R291) -/
  | body (fn ring pos : Nat) (r : Rec)
  /-- the write of a record's first 8 bytes, with its phase: the record is visible (R290, R291) -/
  | record (fn ring pos : Nat) (phase : Bool) (r : Rec)
  /-- a device index block (Table 10.3): HR_CONS and TR_PROD of rings 0 to 16, and TURN_NO -/
  | indexBlock (fn : Nat) (idx : List (Nat × Nat)) (turn : Nat)
  /-- an MSI-X message (R293) -/
  | msix (fn vector : Nat)
  /-- a turn mark sent on a port (R25, R26) -/
  | mark (port : Nat) (m : Mark)
  /-- a BAR2 read's answer: data, poison (EP bit), or Unsupported Request (R280) -/
  | bar2 (data : List Byte) (poison : Bool) (unsupported : Bool)
  /-- an Avdin packet sent on a port -/
  | packet (port : Nat) (p : Packet)
  /-- a BRAKE flit sent on a port (R369), with the source position and the fault cause -/
  | brakeFlit (port pos cause : Nat)
  /-- an answer of the security engine over a transport -/
  | spdm (t : Transport) (a : SpdmAnswer)
  /-- an answer to a PLDM vendor request (R487): the nonce, or an error -/
  | vendor (nonce : Option (List Byte))
  /-- an answer to a PLDM request: 0 accepted, else the reason -/
  | pldm (code : Nat)
  /-- a PLDM event for the tray controller -/
  | event (e : PldmEvent)
  deriving DecidableEq, Repr

/-! ### Plans and contexts (ch. 02, 10, 12, 13) -/

/-- A gearing descriptor (Table 2.7). -/
structure Gearing where
  activeTiles : Nat
  batch : Nat
  stageTurns : Nat
  interval : Nat
  crossings : Nat
  bankMask : BitVec 32
  eFull : Nat
  eIdle : Nat
  ddrUnits : Nat
  avdinBytes : Nat
  workCycles : Nat
  sectionMask : Nat
  deriving DecidableEq, Repr

/-- A plan header (Table 2.6). -/
structure PlanHeader where
  imageId : Nat
  major : Nat
  minor : Nat
  bytes : Nat
  units : Nat
  quads : Nat
  gearings : Nat
  devices : Nat
  stage : Nat
  tiles : Nat
  mMin : Nat
  mMax : Nat
  closeMin : Nat
  flags : Nat
  reefMap : List Nat
  gearPeriod : Nat
  batchOffset : Nat
  sections : Nat
  sectionOff : Nat
  shape : List Byte
  digest : List Byte
  descs : List Gearing
  deriving DecidableEq, Repr

/-- A section table entry (R80). -/
structure Section where
  type : Nat
  quadMask : Nat
  offset : Nat
  bytes : Nat
  digest : List Byte
  deriving DecidableEq, Repr

/-- A weight manifest entry (R81). -/
structure ManifestEntry where
  offset : Nat
  bytes : Nat
  fmt : Nat
  digest : List Byte
  deriving DecidableEq, Repr

/-- A plan as PLAN_LOAD read it. -/
structure Plan where
  hdr : PlanHeader
  manifest : List ManifestEntry
  body : PlanBody
  deriving DecidableEq, Repr

/-- Context states (Table 10.11). -/
inductive CtxState where
  | empty | loading | loaded | running | paused | draining | faulted | quarantined
  deriving DecidableEq, Repr

/-- A transition accepted and not yet in effect (R303). -/
inductive Transition where
  | start | pause | resume
  deriving DecidableEq, Repr

/-- A batch position taken in a filling and not yet committed (R326, R332). -/
structure Position where
  pos : Nat
  stream : Nat
  index : Nat
  token : Word
  input : Bool
  sample : Bool
  /-- CTX_TURN of its filling -/
  filled : Nat
  deriving DecidableEq, Repr

/-- The filling under way at an intake (R328): the two counts and whether the header unit is written. -/
structure Filling where
  priv : Nat
  bulk : Nat
  gearing : Nat
  open_ : Bool
  written : Bool
  deriving DecidableEq, Repr

/-- A wait or hold turn (R375, R376, Table 12.14); `shown` is false for the hold turn of a slot restore (R447), which waits for
no crossing. -/
structure WaitInfo where
  shown : Bool
  hold : Bool
  planQuad : Nat
  sluice : Nat
  inst : Nat
  deriving DecidableEq, Repr

/-- The receiving side of a crossing (R374): NEXT and the arrival maps of NEXT and NEXT + 1. -/
structure CrossIn where
  planQuad : Nat
  sluice : Nat
  next : Nat
  map0 : List Nat
  map1 : List Nat
  deriving DecidableEq, Repr

/-- A packet released and not answered with OK (R376, R377). `answered` tells that some answer came, `refused` that it
may be sent again, `sentTurn` the turn of its last sending, `from_` the scratchpad address of its source. -/
structure OutPacket where
  packet : Packet
  from_ : Nat
  site : Nat
  xfer : Nat
  inst : Nat
  released : Nat
  sentTurn : Nat
  answered : Bool
  refused : Bool
  deriving DecidableEq, Repr

/-- The sending side of a crossing (R371): its key, the instance count, and when it last released. -/
structure CrossOut where
  dest : Nat
  sluice : Nat
  inst : Nat
  packets : Nat
  lastTurn : Option Nat
  deriving DecidableEq, Repr

/-- A diagnosis that holds a context (R398). -/
structure Diagnosis where
  event : Nat
  cause : Cause
  started : Nat
  suspects : List Nat
  auditor : Option Nat
  firstSuspect : Nat
  data : List Byte
  deriving DecidableEq, Repr

/-- The outcome of a PLAN_LOAD whose work is under way (R76): the first failed check with its status, or none. -/
structure LoadWork where
  fn : Nat
  ring : Nat
  tag : Nat
  failed : Nat
  status : Nat
  deriving DecidableEq, Repr

/-- A context (R283, R302, R307) with the plan it holds and everything its turns leave between turns. -/
structure Ctx where
  state : CtxState
  /-- the state that CTX_RESUME returns to -/
  prior : CtxState
  owner : Nat
  gen : Nat
  plan : Option Plan
  /-- physical quadrants of plan quadrants 0, 1, … (R50) -/
  quads : List Nat
  home : Nat
  pipeline : Nat
  prevPos : Nat
  usable : List Nat
  reefMap : List Nat
  rangeMin : Nat
  rangeMax : Nat
  gearing : Nat
  target : Nat
  switchTurn : Nat
  vouchOn : Bool
  /-- CTX_TURN (R63) -/
  turn : Nat
  lastVouched : Nat
  sinceVouch : Nat
  trans : Option Transition
  cancelDrain : Bool
  /-- DIGEST_MISMATCH marked the plan (R396) -/
  marked : Bool
  /-- the plan's restore found fewer channels than it needs (R73) -/
  starved : Bool
  /-- its last FAULT record: causes, and whether a message was late (R437) -/
  causes : List Cause
  late : Bool
  lateTried : Bool
  /-- plan code runs in this turn -/
  ran : Bool
  /-- the turn is a re-execution of a withheld one -/
  redo : Bool
  wait : Option WaitInfo
  /-- replacement, reset or replay hold turns -/
  held : Bool
  diag : Option Diagnosis
  load : Option LoadWork
  aborting : Bool
  unloading : Bool
  /-- the restore after a reset or abort is still to come -/
  restoring : Bool
  privRing : List Nat
  bulkRing : List Nat
  /-- the rings as they stood at the boundary (R329) -/
  privSnap : List Nat
  bulkSnap : List Nat
  positions : List Position
  filling : Option Filling
  crossIn : List CrossIn
  crossOut : List CrossOut
  outPackets : List OutPacket
  /-- turn of the last matching digest per region × 4 + quadrant (R396), and the turn of the load -/
  digestOk : List (Nat × Nat)
  loadTurn : Nat
  /-- turn of the last clean audit per logical tile (R420, R398) -/
  auditOk : List (Nat × Nat)
  /-- streams with the first token index vouched, per turn, for SUSPECT_RANGE (R407) -/
  released : List (Nat × Nat × Nat)
  deriving DecidableEq, Repr

/-- What a change set changes (Table 1.5; a gearing switch R45; a re-placement R424). -/
inductive Change where
  | remap (ctx : Nat) (tiles : List Nat)
  | reefRange (ctx lo hi : Nat)
  | vouch (ctx : Nat) (on : Bool)
  | audit (quad reserve : Nat)
  | geometry (g : Geometry)
  | gearing (ctx g : Nat)
  | placement (quad tile site : Nat)
  deriving DecidableEq, Repr

/-- Change-set states (Table 1.4). -/
inductive SetState where
  | opened | staged | committed | applied | discarded
  deriving DecidableEq, Repr

/-- A non-terminal change set (R38). Its key is the CHANGE_ID for a host set, 65,536 + c for the governor's set of
context c (R45), and 65,552 + q for the re-placement set of QDq (R424). `held` says that every unit named has
acknowledged its shadow state, `lost` that a reset cleared some of it since (R42), `age` counts the turns that the set has
spent STAGED. -/
structure ChangeSet where
  changes : List Change
  state : SetState
  held : Bool
  lost : Bool
  age : Nat
  commit : Nat
  deriving DecidableEq, Repr

/-- Stream states (Table 10.12). -/
inductive StreamState where
  | free | idle | active | evicted | damaged
  deriving DecidableEq, Repr

/-- A stream entry (Table 11.1); POSITION is KV_LENGTH + HAS_LAST. -/
structure StreamEntry where
  state : StreamState
  ctx : Nat
  gen : Nat
  priv : Bool
  hasLast : Bool
  needInput : Bool
  cancelled : Bool
  indirect : Bool
  adapter : Nat
  seed : DWord
  kvBase : Nat
  kvLimit : Nat
  kvLength : Nat
  lastToken : Word
  pendingInput : Nat
  pendingNew : Nat
  stop : Word
  tag : Nat
  inputAddr : Nat
  tokensOut : Nat
  damagedIndex : Nat
  deriving DecidableEq, Repr

/-- A stream-cache slot (R320): its stream, its input window, the input tokens still to be read into it, whether it is
pinned, and when it was last used. -/
structure CacheSlot where
  stream : Nat
  window : List Word
  toRead : Nat
  reading : Bool
  pinned : Bool
  used : Nat
  deriving DecidableEq, Repr

/-- The stream table with its cache, listed by stream (R317 to R323), and STREAM_COUNTS (Table 11.18). `fetching` lists
the streams whose entry fetch is under way for a command that waits, `fetched` those that have come in, with whether the
entry was uncorrectable. `table` holds the entries as the cache or else DDR holds them, `dirty` the streams whose changes
have yet to be written through to DDR (R322), `waits` the streams that unread records name, with function and ring, `overdue`
those of an earlier turn's filling (R329). -/
structure Streams where
  table : List (Nat × StreamEntry)
  dirty : List Nat
  waits : List (Nat × Nat × Nat)
  overdue : List (Nat × Nat × Nat)
  cache : List (Nat × CacheSlot)
  fetching : List Nat
  fetched : List (Nat × Bool)
  stamp : Nat
  misses : Nat
  refused : Nat
  lateFills : Nat
  deriving DecidableEq, Repr

/-! ### Quadrants, recovery, repair (ch. 08, 13, 14, 15) -/

/-- A sluice table entry (Table 8.10) of an ARMED sluice; OPEN follows the owner's map. -/
structure SluiceEntry where
  ctx : Nat
  ctxGen : Nat
  quadGen : Nat
  sources : Nat
  srcPos : Nat
  pipeline : Nat
  planQuad : Nat
  owner : Nat
  no : Nat
  bytes : Nat
  base : Nat
  admitted : Nat
  nackClosed : Nat
  nackViolation : Nat
  nackBankOff : Nat
  deriving DecidableEq, Repr

/-- A remap entry (Table 14.17): the site of a logical tile, and whether re-placement took it. -/
structure RemapEntry where
  site : Nat
  replaced : Bool
  deriving DecidableEq, Repr

/-- An engine of Table 15.2: contexts that issued to it in each of the last 64 turns (newest first), requests retired
in the turn, and a tripped watch. -/
structure Engine where
  mask : List (List Nat)
  now : List Nat
  retired : Nat
  tripped : Bool
  deriving DecidableEq, Repr

/-- RECOVERY_STATUS.STATE (Table 15.13). -/
inductive RecState where
  | normal | fast | full | engineReset | replay
  deriving DecidableEq, Repr

/-- A replay round (R440): the engine, the contexts to replay, the one replaying, turns left, and those found guilty. -/
structure Replay where
  engine : Nat
  suspects : List Nat
  todo : List Nat
  left : Nat
  guilty : List Nat
  deriving DecidableEq, Repr

/-- SNAP_LAST and a snapshot in progress (Table 15.16): `sites` the contexts whose sites still write their records. -/
structure Snapshot where
  valid : Bool
  slot : Nat
  trigger : Nat
  engine : Nat
  suspects : List Nat
  seq : Nat
  ctxs : List Nat
  pending : Bool
  deriving DecidableEq, Repr

/-- LOAD_STATUS (Table 15.20) and a broadcast under way. -/
structure LoadStatus where
  valid : Bool
  result : Nat
  kind : Nat
  round : Nat
  incomplete : Nat
  fenced : Nat
  seq : Nat
  activate : Nat
  bad : List Nat
  deriving DecidableEq, Repr

/-- A quadrant: its generation and recovery page (ch. 15), sluice and remap tables, audit rotation (R400, R401),
dressing rotation (R413, R414), the counters of its page, and its engines. `store` is the content of the service stores of
its unfenced sites (R93), `staging` what a SERVICE broadcast has put beside them (R449), `none` where nothing waits. -/
structure Quad where
  store : List Byte
  staging : Option (List Byte)
  gen : Nat
  braked : Bool
  recState : RecState
  privHosted : Bool
  dressed : Bool
  complete : Bool
  routerLimit : Bool
  remap : List (Nat × RemapEntry)
  sluices : List (Nat × SluiceEntry)
  padLate : Nat
  dropped : Nat
  spilled : Nat
  pondDiscards : Nat
  pondFull : Nat
  staleDrops : Nat
  violationsRx : Nat
  nackClosed : Nat
  corrWords : Nat
  steerTrunc : Nat
  recvStalls : Nat
  steerStalls : Nat
  reserve : Nat
  pointer : Nat
  auditDone : Nat
  auditIncomplete : Nat
  auditMismatch : Nat
  lockstep : Nat
  residue : Nat
  eccUe : Nat
  transients : Nat
  round : Nat
  rotations : Nat
  /-- items of the rotation that its rounds so far ran; the rounds that have run, newest first: turn, first item, end (R414, R420) -/
  dressAt : Nat
  dressRan : List (Nat × Nat × Nat)
  /-- the rotation of the sites that audit, whose rounds run in the close window (R402, R414) -/
  auditAt : Nat
  auditRotations : Nat
  confirmed : Nat
  dressTransients : Nat
  correctedWords : Nat
  spareLive : Nat
  deadRouters : List Nat
  replacements : Nat
  noSpare : Bool
  engines : List (Nat × Engine)
  replay : Option Replay
  snap : Snapshot
  load : LoadStatus
  heartbeatTurn : Nat
  deadlines : Nat
  engineHangs : Nat
  transientHangs : Nat
  quarantines : Nat
  lateRecoveries : Nat
  ctxAborts : Nat
  engineResets : Nat
  fastResets : Nat
  fullResets : Nat
  nackResettingTx : Nat
  staleReplies : Nat
  droppedIntoReset : Nat
  /-- a reset under way was asked for by the host (R446) -/
  hostReset : Bool
  deriving DecidableEq, Repr

/-- A site under watch after a hardware check (R397): its context, cause, event, the turn of the check, firings, whether it fired
again, and whether router control is concerned, which is of the fabric domain (R367). -/
structure HwWatch where
  site : Nat
  ctx : Nat
  cause : Cause
  event : Nat
  since : Nat
  firings : Nat
  again : Bool
  fabric : Bool
  deriving DecidableEq, Repr

/-- A site under watch after an unrepeated wrong answer of a dressing item (R417). -/
structure DressWatch where
  site : Nat
  item : Nat
  rounds : Nat
  deriving DecidableEq, Repr

/-- DIGEST_LOG entry (Table 13.18). -/
structure DigestLog where
  turn : Nat
  ctx : Nat
  quad : Nat
  match_ : Bool
  requested : Bool
  region : Nat
  head : List Byte
  deriving DecidableEq, Repr

/-- The check page (ch. 13) and what checking keeps: watches, the event number, and the digest pass under way
(regions still to do as context, quadrant, region); `passDue` says that a boundary has called for a pass (R396). -/
structure Check where
  suspect : Bool
  drainRequest : Bool
  chipBraked : Bool
  brakeCause : Nat
  brakeChip : Bool
  brakeQuads : List Nat
  brakeTurn : Nat
  pairCompares : Nat
  pairMismatches : Nat
  poisonSkips : Nat
  vouched : Nat
  withheld : Nat
  poisonFaults : Nat
  damaged : Nat
  period : Nat
  passes : Nat
  digestMismatches : Nat
  logCount : Nat
  log : List (Nat × DigestLog)
  pass : Option (List (Nat × Nat × Nat))
  passDue : Bool
  requested : List (Nat × Nat × Nat)
  events : Nat
  watches : List HwWatch
  dressWatches : List DressWatch
  /-- a brake's records still to be written on tailraces that lack room (R311), and the polls made -/
  braking : Option Nat
  /-- the functions whose message of the brake waits for those records, with its vector (R311) -/
  brakeMsgs : List (Nat × Nat)
  deriving DecidableEq, Repr

/-- A defect list entry (Table 14.5). -/
structure Defect where
  kind : Nat
  site : Nat
  structure_ : Nat
  fused : Bool
  runtime : Bool
  index : Nat
  starts : Nat
  missed : Nat
  firstHours : Nat
  deriving DecidableEq, Repr

/-- A replacement under way (R422 to R424): the fenced site's logical tile, the site taken, and whether its state is
copied. -/
structure Replacement where
  quad : Nat
  tile : Nat
  old : Nat
  site : Nat
  copied : Bool
  deriving DecidableEq, Repr

/-- Dressing, fencing and repair (ch. 14): SPARE sites that are READY_SPARE, fences due at the next boundary, the
defect list and fuses (flash and fuses survive power), the wear inputs by wear day (newest first), and its flags. -/
structure Heal where
  readySpares : List Nat
  fenceDue : List Nat
  /-- sites under targeted dressing (R418): rounds left and the instances still queued -/
  targeted : List (Nat × (Nat × List Nat))
  replacing : List Replacement
  defects : List (Nat × List Defect)
  /-- the defect list as flash holds it (R427, R470) -/
  saved : List (Nat × List Defect)
  fuseUsed : List (Nat × Nat)
  softRepairs : List (Nat × Nat)
  committedLast : List (Nat × Nat)
  poweredHours : Nat
  /-- per quadrant: corrected words in the wear day, transients in each of the last 30 -/
  dayCorrected : List (Nat × Nat)
  dayTransients : List (Nat × List Nat)
  /-- per module: corrected in the day, uncorrectable in each of the last 30 -/
  modCorrected : List (Nat × Nat)
  modUncorr : List (Nat × List Nat)
  /-- per port: retrainings and retries in the day, whether DEGRADED in each of the last 30 -/
  portRetrains : List (Nat × Nat)
  portRetries : List (Nat × Nat)
  portDegraded : List (Nat × List Nat)
  /-- the counts of the last complete wear day: quadrants, modules, ports' retrainings and retries -/
  lastCorrected : List (Nat × Nat)
  lastModCorrected : List (Nat × Nat)
  lastRetrains : List (Nat × Nat)
  lastRetries : List (Nat × Nat)
  /-- the scores as last computed: quadrants, modules, ports -/
  quadScore : List (Nat × Nat)
  modScore : List (Nat × Nat)
  portScore : List (Nat × Nat)
  replaceSoon : Bool
  moduleReplace : List Nat
  listFull : Bool
  logPending : Bool
  deriving DecidableEq, Repr

/-! ### DDR (ch. 11) -/

/-- DDR_CHAN.STATE (Table 11.13). -/
inductive ChanState where
  | absent | empty | unsupported | trainFailed | inService | atRisk | retired
  deriving DecidableEq, Repr

/-- A DDR channel (Table 11.13) with its module, device correction counts of the scrub pass, scrub position and the
module's temperature (R345, R350, R510). -/
structure Channel where
  state : ChanState
  module : Option MemModule
  mappedSmaller : Bool
  marks : BitVec 20
  corrected : Nat
  named : List (Nat × Nat)
  scrub : Nat
  /-- scrub passes completed -/
  passes : Nat
  temp : Nat
  touched : Bool
  deriving DecidableEq, Repr

/-- A DDR_ERRLOG entry (Table 11.20). -/
structure DdrLog where
  turn : Nat
  kind : Nat
  channel : Nat
  devices : List Nat
  source : Nat
  unit : Nat
  deriving DecidableEq, Repr

/-- A site's record in a snapshot slot (Table 15.6): the snapshot that wrote it, whether it was captured, the site as it stood,
and the last state captured in the slot, with its snapshot. -/
structure SiteShot where
  site : Nat
  seq : Nat
  captured : Bool
  head : Site
  full : Option (Nat × Site)
  deriving DecidableEq, Repr

/-- The DDR side: channels, per quadrant the interleave set (R341), the mapped capacity code, the memory keyed by local
address with poison per 128-byte unit, self-refresh, and the page of Tables 11.12 to 11.20. `used` counts the units of
the turn per quadrant (R57), `shots` the site records of the snapshot slots (R439). -/
structure Ddr where
  rate : Nat
  mismatch : Bool
  zeroing : Bool
  chan : List (Nat × Channel)
  sets : List (Nat × List Nat)
  cap : List (Nat × Nat)
  mem : List (Nat × Memory)
  refresh : List Nat
  used : List (Nat × Nat)
  overBudget : Nat
  uncorrectable : Nat
  sysDrops : Nat
  passes : Nat
  logCount : Nat
  log : List (Nat × DdrLog)
  shots : List (Nat × List SiteShot)
  /-- the population record in flash (R464) -/
  record : Option (List (Nat × ChanState))
  deriving DecidableEq, Repr

/-! ### Avdin (ch. 12) -/

/-- AVDIN_PORT_STATUS.STATE (Table 12.15). -/
inductive PortState where
  | absent | disabled | training | up | degraded | down | brakeIdle
  deriving DecidableEq, Repr

/-- An Avdin port (Tables 12.15 to 12.18) and its link layer (R359): sequence numbers, packets kept until
acknowledged, flit credits per virtual channel, and its cage. -/
structure Port where
  state : PortState
  cable : Bool
  role : Nat
  peerOk : Bool
  berHigh : Bool
  peerPort : Nat
  downBrake : Bool
  peerPos : Nat
  windows : Nat
  corrBits : Nat
  dirty : Nat
  clean : Nat
  retrains : Nat
  uncorr : Nat
  crcFails : Nat
  retries : Nat
  peak : Nat
  overBudget : Nat
  payload : Nat
  trained : Bool
  failures : Nat
  txSeq : Nat
  /-- packets in order: the first `inFlight` are sent and not acknowledged, the others wait -/
  kept : List Packet
  inFlight : Nat
  rxSeq : Nat
  credits : List Nat
  delayNs : Nat
  /-- the times of the go-back-N retries of the last 1 ms (R389) -/
  recent : List Nat
  degradedNow : Bool
  deriving DecidableEq, Repr

/-- AVDIN_MANIFEST.STATE (Table 12.10). -/
inductive ManState where
  | none | pending | applied | rejected
  deriving DecidableEq, Repr

/-- A WRITE packet of which admitted words are still to be written (R243, R368): its number at the ingress ports, the quadrant
it was addressed to, how many words wait, and the outcomes of its words in the order of an ANSWER's counts. -/
structure InPacket where
  id : Nat
  quad : Nat
  packet : Packet
  left : Nat
  counts : List Nat
  deriving DecidableEq, Repr

/-- The Avdin page and the fabric domain's state (ch. 12): the manifest in force, the one pending, the flash cache. -/
structure Avdin where
  inForce : Option FabricManifest
  waiting : Option FabricManifest
  cached : Option FabricManifest
  manSeq : Nat
  manState : ManState
  reject : Nat
  manTurn : Nat
  adopted : Bool
  unroutable : Nat
  lateReplies : Nat
  dupWrites : Nat
  earlyNacks : Nat
  waitTurns : Nat
  holdTurns : Nat
  resends : Nat
  arrivals : List InPacket
  arrivalNo : Nat
  ports : List (Nat × Port)
  deriving DecidableEq, Repr

/-! ### Security (ch. 17) -/

/-- A boot control record copy (R473). -/
structure BootRecord where
  seq : Nat
  preferred : Nat
  trial : Bool
  attempts : Nat
  deriving DecidableEq, Repr

/-- The security engine, fuses, flash slots and the mailbox page (ch. 17). A slot holds an image's bytes, or nothing
valid. The nonce is the one currently valid (R487). -/
structure Security where
  rmaUnlocked : Bool
  seedDestroyed : Bool
  owner : Option (List Byte)
  ownerDestroyed : Bool
  ownerPending : Option (List Byte)
  trngFail : Bool
  aliasReady : Bool
  active : Nat
  revoked : List Nat
  svn : Nat
  slotA : List Byte
  slotB : List Byte
  recordA : BootRecord
  recordB : BootRecord
  version : DWord
  measured : List (List Byte)
  updating : Option (Nat × List Byte × Bool)
  mboxAddr : Nat
  mboxBytes : Nat
  mboxValid : Bool
  mboxSeq : Nat
  mboxStatus : Nat
  mboxOpc : Nat
  nonce : Option (List Byte)
  nonces : Nat
  /-- the answer to the request that the DOE mailbox serves (R484) -/
  doe : Option SpdmAnswer
  returning : Bool
  deriving DecidableEq, Repr

/-! ### The module (ch. 00, 10, 16, 18) -/

/-- Order codes (Table 0.1). -/
inductive OrderCode where
  | p4c64l8 | p4c64l2 | p4c48l0 | p3c48l2
  deriving DecidableEq, Repr

/-- DEV_STATE.STATE (Table 10.22). -/
inductive DevCode where
  | booting | ready | degraded | notReady | resetting | braked
  deriving DecidableEq, Repr

/-- How far the power and start sequences are (Tables 16.2, 18.4). -/
inductive Phase where
  /-- PWR_EN low -/
  | off
  /-- rails rising -/
  | powering
  /-- the sequencer stopped (R499) -/
  | stopped
  /-- PGOOD high, boot ROM running (step 2) -/
  | bootRom
  /-- no valid firmware slot (R481) -/
  | recovery
  /-- chip controller running, start not decided -/
  | starting
  /-- the start has decided -/
  | up
  /-- the arithmetic clock is stopped by THERMTRIP (R272) -/
  | tripped
  deriving DecidableEq, Repr

/-- LINK_CHECK (Table 16.9). -/
structure LinkCheck where
  result : Nat
  reason : Nat
  corrBits : Nat
  deriving DecidableEq, Repr

/-- The module: pins, identity page, start sequence (Tables 10.22 to 10.25, 16.6 to 16.9, 18.6, 18.11). ALERT_N is a
function of the causes the rest of the state holds. -/
structure Mod where
  order : OrderCode
  phase : Phase
  pwrEn : Bool
  pgood : Bool
  perstN : Bool
  brakeN : Bool
  thermtripN : Bool
  cycleReqN : Bool
  slotStrap : BitVec 6
  slotId : BitVec 6
  vinMv : Nat
  linkUp : Bool
  dev : DevCode
  brakedQuads : List Nat
  seq : Nat
  aperture : Nat
  bar2Gib : Nat
  resetValid : Bool
  resetSeq : Nat
  resetStatus : Nat
  resetLevel : Nat
  /-- start sequence: trained, zeroed, dressed, floor measured -/
  trained : Bool
  zeroed : Bool
  dressedDone : Bool
  floorDone : Bool
  cold : Bool
  starts : Nat
  kind : Nat
  decision : Nat
  causes : List Nat
  incomplete : List Nat
  missing : List Nat
  totalMs : Nat
  ddrMs : Nat
  dressMs : Nat
  fuseMs : Nat
  links : List (Nat × LinkCheck)
  devGen : Nat
  cpbGen : Nat
  cpbTurn : Nat
  /-- the words of the contract parameter block that stand until the next boundary (R73); none where the block is current -/
  cpbHeld : Option (List Nat)
  /-- the hub watchdog has tripped (R448) -/
  watchdog : Bool
  /-- LAST_SERVICE_TURN of the hub watchdog -/
  serviced : Nat
  /-- snapshot sequence number, device-wide -/
  snapSeq : Nat
  deriving DecidableEq, Repr

/-! ### The whole machine -/

/-- Faults of the model: what the spec leaves without any effect. -/
inductive Fault where
  /-- BUNDLE_FETCH and WAIT_EXPIRE: the bundle at the program counter is none that Tables 4.1 to 5.10 define, or holds a
  field that no plan may hold (R118); the spec gives such a fetch no effect (safe: the model stops). -/
  | undefinedBundle (site pc : Nat)
  /-- PWR_EN_RISE less than 250 ms after PWR_EN fell: R514 calls what follows undefined (safe: the model stops). -/
  | powerCycleTooShort (lowMs : Nat)
  deriving DecidableEq, Repr

/-- Refusals of the model. -/
inductive Refusal where
  /-- exec, of a command without a meaning (safe: the model stops) -/
  | notModelled (mnemonic : String)
  deriving DecidableEq, Repr

/-- The module. `pending` is the queue of waiting commands. `epochs` counts work-window starts and `out` is the log of
what left the module: both are the model's own. `cmds` holds the commands read and not completed (R294); `readUnits`
the headrace units read in the turn (R286). Tables list what differs from the defaults below. -/
structure State where
  pending : List Instr
  epochs : Nat
  out : List Out
  mod : Mod
  turn : Turn
  reef : Reef
  check : Check
  heal : Heal
  ddr : Ddr
  avdin : Avdin
  sec : Security
  streams : Streams
  sets : List (Nat × ChangeSet)
  fns : List (Nat × Fn)
  readUnits : Nat
  cmds : List Cmd
  ctxs : List (Nat × Ctx)
  quads : List (Nat × Quad)
  sites : List (Nat × Site)
  deriving DecidableEq, Repr

/-! ### The values that an unlisted entry of a table has, and reset -/

/-- A cleared memory (R87, R351). -/
def Memory.cleared : Memory := { cells := [], poisoned := [] }

/-- A hopper's, queue's and engine's emptiness: the exchange side of a cleared site (R87). -/
def Exchange.cleared : Exchange :=
  { h := [], tq := [], injUnits := 0, injAt := 0, dmaq := [], xfers := [], xferNo := 0, skids := [], steer := 0, steerOff := false,
    popQ := 0, popAt := none, late := false, pad := [], writes := [], answers := [], landAt := 0 }

/-- A cleared sequencer (R87). -/
def Sequencer.cleared : Sequencer :=
  { status := .off, pc := 0, slot := 0, oldSlot := 0, slotFrom := 0, loops := [], s := [], p := [], k := [], epoch := 0,
    undef := false, clock := 0, next := 0, landings := [], stalls := 0, steerStalls := 0 }

/-- A cleared matrix unit (R87). -/
def MatrixUnit.cleared : MatrixUnit :=
  { wb0 := { block := none, readable := 0 }, wb1 := { block := none, readable := 0 }, array := none, acc := [], cols := [],
    feeds := [], loads := [], lastWide := 0 }

/-- A site that R87 has cleared: sites 0 to 511 of a quadrant hold its logical tiles, 512 to 575 are auditors (R461;
log 4). -/
def Site.cleared (i : Nat) : Site :=
  { role := if i % 576 < 512 then .live else .auditor
    service := true
    ltile := if i % 576 < 512 then some (i % 576) else none
    ctx := none, gtile := 0, descBase := 0
    seq := Sequencer.cleared
    bank := { own := 0, old := 0, from_ := 0, mask := 0, draining := [], rising := [] }
    slots := [], reload := none
    mat := MatrixUnit.cleared
    vec := { v := [], vm := [], flags := [] }
    scr := Memory.cleared
    ex := Exchange.cleared
    faults := [], judged := [], usedAt := 0, usedBanks := [] }

/-- A context at reset (R283, R307). -/
def Ctx.reset : Ctx :=
  { state := .empty, prior := .empty, owner := 0, gen := 0, plan := none, quads := [], home := 0, pipeline := 0, prevPos := 0,
    usable := [], reefMap := [], rangeMin := 0, rangeMax := 3, gearing := 0, target := 0, switchTurn := 0, vouchOn := true,
    turn := 0, lastVouched := 0, sinceVouch := 0, trans := none, cancelDrain := false, marked := false, starved := false,
    causes := [], late := false, lateTried := false, ran := false, redo := false, wait := none, held := false, diag := none,
    load := none, aborting := false, unloading := false, restoring := false, privRing := [], bulkRing := [], privSnap := [],
    bulkSnap := [], positions := [], filling := none, crossIn := [], crossOut := [], outPackets := [], digestOk := [],
    loadTurn := 0, auditOk := [], released := [] }

/-- A quadrant at reset (Tables 8.6 to 8.9, 13.15 to 13.17, 14.12 to 14.14, 15.13 to 15.20). -/
def Quad.reset : Quad :=
  { store := [], staging := none, gen := 0, braked := false, recState := .normal, privHosted := false, dressed := false, complete := false, routerLimit := false,
    remap := [], sluices := [], padLate := 0, dropped := 0, spilled := 0, pondDiscards := 0, pondFull := 0, staleDrops := 0,
    violationsRx := 0, nackClosed := 0, corrWords := 0, steerTrunc := 0, recvStalls := 0, steerStalls := 0, reserve := 0, pointer := 0, auditDone := 0,
    auditIncomplete := 0, auditMismatch := 0, lockstep := 0, residue := 0, eccUe := 0, transients := 0, round := 0,
    rotations := 0, dressAt := 0, dressRan := [], auditAt := 0, auditRotations := 0, confirmed := 0, dressTransients := 0, correctedWords := 0, spareLive := 0, deadRouters := [],
    replacements := 0, noSpare := false, engines := [], replay := none
    snap := { valid := false, slot := 0, trigger := 0, engine := 0, suspects := [], seq := 0, ctxs := [], pending := false }
    load := { valid := false, result := 0, kind := 0, round := 0, incomplete := 0, fenced := 0, seq := 0, activate := 0,
              bad := [] }
    heartbeatTurn := 0, deadlines := 0, engineHangs := 0, transientHangs := 0, quarantines := 0, lateRecoveries := 0,
    ctxAborts := 0, engineResets := 0, fastResets := 0, fullResets := 0, nackResettingTx := 0, staleReplies := 0,
    droppedIntoReset := 0, hostReset := false }

/-- A ring pair at reset (Tables 10.28 to 10.34). -/
def Ring.reset : Ring :=
  { hrBase := 0, trBase := 0, intEn := false, vector := 0, trLog := 0, hrLog := 0, state := .disabled, haltCause := 0,
    haltOffset := 0, hrProd := 0, hrCons := 0, trProd := 0, trCons := 0, phase := true, seq := 0, due := [], held := [],
    brakeWritten := false, gained := false, shownCons := 0, shownProd := 0, lastOutput := 0,
    readNow := 0, fullEvents := 0, wrongState := 0 }

/-- A function at reset (Tables 10.26, 10.27). -/
def Fn.reset : Fn :=
  { ptrBlock := 0, devBlock := 0, busMaster := false, d3hot := false, msix := [], msixMask := false, msixPending := [], aer := [],
    polled := none, sent := false, rings := [] }

/-- A channel with no module (Table 11.13; the state of a channel the order code lacks is ABSENT). -/
def Channel.reset : Channel :=
  { state := .empty, module := none, mappedSmaller := false, marks := 0, corrected := 0, named := [], scrub := 0, passes := 0, temp := 0,
    touched := false }

/-- An Avdin port at power-on (Tables 12.1, 12.15 to 12.18): no cable in its cage. -/
def Port.reset : Port :=
  { state := .disabled, cable := false, role := 0, peerOk := false, berHigh := false, peerPort := 0, downBrake := false,
    peerPos := 0, windows := 0, corrBits := 0, dirty := 0, clean := 0, retrains := 0, uncorr := 0, crcFails := 0,
    retries := 0, peak := 0, overBudget := 0, payload := 0, trained := false, failures := 0, txSeq := 0, kept := [], inFlight := 0, rxSeq := 0,
    credits := [514, 514, 514, 514], delayNs := 0, recent := [], degradedNow := false }

/-- An engine with nothing issued to it. -/
def Engine.reset : Engine := { mask := [], now := [], retired := 0, tripped := false }

/-- The turn page at reset (Tables 1.6 to 1.14): the turn generator stands still until step 6 of a start (R428). -/
def Turn.reset : Turn :=
  { geom := { m := 170, d := 12, c := 32 }, running := false, no := 0, window := .intake, cycle := 0, clock := 0, stepTurn := false,
    locked := false, isMaster := false, holdover := false, mismatch := false, stepPending := false, masterHops := 0,
    masterPos := 0, masterPrio := 0, ownPrio := 0, offsetNs := 0, sinceMark := 0, sinceKey := 0, best := none, bestAge := 0, masterNo := none, stepTo := none,
    overrunTurns := 0, stepCount := 0, applied := 0, discarded := 0 }

/-- The reef page at reset (Tables 9.6 to 9.15). -/
def Reef.reset : Reef :=
  { level := 3, upCount := 0, overAllowance := false, thermalLimit := false, pending := false, thermalPending := false, dropped := [],
    hostW := 0, trayW := 3600, energy := 0, measured := 0, measuredPrev := 0, eMeas := 0, pred := 0, predUp := 0, eFloor := 0,
    k := 1, temps := [], tempsNow := [], hot := [], peak := 0, switchedNow := false, hotNow := false, applied := 0,
    switchDiscarded := 0, overshoot := 0, thermalTurns := 0, drainWaits := 0, bankOffDrops := 0, drainTimeouts := 0 }

/-- The check page at reset (Tables 13.8 to 13.14). -/
def Check.reset : Check :=
  { suspect := false, drainRequest := false, chipBraked := false, brakeCause := 0, brakeChip := false, brakeQuads := [],
    brakeTurn := 0, pairCompares := 0, pairMismatches := 0, poisonSkips := 0, vouched := 0, withheld := 0, poisonFaults := 0,
    damaged := 0, period := 4096, passes := 0, digestMismatches := 0, logCount := 0, log := [], pass := none, passDue := false, requested := [],
    events := 0, watches := [], dressWatches := [], braking := none, brakeMsgs := [] }

/-- Dressing and repair at manufacture: empty defect list, no fuse used, no wear (log 5). -/
def Heal.reset : Heal :=
  { readySpares := [], fenceDue := [], targeted := [], replacing := [], defects := [], saved := [], fuseUsed := [], softRepairs := [],
    committedLast := [], poweredHours := 0, dayCorrected := [], dayTransients := [], modCorrected := [], modUncorr := [],
    portRetrains := [], portRetries := [], portDegraded := [], lastCorrected := [], lastModCorrected := [], lastRetrains := []
    lastRetries := [], quadScore := [], modScore := [], portScore := [],
    replaceSoon := false, moduleReplace := [], listFull := false, logPending := false }

/-- The DDR page at reset (Tables 11.12 to 11.20), no module fitted and no population record. -/
def Ddr.reset : Ddr :=
  { rate := 0, mismatch := false, zeroing := false, chan := [], sets := [], cap := [], mem := [], refresh := [], used := [],
    overBudget := 0, uncorrectable := 0, sysDrops := 0, passes := 0, logCount := 0, log := [], shots := [], record := none }

/-- The Avdin page at reset (Tables 12.8 to 12.14), no manifest cached. -/
def Avdin.reset : Avdin :=
  { inForce := none, waiting := none, cached := none, manSeq := 0, manState := .none, reject := 0, manTurn := 0,
    adopted := false, unroutable := 0, lateReplies := 0, dupWrites := 0, earlyNacks := 0, waitTurns := 0, holdTurns := 0,
    resends := 0, arrivals := [], arrivalNo := 0, ports := [] }

/-- The security engine at manufacture (Tables 17.5 to 17.10): nothing revoked or fused, the firmware slots
empty (log 6). -/
def Security.reset : Security :=
  { rmaUnlocked := false, seedDestroyed := false, owner := none, ownerDestroyed := false, ownerPending := none,
    trngFail := false, aliasReady := false, active := 0, revoked := [], svn := 0, slotA := [], slotB := []
    recordA := { seq := 1, preferred := 0, trial := false, attempts := 0 }
    recordB := { seq := 0, preferred := 0, trial := false, attempts := 0 }
    version := 0, measured := [], updating := none, mboxAddr := 0, mboxBytes := 0, mboxValid := false,
    mboxSeq := 0, mboxStatus := 0, mboxOpc := 0, nonce := none, nonces := 0, doe := none,
    returning := false }

/-- The module with PWR_EN low (Table 18.6), before its first bring-up. -/
def Mod.reset : Mod :=
  { order := .p4c64l8, phase := .off, pwrEn := false, pgood := false, perstN := false, brakeN := true, thermtripN := true,
    cycleReqN := true, slotStrap := 0, slotId := 0, vinMv := 0, linkUp := false, dev := .booting, brakedQuads := [], seq := 0,
    aperture := 0, bar2Gib := 64, resetValid := false, resetSeq := 0, resetStatus := 0, resetLevel := 0, trained := false,
    zeroed := false, dressedDone := false, floorDone := false, cold := true, starts := 0, kind := 0, decision := 0,
    causes := [], incomplete := [], missing := [], totalMs := 0, ddrMs := 0, dressMs := 0, fuseMs := 0, links := [], devGen := 0,
    cpbGen := 0, cpbTurn := 0, cpbHeld := none, watchdog := false, serviced := 0, snapSeq := 0 }

/-- The stream table and cache at reset: every stream FREE with generation 0 (R318). -/
def Streams.reset : Streams :=
  { table := [], dirty := [], waits := [], overdue := [], cache := [], fetching := [], fetched := [], stamp := 0, misses := 0, refused := 0, lateFills := 0 }

/-- The machine right after reset: every register at the value the spec gives for reset, PWR_EN low. -/
def State.reset : State :=
  { pending := [], epochs := 0, out := [], mod := Mod.reset, turn := Turn.reset, reef := Reef.reset, check := Check.reset,
    heal := Heal.reset, ddr := Ddr.reset, avdin := Avdin.reset, sec := Security.reset, streams := Streams.reset, sets := [],
    fns := [], readUnits := 0, cmds := [], ctxs := [], quads := [], sites := [] }

end Sys2Proof.Machine
end

