-- ==== Sys2Proof/Machine/Ops.lean ====
section
/-! DEFINITION. The named operations over the model's data: sparse tables, memories of bytes with poison marks, byte
order, and the accesses to a site's registers, banks and scratchpad. -/

namespace Sys2Proof.Machine

/-! ### Sparse tables: a list of (key, value) pairs in rising key order -/

/-- The value listed under key `i`, else `d`. -/
def aget {α : Type} (d : α) : List (Nat × α) → Nat → α
  | [], _ => d
  | (k, v) :: t, i => if k = i then v else aget d t i

/-- The value listed under key `i`, if any. -/
def alook {α : Type} : List (Nat × α) → Nat → Option α
  | [], _ => none
  | (k, v) :: t, i => if k = i then some v else alook t i

/-- The table with `x` under key `i`. -/
def aset {α : Type} : List (Nat × α) → Nat → α → List (Nat × α)
  | [], i, x => [(i, x)]
  | (k, v) :: t, i, x =>
    if i < k then (i, x) :: (k, v) :: t else if i = k then (i, x) :: t else (k, v) :: aset t i x

/-- The table without key `i`. -/
def adel {α : Type} (l : List (Nat × α)) (i : Nat) : List (Nat × α) := l.filter (fun e => e.1 != i)

/-- The entry at key `i` changed by `f`, an unlisted one counting as `d`. -/
def amod {α : Type} (d : α) (l : List (Nat × α)) (i : Nat) (f : α → α) : List (Nat × α) := aset l i (f (aget d l i))

/-- Item `i` of a list changed by `f`. -/
def lmod {α : Type} (l : List α) (i : Nat) (f : α → α) : List α :=
  match l, i with
  | [], _ => []
  | x :: t, 0 => f x :: t
  | x :: t, j + 1 => x :: lmod t j f

/-- A rising list of numbers with `i` in it. -/
def nins : List Nat → Nat → List Nat
  | [], i => [i]
  | k :: t, i => if i < k then i :: k :: t else if i = k then k :: t else k :: nins t i

/-- `x` put into a list before the first item that it does not follow. -/
def insertBy {α : Type} (le : α → α → Bool) (x : α) : List α → List α
  | [] => [x]
  | y :: t => if le x y then x :: y :: t else y :: insertBy le x t

/-- A list in order; equal items keep their order. -/
def sortBy {α : Type} (le : α → α → Bool) (l : List α) : List α := l.foldr (insertBy le) []

/-- A list of numbers without `i`. -/
def ndel (l : List Nat) (i : Nat) : List Nat := l.filter (fun k => k != i)

/-! ### Bytes -/

/-- The number that little-endian bytes spell. -/
def leNat : List Byte → Nat
  | [] => 0
  | b :: t => b.toNat + 256 * leNat t

/-- The `n` little-endian bytes of a number. -/
def leBytes : (n v : Nat) → List Byte
  | 0, _ => []
  | n + 1, v => BitVec.ofNat 8 v :: leBytes n (v / 256)

/-- Byte `i` of a list, 0 beyond it. -/
def byteAt (l : List Byte) (i : Nat) : Byte := l.getD i 0

/-- `n` bytes of a list from byte `i`. -/
def bytesFrom (l : List Byte) (i n : Nat) : List Byte := (l.drop i).take n

/-- The little-endian number in `n` bytes from byte `i`. -/
def leAt (l : List Byte) (i n : Nat) : Nat := leNat (bytesFrom l i n)

/-! ### Memory: what an unlisted byte reads as is 0 (scratchpad R87; DDR R351) -/

/-- What an unlisted address reads as. -/
def Memory.unlisted : Byte := 0

/-- The memory with nothing listed. -/
def Memory.empty : Memory := { cells := [], poisoned := [] }

/-- One byte. -/
def Memory.byte (m : Memory) (a : Nat) : Byte := aget Memory.unlisted m.cells a

/-- One byte written; writing what an unlisted address reads as removes the entry. -/
def Memory.setByte (m : Memory) (a : Nat) (b : Byte) : Memory :=
  { m with cells := if b = Memory.unlisted then adel m.cells a else aset m.cells a b }

/-- Whether poisonable word `w` carries a poison mark. -/
def Memory.isPoisoned (m : Memory) (w : Nat) : Bool := m.poisoned.contains w

/-- The memory with word `w`'s poison mark set or cleared. -/
def Memory.mark (m : Memory) (w : Nat) (p : Bool) : Memory :=
  { m with poisoned := if p then nins m.poisoned w else ndel m.poisoned w }

/-- `n` bytes from address `a`. -/
def Memory.read (m : Memory) (a n : Nat) : List Byte := (List.range n).map (fun i => m.byte (a + i))

/-- Bytes written from address `a` upwards; poison marks are left alone. -/
def Memory.write (m : Memory) (a : Nat) : List Byte → Memory
  | [] => m
  | b :: t => (m.setByte a b).write (a + 1) t

/-- Whether any of `n` poisonable words from number `w` is poisoned. -/
def Memory.anyPoison (m : Memory) (w n : Nat) : Bool := m.poisoned.any (fun k => w ≤ k && k < w + n)

/-- A list of keys strictly rising. -/
def rising : List Nat → Bool
  | a :: b :: t => decide (a < b) && rising (b :: t)
  | _ => true

/-- The canonical form: addresses strictly rising, no entry equal to what an unlisted address reads as, poison marks
strictly rising. -/
def Memory.wf (m : Memory) : Bool :=
  rising (m.cells.map Prod.fst) && m.cells.all (fun c => c.2 != Memory.unlisted) && rising m.poisoned

/-! ### The scratchpad of a site (R93-R96): 64-byte words -/

/-- The 64 bytes of the scratchpad word holding address `a`. -/
def Memory.word64 (m : Memory) (a : Nat) : List Byte := m.read (a / 64 * 64) 64

/-- A whole 64-byte word written with its poison mark (R94). -/
def Memory.setWord64 (m : Memory) (a : Nat) (bs : List Byte) (p : Bool) : Memory :=
  (m.write (a / 64 * 64) (bs.take 64)).mark (a / 64) p

/-- The bytes of some addresses zero again, without poison in their words (R87, R98). -/
def Memory.clearWhere (m : Memory) (gone : Nat → Bool) : Memory :=
  { cells := m.cells.filter (fun c => !gone c.1), poisoned := m.poisoned.filter (fun w => !gone (w * 64)) }

/-- Whether the 64-byte word holding address `a` is poisoned. -/
def Memory.poison64 (m : Memory) (a : Nat) : Bool := m.isPoisoned (a / 64)

/-! ### Registers of a site -/

/-- Scalar register S`r`. -/
def Site.sreg (s : Site) (r : Nat) : Word :=
  match alook s.seq.s r with
  | some v => v
  | none => if s.seq.undef then Config.freeS s.seq.epoch r else 0

/-- Loop counter K`r`. -/
def Site.kreg (s : Site) (r : Nat) : Word :=
  match alook s.seq.k r with
  | some v => v
  | none => if s.seq.undef then Config.freeK s.seq.epoch r else 0

/-- Predicate P`r`; P0 reads 1 (R119). -/
def Site.preg (s : Site) (r : Nat) : Bool :=
  if r = 0 then true else
  match alook s.seq.p r with
  | some v => v
  | none => if s.seq.undef then Config.freeP s.seq.epoch r else false

/-- Vector mask VM`r`; VM0 reads all ones (R148). -/
def Site.vmreg (s : Site) (r : Nat) : DWord :=
  if r = 0 then BitVec.allOnes 64 else
  match alook s.vec.vm r with
  | some v => v
  | none => if s.seq.undef then Config.freeVM s.seq.epoch r else 0

/-- The 64 lanes of vector register V`r`. -/
def Site.vreg (s : Site) (r : Nat) : List Lane :=
  match alook s.vec.v r with
  | some v => v
  | none =>
    (List.range 64).map (fun l =>
      if s.seq.undef then { bits := Config.freeV s.seq.epoch r l, poison := Config.freeVPoison s.seq.epoch r l }
      else { bits := 0, poison := false })

/-- ACC row `r`. -/
def Site.accRow (s : Site) (r : Nat) : AccRow :=
  match alook s.mat.acc r with
  | some v => v
  | none =>
    if s.seq.undef then
      { cols := (List.range 32).map (fun c => Config.freeAcc s.seq.epoch r c)
        pLo := Config.freeAccPoison s.seq.epoch r 0, pHi := Config.freeAccPoison s.seq.epoch r 1 }
    else { cols := List.replicate 32 0, pLo := false, pHi := false }

/-- Whether a slot's guard holds (R119). -/
def Site.guard (s : Site) (g : Guard) : Bool :=
  s.preg (g.toNat / 2) ^^ (g.toNat % 2 == 1)

/-- A register write: predicates to P0 and masks to VM0 are ignored (R126, R148). -/
def Site.setS (s : Site) (r : Nat) (v : Word) : Site := { s with seq := { s.seq with s := aset s.seq.s r v } }
/-- Loop counter K`r` written. -/
def Site.setK (s : Site) (r : Nat) (v : Word) : Site := { s with seq := { s.seq with k := aset s.seq.k r v } }
/-- Predicate P`r` written; a write to P0 has no effect (R126). -/
def Site.setP (s : Site) (r : Nat) (v : Bool) : Site :=
  if r = 0 then s else { s with seq := { s.seq with p := aset s.seq.p r v } }
/-- Vector mask bits `which` of VM`r` written; VM0 discards them (R148, R163). -/
def Site.setVM (s : Site) (r : Nat) (bits which : DWord) : Site :=
  if r = 0 then s else
  { s with vec := { s.vec with vm := aset s.vec.vm r ((s.vmreg r &&& ~~~which) ||| (bits &&& which)) } }
/-- Lanes of V`r` written: a lane of which all bits are written takes the drawn poison, one of which some are keeps
its own with it (R166, R149). -/
def Site.setV (s : Site) (r : Nat) (w : List (Word × Word × Bool)) : Site :=
  let merge := fun (old : Lane) (e : Word × Word × Bool) =>
    if e.2.1 = 0 then old
    else { bits := (old.bits &&& ~~~e.2.1) ||| (e.1 &&& e.2.1)
           poison := if e.2.1 = BitVec.allOnes 32 then e.2.2 else old.poison || e.2.2 : Lane }
  { s with vec := { s.vec with v := aset s.vec.v r ((List.range 64).map (fun l => merge ((s.vreg r).getD l { bits := 0, poison := false }) (w.getD l (0, 0, false)))) } }

/-! ### Banks (R97-R99) -/

/-- The owner code of bank `b` in a map (Table 3.4). -/
def ownerIn (own : DWord) (b : Nat) : Nat := (own.toNat / 2 ^ (2 * b)) % 4

/-- A map with bank `b` given to `code`. -/
def setOwner (own : DWord) (b code : Nat) : DWord :=
  let sh := 2 ^ (2 * b)
  BitVec.ofNat 64 (own.toNat - ownerIn own b * sh + code * sh)

/-- The owner of bank `b` of a site in cycle `c`, OFF where BANK_MASK is clear (R97, R98). -/
def Site.owner (s : Site) (b c : Nat) : Nat :=
  if s.bank.mask.toNat.testBit b then ownerIn (if c < s.bank.from_ then s.bank.old else s.bank.own) b else 0

/-- A slot map put over the map in force (R98): a bank that the slot's map names as OFF while BANK_MASK has it set
keeps its previous owner. -/
def overlay (prev new : DWord) : DWord :=
  (List.range 32).foldl (fun m b => if ownerIn new b = 0 then setOwner m b (ownerIn prev b) else m) new

/-- WIDE (Table 3.4). -/
def ownWide : Nat := 1
/-- NARROW (Table 3.4). -/
def ownNarrow : Nat := 2
/-- REMOTE (Table 3.4). -/
def ownRemote : Nat := 3

/-- The bank that holds a scratchpad address (R93). -/
def bankOf (a : Nat) : Nat := a / 32768 % 32

/-! ### Faults of a site (R101) -/

/-- BANK_CLASH details (Tables 3.5, 4.9, 5.11, R219). -/
inductive Clash where
  | owner | ownerOff | matrixBusy | slotBusy | reloadBusy | reloadNarrow | slotNotReady | loopStack | tqEmpty | tqFull
  | injectFull | wbBusy | feedTiming | format | steerBusy
  deriving DecidableEq, Repr

/-- The detail's code. -/
def Clash.code : Clash → Nat
  | .owner => 1 | .ownerOff => 2 | .matrixBusy => 3 | .slotBusy => 4 | .reloadBusy => 5 | .reloadNarrow => 6
  | .slotNotReady => 7 | .loopStack => 8 | .tqEmpty => 9 | .tqFull => 10 | .injectFull => 11 | .wbBusy => 12
  | .feedTiming => 13 | .format => 14 | .steerBusy => 15

/-- The configuration slot whose table and bundles apply in cycle `c` (R91, R132). -/
def Site.slotAt (s : Site) (c : Nat) : Nat := if c < s.seq.slotFrom then s.seq.oldSlot else s.seq.slot

/-- A fault of the site's own: it is recorded and the site stops issuing from cycle `c` (R101, R141, R215, R233). -/
def Site.raise (s : Site) (cause : Cause) (detail c : Nat) (data : List Byte) : Site :=
  { s with
    faults := s.faults ++ [{ cause := cause, detail := detail, cycle := c, pc := s.seq.pc, slot := s.slotAt c, data := data,
                             service := s.service }]
    seq := { s.seq with status := match s.seq.status with
                                  | .ended a => .ended a
                                  | .stopped a => .stopped a
                                  | _ => .stopped c } }

/-- BANK_CLASH with a detail (R101). -/
def Site.clash (s : Site) (d : Clash) (c : Nat) : Site := s.raise .bankClash d.code c []

/-- The empty configuration slot. -/
def CfgSlot.empty : CfgSlot := { bundles := [], own := 0, steer := [], undef := none, readyAt := 0 }

/-- Configuration slot `n` of a site. -/
def Site.cfg (s : Site) (n : Nat) : CfgSlot := aget CfgSlot.empty s.slots n

/-- Bundle `i` of a slot: five NOPs where none was loaded (R87), a free value where a reload failed (R133). -/
def Site.bundleAt (s : Site) (n i : Nat) : BitVec 256 :=
  match (s.cfg n).undef with
  | some (e, c) => Config.undefinedSlot e c n i
  | none => aget 0 (s.cfg n).bundles i

/-- The ownership map of a slot. -/
def Site.mapOf (s : Site) (n : Nat) : DWord :=
  match (s.cfg n).undef with
  | some (e, c) => Config.undefinedMap e c n
  | none => (s.cfg n).own

/-- Steering entry `i` of a slot. -/
def Site.steerBits (s : Site) (n i : Nat) : BitVec 128 :=
  match (s.cfg n).undef with
  | some (e, c) => Config.undefinedSteer e c n i
  | none => aget 0 (s.cfg n).steer i

/-- A local access to bank `b` in cycle `c` (R242). -/
def Site.touch (s : Site) (c b : Nat) : Site :=
  { s with usedAt := c, usedBanks := if s.usedAt = c then nins s.usedBanks b else [b] }

end Sys2Proof.Machine
end

