-- ==== Sys2Proof/Machine/Digest.lean ====
section
/-! DEFINITION. The digests the spec names: SHA3-512 (FIPS 202) and the IEEE 802.3 CRC-32. -/

namespace Sys2Proof.Machine

/-- The round constants of Keccak-f[1600]. -/
def keccakRC : List Nat :=
  [0x0000000000000001, 0x0000000000008082, 0x800000000000808A, 0x8000000080008000, 0x000000000000808B, 0x0000000080000001,
   0x8000000080008081, 0x8000000000008009, 0x000000000000008A, 0x0000000000000088, 0x0000000080008009, 0x000000008000000A] ++
  [0x000000008000808B, 0x800000000000008B, 0x8000000000008089, 0x8000000000008003, 0x8000000000008002, 0x8000000000000080,
   0x000000000000800A, 0x800000008000000A, 0x8000000080008081, 0x8000000000008080, 0x0000000080000001, 0x8000000080008008]

/-- The rotation of lane (x, y), at index x + 5y. -/
def keccakRho : List Nat :=
  [0, 1, 62, 28, 27, 36, 44, 6, 55, 20, 3, 10, 43, 25, 39, 41, 45, 15, 21, 8, 18, 2, 61, 56, 14]

/-- Lane i = x + 5y of a state, which is one number of 1,600 bits. -/
def lane (a i : Nat) : Nat := a >>> (64 * i) % 2 ^ 64

/-- `n` lanes put together. -/
def lanes (f : Nat → Nat) : (n : Nat) → Nat
  | 0 => 0
  | n + 1 => lanes f n ||| f n <<< (64 * n)

/-- A lane rotated left by `k` places. -/
def laneRot (v k : Nat) : Nat := (v <<< k) % 2 ^ 64 ||| v >>> (64 - k)

/-- One round of Keccak-f[1600]. -/
def keccakRound (a rc : Nat) : Nat :=
  let c := lanes (fun x => lane a x ^^^ lane a (x + 5) ^^^ lane a (x + 10) ^^^ lane a (x + 15) ^^^ lane a (x + 20)) 5
  let t := lanes (fun i => lane a i ^^^ lane c ((i + 4) % 5) ^^^ laneRot (lane c ((i + 1) % 5)) 1) 25
  let b := lanes (fun i =>
    let k := (i % 5 + 3 * (i / 5)) % 5 + 5 * (i % 5)
    laneRot (lane t k) (keccakRho.getD k 0)) 25
  lanes (fun i =>
    lane b i ^^^ ((2 ^ 64 - 1 - lane b ((i + 1) % 5 + i / 5 * 5)) &&& lane b ((i + 2) % 5 + i / 5 * 5))) 25 ^^^ rc

/-- Keccak-f[1600]. -/
def keccakF (a : Nat) : Nat := keccakRC.foldl keccakRound a

/-- A block of 72 bytes absorbed. -/
def sha3Absorb (a : Nat) (block : List Byte) : Nat := keccakF (a ^^^ leAt block 0 72)

/-- The blocks of a padded message absorbed. -/
def sha3Blocks : (n a : Nat) → List Byte → Nat
  | 0, a, _ => a
  | n + 1, a, m => sha3Blocks n (sha3Absorb a (m.take 72)) (m.drop 72)

/-- SHA3-512. -/
def sha3_512 (m : List Byte) : List Byte :=
  let fill := 72 - m.length % 72
  let pad : List Byte := if fill = 1 then [0x86] else 0x06 :: (List.replicate (fill - 2) 0 ++ [0x80])
  leBytes 64 (sha3Blocks ((m.length + fill) / 72) 0 (m ++ pad) % 2 ^ 512)

/-- One byte into the reflected CRC-32 of polynomial 0x04C1_1DB7. -/
def crc32Step (c : Word) (b : Byte) : Word :=
  (List.range 8).foldl (fun x _ => if x.getLsbD 0 then (x >>> 1) ^^^ 0xEDB88320 else x >>> 1) (c ^^^ b.zeroExtend 32)

/-- CRC-32 (IEEE 802.3). -/
def crc32 (m : List Byte) : Word := ~~~(m.foldl crc32Step (BitVec.allOnes 32))

end Sys2Proof.Machine
end

