-- ==== Sys2Proof/Decode.lean ====
section
/-! DEFINITION. The encodings of the bundle slots (Tables 4.1 to 4.5, 5.2 to 5.10) and of a steering entry (Table 7.1):
a decoder that rejects what R118 and R212 reject, and an encoder; the table of commands gives its rows no bits, so no
word spells a command. -/

namespace Sys2Proof

/-- Bits lo to lo + n - 1 of a number. -/
def fld (w lo n : Nat) : Nat := w / 2 ^ lo % 2 ^ n

/-- Those bits as a bit vector. -/
def bitsAt (w lo n : Nat) : BitVec n := BitVec.ofNat n (w / 2 ^ lo)

/-- Whether those bits are all 0. -/
def zeroAt (w lo n : Nat) : Bool := fld w lo n == 0

/-- MASK and MINV (R148) at bits 55 to 52 of a vector slot. -/
def maskAt (w : Nat) : VMask := { mask := bitsAt w 53 3, minv := bitsAt w 52 1 }

/-- MASK and MINV in place. -/
def encMask (m : VMask) : Nat := m.mask.toNat * 2 ^ 53 + m.minv.toNat * 2 ^ 52

/-- Format SR read from a slot value; `none` when a reserved bit is set (R118). -/
def decFmtSR (w : Nat) : Option FmtSR :=
  if zeroAt w 0 29 then some { g := bitsAt w 44 4, sd := bitsAt w 39 5, sa := bitsAt w 34 5, sb := bitsAt w 29 5 } else none

/-- Format SR without its opcode. -/
def encFmtSR (f : FmtSR) : Nat := f.g.toNat * 2 ^ 44 + f.sd.toNat * 2 ^ 39 + f.sa.toNat * 2 ^ 34 + f.sb.toNat * 2 ^ 29

/-- Format SI read from a slot value; `none` when a reserved bit is set (R118). -/
def decFmtSI (w : Nat) : Option FmtSI :=
  if zeroAt w 32 2 then some { g := bitsAt w 44 4, sd := bitsAt w 39 5, sa := bitsAt w 34 5, imm := bitsAt w 0 32 } else none

/-- Format SI without its opcode. -/
def encFmtSI (f : FmtSI) : Nat := f.g.toNat * 2 ^ 44 + f.sd.toNat * 2 ^ 39 + f.sa.toNat * 2 ^ 34 + f.imm.toNat

/-- Format PC read from a slot value; `none` when a reserved bit is set (R118). -/
def decFmtPC (w : Nat) : Option FmtPC :=
  if zeroAt w 42 2 && zeroAt w 0 29 then some { g := bitsAt w 44 4, pd := bitsAt w 39 3, sa := bitsAt w 34 5, sb := bitsAt w 29 5 } else none

/-- Format PC without its opcode. -/
def encFmtPC (f : FmtPC) : Nat := f.g.toNat * 2 ^ 44 + f.pd.toNat * 2 ^ 39 + f.sa.toNat * 2 ^ 34 + f.sb.toNat * 2 ^ 29

/-- Format PCI read from a slot value; `none` when a reserved bit is set (R118). -/
def decFmtPCI (w : Nat) : Option FmtPCI :=
  if zeroAt w 42 2 && zeroAt w 32 2 then some { g := bitsAt w 44 4, pd := bitsAt w 39 3, sa := bitsAt w 34 5, imm := bitsAt w 0 32 } else none

/-- Format PCI without its opcode. -/
def encFmtPCI (f : FmtPCI) : Nat := f.g.toNat * 2 ^ 44 + f.pd.toNat * 2 ^ 39 + f.sa.toNat * 2 ^ 34 + f.imm.toNat

/-- Format PL read from a slot value; `none` when a reserved bit is set (R118). -/
def decFmtPL (w : Nat) : Option FmtPL :=
  if zeroAt w 42 2 && zeroAt w 37 2 && zeroAt w 0 29 then some { g := bitsAt w 44 4, pd := bitsAt w 39 3, pa := bitsAt w 34 3, na := bitsAt w 33 1, pb := bitsAt w 30 3, nb := bitsAt w 29 1 } else none

/-- Format PL without its opcode. -/
def encFmtPL (f : FmtPL) : Nat := f.g.toNat * 2 ^ 44 + f.pd.toNat * 2 ^ 39 + f.pa.toNat * 2 ^ 34 + f.na.toNat * 2 ^ 33 + f.pb.toNat * 2 ^ 30 + f.nb.toNat * 2 ^ 29

/-- Format MK read from a slot value; `none` when a reserved bit is set (R118). -/
def decFmtMK (w : Nat) : Option FmtMK :=
  if zeroAt w 38 1 && zeroAt w 0 34 then some { g := bitsAt w 44 4, sd := bitsAt w 39 5, kn := bitsAt w 34 4 } else none

/-- Format MK without its opcode. -/
def encFmtMK (f : FmtMK) : Nat := f.g.toNat * 2 ^ 44 + f.sd.toNat * 2 ^ 39 + f.kn.toNat * 2 ^ 34

/-- Format BR read from a slot value; `none` when a reserved bit is set (R118). -/
def decFmtBR (w : Nat) : Option FmtBR :=
  if zeroAt w 10 34 then some { g := bitsAt w 44 4, target := bitsAt w 0 10 } else none

/-- Format BR without its opcode. -/
def encFmtBR (f : FmtBR) : Nat := f.g.toNat * 2 ^ 44 + f.target.toNat

/-- Format JR read from a slot value; `none` when a reserved bit is set (R118). -/
def decFmtJR (w : Nat) : Option FmtJR :=
  if zeroAt w 39 5 && zeroAt w 0 34 then some { g := bitsAt w 44 4, sa := bitsAt w 34 5 } else none

/-- Format JR without its opcode. -/
def encFmtJR (f : FmtJR) : Nat := f.g.toNat * 2 ^ 44 + f.sa.toNat * 2 ^ 34

/-- Format LP read from a slot value; `none` when a reserved bit is set (R118). -/
def decFmtLP (w : Nat) : Option FmtLP :=
  if zeroAt w 39 1 && zeroAt w 10 24 then some { g := bitsAt w 44 4, kn := bitsAt w 40 4, sa := bitsAt w 34 5, end_ := bitsAt w 0 10 } else none

/-- Format LP without its opcode. -/
def encFmtLP (f : FmtLP) : Nat := f.g.toNat * 2 ^ 44 + f.kn.toNat * 2 ^ 40 + f.sa.toNat * 2 ^ 34 + f.end_.toNat

/-- Format LI read from a slot value; `none` when a reserved bit is set (R118). -/
def decFmtLI (w : Nat) : Option FmtLI :=
  if zeroAt w 34 6 && zeroAt w 10 4 then some { g := bitsAt w 44 4, kn := bitsAt w 40 4, count := bitsAt w 14 20, end_ := bitsAt w 0 10 } else none

/-- Format LI without its opcode. -/
def encFmtLI (f : FmtLI) : Nat := f.g.toNat * 2 ^ 44 + f.kn.toNat * 2 ^ 40 + f.count.toNat * 2 ^ 14 + f.end_.toNat

/-- Format SW read from a slot value; `none` when a reserved bit is set (R118). -/
def decFmtSW (w : Nat) : Option FmtSW :=
  if zeroAt w 10 32 then some { g := bitsAt w 44 4, slot := bitsAt w 42 2, entry := bitsAt w 0 10 } else none

/-- Format SW without its opcode. -/
def encFmtSW (f : FmtSW) : Nat := f.g.toNat * 2 ^ 44 + f.slot.toNat * 2 ^ 42 + f.entry.toNat

/-- Format RL read from a slot value; `none` when a reserved bit is set (R118). -/
def decFmtRL (w : Nat) : Option FmtRL :=
  if zeroAt w 0 27 then some { g := bitsAt w 44 4, slot := bitsAt w 42 2, bank := bitsAt w 37 5, trailer := bitsAt w 27 10 } else none

/-- Format RL without its opcode. -/
def encFmtRL (f : FmtRL) : Nat := f.g.toNat * 2 ^ 44 + f.slot.toNat * 2 ^ 42 + f.bank.toNat * 2 ^ 37 + f.trailer.toNat * 2 ^ 27

/-- Format OW read from a slot value; `none` when a reserved bit is set (R118). -/
def decFmtOW (w : Nat) : Option FmtOW :=
  if zeroAt w 21 23 && zeroAt w 14 2 && zeroAt w 2 6 then some { g := bitsAt w 44 4, first := bitsAt w 16 5, count := bitsAt w 8 6, code := bitsAt w 0 2 } else none

/-- Format OW without its opcode. -/
def encFmtOW (f : FmtOW) : Nat := f.g.toNat * 2 ^ 44 + f.first.toNat * 2 ^ 16 + f.count.toNat * 2 ^ 8 + f.code.toNat

/-- Format CY read from a slot value; `none` when a reserved bit is set (R118). -/
def decFmtCY (w : Nat) : Option FmtCY :=
  if zeroAt w 20 24 then some { g := bitsAt w 44 4, n := bitsAt w 0 20 } else none

/-- Format CY without its opcode. -/
def encFmtCY (f : FmtCY) : Nat := f.g.toNat * 2 ^ 44 + f.n.toNat

/-- Format SV read from a slot value; `none` when a reserved bit is set (R118). -/
def decFmtSV (w : Nat) : Option FmtSV :=
  if zeroAt w 0 15 then some { g := bitsAt w 44 4, dq := bitsAt w 42 2, dtile := bitsAt w 33 9, hop := bitsAt w 31 2, len := bitsAt w 28 3, vsrc := bitsAt w 23 5, tag := bitsAt w 15 8 } else none

/-- Format SV without its opcode. -/
def encFmtSV (f : FmtSV) : Nat := f.g.toNat * 2 ^ 44 + f.dq.toNat * 2 ^ 42 + f.dtile.toNat * 2 ^ 33 + f.hop.toNat * 2 ^ 31 + f.len.toNat * 2 ^ 28 + f.vsrc.toNat * 2 ^ 23 + f.tag.toNat * 2 ^ 15

/-- Format SS read from a slot value; `none` when a reserved bit is set (R118). -/
def decFmtSS (w : Nat) : Option FmtSS :=
  if zeroAt w 28 3 && zeroAt w 0 15 then some { g := bitsAt w 44 4, dq := bitsAt w 42 2, dtile := bitsAt w 33 9, hop := bitsAt w 31 2, ssrc := bitsAt w 23 5, tag := bitsAt w 15 8 } else none

/-- Format SS without its opcode. -/
def encFmtSS (f : FmtSS) : Nat := f.g.toNat * 2 ^ 44 + f.dq.toNat * 2 ^ 42 + f.dtile.toNat * 2 ^ 33 + f.hop.toNat * 2 ^ 31 + f.ssrc.toNat * 2 ^ 23 + f.tag.toNat * 2 ^ 15

/-- Format MV read from a slot value; `none` when a reserved bit is set (R118). -/
def decFmtMV (w : Nat) : Option FmtMV :=
  if zeroAt w 33 5 && zeroAt w 0 15 then some { g := bitsAt w 44 4, group := bitsAt w 38 6, hop := bitsAt w 31 2, len := bitsAt w 28 3, vsrc := bitsAt w 23 5, tag := bitsAt w 15 8 } else none

/-- Format MV without its opcode. -/
def encFmtMV (f : FmtMV) : Nat := f.g.toNat * 2 ^ 44 + f.group.toNat * 2 ^ 38 + f.hop.toNat * 2 ^ 31 + f.len.toNat * 2 ^ 28 + f.vsrc.toNat * 2 ^ 23 + f.tag.toNat * 2 ^ 15

/-- Format RV read from a slot value; `none` when a reserved bit is set (R118). -/
def decFmtRV (w : Nat) : Option FmtRV :=
  if zeroAt w 0 32 then some { g := bitsAt w 44 4, d := bitsAt w 39 5, sst := bitsAt w 34 5, hop := bitsAt w 32 2 } else none

/-- Format RV without its opcode. -/
def encFmtRV (f : FmtRV) : Nat := f.g.toNat * 2 ^ 44 + f.d.toNat * 2 ^ 39 + f.sst.toNat * 2 ^ 34 + f.hop.toNat * 2 ^ 32

/-- Format TP read from a slot value; `none` when a reserved bit is set (R118). -/
def decFmtTP (w : Nat) : Option FmtTP :=
  if zeroAt w 39 3 && zeroAt w 0 34 then some { g := bitsAt w 44 4, tq := bitsAt w 42 2, sa := bitsAt w 34 5 } else none

/-- Format TP without its opcode. -/
def encFmtTP (f : FmtTP) : Nat := f.g.toNat * 2 ^ 44 + f.tq.toNat * 2 ^ 42 + f.sa.toNat * 2 ^ 34

/-- Format TI read from a slot value; `none` when a reserved bit is set (R118). -/
def decFmtTI (w : Nat) : Option FmtTI :=
  if zeroAt w 32 10 then some { g := bitsAt w 44 4, tq := bitsAt w 42 2, imm := bitsAt w 0 32 } else none

/-- Format TI without its opcode. -/
def encFmtTI (f : FmtTI) : Nat := f.g.toNat * 2 ^ 44 + f.tq.toNat * 2 ^ 42 + f.imm.toNat

/-- Format TO read from a slot value; `none` when a reserved bit is set (R118). -/
def decFmtTO (w : Nat) : Option FmtTO :=
  if zeroAt w 34 5 && zeroAt w 0 32 then some { g := bitsAt w 44 4, sd := bitsAt w 39 5, tq := bitsAt w 32 2 } else none

/-- Format TO without its opcode. -/
def encFmtTO (f : FmtTO) : Nat := f.g.toNat * 2 ^ 44 + f.sd.toNat * 2 ^ 39 + f.tq.toNat * 2 ^ 32

/-- Format DM read from a slot value; `none` when a reserved bit is set (R118). -/
def decFmtDM (w : Nat) : Option FmtDM :=
  if zeroAt w 0 26 then some { g := bitsAt w 44 4, desc := bitsAt w 36 8, sa := bitsAt w 31 5, sb := bitsAt w 26 5 } else none

/-- Format DM without its opcode. -/
def encFmtDM (f : FmtDM) : Nat := f.g.toNat * 2 ^ 44 + f.desc.toNat * 2 ^ 36 + f.sa.toNat * 2 ^ 31 + f.sb.toNat * 2 ^ 26

/-- Format MW read from a slot value; `none` when a reserved bit is set (R118). -/
def decFmtMW (w : Nat) : Option FmtMW :=
  if zeroAt w 0 19 then some { g := bitsAt w 28 4, wb := bitsAt w 27 1, fmt := bitsAt w 24 3, sa := bitsAt w 19 5 } else none

/-- Format MW without its opcode. -/
def encFmtMW (f : FmtMW) : Nat := f.g.toNat * 2 ^ 28 + f.wb.toNat * 2 ^ 27 + f.fmt.toNat * 2 ^ 24 + f.sa.toNat * 2 ^ 19

/-- Format MF read from a slot value; `none` when a reserved bit is set (R118). -/
def decFmtMF (w : Nat) : Option FmtMF :=
  if zeroAt w 27 1 && zeroAt w 0 5 then some { g := bitsAt w 28 4, fmt := bitsAt w 24 3, sa := bitsAt w 19 5, sb := bitsAt w 14 5, n := bitsAt w 5 9 } else none

/-- Format MF without its opcode. -/
def encFmtMF (f : FmtMF) : Nat := f.g.toNat * 2 ^ 28 + f.fmt.toNat * 2 ^ 24 + f.sa.toNat * 2 ^ 19 + f.sb.toNat * 2 ^ 14 + f.n.toNat * 2 ^ 5

/-- Format MM read from a slot value; `none` when a reserved bit is set (R118). -/
def decFmtMM (w : Nat) : Option FmtMM :=
  if zeroAt w 24 2 && zeroAt w 0 15 then some { g := bitsAt w 28 4, wb := bitsAt w 27 1, mode := bitsAt w 26 1, row0 := bitsAt w 15 9 } else none

/-- Format MM without its opcode. -/
def encFmtMM (f : FmtMM) : Nat := f.g.toNat * 2 ^ 28 + f.wb.toNat * 2 ^ 27 + f.mode.toNat * 2 ^ 26 + f.row0.toNat * 2 ^ 15

/-- Format V3 read from a slot value; `none` when a reserved bit is set (R118). -/
def decFmtV3 (w : Nat) : Option FmtV3 :=
  if zeroAt w 0 30 then some { m := maskAt w, vd := bitsAt w 47 5, va := bitsAt w 42 5, vb := bitsAt w 37 5, vc := bitsAt w 32 5, bs := bitsAt w 31 1, cs := bitsAt w 30 1 } else none

/-- Format V3 without its opcode. -/
def encFmtV3 (f : FmtV3) : Nat := encMask f.m + f.vd.toNat * 2 ^ 47 + f.va.toNat * 2 ^ 42 + f.vb.toNat * 2 ^ 37 + f.vc.toNat * 2 ^ 32 + f.bs.toNat * 2 ^ 31 + f.cs.toNat * 2 ^ 30

/-- Format VI read from a slot value; `none` when a reserved bit is set (R118). -/
def decFmtVI (w : Nat) : Option FmtVI :=
  if zeroAt w 32 10 then some { m := maskAt w, vd := bitsAt w 47 5, va := bitsAt w 42 5, imm := bitsAt w 0 32 } else none

/-- Format VI without its opcode. -/
def encFmtVI (f : FmtVI) : Nat := encMask f.m + f.vd.toNat * 2 ^ 47 + f.va.toNat * 2 ^ 42 + f.imm.toNat

/-- Format VA read from a slot value; `none` when a reserved bit is set (R118). -/
def decFmtVA (w : Nat) : Option FmtVA :=
  if zeroAt w 0 26 then some { m := maskAt w, vd := bitsAt w 47 5, row := bitsAt w 38 9, vb := bitsAt w 33 5, vc := bitsAt w 28 5, bs := bitsAt w 27 1, cs := bitsAt w 26 1 } else none

/-- Format VA without its opcode. -/
def encFmtVA (f : FmtVA) : Nat := encMask f.m + f.vd.toNat * 2 ^ 47 + f.row.toNat * 2 ^ 38 + f.vb.toNat * 2 ^ 33 + f.vc.toNat * 2 ^ 28 + f.bs.toNat * 2 ^ 27 + f.cs.toNat * 2 ^ 26

/-- Format VU read from a slot value; `none` when a reserved bit is set (R118). -/
def decFmtVU (w : Nat) : Option FmtVU :=
  if zeroAt w 40 2 && zeroAt w 0 37 then some { m := maskAt w, vd := bitsAt w 47 5, va := bitsAt w 42 5, fmt := bitsAt w 37 3 } else none

/-- Format VU without its opcode. -/
def encFmtVU (f : FmtVU) : Nat := encMask f.m + f.vd.toNat * 2 ^ 47 + f.va.toNat * 2 ^ 42 + f.fmt.toNat * 2 ^ 37

/-- Format OC read from a slot value; `none` when a reserved bit is set (R118). -/
def decFmtOC (w : Nat) : Option FmtOC :=
  if zeroAt w 0 12 then some { m := maskAt w, vd := bitsAt w 47 5, as := bitsAt w 46 1, src := bitsAt w 37 9, vsc := bitsAt w 32 5, vbi := bitsAt w 27 5, scl := bitsAt w 22 5, fmt := bitsAt w 19 3, sat := bitsAt w 18 1, clip := bitsAt w 17 1, ssc := bitsAt w 16 1, sbi := bitsAt w 15 1, qsel := bitsAt w 13 2, itype := bitsAt w 12 1 } else none

/-- Format OC without its opcode. -/
def encFmtOC (f : FmtOC) : Nat := encMask f.m + f.vd.toNat * 2 ^ 47 + f.as.toNat * 2 ^ 46 + f.src.toNat * 2 ^ 37 + f.vsc.toNat * 2 ^ 32 + f.vbi.toNat * 2 ^ 27 + f.scl.toNat * 2 ^ 22 + f.fmt.toNat * 2 ^ 19 + f.sat.toNat * 2 ^ 18 + f.clip.toNat * 2 ^ 17 + f.ssc.toNat * 2 ^ 16 + f.sbi.toNat * 2 ^ 15 + f.qsel.toNat * 2 ^ 13 + f.itype.toNat * 2 ^ 12

/-- Format VC read from a slot value; `none` when a reserved bit is set (R118). -/
def decFmtVC (w : Nat) : Option FmtVC :=
  if zeroAt w 47 2 && zeroAt w 32 5 && zeroAt w 0 31 then some { m := maskAt w, vmd := bitsAt w 49 3, va := bitsAt w 42 5, vb := bitsAt w 37 5, bs := bitsAt w 31 1 } else none

/-- Format VC without its opcode. -/
def encFmtVC (f : FmtVC) : Nat := encMask f.m + f.vmd.toNat * 2 ^ 49 + f.va.toNat * 2 ^ 42 + f.vb.toNat * 2 ^ 37 + f.bs.toNat * 2 ^ 31

/-- Format ML read from a slot value; `none` when a reserved bit is set (R118). -/
def decFmtML (w : Nat) : Option FmtML :=
  if zeroAt w 47 2 && zeroAt w 0 39 then some { m := maskAt w, vmd := bitsAt w 49 3, vma := bitsAt w 44 3, na := bitsAt w 43 1, vmb := bitsAt w 40 3, nb := bitsAt w 39 1 } else none

/-- Format ML without its opcode. -/
def encFmtML (f : FmtML) : Nat := encMask f.m + f.vmd.toNat * 2 ^ 49 + f.vma.toNat * 2 ^ 44 + f.na.toNat * 2 ^ 43 + f.vmb.toNat * 2 ^ 40 + f.nb.toNat * 2 ^ 39

/-- Format RD read from a slot value; `none` when a reserved bit is set (R118). -/
def decFmtRD (w : Nat) : Option FmtRD :=
  if zeroAt w 0 42 then some { m := maskAt w, vd := bitsAt w 47 5, va := bitsAt w 42 5 } else none

/-- Format RD without its opcode. -/
def encFmtRD (f : FmtRD) : Nat := encMask f.m + f.vd.toNat * 2 ^ 47 + f.va.toNat * 2 ^ 42

/-- Format LU read from a slot value; `none` when a reserved bit is set (R118). -/
def decFmtLU (w : Nat) : Option FmtLU :=
  if zeroAt w 0 37 then some { m := maskAt w, vd := bitsAt w 47 5, va := bitsAt w 42 5, vt := bitsAt w 37 5 } else none

/-- Format LU without its opcode. -/
def encFmtLU (f : FmtLU) : Nat := encMask f.m + f.vd.toNat * 2 ^ 47 + f.va.toNat * 2 ^ 42 + f.vt.toNat * 2 ^ 37

/-- Format SM read from a slot value; `none` when a reserved bit is set (R118). -/
def decFmtSM (w : Nat) : Option FmtSM :=
  if zeroAt w 0 23 then some { m := maskAt w, vd := bitsAt w 47 5, sk := bitsAt w 42 5, st := bitsAt w 37 5, sdr := bitsAt w 32 5, purp := bitsAt w 24 8, u := bitsAt w 23 1 } else none

/-- Format SM without its opcode. -/
def encFmtSM (f : FmtSM) : Nat := encMask f.m + f.vd.toNat * 2 ^ 47 + f.sk.toNat * 2 ^ 42 + f.st.toNat * 2 ^ 37 + f.sdr.toNat * 2 ^ 32 + f.purp.toNat * 2 ^ 24 + f.u.toNat * 2 ^ 23

/-- Format EX read from a slot value; `none` when a reserved bit is set (R118). -/
def decFmtEX (w : Nat) : Option FmtEX :=
  if zeroAt w 0 36 then some { m := maskAt w, sd := bitsAt w 47 5, va := bitsAt w 42 5, lane := bitsAt w 36 6 } else none

/-- Format EX without its opcode. -/
def encFmtEX (f : FmtEX) : Nat := encMask f.m + f.sd.toNat * 2 ^ 47 + f.va.toNat * 2 ^ 42 + f.lane.toNat * 2 ^ 36

/-- Format FL read from a slot value; `none` when a reserved bit is set (R118). -/
def decFmtFL (w : Nat) : Option FmtFL :=
  if zeroAt w 0 46 then some { m := maskAt w, vd := bitsAt w 47 5, sel := bitsAt w 46 1 } else none

/-- Format FL without its opcode. -/
def encFmtFL (f : FmtFL) : Nat := encMask f.m + f.vd.toNat * 2 ^ 47 + f.sel.toNat * 2 ^ 46

/-- Format LQ read from a slot value; `none` when a reserved bit is set (R118). -/
def decFmtLQ (w : Nat) : Option FmtLQ :=
  if zeroAt w 14 2 then some { g := bitsAt w 28 4, vd := bitsAt w 23 5, q := bitsAt w 21 2, sa := bitsAt w 16 5, off := bitsAt w 0 14 } else none

/-- Format LQ without its opcode. -/
def encFmtLQ (f : FmtLQ) : Nat := f.g.toNat * 2 ^ 28 + f.vd.toNat * 2 ^ 23 + f.q.toNat * 2 ^ 21 + f.sa.toNat * 2 ^ 16 + f.off.toNat

/-- Format LPI read from a slot value; `none` when a reserved bit is set (R118). -/
def decFmtLPI (w : Nat) : Option FmtLPI :=
  if zeroAt w 0 11 then some { g := bitsAt w 28 4, vd := bitsAt w 23 5, q := bitsAt w 21 2, sa := bitsAt w 16 5, sb := bitsAt w 11 5 } else none

/-- Format LPI without its opcode. -/
def encFmtLPI (f : FmtLPI) : Nat := f.g.toNat * 2 ^ 28 + f.vd.toNat * 2 ^ 23 + f.q.toNat * 2 ^ 21 + f.sa.toNat * 2 ^ 16 + f.sb.toNat * 2 ^ 11

/-- Format LS read from a slot value; `none` when a reserved bit is set (R118). -/
def decFmtLS (w : Nat) : Option FmtLS :=
  if zeroAt w 21 2 && zeroAt w 14 2 then some { g := bitsAt w 28 4, sd := bitsAt w 23 5, sa := bitsAt w 16 5, off := bitsAt w 0 14 } else none

/-- Format LS without its opcode. -/
def encFmtLS (f : FmtLS) : Nat := f.g.toNat * 2 ^ 28 + f.sd.toNat * 2 ^ 23 + f.sa.toNat * 2 ^ 16 + f.off.toNat

/-! ### The scalar and control slot (Table 4.3) -/

/-- An opcode, its operation and the reading of its fields. -/
def aluOps : List (Nat × AluOp) :=
  [(0x01, .add), (0x02, .sub), (0x03, .mul), (0x04, .mulhu), (0x05, .and), (0x06, .or), (0x07, .xor), (0x08, .shl),
   (0x09, .shr), (0x0A, .sra), (0x0B, .min), (0x0C, .max), (0x0D, .minu), (0x0E, .maxu)]

/-- The opcodes of the immediate forms. -/
def aluImmOps : List (Nat × AluImmOp) :=
  [(0x11, .add), (0x13, .mul), (0x15, .and), (0x16, .or), (0x17, .xor), (0x18, .shl), (0x19, .shr), (0x1A, .sra)]

/-- CMP and CMPI in their order from the first opcode. -/
def relOps (base : Nat) : List (Nat × Rel) :=
  [(base, .eq), (base + 1, .ne), (base + 2, .lt), (base + 3, .le), (base + 4, .ltu), (base + 5, .leu)]

/-- PAND, POR, PXOR from 0x30, VMAND, VMOR, VMXOR from 0x48. -/
def logicOps (base : Nat) : List (Nat × LogicOp) := [(base, .and), (base + 1, .or), (base + 2, .xor)]

/-- The operation listed under an opcode. -/
def opAt {α : Type} : List (Nat × α) → Nat → Option α
  | [], _ => none
  | (k, v) :: t, i => if k = i then some v else opAt t i

/-- The opcode of an operation (0 for one not listed). -/
def opcodeOf {α : Type} [DecidableEq α] : List (Nat × α) → α → Nat
  | [], _ => 0
  | (k, v) :: t, x => if v = x then k else opcodeOf t x

/-- The immediate of SHLI, SHRI and SRAI has bits 31 to 5 at 0 (Table 4.3). -/
def immOk (op : AluImmOp) (imm : Word) : Bool :=
  match op with
  | .shl => decide (imm.toNat < 32)
  | .shr => decide (imm.toNat < 32)
  | .sra => decide (imm.toNat < 32)
  | _ => true

/-- The scalar and control slot decoded; `none` for what PLAN_LOAD refuses (R118). -/
def decodeScalar (w : Nat) : Option ScalarOp :=
  let opc := fld w 48 8
  if opc = 0 then (if w = 0 then some .nop else none)
  else if opc < 0x0F then (opAt aluOps opc).bind (fun op => (decFmtSR w).map (ScalarOp.alu op))
  else if opc = 0x1F then
    (decFmtSI w).bind (fun f => if f.sa = 0 then some (ScalarOp.movi f.g f.sd f.imm) else none)
  else if opc < 0x1F then
    (opAt aluImmOps opc).bind (fun op => (decFmtSI w).bind (fun f =>
      if immOk op f.imm then some (ScalarOp.alui op f) else none))
  else if opc < 0x28 then (opAt (relOps 0x20) opc).bind (fun r => (decFmtPC w).map (ScalarOp.cmp r))
  else if opc < 0x30 then (opAt (relOps 0x28) opc).bind (fun r => (decFmtPCI w).map (ScalarOp.cmpi r))
  else if opc < 0x38 then (opAt (logicOps 0x30) opc).bind (fun op => (decFmtPL w).map (ScalarOp.plog op))
  else if opc = 0x38 then (decFmtMK w).map ScalarOp.movk
  else if opc = 0x39 then
    (decFmtSR w).bind (fun f => if f.sa = 0 ∧ f.sb = 0 then some (ScalarOp.rdid f.g f.sd) else none)
  else if opc = 0x40 then (decFmtBR w).map ScalarOp.br
  else if opc = 0x41 then (decFmtBR w).map ScalarOp.call
  else if opc = 0x42 then (decFmtJR w).map ScalarOp.jr
  else if opc = 0x44 then (decFmtLP w).map ScalarOp.loop
  else if opc = 0x45 then (decFmtLI w).map ScalarOp.loopi
  else if opc = 0x48 then (decFmtSW w).map ScalarOp.switch
  else if opc = 0x49 then (decFmtRL w).map ScalarOp.reload
  else if opc = 0x4C then (decFmtOW w).map ScalarOp.ownr
  else if opc = 0x50 then (decFmtCY w).map ScalarOp.idle
  else if opc = 0x51 then (decFmtCY w).map ScalarOp.waitc
  else if opc = 0x52 then (if zeroAt w 0 44 then some (ScalarOp.endwork (bitsAt w 44 4)) else none)
  else none

/-- An opcode in the scalar or exchange slot. -/
def op56 (n : Nat) : Nat := n * 2 ^ 48

/-- The scalar and control slot encoded. -/
def encodeScalar : ScalarOp → Nat
  | .nop => 0
  | .alu op f => op56 (opcodeOf aluOps op) + encFmtSR f
  | .alui op f => op56 (opcodeOf aluImmOps op) + encFmtSI f
  | .movi g sd imm => op56 0x1F + encFmtSI { g := g, sd := sd, sa := 0, imm := imm }
  | .cmp r f => op56 (opcodeOf (relOps 0x20) r) + encFmtPC f
  | .cmpi r f => op56 (opcodeOf (relOps 0x28) r) + encFmtPCI f
  | .plog op f => op56 (opcodeOf (logicOps 0x30) op) + encFmtPL f
  | .movk f => op56 0x38 + encFmtMK f
  | .rdid g sd => op56 0x39 + encFmtSR { g := g, sd := sd, sa := 0, sb := 0 }
  | .br f => op56 0x40 + encFmtBR f
  | .call f => op56 0x41 + encFmtBR f
  | .jr f => op56 0x42 + encFmtJR f
  | .loop f => op56 0x44 + encFmtLP f
  | .loopi f => op56 0x45 + encFmtLI f
  | .switch f => op56 0x48 + encFmtSW f
  | .reload f => op56 0x49 + encFmtRL f
  | .ownr f => op56 0x4C + encFmtOW f
  | .idle f => op56 0x50 + encFmtCY f
  | .waitc f => op56 0x51 + encFmtCY f
  | .endwork g => op56 0x52 + g.toNat * 2 ^ 44

/-! ### The exchange slot (Table 4.5) -/

/-- The exchange slot decoded. -/
def decodeExch (w : Nat) : Option ExchOp :=
  let opc := fld w 48 8
  if opc = 0 then (if w = 0 then some .nop else none)
  else if opc = 0x01 then (decFmtSV w).map ExchOp.sendV
  else if opc = 0x02 then (decFmtSS w).map ExchOp.sendS
  else if opc = 0x03 then (decFmtMV w).map ExchOp.msendV
  else if opc = 0x08 then (decFmtRV w).map ExchOp.recvV
  else if opc = 0x09 then (decFmtRV w).map ExchOp.recvS
  else if opc = 0x10 then (decFmtTP w).map ExchOp.tpush
  else if opc = 0x11 then (decFmtTI w).map ExchOp.tpushi
  else if opc = 0x12 then (decFmtTO w).map ExchOp.tpop
  else if opc = 0x18 then (decFmtDM w).map ExchOp.dma
  else none

/-- The exchange slot encoded. -/
def encodeExch : ExchOp → Nat
  | .nop => 0
  | .sendV f => op56 0x01 + encFmtSV f
  | .sendS f => op56 0x02 + encFmtSS f
  | .msendV f => op56 0x03 + encFmtMV f
  | .recvV f => op56 0x08 + encFmtRV f
  | .recvS f => op56 0x09 + encFmtRV f
  | .tpush f => op56 0x10 + encFmtTP f
  | .tpushi f => op56 0x11 + encFmtTI f
  | .tpop f => op56 0x12 + encFmtTO f
  | .dma f => op56 0x18 + encFmtDM f

/-! ### The matrix slot (Table 5.3) -/

/-- The matrix slot decoded. -/
def decodeMat (w : Nat) : Option MatOp :=
  let opc := fld w 32 8
  if opc = 0 then (if w = 0 then some .nop else none)
  else if opc = 0x01 then (decFmtMW w).map MatOp.mldw
  else if opc = 0x02 then (decFmtMF w).map MatOp.mfeed
  else if opc = 0x03 then (decFmtMM w).map MatOp.mmul
  else none

/-- An opcode in the matrix or load/store slot. -/
def op40 (n : Nat) : Nat := n * 2 ^ 32

/-- The matrix slot encoded. -/
def encodeMat : MatOp → Nat
  | .nop => 0
  | .mldw f => op40 0x01 + encFmtMW f
  | .mfeed f => op40 0x02 + encFmtMF f
  | .mmul f => op40 0x03 + encFmtMM f

/-! ### The vector slot (Table 5.6) -/

/-- The opcodes of format V3. -/
def v3Ops : List (Nat × V3Op) :=
  [(0x01, .add), (0x02, .sub), (0x03, .mul), (0x04, .fma), (0x05, .fms), (0x06, .fnma), (0x07, .min), (0x08, .max),
   (0x09, .abs), (0x0A, .neg), (0x0B, .mov), (0x10, .rcp), (0x11, .rsqrt), (0x12, .sqrt), (0x13, .exp2), (0x14, .log2),
   (0x28, .iadd), (0x29, .isub), (0x2A, .imul), (0x2B, .and), (0x2C, .or), (0x2D, .xor), (0x2E, .shl), (0x2F, .shr),
   (0x30, .sra), (0x31, .imin), (0x32, .imax), (0x38, .cvtF2I), (0x39, .cvtI2F)]

/-- The opcodes of format VI. -/
def viOps : List (Nat × VIOp) := [(0x18, .addi), (0x19, .muli), (0x1A, .movi)]

/-- The opcodes of format VA. -/
def vaOps : List (Nat × VAOp) := [(0x20, .rda), (0x21, .add), (0x22, .mul), (0x23, .fma)]

/-- The opcodes of the compares. -/
def vcmpOps : List (Nat × VCmpOp) :=
  [(0x40, .eq), (0x41, .lt), (0x42, .le), (0x43, .un), (0x44, .ieq), (0x45, .ilt), (0x46, .iltu)]

/-- The opcodes of the reductions. -/
def redOps : List (Nat × RedOp) := [(0x50, .sum), (0x51, .max), (0x52, .min), (0x53, .argmax)]

/-- Operands that a V3 operation uses: A, then B, then C (Table 5.6). -/
def v3Uses : V3Op → Nat
  | .fma => 3 | .fms => 3 | .fnma => 3
  | .abs => 1 | .neg => 1 | .mov => 1 | .rcp => 1 | .rsqrt => 1 | .sqrt => 1 | .exp2 => 1 | .log2 => 1
  | .cvtF2I => 1 | .cvtI2F => 1
  | _ => 2

/-- The fields that a V3 operation does not use are 0 (R159). -/
def v3Ok (op : V3Op) (f : FmtV3) : Bool :=
  (decide (2 ≤ v3Uses op) || (f.vb == 0 && f.bs == 0)) && (decide (3 ≤ v3Uses op) || (f.vc == 0 && f.cs == 0))

/-- The fields that a VA operation does not use are 0 (R159, Table 5.6). -/
def vaOk (op : VAOp) (f : FmtVA) : Bool :=
  match op with
  | .rda => f.vb == 0 && f.vc == 0 && f.bs == 0 && f.cs == 0
  | .fma => true
  | _ => f.vc == 0 && f.cs == 0

/-- VMOVI has VA at 0 (Table 5.6). -/
def viOk (op : VIOp) (f : FmtVI) : Bool := op != .movi || f.va == 0

/-- The fields of OCVT that must be 0 (R159, R166, Table 5.8). -/
def ocOk (f : FmtOC) : Bool :=
  (f.clip == 1 || f.scl == 0) && (f.as == 1 || (decide (f.src.toNat < 32) && f.itype == 0)) &&
  (f.fmt != 0 || f.qsel == 0) && ((f.fmt != 1 && f.fmt != 2) || f.qsel.toNat % 2 == 0)

/-- Mask logic has MASK and MINV at 0 (R163). -/
def mlOk (f : FmtML) : Bool := f.m.mask == 0 && f.m.minv == 0

/-- The vector slot decoded. -/
def decodeVec (w : Nat) : Option VecOp :=
  let opc := fld w 56 8
  if opc = 0 then (if w = 0 then some .nop else none)
  else match opAt v3Ops opc with
  | some op => (decFmtV3 w).bind (fun f => if v3Ok op f then some (VecOp.v3 op f) else none)
  | none =>
  match opAt viOps opc with
  | some op => (decFmtVI w).bind (fun f => if viOk op f then some (VecOp.vi op f) else none)
  | none =>
  match opAt vaOps opc with
  | some op => (decFmtVA w).bind (fun f => if vaOk op f then some (VecOp.va op f) else none)
  | none =>
  match opAt vcmpOps opc with
  | some op => (decFmtVC w).map (VecOp.cmp op)
  | none =>
  match opAt (logicOps 0x48) opc with
  | some op => (decFmtML w).bind (fun f => if mlOk f then some (VecOp.mlog op f) else none)
  | none =>
  match opAt redOps opc with
  | some op => (decFmtRD w).map (VecOp.red op)
  | none =>
    if opc = 0x3A then (decFmtVU w).map VecOp.unpk
    else if opc = 0x3B then (decFmtOC w).bind (fun f => if ocOk f then some (VecOp.ocvt f) else none)
    else if opc = 0x58 then (decFmtLU w).map VecOp.lut
    else if opc = 0x60 then (decFmtSM w).map VecOp.sample
    else if opc = 0x68 then (decFmtEX w).map VecOp.ext
    else if opc = 0x69 then (decFmtFL w).map VecOp.frd
    else if opc = 0x6A then
      (decFmtFL w).bind (fun f => if f.vd = 0 then some (VecOp.fclr f.m f.sel) else none)
    else none

/-- An opcode in the vector slot. -/
def op64 (n : Nat) : Nat := n * 2 ^ 56

/-- The vector slot encoded. -/
def encodeVec : VecOp → Nat
  | .nop => 0
  | .v3 op f => op64 (opcodeOf v3Ops op) + encFmtV3 f
  | .vi op f => op64 (opcodeOf viOps op) + encFmtVI f
  | .va op f => op64 (opcodeOf vaOps op) + encFmtVA f
  | .unpk f => op64 0x3A + encFmtVU f
  | .ocvt f => op64 0x3B + encFmtOC f
  | .cmp op f => op64 (opcodeOf vcmpOps op) + encFmtVC f
  | .mlog op f => op64 (opcodeOf (logicOps 0x48) op) + encFmtML f
  | .red op f => op64 (opcodeOf redOps op) + encFmtRD f
  | .lut f => op64 0x58 + encFmtLU f
  | .sample f => op64 0x60 + encFmtSM f
  | .ext f => op64 0x68 + encFmtEX f
  | .frd f => op64 0x69 + encFmtFL f
  | .fclr m sel => op64 0x6A + encFmtFL { m := m, vd := 0, sel := sel }

/-! ### The load/store slot (Table 5.10) -/

/-- The load/store slot decoded. -/
def decodeLs (w : Nat) : Option LsOp :=
  let opc := fld w 32 8
  if opc = 0 then (if w = 0 then some .nop else none)
  else if opc = 0x01 then (decFmtLQ w).map LsOp.vldq
  else if opc = 0x02 then (decFmtLPI w).map LsOp.vldqP
  else if opc = 0x03 then (decFmtLQ w).map LsOp.vstq
  else if opc = 0x04 then (decFmtLPI w).map LsOp.vstqP
  else if opc = 0x05 then (decFmtLQ w).bind (fun f => if f.q = 0 then some (LsOp.vldb f) else none)
  else if opc = 0x06 then (decFmtLQ w).bind (fun f => if f.q = 0 then some (LsOp.vldbX f) else none)
  else if opc = 0x07 then (decFmtLQ w).bind (fun f => if f.q.toNat < 2 then some (LsOp.vldh f) else none)
  else if opc = 0x08 then (decFmtLS w).map LsOp.sld
  else if opc = 0x09 then (decFmtLS w).map LsOp.sst
  else none

/-- The load/store slot encoded. -/
def encodeLs : LsOp → Nat
  | .nop => 0
  | .vldq f => op40 0x01 + encFmtLQ f
  | .vldqP f => op40 0x02 + encFmtLPI f
  | .vstq f => op40 0x03 + encFmtLQ f
  | .vstqP f => op40 0x04 + encFmtLPI f
  | .vldb f => op40 0x05 + encFmtLQ f
  | .vldbX f => op40 0x06 + encFmtLQ f
  | .vldh f => op40 0x07 + encFmtLQ f
  | .sld f => op40 0x08 + encFmtLS f
  | .sst f => op40 0x09 + encFmtLS f

/-! ### What the slots' fields may hold (R118, R135, R138, R139, R141, R151, R159, R165 to R167): what PLAN_LOAD refuses
with BAD_COMMAND besides what does not decode -/

/-- Whether a format code is one of `lo` to `hi` (Table 5.1). -/
def formatOk (lo hi : Nat) (f : BitVec 3) : Bool := decide (lo ≤ f.toNat ∧ f.toNat ≤ hi)

/-- Fields of the scalar and control slot. -/
def ScalarOp.legal : ScalarOp → Bool
  | .alui op f => immOk op f.imm
  | .ownr f => decide (1 ≤ f.count.toNat ∧ f.count.toNat ≤ 32 ∧ f.first.toNat + f.count.toNat ≤ 32)
  | _ => true

/-- Fields of the exchange slot. -/
def ExchOp.legal : ExchOp → Bool
  | .sendV f => decide (f.vsrc.toNat + f.len.toNat / 4 ≤ 31)
  | .sendS f => decide (f.ssrc.toNat % 8 = 0)
  | .msendV f => decide (f.vsrc.toNat + f.len.toNat / 4 ≤ 31)
  | .recvS f => decide (f.d.toNat % 8 = 0 ∧ (f.sst.toNat < f.d.toNat ∨ f.d.toNat + 7 < f.sst.toNat))
  | _ => true

/-- Fields of the matrix slot. -/
def MatOp.legal : MatOp → Bool
  | .mldw f => formatOk 1 6 f.fmt
  | .mfeed f => formatOk 1 5 f.fmt
  | _ => true

/-- Fields of the vector slot. -/
def VecOp.legal : VecOp → Bool
  | .v3 op f => v3Ok op f
  | .vi op f => viOk op f
  | .va op f => vaOk op f
  | .unpk f => formatOk 1 5 f.fmt
  | .ocvt f => ocOk f && formatOk 0 5 f.fmt && (f.clip == 0 || decide (f.scl.toNat % 2 = 0))
  | .mlog _ f => mlOk f
  | .lut f => decide (f.vt.toNat ≤ 28)
  | .sample f => decide (f.sk.toNat % 2 = 0)
  | _ => true

/-- Fields of the load/store slot (Table 5.10). -/
def LsOp.legal : LsOp → Bool
  | .vldb f => f.q == 0
  | .vldbX f => f.q == 0
  | .vldh f => decide (f.q.toNat < 2)
  | _ => true

/-- The fields of a bundle. -/
def Bundle.legal (b : Bundle) : Bool := b.vec.legal && b.mat.legal && b.ls.legal && b.exch.legal && b.scal.legal

/-! ### Bundles (Table 4.1) -/

/-- A bundle decoded from its 256 bits. -/
def decodeBundle (w : BitVec 256) : Option Bundle :=
  match decodeVec (fld w.toNat 192 64), decodeMat (fld w.toNat 152 40), decodeLs (fld w.toNat 112 40),
        decodeExch (fld w.toNat 56 56), decodeScalar (fld w.toNat 0 56) with
  | some v, some m, some l, some e, some s => some { vec := v, mat := m, ls := l, exch := e, scal := s }
  | _, _, _, _, _ => none

/-- A bundle encoded. -/
def encodeBundle (b : Bundle) : BitVec 256 :=
  BitVec.ofNat 256 (encodeVec b.vec * 2 ^ 192 + encodeMat b.mat * 2 ^ 152 + encodeLs b.ls * 2 ^ 112 +
    encodeExch b.exch * 2 ^ 56 + encodeScalar b.scal)

/-! ### Steering entries (Table 7.1) -/

/-- An action code (Table 7.2). -/
def actionAt (w lo : Nat) : SteerAction :=
  match fld w lo 2 with
  | 0 => .drop | 1 => .a | 2 => .b | _ => .both

/-- An action's code. -/
def actionCode : SteerAction → Nat
  | .drop => 0 | .a => 1 | .b => 2 | .both => 3

/-- An output read from its type and 13-bit target; `none` for a reserved code or a reserved bit (R212). DESIGN CHOICE (log 83): the
target bits that a type does not use count as reserved (R207). -/
def steerOutAt (ty tgt : Nat) : Option SteerOut :=
  match ty with
  | 0 => if tgt = 0 then some .none else none
  | 1 => if tgt < 4 then some (.tq (bitsAt tgt 0 2)) else none
  | 2 => some (.send (bitsAt tgt 11 2) (bitsAt tgt 9 2) (bitsAt tgt 0 9))
  | 3 => if zeroAt tgt 6 5 then some (.msend (bitsAt tgt 11 2) (bitsAt tgt 0 6)) else none
  | _ => none

/-- An output's type and target. -/
def steerOutCode : SteerOut → Nat × Nat
  | .none => (0, 0)
  | .tq q => (1, q.toNat)
  | .send h q t => (2, h.toNat * 2 ^ 11 + q.toNat * 2 ^ 9 + t.toNat)
  | .msend h g => (3, h.toNat * 2 ^ 11 + g.toNat)

/-- The data input a DSRC code names. -/
def dataSrcAt (d : Nat) : DataSrc := if d < 4 then .hopper (bitsAt d 0 2) else .tq (bitsAt (d - 4) 0 2)

/-- A data input's code. -/
def dataSrcCode : DataSrc → Nat
  | .hopper h => h.toNat
  | .tq q => 4 + q.toNat

/-- A steering entry decoded: `none` for a malformed entry, `some none` for an inert one (VALID = 0). -/
def decodeSteer (w : Nat) : Option (Option SteerEntry) :=
  if fld w 127 1 = 0 then (if w = 0 then some none else none)
  else if !(zeroAt w 124 3 && zeroAt w 32 31) then none
  else if fld w 118 1 = 1 && !zeroAt w 119 2 then none
  else if fld w 113 5 = 31 then none
  else match steerOutAt (fld w 102 3) (fld w 88 13), steerOutAt (fld w 85 3) (fld w 71 13) with
  | some oa, some ob =>
    some (some {
      dsrc := dataSrcAt (fld w 121 3), csrc := if fld w 118 1 = 1 then none else some (bitsAt w 119 2),
      shift := bitsAt w 113 5, act0 := actionAt w 111, act1 := actionAt w 109, act2 := actionAt w 107,
      act3 := actionAt w 105, outA := oa, payA := bitsAt w 101 1, outB := ob, payB := bitsAt w 84 1,
      tag := bitsAt w 63 8, const := bitsAt w 0 32 })
  | _, _ => none

/-- A steering entry encoded. -/
def encodeSteer (e : SteerEntry) : Nat :=
  let a := steerOutCode e.outA
  let b := steerOutCode e.outB
  2 ^ 127 + dataSrcCode e.dsrc * 2 ^ 121
    + (match e.csrc with | some q => q.toNat * 2 ^ 119 | none => 2 ^ 118)
    + e.shift.toNat * 2 ^ 113 + actionCode e.act0 * 2 ^ 111 + actionCode e.act1 * 2 ^ 109 + actionCode e.act2 * 2 ^ 107
    + actionCode e.act3 * 2 ^ 105 + a.1 * 2 ^ 102 + e.payA.toNat * 2 ^ 101 + a.2 * 2 ^ 88 + b.1 * 2 ^ 85
    + e.payB.toNat * 2 ^ 84 + b.2 * 2 ^ 71 + e.tag.toNat * 2 ^ 63 + e.const.toNat

/-- The command that a word spells by the bits of the command table: no row of it gives bits (log 11). -/
def decodeTableWord (_nbits _w : Nat) : Option Instr := none

end Sys2Proof
end

