-- ==== Sys2Proof/Machine/Float.lean ====
section
/-! DEFINITION. Number formats and exact arithmetic (ch. 06): values are decoded to exact numbers, computed with
exactly and rounded once (R182). -/

namespace Sys2Proof.Machine

/-- A floating-point format (Table 6.1): significand bits, bias, largest finite code, canonical NaN code (Table 6.6),
the infinity's code where there is one, and the position of the sign bit. -/
structure FloatFmt where
  sig : Nat
  bias : Nat
  maxFin : Nat
  nan : Nat
  inf : Option Nat
  sign : Nat

def fmtFP32 : FloatFmt := { sig := 23, bias := 127, maxFin := 0x7F7FFFFF, nan := 0x7FC00000, inf := some 0x7F800000, sign := 31 }
def fmtFP16 : FloatFmt := { sig := 10, bias := 15, maxFin := 0x7BFF, nan := 0x7E00, inf := some 0x7C00, sign := 15 }
def fmtBF16 : FloatFmt := { sig := 7, bias := 127, maxFin := 0x7F7F, nan := 0x7FC0, inf := some 0x7F80, sign := 15 }
def fmtE4M3 : FloatFmt := { sig := 3, bias := 7, maxFin := 0x7E, nan := 0x7F, inf := none, sign := 7 }
def fmtE5M2 : FloatFmt := { sig := 2, bias := 15, maxFin := 0x7B, nan := 0x7E, inf := some 0x7C, sign := 7 }
/-- E2M1, the MX4 element: it has neither infinity nor NaN (Table 6.1). -/
def fmtE2M1 : FloatFmt := { sig := 1, bias := 1, maxFin := 0x7, nan := 0, inf := none, sign := 3 }

/-- An exact value: a NaN (signalling or quiet), an infinity, or (−1)^neg × mant × 2^exp; `mant = 0` is a signed zero. -/
inductive Fp where
  | nan (signalling : Bool)
  | inf (neg : Bool)
  | fin (neg : Bool) (mant : Nat) (exp : Int)
  deriving DecidableEq, Repr

/-- The flags of Table 6.5 at the bits VFRD returns. -/
abbrev Flags := BitVec 5

def flagNV : Flags := 16
def flagOF : Flags := 8
def flagUF : Flags := 4
def flagNX : Flags := 2
def flagSAT : Flags := 1

/-- A code of a format decoded to its exact value (R177). -/
def FloatFmt.decode (f : FloatFmt) (code : Nat) : Fp :=
  let neg := code.testBit f.sign
  let mag := code % 2 ^ f.sign
  let e := mag / 2 ^ f.sig
  let m := mag % 2 ^ f.sig
  if mag > f.maxFin then
    match f.inf with
    | some i => if mag = i then .inf neg else .nan (!mag.testBit (f.sig - 1))
    | none => .nan false
  else if e = 0 then .fin neg m (1 - (f.bias : Int) - f.sig)
  else .fin neg (m + 2 ^ f.sig) ((e : Int) - f.bias - f.sig)

/-- An FP32 word decoded. -/
def dec32 (w : Word) : Fp := fmtFP32.decode w.toNat

/-- The magnitude code of the exact value mant × 2^exp (plus a positive part below one unit of `mant` when `sticky`)
rounded to nearest, ties to even, in a format whose exponent has no upper limit; whether that was inexact; whether the
value is tiny (R182, R196). -/
def FloatFmt.roundMag (f : FloatFmt) (mant : Nat) (exp : Int) (sticky : Bool) : Nat × Bool × Bool :=
  if mant = 0 then (0, sticky, true) else
  let emin : Int := 1 - f.bias
  let msb : Int := (Nat.log2 mant : Int) + exp
  let tiny := decide (msb < emin)
  let qe : Int := max msb emin - f.sig
  let sh : Int := qe - exp
  let (q, inexact) :=
    if sh ≤ 0 then (mant * 2 ^ (-sh).toNat, sticky)
    else
      let k := sh.toNat
      let q0 := mant / 2 ^ k
      let rem := mant % 2 ^ k
      let half := 2 ^ (k - 1)
      let up := decide (rem > half) || (decide (rem = half) && (sticky || q0 % 2 == 1))
      (q0 + (if up then 1 else 0), decide (rem ≠ 0) || sticky)
  (((qe - (emin - f.sig)).toNat) * 2 ^ f.sig + q, inexact, tiny)

/-- The sign bit put on a magnitude code. -/
def FloatFmt.withSign (f : FloatFmt) (neg : Bool) (mag : Nat) : Nat := mag + (if neg then 2 ^ f.sign else 0)

/-- The canonical quiet NaN (R183). -/
def nan32 : Word := 0x7FC00000

/-- An FP32 infinity. -/
def inf32 (neg : Bool) : Word := if neg then 0xFF800000 else 0x7F800000

/-- An FP32 zero. -/
def zero32 (neg : Bool) : Word := if neg then 0x80000000 else 0

/-- A nonzero exact value rounded to FP32 with its flags (R182). -/
def round32 (neg : Bool) (mant : Nat) (exp : Int) (sticky : Bool) : Word × Flags :=
  let (mag, inexact, tiny) := fmtFP32.roundMag mant exp sticky
  if mag > fmtFP32.maxFin then (inf32 neg, flagOF ||| flagNX)
  else (BitVec.ofNat 32 (fmtFP32.withSign neg mag),
        if inexact then (if tiny then flagUF ||| flagNX else flagNX) else 0)

/-- NV where an operand is a signalling NaN (R184). -/
def Fp.sigFlag : Fp → Flags
  | .nan true => flagNV
  | _ => 0

/-- Whether the value is a NaN. -/
def Fp.isNan : Fp → Bool
  | .nan _ => true
  | _ => false

/-- The value with its sign inverted; a NaN stays as it is. -/
def Fp.negate : Fp → Fp
  | .nan s => .nan s
  | .inf n => .inf (!n)
  | .fin n m e => .fin (!n) m e

/-- An exact value with its flags, before rounding. -/
abbrev FpF := Fp × Flags

/-- The exact product of two values (Table 6.3); the product of two finite values is not rounded here. -/
def Fp.mul (a b : Fp) : FpF :=
  match a, b with
  | .nan s, .nan t => (.nan false, if s || t then flagNV else 0)
  | .nan s, _ => (.nan false, if s then flagNV else 0)
  | _, .nan t => (.nan false, if t then flagNV else 0)
  | .inf n, .inf m => (.inf (n ^^ m), 0)
  | .inf n, .fin m mant _ => if mant = 0 then (.nan false, flagNV) else (.inf (n ^^ m), 0)
  | .fin n mant _, .inf m => if mant = 0 then (.nan false, flagNV) else (.inf (n ^^ m), 0)
  | .fin n x e, .fin m y f => (.fin (n ^^ m) (x * y) (e + f), 0)

/-- A finite value as a multiple of 2^e, for `e` at most its exponent. -/
def scaled (neg : Bool) (mant : Nat) (exp e : Int) : Int :=
  let v : Int := ((mant * 2 ^ (exp - e).toNat : Nat) : Int)
  if neg then -v else v

/-- The exact sum of two values (R187): an exact zero sum is +0 but for (−0) + (−0). -/
def Fp.add (a b : Fp) : FpF :=
  match a, b with
  | .nan s, .nan t => (.nan false, if s || t then flagNV else 0)
  | .nan s, _ => (.nan false, if s then flagNV else 0)
  | _, .nan t => (.nan false, if t then flagNV else 0)
  | .inf n, .inf m => if n == m then (.inf n, 0) else (.nan false, flagNV)
  | .inf n, .fin .. => (.inf n, 0)
  | .fin .., .inf m => (.inf m, 0)
  | .fin n x e, .fin m y f =>
    let g := min e f
    let v := scaled n x e g + scaled m y f g
    if v = 0 then (.fin (n && m && decide (x = 0) && decide (y = 0)) 0 0, 0)
    else (.fin (decide (v < 0)) v.natAbs g, 0)

/-- An exact value rounded to FP32; the flags so far are kept (R182, R183). -/
def Fp.round (x : FpF) : Word × Flags :=
  match x.1 with
  | .nan _ => (nan32, x.2)
  | .inf n => (inf32 n, x.2)
  | .fin n m e => if m = 0 then (zero32 n, x.2) else let r := round32 n m e false; (r.1, r.2 ||| x.2)

/-- FP32 addition (R187). -/
def fadd (a b : Word) : Word × Flags := Fp.round (Fp.add (dec32 a) (dec32 b))

/-- FP32 multiplication (R186). -/
def fmul (a b : Word) : Word × Flags := Fp.round (Fp.mul (dec32 a) (dec32 b))

/-- FP32 subtraction: the addition with the subtrahend's sign inverted (R187). -/
def fsub (a b : Word) : Word × Flags := Fp.round (Fp.add (dec32 a) (dec32 b).negate)

/-- ±(a × b) ± c with one rounding (R187): the product enters the addition unrounded. A NaN product keeps the flags
it raised, and a signalling addend raises NV of its own (R184). -/
def ffma (negP negC : Bool) (a b c : Word) : Word × Flags :=
  let p := Fp.mul (dec32 a) (dec32 b)
  let pv := if negP then p.1.negate else p.1
  let cv := if negC then (dec32 c).negate else dec32 c
  let q := Fp.add pv cv
  Fp.round (q.1, q.2 ||| p.2)

/-- The order of VCMP (R163) on values that are no NaN: less, with −0 equal to +0. -/
def Fp.lt (a b : Fp) : Bool :=
  match a, b with
  | .nan _, _ => false
  | _, .nan _ => false
  | .inf n, .inf m => n && !m
  | .inf n, .fin .. => n
  | .fin .., .inf m => !m
  | .fin n x e, .fin m y f => let g := min e f; decide (scaled n x e g < scaled m y f g)

/-- Equality by value (R163). -/
def Fp.eqv (a b : Fp) : Bool :=
  match a, b with
  | .nan _, _ => false
  | _, .nan _ => false
  | .inf n, .inf m => n == m
  | .inf _, .fin .. => false
  | .fin .., .inf _ => false
  | .fin n x e, .fin m y f => let g := min e f; decide (scaled n x e g = scaled m y f g)

/-- VMIN: the canonical NaN for a NaN operand, −0 below +0 (R160). -/
def fmin (a b : Word) : Word × Flags :=
  let x := dec32 a; let y := dec32 b
  if x.isNan || y.isNan then (nan32, x.sigFlag ||| y.sigFlag)
  else if x.lt y then (a, 0) else if y.lt x then (b, 0)
  else (if a.getLsbD 31 then a else b, 0)

/-- VMAX (R160). -/
def fmax (a b : Word) : Word × Flags :=
  let x := dec32 a; let y := dec32 b
  if x.isNan || y.isNan then (nan32, x.sigFlag ||| y.sigFlag)
  else if x.lt y then (b, 0) else if y.lt x then (a, 0)
  else (if a.getLsbD 31 then b else a, 0)

/-! ### Function instructions (R161, Table 5.7), correctly rounded -/

/-- floor(√n) for n < 4^bits, bit by bit. -/
def isqrtBits : (bits n acc : Nat) → Nat
  | 0, _, acc => acc
  | k + 1, n, acc => let t := acc + 2 ^ k; isqrtBits k n (if t * t ≤ n then t else acc)

/-- floor(√n). -/
def isqrt (n : Nat) : Nat := isqrtBits (Nat.log2 n / 2 + 1) n 0

/-- VRCP (Table 5.7). -/
def frcp (a : Word) : Word × Flags :=
  match dec32 a with
  | .nan s => (nan32, if s then flagNV else 0)
  | .inf n => (zero32 n, 0)
  | .fin n m e =>
    if m = 0 then (inf32 n, 0) else
    let k := Nat.log2 m + 60
    round32 n (2 ^ k / m) (-(e + k)) (decide (2 ^ k % m ≠ 0))

/-- VSQRT (Table 5.7). -/
def fsqrt (a : Word) : Word × Flags :=
  match dec32 a with
  | .nan s => (nan32, if s then flagNV else 0)
  | .inf n => if n then (nan32, flagNV) else (inf32 false, 0)
  | .fin n m e =>
    if m = 0 then (zero32 n, 0) else if n then (nan32, flagNV) else
    let k : Nat := 60 + (if e % 2 = 0 then 0 else 1)
    let v := m * 2 ^ k
    let r := isqrt v
    round32 false r ((e - k) / 2) (decide (r * r ≠ v))

/-- VRSQRT (Table 5.7): a zero gives an infinity of its sign. -/
def frsqrt (a : Word) : Word × Flags :=
  match dec32 a with
  | .nan s => (nan32, if s then flagNV else 0)
  | .inf n => if n then (nan32, flagNV) else (zero32 false, 0)
  | .fin n m e =>
    if m = 0 then (inf32 n, 0) else if n then (nan32, flagNV) else
    let k : Nat := 120 + (if e % 2 = 0 then 0 else 1)
    let r := isqrt (2 ^ k / m)
    round32 false r (-((e + k) / 2)) (decide (r * r * m ≠ 2 ^ k))

/-- The fixed-point places that VEXP2 computes with. -/
def expPlaces : Nat := 220

/-- 2^f × 2^places for the fraction f whose bits, first place first, are `bits`, from the root 2^(2^−1) on: `c` is the
running root 2^(2^−i) and `acc` the product so far. -/
def exp2Frac : List Bool → (c acc : Nat) → Nat
  | [], _, acc => acc
  | b :: t, c, acc =>
    exp2Frac t (isqrt (c * 2 ^ expPlaces)) (if b then acc * c / 2 ^ expPlaces else acc)

/-- VEXP2 (Table 5.7). An integer gives an exact power of two; any other finite operand gives an irrational number,
computed to 220 places. -/
def fexp2 (a : Word) : Word × Flags :=
  match dec32 a with
  | .nan s => (nan32, if s then flagNV else 0)
  | .inf n => if n then (zero32 false, 0) else (inf32 false, 0)
  | .fin n m e =>
    if m = 0 then (0x3F800000, 0) else
    let msb : Int := (Nat.log2 m : Int) + e
    if msb ≥ 8 then (if n then round32 false 1 (-400) true else round32 false 1 400 true)
    else if msb < -27 then (if n then round32 false (2 ^ 60 - 1) (-60) true else round32 false (2 ^ 60) (-60) true)
    else
      -- the operand as a multiple of 2^-60
      let v := scaled n m e (-60)
      let i := v / 2 ^ 60
      let f := (v % 2 ^ 60).toNat
      if f = 0 then round32 false 1 i false
      else
        let bits := (List.range 60).map (fun j => f.testBit (59 - j))
        let one := 2 ^ expPlaces
        round32 false (exp2Frac bits (isqrt (2 * one * one)) one) (i - expPlaces) true

/-- The places of the fraction that VLOG2 computes. -/
def logPlaces : Nat := 120

/-- Bits of log2 x by repeated squaring: `x` is a value in [1, 2) at 300 places. -/
def log2Bits : (n x acc : Nat) → Nat
  | 0, _, acc => acc
  | n + 1, x, acc =>
    let y := x * x / 2 ^ 300
    if y ≥ 2 ^ 301 then log2Bits n (y / 2) (2 * acc + 1) else log2Bits n y (2 * acc)

/-- VLOG2 (Table 5.7). A power of two gives an exact integer, 1.0 gives +0; any other operand an irrational number. -/
def flog2 (a : Word) : Word × Flags :=
  match dec32 a with
  | .nan s => (nan32, if s then flagNV else 0)
  | .inf n => if n then (nan32, flagNV) else (inf32 false, 0)
  | .fin n m e =>
    if m = 0 then (inf32 true, 0) else if n then (nan32, flagNV) else
    let l := Nat.log2 m
    let i : Int := (l : Int) + e
    if m = 2 ^ l then (if i = 0 then (0, 0) else round32 (decide (i < 0)) i.natAbs 0 false)
    else
      let f := log2Bits logPlaces (m * 2 ^ (300 - l)) 0
      if i ≥ 0 then round32 false (i.toNat * 2 ^ logPlaces + f) (-(logPlaces : Int)) true
      else round32 true (i.natAbs * 2 ^ logPlaces - f - 1) (-(logPlaces : Int)) true

/-! ### Conversions (R162, R196) -/

/-- An exact finite value rounded to the nearest integer, ties to even, and whether that was inexact. -/
def roundInt (neg : Bool) (mant : Nat) (exp : Int) : Int × Bool :=
  if exp ≥ 0 then (scaled neg mant exp 0, false) else
  let k := (-exp).toNat
  let q := mant / 2 ^ k
  let r := mant % 2 ^ k
  let up := decide (2 * r > 2 ^ k) || (decide (2 * r = 2 ^ k) && q % 2 == 1)
  let v : Int := ((q + (if up then 1 else 0) : Nat) : Int)
  (if neg then -v else v, decide (r ≠ 0))

/-- VCVT.F2I (R162). -/
def cvtF2I (a : Word) : Word × Flags :=
  match dec32 a with
  | .nan _ => (0, flagNV)
  | .inf n => (if n then 0x80000000 else 0x7FFFFFFF, flagSAT)
  | .fin n m e =>
    let (v, nx) := roundInt n m e
    if v > 2147483647 then (0x7FFFFFFF, flagSAT ||| flagNX)
    else if v < -2147483648 then (0x80000000, flagSAT ||| flagNX)
    else (BitVec.ofInt 32 v, if nx then flagNX else 0)

/-- VCVT.I2F (R162). -/
def cvtI2F (a : Word) : Word × Flags :=
  if a.toInt = 0 then (0, 0) else round32 (decide (a.toInt < 0)) a.toInt.natAbs 0 false

/-- The floating-point format of a format code, if it is one. -/
def ElemFmt.float : ElemFmt → Option FloatFmt
  | .fp32 => some fmtFP32
  | .fp16 => some fmtFP16
  | .bf16 => some fmtBF16
  | .e4m3 => some fmtE4M3
  | .e5m2 => some fmtE5M2
  | .int8 => none
  | .mx4 => some fmtE2M1

/-- Bytes of one element (Table 5.1); an MX4 element shares a byte. -/
def ElemFmt.size : ElemFmt → Nat
  | .fp32 => 4 | .fp16 => 2 | .bf16 => 2 | _ => 1

/-- Codes 0 to 6 of Table 5.1. -/
def ElemFmt.ofCode : Nat → Option ElemFmt
  | 0 => some .fp32 | 1 => some .fp16 | 2 => some .bf16 | 3 => some .e4m3 | 4 => some .e5m2 | 5 => some .int8
  | 6 => some .mx4 | _ => none

/-- A value that every format decodes exactly as an FP32 word (R162). -/
def Fp.exact32 (x : Fp) : Word :=
  match x with
  | .nan _ => nan32
  | .inf n => inf32 n
  | .fin n m e => if m = 0 then zero32 n else (round32 n m e false).1

/-- VUNPK (R162): the low bits of a lane in a format widened to FP32. -/
def unpack (f : ElemFmt) (a : Word) : Word × Flags :=
  match f.float with
  | none => ((cvtI2F ((a.truncate 8).signExtend 32)).1, 0)
  | some g => let x := g.decode (a.toNat % 2 ^ (8 * f.size)); (x.exact32, x.sigFlag)

/-- Conversion of an FP32 word to INT8, always saturating (R196). -/
def cvtInt8 (y : Word) : Nat × Flags :=
  match dec32 y with
  | .nan _ => (0, flagNV)
  | .inf n => (if n then 0x80 else 0x7F, flagSAT)
  | .fin n m e =>
    let (v, nx) := roundInt n m e
    if v > 127 then (0x7F, flagSAT ||| flagNX)
    else if v < -128 then (0x80, flagSAT ||| flagNX)
    else ((v % 256).toNat, if nx then flagNX else 0)

/-- Output conversion of an FP32 word to a format, saturating or not (R196, Table 6.6). -/
def outConvert (f : ElemFmt) (sat : Bool) (y : Word) : Nat × Flags :=
  match f.float with
  | none => cvtInt8 y
  | some g =>
    match dec32 y with
    | .nan _ => (g.nan, 0)
    | .inf n =>
      if sat then (g.withSign n g.maxFin, flagSAT)
      else match g.inf with
        | some i => (g.withSign n i, 0)
        | none => (g.nan, flagOF)
    | .fin n m e =>
      if f = .fp32 then (y.toNat, 0)
      else if m = 0 then (g.withSign n 0, 0)
      else
        let (mag, inexact, tiny) := g.roundMag m e false
        if mag > g.maxFin then
          if sat then (g.withSign n g.maxFin, flagSAT ||| flagNX)
          else ((match g.inf with | some i => g.withSign n i | none => g.nan), flagOF ||| flagNX)
        else (g.withSign n mag, if inexact then (if tiny then flagUF ||| flagNX else flagNX) else 0)

end Sys2Proof.Machine
end

