-- ==== Sys2Proof/Machine/Operands.lean ====
section
/-! DEFINITION. Operand forms of the slots (R119, R148, R159, R171): guards, masks, broadcasts, the ACC read port and
scratchpad addresses. -/

namespace Sys2Proof.Machine

/-- A vector operand: 64 lanes. -/
abbrev Lanes := List Lane

/-- Whether lane `l` is active (R148). -/
def Site.active (s : Site) (m : VMask) (l : Nat) : Bool :=
  (s.vmreg m.mask.toNat).getLsbD l ^^ (m.minv = 1)

/-- V[r] (R159). -/
def Site.vecOperand (s : Site) (r : BitVec 5) : Lanes := s.vreg r.toNat

/-- V[r], or S[r] broadcast to every lane, which never carries poison (R159). -/
def Site.vecOrScalar (s : Site) (r : BitVec 5) (broadcast : BitVec 1) : Lanes :=
  if broadcast = 1 then List.replicate 64 { bits := s.sreg r.toNat, poison := false } else s.vreg r.toNat

/-- The ACC read port (R105, R159): lane l reads row (row + l div 32) mod 512, column l mod 32. -/
def Site.accOperand (s : Site) (row : Nat) : Lanes :=
  (List.range 64).map (fun l =>
    let r := s.accRow ((row + l / 32) % 512)
    { bits := r.cols.getD (l % 32) 0, poison := if l % 32 < 16 then r.pLo else r.pHi })

/-- Lane `l` of an operand. -/
def laneAt (v : Lanes) (l : Nat) : Lane := v.getD l { bits := 0, poison := false }

/-- The scratchpad word that a vector load or store addresses (R171). -/
def Site.vecAddr (s : Site) (sa : BitVec 5) (off : Nat) : Nat :=
  ((s.sreg sa.toNat).toNat % 2 ^ 20 / 64 * 64 + 64 * off) % 2 ^ 20

/-- The scratchpad address of a scalar load or store (R171). -/
def Site.scalarAddr (s : Site) (sa : BitVec 5) (off : Nat) : Nat :=
  ((s.sreg sa.toNat).toNat % 2 ^ 20 / 4 * 4 + 4 * off) % 2 ^ 20

/-- The 256-byte group a matrix operand register names (R152, R154). -/
def Site.groupAddr (s : Site) (r : BitVec 5) : Nat := (s.sreg r.toNat).toNat % 2 ^ 20 / 256 * 256

/-- The 64 bytes of quarter `q` of a register's lanes, lane 16q in bytes 0 to 3 (R138). -/
def quarterBytes (v : Lanes) (q : Nat) : List Byte :=
  (List.range 64).map (fun i => BitVec.ofNat 8 ((laneAt v (16 * q + i / 4)).bits.toNat / 256 ^ (i % 4)))

/-- Whether any lane of quarter `q` carries poison. -/
def quarterPoison (v : Lanes) (q : Nat) : Bool := (List.range 16).any (fun i => (laneAt v (16 * q + i)).poison)

/-- Quarter `q` as a 64-byte unit (R138). -/
def quarterUnit (v : Lanes) (q : Nat) : MsgUnit := { bytes := quarterBytes v q, poison := quarterPoison v q }

/-- A write of whole lanes `lo` to `lo + count - 1`: the lane's bits from `f`, all with poison `p`. -/
def lanesWrite (lo count : Nat) (p : Bool) (f : Nat → Word) : List (Word × Word × Bool) :=
  (List.range 64).map (fun l =>
    if lo ≤ l && l < lo + count then (f (l - lo), BitVec.allOnes 32, p) else (0, 0, false))

end Sys2Proof.Machine
end

