-- ==== Sys2Proof/Machine/Flags.lean ====
section
/-! DEFINITION. The sticky flags of lanes and matrix columns (R157, R169, R193-R195) and what a result does when it
lands (R120, R123). -/

namespace Sys2Proof.Machine

/-- The flags of vector lane `l` (R169). -/
def Site.laneFlags (s : Site) (l : Nat) : Flags := aget 0 s.vec.flags l

/-- The flag set of matrix column `c` (R157). -/
def Site.colFlags (s : Site) (c : Nat) : Flags := aget 0 s.mat.cols c

/-- Flags ORed into a lane (R194). -/
def Site.orLane (s : Site) (l : Nat) (f : Flags) : Site :=
  if f = 0 then s else { s with vec := { s.vec with flags := aset s.vec.flags l (s.laneFlags l ||| f) } }

/-- Flags ORed into a column's set (R194). -/
def Site.orCol (s : Site) (c : Nat) (f : Flags) : Site :=
  if f = 0 then s else { s with mat := { s.mat with cols := aset s.mat.cols c (s.colFlags c ||| f) } }

/-- What a landing result does to the site. -/
def Site.apply (s : Site) : Result → Site
  | .s r v => s.setS r v
  | .p r v => s.setP r v
  | .k r v => s.setK r v
  | .v r w => s.setV r w
  | .vm r b w => s.setVM r b w
  | .flags _ fs => (List.range 64).foldl (fun s l => s.orLane l (fs.getD l 0)) s
  | .clrLanes which =>
    { s with vec := { s.vec with flags := s.vec.flags.filter (fun e => !which.getLsbD e.1) } }
  | .clrCols => { s with mat := { s.mat with cols := [] } }

/-- The destination of a result for the order of R123, a set of flags having that of its result: the flags of a write that
is discarded are not raised (R194). -/
def Result.dest : Result → Option (Nat × Nat)
  | .s r _ => some (0, r)
  | .p r _ => some (1, r)
  | .k r _ => some (2, r)
  | .v r _ => some (3, r)
  | .vm r _ _ => some (4, r)
  | .flags dst _ => some dst
  | _ => none

/-- Whether another result landing in the same cycle prevails over `e` (R123). -/
def Landing.beaten (due : List Landing) (e : Landing) : Bool :=
  match e.res.dest with
  | none => false
  | some d => due.any (fun f => f.res.dest == some d && decide (f.rank > e.rank))

/-- The result to apply: where two results of one slot land in one scalar register in one cycle the spec states none,
and the register takes a free value. -/
def Landing.settled (s : Site) (due : List Landing) (e : Landing) : Result :=
  match e.res with
  | .s r v =>
    if (due.filter (fun f => f.res.dest == e.res.dest && f.rank == e.rank)).length > 1 then
      .s r (Config.sameSlotLanding s.seq.epoch e.at_ r)
    else .s r v
  | x => x

/-- Every result that lands in cycle `c` (R120, R123): clears first (Table 5.13), then in the slots' order. -/
def Site.land (s : Site) (c : Nat) : Site :=
  let due := s.seq.landings.filter (fun e => e.at_ == c)
  let ordered := (List.range 5).flatMap (fun k => due.filter (fun e => e.rank == k && !e.beaten due))
  let s' := ordered.foldl (fun t e => t.apply (e.settled s due)) s
  { s' with seq := { s'.seq with landings := s'.seq.landings.filter (fun e => e.at_ != c) } }

/-- A result put in flight. -/
def Site.later (s : Site) (at_ rank : Nat) (r : Result) : Site :=
  { s with seq := { s.seq with landings := s.seq.landings ++ [{ at_ := at_, rank := rank, res := r }] } }

end Sys2Proof.Machine
end

