-- ==== Sys2Proof/Machine/Scalar.lean ====
section
/-! DEFINITION. The scalar and control slot (R125-R137). -/

namespace Sys2Proof.Machine

/-- What the control instruction of a bundle does to the flow of bundles. -/
inductive Flow where
  /-- the next bundle in sequence -/
  | fall
  /-- a taken branch (R127) -/
  | branch (target : Nat)
  /-- the continuation of a LOOP or LOOPI (R129), which pops no entry -/
  | goto (target : Nat)
  /-- SWITCH (R132) -/
  | switch (slot entry : Nat)
  /-- IDLE and WAITC (R137): the next bundle in sequence, not before the cycle -/
  | wait (cycle : Nat)
  /-- ENDWORK (R136) -/
  | endWork
  /-- a control instruction that clashed: nothing of it is performed, and no further bundle issues (R101) -/
  | stop
  deriving DecidableEq, Repr

/-- The scalar operations of Table 4.3, modulo 2^32 (R126). -/
def aluFn : AluOp → Word → Word → Word
  | .add, a, b => a + b
  | .sub, a, b => a - b
  | .mul, a, b => a * b
  | .mulhu, a, b => BitVec.ofNat 32 (a.toNat * b.toNat / 2 ^ 32)
  | .and, a, b => a &&& b
  | .or, a, b => a ||| b
  | .xor, a, b => a ^^^ b
  | .shl, a, b => a <<< (b.toNat % 32)
  | .shr, a, b => a >>> (b.toNat % 32)
  | .sra, a, b => a.sshiftRight (b.toNat % 32)
  | .min, a, b => if a.slt b then a else b
  | .max, a, b => if a.slt b then b else a
  | .minu, a, b => if a < b then a else b
  | .maxu, a, b => if a < b then b else a

/-- The operation of a format SI opcode. -/
def aluImmOp : AluImmOp → AluOp
  | .add => .add | .mul => .mul | .and => .and | .or => .or | .xor => .xor | .shl => .shl | .shr => .shr | .sra => .sra

/-- Latency of a scalar operation: 2 for multiplies, else 1 (Table 4.3). -/
def aluLatency : AluOp → Nat
  | .mul => 2 | .mulhu => 2 | _ => 1

/-- The relations of CMP (Table 4.3). -/
def relFn : Rel → Word → Word → Bool
  | .eq, a, b => a == b
  | .ne, a, b => a != b
  | .lt, a, b => a.slt b
  | .le, a, b => a.sle b
  | .ltu, a, b => a.ult b
  | .leu, a, b => a.ule b

/-- AND, OR, XOR of two predicates. -/
def logicFn : LogicOp → Bool → Bool → Bool
  | .and, a, b => a && b
  | .or, a, b => a || b
  | .xor, a, b => a ^^ b

/-- The rank of the scalar and control slot in the order of R123. -/
def rankScalar : Nat := 1

/-- LOOP and LOOPI with count `c` (R129, R130), issued in cycle `n`: the stack is checked whatever the count. -/
def Site.startLoop (s : Site) (n : Nat) (kn : BitVec 4) (c : Nat) (end_ : BitVec 10) : Site × Flow :=
  if s.seq.loops.length ≥ 8 || s.seq.loops.any (fun e => e.kn == kn.toNat) then (s.clash .loopStack n, .stop)
  else if c = 0 then (s, .goto (end_.toNat + 1))
  else
    let e : LoopEntry := { kn := kn.toNat, start := s.seq.pc + 1, end_ := end_.toNat }
    (({ s with seq := { s.seq with loops := e :: s.seq.loops } } : Site).later (n + 1) rankScalar
      (.k kn.toNat (BitVec.ofNat 32 c)), .goto (s.seq.pc + 1))

/-- Whether every skid buffer of the steering unit is empty. -/
def Site.skidsEmpty (s : Site) : Bool := s.ex.skids.all (fun e => e.2.data.isEmpty && e.2.ctrl.isEmpty)

/-- SWITCH (R132, R219): `busy` says that a skid buffer holds an item after the firings of the cycle. -/
def Site.issueSwitch (s : Site) (n : Nat) (busy : Bool) (f : FmtSW) : Site × Flow :=
  if n < (s.cfg f.slot.toNat).readyAt then (s.clash .slotNotReady n, .stop)
  else if busy then (s.clash .steerBusy n, .stop)
  else (s, .switch f.slot.toNat f.entry.toNat)

/-- Whether a reload holds the wide port in cycle `c` (R92): 128 cycles from its issue. -/
def Site.reloading (s : Site) (c : Nat) : Bool :=
  match s.reload with
  | some r => decide (r.start ≤ c) && decide (c < r.start + 128)
  | none => false

/-- RELOAD (R92, R133): SLOT_BUSY for the slot in execution or while a reload is in progress. -/
def Site.issueReload (s : Site) (n : Nat) (f : FmtRL) : Site × Flow :=
  if f.slot.toNat = s.slotAt n || s.reloading n then (s.clash .slotBusy n, .stop)
  else
    ({ s with
       reload := some { slot := f.slot.toNat, bank := f.bank.toNat, trailer := f.trailer.toNat, start := n, done := 0 }
       slots := amod CfgSlot.empty s.slots f.slot.toNat (fun c => { c with readyAt := n + 128 }) }, .fall)

/-- OWNR (R97, R98, R135). -/
def Site.issueOwnr (s : Site) (n : Nat) (f : FmtOW) : Site × Flow :=
  let banks := (List.range f.count.toNat).map (fun i => f.first.toNat + i)
  if banks.any (fun b => !s.bank.mask.toNat.testBit b) then (s.clash .ownerOff n, .stop)
  else if f.code = 0 then (s, .fall)
  else
    let cur := if n < s.bank.from_ then s.bank.old else s.bank.own
    ({ s with bank := { s.bank with
        own := banks.foldl (fun m b => setOwner m b f.code.toNat) cur, old := cur, from_ := n + 1 } }, .fall)

/-- What the scalar and control slot does in its issue cycle `n` when its guard holds. -/
def Site.scalarBody (s : Site) (n : Nat) (busy : Bool) : ScalarOp → Site × Flow
  | .nop => (s, .fall)
  | .alu op f => (s.later (n + aluLatency op) rankScalar (.s f.sd.toNat (aluFn op (s.sreg f.sa.toNat) (s.sreg f.sb.toNat))), .fall)
  | .alui op f => (s.later (n + aluLatency (aluImmOp op)) rankScalar (.s f.sd.toNat (aluFn (aluImmOp op) (s.sreg f.sa.toNat) f.imm)), .fall)
  | .movi _ sd imm => (s.later (n + 1) rankScalar (.s sd.toNat imm), .fall)
  | .cmp r f => (s.later (n + 1) rankScalar (.p f.pd.toNat (relFn r (s.sreg f.sa.toNat) (s.sreg f.sb.toNat))), .fall)
  | .cmpi r f => (s.later (n + 1) rankScalar (.p f.pd.toNat (relFn r (s.sreg f.sa.toNat) f.imm)), .fall)
  | .plog op f =>
    (s.later (n + 1) rankScalar
      (.p f.pd.toNat (logicFn op (s.preg f.pa.toNat ^^ (f.na = 1)) (s.preg f.pb.toNat ^^ (f.nb = 1)))), .fall)
  | .movk f => (s.later (n + 1) rankScalar (.s f.sd.toNat (s.kreg f.kn.toNat)), .fall)
  | .rdid _ sd => (s.later (n + 1) rankScalar (.s sd.toNat (BitVec.ofNat 32 s.gtile)), .fall)
  | .br f => (s, .branch f.target.toNat)
  | .call f => (s.later (n + 1) rankScalar (.s 31 (BitVec.ofNat 32 (s.seq.pc + 1))), .branch f.target.toNat)
  | .jr f => (s, .branch ((s.sreg f.sa.toNat).toNat % 1024))
  | .loop f => s.startLoop n f.kn (s.sreg f.sa.toNat).toNat f.end_
  | .loopi f => s.startLoop n f.kn f.count.toNat f.end_
  | .switch f => s.issueSwitch n busy f
  | .reload f => s.issueReload n f
  | .ownr f => s.issueOwnr n f
  | .idle f => (s, .wait (n + 1 + f.n.toNat))
  | .waitc f => (s, .wait (max (n + 1) f.n.toNat))
  | .endwork _ => (s, .endWork)

/-- The guard of a scalar and control operation (R119); NOP has none. -/
def scalarGuard : ScalarOp → Guard
  | .nop => 0
  | .alu _ f => f.g | .alui _ f => f.g | .movi g _ _ => g | .cmp _ f => f.g | .cmpi _ f => f.g | .plog _ f => f.g
  | .movk f => f.g | .rdid g _ => g | .br f => f.g | .call f => f.g | .jr f => f.g | .loop f => f.g | .loopi f => f.g
  | .switch f => f.g | .reload f => f.g | .ownr f => f.g | .idle f => f.g | .waitc f => f.g | .endwork g => g

/-- The scalar and control slot (R119): a false guard makes it a NOP. -/
def Site.issueScalar (s : Site) (n : Nat) (busy : Bool) (op : ScalarOp) : Site × Flow :=
  if s.guard (scalarGuard op) then s.scalarBody n busy op else (s, .fall)

/-- The loop entries a taken branch to `t` leaves (R131): popping stops at the first entry whose range holds it. -/
def popLoops (t : Nat) : List LoopEntry → List LoopEntry
  | [] => []
  | e :: r => if e.start ≤ t && t ≤ e.end_ then e :: r else popLoops t r

/-- The evaluation of the innermost entries that end at bundle `b` (R129): the next bundle, the entries left and the
K registers written. -/
def evalLoops (s : Site) (b : Nat) : List LoopEntry → List (Nat × Word) → Nat × List LoopEntry × List (Nat × Word)
  | [], ks => (b + 1, [], ks)
  | e :: r, ks =>
    if e.end_ ≠ b then (b + 1, e :: r, ks)
    else
      let v := s.kreg e.kn
      if v.toNat > 1 then (e.start, e :: r, ks ++ [(e.kn, v - 1)])
      else evalLoops s b r (ks ++ [(e.kn, 0)])

/-- The next bundle in sequence after bundle `pc`, loop ends included (R129). -/
def Site.inSequence (s : Site) (n : Nat) : Site :=
  let (pc, loops, ks) := evalLoops s s.seq.pc s.seq.loops []
  ks.foldl (fun t e => t.later (n + 1) rankScalar (.k e.1 e.2)) { s with seq := { s.seq with pc := pc, loops := loops } }

/-- The status of a sequencer after a bundle, `st` being what its control instruction asks for: a site that a fault of
another slot has stopped issues no further bundle (R101). -/
def SeqStatus.unlessStopped (old st : SeqStatus) : SeqStatus :=
  match old with
  | .stopped a => .stopped a
  | _ => st

/-- The end of a bundle's issue in cycle `n`: where and when the next bundle issues (R127-R137). The control instruction has
its effect also where another slot of the bundle stopped the site (R101). -/
def Site.finish (s : Site) (n : Nat) (f : Flow) : Site :=
  match f with
  | .fall => let t := s.inSequence n; { t with seq := { t.seq with next := n + 1 } }
  | .branch t => { s with seq := { s.seq with pc := t, loops := popLoops t s.seq.loops, next := n + 1 } }
  | .goto t => { s with seq := { s.seq with pc := t, next := n + 1 } }
  | .switch slot entry =>
    let cur := if n < s.bank.from_ then s.bank.old else s.bank.own
    { s with
      seq := { s.seq with pc := entry, loops := [], slot := slot, oldSlot := s.slotAt n, slotFrom := n + 1, next := n + 1 }
      bank := { s.bank with own := overlay cur (s.mapOf slot), old := cur, from_ := n + 1 } }
  | .wait c =>
    let t := s.inSequence n
    { t with seq := { t.seq with
        next := c, status := s.seq.status.unlessStopped (if c ≤ n + 1 then .running else .waiting c) } }
  | .endWork => { s with seq := { s.seq with next := n + 1, status := .ended n } }
  | .stop => { s with seq := { s.seq with next := n + 1 } }

end Sys2Proof.Machine
end

