-- ==== Sys2Proof/Machine/Exchange.lean ====
section
/-! DEFINITION. The exchange slot (R138-R143): messages out of and into the site's side of the mesh, token queues, and
the queueing of DMA descriptors. -/

namespace Sys2Proof.Machine

/-- Where a message goes: a global logical tile of the plan, or a multicast group of the sender's program (R139). -/
inductive Dest where
  | tile (g : Nat)
  | group (n : Nat)
  deriving DecidableEq, Repr

/-- A message handed to the site's router: stamped with its issue cycle; `order` is 0 for the exchange slot's message
and 1 + entry for a steering entry's (R210, R226). -/
structure OutMsg where
  dest : Dest
  hop : Nat
  order : Nat
  stamp : Nat
  tag : Byte
  units : List MsgUnit
  deriving DecidableEq, Repr

/-- The rank of the exchange slot in the order of R123. -/
def rankExchange : Nat := 3

/-- Units in the injection queue in cycle `c`. DESIGN CHOICE (log 69): one unit leaves per cycle, which the spec does not
state (R53 gives a link's width, R140 the queue's size). -/
def Site.injHeld (s : Site) (c : Nat) : Nat := s.ex.injUnits - (c - s.ex.injAt)

/-- `k` more units in the injection queue in cycle `c`. -/
def Site.inject (s : Site) (c k : Nat) : Site :=
  { s with ex := { s.ex with injUnits := s.injHeld c + k, injAt := c } }

/-- A send of `units` in cycle `n` (R138-R140): not sent, with INJECT_FULL, when the injection queue lacks the room. -/
def Site.send (s : Site) (n : Nat) (m : OutMsg) : Site × List OutMsg :=
  if s.injHeld n + m.units.length > 64 then (s.clash .injectFull n, [])
  else (s.inject n m.units.length, [m])

/-- The units of a vector message (R138): unit k is quarter k mod 4 of V(VSRC + k div 4). -/
def Site.vectorUnits (s : Site) (vsrc : BitVec 5) (len : BitVec 3) : List MsgUnit :=
  (List.range (len.toNat + 1)).map (fun k => quarterUnit (s.vreg (vsrc.toNat + k / 4)) (k % 4))

/-- The unit of a scalar message (R139). -/
def Site.scalarUnit (s : Site) (ssrc : BitVec 5) : MsgUnit :=
  { bytes := (List.range 8).flatMap (fun i => leBytes 4 (s.sreg (ssrc.toNat + i)).toNat) ++ List.replicate 32 0
    poison := false }

/-- Hopper `h` with nothing in it and no pond. -/
def Hopper.empty : Hopper :=
  { msgs := [], freed := 0, freedAt := 0, pondBase := 0, pondUnits := 0, index := [], wpos := 0, rpos := 0,
    waiting := [], refills := [], doneAt := 0, relAt := 0, relOrder := 0, failed := false }

/-- Hopper H`h` of a site. -/
def Site.hopper (s : Site) (h : Nat) : Hopper := aget Hopper.empty s.ex.h h

/-- Hopper H`h` replaced. -/
def Site.setHopper (s : Site) (h : Nat) (x : Hopper) : Site := { s with ex := { s.ex with h := aset s.ex.h h x } }

/-- The head message of a hopper if it is visible in cycle `c`. -/
def Hopper.head (h : Hopper) (c : Nat) : Option Message :=
  match h.msgs with
  | m :: _ => if m.visible ≤ c then some m else none
  | [] => none

/-- The hopper with its head taken in cycle `c`: its positions are free from the next cycle (R141). -/
def Hopper.take (h : Hopper) (c : Nat) : Hopper :=
  match h.msgs with
  | m :: t => { h with msgs := t, freed := m.units.length + (if h.freedAt = c then h.freed else 0), freedAt := c }
  | [] => h

/-- The RECV status word (Table 4.6). -/
def recvStatus (m : Message) (trunc : Bool) : Word :=
  BitVec.ofNat 32 ((if m.units.any (fun u => u.poison) then 2 ^ 31 else 0) + (if trunc then 2 ^ 30 else 0)
    + m.tag.toNat * 256 + m.units.length)

/-- Lanes written from poisonable bytes: `free` gives a poisoned lane's bits (R195). -/
def drawnLanes (free : Nat → Word) (lo count : Nat) (p : Bool) (f : Nat → Word) : List (Word × Word × Bool) :=
  lanesWrite lo count p (fun i => if p then free (lo + i) else f i)

/-- The lanes of quarter `q` written from a unit (R138, R141). -/
def unitLanes (free : Nat → Word) (u : MsgUnit) (q : Nat) : List (Word × Word × Bool) :=
  drawnLanes free (16 * q) 16 u.poison (fun i => BitVec.ofNat 32 (leAt u.bytes (4 * i) 4))

/-- Two writes of disjoint lanes of one register joined. -/
def joinWrites (a b : List (Word × Word × Bool)) : List (Word × Word × Bool) :=
  List.zipWith (fun x y => if x.2.1 = 0 then y else x) a b

/-- RECV.V (R141): the head message of HOP into V registers, the status into SST, readable 2 cycles after issue. -/
def Site.recvV (s : Site) (n : Nat) (f : FmtRV) : Site :=
  let h := s.hopper f.hop.toNat
  match h.head n with
  | none => s
  | some m =>
    let none64 : List (Word × Word × Bool) := List.replicate 64 (0, 0, false)
    let reg := fun (r : Nat) =>
      (List.range 4).foldl (fun w q =>
        match m.units[4 * r + q]? with
        | some u => joinWrites w (unitLanes (fun l => Config.poisonedBits s.seq.epoch n (256 + 64 * r + l)) u q)
        | none => w) none64
    let regs := (List.range ((m.units.length + 3) / 4)).filter (fun r => f.d.toNat + r ≤ 31)
    let s1 := s.setHopper f.hop.toNat (h.take n)
    let s2 := regs.foldl (fun t r => t.later (n + 2) rankExchange (.v (f.d.toNat + r) (reg r))) s1
    s2.later (n + 2) rankExchange (.s f.sst.toNat (recvStatus m (decide (m.units.length > 4 * (32 - f.d.toNat)))))

/-- RECV.S (R141): bytes 0 to 31 of unit 0 into eight scalar registers; a poisoned unit 0 is consumption. -/
def Site.recvS (s : Site) (n : Nat) (f : FmtRV) : Site :=
  let h := s.hopper f.hop.toNat
  match h.head n with
  | none => s
  | some m =>
    let u := m.units.headD { bytes := [], poison := false }
    let s1 := s.setHopper f.hop.toNat (h.take n)
    if u.poison then s1.raise .poison 0 n ([4, 0, 0, 0] ++ leBytes 4 f.hop.toNat ++ List.replicate 8 0)
    else
      let s2 := (List.range 8).foldl (fun t i =>
        t.later (n + 2) rankExchange (.s (f.d.toNat + i) (BitVec.ofNat 32 (leAt u.bytes (4 * i) 4)))) s1
      s2.later (n + 2) rankExchange (.s f.sst.toNat (recvStatus m (decide (m.units.length > 1))))

/-- Token queue TQ`q` of a site. -/
def Site.tokens (s : Site) (q : Nat) : List Token := aget [] s.ex.tq q

/-- Token queue TQ`q` replaced. -/
def Site.setTokens (s : Site) (q : Nat) (l : List Token) : Site := { s with ex := { s.ex with tq := aset s.ex.tq q l } }

/-- TPUSH and TPUSHI (R142): visible from the next cycle; TQ_FULL at 16 entries. -/
def Site.tpush (s : Site) (n q : Nat) (v : Word) : Site :=
  if (s.tokens q).length ≥ 16 then s.clash .tqFull n
  else s.setTokens q (s.tokens q ++ [{ value := v, visible := n + 1 }])

/-- TPOP (R142): TQ_EMPTY when no entry is visible. -/
def Site.tpop (s : Site) (n : Nat) (f : FmtTO) : Site :=
  match s.tokens f.tq.toNat with
  | t :: r =>
    if t.visible ≤ n then
      let u := s.setTokens f.tq.toNat r
      ({ u with ex := { u.ex with popQ := f.tq.toNat, popAt := some n } } : Site).later (n + 2) rankExchange (.s f.sd.toNat t.value)
    else s.clash .tqEmpty n
  | [] => s.clash .tqEmpty n

/-- Statuses of a completion token (Table 4.8). -/
inductive TokStatus where
  | ok | badCommand | noResource | windowClosed | bankOff | resetting | poisoned
  deriving DecidableEq, Repr

/-- A token status's code (Table 4.8). -/
def tokCode : TokStatus → Nat
  | .ok => 0 | .badCommand => 1 | .noResource => 2 | .windowClosed => 3 | .bankOff => 4 | .resetting => 5 | .poisoned => 6

/-- The 64 bytes of a completion token (Table 4.8). -/
def tokenUnit (status tag desc bytes nackOff nackClosed nackReset unanswered : Nat) : MsgUnit :=
  { bytes := [1, BitVec.ofNat 8 status] ++ leBytes 2 tag ++ [BitVec.ofNat 8 desc, 0, 0, 0] ++ leBytes 4 bytes ++
      leBytes 4 nackOff ++ leBytes 4 nackClosed ++ leBytes 4 nackReset ++ leBytes 4 unanswered ++ List.replicate 36 0
    poison := false }

/-- A completion token on its way to the site's own hopper, delivered in cycle `at_` (R112, R145). -/
def Site.ownToken (s : Site) (at_ hop tag : Nat) (u : MsgUnit) : Site :=
  { s with ex := { s.ex with pad := s.ex.pad ++ [{
      toTile := s.gtile, hop := hop, order := 0
      msg := { units := [u], tag := BitVec.ofNat 8 tag, source := .ownDma, visible := at_, pinned := at_ } }] } }

/-- A descriptor entry read from the site's descriptor table (R143, Table 4.7). -/
def decodeDesc (b : List Byte) : DmaDesc :=
  { op := leAt b 0 1, hopper := leAt b 1 1, tag := leAt b 2 2, scratch := leAt b 4 4, rowBytes := leAt b 8 4,
    rows := leAt b 12 2, farRegion := leAt b 14 2, farBase := leAt b 16 8, stride := leAt b 24 4, dest := leAt b 28 4 }

/-- Entry `i` of the site's descriptor table. -/
def Site.desc (s : Site) (i : Nat) : DmaDesc := decodeDesc (s.scr.read (s.descBase + 32 * i) 32)

/-- Descriptors outstanding at the engine (R111). -/
def Site.dmaHeld (s : Site) : Nat :=
  s.ex.dmaq.length + (s.ex.xfers.filter (fun x => !x.silent && !x.tokenSent)).length

/-- DMA (R112, R143): queued, or answered NO_RESOURCE in the next cycle while 64 are outstanding. -/
def Site.issueDma (s : Site) (n : Nat) (f : FmtDM) : Site :=
  if s.dmaHeld ≥ 64 then
    let d := s.desc f.desc.toNat
    s.ownToken (n + 1) (d.hopper % 4) d.tag (tokenUnit (tokCode .noResource) d.tag f.desc.toNat 0 0 0 0 0)
  else
    { s with ex := { s.ex with dmaq := s.ex.dmaq ++ [{
        desc := f.desc.toNat, sa := s.sreg f.sa.toNat, sb := s.sreg f.sb.toNat, cycle := n }] } }

/-- The guard of an exchange operation (R119). -/
def exchGuard : ExchOp → Guard
  | .nop => 0 | .sendV f => f.g | .sendS f => f.g | .msendV f => f.g | .recvV f => f.g | .recvS f => f.g
  | .tpush f => f.g | .tpushi f => f.g | .tpop f => f.g | .dma f => f.g

/-- Whether the exchange slot stalls its bundle in cycle `n` (R121). -/
def Site.stalls (s : Site) (n : Nat) (op : ExchOp) : Bool :=
  match op with
  | .recvV f => s.guard f.g && ((s.hopper f.hop.toNat).head n).isNone
  | .recvS f => s.guard f.g && ((s.hopper f.hop.toNat).head n).isNone
  | _ => false

/-- What the exchange slot does when its guard holds. -/
def Site.exchBody (s : Site) (n : Nat) : ExchOp → Site × List OutMsg
  | .nop => (s, [])
  | .sendV f => s.send n { dest := .tile (f.dq.toNat * 512 + f.dtile.toNat), hop := f.hop.toNat, order := 0, stamp := n,
                           tag := f.tag, units := s.vectorUnits f.vsrc f.len }
  | .sendS f => s.send n { dest := .tile (f.dq.toNat * 512 + f.dtile.toNat), hop := f.hop.toNat, order := 0, stamp := n,
                           tag := f.tag, units := [s.scalarUnit f.ssrc] }
  | .msendV f => s.send n { dest := .group f.group.toNat, hop := f.hop.toNat, order := 0, stamp := n,
                            tag := f.tag, units := s.vectorUnits f.vsrc f.len }
  | .recvV f => (s.recvV n f, [])
  | .recvS f => (s.recvS n f, [])
  | .tpush f => (s.tpush n f.tq.toNat (s.sreg f.sa.toNat), [])
  | .tpushi f => (s.tpush n f.tq.toNat f.imm, [])
  | .tpop f => (s.tpop n f, [])
  | .dma f => (s.issueDma n f, [])

/-- The exchange slot (R119). -/
def Site.issueExch (s : Site) (n : Nat) (op : ExchOp) : Site × List OutMsg :=
  if s.guard (exchGuard op) then s.exchBody n op else (s, [])

end Sys2Proof.Machine
end

