-- ==== Sys2Proof/Machine/Matrix.lean ====
section
/-! DEFINITION. The matrix slot and the wide port (R92, R95, R102-R106, R133, R152-R158), the products and the
canonical order of ch. 06 (R181, R185-R189, R192). -/

namespace Sys2Proof.Machine

/-! ### One row through the array -/

/-- Weight element W[k][j] of a block (R153, R180, R181): for MX4 the element times its column's scale. -/
def Block.weight (b : Block) (k j : Nat) : Fp :=
  match b.fmt with
  | .mx4 =>
    let byte := (byteAt b.bytes (16 * j + k / 2)).toNat
    let nib := if k % 2 = 0 then byte % 16 else byte / 16
    let u := (byteAt b.bytes (512 + j)).toNat
    if u = 255 then .nan false
    else match fmtE2M1.decode nib with
      | .fin n m e => .fin n m (e + u - 127)
      | x => x
  | f =>
    match f.float with
    | some g => g.decode (leAt b.bytes ((32 * j + k) * f.size) f.size)
    | none => .nan false

/-- INT8 weight element W[k][j]. -/
def Block.weightInt (b : Block) (k j : Nat) : Int := (byteAt b.bytes (32 * j + k)).toInt

/-- Element k of an activation row of `fmt` in `bytes` (R154). -/
def activation (fmt : ElemFmt) (bytes : List Byte) (k : Nat) : Fp :=
  match fmt.float with
  | some g => g.decode (leAt bytes (k * fmt.size) fmt.size)
  | none => .nan false

/-- One level of the fixed tree (R188): neighbours added, flags collected. -/
def treeLevel : List (Word × Flags) → List (Word × Flags)
  | a :: b :: t => let r := fadd a.1 b.1; (r.1, r.2 ||| a.2 ||| b.2) :: treeLevel t
  | l => l

/-- `n` levels of the tree. -/
def treeLevels : Nat → List (Word × Flags) → List (Word × Flags)
  | 0, l => l
  | n + 1, l => treeLevels n (treeLevel l)

/-- The chunk sum of one column with its flags (R185, R188); the products listed in `mute` raise none (R197). -/
def chunkSum (b : Block) (fmt : ElemFmt) (row : List Byte) (j : Nat) (mute : List Nat := []) : Word × Flags :=
  let ps := (List.range 32).map (fun k =>
    let p := Fp.round (Fp.mul (activation fmt row k) (b.weight k j))
    if mute.contains k then (p.1, 0) else p)
  (treeLevels 5 ps).headD (0, 0)

/-- The chunk sum of the integer path (R192). -/
def chunkSumInt (b : Block) (row : List Byte) (j : Nat) : Int :=
  ((List.range 32).map (fun k => (byteAt row k).toInt * b.weightInt k j)).foldl (· + ·) 0

/-- An integer clamped to INT32 and whether that clamped it (R192). -/
def clampInt32 (v : Int) : Word × Flags :=
  if v > 2147483647 then (0x7FFFFFFF, flagSAT)
  else if v < -2147483648 then (0x80000000, flagSAT)
  else (BitVec.ofInt 32 v, 0)

/-- Column j of the row that lands: overwrite or accumulate (R189, R192). -/
def landColumn (b : Block) (fmt : ElemFmt) (acc : Bool) (old : Word) (row : List Byte) (j : Nat)
    (mute : List Nat := []) : Word × Flags :=
  if b.fmt = .int8 then
    let t := chunkSumInt b row j
    clampInt32 (if acc then old.toInt + t else t)
  else
    let t := chunkSum b fmt row j mute
    if acc then let r := fadd old t.1; (r.1, r.2 ||| t.2) else t

/-- Whether a weight and an activation format are paired (Table 5.4). -/
def paired (w a : ElemFmt) : Bool :=
  match w with
  | .int8 => a == .int8
  | .fp32 => false
  | _ => a == .fp16 || a == .bf16 || a == .e4m3 || a == .e5m2

/-- Rows of a 256-byte activation group (R154). -/
def rowsPerGroup (f : ElemFmt) : Nat := if f.size = 2 then 4 else 8

/-- Groups of a stream (R154). -/
def Feed.groupCount (f : Feed) : Nat := ceilDiv f.rows (rowsPerGroup f.fmt)

/-- Row `i` of a stream that landed in cycle `c` (R103, R155, R158): it is written to ACC, its flags join the
column sets unless it is poisoned (R195). DESIGN CHOICE (log 71): where a fetch of the stream clashed, the rows that landed
before it keep their values and the later ones are free (R154). -/
def Site.landRow (s : Site) (c : Nat) (f : Feed) (m : Multiply) (i : Nat) : Site :=
  let r := (m.row0 + i) % 512
  let g := f.groups.getD (i / rowsPerGroup f.fmt) { bytes := [], poison := false, ok := false }
  let put := fun (t : Site) (row : AccRow) => { t with mat := { t.mat with acc := aset t.mat.acc r row } }
  match m.block, f.groups.all (fun g => g.ok) with
  | some b, true =>
    let row := bytesFrom g.bytes (i % rowsPerGroup f.fmt * 32 * f.fmt.size) (32 * f.fmt.size)
    let old := s.accRow r
    let poisoned := b.poison || g.poison || (m.accumulate && (old.pLo || old.pHi)) ||
      (match m.spoilt with
       | some x => decide (x ≤ m.at_ + i)
       | none => false)
    let mute := fun (j : Nat) => (m.noFlags.filter (fun e => e.1 == i && e.2 % 32 == j)).map (fun e => e.2 / 32)
    if poisoned then
      put s { cols := (List.range 32).map (fun j => Config.poisonedBits s.seq.epoch c (64 + j)), pLo := true, pHi := true }
    else
      let out := (List.range 32).map (fun j => landColumn b f.fmt m.accumulate (old.cols.getD j 0) row j (mute j))
      let t := put s { cols := out.map Prod.fst, pLo := false, pHi := false }
      (List.range 32).foldl (fun t j => t.orCol j (out.getD j (0, 0)).2) t
  | _, _ =>
    let t := put s { cols := (List.range 32).map (fun j => Config.undefinedProduct s.seq.epoch c r j), pLo := false, pHi := false }
    (List.range 32).foldl (fun t j => t.orCol j (Config.undefinedFlags s.seq.epoch c r j)) t

/-- The rows that land in cycle `c` (R103); a stream whose last row has landed is dropped. -/
def Site.landRows (s : Site) (c : Nat) : Site :=
  let t := s.mat.feeds.foldl (fun t f =>
    match f.mmul with
    | some m => if m.at_ + 40 ≤ c && c < m.at_ + 40 + f.rows then t.landRow c f m (c - m.at_ - 40) else t
    | none => t) s
  { t with mat := { t.mat with feeds := t.mat.feeds.filter (fun f =>
      match f.mmul with
      | some m => decide (c + 1 < m.at_ + 40 + f.rows)
      | none => true) } }

/-! ### The wide port, cycle by cycle (Table 3.3, Table 3.8) -/

/-- The 256 bytes and the poison of a wide access. -/
def Site.readGroup (s : Site) (a : Nat) : List Byte × Bool := (s.scr.read a 256, s.scr.anyPoison (a / 64) 4)

/-- Eight bundles from 256 bytes put into a slot from bundle `b`. -/
def CfgSlot.putBundles (c : CfgSlot) (b : Nat) (bytes : List Byte) : CfgSlot :=
  { c with bundles := (List.range 8).foldl (fun l i => aset l (b + i) (BitVec.ofNat 256 (leAt bytes (32 * i) 32))) c.bundles }

/-- What trailer word `i` gives a slot (R133): word 0 the ownership map, words 8 to 15 four steering entries each. -/
def CfgSlot.putTrailer (c : CfgSlot) (i : Nat) (bytes : List Byte) : CfgSlot :=
  if i = 0 then { c with own := BitVec.ofNat 64 (leAt bytes 0 8) }
  else if i < 8 then c
  else { c with steer := (List.range 4).foldl (fun l k =>
           aset l (4 * (i - 8) + k) (BitVec.ofNat 128 (leAt bytes (16 * k) 16))) c.steer }

/-- The access of a reload in progress in cycle `c` (R133): the first access that finds another owner ends it. The reload
holds the wide port to the end of its last access's cycle. -/
def Site.reloadAccess (s : Site) (c : Nat) : Site :=
  match s.reload with
  | none => s
  | some r =>
    if 128 ≤ r.done then (if r.start + 128 ≤ c then { s with reload := none } else s)
    else if r.start + r.done ≠ c then s
    else
      let i := r.done
      let ta := r.trailer * 1024 + 64 * i
      if s.owner r.bank c ≠ ownWide || (i < 16 && s.owner (bankOf ta) c ≠ ownNarrow) then
        ({ s with reload := none, slots := amod CfgSlot.empty s.slots r.slot (fun x => { x with undef := some (s.seq.epoch, c) }) }
          : Site).clash .owner c
      else
        let g := (s.readGroup (r.bank * 32768 + 256 * i)).1
        let upd := fun (x : CfgSlot) =>
          let y := x.putBundles (8 * i) g
          let z := if i < 16 then y.putTrailer i (s.scr.word64 ta) else y
          if i = 127 then { z with undef := none } else z
        let t : Site := { s with reload := some { r with done := i + 1 }, slots := amod CfgSlot.empty s.slots r.slot upd }
        let u := t.touch c r.bank
        if i < 16 then u.touch c (bankOf ta) else u

/-- The activation fetch that falls in cycle `c`, if any: its place in the list of streams and its address (R154). -/
def Site.fetchDue (s : Site) (c : Nat) : Option (Nat × Nat) :=
  (List.range s.mat.feeds.length).findSome? (fun k =>
    match s.mat.feeds[k]? with
    | some f =>
      let g := f.groups.length
      if g < f.groupCount && f.start + rowsPerGroup f.fmt * g = c then some (k, (f.addr + g * f.stride) % 2 ^ 20) else none
    | none => none)

/-- A fetched group added to a stream; the wide port is taken in cycle `c`. -/
def Site.putGroup (s : Site) (k c : Nat) (g : Group) : Site :=
  { s with mat := { s.mat with
      lastWide := c + 1, feeds := lmod s.mat.feeds k (fun f => { f with groups := f.groups ++ [g] }) } }

/-- The activation fetch of cycle `c` (R154): RELOAD_BUSY under a reload, OWNER where the bank is not WIDE. -/
def Site.fetchAccess (s : Site) (held : Bool) (c : Nat) : Site :=
  match s.fetchDue c with
  | none => s
  | some (k, a) =>
    let bad : Group := { bytes := [], poison := false, ok := false }
    if held then (s.putGroup k c bad).clash .reloadBusy c
    else if s.owner (bankOf a) c ≠ ownWide then (s.putGroup k c bad).clash .owner c
    else let r := s.readGroup a; (s.putGroup k c { bytes := r.1, poison := r.2, ok := true }).touch c (bankOf a)

/-- Wide accesses of a weight block (Table 3.6). -/
def blockAccesses : ElemFmt → Nat
  | .fp16 => 8 | .bf16 => 8 | .mx4 => 3 | _ => 4

/-- A weight buffer. -/
def MatrixUnit.wb (m : MatrixUnit) (i : Nat) : WBuf := if i = 0 then m.wb0 else m.wb1

/-- A weight buffer replaced. -/
def MatrixUnit.setWb (m : MatrixUnit) (i : Nat) (b : WBuf) : MatrixUnit :=
  if i = 0 then { m with wb0 := b } else { m with wb1 := b }

/-- The weight-load access of cycle `c` (R152): it takes the first wide cycle that no fetch and no earlier access
holds; the block is complete at its last access and readable 8 cycles later. For MX4 only bytes 0 to 31 of the third
group are loaded (R153). -/
def Site.weightAccess (s : Site) (held : Bool) (c : Nat) : Site :=
  if s.mat.lastWide > c then s else
  match s.mat.loads with
  | [] => s
  | l :: rest =>
    let a := (l.addr + 256 * l.done) % 2 ^ 20
    let drop := fun (t : Site) => { t with mat := { t.mat with
      loads := rest, lastWide := c + 1 } }
    if held then (drop s).clash .reloadBusy c
    else if s.owner (bankOf a) c ≠ ownWide then (drop s).clash .owner c
    else
      let r := s.readGroup a
      let s := s.touch c (bankOf a)
      let scales := decide (l.fmt = .mx4 ∧ l.done = 2)
      let bytes := l.bytes ++ (if scales then r.1.take 32 else r.1)
      let poison := l.poison || (if scales then s.scr.poison64 a else r.2)
      if l.done + 1 = blockAccesses l.fmt then
        { s with mat := ({ s.mat with loads := rest, lastWide := c + 1 } : MatrixUnit).setWb l.wb
                          { block := some { fmt := l.fmt, bytes := bytes, poison := poison }, readable := c + 8 } }
      else
        { s with mat := { s.mat with
            lastWide := c + 1, loads := { l with done := l.done + 1, bytes := bytes, poison := poison } :: rest } }

/-- The wide-port accesses of cycle `c` in the port's order (Table 3.3): reload, activation fetch, weight load. -/
def Site.wide (s : Site) (c : Nat) : Site :=
  let held := s.reloading c
  ((s.reloadAccess c).fetchAccess held c).weightAccess held c

/-- FEED_TIMING for an armed stream with no MMUL at a + 8, raised in cycle a + 9 (R155), also on a site that has stopped. -/
def Site.feedCheck (s : Site) (c : Nat) : Site :=
  if s.mat.feeds.any (fun f => f.mmul.isNone && f.start + 9 == c) then
    ({ s with mat := { s.mat with feeds := s.mat.feeds.filter (fun f => !(f.mmul.isNone && f.start + 9 == c)) } }
      : Site).clash .feedTiming c
  else s

/-! ### The matrix slot -/

/-- Whether weight buffer `i` is loading in cycle `n` (R152). -/
def Site.wbLoading (s : Site) (i n : Nat) : Bool :=
  s.mat.loads.any (fun l => l.wb == i) || decide (n < (s.mat.wb i).readable)

/-- MLDW (R152): it is queued behind the loads before it. -/
def Site.issueMldw (s : Site) (n : Nat) (f : FmtMW) : Site :=
  if s.wbLoading f.wb.toNat n then s.clash .wbBusy n
  else
    { s with mat := ({ s.mat with loads := s.mat.loads ++ [{
        wb := f.wb.toNat, fmt := (ElemFmt.ofCode f.fmt.toNat).getD .fp32, addr := s.groupAddr f.sa, done := 0,
        bytes := [], poison := false }] } : MatrixUnit).setWb f.wb.toNat { block := none, readable := 0 } }

/-- MFEED (R154). -/
def Site.issueMfeed (s : Site) (n : Nat) (f : FmtMF) : Site :=
  { s with mat := { s.mat with feeds := s.mat.feeds ++ [{
      start := n, fmt := (ElemFmt.ofCode f.fmt.toNat).getD .fp32, rows := f.n.toNat + 1, addr := s.groupAddr f.sa,
      stride := s.groupAddr f.sb, groups := [], mmul := none }] } }

/-- Whether an earlier stream's last row has not entered the array before cycle `n` (R103). -/
def Site.arrayBusy (s : Site) (n : Nat) : Bool :=
  s.mat.feeds.any (fun f => match f.mmul with
    | some m => decide (n < m.at_ + f.rows)
    | none => false)

/-- The armed stream that an MMUL of cycle `n` meets is gone with a fault of that MMUL (R155). -/
def Site.disarmFeed (s : Site) (n : Nat) : Site :=
  { s with mat := { s.mat with feeds := s.mat.feeds.filter (fun y => !(y.mmul.isNone && y.start + 8 == n)) } }

/-- MMUL (R155): the first case of the table of faults that holds, else the armed stream takes the buffer's block. -/
def Site.issueMmul (s : Site) (n : Nat) (f : FmtMM) : Site :=
  match s.mat.feeds.find? (fun x => x.mmul.isNone && x.start + 8 == n) with
  | none => s.clash .feedTiming n
  | some x =>
    let b := (s.mat.wb f.wb.toNat).block
    let unpaired := match b with
      | some blk => !paired blk.fmt x.fmt
      | none => Config.unloadedClash s.seq.epoch n
    if s.wbLoading f.wb.toNat n then (s.disarmFeed n).clash .wbBusy n
    else if s.arrayBusy n then (s.disarmFeed n).clash .matrixBusy n
    else if unpaired then (s.disarmFeed n).clash .format n
    else
      let m : Multiply := { at_ := n, row0 := f.row0.toNat, accumulate := f.mode = 1, block := b, spoilt := none, noFlags := [] }
      { s with mat := { s.mat with
          array := b
          feeds := s.mat.feeds.map (fun y => if y.mmul.isNone && y.start + 8 == n then { y with mmul := some m } else y) } }

/-- The guard of a matrix operation (R148). -/
def matGuard : MatOp → Guard
  | .nop => 0 | .mldw f => f.g | .mfeed f => f.g | .mmul f => f.g

/-- The matrix slot (R148, R155): a false guard makes it a NOP. -/
def Site.issueMat (s : Site) (n : Nat) (op : MatOp) : Site :=
  if s.guard (matGuard op) then
    match op with
    | .nop => s
    | .mldw f => s.issueMldw n f
    | .mfeed f => s.issueMfeed n f
    | .mmul f => s.issueMmul n f
  else s

end Sys2Proof.Machine
end

