-- ==== Sys2Proof/Machine/Vector.lean ====
section
/-! DEFINITION. The vector slot (R148-R150, R159-R169). Every result lands 4 cycles after issue. -/

namespace Sys2Proof.Machine

/-- The rank of the vector slot in the order of R123. -/
def rankVector : Nat := 2

/-- LAT_VECTOR (R150). -/
def latVector : Nat := 4

/-- The 64 lane numbers. -/
def laneNos : List Nat := List.range 64

/-- What one lane of a result is: its word and its flags. -/
abbrev LaneResult := Word × Flags

/-- A lane-wise result: active lanes only, in flight to V`vd`; a poisoned result has undefined bits and sets no
flags (R149, R195). -/
def Site.laneResult (s : Site) (n : Nat) (m : VMask) (vd : BitVec 5) (poison : Nat → Bool) (f : Nat → LaneResult) : Site :=
  let w := laneNos.map (fun l =>
    if s.active m l then
      (if poison l then Config.poisonedBits s.seq.epoch n l else (f l).1, BitVec.allOnes 32, poison l)
    else (0, 0, false))
  let fl := laneNos.map (fun l => if s.active m l && !poison l then (f l).2 else 0)
  (s.later (n + latVector) rankVector (.v vd.toNat w)).later (n + latVector) rankVector (.flags (3, vd.toNat) fl)

/-- The integer operation of a V3 opcode. -/
def v3Int : V3Op → Option AluOp
  | .iadd => some .add | .isub => some .sub | .imul => some .mul | .and => some .and | .or => some .or | .xor => some .xor
  | .shl => some .shl | .shr => some .shr | .sra => some .sra | .imin => some .min | .imax => some .max | _ => none

/-- The lane operations of format V3 (Table 5.6). -/
def v3Fn (op : V3Op) (a b c : Word) : LaneResult :=
  match op with
  | .add => fadd a b
  | .sub => fsub a b
  | .mul => fmul a b
  | .fma => ffma false false a b c
  | .fms => ffma false true a b c
  | .fnma => ffma true false a b c
  | .min => fmin a b
  | .max => fmax a b
  | .abs => (a &&& 0x7FFFFFFF, 0)
  | .neg => (a ^^^ 0x80000000, 0)
  | .mov => (a, 0)
  | .rcp => frcp a
  | .rsqrt => frsqrt a
  | .sqrt => fsqrt a
  | .exp2 => fexp2 a
  | .log2 => flog2 a
  | .cvtF2I => cvtF2I a
  | .cvtI2F => cvtI2F a
  | .iadd => (aluFn .add a b, 0)
  | .isub => (aluFn .sub a b, 0)
  | .imul => (aluFn .mul a b, 0)
  | .and => (aluFn .and a b, 0)
  | .or => (aluFn .or a b, 0)
  | .xor => (aluFn .xor a b, 0)
  | .shl => (aluFn .shl a b, 0)
  | .shr => (aluFn .shr a b, 0)
  | .sra => (aluFn .sra a b, 0)
  | .imin => (aluFn .min a b, 0)
  | .imax => (aluFn .max a b, 0)

/-- Format V3. -/
def Site.issueV3 (s : Site) (n : Nat) (op : V3Op) (f : FmtV3) : Site :=
  let a := s.vecOperand f.va
  let b := s.vecOrScalar f.vb f.bs
  let c := s.vecOrScalar f.vc f.cs
  s.laneResult n f.m f.vd
    (fun l => (laneAt a l).poison || (decide (2 ≤ v3Uses op) && (laneAt b l).poison)
      || (decide (3 ≤ v3Uses op) && (laneAt c l).poison))
    (fun l => v3Fn op (laneAt a l).bits (laneAt b l).bits (laneAt c l).bits)

/-- Format VI. -/
def Site.issueVI (s : Site) (n : Nat) (op : VIOp) (f : FmtVI) : Site :=
  let a := s.vecOperand f.va
  match op with
  | .addi => s.laneResult n f.m f.vd (fun l => (laneAt a l).poison) (fun l => fadd (laneAt a l).bits f.imm)
  | .muli => s.laneResult n f.m f.vd (fun l => (laneAt a l).poison) (fun l => fmul (laneAt a l).bits f.imm)
  | .movi => s.laneResult n f.m f.vd (fun _ => false) (fun _ => (f.imm, 0))

/-- Format VA: operand A through the ACC read port (R159). -/
def Site.issueVA (s : Site) (n : Nat) (op : VAOp) (f : FmtVA) : Site :=
  let a := s.accOperand f.row.toNat
  let b := s.vecOrScalar f.vb f.bs
  let c := s.vecOrScalar f.vc f.cs
  match op with
  | .rda => s.laneResult n f.m f.vd (fun l => (laneAt a l).poison) (fun l => ((laneAt a l).bits, 0))
  | .add => s.laneResult n f.m f.vd (fun l => (laneAt a l).poison || (laneAt b l).poison)
      (fun l => fadd (laneAt a l).bits (laneAt b l).bits)
  | .mul => s.laneResult n f.m f.vd (fun l => (laneAt a l).poison || (laneAt b l).poison)
      (fun l => fmul (laneAt a l).bits (laneAt b l).bits)
  | .fma => s.laneResult n f.m f.vd (fun l => (laneAt a l).poison || (laneAt b l).poison || (laneAt c l).poison)
      (fun l => ffma false false (laneAt a l).bits (laneAt b l).bits (laneAt c l).bits)

/-- VUNPK (R162). -/
def Site.issueUnpk (s : Site) (n : Nat) (f : FmtVU) : Site :=
  let a := s.vecOperand f.va
  s.laneResult n f.m f.vd (fun l => (laneAt a l).poison)
    (fun l => unpack ((ElemFmt.ofCode f.fmt.toNat).getD .fp32) (laneAt a l).bits)

/-- The CLIP step (R166): comparisons by value, a NaN limit imposes none, no flag. -/
def clip (y lo hi : Word) : Word :=
  let y1 := if (dec32 y).lt (dec32 lo) then lo else y
  if (dec32 hi).lt (dec32 y1) then hi else y1

/-- The byte of VD at which the result of lane `l` starts (Table 5.8). -/
def ocvtByte (fmt : ElemFmt) (qsel l : Nat) : Nat :=
  match fmt.size with
  | 4 => 4 * l
  | 2 => 64 * (2 * (qsel / 2) + l / 32) + 2 * (l % 32)
  | _ => 64 * qsel + l

/-- OCVT (R166, R196, Table 5.8). -/
def Site.issueOcvt (s : Site) (n : Nat) (f : FmtOC) : Site :=
  let fmt := (ElemFmt.ofCode f.fmt.toNat).getD .fp32
  let acc := f.as = 1
  let xs := if acc then s.accOperand f.src.toNat else s.vreg (f.src.toNat % 32)
  let ss := s.vecOrScalar f.vsc f.ssc
  let bs := s.vecOrScalar f.vbi f.sbi
  let lo := s.sreg f.scl.toNat
  let hi := s.sreg (f.scl.toNat + 1)
  let one := fun (l : Nat) =>
    let x0 := (laneAt xs l).bits
    let x := if acc && f.itype = 1 then cvtI2F x0 else (x0, 0)
    let y := ffma false false x.1 (laneAt ss l).bits (laneAt bs l).bits
    let z := if f.clip = 1 then clip y.1 lo hi else y.1
    let r := outConvert fmt (f.sat = 1) z
    (r.1, r.2 ||| y.2 ||| x.2)
  let poison := fun (l : Nat) => (laneAt xs l).poison || (laneAt ss l).poison || (laneAt bs l).poison
  let bits := fun (l : Nat) =>
    if poison l then (Config.poisonedBits s.seq.epoch n l).toNat % 2 ^ (8 * fmt.size) else (one l).1
  let w := laneNos.map (fun d =>
    laneNos.foldl (fun (e : Word × Word × Bool) l =>
      let at_ := ocvtByte fmt f.qsel.toNat l
      if s.active f.m l && at_ / 4 == d then
        let sh := 2 ^ (8 * (at_ % 4))
        (e.1 ||| BitVec.ofNat 32 (bits l * sh), e.2.1 ||| BitVec.ofNat 32 ((2 ^ (8 * fmt.size) - 1) * sh), e.2.2 || poison l)
      else e) (0, 0, false))
  let fl := laneNos.map (fun l => if s.active f.m l && !poison l then (one l).2 else 0)
  (s.later (n + latVector) rankVector (.v f.vd.toNat w)).later (n + latVector) rankVector (.flags (3, f.vd.toNat) fl)

/-- Consumption of poison in a vector lane (R163, R168): CAUSE_DATA names lane and register (Table 13.4). -/
def Site.consumeLane (s : Site) (n lane reg : Nat) : Site :=
  s.raise .poison 0 n ([3, 0, 0, 0] ++ leBytes 4 (lane * 32 + reg) ++ List.replicate 8 0)

/-- The compares (R163). -/
def vcmpFn (op : VCmpOp) (a b : Word) : Bool × Flags :=
  let x := dec32 a
  let y := dec32 b
  match op with
  | .eq => (x.eqv y, x.sigFlag ||| y.sigFlag)
  | .lt => (x.lt y, x.sigFlag ||| y.sigFlag)
  | .le => (x.lt y || x.eqv y, x.sigFlag ||| y.sigFlag)
  | .un => (x.isNan || y.isNan, x.sigFlag ||| y.sigFlag)
  | .ieq => (a == b, 0)
  | .ilt => (a.slt b, 0)
  | .iltu => (a.ult b, 0)

/-- VCMP and VICMP (R163): a poisoned active lane is consumed. -/
def Site.issueVCmp (s : Site) (n : Nat) (op : VCmpOp) (f : FmtVC) : Site :=
  let a := s.vecOperand f.va
  let b := s.vecOrScalar f.vb f.bs
  match laneNos.find? (fun l => s.active f.m l && ((laneAt a l).poison || (laneAt b l).poison)) with
  | some l =>
    let regs := (if (laneAt a l).poison then [f.va.toNat] else []) ++ (if (laneAt b l).poison then [f.vb.toNat] else [])
    s.consumeLane n l (regs.foldl min 31)
  | none =>
    let act := laneNos.filter (s.active f.m)
    let bit := fun (l : Nat) => (BitVec.twoPow 64 l)
    let which := act.foldl (fun w l => w ||| bit l) 0
    let bits := act.foldl (fun w l => if (vcmpFn op (laneAt a l).bits (laneAt b l).bits).1 then w ||| bit l else w) 0
    let fl := laneNos.map (fun l => if s.active f.m l then (vcmpFn op (laneAt a l).bits (laneAt b l).bits).2 else 0)
    (s.later (n + latVector) rankVector (.vm f.vmd.toNat bits which)).later (n + latVector) rankVector (.flags (4, f.vmd.toNat) fl)

/-- Mask logic (R163). -/
def Site.issueMLog (s : Site) (n : Nat) (op : LogicOp) (f : FmtML) : Site :=
  let a := if f.na = 1 then ~~~(s.vmreg f.vma.toNat) else s.vmreg f.vma.toNat
  let b := if f.nb = 1 then ~~~(s.vmreg f.vmb.toNat) else s.vmreg f.vmb.toNat
  let r := match op with
    | .and => a &&& b
    | .or => a ||| b
    | .xor => a ^^^ b
  s.later (n + latVector) rankVector (.vm f.vmd.toNat r (BitVec.allOnes 64))

/-- One level of a reduction tree (R164). -/
def redLevel (op : Word → Word → LaneResult) : List LaneResult → List LaneResult
  | a :: b :: t => let r := op a.1 b.1; (r.1, r.2 ||| a.2 ||| b.2) :: redLevel op t
  | l => l

/-- The six levels of a reduction over 64 lanes (R164). -/
def redTree (op : Word → Word → LaneResult) : Nat → List LaneResult → LaneResult
  | 0, l => l.headD (0, 0)
  | n + 1, l => redTree op n (redLevel op l)

/-- VMAX's order on values that are no NaN: −0 below +0 (R160). -/
def maxLess (a b : Word) : Bool :=
  (dec32 a).lt (dec32 b) || ((dec32 a).eqv (dec32 b) && a.getLsbD 31 && !b.getLsbD 31)

/-- VRARGMAX over the active lanes (R164): value, lane and flags. -/
def argMax (v : Lanes) (act : List Nat) : Word × Nat × Flags :=
  let fl := act.foldl (fun (f : Flags) l => f ||| (dec32 (laneAt v l).bits).sigFlag) 0
  match act.find? (fun l => (dec32 (laneAt v l).bits).isNan) with
  | some l => (nan32, l, fl)
  | none =>
    match act with
    | [] => (inf32 true, 64, 0)
    | l :: t =>
      let best := t.foldl (fun b l => if maxLess (laneAt v b).bits (laneAt v l).bits then l else b) l
      ((laneAt v best).bits, best, fl)

/-- The reductions (R164): lane 0 of VD, and lane 1 for VRARGMAX; the other lanes are unchanged. -/
def Site.issueRed (s : Site) (n : Nat) (op : RedOp) (f : FmtRD) : Site :=
  let a := s.vecOperand f.va
  let act := laneNos.filter (s.active f.m)
  let poison := act.any (fun l => (laneAt a l).poison)
  let tree := fun (g : Word → Word → LaneResult) (unit : Word) =>
    redTree g 6 (laneNos.map (fun l => (if s.active f.m l then (laneAt a l).bits else unit, (0 : Flags))))
  let r : Word × Nat × Flags := match op with
    | .sum => let t := tree fadd 0x80000000; (t.1, 0, t.2)
    | .max => let t := tree fmax (inf32 true); (t.1, 0, t.2)
    | .min => let t := tree fmin (inf32 false); (t.1, 0, t.2)
    | .argmax => argMax a act
  let two := op = .argmax
  let w := laneNos.map (fun l =>
    if l = 0 then (if poison then Config.poisonedBits s.seq.epoch n 0 else r.1, BitVec.allOnes 32, poison)
    else if l = 1 && two then
      (if poison then Config.poisonedBits s.seq.epoch n 1 else BitVec.ofNat 32 r.2.1, BitVec.allOnes 32, poison)
    else (0, 0, false))
  let fl := laneNos.map (fun l => if l = 0 && !poison then r.2.2 else 0)
  (s.later (n + latVector) rankVector (.v f.vd.toNat w)).later (n + latVector) rankVector (.flags (3, f.vd.toNat) fl)

/-- VLUT (R165). -/
def Site.issueLut (s : Site) (n : Nat) (f : FmtLU) : Site :=
  let a := s.vecOperand f.va
  let entry := fun (l : Nat) =>
    let e := (laneAt a l).bits.toNat % 256
    laneAt (s.vreg (f.vt.toNat + e / 64)) (e % 64)
  s.laneResult n f.m f.vd (fun l => (laneAt a l).poison || (entry l).poison) (fun l => ((entry l).bits, 0))

/-- The four counter words and two key words of Philox4x32. -/
structure Philox where
  c0 : Word
  c1 : Word
  c2 : Word
  c3 : Word
  k0 : Word
  k1 : Word
  deriving DecidableEq, Repr

/-- One round of Philox4x32 (R167). -/
def philoxRound (p : Philox) : Philox :=
  let p0 := 0xD2511F53 * p.c0.toNat
  let p1 := 0xCD9E8D57 * p.c2.toNat
  { p with c0 := BitVec.ofNat 32 (p1 / 2 ^ 32) ^^^ p.c1 ^^^ p.k0, c1 := BitVec.ofNat 32 p1,
           c2 := BitVec.ofNat 32 (p0 / 2 ^ 32) ^^^ p.c3 ^^^ p.k1, c3 := BitVec.ofNat 32 p0 }

/-- Rounds after the first: the key is bumped between rounds. -/
def philoxMore : Nat → Philox → Philox
  | 0, p => p
  | n + 1, p => philoxMore n (philoxRound { p with k0 := p.k0 + 0x9E3779B9, k1 := p.k1 + 0xBB67AE85 })

/-- Output word `i` of Philox4x32-10 (R167). -/
def philox (c0 c1 c2 c3 k0 k1 : Word) (i : Nat) : Word :=
  let r := philoxMore 9 (philoxRound { c0 := c0, c1 := c1, c2 := c2, c3 := c3, k0 := k0, k1 := k1 })
  match i with
  | 0 => r.c0 | 1 => r.c1 | 2 => r.c2 | _ => r.c3

/-- SAMPLE (R167). -/
def Site.issueSample (s : Site) (n : Nat) (f : FmtSM) : Site :=
  let draw := fun (l : Nat) =>
    philox (s.sreg f.st.toNat) (s.sreg f.sdr.toNat + BitVec.ofNat 32 (l / 4)) (f.purp.setWidth 32) 0
      (s.sreg f.sk.toNat) (s.sreg (f.sk.toNat + 1)) (l % 4)
  s.laneResult n f.m f.vd (fun _ => false)
    (fun l =>
      let w := draw l
      if f.u = 1 then ((Fp.fin false (w.toNat / 256) (-24)).exact32, 0) else (w, 0))

/-- VEXT (R168): an inactive lane writes nothing, a poisoned one is consumed. -/
def Site.issueExt (s : Site) (n : Nat) (f : FmtEX) : Site :=
  let l := f.lane.toNat
  if !s.active f.m l then s
  else
    let x := laneAt (s.vreg f.va.toNat) l
    if x.poison then s.consumeLane n l f.va.toNat
    else s.later (n + latVector) rankVector (.s f.sd.toNat x.bits)

/-- VFRD (R169): lane flags, or the 32 column sets. The flags are those in force at issue. -/
def Site.issueFrd (s : Site) (n : Nat) (f : FmtFL) : Site :=
  s.laneResult n f.m f.vd (fun _ => false)
    (fun l => (if f.sel = 0 then (s.laneFlags l).setWidth 32
               else if l < 32 then (s.colFlags l).setWidth 32 else 0, 0))

/-- VFCLR (R169): the clear lands before a set of the same cycle. -/
def Site.issueFclr (s : Site) (n : Nat) (m : VMask) (sel : BitVec 1) : Site :=
  if sel = 0 then
    s.later (n + latVector) 0
      (.clrLanes (laneNos.foldl (fun w l => if s.active m l then w ||| BitVec.twoPow 64 l else w) 0))
  else s.later (n + latVector) 0 .clrCols

/-- The vector operation of a slot. -/
def Site.vecBody (s : Site) (n : Nat) (op : VecOp) : Site :=
  match op with
  | .nop => s
  | .v3 op f => s.issueV3 n op f
  | .vi op f => s.issueVI n op f
  | .va op f => s.issueVA n op f
  | .unpk f => s.issueUnpk n f
  | .ocvt f => s.issueOcvt n f
  | .cmp op f => s.issueVCmp n op f
  | .mlog op f => s.issueMLog n op f
  | .red op f => s.issueRed n op f
  | .lut f => s.issueLut n f
  | .sample f => s.issueSample n f
  | .ext f => s.issueExt n f
  | .frd f => s.issueFrd n f
  | .fclr m sel => s.issueFclr n m sel

/-- MASK and MINV of a vector operation; NOP and mask logic take none (R148, R163). -/
def vecMask : VecOp → VMask
  | .nop => { mask := 0, minv := 0 }
  | .v3 _ f => f.m | .vi _ f => f.m | .va _ f => f.m | .unpk f => f.m | .ocvt f => f.m | .cmp _ f => f.m | .mlog _ f => f.m
  | .red _ f => f.m | .lut f => f.m | .sample f => f.m | .ext f => f.m | .frd f => f.m | .fclr m _ => m

/-- MASK = 0 with MINV = 1 activates no lane, and the slot acts as a NOP (R148). -/
def noLanes (m : VMask) : Bool := m.mask == 0 && m.minv == 1

/-- The vector slot (R148). -/
def Site.issueVec (s : Site) (n : Nat) (op : VecOp) : Site := if noLanes (vecMask op) then s else s.vecBody n op

end Sys2Proof.Machine
end

