-- ==== Sys2Proof/Machine/LoadStore.lean ====
section
/-! DEFINITION. The load/store slot (R148, R150, R171-R173): one narrow-port access per instruction. -/

namespace Sys2Proof.Machine

/-- The rank of the load/store slot in the order of R123. -/
def rankLs : Nat := 4

/-- LAT_NARROW (R150). -/
def latNarrow : Nat := 6

/-- Why a narrow access to address `a` in cycle `n` is not performed: RELOAD_NARROW in a reload's trailer cycles
(R133), OWNER where the bank is not NARROW (R171). DESIGN CHOICE (log 70): where both hold, RELOAD_NARROW. -/
def Site.narrowClash (s : Site) (a n : Nat) : Option Clash :=
  if (match s.reload with
      | some r => decide (r.start ≤ n) && decide (n < r.start + 16)
      | none => false) then some .reloadNarrow
  else if s.owner (bankOf a) n ≠ ownNarrow then some .owner
  else none

/-- A narrow access: `f` when it is performed, else its BANK_CLASH (R101). -/
def Site.narrow (s : Site) (a n : Nat) (f : Site → Site) : Site :=
  match s.narrowClash a n with
  | some d => s.clash d n
  | none => f (s.touch n (bankOf a))

/-- The bits of lanes loaded from a poisoned word in cycle `n` (R195). -/
def Site.loadFree (s : Site) (n l : Nat) : Word := Config.poisonedBits s.seq.epoch n (128 + l)

/-- Quarter `q` of V`vd` loaded from the word at `a` (R171, R173). -/
def Site.loadQuarter (s : Site) (n a : Nat) (vd : BitVec 5) (q : Nat) : Site :=
  s.narrow a n (fun s =>
    s.later (n + latNarrow) rankLs (.v vd.toNat (unitLanes (s.loadFree n) { bytes := s.scr.word64 a, poison := s.scr.poison64 a } q)))

/-- The word at `a` written from quarter `q` of V`vd`, poisoned if any of its lanes is (R172). -/
def Site.storeQuarter (s : Site) (n a : Nat) (vd : BitVec 5) (q : Nat) : Site :=
  s.narrow a n (fun s =>
    { s with scr := s.scr.setWord64 a (quarterBytes (s.vreg vd.toNat) q) (quarterPoison (s.vreg vd.toNat) q) })

/-- The post-increment of VLDQ.P and VSTQ.P, readable in the next cycle (Table 5.10). -/
def Site.postIncrement (s : Site) (n : Nat) (sa sb : BitVec 5) : Site :=
  s.later (n + 1) rankLs (.s sa.toNat (s.sreg sa.toNat + s.sreg sb.toNat))

/-- The lanes a byte or halfword load writes: lane `lo + i` from the `size` bytes at i × size, by `ext`. -/
def Site.loadLanes (s : Site) (n a : Nat) (vd : BitVec 5) (lo count size : Nat) (ext : Nat → Word) : Site :=
  s.narrow a n (fun s =>
    s.later (n + latNarrow) rankLs (.v vd.toNat
      (drawnLanes (s.loadFree n) lo count (s.scr.poison64 a) (fun i => ext (leAt (s.scr.word64 a) (i * size) size)))))

/-- What the load/store slot does when its guard holds. -/
def Site.lsBody (s : Site) (n : Nat) : LsOp → Site
  | .nop => s
  | .vldq f => s.loadQuarter n (s.vecAddr f.sa f.off.toNat) f.vd f.q.toNat
  | .vldqP f =>
    let a := s.vecAddr f.sa 0
    match s.narrowClash a n with
    | some d => s.clash d n
    | none => (s.loadQuarter n a f.vd f.q.toNat).postIncrement n f.sa f.sb
  | .vstq f => s.storeQuarter n (s.vecAddr f.sa f.off.toNat) f.vd f.q.toNat
  | .vstqP f =>
    let a := s.vecAddr f.sa 0
    match s.narrowClash a n with
    | some d => s.clash d n
    | none => (s.storeQuarter n a f.vd f.q.toNat).postIncrement n f.sa f.sb
  | .vldb f => s.loadLanes n (s.vecAddr f.sa f.off.toNat) f.vd 0 64 1 (fun v => BitVec.ofNat 32 v)
  | .vldbX f => s.loadLanes n (s.vecAddr f.sa f.off.toNat) f.vd 0 64 1 (fun v => (BitVec.ofNat 8 v).signExtend 32)
  | .vldh f => s.loadLanes n (s.vecAddr f.sa f.off.toNat) f.vd (32 * (f.q.toNat % 2)) 32 2 (fun v => BitVec.ofNat 32 v)
  | .sld f =>
    let a := s.scalarAddr f.sa f.off.toNat
    s.narrow a n (fun s =>
      if s.scr.poison64 a then
        s.raise .poison 0 n ([1, 0, 0, 0] ++ leBytes 4 (a / 64 * 64) ++ List.replicate 8 0)
      else s.later (n + latNarrow) rankLs (.s f.sd.toNat (BitVec.ofNat 32 (leNat (s.scr.read a 4)))))
  | .sst f =>
    let a := s.scalarAddr f.sa f.off.toNat
    s.narrow a n (fun s => { s with scr := s.scr.write a (leBytes 4 (s.sreg f.sd.toNat).toNat) })

/-- The guard of a load/store operation (R148). -/
def lsGuard : LsOp → Guard
  | .nop => 0 | .vldq f => f.g | .vldqP f => f.g | .vstq f => f.g | .vstqP f => f.g | .vldb f => f.g | .vldbX f => f.g
  | .vldh f => f.g | .sld f => f.g | .sst f => f.g

/-- The load/store slot (R148). -/
def Site.issueLs (s : Site) (n : Nat) (op : LsOp) : Site :=
  if s.guard (lsGuard op) then s.lsBody n op else s

end Sys2Proof.Machine
end

