-- ==== Sys2Proof/Machine/Steering.lean ====
section
/-! DEFINITION. The steering unit (R206-R221): one work cycle of it. -/

namespace Sys2Proof.Machine

/-- The valid entries of the table in force in cycle `c`, in ascending order (R209). -/
def Site.steerEntries (s : Site) (c : Nat) : List (Nat × SteerEntry) :=
  (List.range 32).filterMap (fun n =>
    match decodeSteer (s.steerBits (s.slotAt c) n).toNat with
    | some (some e) => some (n, e)
    | _ => none)

/-- No skid items. -/
def Skid.empty : Skid := { data := [], ctrl := [] }

/-- The skid buffers of entry `n`. -/
def Site.skid (s : Site) (n : Nat) : Skid := aget Skid.empty s.ex.skids n

/-- The skid buffers of entry `n` replaced. -/
def Site.setSkid (s : Site) (n : Nat) (k : Skid) : Site := { s with ex := { s.ex with skids := aset s.ex.skids n k } }

/-- The item visible at a hopper in cycle `c`, with the message's further units shortened away (R208). -/
def Site.hopperItem (s : Site) (h c : Nat) : Option (Item × Bool) :=
  match (s.hopper h).head c with
  | some m =>
    match m.units with
    | u :: t => some (.unit u, !t.isEmpty)
    | [] => none
  | none => none

/-- The item visible at a token queue in cycle `c`. -/
def Site.queueItem (s : Site) (q c : Nat) : Option Item :=
  match s.tokens q with
  | t :: _ => if t.visible ≤ c then some (.word t.value) else none
  | [] => none

/-- The item visible to a data input, and whether taking it shortens a message. -/
def Site.dataItem (s : Site) (d : DataSrc) (c : Nat) : Option (Item × Bool) :=
  match d with
  | .hopper h => s.hopperItem h.toNat c
  | .tq q => (s.queueItem q.toNat c).map (fun i => (i, false))

/-- The source's head removed in cycle `c`. -/
def Site.dropHead (s : Site) (d : DataSrc) (c : Nat) : Site :=
  match d with
  | .hopper h => s.setHopper h.toNat ((s.hopper h.toNat).take c)
  | .tq q => s.setTokens q.toNat (s.tokens q.toNat).tail

/-- What a steering cycle gives beside the site: messages sent, messages shortened (STEER_TRUNC). -/
structure SteerOutcome where
  site : Site
  out : List OutMsg
  trunc : Nat
  deriving Repr

/-- Intake at one data input: one visible item where the skid has room (R209). -/
def intakeData (c : Nat) (o : SteerOutcome) (n : Nat) (e : SteerEntry) : SteerOutcome :=
  let k := o.site.skid n
  match o.site.dataItem e.dsrc c with
  | some (i, short) =>
    if k.data.length < 4 then
      { o with site := (o.site.dropHead e.dsrc c).setSkid n { k with data := k.data ++ [i] }
               trunc := o.trunc + (if short then 1 else 0) }
    else o
  | none => o

/-- Intake at one control input. -/
def intakeCtrl (c : Nat) (o : SteerOutcome) (n : Nat) (e : SteerEntry) : SteerOutcome :=
  match e.csrc with
  | none => o
  | some q =>
    let k := o.site.skid n
    match o.site.queueItem q.toNat c with
    | some i =>
      if k.ctrl.length < 4 then
        { o with site := (o.site.dropHead (.tq q) c).setSkid n { k with ctrl := k.ctrl ++ [i] } }
      else o
    | none => o

/-- The word an item spells: bytes 0 to 3 of a unit (R208). -/
def itemWord (i : Item) : Word :=
  match i with
  | .word w => w
  | .unit u => BitVec.ofNat 32 (leAt u.bytes 0 4)

/-- Whether an item is poisoned. -/
def Item.poisoned (i : Item) : Bool :=
  match i with
  | .word _ => false
  | .unit u => u.poison

/-- The unit a SEND output sends (R208). -/
def Item.toUnit (i : Item) : MsgUnit :=
  match i with
  | .unit u => u
  | .word w => { bytes := leBytes 4 w.toNat ++ List.replicate 60 0, poison := false }

/-- The action of an entry for a control word (Table 7.1). -/
def steerAction (e : SteerEntry) (w : Word) : SteerAction :=
  match w.toNat / 2 ^ e.shift.toNat % 4 with
  | 0 => e.act0 | 1 => e.act1 | 2 => e.act2 | _ => e.act3

/-- The skid occupancy of the steering input that a queue feeds, if it feeds one. -/
def Site.fedInput (s : Site) (es : List (Nat × SteerEntry)) (q : BitVec 2) : Option Nat :=
  es.findSome? (fun x =>
    if x.2.dsrc = .tq q then some (s.skid x.1).data.length
    else if x.2.csrc = some q then some (s.skid x.1).ctrl.length else none)

/-- Credit for an output in cycle `c` (R211), with the pushes and messages made before it in the cycle; `base` is the
state after intake. -/
def Site.credit (s : Site) (base : Site) (es : List (Nat × SteerEntry)) (c : Nat) (o : SteerOut) : Bool :=
  match o with
  | .none => true
  | .tq q =>
    match base.fedInput es q with
    | some held => held + (s.tokens q.toNat).length < 4
    | none =>
      (s.tokens q.toNat).length + (if s.ex.popAt = some c && s.ex.popQ = q.toNat then 1 else 0) < 16
  | _ => s.injHeld c < 64

/-- An output written by entry `n` (R208, R210): a poisoned word push is consumption and stops the site (R220). DESIGN
CHOICE (log 72): the poisoned word is not pushed, and the other emissions of the cycle stand. -/
def emit (c n : Nat) (e : SteerEntry) (o : SteerOutcome) (out : SteerOut) (i : Item) : SteerOutcome :=
  let msg := fun (d : Dest) (h : BitVec 2) => (
    { dest := d, hop := h.toNat, order := 1 + n, stamp := c, tag := e.tag, units := [i.toUnit] } : OutMsg)
  match out with
  | .none => o
  | .tq q =>
    if i.poisoned && o.site.ex.steerOff then o
    else if i.poisoned then
      let s := o.site.raise .poison 0 c ([4, 0, 0, 0]
        ++ leBytes 4 (((match e.dsrc with | .hopper h => h.toNat | .tq _ => 0)) + 32 + 64 * n) ++ List.replicate 8 0)
      { o with site := { s with ex := { s.ex with steerOff := true } } }
    else
      { o with site := o.site.setTokens q.toNat (o.site.tokens q.toNat ++ [{ value := itemWord i, visible := c + 1 }]) }
  | .send h q t => { o with site := o.site.inject c 1, out := o.out ++ [msg (.tile (q.toNat * 512 + t.toNat)) h] }
  | .msend h g => { o with site := o.site.inject c 1, out := o.out ++ [msg (.group g.toNat) h] }

/-- An entry in cycle `c` (R209, R211): it fires when both inputs hold an item and its action's outputs have credit;
without the credit it adds a steering stall. `es` is the table, `base` the state after intake. -/
def fireEntry (c : Nat) (base : Site) (es : List (Nat × SteerEntry)) (o : SteerOutcome) (x : Nat × SteerEntry) :
    SteerOutcome :=
  let n := x.1
  let e := x.2
  let k := o.site.skid n
  match k.data, (match e.csrc with | none => some (Item.word e.const) | some _ => k.ctrl.head?) with
  | d :: ds, some ctl =>
    let act := steerAction e (itemWord ctl)
    let useA := act = .a || act = .both
    let useB := act = .b || act = .both
    let pay := fun (p : BitVec 1) => if p = 1 then ctl else d
    let popped := { o with site := o.site.setSkid n { data := ds, ctrl := k.ctrl.tail } }
    let afterA := if useA then emit c n e popped e.outA (pay e.payA) else popped
    if (!useA || o.site.credit base es c e.outA) && (!useB || afterA.site.credit base es c e.outB) then
      if useB then emit c n e afterA e.outB (pay e.payB) else afterA
    else
      { o with site := { o.site with seq := { o.site.seq with steerStalls := o.site.seq.steerStalls + 1 } } }
  | _, _ => o

/-- SKEW_OVERFLOW at an input of entry `n` in cycle `c` (R215); CAUSE_DATA of Table 13.4. -/
def skewFault (c n input : Nat) (o : SteerOutcome) : SteerOutcome :=
  let k := o.site.skid n
  let s := o.site.raise .skewOverflow 0 c
    ([BitVec.ofNat 8 (o.site.slotAt c), BitVec.ofNat 8 n, BitVec.ofNat 8 input,
      BitVec.ofNat 8 k.data.length, BitVec.ofNat 8 k.ctrl.length] ++ List.replicate 11 0)
  { o with site := { s with ex := { s.ex with steerOff := true } } }

/-- The data input after the firings of cycle `c` (R215): an input that was full before them, `late`, takes its visible item
once the entry has fired; one that holds 4 items and has another visible overflows. -/
def settleData (c : Nat) (late : Bool) (o : SteerOutcome) (n : Nat) (e : SteerEntry) : SteerOutcome :=
  let o1 := if late then intakeData c o n e else o
  if (o1.site.skid n).data.length = 4 && (o1.site.dataItem e.dsrc c).isSome then skewFault c n 0 o1 else o1

/-- The control input after the firings of cycle `c` (R215). -/
def settleCtrl (c : Nat) (late : Bool) (o : SteerOutcome) (n : Nat) (e : SteerEntry) : SteerOutcome :=
  let o1 := if late then intakeCtrl c o n e else o
  match e.csrc with
  | some q => if (o1.site.skid n).ctrl.length = 4 && (o1.site.queueItem q.toNat c).isSome then skewFault c n 1 o1 else o1
  | none => o1

/-- One work cycle of the steering unit (R209): intake, firing in ascending entry order on the state after intake, the
overflow check. A stopped unit does nothing: DESIGN CHOICE (log 72), it takes no item in either. -/
def Site.steerCycle (s : Site) (c : Nat) : SteerOutcome :=
  let o0 : SteerOutcome := { site := s, out := [], trunc := 0 }
  if s.ex.steerOff then o0 else
  let es := s.steerEntries c
  let full := fun (n : Nat) (data : Bool) => decide (4 ≤ (if data then (s.skid n).data.length else (s.skid n).ctrl.length))
  let o1 := es.foldl (fun o x => intakeCtrl c (intakeData c o x.1 x.2) x.1 x.2) o0
  let o2 := es.foldl (fireEntry c o1.site es) o1
  es.foldl (fun o x => settleCtrl c (full x.1 false) (settleData c (full x.1 true) o x.1 x.2) x.1 x.2) o2

end Sys2Proof.Machine
end

