-- ==== Sys2Proof/Machine/Issue.lean ====
section
/-! DEFINITION. The issue of a bundle (R88, R117-R124): the cycles before it, the stall of RECV, its five slots, and the
physical happenings of its cycle. -/

namespace Sys2Proof.Machine

/-- Whether nothing of a site's matrix unit, reload or results is in flight. -/
def Site.quiet (s : Site) : Bool :=
  s.seq.landings.isEmpty && s.mat.feeds.isEmpty && s.mat.loads.isEmpty &&
    (match s.reload with
     | some r => decide (128 ≤ r.done)
     | none => true)

/-- What lands in cycle `c` before anything issues in it. -/
def Site.arrive (s : Site) (c : Nat) : Site := ((s.land c).landRows c).feedCheck c

/-- A whole cycle in which no bundle issues. -/
def Site.pass (s : Site) (c : Nat) : Site :=
  let t := (s.arrive c).wide c
  { t with seq := { t.seq with clock := c + 1 } }

/-- The cycles up to, not including, `c`; once the site is quiet the rest pass at once. -/
def Site.runTo : (fuel : Nat) → (c : Nat) → Site → Site
  | 0, c, s => { s with seq := { s.seq with clock := max s.seq.clock c } }
  | n + 1, c, s =>
    if c ≤ s.seq.clock then s
    else if s.quiet then { s with seq := { s.seq with clock := c } }
    else Site.runTo n c (s.pass s.seq.clock)

/-- Every cycle before `c`. -/
def Site.settle (s : Site) (c : Nat) : Site := Site.runTo (c - s.seq.clock) c s

/-- Every operation in flight landed and every access made, whatever cycles it takes (R136). -/
def Site.drain (s : Site) : Site := Site.runTo 2048 (s.seq.clock + 2048) s

/-- Whether a bundle's matrix slot is an MFEED that executes. -/
def Site.feeding (s : Site) (b : Bundle) : Bool :=
  match b.mat with
  | .mfeed f => s.guard f.g
  | _ => false

/-- Whether a bundle's control slot is a RELOAD that executes and is performed in cycle `n`. -/
def Site.startsReload (s : Site) (n : Nat) (b : Bundle) : Bool :=
  match b.scal with
  | .reload f => s.guard f.g && !(decide (f.slot.toNat = s.slotAt n) || s.reloading n)
  | _ => false

/-- The wide accesses of earlier instructions in cycle `n`, before bundle `b` issues: one that finds a clash stops the site,
and the bundle does not issue (R101). A weight access gives way to the fetch of an MFEED in the bundle (R154), and every
access to a RELOAD in it, whose first access takes the port (Table 3.3). DEDUCED (log 73): such a RELOAD's bundle issues,
since the clash is its own doing. -/
def Site.early (s : Site) (n : Nat) (b : Bundle) : Site :=
  if s.startsReload n b then s
  else
    let held := s.reloading n
    let t := (s.reloadAccess n).fetchAccess held n
    if s.feeding b then t else t.weightAccess held n

/-- Whether a bundle's control slot is a SWITCH that executes. -/
def Site.switches (s : Site) (b : Bundle) : Bool :=
  match b.scal with
  | .switch f => s.guard f.g
  | _ => false

/-- Whether a site has stopped for the rest of the turn. -/
def SeqStatus.isStopped : SeqStatus → Bool
  | .stopped _ => true
  | _ => false

/-- Whether lane `l` of a bundle's vector slot computes (R149): mask logic, VFCLR and NOP use no lane. -/
def Site.laneWorks (s : Site) (b : Bundle) (l : Nat) : Bool :=
  match b.vec with
  | .nop => false
  | .mlog _ _ => false
  | .fclr _ _ => false
  | op => !noLanes (vecMask op) && s.active (vecMask op) l

/-- RESIDUE's CAUSE_DATA (Table 13.4): the unit, and the column or lane. -/
def residueData (unit i : Nat) : List Byte := [1, BitVec.ofNat 8 unit, BitVec.ofNat 8 i] ++ List.replicate 13 0

/-- A failed residue check in cycle `n` (R104, R170), which only a product can raise: of a row that enters the array (unit
0; `i` is 32 × element + column) or of an active lane of the bundle's vector operation (unit 1). The product's flags are not
used (R197). DESIGN CHOICE (log 74): RESIDUE is raised in the cycle of the product, where the spec allows 16 cycles. -/
def Site.residueFails (s : Site) (n : Nat) (b : Bundle) (unit i : Nat) : Site :=
  if unit = 0 then
    let enters := fun (m : Multiply) (f : Feed) => decide (m.at_ ≤ n ∧ n < m.at_ + f.rows)
    if s.mat.feeds.any (fun f => f.mmul.any (fun m => enters m f)) then
      ({ s with mat := { s.mat with feeds := s.mat.feeds.map (fun f => { f with mmul := f.mmul.map (fun m =>
          if enters m f then { m with noFlags := (n - m.at_, i) :: m.noFlags } else m) }) } } : Site).raise .residue 0 n
        (residueData 0 (i % 32))
    else s
  else if s.laneWorks b i then
    let mute := fun (e : Landing) =>
      match e.res with
      | .flags dst fs =>
        if e.at_ = n + latVector ∧ e.rank = rankVector then { e with res := .flags dst (lmod fs i (fun _ => 0)) } else e
      | _ => e
    ({ s with seq := { s.seq with landings := s.seq.landings.map mute } } : Site).raise .residue 0 n (residueData 1 i)
  else s

/-- The physical happenings of the cycle after a bundle issued (R89, R104): the site stops; LOCKSTEP's CAUSE_DATA as Table
13.4. -/
def Site.checks (s : Site) (n : Nat) (b : Bundle) (k : Checks) : Site :=
  let s1 := if k.lockstep then s.raise .lockstep (if k.router then 1 else 0) n (1 :: List.replicate 15 0) else s
  match k.residue with
  | some (unit, i) => s1.residueFails n b unit i
  | none => s1

/-- The five slots of a bundle in cycle `n` (R117, R120): every operand is the register content before any result of
the bundle lands. -/
def Site.slots5 (s : Site) (n : Nat) (b : Bundle) (k : Checks) : Site × List OutMsg :=
  let e := s.issueExch n b.exch
  let busy := s.switches b && !(e.1.steerCycle n).site.skidsEmpty
  let c := e.1.issueScalar n busy b.scal
  let v := ((c.1.issueMat n b.mat).issueVec n b.vec).issueLs n b.ls
  let w := (v.checks n b k).wide n
  let f := w.finish n c.2
  ({ f with seq := { f.seq with clock := n + 1 } }, e.2)

/-- A bundle issued in the site's next issue cycle (R121, R124): a RECV that finds no message stalls it. A site whose
sequencer does not run, or whose index has passed 1,023 (R128), issues nothing. -/
def Site.issue (s0 : Site) (limit : Nat) (b : Bundle) (k : Checks) : Site × List OutMsg :=
  if s0.seq.status ≠ .running || s0.seq.pc > 1023 || limit ≤ s0.seq.next then (s0, [])
  else
    let n := s0.seq.next
    let s1 := (s0.settle n).arrive n
    let s2 := s1.early n b
    if s2.seq.status.isStopped then
      let t := s2.wide n
      ({ t with seq := { t.seq with clock := n + 1, next := n + 1 } }, [])
    else if s2.stalls n b.exch then
      let t := s2.wide n
      ({ t with seq := { t.seq with clock := n + 1, next := n + 1, stalls := t.seq.stalls + 1 } }, [])
    else s2.slots5 n b k

/-- The bundle at the program counter of the active slot (R87, R91). -/
def Site.fetched (s : Site) : BitVec 256 := s.bundleAt s.seq.slot s.seq.pc

/-- Whether whatever the site's sequencer does in work cycle `c` has been done: its bundle of the cycle has issued, or it
issues none. -/
def Site.issuedPast (s : Site) (c : Nat) : Bool :=
  match s.seq.status with
  | .running => decide (c < s.seq.next)
  | .waiting _ => decide (c < s.seq.next)
  | _ => true

/-- The site with every access of the cycles up to `c` made, as far as its sequencer has come. -/
def Site.upTo (s : Site) (c : Nat) : Site := if s.issuedPast c then s.settle (c + 1) else s

/-- Whether the DMA engine finds the wide port free in work cycle `c` (Table 3.3, R113): neither a reload nor the matrix
slot uses it. `s` has made the accesses of that cycle. -/
def Site.wideFree (s : Site) (c : Nat) : Bool := s.issuedPast c && !s.reloading c && decide (s.mat.lastWide ≠ c + 1)

/-- A fetch whose error the ECC cannot correct (R124): the bundle does not issue. -/
def Site.fetchFails (s0 : Site) : Site :=
  if s0.seq.status ≠ .running then s0
  else
    let n := s0.seq.next
    let s := (s0.settle n).arrive n
    let t := s.raise .eccUe 0 n ([1, 0, 0, 0] ++ leBytes 4 (32768 * s.slotAt n + 32 * s.seq.pc) ++ List.replicate 8 0)
    { t with seq := { t.seq with clock := n, next := n + 1 } }

/-- A wait that ends (R137). -/
def Site.endWait (s : Site) : Site :=
  match s.seq.status with
  | .waiting _ => { s with seq := { s.seq with status := .running } }
  | _ => s

/-- One uncorrectable error poisons what it lies in (Table 13.1). -/
def Site.upsetAt (s : Site) : Upset → Site
  | .scratch w => { s with scr := s.scr.mark w true }
  | .acc row high =>
    let a := s.accRow row
    { s with mat := { s.mat with acc := aset s.mat.acc row (if high then { a with pHi := true } else { a with pLo := true }) } }
  | .quarter r q =>
    let bad := fun (e : Lane × Nat) => if e.2 / 16 = q then { e.1 with poison := true } else e.1
    { s with vec := { s.vec with v := aset s.vec.v r ((s.vreg r).zipIdx.map bad) } }
  | .hopper h i u =>
    let x := s.hopper h
    s.setHopper h { x with msgs := lmod x.msgs i (fun m => { m with units := lmod m.units u (fun z => { z with poison := true }) }) }
  | .weights wb =>
    let spoil := fun (b : WBuf) => { b with block := b.block.map (fun k => { k with poison := true }) }
    if wb = 0 then { s with mat := { s.mat with wb0 := spoil s.mat.wb0 } } else { s with mat := { s.mat with wb1 := spoil s.mat.wb1 } }
  | .array =>
    let enters := fun (f : Feed) (m : Multiply) => decide (s.seq.next < m.at_ + f.rows) && m.spoilt.isNone
    { s with mat := { s.mat with
        array := s.mat.array.map (fun k => { k with poison := true })
        feeds := s.mat.feeds.map (fun f => { f with mmul := f.mmul.map (fun m =>
          if enters f m then { m with spoilt := some s.seq.next } else m) }) } }

/-- What the cycle's accesses find uncorrectable (R93, R105, R108, R109). -/
def Site.upset (s : Site) (l : List Upset) : Site := l.foldl Site.upsetAt s

/-- CAUSE_DATA of ECC_UE (Table 13.4): the structure and its address. -/
def eccData (structure_ addr : Nat) : List Byte := [BitVec.ofNat 8 structure_, 0, 0, 0] ++ leBytes 4 addr ++ List.replicate 8 0

/-- Whether FEED_TIMING for a stream left without its MMUL is due: the next bundle issues after cycle a + 8 (R155). -/
def Site.feedDue (s : Site) : Option Nat :=
  (s.mat.feeds.find? (fun f => f.mmul.isNone)).bind (fun f =>
    let c := f.start + 9
    match s.seq.status with
    | .running => if c ≤ s.seq.next then some c else none
    | .waiting w => if c ≤ w then some c else none
    | _ => some c)

/-- FEED_TIMING raised in its cycle. -/
def Site.feedTiming (s : Site) : Site :=
  match s.feedDue with
  | some c => (s.settle c).pass c
  | none => s

end Sys2Proof.Machine
end

