-- ==== Sys2Proof/Machine/Device.lean ====
section
/-! DEFINITION. Access to the parts of the module: sites, contexts, quadrants, functions and rings, ports, channels;
where a logical tile lies; the counters of a quadrant's page. -/

namespace Sys2Proof.Machine

/-- What every meaning answers. -/
abbrev Result3 := Host.Outcome State Fault Refusal

/-- Site `i` (quadrant × 576 + index). -/
def State.site (s : State) (i : Nat) : Site :=
  match alook s.sites i with
  | some x => x
  | none => Site.cleared i

/-- Site `i` replaced. -/
def State.setSite (s : State) (i : Nat) (x : Site) : State := { s with sites := aset s.sites i x }

/-- Site `i` changed. -/
def State.modSite (s : State) (i : Nat) (f : Site → Site) : State := s.setSite i (f (s.site i))

/-- Context `c`. -/
def State.ctx (s : State) (c : Nat) : Ctx := aget Ctx.reset s.ctxs c

/-- Context `c` replaced. -/
def State.setCtx (s : State) (c : Nat) (x : Ctx) : State := { s with ctxs := aset s.ctxs c x }

/-- Context `c` changed. -/
def State.modCtx (s : State) (c : Nat) (f : Ctx → Ctx) : State := s.setCtx c (f (s.ctx c))

/-- Quadrant QD`q`. -/
def State.quad (s : State) (q : Nat) : Quad := aget Quad.reset s.quads q

/-- Quadrant QD`q` changed. -/
def State.modQuad (s : State) (q : Nat) (f : Quad → Quad) : State := { s with quads := aset s.quads q (f (s.quad q)) }

/-- Function `f`: 0 the PF, 1 + q the VF of QDq (R283). -/
def State.fn (s : State) (f : Nat) : Fn := aget Fn.reset s.fns f

/-- Function `f` changed. -/
def State.modFn (s : State) (f : Nat) (g : Fn → Fn) : State := { s with fns := aset s.fns f (g (s.fn f)) }

/-- Ring pair `r` of a function. -/
def Fn.ring (x : Fn) (r : Nat) : Ring := aget Ring.reset x.rings r

/-- Ring pair `r` of function `f`. -/
def State.ring (s : State) (f r : Nat) : Ring := (s.fn f).ring r

/-- Ring pair `r` of function `f` changed. -/
def State.modRing (s : State) (f r : Nat) (g : Ring → Ring) : State :=
  s.modFn f (fun x => { x with rings := aset x.rings r (g (x.ring r)) })

/-- Avdin port L`n`. -/
def State.port (s : State) (n : Nat) : Port := aget Port.reset s.avdin.ports n

/-- Avdin port L`n` changed. -/
def State.modPort (s : State) (n : Nat) (g : Port → Port) : State :=
  { s with avdin := { s.avdin with ports := aset s.avdin.ports n (g (s.port n)) } }

/-- DDR channel `n`. -/
def State.chan (s : State) (n : Nat) : Channel := aget Channel.reset s.ddr.chan n

/-- DDR channel `n` changed. -/
def State.modChan (s : State) (n : Nat) (g : Channel → Channel) : State :=
  { s with ddr := { s.ddr with chan := aset s.ddr.chan n (g (s.chan n)) } }

/-- The DDR memory of QD`q`, keyed by local address. -/
def Ddr.memory (d : Ddr) (q : Nat) : Memory := aget Memory.cleared d.mem q

/-- The DDR memory of QD`q` changed. -/
def State.modMem (s : State) (q : Nat) (g : Memory → Memory) : State :=
  { s with ddr := { s.ddr with mem := aset s.ddr.mem q (g (s.ddr.memory q)) } }

/-- Something leaves the module. -/
def State.emit (s : State) (o : Out) : State := { s with out := s.out ++ [o] }

/-! ### The order code (Table 0.1, CAP0, CAP1) -/

/-- DEVICE_ID − 0x48C0 (Table 10.20). -/
def OrderCode.index : OrderCode → Nat
  | .p4c64l8 => 0 | .p4c64l2 => 1 | .p4c48l0 => 2 | .p3c48l2 => 3

/-- The quadrants present (R1 to R3). -/
def OrderCode.quads : OrderCode → List Nat
  | .p3c48l2 => [0, 1, 2]
  | _ => [0, 1, 2, 3]

/-- The Avdin ports present (Table 12.1). -/
def OrderCode.ports : OrderCode → List Nat
  | .p4c64l8 => [0, 1, 2, 3, 4, 5, 6, 7]
  | .p4c48l0 => []
  | _ => [0, 1]

/-- The DDR channels of a quadrant that are present (Table 10.21). -/
def OrderCode.channels (o : OrderCode) (q : Nat) : List Nat :=
  (List.range (match o with
    | .p4c48l0 => 12
    | .p3c48l2 => if q < 3 then 16 else 0
    | _ => 16)).map (fun i => 16 * q + i)

/-- Whether the MX4 unpacker is present. -/
def OrderCode.mx4 : OrderCode → Bool
  | .p3c48l2 => false
  | _ => true

/-- Whether the digest engine is present. -/
def OrderCode.digest : OrderCode → Bool
  | .p4c48l0 => false
  | _ => true

/-- UNITS (Table 2.4): bit 0 MX4 unpacker, bit 1 digest engine, bit 2 Avdin ports. -/
def OrderCode.units (o : OrderCode) : Nat :=
  (if o.mx4 then 1 else 0) + (if o.digest then 2 else 0) + (if o.ports.isEmpty then 0 else 4)

/-! ### The turn's windows (Table 1.1) -/

/-- The intake window in cycles. -/
def intakeCycles : Nat := 2048

/-- The turn's length in cycles (R14). -/
def Geometry.cycles (g : Geometry) : Nat := g.m * 1024

/-- The dressing window in cycles. -/
def Geometry.dressing (g : Geometry) : Nat := g.d * 256

/-- The close window in cycles. -/
def Geometry.close (g : Geometry) : Nat := g.c * 256

/-- The work window in cycles (Table 1.1). -/
def Geometry.work (g : Geometry) : Nat := g.cycles - intakeCycles - g.dressing - g.close

/-- Whether a geometry is valid (R14, R15, R16). -/
def Geometry.valid (g : Geometry) : Bool :=
  decide (64 ≤ g.m ∧ g.m ≤ 1024 ∧ 4 ≤ g.d ∧ g.d ≤ 64 ∧ 4 ≤ g.c ∧ g.c ≤ 256 ∧
    intakeCycles + g.dressing + g.close + 32768 ≤ g.cycles)

/-- TURN_GEOMETRY as a word (Table 1.6). -/
def Geometry.word (g : Geometry) : BitVec 32 := BitVec.ofNat 32 (g.c * 2 ^ 23 + g.d * 2 ^ 16 + g.m)

/-- The cycle of the turn in which a window begins. -/
def Geometry.start (g : Geometry) : Window → Nat
  | .intake => 0
  | .work => intakeCycles
  | .dressing => intakeCycles + g.work
  | .close => intakeCycles + g.work + g.dressing

/-- T_turn in µs: M × 1,024 cycles at 850 MHz. -/
def Geometry.micros (g : Geometry) : Rat := (g.cycles : Rat) / 850

/-- The work cycle in which something reaches the device's sites now: that of the turn generator in the work window; outside
it no handover is under way, and every later cycle reads the same maps (R239). -/
def State.portCycle (s : State) : Nat := match s.turn.window with
  | .work => s.turn.cycle - intakeCycles
  | _ => s.turn.geom.cycles

/-! ### Where things lie -/

/-- The site of logical tile `t` of QD`q` (R49): from the remap table, tile t at site t where it lists none. -/
def State.siteOf (s : State) (q t : Nat) : Nat :=
  match alook (s.quad q).remap t with
  | some e => e.site
  | none => q * Config.sitesPerQuad + t

/-- The site of global logical tile `g` of a context's plan (R48, R50). -/
def State.siteOfTile (s : State) (x : Ctx) (g : Nat) : Option Nat :=
  (x.quads[g / Config.tilesPerQuad]?).map (fun q => s.siteOf q (g % Config.tilesPerQuad))

/-- The sites that hold a context's tiles. -/
def State.ctxSites (s : State) (c : Nat) : List Nat :=
  match (s.ctx c).plan with
  | some p => p.body.tiles.filterMap (fun t => s.siteOfTile (s.ctx c) t.tile)
  | none => []

/-- Whether a context is bound to QD`q`. -/
def Ctx.boundTo (x : Ctx) (q : Nat) : Bool := x.quads.contains q

/-- The contexts of the device (R48). -/
def allCtxs : List Nat := List.range 16

/-- The contexts bound to a quadrant. -/
def State.ctxsOn (s : State) (q : Nat) : List Nat := allCtxs.filter (fun c => (s.ctx c).boundTo q)

/-- The contexts whose plan code may run: RUNNING and DRAINING (R254). -/
def Ctx.active (x : Ctx) : Bool :=
  match x.state with
  | .running => true
  | .draining => true
  | _ => false

/-- The functions of the module: the PF and one VF per quadrant (R3, R283). -/
def State.functions (s : State) : List Nat := 0 :: s.mod.order.quads.map (fun q => q + 1)

/-- Whether site `i` is in service mode (R90): while the turn generator stands, as a SPARE or FENCED site, under a reset of its
quadrant or a snapshot of its context, in the dressing window, or in the close window where it audits in the turn (R402). -/
def State.serviceMode (s : State) (i : Nat) : Bool :=
  let a := s.site i
  let z := s.quad (i / Config.sitesPerQuad)
  !s.turn.running || decide (a.role = .spare ∨ a.role = .fenced ∨ z.recState = .fast ∨ z.recState = .full) ||
    (z.snap.pending && a.ctx.any (fun c => z.snap.ctxs.contains c)) ||
    (match s.turn.window with
     | .dressing => decide (a.role ≠ .auditor)
     | .close => decide (a.role = .auditor)
     | _ => false)

/-- Every site in the mode that the window and its role give it (R90). -/
def State.drivenModes (s : State) : State :=
  { s with sites := s.sites.map (fun e => (e.1, { e.2 with service := s.serviceMode e.1 })) }

/-- Whether the device runs: its turn generator turns and no chip brake stands (R408). -/
def State.live (s : State) : Bool := s.turn.running && !s.check.chipBraked

/-- Whether the quadrant is in a fast or full path. -/
def RecState.resetting : RecState → Bool
  | .fast => true
  | .full => true
  | _ => false

/-- The tile program of a global logical tile in a plan. -/
def Plan.tile (p : Plan) (g : Nat) : Option PlanTile := p.body.tiles.find? (fun t => t.tile == g)

/-- Gearing `g`'s descriptor. -/
def Plan.gear (p : Plan) (g : Nat) : Gearing :=
  p.hdr.descs.getD g { activeTiles := 0, batch := 0, stageTurns := 0, interval := 0, crossings := 0, bankMask := 0, eFull := 0,
                       eIdle := 0, ddrUnits := 0, avdinBytes := 0, workCycles := 0, sectionMask := 0 }

/-- The batch declaration of gearing `g` (Table 11.2). -/
def Plan.batch (p : Plan) (g : Nat) : Option BatchDecl := p.body.batches[g]?

/-- DEV_STATE changes; SEQ counts each change of STATE and BRAKED_QUADS (Table 10.22). -/
def State.setDev (s : State) (d : DevCode) (braked : List Nat) : State :=
  if s.mod.dev = d ∧ s.mod.brakedQuads = braked then s
  else { s with mod := { s.mod with dev := d, brakedQuads := braked, seq := (s.mod.seq + 1) % 65536 } }

/-- Whether the device is in a start (R459). -/
def DevCode.inStart : DevCode → Bool
  | .booting => true
  | .resetting => true
  | _ => false

/-- CPB_GENERATION and CHANGED_TURN move when a field of the contract parameter block changes (R73). -/
def State.cpbChanged (s : State) : State :=
  { s with mod := { s.mod with cpbGen := (s.mod.cpbGen + 1) % 65536, cpbTurn := s.turn.no } }

/-! ### Memory interface of QDq's DDR -/

/-- Capacity of a capacity code in bytes (Table 11.13). -/
def capBytes (code : Nat) : Nat := if code = 0 then 0 else 2 ^ (35 + code)

/-- The interleave set of QD`q` (R341). -/
def Ddr.set (d : Ddr) (q : Nat) : List Nat := aget [] d.sets q

/-- Cap_q in bytes (R340). -/
def Ddr.capacity (d : Ddr) (q : Nat) : Nat := (d.set q).length * capBytes (aget 0 d.cap q)

/-- The channel that holds local address `l` of QD`q`, and its channel address (R341). -/
def Ddr.locate (d : Ddr) (q l : Nat) : Option (Nat × Nat) :=
  let set := d.set q
  let g := l / 1024
  if set.length = 0 then none
  else (set[g % set.length]?).map (fun ch => (ch, g / set.length * 1024 + l % 1024))

/-- Data rate in MT/s of DDR_STATUS.RATE. -/
def Ddr.mts (d : Ddr) : Nat := if d.rate = 2 then 17600 else if d.rate = 1 then 14400 else 12800

/-- Whether a channel serves accesses (Table 11.13). -/
def ChanState.serves : ChanState → Bool
  | .inService => true
  | .atRisk => true
  | _ => false

/-- c_q: channels of QD`q` trained with a module present (R57). -/
def State.trainedChannels (s : State) (q : Nat) : Nat :=
  ((s.mod.order.channels q).filter (fun n => (s.chan n).state.serves)).length

/-- DDR_BUDGET_q in units of 128 bytes (R57). -/
def State.ddrBudget (s : State) (q : Nat) : Nat := s.trainedChannels q * s.ddr.mts * s.turn.geom.m * 8 / 125

/-- The port close budget in bytes (R60). -/
def Geometry.portCloseBytes (g : Geometry) : Nat := 200 * (g.close * 1000 - 510000) / 850

/-- H_max for `v` bytes (R60). -/
def Geometry.hMax (g : Geometry) (v : Nat) : Nat := (g.close * 200 * 1000 - v * 850) / (200 * 510000)

end Sys2Proof.Machine
end

