-- ==== Sys2Proof/Machine/Mesh.lean ====
section
/-! DEFINITION. The mesh between sites (R52, R54, R139, R222 to R227): a message that a site hands to its router becomes
a flight at each destination, with its pinned cycle; and a site's part of a bundle or a steering cycle. -/

namespace Sys2Proof.Machine

/-- The pinned latency of a message between two physical quadrants (Table 2.1). -/
def pinnedLatency (fromQ toQ : Nat) : Nat := if fromQ = toQ then 48 else 160

/-- The number of bits by which counters of 16 and 32 bits saturate are in `satAdd`. One more in a 32-bit counter. -/
def bump32 (n k : Nat) : Nat := satAdd 32 n k

/-- `k` more in a 16-bit counter. -/
def bump16 (n k : Nat) : Nat := satAdd 16 n k

/-- A message put on its way to the site of one destination tile (R52): dropped at the edge of a resetting quadrant
(R449). -/
def State.dispatchTo (s : State) (src : Nat) (m : OutMsg) (g : Nat) : State :=
  let a := s.site src
  match a.ctx with
  | none => s
  | some c =>
    match s.siteOfTile (s.ctx c) g with
    | none => s
    | some d =>
      let q := d / Config.sitesPerQuad
      if (s.quad q).recState = .fast ∨ (s.quad q).recState = .full then
        s.modQuad q (fun x => { x with droppedIntoReset := bump16 x.droppedIntoReset 1 })
      else
        let at_ := m.stamp + pinnedLatency (src / Config.sitesPerQuad) q
        let f : Flight :=
          { toTile := g, hop := m.hop, order := a.gtile * 64 + 2 + m.order
            msg := { units := m.units, tag := m.tag, source := .tile a.gtile, visible := at_, pinned := at_ } }
        s.modSite d (fun x => { x with ex := { x.ex with pad := x.ex.pad ++ [f] } })

/-- The members of a tile's multicast group in a gearing. -/
def tileGroup (t : PlanTile) (g n : Nat) : List Nat :=
  match t.groups.find? (fun d => d.gearing == g && d.no == n) with
  | some d => d.members
  | none => []

/-- The members that a message's destination names: one tile, or a multicast group of the sender's program in the running gearing
(R139, R260). -/
def State.members (s : State) (src : Nat) (d : Dest) : List Nat :=
  match d with
  | .tile g => [g]
  | .group n =>
    let a := s.site src
    match a.ctx with
    | none => []
    | some c => match (s.ctx c).plan.bind (fun p => p.tile a.gtile) with
      | some t => tileGroup t (s.ctx c).gearing n
      | none => []

/-- Messages handed to the router of site `src`. -/
def State.dispatch (s : State) (src : Nat) (ms : List OutMsg) : State :=
  ms.foldl (fun t m => (t.members src m.dest).foldl (fun u g => u.dispatchTo src m g) t) s

/-- On-chip words corrected, for the wear score (Table 14.7). -/
def State.wearCorrected (s : State) (q n : Nat) : State :=
  if n = 0 then s else { s with heal := { s.heal with dayCorrected := amod 0 s.heal.dayCorrected q (fun k => k + n) } }

/-- The counters of the site's quadrant after what happened at a site: stalls and corrected words (R121, R211, R96). -/
def State.countSite (s : State) (i : Nat) (old : Site) (corrected : Nat) : State :=
  let new := s.site i
  (s.wearCorrected (i / Config.sitesPerQuad) corrected).modQuad (i / Config.sitesPerQuad) (fun x => { x with
    recvStalls := bump32 x.recvStalls (new.seq.stalls - old.seq.stalls)
    steerStalls := bump32 x.steerStalls (new.seq.steerStalls - old.seq.steerStalls)
    corrWords := bump32 x.corrWords corrected })

/-- The hardware checks that a site raised since `old` are counted on the check page (Table 13.17). -/
def State.countChecks (s : State) (i : Nat) (old : Site) : State :=
  let fresh := (s.site i).faults.drop old.faults.length
  let n := fun (c : Cause) => (fresh.filter (fun f => f.cause == c)).length
  s.modQuad (i / Config.sitesPerQuad) (fun x => { x with
    lockstep := bump16 x.lockstep (n .lockstep)
    residue := bump16 x.residue (n .residue)
    eccUe := bump16 x.eccUe (n .eccUe) })

/-- Whether a bundle fetch is uncorrectable (R124). -/
def fetchBad : FetchEcc → Bool
  | .uncorrectable => true
  | _ => false

/-- Words corrected in the cycle, the fetched group among them (R96, R124). -/
def wordsFixed (k : Checks) : Nat :=
  k.corrected + (match k.ecc with
                 | .corrected => 1
                 | _ => 0)

/-- One bundle of site `i`: the cycles up to it, its five slots, and what leaves the site (R88, R117). No bundle issues
after the last cycle of the work window. -/
def State.issueAt (s : State) (i : Nat) (b : Bundle) (k : Checks) : State :=
  let old := s.site i
  let a := old.upset k.upsets
  let r := if fetchBad k.ecc then (a.fetchFails, []) else a.issue s.turn.geom.work b k
  (((s.setSite i r.1).dispatch i r.2).countSite i old (wordsFixed k)).countChecks i old

/-- A bundle that holds one slot's operation. -/
def loneScalar (o : ScalarOp) : Bundle := { Bundle.nops with scal := o }
/-- A bundle that holds an exchange operation. -/
def loneExch (o : ExchOp) : Bundle := { Bundle.nops with exch := o }
/-- A bundle that holds a matrix operation. -/
def loneMat (o : MatOp) : Bundle := { Bundle.nops with mat := o }
/-- A bundle that holds a vector operation. -/
def loneVec (o : VecOp) : Bundle := { Bundle.nops with vec := o }
/-- A bundle that holds a load/store operation. -/
def loneLs (o : LsOp) : Bundle := { Bundle.nops with ls := o }

/-- The bundle at the program counter of site `i` fetched and issued (R124); a word that spells no
bundle, or one with a field that no plan may hold, stops the model. -/
def State.fetchAt (s : State) (i : Nat) (k : Checks) : Result3 :=
  let a := s.site i
  if a.seq.status ≠ .running || a.seq.pc > 1023 || s.turn.geom.work ≤ a.seq.next || fetchBad k.ecc then
    .next (s.issueAt i Bundle.nops k)
  else match decodeBundle a.fetched with
    | some b => if b.legal then .next (s.issueAt i b k) else .fault (.undefinedBundle i a.seq.pc)
    | none => .fault (.undefinedBundle i a.seq.pc)

end Sys2Proof.Machine
end

