-- ==== Sys2Proof/Machine/Ecc.lean ====
section
/-! DEFINITION. The error correction of device DDR (R343, R344, Tables 11.8, 11.9): RS(20,16) over GF(2^16), its devices, and
what the decoder makes of the symbols that they deliver. -/

namespace Sys2Proof.Machine

/-! ### GF(2^16) -/

/-- Multiplication by α: the primitive polynomial is x^16 + x^12 + x^3 + x + 1. -/
def gfDouble (a : BitVec 16) : BitVec 16 := if a.getLsbD 15 then (a <<< 1) ^^^ 0x100B else a <<< 1

/-- Product of `a` and the low `n` bits of `b`. -/
def gfMulBits (a b : BitVec 16) : (n : Nat) → BitVec 16
  | 0 => 0
  | n + 1 => (gfMulBits (gfDouble a) (b >>> 1) n) ^^^ (if b.getLsbD 0 then a else 0)

/-- Product in GF(2^16). -/
def gfMul (a b : BitVec 16) : BitVec 16 := gfMulBits a b 16

/-- `a` squared `n` times and multiplied up: a^(2^(n + 1) − 1), the `n` low exponents being all ones. -/
def gfOnes (a : BitVec 16) : (n : Nat) → BitVec 16
  | 0 => a
  | n + 1 => let x := gfOnes a n; gfMul (gfMul x x) a

/-- The inverse: a^(2^16 − 2). -/
def gfInv (a : BitVec 16) : BitVec 16 := let x := gfOnes a 14; gfMul x x

/-- α^n. -/
def gfPow : (n : Nat) → BitVec 16
  | 0 => 1
  | n + 1 => gfDouble (gfPow n)

/-! ### Codewords -/

/-- The generator polynomial Π (x − α^j), j = 0 to 3, without its leading 1: coefficients of x^3 to x^0. -/
def rsGenerator : List (BitVec 16) :=
  let mulRoot := fun (p : List (BitVec 16)) (r : BitVec 16) =>
    (List.range (p.length + 1)).map (fun i => p.getD i 0 ^^^ (if i = 0 then 0 else gfMul r (p.getD (i - 1) 0)))
  (((List.range 4).map gfPow).foldl mulRoot [1]).drop 1

/-- The remainder of a polynomial's 16 leading symbols times x^4 modulo the generator: s_3 to s_0. -/
def rsCheck (data : List (BitVec 16)) : List (BitVec 16) :=
  data.foldl (fun r d =>
    let f := d ^^^ r.getD 0 0
    (List.range 4).map (fun i => (if i = 3 then 0 else r.getD (i + 1) 0) ^^^ gfMul f (rsGenerator.getD i 0))) [0, 0, 0, 0]

/-- What stored poison XORs into s_3 to s_0 (R346). -/
def poisonPattern : List (BitVec 16) := [0x5A5A, 0xA5A5, 0x3C3C, 0xC3C3]

/-- Codeword `c` of a 128-byte unit as stored, s_19 to s_0 (Table 11.8). -/
def codeword (unit : List Byte) (poison : Bool) (c : Nat) : List (BitVec 16) :=
  let data := (List.range 16).map (fun j => BitVec.ofNat 16 (leAt unit (32 * c + 2 * j) 2))
  let chk := rsCheck data
  data ++ (if poison then (List.range 4).map (fun i => chk.getD i 0 ^^^ poisonPattern.getD i 0) else chk)

/-- The power of x that device `d` holds (Table 11.8). -/
def symbolOf (d : Nat) : Nat :=
  if d < 8 then 19 - d else if d = 8 then 3 else if d = 9 then 2 else if d < 18 then 21 - d else if d = 18 then 1 else 0

/-- A codeword with what the devices deliver wrong in its four beats, beat 4c in bits [3:0] (R343). -/
def damaged (w : List (BitVec 16)) (errors : List (Nat × BitVec 64)) (c : Nat) : List (BitVec 16) :=
  errors.foldl (fun l e =>
    let i := 19 - symbolOf e.1
    l.set i (l.getD i 0 ^^^ BitVec.extractLsb' (16 * c) 16 e.2)) w

/-- The syndromes Σ s_i α^(i·j), j = 0 to 3. -/
def syndromes (w : List (BitVec 16)) : List (BitVec 16) :=
  (List.range 4).map (fun j => w.foldl (fun a s => gfMul a (gfPow j) ^^^ s) 0)

/-! ### The decoder -/

/-- Syndromes without the contribution of position α^i, one fewer of them. -/
def rsElim (l : List (BitVec 16)) (x : BitVec 16) : List (BitVec 16) := List.zipWith (fun a b => b ^^^ gfMul x a) l (l.drop 1)

/-- Whether errors in the given devices alone explain the syndromes. -/
def explains (syn : List (BitVec 16)) (ds : List Nat) : Bool :=
  (ds.foldl (fun l d => rsElim l (gfPow (symbolOf d))) syn).all (fun s => s == 0)

/-- The error in device `d` where the devices `ds`, `d` among them, explain the syndromes. -/
def magnitude (syn : List (BitVec 16)) (ds : List Nat) (d : Nat) : BitVec 16 :=
  let x := gfPow (symbolOf d)
  let others := ds.filter (fun k => k != d)
  let rest := others.foldl (fun l k => rsElim l (gfPow (symbolOf k))) syn
  gfMul (rest.getD 0 0) (gfInv (others.foldl (fun a k => gfMul a (x ^^^ gfPow (symbolOf k))) 1))

/-- The device sets of at most `n` devices, smallest first; `n` is at most 2. -/
def deviceSets (n : Nat) : List (List Nat) :=
  [[]] ++ (if 1 ≤ n then (List.range 20).map (fun d => [d]) else []) ++
    (if 2 ≤ n then (List.range 20).flatMap (fun d => (List.range d).map (fun e => [d, e])) else [])

/-- The errors of a codeword by device, with the marked devices as erasures and at most `n` further ones; none where it does
not decode. -/
def decodeWord (w : List (BitVec 16)) (erased : List Nat) (n : Nat) : Option (List (Nat × BitVec 16)) :=
  let syn := syndromes w
  match (deviceSets n).find? (fun f => f.all (fun d => !erased.contains d) && explains syn (erased ++ f)) with
  | none => none
  | some f => some (((erased ++ f).map (fun d => (d, magnitude syn (erased ++ f) d))).filter (fun e => e.2 != 0))

/-- What an access finds (R344, R346): nothing wrong, errors corrected in some devices with the unit's bytes as decoded, stored
poison, or an uncorrectable error. -/
inductive EccOut where
  | clean
  | corrected (devices : List Nat) (bytes : List Byte)
  | poisoned
  | uncorrectable
  deriving DecidableEq, Repr

/-- The bytes of a codeword's data symbols. -/
def wordBytes (w : List (BitVec 16)) : List Byte := (w.take 16).flatMap (fun s => leBytes 2 s.toNat)

/-- The access to a unit whose devices deliver `f` wrong, on a channel with marked devices (R344, Table 11.9). Where a channel has
more than two marked devices, the two of lowest number are the erasures (DESIGN CHOICE, log 84). -/
def eccAccess (unit : List Byte) (poison : Bool) (f : EccFind) (marked : List Nat) : EccOut :=
  if poison then .poisoned
  else if f.errors.all (fun e => e.2 == 0) then .clean
  else
    let words := (List.range 4).map (fun c => damaged (codeword unit false c) f.errors c)
    let pattern := fun (w : List (BitVec 16)) => (w.take 16) ++ (List.range 4).map (fun i => w.getD (16 + i) 0 ^^^ poisonPattern.getD i 0)
    if words.all (fun w => (syndromes (pattern w)).all (fun s => s == 0)) then .poisoned
    else
      let erased := marked.take 2
      let limit := if erased.isEmpty then 2 else 1
      let found := words.map (fun w => (w, decodeWord w erased limit))
      if found.any (fun e => e.2.isNone) then .uncorrectable
      else
        let errs := fun (e : List (BitVec 16) × Option (List (Nat × BitVec 16))) => e.2.getD []
        let devices := (found.flatMap (fun e => (errs e).map Prod.fst)).foldl nins []
        if limit < (devices.filter (fun d => !erased.contains d)).length then .uncorrectable
        else if devices.isEmpty then .clean
        else .corrected devices (found.flatMap (fun e =>
          wordBytes ((errs e).foldl (fun l x => l.set (19 - symbolOf x.1) (l.getD (19 - symbolOf x.1) 0 ^^^ x.2)) e.1)))

end Sys2Proof.Machine
end

