-- ==== Sys2Proof/Machine/DdrMem.lean ====
section
/-! DEFINITION. Accesses to device DDR (R340 to R349): 128-byte units with poison, retired channels, the error log, and
the counts of the DDR page. -/

namespace Sys2Proof.Machine

/-- Sources of DDR_ERRLOG (Table 11.20). -/
inductive DdrSource where
  | planDma | bar2 | intake | scrub | snapshot | streamTable
  deriving DecidableEq, Repr

/-- The source's code. -/
def DdrSource.code : DdrSource → Nat
  | .planDma => 0 | .bar2 => 1 | .intake => 2 | .scrub => 3 | .snapshot => 4 | .streamTable => 5

/-- An entry of the error log (Tables 11.19, 11.20): entry COUNT mod 64, then COUNT + 1. -/
def State.ddrLogAdd (s : State) (kind ch : Nat) (devices : List Nat) (src : DdrSource) (unit : Nat) : State :=
  { s with ddr := { s.ddr with
      log := aset s.ddr.log (s.ddr.logCount % 64)
        { turn := s.turn.no, kind := kind, channel := ch, devices := devices, source := src.code, unit := unit }
      logCount := (s.ddr.logCount + 1) % 65536 } }

/-- Whether local address `l` of QD`q` lies in a retired channel (R349). -/
def State.isRetired (s : State) (q l : Nat) : Bool :=
  match s.ddr.locate q l with
  | some (ch, _) => (s.chan ch).state == .retired
  | none => false

/-- The first access to a retired channel is logged (R349). -/
def State.touchRetired (s : State) (q l : Nat) (src : DdrSource) : State :=
  match s.ddr.locate q l with
  | some (ch, a) =>
    if (s.chan ch).state = .retired ∧ (s.chan ch).touched = false then
      (s.modChan ch (fun c => { c with touched := true })).ddrLogAdd 3 ch [] src (a / 128)
    else s
  | none => s

/-- Whether the 128-byte unit at local address `l` reads poisoned: marked, or in a retired channel (R346, R349). -/
def State.unitPoison (s : State) (q l : Nat) : Bool := (s.ddr.memory q).isPoisoned (l / 128) || s.isRetired q l

/-- `n` bytes from local address `l` of QD`q`. -/
def State.ddrBytes (s : State) (q l n : Nat) : List Byte := (s.ddr.memory q).read l n

/-- Whether any unit of a range reads poisoned. -/
def State.rangePoison (s : State) (q l n : Nat) : Bool :=
  (List.range (l % 128 / 128 + ceilDiv (l % 128 + n) 128)).any (fun i => s.unitPoison q (l / 128 * 128 + 128 * i))

/-- A write of bytes within one unit (R346): a full unit sets or clears its mark, a part of it leaves a poisoned unit
poisoned and poisons it where its own data is. Writes to a retired channel are dropped (R349). -/
def State.ddrWriteUnit (s : State) (q l : Nat) (bs : List Byte) (poison : Bool) (src : DdrSource) : State :=
  if s.isRetired q l then s.touchRetired q l src
  else
    let was := (s.ddr.memory q).isPoisoned (l / 128)
    let mark := if bs.length = 128 then poison else was || poison
    let s1 := s.modMem q (fun m => (m.write l bs).mark (l / 128) mark)
    if poison then
      match s.ddr.locate q l with
      | some (ch, a) => s1.ddrLogAdd 2 ch [] src (a / 128)
      | none => s1
    else s1

/-- A write of bytes from local address `l`, unit by unit. -/
def State.ddrWrite (s : State) (q : Nat) (poison : Bool) (src : DdrSource) : (fuel l : Nat) → List Byte → State
  | 0, _, _ => s
  | _, _, [] => s
  | n + 1, l, b :: bs =>
    let k := 128 - l % 128
    State.ddrWrite (s.ddrWriteUnit q l ((b :: bs).take k) poison src) q poison src n (l + k) ((b :: bs).drop k)

/-- Bytes written to QD`q` from local address `l`. -/
def State.ddrPut (s : State) (q l : Nat) (bs : List Byte) (poison : Bool) (src : DdrSource) : State :=
  s.ddrWrite q poison src (bs.length / 128 + 2) l bs

/-! ### What the error correction finds (R344, R345) -/

/-- Marked devices of a channel (R345). -/
def Channel.marked (c : Channel) : Nat := ((List.range 20).filter (fun i => c.marks.toNat.testBit i)).length

/-- A correction names a device (R345): at 64 in a scrub pass it is marked, and a third marked device puts the channel
AT_RISK. -/
def Channel.name (c : Channel) (d : Nat) : Channel :=
  let n := aget 0 c.named d + 1
  let x := { c with named := aset c.named d n, marks := if n = 64 then c.marks ||| BitVec.ofNat 20 (2 ^ d) else c.marks }
  if x.state = .inService ∧ 3 ≤ x.marked then { x with state := .atRisk } else x

/-! ### The modules' wear scores (R430, R431) -/

/-- rise(x, b) (R430): floor(100 × log2(x / b)), at most 300, and 0 up to b; 2^k × b^100 ≤ x^100 says k ≤ 100 × log2(x / b). -/
def wearRise (x b : Nat) : Nat :=
  if x ≤ b then 0 else ((List.range 301).filter (fun k => 2 ^ k * b ^ 100 ≤ x ^ 100)).foldl max 0

/-- The score of the module in channel `n` (Table 14.7). -/
def State.modWear (s : State) (n : Nat) : Nat :=
  let c := s.chan n
  min 1000 (250 * c.marked + (if c.state = .atRisk then 700 else 0) + wearRise (aget 0 s.heal.lastModCorrected n) 1000 +
    100 * (aget [] s.heal.modUncorr n).sum)

/-- A flag that is set at 700 and falls below 650 (R431). -/
def wearFlag (was : Bool) (score : Nat) : Bool := decide (700 ≤ score) || (was && decide (650 ≤ score))

/-- A module's score and flag computed anew (R430, R431). -/
def State.remod (s : State) (n : Nat) : State :=
  let score := s.modWear n
  let was := s.heal.moduleReplace.contains n
  let t := if wearFlag was score && !was then s.emit (.event (.moduleReplace n)) else s
  { t with heal := { s.heal with
      modScore := aset s.heal.modScore n score
      moduleReplace := if wearFlag (s.heal.moduleReplace.contains n) score then nins s.heal.moduleReplace n
        else ndel s.heal.moduleReplace n } }

/-- A corrected access to a channel (R344, R345): it is counted, and each device marked by it is logged. -/
def State.corrected (s : State) (ch unit : Nat) (devices : List Nat) (src : DdrSource) : State :=
  let old := s.chan ch
  let t := s.modChan ch (fun c => devices.foldl Channel.name { c with corrected := bump32 c.corrected 1 })
  let u := { t with heal := { t.heal with modCorrected := amod 0 t.heal.modCorrected ch (· + 1) } }
  match devices.filter (fun d => (u.chan ch).marks.toNat.testBit d && !old.marks.toNat.testBit d) with
  | [] => u
  | l => (u.remod ch).ddrLogAdd 0 ch l src unit

/-- An uncorrectable access (R344): it is counted and logged. -/
def State.uncorrected (s : State) (ch unit : Nat) (src : DdrSource) : State :=
  let day := fun (l : List Nat) => (l.headD 0 + 1) :: l.drop 1
  let t := { s with
    ddr := { s.ddr with uncorrectable := bump16 s.ddr.uncorrectable 1 }
    heal := { s.heal with modUncorr := amod [] s.heal.modUncorr ch day } }
  (t.remod ch).ddrLogAdd 1 ch [] src unit

/-- What the access to the unit of local address `l` of QD`q` finds where its devices deliver `f` wrong (R344, R346): a unit that
holds poison, or lies in a retired channel (R349), is no error. -/
def State.eccAt (s : State) (q l : Nat) (f : EccFind) : EccOut :=
  let marks := match s.ddr.locate q l with
    | some (ch, _) => (s.chan ch).marks.toNat
    | none => 0
  eccAccess (s.ddrBytes q (l / 128 * 128) 128) (s.unitPoison q l) f ((List.range 20).filter (fun d => marks.testBit d))

/-- The effect of that access: a correction is counted and written back, an uncorrectable error counted and logged. -/
def State.ddrFound (s : State) (q l : Nat) (f : EccFind) (src : DdrSource) : State :=
  match s.ddr.locate q l with
  | none => s
  | some (ch, a) => match s.eccAt q l f with
    | .corrected ds bytes => (s.corrected ch (a / 128) ds src).modMem q (fun m => m.write (l / 128 * 128) bytes)
    | .uncorrectable => s.uncorrected ch (a / 128) src
    | _ => s

/-- What the accesses to a range of QD`q` find, listed by unit number of the local address. -/
def State.ddrFinds (s : State) (q l n : Nat) (found : List (Nat × EccFind)) (src : DdrSource) : State :=
  (found.filter (fun e => decide (l / 128 ≤ e.1 ∧ e.1 * 128 < l + n))).foldl (fun u e => u.ddrFound q (128 * e.1) e.2 src) s

/-- What the access to one unit finds, out of a list of findings. -/
def State.eccOf (s : State) (q unit : Nat) (found : List (Nat × EccFind)) : EccOut :=
  match found.find? (fun e => e.1 == unit) with
  | some e => s.eccAt q (128 * unit) e.2
  | none => s.eccAt q (128 * unit) EccFind.clean

/-- Whether an access delivers poison (R344, R346). -/
def EccOut.lost : EccOut → Bool
  | .poisoned => true
  | .uncorrectable => true
  | _ => false

/-- The units of a range of QD`q` that are delivered poisoned. -/
def State.lostIn (s : State) (q l n : Nat) (found : List (Nat × EccFind)) : List Nat :=
  ((List.range (ceilDiv (l % 128 + n) 128)).map (fun i => l / 128 + i)).filter (fun u => (s.eccOf q u found).lost)

/-- First local address of plan memory in QD`q` (Table 11.7): QD0's system region lies below it. -/
def planMemoryBase (q : Nat) : Nat := if q = 0 then 0x100000000 else 0

/-- Whether a range of device DDR addresses lies wholly in the plan memory of one quadrant (Table 11.7). -/
def State.inPlanMemory (s : State) (a n : Nat) : Bool :=
  let q := a / 2 ^ 43
  let l := a % 2 ^ 43
  decide (planMemoryBase q ≤ l) && decide (l + n ≤ s.ddr.capacity q)

end Sys2Proof.Machine
end

