-- ==== Sys2Proof/Machine/Messages.lean ====
section
/-! DEFINITION. Delivery into hoppers, and ponds (ch. 08): release, spill, refill. -/

namespace Sys2Proof.Machine

/-- Positions of a hopper occupied in cycle `c`: freed positions count until the next cycle (R141, R225). -/
def Hopper.occupied (h : Hopper) (c : Nat) : Nat :=
  (h.msgs.map (fun m => m.units.length)).sum + (if h.freedAt = c then h.freed else 0)

/-- The pond positions in use in cycle `c` (R231, R232): those of the index, SKIP spans included, and what refills still have
to read. -/
def Hopper.spans (h : Hopper) (c : Nat) : List (Nat × Nat) :=
  h.index.map (fun e => (e.pos, e.len)) ++
    (h.refills.filter (fun r => decide (c ≤ r.lastRead))).map (fun r => (r.pos + (c - r.start), r.len - (c - r.start)))

/-- Units of a pond in use in cycle `c`. -/
def Hopper.pondUsed (h : Hopper) (c : Nat) : Nat := ((h.spans c).map Prod.snd).sum

/-- Whether pond positions `a` to `a + n − 1` are free in cycle `c`. -/
def Hopper.pondFree (h : Hopper) (c a n : Nat) : Bool := (h.spans c).all (fun e => e.1 + e.2 ≤ a || a + n ≤ e.1)

/-- Index entries in use in cycle `c` (R229): a message's entry until its last unit is read. -/
def Hopper.entries (h : Hopper) (c : Nat) : Nat := h.index.length + (h.refills.filter (fun r => decide (c ≤ r.lastRead))).length

/-- The hopper in cycle `c` once refill has reached a SKIP unit at the pond's head (R231): its span is free. -/
def Hopper.tidy (h : Hopper) (c : Nat) : Hopper :=
  match h.index with
  | e :: t => if e.skip && decide (e.spillEnd < c) && h.refills.all (fun r => decide (r.lastRead < c)) then
      { h with index := t, rpos := 0 } else h
  | [] => h

/-- The first cycle in which no refill of the site reads through the remote port (R230). -/
def Site.refillEnd (a : Site) : Nat :=
  (a.ex.h.flatMap (fun e => e.2.refills.map (fun r => r.lastRead + 1))).foldl max 0

/-- The first cycle in which no spill of the site writes through the remote port. -/
def Site.spillEnd (a : Site) : Nat := (a.ex.h.flatMap (fun e => e.2.index.map (fun x => x.spillEnd + 1))).foldl max 0

/-- The spills in progress held back by a refill of `n` units that begins in cycle `c`, which the port serves first (R230). -/
def Site.holdSpills (a : Site) (c n : Nat) : Site :=
  let late := fun (e : PondEntry) => if c ≤ e.spillEnd then { e with spillEnd := e.spillEnd + n } else e
  { a with ex := { a.ex with h := a.ex.h.map (fun e => (e.1, { e.2 with index := e.2.index.map late })) } }

/-- Units in the pad buffer that wait for the remote port (R230, R245): messages to spill, and admitted sluice writes. -/
def Site.padHeld (a : Site) : Nat :=
  (a.ex.h.map (fun e => (e.2.waiting.map (fun m => m.units.length)).sum)).sum + a.ex.writes.length

/-- Whether the pad buffer of 64 units (R52) has room for `n` more; where it has none the units stay on their link (R54). -/
def Site.padRoom (a : Site) (n : Nat) : Bool := decide (a.padHeld + n ≤ 64)

/-- Where a message of `n` units whose spill begins in cycle `c` goes in the pond (R231): its position, and the position of the
SKIP unit that it needs, if any; none when the spill fails. -/
def Hopper.spillAt (h : Hopper) (c n : Nat) : Option (Nat × Option Nat) :=
  let w := if h.wpos = h.pondUnits then 0 else h.wpos
  if h.pondUnits - w ≥ n then
    if h.pondFree c w n && decide (h.entries c < 1024) then some (w, none) else none
  else if h.pondFree c 0 n && h.pondFree c w (h.pondUnits - w) && decide (n ≤ h.pondUnits ∧ h.entries c + 1 < 1024) then
    some (0, some w)
  else none

/-- The bytes of a SKIP unit (Table 8.2). -/
def skipUnit (span : Nat) : List Byte := leBytes 4 0x50494B53 ++ leBytes 4 span ++ List.replicate 56 0

/-- A message placed at the hopper tail, visible from cycle `c`. -/
def Hopper.push (h : Hopper) (m : Message) (c : Nat) : Hopper := { h with msgs := h.msgs ++ [{ m with visible := c }] }

/-- Whether a message released in cycle `c` goes to the hopper tail (R227): a refill counts as in progress in the cycle in
which it completes (R247). -/
def Hopper.takes (h : Hopper) (c n : Nat) : Bool :=
  h.index.isEmpty && h.waiting.isEmpty && h.refills.isEmpty && decide (h.doneAt ≤ c) && decide (h.occupied c + n ≤ 64)

/-- The source of a message as POND_FULL's record names it (Table 13.4). DESIGN CHOICE (log 75): 0 for a completion token of
the tile's own engine, for which the table gives no value. -/
def MsgSource.code : MsgSource → Nat
  | .tile g => g
  | .ownDma => 0

/-- CAUSE_DATA of POND_FULL (Table 13.4). -/
def pondFullData (hop c : Nat) (h : Hopper) (m : Message) : List Byte :=
  [BitVec.ofNat 8 hop, 0] ++ leBytes 2 h.pondUnits ++ leBytes 2 (h.pondUsed c) ++ leBytes 2 (h.entries c) ++
    [BitVec.ofNat 8 m.units.length, 0] ++ leBytes 2 m.source.code ++ List.replicate 4 0

/-- Order of two flights of one hopper by pinned cycle, then by R226: the tile's own token first, then by sender and by
order. -/
def Flight.before (a b : Flight) : Bool :=
  if a.msg.pinned ≠ b.msg.pinned then decide (a.msg.pinned < b.msg.pinned) else decide (a.order ≤ b.order)

/-- The flights towards hopper `hop` by `Flight.before`. -/
def flightsOf (l : List Flight) (hop : Nat) : List Flight := sortBy Flight.before (l.filter (fun f => f.hop == hop))

/-- The `nth` flight towards hopper `hop`, where nothing of its own sender stands before it: a late message keeps its order
(R54). -/
def nextFlight (l : List Flight) (hop nth : Nat) : Option Flight :=
  let fs := flightsOf l hop
  match fs[nth]? with
  | some f => if (fs.take nth).any (fun g => g.msg.source == f.msg.source) then none else some f
  | none => none

/-- Whether a release in cycle `c` of a message of `order` keeps the order of R226 behind the releases before it. -/
def Hopper.inOrder (h : Hopper) (c order : Nat) : Bool :=
  decide (h.relAt ≤ c) || (decide (h.relAt = c + 1) && decide (h.relOrder ≤ order))

/-- A spill of message `m` that begins in cycle `c` (R230, R231): units into the scratchpad, entries into the index. -/
def Site.spill (a : Site) (hop c : Nat) (m : Message) (pos : Nat) (skip : Option Nat) : Site :=
  let h := a.hopper hop
  let n := m.units.length
  let first := if skip.isSome then c + 1 else c
  let entry : PondEntry :=
    { pos := pos, len := n, tag := m.tag, source := m.source, poison := m.units.map (fun u => u.poison), skip := false,
      spillEnd := first + n - 1 }
  let mark := match skip with
    | none => []
    | some w => [({ pos := w, len := h.pondUnits - w, tag := 0, source := .ownDma, poison := [], skip := true,
                    spillEnd := c } : PondEntry)]
  let scr0 := match skip with
    | none => a.scr
    | some w => a.scr.setWord64 (h.pondBase + 64 * w) (skipUnit (h.pondUnits - w)) false
  let scr1 := (List.range n).foldl (fun t i =>
    match m.units[i]? with
    | some u => t.setWord64 (h.pondBase + 64 * (pos + i)) u.bytes u.poison
    | none => t) scr0
  ({ a with scr := scr1 } : Site).setHopper hop { h with index := h.index ++ mark ++ [entry], wpos := pos + n }

/-- A spill that fails (R233): POND_FULL, the steering unit stops, later messages of the hopper are discarded. -/
def Site.pondOverflow (a : Site) (hop c : Nat) (m : Message) : Site :=
  let h := a.hopper hop
  let b := (a.raise .pondFull 0 c (pondFullData hop c h m)).setHopper hop { h with failed := true, waiting := [] }
  { b with ex := { b.ex with steerOff := true } }

/-- Messages released after their pinned cycle, one more where `late` holds (R54, R230). -/
def State.countLate (s : State) (q : Nat) (late : Bool) : State :=
  s.modQuad q (fun x => { x with padLate := bump32 x.padLate (if late then 1 else 0) })

/-- The site marks that a message was released after its pinned cycle (R215, R233). -/
def Site.noteLate (a : Site) (late : Bool) : Site := { a with ex := { a.ex with late := a.ex.late || late } }

/-- MESSAGE_RELEASE (R225): the router releases a message towards hopper `slot` mod 4, `late` cycles after its pinned cycle
(R54), to the hopper tail or towards the pond (R227): the one that `slot` div 4 messages stand before by pinned cycle. A message for the pond waits in the pad until its spill begins (R230).
While the pad has no room for it, or against the order of R226, it is not released. -/
def execMessageRelease (site slot late : Nat) (s : State) : Result3 :=
  let a := s.site site
  let q := site / Config.sitesPerQuad
  let hop := slot % 4
  .next (match nextFlight a.ex.pad hop (slot / 4) with
    | none => s
    | some f =>
      let c := f.msg.pinned + late
      let h := (a.hopper hop).tidy c
      if !a.padRoom f.msg.units.length || !h.inOrder c f.order then s
      else
        let h1 := { h with relAt := c + 1, relOrder := f.order }
        let b : Site := { a with ex := { a.ex with pad := a.ex.pad.erase f } }
        if h.failed then
          ((s.setSite site ((b.noteLate (decide (0 < late))).setHopper hop h1)).countLate q (decide (0 < late))).modQuad q
            (fun x => { x with pondDiscards := bump16 x.pondDiscards 1 })
        else if h.takes c f.msg.units.length then
          (s.setSite site ((b.noteLate (decide (0 < late))).setHopper hop (h1.push f.msg c))).countLate q (decide (0 < late))
        else s.setSite site (b.setHopper hop { h1 with waiting := h.waiting ++ [f.msg] }))

/-- POND_SPILL (R230): the message that waits longest for hopper `hop` is written into the pond from cycle `cycle`, once no
refill or other spill holds the remote port, or the spill fails (R233). A message that begins its spill after its pinned
cycle counts as late. -/
def execPondSpill (site hop cycle : Nat) (s : State) : Result3 :=
  let a := s.site site
  let q := site / Config.sitesPerQuad
  let h := (a.hopper hop).tidy cycle
  .next (match h.waiting with
    | [] => s
    | m :: rest =>
      if h.failed || decide (cycle < a.refillEnd) || decide (cycle < a.spillEnd) then s else
      let b := a.setHopper hop { h with waiting := rest }
      let isLate := decide (m.pinned < cycle)
      match h.spillAt cycle m.units.length with
      | some (pos, skip) =>
        ((s.setSite site ((b.noteLate isLate).spill hop cycle m pos skip)).countLate q isLate).modQuad q (fun x => { x with
          spilled := bump32 x.spilled 1 })
      | none =>
        (s.setSite site (b.pondOverflow hop cycle m)).modQuad q (fun x => { x with
          pondFull := bump16 x.pondFull 1, pondDiscards := bump16 x.pondDiscards rest.length }))

/-- The pond's head, where it is a message. -/
def Hopper.pondHead (h : Hopper) : Option (PondEntry × List PondEntry) :=
  match h.index with
  | [] => none
  | e :: t => if e.skip then none else some (e, t)

/-- Positions of the hopper free for a refill that begins in cycle `c` (R232): those that refills in progress will fill are
taken. -/
def Hopper.room (h : Hopper) (c n : Nat) : Bool := decide (h.occupied c + (h.refills.map (fun r => r.len)).sum + n ≤ 64)

/-- POND_REFILL (R232): from cycle `cycle` the pond's head message is read back through the remote port, before any spill, once
the hopper has room and the message's spill was complete in an earlier cycle. -/
def execPondRefill (site hop cycle : Nat) (bad : Option Nat) (s : State) : Result3 :=
  let a := s.site site
  let h := (a.hopper hop).tidy cycle
  .next (match h.pondHead with
    | none => s
    | some (e, rest) =>
      if !h.room cycle e.len || decide (cycle ≤ e.spillEnd) || decide (cycle < a.refillEnd) then s
      else if let some addr := bad then
        (s.setSite site ((a.raise .eccUe 0 cycle (eccData 2 addr)).setHopper hop { h with failed := true, index := [] })).countChecks site a
      else
        let units := (List.range e.len).map (fun i =>
          let ad := h.pondBase + 64 * (e.pos + i)
          ({ bytes := a.scr.word64 ad, poison := a.scr.poison64 ad || e.poison.getD i false } : MsgUnit))
        let m : Message := { units := units, tag := e.tag, source := e.source, visible := 0, pinned := cycle }
        let r : Refill := { msg := m, start := cycle, lastRead := cycle + e.len - 1, pos := e.pos, len := e.len }
        s.setSite site ((a.setHopper hop { h with
          index := rest, rpos := e.pos + e.len, refills := h.refills ++ [r] }).holdSpills cycle e.len))

/-- POND_REFILL_DONE (R232): the refilled message becomes visible at the hopper tail 7 cycles after its last read. -/
def execPondRefillDone (site hop cycle : Nat) (s : State) : Result3 :=
  let a := s.site site
  let h := a.hopper hop
  .next (match h.refills with
    | [] => s
    | r :: rest =>
      if cycle < r.lastRead + 7 then s
      else s.setSite site (a.setHopper hop ({ h with refills := rest, doneAt := r.lastRead + 8 }.push r.msg (r.lastRead + 7))))

end Sys2Proof.Machine
end

