-- ==== Sys2Proof/Machine/Dma.lean ====
section
/-! DEFINITION. The DMA engines and sluices (R111 to R113, R143 to R145, R237 to R246, R266 to R270). -/

namespace Sys2Proof.Machine

/-- The destination class of a descriptor (R144): DEST [31:30] of a sluice write. -/
def DmaDesc.cls (d : DmaDesc) : DmaClass :=
  if d.op = 3 then (match d.dest / 2 ^ 30 with
    | 0 => .sameQuad
    | 1 => .otherQuad
    | _ => .otherDevice) else .ddr

/-- Bytes that a descriptor moves. -/
def DmaDesc.total (d : DmaDesc) : Nat := d.rows * d.rowBytes

/-- 64-byte words that a descriptor moves. -/
def DmaDesc.words (d : DmaDesc) : Nat := d.total / 64

/-- The end of the far range that starts at `far`. -/
def DmaDesc.farEnd (d : DmaDesc) (far : Nat) : Nat := far + (d.rows - 1) * d.stride + d.rowBytes

/-- The length of the far region or sluice that a descriptor names in a plan, none where the plan declares none. -/
def Plan.farBytes (p : Plan) (d : DmaDesc) (senderQuad : Nat) : Option Nat :=
  if d.op = 3 then
    let pq := if d.dest / 2 ^ 30 = 0 then senderQuad else d.dest % 2048 / 512
    if d.dest / 2 ^ 30 = 2 then some 1048576
    else (p.body.sluices.find? (fun x => x.planQuad == pq && x.no == d.farRegion % 256)).map (fun x => x.bytes)
  else (p.body.regions[d.farRegion]?).map (fun r => r.bytes)

/-- The checks that a transfer passes before anything moves (R144, R371). -/
def DmaDesc.ok (d : DmaDesc) (p : Plan) (senderQuad scratch far : Nat) : Bool :=
  let unit := if d.op = 3 then 64 else 128
  decide (1 ≤ d.op ∧ d.op ≤ 3 ∧ 1 ≤ d.rows ∧ d.rows ≤ 4096 ∧ 256 ≤ d.rowBytes ∧ d.rowBytes ≤ 65536 ∧ d.total ≤ 1048576 ∧
    scratch + d.total ≤ 0x100000 ∧ scratch % 256 = 0 ∧ d.rowBytes % 256 = 0 ∧ far % unit = 0 ∧ d.stride % unit = 0 ∧
    (1 < d.rows → d.rowBytes ≤ d.stride)) &&
  (match p.farBytes d senderQuad with
   | some n => decide (d.farEnd far ≤ n)
   | none => false)

/-- The numbers of a transfer's completion token (Table 4.8), with `unanswered` words. -/
def Transfer.token (t : Transfer) (status unanswered : Nat) : MsgUnit :=
  tokenUnit status t.d.tag t.desc t.bytes t.nackOff t.nackClosed t.nackReset unanswered

/-- A token handed to the site's own hopper in cycle `c` (R112, R145). -/
def Site.deliverToken (a : Site) (t : Transfer) (c status unanswered : Nat) : Site :=
  if t.silent then a else a.ownToken c (t.d.hopper % 4) t.d.tag (t.token status unanswered)

/-- The transfer numbered `id` at a site's engine. -/
def Site.xfer (a : Site) (id : Nat) : Option Transfer := a.ex.xfers.find? (fun t => t.id == id)

/-- That transfer changed. -/
def Site.modXfer (a : Site) (id : Nat) (f : Transfer → Transfer) : Site :=
  { a with ex := { a.ex with xfers := a.ex.xfers.map (fun t => if t.id == id then f t else t) } }

/-- That transfer finished and gone from the engine. -/
def Site.dropXfer (a : Site) (id : Nat) : Site :=
  { a with ex := { a.ex with xfers := a.ex.xfers.filter (fun t => t.id != id) } }

/-- The first non-OK status of a transfer stays (R145). -/
def Transfer.note (t : Transfer) (status : Nat) : Transfer := if t.status = 0 then { t with status := status } else t

/-- The engine of a quadrant notes an issue by a context, and a retired request (R435): 1 DDR, 2 crossbar, 3 egress. -/
def State.engineIssue (s : State) (q e c : Nat) : State :=
  s.modQuad q (fun x => { x with engines := amod Engine.reset x.engines e (fun n => { n with now := nins n.now c }) })

/-- One request retired by an engine. -/
def State.engineRetire (s : State) (q e : Nat) : State :=
  s.modQuad q (fun x => { x with engines := amod Engine.reset x.engines e (fun n => { n with retired := n.retired + 1 }) })

/-- The engine that serves a class (Table 15.2), 0 for the mesh alone. -/
def DmaClass.engine : DmaClass → Nat
  | .ddr => 1
  | .sameQuad => 0
  | .otherQuad => 2
  | .otherDevice => 3

/-- What an access of the DMA engine to a bank meets: an OFF bank stops the word (R270); in plan mode the bank must be WIDE
(R99); in service mode every bank is reachable (R100). -/
inductive DmaAccess where
  | ok | off | clash
  deriving DecidableEq, Repr

/-- The access of site `i`'s DMA engine to scratchpad address `ad` in `cycle`. -/
def State.dmaAccess (s : State) (i : Nat) (a : Site) (ad cycle : Nat) : DmaAccess :=
  let c := if s.turn.window = .work then cycle else s.turn.geom.cycles
  if a.bank.mask.toNat.testBit (bankOf ad) = false then .off
  else if s.serviceMode i then .ok
  else if a.owner (bankOf ad) c ≠ ownWide then .clash
  else .ok

/-- Whether the wide port of site `i` serves its DMA engine in `cycle` (Table 3.3, R113): in the work window, once the cycle's
bundle has issued, when neither a reload nor the matrix slot holds the port; elsewhere no plan code uses it. -/
def State.dmaServed (s : State) (i cycle : Nat) : Bool :=
  s.turn.window ≠ .work || ((s.site i).upTo cycle).wideFree cycle

/-- The state with site `i`'s accesses of the work cycles up to `cycle` made. -/
def State.upToCycle (s : State) (i cycle : Nat) : State :=
  if s.turn.window = .work then s.modSite i (fun a => a.upTo cycle) else s

/-- An access of site `i`'s DMA engine to bank `b` in work cycle `c` (R242). -/
def State.touchDma (s : State) (i c b : Nat) : State := if s.turn.window = .work then s.modSite i (fun a => a.touch c b) else s

/-- Whether transfer `id` stands first among the transfers of its class at the engine that still have data to move: the
engine processes a class in issue order (R111). -/
def Site.turnTo (a : Site) (id : Nat) : Bool :=
  match a.xfer id with
  | none => false
  | some t =>
    match a.ex.xfers.find? (fun u => u.cls == t.cls && (decide (u.cls = .ddr) || decide (u.word < u.d.words))) with
    | some u => u.id == id
    | none => true

/-- One unit of a DDR transfer moved between the scratchpad and DDR (R347); `found` is what the error correction finds in
the units read (R344). -/
def State.moveUnit (s : State) (site q : Nat) (t : Transfer) (ddrAt cycle : Nat) (found : List (Nat × EccFind)) (i : Nat) : State :=
  let a := s.site site
  let perRow := t.d.rowBytes / 128
  let row := i / perRow
  let sc := t.scratch + 128 * i
  let far := ddrAt + t.far + row * t.d.stride + 128 * (i % perRow)
  match s.dmaAccess site a sc cycle with
  | .off => s.modSite site (fun x => x.modXfer t.id (fun y =>
      { (y.note (tokCode .bankOff)) with nackOff := y.nackOff + 2 }))
  | .clash => s.modSite site (fun x => x.clash .owner cycle)
  | .ok =>
    if t.d.op = 1 then
      let p := (s.eccOf q (far / 128) found).lost
      let u := (s.touchRetired q far .planDma).ddrFinds q far 128 found .planDma
      let bs := u.ddrBytes q far 128
      u.modSite site (fun x =>
        ({ x with scr := (x.scr.setWord64 sc (bs.take 64) p).setWord64 (sc + 64) (bs.drop 64) p } : Site).modXfer t.id
          (fun y => { (if p then y.note (tokCode .poisoned) else y) with bytes := y.bytes + 128 }))
    else
      let p := a.scr.poison64 sc || a.scr.poison64 (sc + 64)
      (s.ddrPut q far (a.scr.read sc 128) p .planDma).modSite site (fun x => x.modXfer t.id
        (fun y => { (if p then y.note (tokCode .poisoned) else y) with bytes := y.bytes + 128 }))

/-- The local DDR address of a region in a bound quadrant (R342). -/
def Ctx.regionAt (x : Ctx) (r : Region) : Nat := x.home % 2 ^ 43 + r.base

/-- Every unit of a DDR transfer moved (R56), and its traffic counted against the budget (R57). -/
def State.moveAll (s : State) (site : Nat) (t : Transfer) (cycle : Nat) (found : List (Nat × EccFind)) : State :=
  let a := s.site site
  let q := site / Config.sitesPerQuad
  match a.ctx with
  | none => s
  | some c =>
    let x := s.ctx c
    match x.plan.bind (fun p => p.body.regions[t.d.farRegion]?) with
    | none => s
    | some r =>
      let n := t.d.total / 128
      let s1 := (List.range n).foldl (fun u i => (u.moveUnit site q t (x.regionAt r) cycle found i).touchDma site cycle
        (bankOf (t.scratch + 128 * i))) s
      { s1 with ddr := { s1.ddr with used := amod 0 s1.ddr.used q (fun k => k + n) } }

/-- DMA_TRANSFER_DONE (R112, R145): every byte of a transfer has been written or answered, and its token goes to the
site's own hopper in cycle `cycle`. A DDR transfer's data moves here, in the issue order of its class (R111) and while the
wide port is free for it (R113); a sluice transfer is done when every word has its answer. -/
def execDmaTransferDone (site xfer cycle : Nat) (found : List (Nat × EccFind)) (s : State) : Result3 :=
  let q := site / Config.sitesPerQuad
  .next (match (s.site site).xfer xfer with
    | none => s
    | some t =>
      match t.cls with
      | .ddr =>
        if !(s.site site).turnTo xfer || !s.dmaServed site cycle then s else
        let s1 := (s.upToCycle site cycle).moveAll site t cycle found
        match (s1.site site).xfer xfer with
        | none => s1
        | some u => (s1.modSite site (fun x => (x.deliverToken u cycle u.status 0).dropXfer xfer)).engineRetire q 1
      | _ =>
        if t.answered < t.d.words then s
        else
          let s1 := s.engineRetire q t.cls.engine
          if t.tokenSent then s1.modSite site (fun x => x.dropXfer xfer)
          else s1.modSite site (fun x => (x.deliverToken t cycle t.status 0).dropXfer xfer))

/-! ### Admission of a sluice write (Table 8.4) -/

/-- What the owner's router decides about a write. -/
inductive Verdict where
  | stale | resetting | noEntry
  | violation (entry cond : Nat)
  | bankOff (entry : Nat)
  | notOwned (entry : Nat)
  | allow (entry : Nat)
  deriving DecidableEq, Repr

/-- Where a write comes from (R240): the same quadrant, another quadrant of the plan, or another device with its
position. -/
inductive WriteFrom where
  | same | other
  | device (pos : Nat)
  deriving DecidableEq, Repr

/-- The bit of SOURCES that admits a source (R237). -/
def WriteFrom.bit : WriteFrom → Nat
  | .same => 0 | .other => 1 | .device _ => 2

/-- The armed entry that a write names (check 3): by context within the device, by pipeline identifier from another. -/
def State.findEntry (s : State) (q planQuad no : Nat) (key : Nat ⊕ Nat) : Option (Nat × SluiceEntry) :=
  (s.quad q).sluices.find? (fun e => e.2.planQuad == planQuad && e.2.no == no &&
    (match key with
     | .inl c => e.2.ctx == c && e.2.ctxGen == (s.ctx c).gen && e.2.quadGen == (s.quad q).gen
     | .inr p => e.2.pipeline == p && e.2.sources / 4 % 2 == 1))

/-- Checks 2 to 6 of Table 8.4 for a write to plan quadrant `planQuad` (in physical quadrant `q`), logical tile `tile`,
at `off`, in cycle `cycle` of the window under way. -/
def State.judge (s : State) (q planQuad tile no off cycle : Nat) (src : WriteFrom) (key : Nat ⊕ Nat) : Verdict :=
  if (s.quad q).recState = .fast ∨ (s.quad q).recState = .full then .resetting
  else match s.findEntry q planQuad no key with
  | none => .noEntry
  | some (k, e) =>
    if e.sources / 2 ^ src.bit % 2 = 0 then .violation k 1
    else if (match src with
             | .device p => decide (p ≠ e.srcPos)
             | _ => false) then .violation k 2
    else if tile ≠ e.owner then .violation k 3
    else if off + 64 > e.bytes then .violation k 4
    else
      let a := s.site (s.siteOf q (e.owner % Config.tilesPerQuad))
      let b := bankOf (e.base + off)
      if a.bank.mask.toNat.testBit b = false then .bankOff k
      else if ownerIn (if cycle < a.bank.from_ then a.bank.old else a.bank.own) b ≠ ownRemote then .notOwned k
      else .allow k

/-- A sluice entry changed. -/
def State.modEntry (s : State) (q k : Nat) (f : SluiceEntry → SluiceEntry) : State :=
  s.modQuad q (fun x => { x with sluices := x.sluices.map (fun e => if e.1 == k then (k, f e.2) else e) })

/-- The receiver's counters for a verdict (Table 8.4, Tables 8.8 and 8.10). -/
def State.countVerdict (s : State) (q : Nat) : Verdict → State
  | .stale => s.modQuad q (fun x => { x with staleDrops := bump16 x.staleDrops 1 })
  | .resetting => s.modQuad q (fun x => { x with nackResettingTx := bump32 x.nackResettingTx 1 })
  | .noEntry => s.modQuad q (fun x => { x with nackClosed := bump32 x.nackClosed 1 })
  | .violation k _ =>
    (s.modQuad q (fun x => { x with violationsRx := bump16 x.violationsRx 1 })).modEntry q k
      (fun e => { e with nackViolation := satAdd 20 e.nackViolation 1 })
  | .bankOff k => s.modEntry q k (fun e => { e with nackBankOff := satAdd 20 e.nackBankOff 1 })
  | .notOwned k =>
    (s.modQuad q (fun x => { x with nackClosed := bump32 x.nackClosed 1 })).modEntry q k
      (fun e => { e with nackClosed := satAdd 20 e.nackClosed 1 })
  | .allow k => s.modEntry q k (fun e => { e with admitted := satAdd 64 e.admitted 1 })

/-- The answer that a refused write gets, as a status of Table 10.6; a violation carries its condition (R267: a bank
going or being OFF answers WINDOW_CLOSED). -/
def Verdict.answer : Verdict → Option (Nat × Nat)
  | .stale => none
  | .resetting => some (5, 0)
  | .noEntry => some (3, 0)
  | .violation _ c => some (1, c)
  | .bankOff _ => some (3, 0)
  | .notOwned _ => some (3, 0)
  | .allow _ => none

/-- The sender number of writes that came in through an Avdin port as packet 0; packet n's are numbered n more. The ingress
port answers the packet (R368). -/
def fromPort : Nat := 4096

/-- An answer on its way to the sending engine (R243). -/
def State.answer (s : State) (site xfer status cond off : Nat) : State :=
  s.modSite site (fun x => { x with ex := { x.ex with
    answers := x.ex.answers ++ [{ xfer := xfer, status := status, cond := cond, off := off }] } })

/-- Whether a write to bank `b` of a site waits in its pad for the bank to power up: its checks are made in cycle 128 of the
intake window (R269). -/
def State.powersUp (s : State) (a : Site) (b : Nat) : Bool :=
  decide (s.turn.window = .intake) && decide (s.turn.cycle < 128) && a.bank.rising.contains b

/-- The site and scratchpad address that a write to a sluice of QD`q` names, where an entry matches it. -/
def State.writeTarget (s : State) (q planQuad no off : Nat) (key : Nat ⊕ Nat) : Option (Nat × Nat) :=
  (s.findEntry q planQuad no key).map (fun e => (s.siteOf q (e.2.owner % Config.tilesPerQuad), e.2.base + off))

/-- Whether a write waits in the pad before its checks, for a bank that powers up (R269) or, in front of the pad, for room in
it (R54). -/
def State.writeWaits (s : State) (q planQuad no off : Nat) (key : Nat ⊕ Nat) : Bool :=
  match s.writeTarget q planQuad no off key with
  | some (i, ad) => s.powersUp (s.site i) (bankOf ad) || !(s.site i).padRoom 1
  | none => false

/-- The offset in its window of word `k` of a sluice transfer (R240). -/
def Transfer.wordOff (t : Transfer) (k : Nat) : Nat :=
  t.far + k / (t.d.rowBytes / 64) * t.d.stride + 64 * (k % (t.d.rowBytes / 64))

/-- SLUICE_WRITE_ARRIVAL (R240, R241): the next word of a transfer to another tile of the device reaches the owner's
router, which admits it or refuses it; the word is read in the issue order of its class (R111), in a cycle in which the wide
port is free (R113). An uncorrectable error in the sluice table (Table 13.1) raises ECC_UE at the owner's site, and the word
meets no entry. -/
def execSluiceWriteArrival (site xfer cycle : Nat) (bad : Option Nat) (s : State) : Result3 :=
  let a := s.site site
  let q := site / Config.sitesPerQuad
  .next (match a.xfer xfer, a.ctx with
    | some t, some c =>
      if t.cls = .ddr ∨ t.cls = .otherDevice ∨ t.d.words ≤ t.word ∨ !a.turnTo xfer ∨ !s.dmaServed site cycle then s
      else
        let off := t.wordOff t.word
        let sc := t.scratch + 64 * t.word
        let tile := t.d.dest % 2048
        let pq := tile / Config.tilesPerQuad
        let held := match (s.ctx c).quads[pq]? with
          | some dq => s.writeWaits dq pq (t.d.farRegion % 256) off (.inl c)
          | none => false
        if held then s else
        let s1 := (s.upToCycle site cycle).modSite site (fun x => x.modXfer xfer (fun y => { y with word := y.word + 1, sent := y.sent + 1 }))
        match s.dmaAccess site a sc cycle with
        | .off => s1.modSite site (fun x => x.modXfer xfer (fun y =>
            { (y.note (tokCode .bankOff)) with nackOff := y.nackOff + 1, answered := y.answered + 1 }))
        | .clash => s1.modSite site (fun x => (x.clash .owner cycle).modXfer xfer (fun y =>
            { y with answered := y.answered + 1 }))
        | .ok =>
          match (s.ctx c).quads[pq]? with
          | none => s1
          | some dq =>
            let v := if t.quadGen ≠ (s.quad q).gen ∨ t.ctxGen ≠ (s.ctx c).gen then .stale
              else if bad.isSome then .noEntry
              else s1.judge dq pq (tile % Config.tilesPerQuad) (t.d.farRegion % 256) off cycle
                (if dq = q then .same else .other) (.inl c)
            let o := s1.siteOf dq (tile % Config.tilesPerQuad)
            let s2 := match bad with
              | some addr => ((s1.countVerdict dq v).modSite o (fun y => y.raise .eccUe 0 cycle (eccData 4 addr))).countChecks o (s1.site o)
              | none => s1.countVerdict dq v
            let s3 := s2.touchDma site cycle (bankOf sc)
            match v with
            | .allow k =>
              match (s3.quad dq).sluices.find? (fun e => e.1 == k) with
              | none => s3
              | some (_, e) =>
                s3.modSite (s3.siteOf dq (e.owner % Config.tilesPerQuad)) (fun x => { x with ex := { x.ex with
                  writes := x.ex.writes ++ [{ addr := e.base + off, bytes := a.scr.word64 sc, poison := a.scr.poison64 sc,
                                              fromSite := site, entry := k, xfer := xfer }] } })
            | _ => match v.answer with
              | some (st, cond) => s3.answer site xfer st cond off
              | none => s3
    | _, _ => s)

/-- CAUSE_DATA of SLUICE_VIOLATION (Table 13.4). -/
def violationData (t : Transfer) (cond off : Nat) : List Byte :=
  [BitVec.ofNat 8 t.desc, BitVec.ofNat 8 cond, BitVec.ofNat 8 (t.d.farRegion % 256),
    BitVec.ofNat 8 (t.d.dest % 2048 / 512)] ++ leBytes 4 (t.d.dest / 2048 % 2 ^ 18) ++ leBytes 4 off ++
    leBytes 2 (t.d.dest % 2048) ++ [0, 0]

/-- A transfer's counts after one answer (Table 4.8, Table 4.10): 0 written, 6 written poisoned, 1 a violation, 3, 4
and 5 the NACKs. -/
def Transfer.answerWord (t : Transfer) (r : Answer) : Transfer :=
  let u := { t with answered := t.answered + 1 }
  if r.status = 0 then { u with bytes := u.bytes + 64 }
  else if r.status = 6 then { (u.note (tokCode .poisoned)) with bytes := u.bytes + 64 }
  else if r.status = 1 then
    { (u.note (tokCode .badCommand)) with violation := match u.violation with
                                            | some v => some v
                                            | none => some (r.cond, r.off) }
  else if r.status = 3 then { (u.note (tokCode .windowClosed)) with nackClosed := u.nackClosed + 1 }
  else if r.status = 4 then { (u.note (tokCode .bankOff)) with nackOff := u.nackOff + 1 }
  else { (u.note (tokCode .resetting)) with nackReset := u.nackReset + 1 }

/-- SLUICE_VIOLATION recorded at the sender (R244): the context faults at close, and the site goes on. -/
def Site.violate (a : Site) (t : Transfer) (cond off cycle : Nat) : Site :=
  { a with faults := a.faults ++ [{ cause := .sluiceViolation, detail := 0, cycle := cycle, pc := a.seq.pc,
                                    slot := a.slotAt cycle, data := violationData t cond off,
                                    service := a.service }] }

/-- SLUICE_ANSWER_ARRIVAL (R243): the oldest answer for a transfer reaches its engine. An answer whose transfer a reset
has revoked is dropped (R449). -/
def execSluiceAnswerArrival (site xfer cycle : Nat) (s : State) : Result3 :=
  let a := s.site site
  .next (match a.ex.answers.find? (fun r => r.xfer == xfer) with
    | none => s
    | some r =>
      let b : Site := { a with ex := { a.ex with answers := a.ex.answers.erase r } }
      match b.xfer xfer with
      | none => (s.setSite site b).modQuad (site / Config.sitesPerQuad)
          (fun x => { x with staleReplies := bump16 x.staleReplies 1 })
      | some t =>
        let c := b.modXfer xfer (fun y => y.answerWord r)
        s.setSite site (if r.status = 1 ∧ t.violation = none then c.violate t r.cond r.off cycle else c))

/-- DMA_TOKEN_CLOSE_DEADLINE (R378): at the last close cycle, the token of a transfer to another device goes out with
its unanswered words counted, and NO_RESOURCE where no other status occurred. -/
def execDmaTokenCloseDeadline (site xfer : Nat) (s : State) : Result3 :=
  let a := s.site site
  .next (match a.xfer xfer with
    | none => s
    | some t =>
      if t.cls ≠ .otherDevice ∨ t.tokenSent ∨ t.sent = 0 ∨ s.turn.window ≠ .close then s
      else
        let left := t.d.words - t.answered
        let st := if t.status = 0 ∧ 0 < left then tokCode .noResource else t.status
        s.setSite site ((a.deliverToken t s.turn.geom.cycles st left).modXfer xfer (fun y => { y with tokenSent := true })))

end Sys2Proof.Machine
end

