-- ==== Sys2Proof/Machine/Programs.lean ====
section
/-! DEFINITION. The checks that PLAN_LOAD makes of tile programs (R118, R122, R123, R128 to R135, R138 to R143, R151,
R156, R165, R200, R212): of one image, and of the images of one tile. -/

namespace Sys2Proof

open Sys2Proof.Machine

/-- The decoded bundles of an image; a bundle index with none listed holds NOPs. None where some bundle does not decode
(R118). -/
def SlotImage.decoded (im : SlotImage) : Option (List (Nat × Bundle)) :=
  im.bundles.foldr (fun e acc =>
    match acc, decodeBundle e.2 with
    | some l, some b => some ((e.1, b) :: l)
    | _, _ => none) (some [])

/-- The steering entries of an image (R212); none where one does not decode. -/
def SlotImage.steers (im : SlotImage) : Option (List (Nat × SteerEntry)) :=
  im.steer.foldr (fun e acc =>
    match acc, decodeSteer e.2.toNat with
    | some l, some (some x) => some ((e.1, x) :: l)
    | some l, some none => some l
    | _, _ => none) (some [])

/-- What a program may name: the tiles of its plan and the multicast groups of its tile. -/
structure Names where
  tiles : List Nat
  groups : List Nat

/-- The checks of one bundle's operands: its fields, the tiles and groups it names, and the loops' ends. -/
def Bundle.operandsOk (b : Bundle) (a : Nat) (n : Names) : Bool :=
  b.legal &&
  (match b.exch with
   | .sendV f => n.tiles.contains (f.dq.toNat * 512 + f.dtile.toNat)
   | .sendS f => n.tiles.contains (f.dq.toNat * 512 + f.dtile.toNat)
   | .msendV f => n.groups.contains f.group.toNat
   | _ => true) &&
  (match b.scal with
   | .loop f => decide (a < f.end_.toNat)
   | .loopi f => decide (a < f.end_.toNat)
   | _ => true)

/-- The bundle at an index of a decoded image. -/
def bundleAt (l : List (Nat × Bundle)) (a : Nat) : Bundle := aget Bundle.nops l a

/-- The loops of an image: start and end of their bodies (R129). -/
def loopBodies (l : List (Nat × Bundle)) : List (Nat × Nat) :=
  l.filterMap (fun e => match e.2.scal with
    | .loop f => some (e.1 + 1, f.end_.toNat)
    | .loopi f => some (e.1 + 1, f.end_.toNat)
    | _ => none)

/-- Whether a control instruction may stand in an END bundle (R131). -/
def endAllows : ScalarOp → Bool
  | .br _ => false
  | .call _ => false
  | .jr _ => false
  | .loop _ => false
  | .loopi _ => false
  | .switch _ => false
  | _ => true

/-- The loops of an image nest, and their END bundles hold no control transfer (R131). -/
def loopsOk (l : List (Nat × Bundle)) : Bool :=
  let bodies := loopBodies l
  bodies.all (fun x => endAllows (bundleAt l x.2).scal &&
    bodies.all (fun y => decide (y.2 < x.1 - 1) || decide (x.2 < y.1 - 1) || decide (x.1 ≤ y.1 - 1 ∧ y.2 ≤ x.2) ||
      decide (y.1 ≤ x.1 - 1 ∧ x.2 ≤ y.2) || decide (x = y)))

/-- Whether a control instruction can fall through (R128). -/
def fallsThrough (o : ScalarOp) : Bool :=
  decide (scalarGuard o ≠ 0) ||
  (match o with
   | .br _ => false
   | .jr _ => false
   | .switch _ => false
   | .endwork _ => false
   | .call _ => false
   | .loop _ => false
   | .loopi _ => false
   | _ => true)

/-- The bundles that follow a bundle in the check of R128. -/
def nextBundles (l : List (Nat × Bundle)) (a : Nat) : List Nat :=
  let o := (bundleAt l a).scal
  (if fallsThrough o then [a + 1] else []) ++
  (match o with
   | .br f => [f.target.toNat]
   | .call f => [f.target.toNat, a + 1]
   | .loop f => [a + 1, f.end_.toNat + 1]
   | .loopi f => [a + 1, f.end_.toNat + 1]
   | _ => [])

/-- Whether no path from the bundles still to do falls past bundle 1,023 (R128). -/
def stays (l : List (Nat × Bundle)) : (fuel : Nat) → (todo seen : List Nat) → Bool
  | 0, _, _ => true
  | _, [], _ => true
  | n + 1, a :: t, seen =>
    if 1023 < a then false
    else if seen.contains a then stays l n t seen
    else stays l n (nextBundles l a ++ t) (a :: seen)

/-! ### Results in flight across a RECV, and two results in one cycle (R122, R123) -/

/-- A destination or source of a bundle: its file (0 S, 1 K, 2 P, 3 V, 4 VM) and number. -/
abbrev Place := Nat × Nat

/-- What a slot writes, with the latency, and what it reads. -/
structure Use where
  writes : List (Place × Nat)
  reads : List Place

/-- Eight scalars from `r`. -/
def eightS (r : Nat) : List Place := (List.range 8).map (fun i => (0, r + i))

/-- The use of the scalar and control slot. -/
def scalarUse : ScalarOp → Use
  | .alu op f => { writes := [((0, f.sd.toNat), aluLatency op)], reads := [(0, f.sa.toNat), (0, f.sb.toNat)] }
  | .alui op f => { writes := [((0, f.sd.toNat), aluLatency (aluImmOp op))], reads := [(0, f.sa.toNat)] }
  | .movi _ sd _ => { writes := [((0, sd.toNat), 1)], reads := [] }
  | .cmp _ f => { writes := [((2, f.pd.toNat), 1)], reads := [(0, f.sa.toNat), (0, f.sb.toNat)] }
  | .cmpi _ f => { writes := [((2, f.pd.toNat), 1)], reads := [(0, f.sa.toNat)] }
  | .plog _ f => { writes := [((2, f.pd.toNat), 1)], reads := [(2, f.pa.toNat), (2, f.pb.toNat)] }
  | .movk f => { writes := [((0, f.sd.toNat), 1)], reads := [(1, f.kn.toNat)] }
  | .rdid _ sd => { writes := [((0, sd.toNat), 1)], reads := [] }
  | .call _ => { writes := [((0, 31), 1)], reads := [] }
  | .jr f => { writes := [], reads := [(0, f.sa.toNat)] }
  | .loop f => { writes := [((1, f.kn.toNat), 1)], reads := [(0, f.sa.toNat)] }
  | .loopi f => { writes := [((1, f.kn.toNat), 1)], reads := [] }
  | _ => { writes := [], reads := [] }

/-- The V registers of a message. -/
def msgRegs (vsrc : BitVec 5) (len : BitVec 3) : List Place := (List.range (len.toNat / 4 + 1)).map (fun i => (3, vsrc.toNat + i))

/-- The use of the exchange slot. -/
def exchUse : ExchOp → Use
  | .sendV f => { writes := [], reads := msgRegs f.vsrc f.len }
  | .sendS f => { writes := [], reads := eightS f.ssrc.toNat }
  | .msendV f => { writes := [], reads := msgRegs f.vsrc f.len }
  | .recvV f => { writes := [((3, f.d.toNat), 2), ((3, f.d.toNat + 1), 2), ((0, f.sst.toNat), 2)], reads := [] }
  | .recvS f => { writes := (((0, f.sst.toNat), 2) :: (eightS f.d.toNat).map (fun p => (p, 2))), reads := [] }
  | .tpush f => { writes := [], reads := [(0, f.sa.toNat)] }
  | .tpop f => { writes := [((0, f.sd.toNat), 2)], reads := [] }
  | .dma f => { writes := [], reads := [(0, f.sa.toNat), (0, f.sb.toNat)] }
  | _ => { writes := [], reads := [] }

/-- The mask register that a vector operation reads. -/
def maskRead (m : VMask) : List Place := if m.mask = 0 then [] else [(4, m.mask.toNat)]

/-- Operand B or C: a vector register, or a scalar that is broadcast. -/
def operand (bs : BitVec 1) (r : BitVec 5) : Place := if bs = 1 then (0, r.toNat) else (3, r.toNat)

/-- The use of the vector slot. -/
def vecUse : VecOp → Use
  | .v3 op f =>
    { writes := [((3, f.vd.toNat), 4)]
      reads := maskRead f.m ++ [(3, f.va.toNat)] ++ (if 2 ≤ v3Uses op then [operand f.bs f.vb] else []) ++
        (if 3 ≤ v3Uses op then [operand f.cs f.vc] else []) }
  | .vi op f => { writes := [((3, f.vd.toNat), 4)], reads := maskRead f.m ++ (if op = .movi then [] else [(3, f.va.toNat)]) }
  | .va op f =>
    { writes := [((3, f.vd.toNat), 4)]
      reads := maskRead f.m ++ (if op = .rda then [] else [operand f.bs f.vb]) ++ (if op = .fma then [operand f.cs f.vc] else []) }
  | .unpk f => { writes := [((3, f.vd.toNat), 4)], reads := maskRead f.m ++ [(3, f.va.toNat)] }
  | .ocvt f =>
    { writes := [((3, f.vd.toNat), 4)]
      reads := maskRead f.m ++ (if f.as = 1 then [] else [(3, f.src.toNat)]) ++ [operand f.ssc f.vsc, operand f.sbi f.vbi] ++
        (if f.clip = 1 then [(0, f.scl.toNat), (0, f.scl.toNat + 1)] else []) }
  | .cmp _ f => { writes := [((4, f.vmd.toNat), 4)], reads := maskRead f.m ++ [(3, f.va.toNat), operand f.bs f.vb] }
  | .mlog _ f => { writes := [((4, f.vmd.toNat), 4)], reads := [(4, f.vma.toNat), (4, f.vmb.toNat)] }
  | .red _ f => { writes := [((3, f.vd.toNat), 4)], reads := maskRead f.m ++ [(3, f.va.toNat)] }
  | .lut f => { writes := [((3, f.vd.toNat), 4)]
                reads := maskRead f.m ++ [(3, f.va.toNat)] ++ (List.range 4).map (fun i => (3, f.vt.toNat + i)) }
  | .sample f => { writes := [((3, f.vd.toNat), 4)]
                   reads := maskRead f.m ++ [(0, f.sk.toNat), (0, f.sk.toNat + 1), (0, f.st.toNat), (0, f.sdr.toNat)] }
  | .ext f => { writes := [((0, f.sd.toNat), 4)], reads := maskRead f.m ++ [(3, f.va.toNat)] }
  | .frd f => { writes := [((3, f.vd.toNat), 4)], reads := maskRead f.m }
  | .fclr m _ => { writes := [], reads := maskRead m }
  | .nop => { writes := [], reads := [] }

/-- The use of the load/store and matrix slots. -/
def lsUse : LsOp → Use
  | .vldq f => { writes := [((3, f.vd.toNat), 6)], reads := [(0, f.sa.toNat)] }
  | .vldqP f => { writes := [((3, f.vd.toNat), 6), ((0, f.sa.toNat), 1)], reads := [(0, f.sa.toNat), (0, f.sb.toNat)] }
  | .vstq f => { writes := [], reads := [(0, f.sa.toNat), (3, f.vd.toNat)] }
  | .vstqP f => { writes := [((0, f.sa.toNat), 1)], reads := [(0, f.sa.toNat), (0, f.sb.toNat), (3, f.vd.toNat)] }
  | .vldb f => { writes := [((3, f.vd.toNat), 6)], reads := [(0, f.sa.toNat)] }
  | .vldbX f => { writes := [((3, f.vd.toNat), 6)], reads := [(0, f.sa.toNat)] }
  | .vldh f => { writes := [((3, f.vd.toNat), 6)], reads := [(0, f.sa.toNat)] }
  | .sld f => { writes := [((0, f.sd.toNat), 6)], reads := [(0, f.sa.toNat)] }
  | .sst f => { writes := [], reads := [(0, f.sa.toNat), (0, f.sd.toNat)] }
  | .nop => { writes := [], reads := [] }

/-- The use of the matrix slot. -/
def matUse : MatOp → Use
  | .mldw f => { writes := [], reads := [(0, f.sa.toNat)] }
  | .mfeed f => { writes := [], reads := [(0, f.sa.toNat), (0, f.sb.toNat)] }
  | _ => { writes := [], reads := [] }

/-- A guard that never holds executes nothing (R119). -/
def neverGuard (g : Guard) : Bool := g == 1

/-- The use of a slot that acts as a NOP whatever the state: none (R119, R148). -/
def Use.unless (nop : Bool) (u : Use) : Use := if nop then { writes := [], reads := [] } else u

/-- The slots' uses of a bundle, each with its slot's rank. -/
def Bundle.uses (b : Bundle) : List (Nat × Use) :=
  [(1, (scalarUse b.scal).unless (neverGuard (scalarGuard b.scal))), (2, (vecUse b.vec).unless (noLanes (vecMask b.vec))),
   (3, (exchUse b.exch).unless (neverGuard (exchGuard b.exch))), (4, (lsUse b.ls).unless (neverGuard (lsGuard b.ls))),
   (5, (matUse b.mat).unless (neverGuard (matGuard b.mat)))]

/-- Whether a bundle holds a RECV (R121). -/
def Bundle.recvs (b : Bundle) : Bool :=
  match b.exch with
  | .recvV f => !neverGuard f.g
  | .recvS f => !neverGuard f.g
  | _ => false

/-- Whether a straight-line sequence ends after a bundle: at a control transfer. -/
def endsLine (o : ScalarOp) : Bool :=
  match o with
  | .br _ => true
  | .call _ => true
  | .jr _ => true
  | .loop _ => true
  | .loopi _ => true
  | .switch _ => true
  | .endwork _ => true
  | _ => false

/-- Cycles that a bundle takes in a straight line (R137). DEDUCED (log 77): the work cycle in which a WAITC issues is not known
at load, and an unguarded one is taken to wait past every landing; a guarded wait is taken not to wait. -/
def lineCycles (o : ScalarOp) : Nat :=
  match o with
  | .idle f => if f.g = 0 then f.n.toNat + 1 else 1
  | .waitc f => if f.g = 0 then 1024 else 1
  | _ => 1

/-- A bundle of a straight line with the cycle in which it issues when nothing stalls. -/
abbrev Line := List (Nat × Bundle)

/-- The straight line from a bundle, no longer than `fuel`. -/
def lineFrom (l : List (Nat × Bundle)) : (fuel a cycle : Nat) → Line
  | 0, _, _ => []
  | n + 1, a, c =>
    let b := bundleAt l a
    (c, b) :: (if endsLine b.scal || decide (1023 ≤ a) then [] else lineFrom l n (a + 1) (c + lineCycles b.scal))

/-- Whether the first bundle's results keep R122 and R123 along a straight line: none is read or written again before it
lands where a RECV intervenes, and none lands with another slot's result in one destination and cycle. -/
def lineHeadOk (l : Line) : Bool :=
  match l with
  | [] => true
  | (c, b) :: t =>
    b.uses.all (fun u => u.2.writes.all (fun w =>
      let d := c + w.2
      -- R123, in the same bundle and later ones
      b.uses.all (fun v => v.1 == u.1 || v.2.writes.all (fun x => x.1 != w.1 || x.2 != w.2)) &&
      t.all (fun e => e.2.uses.all (fun v => v.1 == u.1 || v.2.writes.all (fun x => x.1 != w.1 || e.1 + x.2 != d))) &&
      -- R122
      (let inFlight := t.filter (fun e => decide (e.1 < d))
       !inFlight.any (fun e => e.2.recvs) ||
         inFlight.all (fun e => e.2.uses.all (fun v => !v.2.reads.contains w.1 && v.2.writes.all (fun x => x.1 != w.1))))))

/-- R122 and R123 along every straight line of an image. -/
def flightOk (l : List (Nat × Bundle)) : Bool := l.all (fun e => lineHeadOk (lineFrom l 12 e.1 0))

/-! ### ACC row types (R156) -/

/-- Along a straight line: the row type written last in each ACC row (INT32 true), where it is known, and the streams fed,
by cycle, row type and rows. -/
structure RowTypes where
  rows : List (Nat × Bool)
  feeds : List (Nat × Bool × Nat)
  ok : Bool

/-- The last row type of a row after an MMUL of type `int`: known after one that surely executes, and after one that may
where both agree. -/
def rowAfter (sure int : Bool) (rows : List (Nat × Bool)) (x : Nat) : List (Nat × Bool) :=
  if sure || alook rows x == some int then aset rows x int else rows.filter (fun e => e.1 != x)

/-- One bundle's part in it. The activation format of a stream fixes its row type (Table 5.4), whatever the weight buffer
held before; a guard that is not constant may hold. -/
def RowTypes.step (r : RowTypes) (e : Nat × Bundle) : RowTypes :=
  match e.2.mat with
  | .mfeed f => if neverGuard f.g then r else { r with feeds := (e.1, f.fmt == 5, f.n.toNat + 1) :: r.feeds }
  | .mmul f =>
    if neverGuard f.g then r
    else match r.feeds.find? (fun x => x.1 + 8 == e.1) with
    | some (_, int, n) =>
      let rows := (List.range n).map (fun i => (f.row0.toNat + i) % 512)
      { r with
        ok := r.ok && (f.mode == 0 || rows.all (fun x => match alook r.rows x with
          | some k => k == int
          | none => true))
        rows := rows.foldl (rowAfter (f.g == 0) int) r.rows }
    | none => r
  | _ => r

/-- R156 along every straight line that begins an image or follows a control transfer. -/
def rowTypesOk (l : List (Nat × Bundle)) : Bool :=
  l.all (fun e => e.1 != 0 && (alook l (e.1 - 1)).isSome && !endsLine (bundleAt l (e.1 - 1)).scal ||
    ((lineFrom l 1024 e.1 0).foldl RowTypes.step { rows := [], feeds := [], ok := true }).ok)

/-! ### Steering tables (R212) -/

/-- The queues that an entry takes its inputs from: hoppers 0 to 3, token queues 4 to 7. -/
def SteerEntry.inputs (e : SteerEntry) : List Nat :=
  (match e.dsrc with
   | .hopper h => [h.toNat]
   | .tq q => [4 + q.toNat]) ++
  (match e.csrc with
   | some q => [4 + q.toNat]
   | none => [])

/-- The token queues that an entry's outputs feed. -/
def SteerEntry.feeds (e : SteerEntry) : List Nat :=
  [e.outA, e.outB].filterMap (fun o => match o with
    | .tq q => some (4 + q.toNat)
    | _ => none)

/-- Whether an output names only what the plan declares. -/
def steerOutOk (n : Names) : SteerOut → Bool
  | .send _ q t => n.tiles.contains (q.toNat * 512 + t.toNat)
  | .msend _ g => n.groups.contains g.toNat
  | _ => true

/-- Entries reached from an entry over token queues in at most `fuel` hops. -/
def steerReach (es : List (Nat × SteerEntry)) : (fuel : Nat) → Nat → List Nat
  | 0, _ => []
  | n + 1, i =>
    match es.find? (fun e => e.1 == i) with
    | none => []
    | some e =>
      let next := (es.filter (fun x => x.2.inputs.any (fun q => e.2.feeds.contains q))).map Prod.fst
      next ++ next.flatMap (steerReach es n)

/-- The steering table of one slot (R212), with what the slot's bundles pop and receive (R141). -/
def steerOk (es : List (Nat × SteerEntry)) (l : List (Nat × Bundle)) (n : Names) : Bool :=
  let ins := es.flatMap (fun e => e.2.inputs)
  decide (ins.Nodup) &&
  es.all (fun e => !e.2.feeds.any (fun q => e.2.inputs.contains q) && steerOutOk n e.2.outA && steerOutOk n e.2.outB &&
    !(steerReach es 4 e.1).contains e.1) &&
  l.all (fun b => match b.2.exch with
    | .recvV f => !ins.contains f.hop.toNat
    | .recvS f => !ins.contains f.hop.toNat
    | .tpop f => !ins.contains (4 + f.tq.toNat)
    | _ => true)

/-! ### The images of a tile -/

/-- A fold image in a scratchpad (R133, R200): the bundles of a bank and its trailer. -/
def foldImage (m : Memory) (bank trailer : Nat) : SlotImage :=
  { bundles := (List.range 1024).map (fun i => (i, BitVec.ofNat 256 (leNat (m.read (bank * 32768 + 32 * i) 32))))
    own := BitVec.ofNat 64 (leNat (m.read (trailer * 1024) 8))
    steer := (List.range 32).map (fun i => (i, BitVec.ofNat 128 (leNat (m.read (trailer * 1024 + 512 + 16 * i) 16)))) }

/-- The RELOADs of a decoded image. -/
def reloads (l : List (Nat × Bundle)) : List FmtRL :=
  l.filterMap (fun e => match e.2.scal with
    | .reload f => some f
    | _ => none)

/-- The ENTRYs that an image's SWITCHes name: slot and bundle. -/
def switches (l : List (Nat × Bundle)) : List (Nat × Nat) :=
  l.filterMap (fun e => match e.2.scal with
    | .switch f => some (f.slot.toNat, f.entry.toNat)
    | _ => none)

/-- The scratchpad of a tile as PLAN_LOAD writes it. -/
def PlanTile.memory (t : PlanTile) : Memory := t.image.foldl (fun m e => m.write e.1 e.2) Memory.empty

/-- The trailer of a fold image holds zeros where R133 says so. -/
def trailerOk (m : Memory) (trailer : Nat) : Bool := (m.read (trailer * 1024 + 8) 504).all (fun b => b == 0)

/-- The images of a tile with the slot each runs in: the resident ones, and the fold images that RELOADs name. -/
def PlanTile.images (t : PlanTile) : (fuel : Nat) → List (Nat × SlotImage) → List FmtRL → List (Nat × SlotImage)
  | 0, acc, _ => acc
  | n + 1, acc, seen =>
    let all := acc.flatMap (fun e => match e.2.decoded with
      | some l => reloads l
      | none => [])
    match all.find? (fun f => !seen.any (fun x => x.slot == f.slot && x.bank == f.bank && x.trailer == f.trailer)) with
    | none => acc
    | some f => t.images n (acc ++ [(f.slot.toNat, foldImage t.memory f.bank.toNat f.trailer.toNat)]) (f :: seen)

/-- Every image of a tile: a RELOAD names one of 4 slots, 32 banks and 1,024 trailers. -/
def PlanTile.allImages (t : PlanTile) : List (Nat × SlotImage) := t.images (4 * 32 * 1024 + 1) t.slots []

/-- The checks of a declared fold image, whether or not a RELOAD names it (R200): of its bundles where the region fills a bank, of
its trailer's zeros and steering entries where it is one. -/
def PlanTile.foldOk (t : PlanTile) (n : Names) (r : Nat × Nat) : Bool :=
  let im := foldImage t.memory (r.1 / 32768) (r.1 / 1024)
  if 32768 ≤ r.2 then
    decide (r.1 % 32768 = 0) && (match im.decoded with
      | some l => l.all (fun e => e.2.operandsOk e.1 n) && loopsOk l && flightOk l && rowTypesOk l
      | none => false)
  else decide (r.1 % 1024 = 0 ∧ 1024 ≤ r.2) && trailerOk t.memory (r.1 / 1024) && (match im.steers with
    | some es => steerOk es [] n
    | none => false)

/-- The RELOADs of an image find their banks owned and powered (R200). -/
def reloadsOk (l : List (Nat × Bundle)) (own : DWord) (masks : List (BitVec 32)) : Bool :=
  (reloads l).all (fun f =>
    let b := f.bank.toNat
    let tb := f.trailer.toNat / 32
    ownerIn own b == ownWide && ownerIn own tb == ownNarrow &&
    masks.all (fun m => m.toNat.testBit b && m.toNat.testBit tb))

/-- The checks of one image of a tile. -/
def imageOk (im : SlotImage) (starts : List Nat) (n : Names) (masks : List (BitVec 32)) : Bool :=
  match im.decoded, im.steers with
  | some l, some es =>
    l.all (fun e => decide (e.1 ≤ 1023) && e.2.operandsOk e.1 n) && loopsOk l && stays l 8192 starts [] && flightOk l &&
      rowTypesOk l && steerOk es l n && reloadsOk l im.own masks
  | _, _ => false

/-- The trailers that a tile's RELOADs name. -/
def PlanTile.trailers (t : PlanTile) : List Nat :=
  t.allImages.flatMap (fun e => match e.2.decoded with
    | some l => (reloads l).map (fun f => f.trailer.toNat)
    | none => [])

/-- The tile program's checks (R118 to R143, R200, R212). -/
def PlanTile.programOk (t : PlanTile) (n : Names) (masks : List (BitVec 32)) : Bool :=
  let all := t.allImages
  let starts := fun (slot : Nat) => ((t.entries.filter (fun e => e.slot == slot)).map (fun e => e.bundle)) ++
    (all.flatMap (fun e => match e.2.decoded with
      | some l => ((switches l).filter (fun w => w.1 == slot)).map Prod.snd
      | none => []))
  all.all (fun e => decide (e.1 < 4) && imageOk e.2 (starts e.1) n masks) && t.trailers.all (trailerOk t.memory) &&
    t.folds.all (t.foldOk n)

/-- Whether a program uses MX4 weights (R5). -/
def PlanTile.usesMx4 (t : PlanTile) : Bool :=
  t.allImages.any (fun e => match e.2.decoded with
    | some l => l.any (fun b => match b.2.mat with
      | .mldw f => f.fmt == 6
      | _ => false)
    | none => false)

/-- The banks that OWNRs of a tile name. -/
def PlanTile.handed (t : PlanTile) : List Nat :=
  t.allImages.flatMap (fun e => match e.2.decoded with
    | some l => l.flatMap (fun b => match b.2.scal with
      | .ownr f => (List.range f.count.toNat).map (fun i => f.first.toNat + i)
      | _ => [])
    | none => [])

end Sys2Proof
end

