-- ==== Sys2Proof/Machine/Rings.lean ====
section
/-! DEFINITION. The host rings (R283 to R293, R298 to R301, R516): tailrace records and their writing, the reading and
framing of headrace records, refusals, completions. -/

namespace Sys2Proof.Machine

/-- The status codes of Table 10.6. -/
inductive Status where
  | ok | badCommand | noResource | windowClosed | bankOff | resetting | poisoned | wrongState | missingUnit | needsDrain
  | stageIncomplete | timeout | tailraceFull | braked
  deriving DecidableEq, Repr

/-- A status's code (Table 10.6). -/
def Status.code : Status → Nat
  | .ok => 0 | .badCommand => 1 | .noResource => 2 | .windowClosed => 3 | .bankOff => 4 | .resetting => 5 | .poisoned => 6
  | .wrongState => 7 | .missingUnit => 8 | .needsDrain => 9 | .stageIncomplete => 10 | .timeout => 11 | .tailraceFull => 12
  | .braked => 13

/-- Ring indices run free modulo 2^32 (R284). -/
def idxMod : Nat := 4294967296

/-- `a − b` for ring indices. -/
def idxSub (a b : Nat) : Nat := (a + (idxMod - b % idxMod)) % idxMod

/-- The SEQ after `n` (Table 10.5): it wraps from 2^32 − 1 to 1. -/
def nextSeq (n : Nat) : Nat := if n + 1 < idxMod then n + 1 else 1

/-- Units free in a tailrace. -/
def Ring.room (r : Ring) : Nat := 2 ^ r.trLog - idxSub r.trProd r.trCons

/-- A record produced for a tailrace: it takes its SEQ now and its place at the close (R290, R294). -/
def Ring.add (r : Ring) (turn type units : Nat) (body : List Byte) : Ring :=
  let q := nextSeq r.seq
  { r with seq := q, due := r.due ++ [{ type := type, units := units, seq := q, turn := turn, body := body }] }

/-- A record produced for ring `r` of function `f`, where that ring is in service (R284, R311). -/
def State.post (s : State) (f r type units : Nat) (body : List Byte) : State :=
  match (s.ring f r).state with
  | .disabled => s
  | .braked => s
  | _ => s.modRing f r (fun x => x.add s.turn.no type units body)

/-- The two writes of a record (R291): its body, then its first 8 bytes. -/
def recordWrites (f n pos : Nat) (phase : Bool) (x : Rec) : List Out := [.body f n pos x, .record f n pos phase x]

/-- The SEQ of a SKIP record before the record of SEQ `n` (Table 10.5): that of the last record before it, 0 if there is none. -/
def Ring.skipSeq (r : Ring) (n : Nat) : Nat := if 1 < n then n - 1 else if r.trProd = 0 then 0 else idxMod - 1

/-- One record put into a tailrace (R288, R290): after a SKIP record where it does not fit before the ring end. None
where the tailrace lacks the room. -/
def Ring.write (r : Ring) (f n : Nat) (x : Rec) : Option (Ring × List Out) :=
  let size := 2 ^ r.trLog
  let pos := r.trProd % size
  if pos + x.units ≤ size then
    if x.units ≤ r.room then
      some ({ r with trProd := (r.trProd + x.units) % idxMod, gained := true
                     phase := if pos + x.units = size then !r.phase else r.phase },
            recordWrites f n pos r.phase x)
    else none
  else
    let span := size - pos
    if span + x.units ≤ r.room then
      let skip : Rec := { type := 15, units := 1, seq := r.skipSeq x.seq, turn := x.turn, body := leBytes 4 span }
      some ({ r with trProd := (r.trProd + span + x.units) % idxMod, gained := true
                     phase := if x.units = size then r.phase else !r.phase },
            recordWrites f n pos r.phase skip ++ recordWrites f n 0 (!r.phase) x)
    else none

/-- Records written in order until one finds no room (R292); what is left stays held. -/
def Ring.drain (r : Ring) (f n : Nat) : List Rec → Ring × List Out
  | [] => ({ r with held := [] }, [])
  | x :: t =>
    match r.write f n x with
    | none => ({ r with held := x :: t }, [])
    | some (r1, o) =>
      let released := x.type = 2 ∨ (x.type = 1 ∧ x.body.getD 1 0 = 0x21)
      let r2 := { r1 with brakeWritten := r1.brakeWritten || x.type == 6
                          lastOutput := if released then x.turn else r1.lastOutput }
      let z := r2.drain f n t
      (z.1, o ++ z.2)

/-- The entry into TAILRACE_FULL (R292). -/
def Ring.fill (r : Ring) : Ring :=
  if r.state = .active ∧ 4096 ≤ r.held.length then { r with state := .full, fullEvents := bump16 r.fullEvents 1 } else r

/-- The held records and those the close produced, written as room allows; a function that issues no requests writes
none (R277, R292, R313). -/
def State.flushRing (s : State) (f r : Nat) : State :=
  let fnx := s.fn f
  let x := fnx.ring r
  let all := x.held ++ x.due
  let x0 := { x with due := [] }
  if fnx.busMaster && !fnx.d3hot && decide (x.state ≠ .disabled) then
    let z := x0.drain f r all
    let s1 := s.modRing f r (fun _ => z.1.fill)
    { s1 with out := s1.out ++ z.2 }
  else s.modRing f r (fun _ => { x0 with held := all }.fill)

/-- The rings of a function. -/
def allRings : List Nat := List.range 17

/-- The indices that a device index block shows (Table 10.3). -/
def Fn.indices (x : Fn) : List (Nat × Nat) := allRings.map (fun r => ((x.ring r).hrCons, (x.ring r).trProd))

/-- Whether a function writes its device index block and sends MSI-X messages (R285, Table 10.27). -/
def Fn.shows (x : Fn) : Bool := decide (x.devBlock ≠ 0) && x.busMaster && !x.d3hot

/-- The device index block of a function (R285, R291). -/
def State.showIndex (s : State) (f : Nat) : State :=
  let x := s.fn f
  if x.shows then
    (s.emit (.indexBlock f x.indices s.turn.no)).modFn f (fun y =>
      { y with rings := y.rings.map (fun e => (e.1, { e.2 with shownCons := e.2.hrCons, shownProd := e.2.trProd })) })
  else s

/-- A word of the MSI-X table (R279): as last written. PRESUMED (log 87): at reset the mask bit of every vector is set, as PCI
Express has it. -/
def Fn.msixWord (x : Fn) (i : Nat) : Nat := aget (if i % 4 = 3 then 1 else 0) x.msix i

/-- Whether a vector is masked, on its own or by the Function Mask (R293). -/
def Fn.isMasked (x : Fn) (v : Nat) : Bool := x.msixMask || (x.msixWord (4 * v + 3)).testBit 0

/-- A message of a function (R293): sent, as the only one of the turn, or left pending where its vector is masked. -/
def State.message (s : State) (f v : Nat) : State :=
  if (s.fn f).isMasked v then s.modFn f (fun y => { y with msixPending := nins y.msixPending v })
  else (s.emit (.msix f v)).modFn f (fun y => { y with msixPending := ndel y.msixPending v, sent := true })

/-- A pending message whose vector is masked no longer is sent, at most one in a turn (R293). -/
def State.firePending (s : State) (f : Nat) : State :=
  let x := s.fn f
  if x.sent || !x.shows then s
  else match x.msixPending.find? (fun v => !x.isMasked v) with
    | some v => s.message f v
    | none => s

/-- The rings of a function have announced what they gained. -/
def Fn.announced (x : Fn) : Fn := { x with rings := x.rings.map (fun e => (e.1, { e.2 with gained := false })) }

/-- The device index block and the MSI-X message of a function at a close (R285, R291, R293): no more than one message in the
turn, with the vector of the lowest ring that gained a record with INT_EN set. -/
def State.showFn (s : State) (f : Nat) : State :=
  let x := s.fn f
  let t := s.showIndex f
  if x.sent || !x.shows then t
  else match allRings.find? (fun r => (x.ring r).intEn && (x.ring r).gained) with
    | some r => (t.message f (x.ring r).vector).modFn f Fn.announced
    | none => t.firePending f

/-- Every tailrace record of the close, then each function's index block (R285, R291). -/
def State.flushAll (s : State) : State :=
  s.functions.foldl (fun t f => (allRings.foldl (fun u r => u.flushRing f r) t).showFn f) s

/-! ### Reading the headraces -/

/-- Whether pointer blocks are read at all (R459, Table 16.4): READY, READY_DEGRADED, or NOT_READY. -/
def DevCode.reads : DevCode → Bool
  | .ready => true
  | .degraded => true
  | .notReady => true
  | _ => false

/-- Whether a function's rings are served in the intake window (R286, R313, R459). -/
def State.serves (s : State) (f : Nat) : Bool :=
  let x := s.fn f
  s.turn.running && decide (s.turn.window = .intake) && s.mod.dev.reads && decide (x.ptrBlock ≠ 0) && x.busMaster && !x.d3hot

/-- The ring halts (R289). -/
def Ring.halt (r : Ring) (cause : Nat) : Ring :=
  { r with state := .halted, haltCause := cause, haltOffset := r.hrCons }

/-- How a headrace record is met: left for a later intake, not framed, or read. -/
inductive Frame where
  | leave
  | halt (cause : Nat)
  | read
  deriving DecidableEq, Repr

/-- The place of ring `r` of function `f` in the order of service (R286): the management rings, then the context rings from
context TURN_NO mod 16. -/
def State.ringPlace (s : State) (f r : Nat) : Nat := if r = 0 then f else 8 + (r - 1 + 16 - s.turn.no % 16) % 16

/-- Whether the service of the turn has gone past a ring (R286, R294): a later one has been read from, or a record of an earlier
one waits for the entry of its stream. -/
def State.passed (s : State) (f r : Nat) : Bool :=
  s.functions.any (fun g => allRings.any (fun k => decide (s.ringPlace f r < s.ringPlace g k) && decide ((s.ring g k).readNow ≠ 0))) ||
    s.streams.waits.any (fun w => decide (s.ringPlace w.2.1 w.2.2 ≤ s.ringPlace f r))

/-- The framing of a record of `units` units whose read succeeds or not (R286, R288, R289): records are read after the turn's
pointer block, in ring order, within the limits; a record that HR_PROD covers only in part is left. -/
def State.frame (s : State) (f r units : Nat) (readOk : Bool) : Frame :=
  let x := s.ring f r
  let avail := idxSub x.hrProd x.hrCons
  if !s.serves f || decide ((s.fn f).polled ≠ some true) || decide (x.state ≠ .active) || (s.mod.dev == .notReady && decide (r ≠ 0)) ||
      decide (avail = 0) || decide (512 ≤ x.readNow) || decide (2048 ≤ s.readUnits) || s.passed f r then .leave
  else if readOk = false then .halt 4
  else if units = 0 ∨ 4 < units then .halt 1
  else if avail < units then .leave
  else if 2 ^ x.hrLog < x.hrCons % 2 ^ x.hrLog + units then .halt 2
  else if 512 < x.readNow + units ∨ 2048 < s.readUnits + units then .leave
  else .read

/-- Units read from a headrace: HR_CONS advances (R286). -/
def State.consume (s : State) (f r units cost : Nat) : State :=
  { s.modRing f r (fun x => { x with hrCons := (x.hrCons + units) % idxMod, readNow := x.readNow + cost }) with
    readUnits := s.readUnits + cost }

/-! ### Completions -/

/-- Where a completion goes, and what it names. -/
structure CmdRef where
  fn : Nat
  ring : Nat
  opc : Nat
  ctx : Nat
  tag : Nat
  deriving DecidableEq, Repr

/-- The completion record's body from byte 0x10 (R301): STATUS, OPC, CONTEXT, TAG, and the result fields from 0x18. -/
def completionBody (c : CmdRef) (st : Status) (res : List Byte) : List Byte :=
  [BitVec.ofNat 8 st.code, BitVec.ofNat 8 c.opc, BitVec.ofNat 8 c.ctx, 0] ++ leBytes 4 c.tag ++ res

/-- A completion (R294, R301): 2 units for WEIGHT_DIGEST, 1 for any other command. -/
def State.complete (s : State) (c : CmdRef) (st : Status) (res : List Byte) : State :=
  s.post c.fn c.ring 1 (if c.opc = 0x06 then 2 else 1) (completionBody c st res)

/-- The command's reference. -/
def headRef (h : CmdHead) (opc : Nat) : CmdRef := { fn := h.fn, ring := h.ring, opc := opc, ctx := h.ctx, tag := h.tag }

/-- An outstanding command's reference. -/
def Cmd.ref (c : Cmd) : CmdRef := { fn := c.fn, ring := c.ring, opc := c.opc, ctx := c.ctx, tag := c.tag }

/-- A command accepted that completes later (R294), with its deadline: 0 selects the default (Table 10.4). -/
def State.accept (s : State) (h : CmdHead) (opc arg default_ : Nat) : State :=
  { s with cmds := s.cmds ++ [{
      fn := h.fn, ring := h.ring, opc := opc, ctx := h.ctx, tag := h.tag, arg := arg
      deadline := if h.deadline = 0 then default_ else h.deadline, elapsed := 0 }] }

/-- Every outstanding command that `p` names completes with a status and result. -/
def State.finish (s : State) (p : Cmd → Bool) (st : Status) (res : Cmd → List Byte) : State :=
  let t := (s.cmds.filter p).foldl (fun u c => u.complete c.ref st (res c)) s
  { t with cmds := t.cmds.filter (fun c => !p c) }

/-- The outstanding command with opcode `opc` of context `c`. -/
def isCmd (opc c : Nat) (x : Cmd) : Bool := x.opc == opc && x.ctx == c

/-! ### Evaluation of a command (R516) -/

/-- Which ring a command stands on (Table 10.7). -/
inductive RingKind where
  | management | pfManagement | context
  deriving DecidableEq, Repr

/-- Whether a command's ring and CONTEXT byte are right (R299). -/
def State.ringOk (s : State) (h : CmdHead) (k : RingKind) (namesCtx : Bool) : Bool :=
  (match k with
   | .management => h.ring == 0
   | .pfManagement => h.ring == 0 && h.fn == 0
   | .context => decide (h.ring ≠ 0)) &&
  (if h.ring ≠ 0 then h.ctx + 1 == h.ring
   else !namesCtx || decide (h.ctx < 16)) &&
  (!namesCtx || k == .pfManagement || (s.ctx h.ctx).owner == h.fn)

/-- Whether a context is bound to a braked quadrant. -/
def State.ctxBraked (s : State) (c : Nat) : Bool := (s.ctx c).quads.any (fun q => (s.quad q).braked)

/-- Whether a context is bound to a quadrant in reset. -/
def State.ctxResetting (s : State) (c : Nat) : Bool :=
  (s.ctx c).quads.any (fun q => decide ((s.quad q).recState = .fast) || decide ((s.quad q).recState = .full))

/-- A command refused (R299, R298): it completes at once, WRONG_STATE is counted, and nothing else happens. -/
def State.refuse (s : State) (c : CmdRef) (st : Status) (res : List Byte) : State :=
  let t := s.complete c st res
  if st = .wrongState then t.modRing c.fn c.ring (fun x => { x with wrongState := bump32 x.wrongState 1 }) else t

/-- The refusals that every command shares, in the order of R516: readiness and the brake, a resetting quadrant (R449),
a malformed command, the legal states. `query` marks CTX_QUERY and STREAM_QUERY; `bad` the command's own ranges; `legal`
the states of Table 10.8. -/
def State.refusal (s : State) (h : CmdHead) (opc : Nat) (k : RingKind) (namesCtx bad legal : Bool) : Option Status :=
  let query := opc == 0x08 || opc == 0x27
  if s.mod.dev = .notReady ∧ opc ≠ 0x08 then some .noResource
  else if namesCtx && !query && s.ctxBraked h.ctx then some .braked
  else if h.rsvd || bad || !s.ringOk h k namesCtx then some .badCommand
  else if namesCtx && !query && s.ctxResetting h.ctx then some .resetting
  else if !legal then some .wrongState
  else none

/-- A command's record met in its ring: left alone, halting the ring, or read and evaluated: refused, or given to
`run` (R286, R289, R294, R516). -/
def State.command (s : State) (h : CmdHead) (opc : Nat) (k : RingKind) (namesCtx bad legal : Bool) (res : List Byte)
    (run : State → State) : State :=
  match s.frame h.fn h.ring h.units h.readOk with
  | .leave => s
  | .halt c => s.modRing h.fn h.ring (fun x => x.halt c)
  | .read =>
    let t := s.consume h.fn h.ring h.units h.units
    match s.refusal h opc k namesCtx bad legal with
    | some st => t.refuse (headRef h opc) st res
    | none => run t

/-- UNKNOWN_COMMAND (R296): an opcode not in Table 10.7 completes at once with BAD_COMMAND. -/
def execUnknownCommand (h : CmdHead) (opc : Nat) (s : State) : Result3 :=
  .next (match s.frame h.fn h.ring h.units h.readOk with
    | .leave => s
    | .halt c => s.modRing h.fn h.ring (fun x => x.halt c)
    | .read =>
      let t := s.consume h.fn h.ring h.units h.units
      t.refuse (headRef h opc) (if s.mod.dev = .notReady then .noResource else .badCommand) [])

/-- HEADRACE_SKIP (R287): a SKIP record moves the read position to the ring start, once HR_PROD covers its SPAN; UNITS
other than 1 or a SPAN that does not end at the ring end halt the ring with cause 5. -/
def execHeadraceSkip (h : CmdHead) (span : Nat) (s : State) : Result3 :=
  let x := s.ring h.fn h.ring
  let size := 2 ^ x.hrLog
  .next (match s.frame h.fn h.ring 1 h.readOk with
    | .leave => s
    | .halt c => s.modRing h.fn h.ring (fun y => y.halt c)
    | .read =>
      if h.units ≠ 1 ∨ x.hrCons % size + span ≠ size then s.modRing h.fn h.ring (fun y => y.halt 5)
      else if idxSub x.hrProd x.hrCons < span then s
      else s.consume h.fn h.ring span 1)

/-- A ring's indices from the pointer block (R286, R289, R292): cause 3 where they are impossible; TAILRACE_FULL ends at
2,048 held records or fewer. -/
def State.takeIndex (s : State) (f : Nat) (p : PtrIndex) : State :=
  let x := s.ring f p.ring
  if x.state = .disabled ∨ x.state = .braked ∨ x.state = .halted then
    if x.state = .halted ∧ idxSub p.trCons x.trCons ≤ idxSub x.trProd x.trCons then
      (s.modRing f p.ring (fun y => { y with trCons := p.trCons }))
    else s
  else if 2 ^ x.hrLog < idxSub p.hrProd x.hrCons ∨ idxSub x.trProd x.trCons < idxSub p.trCons x.trCons then
    s.modRing f p.ring (fun y => y.halt 3)
  else s.modRing f p.ring (fun y => { y with hrProd := p.hrProd, trCons := p.trCons })

/-- Held records written where room has come, and the end of TAILRACE_FULL (R292). -/
def State.writeHeld (s : State) (f r : Nat) : State :=
  let x := s.ring f r
  if x.state = .disabled ∨ x.held = [] ∧ x.state ≠ .full then s
  else
    let z := x.drain f r x.held
    let s1 := s.modRing f r (fun _ =>
      if z.1.state = .full ∧ z.1.held.length ≤ 2048 then { z.1 with state := .active } else z.1)
    { s1 with out := s1.out ++ z.2 }

/-- POINTER_BLOCK_ARRIVAL (R286, R292): the one pointer block of a function in the turn, read in the first intake cycle,
arrives; held records are written as room shows. After a read that fails, which AER records, nothing is read for the function
in this turn (R314). -/
def execPointerBlockArrival (fn : Nat) (ok : Bool) (idx : List PtrIndex) (s : State) : Result3 :=
  .next (if !s.serves fn || (s.fn fn).polled.isSome then s
    else if !ok then s.modFn fn (fun x => { x with polled := some false, aer := if x.aer.contains .pointerBlock then x.aer else x.aer ++ [.pointerBlock] })
    else
      let t := idx.foldl (fun u p => if p.ring < 17 then u.takeIndex fn p else u) (s.modFn fn (fun x => { x with polled := some true }))
      allRings.foldl (fun u r => u.writeHeld fn r) t)

/-- Whether a brake's record still waits for room (R311). -/
def State.brakeWaits (s : State) : Bool :=
  s.functions.any (fun f => allRings.any (fun r => (s.ring f r).held.any (fun x => x.type == 6)))

/-- The brake's records are done with (R311, R448): bus mastering goes off in its scope (Table 13.6), and after a watchdog
trip CYCLE_REQ_N goes low. -/
def State.brakeDone (s : State) : State :=
  let off := if s.check.chipBraked then s.functions else s.mod.brakedQuads.map (fun q => q + 1)
  let t := off.foldl (fun u f => u.modFn f (fun x => { x with busMaster := false })) s
  { t with check := { t.check with braking := none }, mod := { t.mod with cycleReqN := t.mod.cycleReqN && !t.mod.watchdog } }

/-- The brake's message of a function whose records of the brake are written, or given up (R311): sent once, as the turn's. -/
def State.brakeMessage (s : State) (f : Nat) : State :=
  match alook s.check.brakeMsgs f with
  | none => s
  | some v =>
    let t := { s with check := { s.check with brakeMsgs := adel s.check.brakeMsgs f } }
    if (t.fn f).sent || !(t.fn f).shows then t else (t.message f v).modFn f Fn.announced

/-- Whether a function still holds a record of the brake. -/
def Fn.brakeWaits (x : Fn) : Bool := allRings.any (fun r => (x.ring r).held.any (fun y => y.type == 6))

/-- BRAKE_PTR_POLL (R311): under the brake, the pointer block read every 100 µs for TR_CONS only; the records that now
fit are written, then the function's index block, and its message where its records of the brake are complete. -/
def execBrakePtrPoll (fn : Nat) (ok : Bool) (idx : List PtrIndex) (s : State) : Result3 :=
  .next (match s.check.braking with
    | none => s
    | some n =>
      let x := s.fn fn
      if !ok || decide (x.ptrBlock = 0) || !x.busMaster || x.d3hot then s
      else
        let t := idx.foldl (fun u p =>
          let y := u.ring fn p.ring
          if p.ring < 17 ∧ y.state ≠ .disabled ∧ idxSub p.trCons y.trCons ≤ idxSub y.trProd y.trCons then
            u.modRing fn p.ring (fun z => { z with trCons := p.trCons }) else u) s
        let t1 := allRings.foldl (fun u r => u.writeHeld fn r) t
        let wrote := allRings.any (fun r => decide ((t1.ring fn r).trProd ≠ (t.ring fn r).trProd))
        let shown := if wrote then t1.showIndex fn else t1
        let t2 := if (shown.fn fn).brakeWaits then shown else shown.brakeMessage fn
        if t2.brakeWaits then { t2 with check := { t2.check with braking := some (n + 1) } } else t2.brakeDone)

/-- BRAKE_RECORD_TIMEOUT (R311): after 1 s the messages still due go, and the device proceeds without the brake records that
did not fit. -/
def execBrakeRecordTimeout (s : State) : Result3 :=
  .next (match s.check.braking with
    | none => s
    | some _ => ((s.check.brakeMsgs.map Prod.fst).foldl (fun u f => u.brakeMessage f) s).brakeDone)

end Sys2Proof.Machine
end

