-- ==== Sys2Proof/Machine/Records.lean ====
section
/-! DEFINITION. Output records: FAULT, SUSPECT_RANGE, DAMAGED, TOKENS and BRAKE (R308 to R311, R406, R407); change sets
that end; the brake (R408). -/

namespace Sys2Proof.Machine

/-- The cause codes of Table 13.2. -/
def Cause.code : Cause → Nat
  | .turnOverrun => 1 | .pondFull => 2 | .skewOverflow => 3 | .bankClash => 4 | .poison => 5 | .lockstep => 6 | .residue => 7
  | .eccUe => 8 | .auditMismatch => 9 | .pairMismatch => 10 | .digestMismatch => 11 | .sluiceViolation => 12 | .thermal => 13
  | .watchdog => 14

/-- The hardware checks (Table 13.2). -/
def Cause.isCheck : Cause → Bool
  | .lockstep => true
  | .residue => true
  | .eccUe => true
  | _ => false

/-- The plan faults and the consumption of poison (Table 13.2): what moves a context to FAULTED (Table 10.11). -/
def Cause.isPlan : Cause → Bool
  | .turnOverrun => true
  | .pondFull => true
  | .skewOverflow => true
  | .bankClash => true
  | .sluiceViolation => true
  | .poison => true
  | _ => false

/-- CAUSE_MASK (Table 13.3). -/
def causeMask (l : List Cause) : Nat :=
  ((List.range 16).filter (fun n => l.any (fun c => c.code == n))).foldl (fun a n => a + 2 ^ n) 0

/-- A site entry (Table 13.5). -/
structure SiteLine where
  tile : Nat
  role : Nat
  site : Nat
  pc : Nat
  slot : Nat
  service : Bool
  cause : Nat
  detail : Nat
  cycle : Nat
  recvStall : Nat
  steerStall : Nat
  deriving DecidableEq, Repr

/-- SITE (Table 13.5): x, y and quadrant. -/
def siteCode (i : Nat) : Nat := i % 576 % 24 + 32 * (i % 576 / 24) + 1024 * (i / 576)

/-- The entry's 16 bytes. -/
def SiteLine.bytes (e : SiteLine) : List Byte :=
  leBytes 2 (e.tile % 2048 + e.role * 2 ^ 14) ++ leBytes 2 (siteCode e.site) ++
    leBytes 2 (e.pc % 1024 + e.slot % 4 * 1024 + (if e.service then 4096 else 0)) ++
    [BitVec.ofNat 8 e.cause, BitVec.ofNat 8 e.detail] ++ leBytes 4 e.cycle ++ leBytes 2 (min e.recvStall 65535) ++
    leBytes 2 (min e.steerStall 65535)

/-- An entry for a site as it stands, without a fault of its own. -/
def State.siteLine (s : State) (i role cause : Nat) : SiteLine :=
  let a := s.site i
  { tile := a.gtile, role := role, site := i, pc := a.seq.pc, slot := a.seq.slot, service := a.service, cause := cause, detail := 0,
    cycle := 0, recvStall := a.seq.stalls, steerStall := a.seq.steerStalls }

/-- An entry for a fault that a site raised. -/
def State.faultLine (s : State) (i : Nat) (f : SiteFault) : SiteLine :=
  { s.siteLine i 0 f.cause.code with
    pc := f.pc, slot := f.slot, service := f.service, cycle := f.cycle, detail := if f.cause = .bankClash then f.detail else 0 }

/-- The entries in ascending tile order (R406). -/
def sortLines (l : List SiteLine) : List SiteLine := sortBy (fun a b => decide (a.tile ≤ b.tile)) l

/-- A FAULT record before it is laid out (Table 13.3). -/
structure FaultRec where
  cause : Nat
  mask : Nat
  scope : Nat
  quads : Nat
  flags : Nat
  ctx : Nat
  lines : List SiteLine
  gearing : Nat
  event : Nat
  ctxTurn : Nat
  suspect : Nat
  data : List Byte
  deriving DecidableEq, Repr

/-- Its body from byte 0x10. -/
def FaultRec.body (x : FaultRec) : List Byte :=
  leBytes 2 x.cause ++ leBytes 2 x.mask ++ [BitVec.ofNat 8 x.scope, BitVec.ofNat 8 x.quads, BitVec.ofNat 8 x.flags,
    BitVec.ofNat 8 x.ctx] ++ leBytes 2 x.lines.length ++ [BitVec.ofNat 8 x.gearing, 0] ++ leBytes 4 x.event ++
    leBytes 8 x.ctxTurn ++ leBytes 8 x.suspect ++ (x.data ++ List.replicate 16 0).take 16 ++
    ((sortLines x.lines).take 12).flatMap SiteLine.bytes

/-- UNITS of the record (R406). -/
def FaultRec.units (x : FaultRec) : Nat := 1 + ceilDiv (min x.lines.length 12) 4

/-- A mask of quadrants. -/
def quadMask (l : List Nat) : Nat := ((List.range 4).filter (fun q => l.contains q)).foldl (fun a q => a + 2 ^ q) 0

/-- The function and ring of a context's tailrace (R283). -/
def State.ctxRing (s : State) (c : Nat) : Nat × Nat := ((s.ctx c).owner, c + 1)

/-- A FAULT record on a context's tailrace (R309). -/
def State.faultCtx (s : State) (c : Nat) (x : FaultRec) : State := s.post (s.ctxRing c).1 (s.ctxRing c).2 3 x.units x.body

/-- The SEQ of the last record produced for a context's tailrace: the FAULT_SEQ of records that follow a FAULT record. -/
def State.lastSeq (s : State) (c : Nat) : Nat := (s.ring (s.ctxRing c).1 (s.ctxRing c).2).seq

/-- A new event number (EVENT_SEQ). -/
def State.newEvent (s : State) : State × Nat :=
  ({ s with check := { s.check with events := (s.check.events + 1) % idxMod } }, (s.check.events + 1) % idxMod)

/-- A fault record for a context with its usual fields. -/
def State.ctxFault (s : State) (c : Nat) (cause : Cause) (causes : List Cause) (flags : Nat) (lines : List SiteLine)
    (event suspect : Nat) (data : List Byte) : FaultRec :=
  let x := s.ctx c
  { cause := cause.code, mask := causeMask causes, scope := 0, quads := quadMask x.quads, flags := flags, ctx := c,
    lines := lines, gearing := x.gearing, event := event, ctxTurn := x.turn, suspect := suspect, data := data }

/-- SUSPECT_RANGE (type 4) or DAMAGED (type 5) records (R310): at most 28 entries each, all but the last with MORE. -/
def State.postRanges (s : State) (c type turn seq : Nat) : (fuel : Nat) → List (Nat × Nat) → State
  | 0, _ => s
  | _, [] => s
  | n + 1, e :: t =>
    let part := (e :: t).take 28
    let more := (e :: t).drop 28
    let body := leBytes 8 turn ++ leBytes 4 seq ++ [BitVec.ofNat 8 part.length, if more.isEmpty then 0 else 1, 0, 0] ++
      part.flatMap (fun p => leBytes 4 (p.1 % 2 ^ 24) ++ leBytes 4 p.2)
    State.postRanges (s.post (s.ctxRing c).1 (s.ctxRing c).2 type (1 + ceilDiv (part.length - 4) 8) body) c type turn seq n more

/-- SUSPECT_RANGE records for a context (R407): streams with a token vouched in `first` or later. -/
def State.suspectRanges (s : State) (c first : Nat) : State :=
  let l := ((s.ctx c).released.filter (fun e => first ≤ e.1)).foldl
    (fun acc e => if acc.any (fun a => a.1 == e.2.1) then acc else acc ++ [(e.2.1, e.2.2)]) ([] : List (Nat × Nat))
  s.postRanges c 4 first (s.lastSeq c) (l.length + 1) (sortBy (fun a b => decide (a.1 ≤ b.1)) l)

/-- DAMAGED records for a context (R310). -/
def State.damagedRecs (s : State) (c : Nat) (l : List (Nat × Nat)) : State :=
  s.postRanges c 5 s.turn.no (s.lastSeq c) (l.length + 1) l

/-! ### Change sets that end -/

/-- The result fields of CFG_STAGE and CFG_COMMIT (Table 10.10). -/
def cfgResult (key state turn : Nat) : List Byte := leBytes 2 key ++ [BitVec.ofNat 8 state, 0, 0, 0, 0, 0] ++ leBytes 8 turn

/-- Whether an outstanding command belongs to a host change set. -/
def isSetCmd (key : Nat) (x : Cmd) : Bool := (x.opc == 0x04 || x.opc == 0x05) && x.arg == key

/-- The pending flag falls when every context that runs has its target gearing or had its switch discarded; a thermal step is
pending until every context has applied it (R256). -/
def State.settleTargets (s : State) : State :=
  let l := allCtxs.filter (fun c => (s.ctx c).active && decide ((s.ctx c).target ≠ (s.ctx c).gearing))
  { s with reef := { s.reef with
      pending := s.reef.pending && l.any (fun c => !s.reef.dropped.contains c), thermalPending := s.reef.thermalPending && !l.isEmpty } }

/-- A switch of the governor discarded (R256, R259). -/
def State.dropSwitch (s : State) (c : Nat) : State :=
  ({ s with reef := { s.reef with switchDiscarded := bump16 s.reef.switchDiscarded 1, dropped := nins s.reef.dropped c } }).settleTargets

/-- A change set becomes DISCARDED (R38): its slot is free, its commands complete with a status, and the discard is
counted (Tables 1.14, 9.14). -/
def State.discardSet (s : State) (key : Nat) (st : Status) : State :=
  match alook s.sets key with
  | none => s
  | some _ =>
    let t := (s.finish (isSetCmd key) st (fun _ => []))
    let u := { t with sets := adel t.sets key }
    if key < 65536 then { u with turn := { u.turn with discarded := bump32 u.turn.discarded 1 } }
    else if key < 65552 then u.dropSwitch (key - 65536)
    else u

/-- A re-placement's change set staged again at once where it was discarded (R424). -/
def State.restage (s : State) (old : List (Nat × ChangeSet)) : State :=
  (old.filter (fun e => 65552 ≤ e.1 && (alook s.sets e.1).isNone)).foldl (fun u e =>
    { u with sets := aset u.sets e.1 { e.2 with state := .opened, held := false, lost := false, age := 0 } }) s

/-- The re-placements of quadrants that the brake covers are abandoned (R432); the sets of the others, which it discards too, are
staged again (R42, R424). -/
def State.abandonPlacements (s : State) (quads : List Nat) (old : List (Nat × ChangeSet)) : State :=
  ({ s with heal := { s.heal with replacing := s.heal.replacing.filter (fun r => !quads.contains r.quad) } } : State).restage
    (old.filter (fun e => !quads.contains (e.1 - 65552)))

/-- Every non-terminal change set discarded. -/
def State.discardAll (s : State) (st : Status) : State := s.sets.foldl (fun u e => u.discardSet e.1 st) s

/-- A reset of quadrants clears the shadow state of the units in its scope (R42): the sets that touch a context bound
there, or the quadrant itself, will end in STAGE_INCOMPLETE. -/
def State.loseShadow (s : State) (touches : Change → Bool) : State :=
  { s with sets := s.sets.map (fun e => if e.2.changes.any touches then (e.1, { e.2 with lost := true }) else e) }

/-- The context that a change touches. -/
def Change.ctxOf : Change → Option Nat
  | .remap c _ => some c
  | .reefRange c _ _ => some c
  | .vouch c _ => some c
  | .gearing c _ => some c
  | .audit _ _ => none
  | .geometry _ => none
  | .placement _ _ _ => none

/-! ### The brake (R311, R408) -/

/-- The BRAKE record's body (Table 10.15). -/
def brakeBody (chip : Bool) (quads cause seq last : Nat) : List Byte :=
  [if chip then 1 else 0, BitVec.ofNat 8 quads] ++ leBytes 2 cause ++ leBytes 4 seq ++ leBytes 8 last ++ List.replicate 32 0

/-- The rings in the scope of a brake. -/
def State.brakeRings (s : State) (chip : Bool) (quads : List Nat) : List (Nat × Nat) :=
  let all := s.functions.flatMap (fun f => allRings.map (fun r => (f, r)))
  all.filter (fun p =>
    decide ((s.ring p.1 p.2).state ≠ .disabled ∧ (s.ring p.1 p.2).state ≠ .braked) &&
    (chip || (if p.2 = 0 then p.1 == 0 || quads.any (fun q => p.1 == q + 1)
              else decide ((s.ctx (p.2 - 1)).owner = p.1) && (s.ctx (p.2 - 1)).quads.any (fun q => quads.contains q))))

/-- The rings that a brake stops: all in scope but the PF's management ring under a quadrant brake (R311). -/
def stopsRing (chip : Bool) (p : Nat × Nat) : Bool := chip || decide (p ≠ (0, 0))

/-- The records of a brake on one ring (R311): the FAULT record where the tailrace receives one, then the BRAKE record. -/
def State.brakeRing (s : State) (chip : Bool) (quads cause : Nat) (fault : Option FaultRec) (seqs : List ((Nat × Nat) × Nat))
    (p : Nat × Nat) : State :=
  let mgmt := decide (p.2 = 0)
  let s1 := match fault with
    | some x => if mgmt then s.post p.1 p.2 3 x.units x.body else s
    | none => s
  let seq := match fault with
    | some _ => if mgmt then (s1.ring p.1 p.2).seq else 0
    | none => match seqs.find? (fun e => e.1 == p) with
      | some e => e.2
      | none => 0
  let s2 := s1.modRing p.1 p.2 (fun r => r.add s.turn.no 6 1 (brakeBody chip quads cause seq r.lastOutput))
  let s3 := s2.flushRing p.1 p.2
  if stopsRing chip p then s3.modRing p.1 p.2 (fun r => { r with state := .braked, haltCause := 0 }) else s3

/-- The brake engages (R408, R311) at chip scope or on quadrants, for a cause, with the FAULT record of a fault that
concerns no context (R309), or with the FAULT records already written for contexts (`seqs`). DESIGN CHOICE (log 81): a CFG_STAGE or
CFG_COMMIT outstanding on a management ring that the brake does not stop, a VF's included, completes with BRAKED. -/
def State.brakeAt (s : State) (chip : Bool) (quads : List Nat) (cause : Nat) (fault : Option FaultRec)
    (seqs : List ((Nat × Nat) × Nat)) : State :=
  let braked := fun (c : Nat) => chip || (s.ctx c).quads.any (fun q => quads.contains q)
  let rings := s.brakeRings chip quads
  -- commands on stopped rings receive no completion; on the PF's management ring they complete with BRAKED
  let stopped := fun (x : Cmd) => rings.any (fun p => p == (x.fn, x.ring) && stopsRing chip p)
  let s1 := { s with cmds := s.cmds.filter (fun x => !stopped x) }
  let s2 := rings.foldl (fun u p => u.brakeRing chip (quadMask quads) cause fault seqs p) s1
  let s3 := ((s2.discardAll .braked).abandonPlacements quads s2.sets).finish (fun x => x.ring == 0 && x.opc != 0x03 && braked x.ctx && !(x.opc == 0x04 || x.opc == 0x05))
    .braked (fun _ => [])
  let s4 := allCtxs.foldl (fun u c => if braked c then u.modCtx c (fun x =>
    { x with ran := false, redo := false, diag := none, wait := none, outPackets := [] }) else u) s3
  let s5 := quads.foldl (fun u q => u.modQuad q (fun x =>
    { x with braked := true, replay := none, recState := if x.recState = .replay then .normal else x.recState })) s4
  let short := rings.any (fun p => (s5.ring p.1 p.2).held.any (fun x => x.type == 6))
  let off := if chip then s5.functions else quads.map (fun q => q + 1)
  let fns := (rings.map Prod.fst).foldl nins []
  let due : List (Nat × Nat) := fns.filterMap (fun f => (allRings.find? (fun r => rings.contains (f, r) && (s.ring f r).intEn)).map (fun r => (f, (s.ring f r).vector)))
  let told := { s5 with check := { s5.check with brakeMsgs := due.foldl (fun (l : List (Nat × Nat)) (e : Nat × Nat) => aset l e.1 e.2) s5.check.brakeMsgs } }
  let shown := fns.foldl (fun u f =>
    let v := u.showIndex f
    if (v.fn f).brakeWaits then v else v.brakeMessage f) told
  let s6 := if short then shown else off.foldl (fun u f => u.modFn f (fun x => { x with busMaster := false })) shown
  let asleep := quads.filter (fun q => chip || decide (q ≠ 0))
  let s7 := { s6 with
    mod := { s6.mod with brakeN := false }
    ddr := { s6.ddr with refresh := asleep.foldl nins s6.ddr.refresh }
    check := { s6.check with
      braking := if short then some 0 else s6.check.braking
      chipBraked := s6.check.chipBraked || chip
      brakeCause := if s6.check.brakeCause = 0 then cause else s6.check.brakeCause
      brakeTurn := if s6.check.brakeCause = 0 then s6.turn.no % 2 ^ 32 else s6.check.brakeTurn
      brakeChip := s6.check.brakeChip || chip
      brakeQuads := quads.foldl nins s6.check.brakeQuads } }
  s7.setDev (if chip then .braked else s7.mod.dev) (quads.foldl nins s7.mod.brakedQuads)

/-- Doubt in quadrants brakes them; in two or more, or in the last unbraked one, the chip (R408). -/
def State.brake (s : State) (quads : List Nat) (hub : Bool) (cause : Cause) (fault : Option FaultRec)
    (seqs : List ((Nat × Nat) × Nat)) : State :=
  let all := s.mod.order.quads
  let chip := hub || decide (2 ≤ (quads.foldl nins []).length) || all.all (fun q => (s.quad q).braked || quads.contains q)
  if s.check.chipBraked then s
  else s.brakeAt chip (if chip then all else quads.foldl nins []) cause.code
    (fault.map (fun x => { x with scope := if chip then 3 else 2 })) seqs

/-- A FAULT record that names no context (R309). -/
def State.plainFault (s : State) (cause : Cause) (quads : List Nat) (data : List Byte) : FaultRec :=
  { cause := cause.code, mask := 2 ^ cause.code, scope := 3, quads := quadMask quads, flags := 16, ctx := 255, lines := [],
    gearing := 0, event := s.check.events, ctxTurn := 0, suspect := 0, data := data }

end Sys2Proof.Machine
end

