-- ==== Sys2Proof/Machine/Streams.lean ====
section
/-! DEFINITION. Streams (R305, R306, R317 to R337): the entries and their cache, the end of a step, the commands of the
context rings that name a stream, batch filling and commit. -/

namespace Sys2Proof.Machine

/-- A FREE stream of generation 0 (R318). -/
def StreamEntry.free : StreamEntry :=
  { state := .free, ctx := 0, gen := 0, priv := false, hasLast := false, needInput := false, cancelled := false, indirect := false,
    adapter := 0, seed := 0, kvBase := 0, kvLimit := 0, kvLength := 0, lastToken := 0, pendingInput := 0, pendingNew := 0,
    stop := 0, tag := 0, inputAddr := 0, tokensOut := 0, damagedIndex := 0 }

/-- The entry of a stream. -/
def State.stream (s : State) (id : Nat) : StreamEntry := aget StreamEntry.free s.streams.table id

/-- The entry of a stream replaced; the change is to be written through (R322). -/
def State.setStream (s : State) (id : Nat) (e : StreamEntry) : State :=
  { s with streams := { s.streams with table := aset s.streams.table id e, dirty := nins s.streams.dirty id } }

/-- The entry of a stream changed. -/
def State.modStream (s : State) (id : Nat) (f : StreamEntry → StreamEntry) : State := s.setStream id (f (s.stream id))

/-- POSITION (Table 11.1). -/
def StreamEntry.position (e : StreamEntry) : Nat := e.kvLength + (if e.hasLast then 1 else 0)

/-- The codes of Table 10.12. -/
def StreamState.code : StreamState → Nat
  | .free => 0 | .idle => 1 | .active => 2 | .evicted => 3 | .damaged => 4

/-- The state of a code of Table 10.12. -/
def StreamState.ofCode : Nat → StreamState
  | 1 => .idle
  | 2 => .active
  | 3 => .evicted
  | 4 => .damaged
  | _ => .free

/-- FLAGS of an entry (Table 11.1). -/
def StreamEntry.flags (e : StreamEntry) : Nat :=
  [e.priv, e.hasLast, e.needInput, e.cancelled, e.indirect].foldr (fun b n => 2 * n + (if b then 1 else 0)) 0

/-- The 128 bytes of an entry (Table 11.1). -/
def StreamEntry.bytes (e : StreamEntry) : List Byte :=
  [BitVec.ofNat 8 e.state.code, BitVec.ofNat 8 e.ctx] ++ leBytes 2 e.gen ++ [BitVec.ofNat 8 e.flags, 0] ++ leBytes 2 e.adapter ++
    leBytes 8 e.seed.toNat ++ leBytes 8 e.kvBase ++ leBytes 4 e.kvLimit ++ leBytes 4 e.kvLength ++ leBytes 4 e.position ++
    leBytes 4 e.lastToken.toNat ++ leBytes 4 e.pendingInput ++ leBytes 4 e.pendingNew ++ leBytes 4 e.stop.toNat ++ leBytes 4 e.tag ++
    leBytes 8 e.inputAddr ++ leBytes 4 e.tokensOut ++ leBytes 4 e.damagedIndex ++ List.replicate 56 0

/-- The entry that 128 bytes hold (Table 11.1). -/
def StreamEntry.ofBytes (b : List Byte) : StreamEntry :=
  let flag := fun (n : Nat) => (leAt b 4 1).testBit n
  { state := StreamState.ofCode (leAt b 0 1), ctx := leAt b 1 1 % 16, gen := leAt b 2 2, priv := flag 0, hasLast := flag 1
    needInput := flag 2, cancelled := flag 3, indirect := flag 4, adapter := leAt b 6 2, seed := BitVec.ofNat 64 (leAt b 8 8)
    kvBase := leAt b 0x10 8, kvLimit := leAt b 0x18 4, kvLength := leAt b 0x1C 4, lastToken := BitVec.ofNat 32 (leAt b 0x24 4)
    pendingInput := leAt b 0x28 4, pendingNew := leAt b 0x2C 4, stop := BitVec.ofNat 32 (leAt b 0x30 4), tag := leAt b 0x34 4
    inputAddr := leAt b 0x38 8, tokensOut := leAt b 0x40 4, damagedIndex := leAt b 0x44 4 }

/-- Whether the stream table is unreachable: QD0's channels retrain (R446) or its modules are in self-refresh. -/
def State.tableAway (s : State) : Bool := decide ((s.quad 0).recState = .full) || s.ddr.refresh.contains 0

/-- The changed entry of a stream written through to its unit (R317, R322). -/
def State.writeEntry (s : State) (id : Nat) : State :=
  let t := { s with streams := { s.streams with dirty := ndel s.streams.dirty id } }
  t.ddrPut 0 (128 * id) (s.stream id).bytes false .streamTable

/-- Every changed entry written through in the close window (R322), deferred while the table is unreachable (R446). -/
def State.writeThrough (s : State) : State := if s.tableAway then s else s.streams.dirty.foldl (fun u id => u.writeEntry id) s

/-- A context's streams. -/
def State.streamsOf (s : State) (c : Nat) : List (Nat × StreamEntry) :=
  s.streams.table.filter (fun e => e.2.ctx == c && decide (e.2.state ≠ .free))

/-- A context's ACTIVE streams. -/
def State.activeOf (s : State) (c : Nat) : List Nat :=
  ((s.streamsOf c).filter (fun e => decide (e.2.state = .active))).map Prod.fst

/-! ### The cache (R320 to R322) -/

/-- Slots of the stream cache. -/
def cacheSlots : Nat := 65536

/-- An empty cache slot for a stream. -/
def CacheSlot.fresh (id stamp : Nat) : CacheSlot :=
  { stream := id, window := [], toRead := 0, reading := false, pinned := false, used := stamp }

/-- Whether a slot is pinned (R321): for its stream's step, or while the write of its entry is deferred (R446). -/
def State.slotPinned (s : State) (e : Nat × CacheSlot) : Bool := e.2.pinned || (s.tableAway && s.streams.dirty.contains e.1)

/-- The stream whose unpinned slot was used least recently. -/
def State.victim (s : State) : Option Nat :=
  ((s.streams.cache.filter (fun e => !s.slotPinned e)).foldl (fun (best : Option (Nat × Nat)) e =>
    match best with
    | none => some (e.1, e.2.used)
    | some b => if e.2.used < b.2 then some (e.1, e.2.used) else some b) none).map Prod.fst

/-- Whether every slot is pinned by other streams (R321). -/
def State.allPinned (s : State) (id : Nat) : Bool :=
  (alook s.streams.cache id).isNone && decide (cacheSlots ≤ (s.streams.cache.filter (fun e => s.slotPinned e)).length)

/-- The stream's entry held in a slot, where one can be had; its use is stamped. -/
def State.cacheIn (s : State) (id : Nat) : State :=
  let x := s.streams
  let stamp := x.stamp + 1
  let y : Streams := match alook x.cache id with
    | some c => { x with stamp := stamp, cache := aset x.cache id { c with used := stamp } }
    | none =>
      if x.cache.length < cacheSlots then { x with stamp := stamp, cache := aset x.cache id (CacheSlot.fresh id stamp) }
      else match s.victim with
        | some v => { x with stamp := stamp, cache := aset (adel x.cache v) id (CacheSlot.fresh id stamp) }
        | none => x
  { s with streams := y }

/-- The stream's slot. -/
def State.slot (s : State) (id : Nat) : CacheSlot := aget (CacheSlot.fresh id 0) s.streams.cache id

/-- The stream's slot changed, where it has one. -/
def State.modSlot (s : State) (id : Nat) (f : CacheSlot → CacheSlot) : State :=
  match alook s.streams.cache id with
  | some c => { s with streams := { s.streams with cache := aset s.streams.cache id (f c) } }
  | none => s

/-- An unpinned slot with an empty window (R321). -/
def CacheSlot.unpin (c : CacheSlot) : CacheSlot := { c with pinned := false, window := [], toRead := 0, reading := false }

/-! ### The end of a step (R305, R306) -/

/-- The result fields of a STREAM_STEP completion (Table 10.10). -/
def stepResult (reason : Nat) (e : StreamEntry) : List Byte :=
  [BitVec.ofNat 8 reason, 0, 0, 0] ++ leBytes 4 e.tokensOut ++ leBytes 4 e.position

/-- An entry whose step has ended. -/
def StreamEntry.ended (e : StreamEntry) (st : StreamState) : StreamEntry :=
  { e with state := st, cancelled := false, indirect := false, pendingInput := 0, pendingNew := 0, tokensOut := 0 }

/-- A stream leaves its context's rings, its filling and its pinned slot (R321, R325). -/
def State.release (s : State) (id : Nat) : State :=
  let c := (s.stream id).ctx
  (s.modSlot id CacheSlot.unpin).modCtx c (fun x => { x with
    privRing := ndel x.privRing id, bulkRing := ndel x.bulkRing id
    positions := x.positions.filter (fun p => p.stream != id) })

/-- The step of a stream ends (R305): STREAM_STEP completes with a status and REASON, a STREAM_CANCEL that waits with it
completes OK, and the stream goes to the state given. -/
def State.endStep (s : State) (id : Nat) (st : Status) (reason : Nat) (fin : StreamState) : State :=
  let e := s.stream id
  let res : List Byte := if st = .ok ∨ st = .poisoned ∨ st = .resetting then stepResult reason e else []
  let s1 := s.finish (fun x => x.opc == 0x21 && x.arg == id && x.ctx == e.ctx) st (fun _ => res)
  let s2 := s1.finish (fun x => x.opc == 0x22 && x.arg == id && x.ctx == e.ctx) .ok (fun _ => [])
  (s2.release id).modStream id (fun x => x.ended fin)

/-- Streams that poison has damaged (R332, R348, R405): a FAULT record with cause POISON and WITHHELD clear, the DAMAGED
records, then the end of their steps. `l` lists streams with their first damaged index in ascending order. -/
def State.damage (s : State) (c origin addr : Nat) (l : List (Nat × Nat)) : State :=
  match l with
  | [] => s
  | _ =>
    let e := s.newEvent
    let data : List Byte := [BitVec.ofNat 8 origin, 0, 0, 0] ++ leBytes 4 addr ++ leBytes 4 l.length
    let s1 := e.1.faultCtx c (e.1.ctxFault c .poison [.poison] 0 [] e.2 0 data)
    let s2 := s1.damagedRecs c l
    let s3 := { s2 with check := { s2.check with damaged := bump16 s2.check.damaged l.length } }
    l.foldl (fun u p => (u.endStep p.1 .poisoned 4 .damaged).modStream p.1 (fun x => { x with damagedIndex := p.2 })) s3

/-! ### Commands that name a stream -/

/-- Stream numbers (Table 10.9). -/
def streamMax : Nat := 16777216

/-- Whether an entry is at hand for a command: in its slot, or fetched for it. -/
def State.atHand (s : State) (id : Nat) : Bool := (alook s.streams.cache id).isSome || (alook s.streams.fetched id).isSome

/-- An entry rewritten after its fetch found an uncorrectable error (R323), with its FAULT and DAMAGED records. -/
def State.rewriteEntry (s : State) (c id : Nat) : State :=
  let v := s.setStream id { StreamEntry.free with state := .damaged, ctx := c, gen := 0xFFFF }
  let e := v.newEvent
  let data : List Byte := [7, 0, 0, 0] ++ leBytes 4 id ++ leBytes 4 1
  let w := (e.1.faultCtx c (e.1.ctxFault c .poison [.poison] 0 [] e.2 0 data)).damagedRecs c [(id, 0)]
  { w with check := { w.check with damaged := bump16 w.check.damaged 1 } }

/-- A stream's entry fetch that found an uncorrectable error (R323): the command completes with POISONED and the entry
is rewritten. -/
def State.spoilt (s : State) (h : CmdHead) (opc id : Nat) : State :=
  let t := (s.consume h.fn h.ring h.units h.units).complete (headRef h opc) .poisoned []
  ({ t with streams := { t.streams with fetched := adel t.streams.fetched id } }).rewriteEntry h.ctx id

/-- The state in which a record's own wait for its stream's entry is no obstacle to it. -/
def State.unwait (s : State) (h : CmdHead) (id : Nat) : State :=
  { s with streams := { s.streams with waits := s.streams.waits.filter (fun w => w != (id, h.fn, h.ring)) } }

/-- A command on a context ring that names a stream (R298, R299, R322, R516). Its record stays unread while the entry is
being fetched, and so do the records behind it in ring order. -/
def State.streamCommand (s : State) (h : CmdHead) (opc id : Nat) (gen : Option Nat) (bad : Bool) (cl : List CtxState)
    (sl : List StreamState) (run : State → State) : State :=
  let e := s.stream id
  let foreign := decide (e.state ≠ .free ∧ e.ctx ≠ h.ctx)
  let legal := cl.contains (s.ctx h.ctx).state && sl.contains e.state &&
    (match gen with
     | some g => g == e.gen
     | none => true)
  let go := fun (t : State) => t.command h opc .context true (bad || decide (streamMax ≤ id) || foreign) legal [] run
  let u := s.unwait h id
  if u.frame h.fn h.ring h.units h.readOk ≠ .read then
    (if s.streams.waits.contains (id, h.fn, h.ring) then s else go s)
  else if streamMax ≤ id then go s
  else if s.atHand id then
    if alook s.streams.fetched id = some true then u.spoilt h opc id
    else go ({ u with streams := { u.streams with fetched := adel u.streams.fetched id } }.cacheIn id)
  else if s.streams.fetching.contains id then { s with streams := { s.streams with waits := u.streams.waits ++ [(id, h.fn, h.ring)] } }
  else { s with streams := { s.streams with
    waits := u.streams.waits ++ [(id, h.fn, h.ring)], fetching := s.streams.fetching ++ [id], misses := bump32 s.streams.misses 1 } }

/-- The read of a stream's entry from its unit (R317, R344): the device state after it, and whether it is delivered poisoned. A
change of the entry that waits is written through first. -/
def State.entryRead (s : State) (id : Nat) (found : EccFind) : State × Bool :=
  let t := (if s.streams.dirty.contains id then s.writeEntry id else s).touchRetired 0 (128 * id) .streamTable
  let u := t.ddrFound 0 (128 * id) found .streamTable
  let e := StreamEntry.ofBytes (u.ddrBytes 0 (128 * id) 128)
  if (t.eccAt 0 (128 * id) found).lost then (u, true)
  else if e = u.stream id then (u, false)
  else ({ u with streams := { u.streams with table := aset u.streams.table id e } }, false)

/-- STREAM_ENTRY_FETCH_DONE (R322, R323): the fetch of an entry completes; while QD0 retrains the stream table is
unreachable (R446). -/
def execStreamEntryFetchDone (stream : Nat) (found : EccFind) (s : State) : Result3 :=
  .next (if s.streams.fetching.contains stream && !s.tableAway then
      let r := s.entryRead stream found
      { r.1 with streams := { r.1.streams with
          fetching := ndel r.1.streams.fetching stream, fetched := aset r.1.streams.fetched stream r.2 } }
    else s)

/-- Whether a stream's KV range fits every loaded gearing of its plan (R319); a context without a plan is in no state for the
command (R298). -/
def Ctx.kvFits (x : Ctx) (base limit : Nat) : Bool :=
  match x.plan with
  | none => true
  | some p => x.usable.all (fun g =>
      match p.batch g with
      | some b => decide (base + limit * b.kvPosBytes ≤ b.kvBytes)
      | none => false)

/-- Whether a context's plan may run privileged streams (FLAGS bit 0). -/
def Ctx.privileged (x : Ctx) : Bool :=
  match x.plan with
  | some p => p.hdr.flags % 2 == 1
  | none => false

/-- STREAM_OPEN (R302, R319): the stream is bound to the context with its generation plus 1 and NEED_INPUT set. A
suspect device admits none (R399). -/
def execStreamOpen (h : CmdHead) (id adapter priv : Nat) (seed : DWord) (kvBase kvLimit : Nat) (s : State) : Result3 :=
  let x := s.ctx h.ctx
  let bad := decide (1 < priv) || decide (kvBase % 4096 ≠ 0) || decide (kvLimit = 0) || !x.kvFits kvBase kvLimit ||
    (priv == 1 && x.plan.isSome && !x.privileged)
  .next (s.streamCommand h 0x20 id none bad [.loaded, .running, .paused] [.free] (fun t =>
    if t.check.suspect then t.complete (headRef h 0x20) .noResource []
    else
      let gen := ((t.stream id).gen + 1) % 65536
      (t.setStream id { StreamEntry.free with
        state := .idle, ctx := h.ctx, gen := gen, priv := priv == 1, needInput := true, adapter := adapter, seed := seed,
        kvBase := kvBase, kvLimit := kvLimit }).complete (headRef h 0x20) .ok (leBytes 2 gen)))

/-- TURNS_PER_STEP of a context (R296). -/
def Ctx.turnsPerStep (x : Ctx) : Nat :=
  match x.plan with
  | some p => 1 + p.body.stageSum.getD (x.reefMap.getD x.rangeMax 0) 0
  | none => 1

/-- The gearing descriptor in force. -/
def Ctx.gear (x : Ctx) : Option (Gearing × BatchDecl) :=
  match x.plan with
  | some p => (p.batch x.gearing).map (fun b => (p.gear x.gearing, b))
  | none => none

/-! ### Batch filling (R325 to R330) -/

/-- The positions that a stream would take with `free` positions left (R326, R327): each with its token, whether it is a
host input, and SAMPLE. -/
def State.wants (s : State) (x : Ctx) (id span free : Nat) : List (Word × Bool × Bool) :=
  let e := s.stream id
  if e.state ≠ .active ∨ e.cancelled ∨ x.positions.any (fun p => p.stream == id) then []
  else
    let sl := s.slot id
    let known : List (Word × Bool) := (if e.hasLast then [(e.lastToken, false)] else []) ++ sl.window.map (fun w => (w, true))
    let n := min (min span free) (min known.length (e.kvLimit - e.kvLength))
    (List.range n).map (fun k =>
      let t := known.getD k (0, false)
      (t.1, t.2, decide (k + 1 = known.length ∧ sl.toRead = 0 ∧ 0 < e.pendingNew)))

/-- A batch descriptor (Table 11.4). -/
def descriptorBytes (id : Nat) (e : StreamEntry) (p : Position) (first : Bool) : List Byte :=
  leBytes 4 (id + (if e.priv then 2 ^ 24 else 0) + (if p.sample then 2 ^ 25 else 0) + (if p.input then 2 ^ 26 else 0) +
      (if first then 2 ^ 27 else 0)) ++
    leBytes 2 e.gen ++ leBytes 2 e.adapter ++ leBytes 8 e.seed.toNat ++ leBytes 4 p.index ++ leBytes 4 p.token.toNat ++
    leBytes 4 (e.kvBase / 4096) ++ leBytes 4 0

/-- Bytes written by the intake engine into the descriptor region of every receiving tile (R329). A 64-byte unit is
written whole, which clears its poison mark. -/
def State.writeRx (s : State) (c off : Nat) (bs : List Byte) : State :=
  let x := s.ctx c
  match x.plan, x.gear with
  | some p, some (_, b) =>
    b.rx.foldl (fun u g =>
      match u.siteOfTile x g with
      | none => u
      | some i => u.modSite i (fun a =>
          let ad := p.hdr.batchOffset + off
          { a with scr := (a.scr.write ad bs).mark (ad / 64) false })) s
  | _, _ => s

/-- A stream placed in a context's filling (R327, R328), where it takes a position: it moves to the tail of its ring. -/
def State.place (s : State) (c id : Nat) : State :=
  let x := s.ctx c
  match x.filling, x.gear with
  | some f, some (g, b) =>
    let e := s.stream id
    let w := s.wants x id b.inputSpan (g.batch - f.priv - f.bulk)
    if w.isEmpty then s
    else
      let n := w.length
      let start := if e.priv then f.priv else g.batch - f.bulk - n
      let ps := (List.range n).map (fun k =>
        let t := w.getD k (0, false, false)
        ({ pos := start + k, stream := id, index := e.kvLength + k, token := t.1, input := t.2.1, sample := t.2.2,
           filled := x.turn } : Position))
      let s1 := s.modCtx c (fun y => { y with
        positions := y.positions ++ ps
        filling := some { f with priv := if e.priv then f.priv + n else f.priv, bulk := if e.priv then f.bulk else f.bulk + n }
        privRing := if e.priv then ndel y.privRing id ++ [id] else y.privRing
        bulkRing := if e.priv then y.bulkRing else ndel y.bulkRing id ++ [id] })
      (List.range n).foldl (fun u k =>
        match ps[k]? with
        | some p => u.writeRx c (64 + 32 * p.pos) (descriptorBytes id e p (k == 0))
        | none => u) s1
  | _, _ => s

/-- Whether a context's intake fills positions in this turn (R325, R292, R333, Table 9.3): it admits a batch, its
tailrace is not full, no HOT hold covers it, and the turn is no re-execution. -/
def State.fills (s : State) (c : Nat) : Bool :=
  let x := s.ctx c
  let hot := s.reef.hot.getD 8 false || x.quads.any (fun q => s.reef.hot.getD (2 * q) false || s.reef.hot.getD (2 * q + 1) false)
  match x.gear with
  | none => false
  | some (g, _) => x.active && !x.redo && decide (x.turn % max g.interval 1 = 0) && !hot &&
      decide ((s.ring x.owner (c + 1)).state ≠ .full) && !(s.fn x.owner).d3hot

/-- A STREAM_STEP that missed the filling of its turn is counted (R329). -/
def State.lateFill (s : State) : State := { s with streams := { s.streams with lateFills := bump16 s.streams.lateFills 1 } }

/-- STREAM_STEP (R305, R321, R329): the stream becomes ACTIVE in a pinned slot and joins the tail of its ring; where its
context's filling is open and the intake has not passed cycle 2,032 it is placed. -/
def execStreamStep (h : CmdHead) (id gen flags inputCount newTokens : Nat) (stop : Word) (inputAddr : Nat) (inputs : List Word)
    (s : State) : Result3 :=
  let indirect := flags % 2 == 1
  let bad := decide (1 < flags) || decide (inputCount = 0 ∧ newTokens = 0) ||
    (if indirect then decide (0 < inputCount) &&
        !(s.inPlanMemory inputAddr (4 * inputCount) && decide (0 < s.trainedChannels (inputAddr / 2 ^ 43)))
     else decide (16 * h.units < inputCount + 10))
  .next (s.streamCommand h 0x21 id (some gen) bad [.running, .paused] [.idle] (fun t =>
    let e := t.stream id
    let x := t.ctx h.ctx
    if e.kvLength = e.kvLimit then
      t.complete (headRef h 0x21) .ok (stepResult 3 { e with tokensOut := 0 })
    else if e.needInput ∧ inputCount = 0 then t.complete (headRef h 0x21) .badCommand []
    else if t.allPinned id then
      let u := t.complete (headRef h 0x21) .noResource []
      { u with streams := { u.streams with refused := bump16 u.streams.refused 1 } }
    else
      let u := (t.accept h 0x21 id (64 * x.turnsPerStep * max 1 (newTokens + inputCount))).setStream id { e with
        state := .active, indirect := indirect, pendingInput := inputCount, pendingNew := newTokens, stop := stop, tag := h.tag,
        inputAddr := inputAddr, tokensOut := 0 }
      let v := (u.cacheIn id).modSlot id (fun c => { c with
        pinned := true, window := if indirect then [] else inputs.take (min inputCount 64)
        toRead := if indirect then inputCount else 0, reading := indirect && decide (0 < inputCount) })
      let w := v.modCtx h.ctx (fun y => if e.priv then { y with privRing := ndel y.privRing id ++ [id] }
        else { y with bulkRing := ndel y.bulkRing id ++ [id] })
      let o := if s.streams.overdue.contains (id, h.fn, h.ring) then w.lateFill else w
      match (w.ctx h.ctx).filling with
      | some f =>
        if f.open_ ∧ t.turn.cycle ≤ 2032 then (if w.fills h.ctx then o.place h.ctx id else o) else w.lateFill
      | none => if w.fills h.ctx ∧ t.turn.cycle > 2032 then w.lateFill else o))

/-- A stream out of the filling of the turn (R306). DESIGN CHOICE (log 85): the positions that it took there stay written, and
belong to no stream. -/
def Ctx.unfill (x : Ctx) (id : Nat) : Ctx :=
  if x.filling.isSome then { x with positions := x.positions.filter (fun p => !(p.stream == id && p.filled == x.turn)) } else x

/-- STREAM_CANCEL (R306): the stream takes no position in this turn or later; without an uncommitted one its step ends at
once. -/
def execStreamCancel (h : CmdHead) (id gen : Nat) (s : State) : Result3 :=
  .next (s.streamCommand h 0x22 id (some gen) false [.running, .paused, .draining] [.active] (fun t =>
    let u := ((t.accept h 0x22 id 4096).modStream id (fun e => { e with cancelled := true })).modCtx h.ctx (fun x => x.unfill id)
    if (u.ctx h.ctx).positions.any (fun p => p.stream == id) then u else u.endStep id .ok 2 .idle))

/-- STREAM_TRUNCATE (R335). -/
def execStreamTruncate (h : CmdHead) (id gen position : Nat) (s : State) : Result3 :=
  .next (s.streamCommand h 0x23 id (some gen) false [.loaded, .running, .paused] [.idle] (fun t =>
    let e := t.stream id
    if e.position < position then t.complete (headRef h 0x23) .badCommand []
    else (t.setStream id { e with kvLength := position, hasLast := false, needInput := true }).complete (headRef h 0x23) .ok
      (List.replicate 8 0 ++ leBytes 4 position)))

/-- STREAM_EVICT (R336): the slot is released and the entry written EVICTED. -/
def execStreamEvict (h : CmdHead) (id gen : Nat) (s : State) : Result3 :=
  .next (s.streamCommand h 0x24 id (some gen) false [.loaded, .running, .paused] [.idle] (fun t =>
    let u := (t.accept h 0x24 id 4096).modStream id (fun e => { e with state := .evicted })
    { u with streams := { u.streams with cache := adel u.streams.cache id } }))

/-- STREAM_EVICT_DONE (R336): the entry is written out; STREAM_EVICT completes. While QD0 retrains, write-through is
deferred (R446). -/
def execStreamEvictDone (stream : Nat) (s : State) : Result3 :=
  .next (if s.tableAway || !s.cmds.any (fun x => x.opc == 0x24 && x.arg == stream) then s
    else (s.writeEntry stream).finish (fun x => x.opc == 0x24 && x.arg == stream) .ok (fun _ => []))

/-- STREAM_RESTORE (R337): the fetch of the entry begins, and is counted (R322). -/
def execStreamRestore (h : CmdHead) (id gen : Nat) (s : State) : Result3 :=
  let e := s.stream id
  .next (s.command h 0x25 .context true (decide (streamMax ≤ id) || decide (e.state ≠ .free ∧ e.ctx ≠ h.ctx))
    ([CtxState.loaded, .running, .paused].contains (s.ctx h.ctx).state && decide (e.state = .evicted) && gen == e.gen) []
    (fun t =>
      let u := t.accept h 0x25 id 4096
      { u with streams := { u.streams with misses := bump32 u.streams.misses 1 } }))

/-- STREAM_RESTORE_DONE (R337, R323): the entry is back, IDLE; an uncorrectable entry completes POISONED and reads
DAMAGED. A stream closed in the meantime is EVICTED no more and stays as it is (R307; log 86). -/
def execStreamRestoreDone (stream : Nat) (found : EccFind) (s : State) : Result3 :=
  let done := fun (t : State) (st : Status) => t.finish (fun y => y.opc == 0x25 && y.arg == stream) st (fun _ => [])
  .next (match s.cmds.find? (fun x => x.opc == 0x25 && x.arg == stream) with
    | none => s
    | some x =>
      if s.tableAway then s
      else if (s.stream stream).state ≠ .evicted then done s .ok
      else
        let r := s.entryRead stream found
        if r.2 then (done r.1 .poisoned).rewriteEntry x.ctx stream
        else ((done r.1 .ok).modStream stream (fun e => { e with state := .idle })).cacheIn stream)

/-- STREAM_CLOSE (R318): every field but GEN is zeroed. -/
def execStreamClose (h : CmdHead) (id gen : Nat) (s : State) : Result3 :=
  .next (s.streamCommand h 0x26 id (some gen) false [.loaded, .running, .paused, .draining, .faulted, .quarantined]
    [.idle, .evicted, .damaged] (fun t =>
      (t.setStream id { StreamEntry.free with gen := (t.stream id).gen }).complete (headRef h 0x26) .ok []))

/-- STREAM_QUERY (R301). -/
def execStreamQuery (h : CmdHead) (id : Nat) (s : State) : Result3 :=
  .next (s.streamCommand h 0x27 id none false [.loading, .loaded, .running, .paused, .draining, .faulted, .quarantined]
    [.free, .idle, .active, .evicted, .damaged] (fun t =>
      let e := t.stream id
      t.complete (headRef h 0x27) .ok ([BitVec.ofNat 8 e.state.code, if e.priv then 1 else 0] ++ leBytes 2 e.gen ++
        leBytes 4 e.position ++ leBytes 4 e.kvLength ++ leBytes 4 e.pendingNew)))

/-- Whether a context runs plan code in the turn under way (R34, R68, R303, R375, R376, R398, R440): RUNNING or DRAINING,
in no wait or hold turn, on no braked or resetting quadrant, not in a step turn, and locked where its plan spans
devices. -/
def State.runs (s : State) (c : Nat) : Bool :=
  let x := s.ctx c
  x.active && !x.held && x.wait.isNone && x.diag.isNone && !x.restoring && !s.turn.stepTurn && !s.check.chipBraked &&
    !s.ctxBraked c && !s.ctxResetting c &&
    (match x.plan with
     | some p => s.turn.locked || decide (p.hdr.devices ≤ 1)
     | none => false)

/-- BATCH_FILL (R325, R328, R329): from intake cycle 64 the streams of the rings as they stood at the boundary take
positions, privileged ones from the front, bulk ones from the back, and then those that have become ACTIVE since. DESIGN
CHOICE (log 89): of the latter the privileged ones first. -/
def execBatchFill (ctx : Nat) (s : State) : Result3 :=
  let x := s.ctx ctx
  .next (if s.turn.window = .intake ∧ s.turn.running ∧ x.filling = none ∧ s.runs ctx ∧ s.fills ctx then
      let t := s.modCtx ctx (fun y => { y with
        filling := some { priv := 0, bulk := 0, gearing := x.gearing, open_ := true, written := false } })
      let new := (x.privRing ++ x.bulkRing).filter (fun id => !x.privSnap.contains id && !x.bulkSnap.contains id)
      (x.privSnap ++ x.bulkSnap ++ new).foldl (fun u id => u.place ctx id) t
    else s)

/-- BATCH_HEADER_WRITE (R329, R330): in intake cycle 2,047 the header unit is written and the filling closes. -/
def execBatchHeaderWrite (ctx : Nat) (s : State) : Result3 :=
  let x := s.ctx ctx
  .next (match x.filling, x.gear with
    | some f, some (g, _) =>
      if f.open_ ∧ s.turn.window = .intake then
        (s.writeRx ctx 0 (leBytes 2 f.priv ++ leBytes 2 f.bulk ++ leBytes 2 g.batch ++ [BitVec.ofNat 8 f.gearing] ++
          List.replicate 57 0)).modCtx ctx (fun y => { y with filling := some { f with open_ := false, written := true } })
      else s
    | _, _ => s)

/-- INPUT_WINDOW_READ_DONE (R329, R348): one 128-byte read of an INDIRECT input enters the window; poison makes the
stream DAMAGED. -/
def execInputWindowReadDone (stream : Nat) (found : EccFind) (s : State) : Result3 :=
  let e := s.stream stream
  let sl := s.slot stream
  .next (if e.state ≠ .active ∨ sl.reading = false then s
    else
      let q := e.inputAddr / 2 ^ 43
      let l := e.inputAddr % 2 ^ 43
      let t := (s.touchRetired q l .intake).ddrFound q l found .intake
      if (s.eccAt q l found).lost then t.damage e.ctx 6 stream [(stream, e.position)]
      else
        let n := min (min sl.toRead ((128 - l % 128 + 3) / 4)) (64 - sl.window.length)
        let new := (List.range n).map (fun i => BitVec.ofNat 32 (leNat (t.ddrBytes q (l + 4 * i) 4)))
        (t.modStream stream (fun x => { x with inputAddr := x.inputAddr + 4 * n })).modSlot stream (fun c => { c with
          window := c.window ++ new, toRead := c.toRead - n
          reading := decide (0 < c.toRead - n ∧ c.window.length + n ≤ 32) }))

/-! ### Commit (R332) -/

/-- A BATCH_OUT entry (Table 11.5): the token, TOKEN_VALID, and whether its word is poisoned. -/
def State.batchOut (s : State) (x : Ctx) (b : BatchDecl) (pos : Nat) : Word × Bool × Bool :=
  match s.siteOfTile x b.outTile with
  | none => (0, false, false)
  | some i =>
    let m := (s.site i).scr
    let ad := b.outOffset + 8 * pos
    (BitVec.ofNat 32 (leNat (m.read ad 4)), leNat (m.read (ad + 4) 4) % 2 == 1, m.poison64 ad)

/-- One position committed: the entry's lengths and tokens. -/
def StreamEntry.commit (e : StreamEntry) (p : Position) (token : Word) : StreamEntry :=
  let e1 := { e with
    kvLength := p.index + 1, pendingInput := if p.input then e.pendingInput - 1 else e.pendingInput
    hasLast := if p.input then e.hasLast else false, needInput := if p.input then false else e.needInput }
  if p.sample then { e1 with lastToken := token, hasLast := true, pendingNew := e1.pendingNew - 1, tokensOut := e1.tokensOut + 1 }
  else e1

/-- How a stream's step ends after a commit (R332, R306, R304): its REASON, if it ends. -/
def StreamEntry.ends (e : StreamEntry) (token : Option Word) (cancelAll : Bool) : Option Nat :=
  if token = some e.stop ∧ e.stop ≠ BitVec.allOnes 32 then some 1
  else if e.pendingNew = 0 ∧ e.pendingInput = 0 then some 0
  else if e.cancelled ∨ cancelAll then some 2
  else if e.kvLength = e.kvLimit then some 3
  else none

/-- The TOKENS record of one token (Table 10.13). -/
def tokensBody (id : Nat) (e : StreamEntry) (last : Bool) (token : Word) : List Byte :=
  leBytes 4 id ++ leBytes 2 e.gen ++ [1, if last then 1 else 0] ++ leBytes 4 e.kvLength ++ leBytes 4 e.tag ++
    leBytes 4 token.toNat ++ List.replicate 28 0

/-- A position that commits: the entry is updated, a generated token goes out in a TOKENS record, and the step may end. -/
def State.commitOne (s : State) (c : Nat) (b : BatchDecl) (p : Position) : State :=
  let o := s.batchOut (s.ctx c) b p.pos
  let e0 := s.stream p.stream
  let s0 := s.modCtx c (fun x => { x with positions := x.positions.erase p })
  if e0.state ≠ .active then s0
  else if p.sample ∧ o.2.1 = false then
    if e0.cancelled ∨ (s.ctx c).cancelDrain then s0.endStep p.stream .ok 2 .idle else s0
  else
    let e := e0.commit p o.1
    let tok := if p.sample then some o.1 else none
    let more := (s0.ctx c).positions.any (fun r => r.stream == p.stream)
    let fin := if more then (if tok = some e.stop ∧ e.stop ≠ BitVec.allOnes 32 then some 1 else none)
      else e.ends tok (s.ctx c).cancelDrain
    let s1 := (s0.setStream p.stream e).modSlot p.stream (fun k =>
      if p.input then { k with window := k.window.drop 1, reading := decide (0 < k.toRead ∧ k.window.length ≤ 33) } else k)
    let s2 := match tok with
      | some w =>
        let t := s1.post (s1.ctxRing c).1 (s1.ctxRing c).2 2 1 (tokensBody p.stream e fin.isSome w)
        t.modCtx c (fun x => { x with released := x.released ++ [(t.turn.no, p.stream, e.kvLength)] })
      | none => s1
    match fin with
    | some r => s2.endStep p.stream .ok r .idle
    | none => s2

/-- The commit of a vouched turn of a context (R326, R332): the positions filled RETURN_TURNS − 1 turns before, in
ascending order; those with a poisoned BATCH_OUT word make their streams DAMAGED first. -/
def State.commit (s : State) (c : Nat) : State :=
  let x := s.ctx c
  match x.gear with
  | none => s
  | some (_, b) =>
    let due := sortBy (fun a d => decide (a.pos ≤ d.pos)) (x.positions.filter (fun p => p.filled + b.returnTurns == x.turn + 1))
    let bad := due.filter (fun p => (s.batchOut x b p.pos).2.2)
    let firsts := bad.foldl (fun acc p => if acc.any (fun a => a.1 == p.stream) then acc else acc ++ [(p.stream, p.index)])
      ([] : List (Nat × Nat))
    let s1 := match bad with
      | [] => s
      | p :: _ => s.damage c 5 p.pos (sortBy (fun a d => decide (a.1 ≤ d.1)) firsts)
    let s2 := (due.filter (fun p => !bad.any (fun r => r.stream == p.stream))).foldl (fun u p => u.commitOne c b p) s1
    if (s2.ctx c).cancelDrain then (s2.activeOf c).foldl (fun u id => u.endStep id .ok 2 .idle) s2 else s2

end Sys2Proof.Machine
end

