-- ==== Sys2Proof/Machine/PlanChecks.lean ====
section
/-! DEFINITION. A plan image read from DDR (R78 to R81), and the checks of PLAN_LOAD (Table 2.5). -/

namespace Sys2Proof

open Sys2Proof.Machine

/-! ### The image -/

/-- A gearing descriptor (Table 2.7). -/
def parseGearing (b : List Byte) : Gearing :=
  { activeTiles := leAt b 0 2, batch := leAt b 2 2, stageTurns := leAt b 4 1, interval := leAt b 5 1, crossings := leAt b 6 1,
    bankMask := BitVec.ofNat 32 (leAt b 8 4), eFull := leAt b 12 4, eIdle := leAt b 16 4, ddrUnits := leAt b 20 4,
    avdinBytes := leAt b 24 4, workCycles := leAt b 28 4, sectionMask := leAt b 32 4 }

/-- A plan header (Table 2.6). -/
def parseHeader (b : List Byte) : PlanHeader :=
  { imageId := leAt b 0 4, major := leAt b 4 2, minor := leAt b 6 2, bytes := leAt b 8 8, units := leAt b 16 4,
    quads := leAt b 20 1, gearings := leAt b 21 1, devices := leAt b 22 2, stage := leAt b 24 2, tiles := leAt b 26 2,
    mMin := leAt b 28 2, mMax := leAt b 30 2, closeMin := leAt b 32 4, flags := leAt b 36 4,
    reefMap := (List.range 4).map (fun r => leAt b (40 + r) 1), gearPeriod := leAt b 44 4, batchOffset := leAt b 48 4,
    sections := leAt b 52 4, sectionOff := leAt b 56 8, shape := bytesFrom b 64 64, digest := bytesFrom b 128 64,
    descs := (List.range (leAt b 21 1)).map (fun g => parseGearing (bytesFrom b (192 + 64 * g) 64)) }

/-- A section table entry (R80). -/
def parseSection (b : List Byte) : Section :=
  { type := leAt b 0 4, quadMask := leAt b 4 1, offset := leAt b 8 8, bytes := leAt b 16 8, digest := bytesFrom b 24 8 }

/-- A weight manifest entry (R81). -/
def parseEntry (b : List Byte) : ManifestEntry :=
  { offset := leAt b 0 8, bytes := leAt b 8 8, fmt := leAt b 16 4, digest := bytesFrom b 32 64 }

/-- Whether every byte of a part is 0. -/
def zeros (b : List Byte) (i n : Nat) : Bool := (bytesFrom b i n).all (fun x => x == 0)

/-- Whether a used gearing descriptor lies in its ranges (R78). -/
def gearingOk (b : List Byte) : Bool :=
  decide (1 ≤ leAt b 0 2 ∧ 1 ≤ leAt b 2 2 ∧ leAt b 2 2 ≤ 1024 ∧ 1 ≤ leAt b 4 1 ∧ 1 ≤ leAt b 5 1) && zeros b 7 1 && zeros b 36 28

/-- Whether the header's fields lie in their ranges and its reserved fields are 0 (R78). DESIGN CHOICE (log 78): no range is
stated for the bytes of REEF_MAP, and one that names no descriptor of the plan names a gearing that is not loaded (R77). -/
def headerOk (b : List Byte) : Bool :=
  let h := parseHeader b
  decide (h.imageId = 0x4758504C ∧ 512 ≤ h.bytes ∧ h.units < 8 ∧ 1 ≤ h.quads ∧ h.quads ≤ 4 ∧ 1 ≤ h.gearings ∧ h.gearings ≤ 4 ∧
    1 ≤ h.devices ∧ 1 ≤ h.tiles ∧ h.tiles ≤ 512 ∧ 64 ≤ h.mMin ∧ h.mMax ≤ 1024 ∧ h.mMin ≤ h.mMax ∧ h.flags < 4 ∧
    1 ≤ h.gearPeriod ∧ h.gearPeriod ≤ 8 ∧ h.sectionOff + 32 * h.sections ≤ h.bytes) &&
  zeros b 0x1C0 64 &&
  (List.range 4).all (fun g =>
    let d := bytesFrom b (192 + 64 * g) 64
    if g < h.gearings then gearingOk d else zeros d 0 64)

/-- The device DDR bytes of an image. -/
def Machine.State.image (s : State) (addr n : Nat) : List Byte := s.ddrBytes (addr / 2 ^ 43) (addr % 2 ^ 43) n

/-- The section table of an image. -/
def sectionsOf (img : List Byte) (h : PlanHeader) : List Section :=
  (List.range h.sections).map (fun i => parseSection (bytesFrom img (h.sectionOff + 32 * i) 32))

/-- Whether the sections lie in the image on 4 KiB boundaries and have types that the device knows (R80). DESIGN CHOICE (log 79):
an OFFSET off a 4 KiB boundary fails check 1, in a section that the device ignores too. -/
def sectionsOk (h : PlanHeader) (l : List Section) : Bool :=
  l.all (fun x => decide (x.offset % 4096 = 0 ∧ x.offset + x.bytes ≤ h.bytes) &&
    decide (1 ≤ x.type ∧ x.type ≤ 7 ∨ 2 ^ 31 ≤ x.type))

/-- Bytes `i` to `i + n − 1` of a list replaced by zeros. -/
def blank (l : List Byte) (i n : Nat) : List Byte := l.take i ++ List.replicate (min n (l.length - i)) 0 ++ l.drop (i + n)

/-- IMAGE_DIGEST of an image (Table 2.6): SHA3-512 with the digest field and any OWNER_SIG section taken as zero. -/
def imageDigest (img : List Byte) (l : List Section) : List Byte :=
  sha3_512 ((l.filter (fun x => x.type == 7)).foldl (fun b x => blank b x.offset x.bytes) (blank img 0x80 64))

/-- Check 1's first part (R76): the image lies in installed plan memory and reads without poison. -/
def Machine.State.imageReadable (s : State) (addr : Nat) : Bool :=
  let q := addr / 2 ^ 43
  let l := addr % 2 ^ 43
  s.inPlanMemory addr 512 && !s.rangePoison q l 512 &&
    (let n := leAt (s.image addr 512) 8 8
     s.inPlanMemory addr (max n 512) && !s.rangePoison q l n)

/-- Check 2: the owner's signature (R485, R489). -/
def Machine.State.ownerSigned (s : State) (img : List Byte) (h : PlanHeader) (l : List Section) : Bool :=
  if s.sec.ownerDestroyed || s.sec.rmaUnlocked then false
  else match s.sec.owner with
  | none => true
  | some d =>
    match l.find? (fun x => x.type == 7) with
    | none => false
    | some x =>
      let key := bytesFrom img x.offset 2592
      let sig := bytesFrom img (x.offset + 2592) 4627
      decide (2592 + 4627 ≤ x.bytes) && sha3_512 key == d &&
        Config.mldsaOk key ("WELWALD-PLAN".toList.map (fun c => BitVec.ofNat 8 c.toNat)) h.digest sig

/-! ### Check 6 -/

/-- The bank mask of every gearing. -/
def Machine.PlanHeader.masks (h : PlanHeader) : List (BitVec 32) := h.descs.map (fun g => g.bankMask)

/-- Whether a scratchpad range lies in banks set in every mask. -/
def powered (masks : List (BitVec 32)) (base n : Nat) : Bool :=
  masks.all (fun m => (List.range (ceilDiv (base % 32768 + n) 32768)).all (fun i => m.toNat.testBit (base / 32768 + i)))

/-- Whether two ranges overlap. -/
def overlaps (a n b k : Nat) : Bool := decide (a < b + k ∧ b < a + n ∧ 0 < n ∧ 0 < k)

/-- Whether each item of a list keeps clear of the later ones. -/
def allApart : List (Nat × Nat) → Bool
  | [] => true
  | x :: t => t.all (fun y => !overlaps x.1 x.2 y.1 y.2) && allApart t

/-- A tile's ponds (R228), sluices (R237), descriptor table and fold images as ranges. -/
def PlanBody.fixedRanges (b : PlanBody) (t : PlanTile) : List (Nat × Nat) :=
  (t.ponds.map (fun p => (p.base, 64 * p.units))) ++
    ((b.sluices.filter (fun x => x.planQuad * 512 + x.owner == t.tile)).map (fun x => (x.base, x.bytes))) ++
    [(t.descBase, 8192)] ++ t.folds

/-- Ponds and sluices of a tile (R228, R237). -/
def PlanBody.rangesOk (b : PlanBody) (masks : List (BitVec 32)) (t : PlanTile) : Bool :=
  let regions := (b.regions.filter (fun r => r.tile == some t.tile)).map (fun r => (r.base, r.bytes))
  allApart (b.fixedRanges t) &&
  t.ponds.all (fun p => p.units == 0 || (decide (p.base % 64 = 0 ∧ p.units ≤ 4096 ∧ p.base + 64 * p.units ≤ 0x100000) &&
    powered masks p.base (64 * p.units) && regions.all (fun r => !overlaps p.base (64 * p.units) r.1 r.2) &&
    (List.range (ceilDiv (p.base % 32768 + 64 * p.units) 32768)).all (fun i =>
      t.allImages.all (fun e => ownerIn e.2.own (p.base / 32768 + i) == ownRemote) &&
      !t.handed.contains (p.base / 32768 + i)))) &&
  -- the descriptor table (R143)
  (let bank := t.descBase / 32768
   t.allImages.all (fun e => ownerIn e.2.own bank == ownWide) && !t.handed.contains bank &&
     masks.all (fun m => m.toNat.testBit bank))

/-- The sluice declarations (R237). -/
def PlanBody.sluicesOk (b : PlanBody) : Bool :=
  b.sluices.all (fun x =>
    decide (x.base % 64 = 0 ∧ x.bytes % 64 = 0 ∧ 64 ≤ x.bytes ∧ x.base + x.bytes ≤ 0x100000 ∧ x.no < 256) &&
    (x.cls == .parity || (x.cls == .turnLocal && x.sources / 4 % 2 == 0)) &&
    decide ((b.sluices.filter (fun y => y.planQuad == x.planQuad && y.no == x.no)).length = 1))

/-- The scratchpad ranges of a tile that are IMMUTABLE: its regions of that class, its descriptor table (R143) and its fold
images (R200). -/
def PlanBody.immutable (b : PlanBody) (t : PlanTile) : List (Nat × Nat) :=
  ((b.regions.filter (fun x => x.tile == some t.tile && x.cls == some .immutable)).map (fun x => (x.base, x.bytes))) ++
    (t.descBase, 8192) :: t.folds

/-- Whether a descriptor's entry breaks none of the load checks (R67, R144, R237). FAR_REGION of a SLUICE_WRITE names a sluice;
of every other OP it names a region of BANK_MAP. An entry of zeros describes no transfer. -/
def PlanBody.descOk (b : PlanBody) (t : PlanTile) (d : DmaDesc) : Bool :=
  let mine := t.tile / 512
  if d.op = 3 then
    let kind := d.dest / 2 ^ 30
    let tile := d.dest % 2048
    let pq := tile / 512
    (kind == 2 ||
      (b.tiles.any (fun x => x.tile == tile) && (if kind = 0 then pq == mine else kind == 1 && pq != mine) &&
        (match b.sluices.find? (fun x => x.planQuad == pq && x.no == d.farRegion % 256) with
         | some x => decide (d.farEnd d.farBase ≤ x.bytes)
         | none => false)))
  else if d == decodeDesc (List.replicate 32 0) then true
  else
    (match b.regions[d.farRegion]? with
     | none => true
     | some r => r.cls != some .stream && !(d.op == 2 && r.cls == some .immutable)) &&
    (d.op != 1 || (b.immutable t).all (fun x => !overlaps d.scratch d.total x.1 x.2))

/-- The descriptor table's entries of a tile. -/
def PlanTile.descs (t : PlanTile) : List DmaDesc := (List.range 256).map (fun i => decodeDesc (t.memory.read (t.descBase + 32 * i) 32))

/-- The batch declarations (R324). -/
def PlanBody.batchOk (b : PlanBody) (h : PlanHeader) : Bool :=
  decide (b.batches.length = h.gearings) &&
  (List.range h.gearings).all (fun g =>
    match b.batches[g]? with
    | none => false
    | some x =>
      let n := (h.descs.getD g (parseGearing [])).batch
      let clear := fun (tile base bytes : Nat) => powered h.masks base bytes && decide (base + bytes ≤ 0x100000) &&
        b.tiles.all (fun t => t.tile != tile || (b.fixedRanges t).all (fun r => !overlaps base bytes r.1 r.2))
      decide (1 ≤ x.inputSpan ∧ x.inputSpan ≤ 64) && x.rx.all (fun t => clear t h.batchOffset (64 + 32 * n)) &&
        clear x.outTile x.outOffset (8 * n)) &&
  b.regions.all (fun r => !(r.use == .batchOut || r.use == .twinOut) || r.cls == some .turnLocal || r.cls == some .parity)

/-- The pair map (R403). -/
def PlanBody.pairsOk (b : PlanBody) : Bool :=
  (List.range 4).all (fun g =>
    let l := b.pairs.filter (fun d => d.gearing == g)
    decide ((l.map (fun d => d.primary) ++ l.map (fun d => d.twin)).Nodup))

/-- The DDR regions of a plan in a quadrant (R342). -/
def Machine.State.regionsFit (s : State) (b : PlanBody) (home q : Nat) : Bool :=
  b.regions.all (fun r => r.tile.isSome ||
    (let l := home % 2 ^ 43 + r.base
     decide (planMemoryBase q ≤ l ∧ l + r.bytes ≤ s.ddr.capacity q)))

/-- Check 6 of Table 2.5. -/
def Machine.State.check6 (s : State) (h : PlanHeader) (secs : List Section) (m : List ManifestEntry) (b : PlanBody) (home : Nat)
    (quads : List Nat) : Bool :=
  let names : Nat → Names := fun tile =>
    { tiles := b.tiles.map (fun t => t.tile)
      groups := match b.tiles.find? (fun t => t.tile == tile) with
                | some t => t.groups.map (fun d => d.no)
                | none => [] }
  let picks := fun (type g : Nat) => (List.range secs.length).filter (fun i =>
    (secs.getD i (parseSection [])).type == type && (h.descs.getD g (parseGearing [])).sectionMask.testBit i)
  -- reduction shapes (R70), and shared programs and steering (R260)
  b.shapes.all (fun d => d == h.shape) && decide (b.shapes.length = h.gearings) &&
  (List.range h.gearings).all (fun g => picks 1 g == picks 1 0 && picks 5 g == picks 5 0) &&
  -- classes and descriptors (R67), and the targets of work-window releases (R62)
  b.regions.all (fun r => r.cls.isSome) && b.tiles.all (fun t => t.descs.all (fun d => b.descOk t d)) &&
  (decide (h.flags / 2 % 2 = 0) || b.workTargets.all (fun c => c == .parity)) &&
  -- route volumes (R53) in bytes and units per 48 cycles
  b.links.all (fun v => decide (v ≤ 48 * 48)) && b.tileRates.all (fun v => decide (v ≤ 48)) &&
  -- gear points (R71)
  h.descs.all (fun g => decide (h.gearPeriod % max g.stageTurns 1 = 0)) &&
  -- MX4 content (R5)
  (decide (h.units % 2 = 1) || (m.all (fun e => e.fmt != 6) && b.tiles.all (fun t => !t.usesMx4))) &&
  -- programs, ranges, batches, pairs, DDR regions
  b.tiles.all (fun t => t.programOk (names t.tile) h.masks && b.rangesOk h.masks t) && b.sluicesOk && b.batchOk h &&
  b.pairsOk && quads.all (fun q => s.regionsFit b home q)

/-! ### Checks 5, 7, 8 and 9 -/

/-- Fenced sites of a quadrant, F_q (R400). -/
def Machine.State.fenced (s : State) (q : Nat) : Nat :=
  (s.sites.filter (fun e => e.1 / Config.sitesPerQuad == q && decide (e.2.role = .fenced))).length

/-- LOGICAL_AVAILABLE (R425). -/
def Machine.State.logicalAvailable (s : State) (q : Nat) : Nat := min 512 (576 - s.fenced q)

/-- The logical tiles of QD`q` that contexts claim. -/
def Machine.State.claimed (s : State) (q : Nat) : List Nat :=
  allCtxs.flatMap (fun c =>
    let x := s.ctx c
    match x.plan with
    | none => []
    | some p => (p.body.tiles.filter (fun t => x.quads[t.tile / 512]? == some q)).map (fun t => t.tile % 512))

/-- Sluice table entries of a quadrant. -/
def sluiceEntries : Nat := 256

/-- The sluice table entries of QD`q` that loaded plans, and plans under load, hold (R237). -/
def Machine.State.sluicesTaken (s : State) (q : Nat) : Nat :=
  (allCtxs.map (fun c =>
    let x := s.ctx c
    match x.plan with
    | some p => (p.body.sluices.filter (fun d => x.quads[d.planQuad]? == some q)).length
    | none => 0)).sum

/-- Whether QD`q` is available to plan quadrant `pq` of a plan (check 5): unbraked, DRESSED for a privileged plan (R456), within
the router limit (R426), with its tiles unclaimed and available and room for its sluices (R237). -/
def Machine.State.available (s : State) (q pq : Nat) (h : PlanHeader) (b : PlanBody) : Bool :=
  let x := s.quad q
  let tiles := ((b.tiles.filter (fun t => t.tile / 512 == pq)).map (fun t => t.tile % 512)).foldl nins []
  let need := (b.sluices.filter (fun d => d.planQuad == pq)).length
  s.mod.order.quads.contains q && !x.braked && (h.flags % 2 == 0 || x.dressed) && !x.routerLimit &&
    tiles.all (fun t => !(s.claimed q).contains t) &&
    decide ((s.claimed q).length + h.tiles ≤ s.logicalAvailable q ∧ s.sluicesTaken q + need ≤ sluiceEntries)

/-- The quadrants that a plan binds to, plan quadrants in ascending physical order: the lowest-numbered available ones within
the mask (R50, R302); none where too few are. A VF binds only its own. -/
def Machine.State.bind (s : State) (fn mask : Nat) (h : PlanHeader) (b : PlanBody) : Option (List Nat) :=
  let l := [0, 1, 2, 3].foldl (fun (l : List Nat) q =>
    if decide (l.length < h.quads) && (mask == 0 || mask.testBit q) && (fn == 0 || q + 1 == fn) && s.available q l.length h b
    then l ++ [q] else l) []
  if l.length < h.quads then none else some l

/-- Whether gearing `g` of a header fits the geometry and the bound quadrants (checks 7 and 8). -/
def Machine.State.gearFits (s : State) (geo : Geometry) (h : PlanHeader) (quads : List Nat) (g : Nat) : Bool :=
  match h.descs[g]? with
  | none => false
  | some d =>
    decide (h.mMin ≤ geo.m ∧ geo.m ≤ h.mMax ∧ d.workCycles ≤ geo.work ∧ h.closeMin ≤ geo.close ∧
      d.avdinBytes ≤ geo.portCloseBytes) &&
    quads.all (fun q => decide (d.ddrUnits ≤ s.trainedChannels q * s.ddr.mts * geo.m * 8 / 125))

/-- The gearings loaded (R76). -/
def Machine.State.loadable (s : State) (geo : Geometry) (h : PlanHeader) (quads : List Nat) : List Nat :=
  (List.range h.gearings).filter (fun g => s.gearFits geo h quads g)

/-- REEF_MAP rewritten (R77): level `r` takes its own gearing where loaded, else the nearest higher level's, else the
nearest lower level's. -/
def rewriteMap (map usable : List Nat) : Option (List Nat) :=
  if usable.isEmpty then none
  else
    let at_ := fun (r : Nat) => map.getD r 0
    let pick := fun (r : Nat) =>
      let order := r :: ((List.range 4).filter (fun k => r < k) ++ ((List.range 4).filter (fun k => k < r)).reverse)
      order.find? (fun k => usable.contains (at_ k))
    if (List.range 4).all (fun r => (pick r).isSome) then
      some ((List.range 4).map (fun r => match pick r with
        | some k => at_ k
        | none => 0))
    else none

end Sys2Proof
end

