-- ==== Sys2Proof/Machine/Contexts.lean ====
section
/-! DEFINITION. Contexts (R63, R283, R302 to R304, R441, R442, R447): a loaded plan in its sites and sluice entries, and
the commands PLAN_LOAD to CTX_DRAIN. -/

namespace Sys2Proof

open Sys2Proof.Machine

/-! ### A plan in its sites -/

/-- A slot image as a configuration slot. -/
def SlotImage.cfg (im : SlotImage) : CfgSlot :=
  { bundles := im.bundles, own := im.own, steer := im.steer, undef := none, readyAt := 0 }

/-- A tile's hoppers, empty, with the ponds that BANK_MAP gives them (R228). -/
def PlanTile.hoppers (t : PlanTile) : List (Nat × Hopper) :=
  t.ponds.foldl (fun l p => aset l p.hop { Hopper.empty with pondBase := p.base, pondUnits := p.units }) []

/-- A site that holds tile `t` of context `c` as PLAN_LOAD or a restore leaves it (R87, R302, R447): slot images,
initial scratchpad images and ponds loaded, everything else cleared, every bank powered. -/
def PlanTile.load (t : PlanTile) (c : Nat) (a : Site) : Site :=
  { Site.cleared 0 with
    role := a.role, service := a.service, ltile := a.ltile, ctx := some c, gtile := t.tile, descBase := t.descBase
    slots := t.slots.map (fun e => (e.1, e.2.cfg))
    bank := { own := 0, old := 0, from_ := 0, mask := BitVec.allOnes 32, draining := [], rising := [] }
    scr := t.memory
    ex := { Exchange.cleared with h := t.hoppers, xferNo := a.ex.xferNo } }

/-- The turn-start slot images of a site restored (R134). -/
def PlanTile.restoreSlots (t : PlanTile) (a : Site) : Site := { a with slots := t.slots.map (fun e => (e.1, e.2.cfg)), reload := none }

namespace Machine

/-- Every tile of context `c` changed on the site that holds it. -/
def State.eachTile (s : State) (c : Nat) (f : PlanTile → Site → Site) : State :=
  match (s.ctx c).plan with
  | none => s
  | some p => p.body.tiles.foldl (fun u t =>
      match u.siteOfTile (u.ctx c) t.tile with
      | some i => u.modSite i (f t)
      | none => u) s

/-- The plan of a context loaded into its sites. -/
def State.placePlan (s : State) (c : Nat) : State := s.eachTile c (fun t a => t.load c a)

/-- A site that holds no tile of any context. -/
def Site.vacate (a : Site) : Site :=
  { Site.cleared 0 with role := a.role, service := a.service, ltile := a.ltile, ex := { Exchange.cleared with xferNo := a.ex.xferNo } }

/-! ### Sluice entries (R237, R238) -/

/-- The lowest free index of a quadrant's sluice table. -/
def Quad.freeSluice (x : Quad) : Option Nat := (List.range sluiceEntries).find? (fun i => (alook x.sluices i).isNone)

/-- One declared sluice armed (R238). -/
def State.armOne (s : State) (c : Nat) (d : SluiceDecl) : State :=
  let x := s.ctx c
  match x.quads[d.planQuad]? with
  | none => s
  | some q =>
    match (s.quad q).freeSluice with
    | none => s
    | some i => s.modQuad q (fun z => { z with sluices := aset z.sluices i {
        ctx := c, ctxGen := x.gen, quadGen := z.gen, sources := d.sources, srcPos := x.prevPos, pipeline := x.pipeline,
        planQuad := d.planQuad, owner := d.owner, no := d.no, bytes := d.bytes, base := d.base, admitted := 0,
        nackClosed := 0, nackViolation := 0, nackBankOff := 0 } })

/-- Every sluice of a context's plan armed. -/
def State.arm (s : State) (c : Nat) : State :=
  match (s.ctx c).plan with
  | none => s
  | some p => p.body.sluices.foldl (fun u d => u.armOne c d) s

/-- A context's entries FREE (R238, R297). -/
def State.disarm (s : State) (c : Nat) : State :=
  { s with quads := s.quads.map (fun e => (e.1, { e.2 with sluices := e.2.sluices.filter (fun z => z.2.ctx != c) })) }

/-- An entry freed by a change of generation and armed anew (R238): it counts from its arming (Table 8.10). -/
def SluiceEntry.anew (e : SluiceEntry) (ctxGen quadGen : Nat) : SluiceEntry :=
  { e with ctxGen := ctxGen, quadGen := quadGen, admitted := 0, nackClosed := 0, nackViolation := 0, nackBankOff := 0 }

/-- A context's entries freed by its new generation and armed again at the same index (R238, R440, R447). -/
def State.rearm (s : State) (c : Nat) : State :=
  { s with quads := s.quads.map (fun e => (e.1, { e.2 with sluices := e.2.sluices.map (fun z =>
      if z.2.ctx = c then (z.1, z.2.anew (s.ctx c).gen e.2.gen) else z) })) }

/-- The sluices of a context's plan that have no entry armed, as when a quadrant's table is rebuilt (R446). -/
def State.armMissing (s : State) (c : Nat) : State :=
  match (s.ctx c).plan with
  | none => s
  | some p =>
    (p.body.sluices.filter (fun d => !(match (s.ctx c).quads[d.planQuad]? with
      | some q => (s.quad q).sluices.any (fun e => e.2.ctx == c && e.2.planQuad == d.planQuad && e.2.no == d.no)
      | none => true))).foldl (fun u d => u.armOne c d) s

/-! ### The gearing of a context -/

/-- The target gearing at device level `l` (R250). -/
def Ctx.target_ (x : Ctx) (l : Nat) : Nat := x.reefMap.getD (max x.rangeMin (min l x.rangeMax)) 0

/-- BANK_MASK of a gearing put in force on a site (R98, R266, R268, R269): a bank that goes OFF drains its admitted
writes and else loses its content; one that comes on is cleared. -/
def Site.gearBanks (a : Site) (mask : BitVec 32) : Site × Nat :=
  let off := (List.range 32).filter (fun b => a.bank.mask.toNat.testBit b && !mask.toNat.testBit b)
  let on_ := (List.range 32).filter (fun b => !a.bank.mask.toNat.testBit b && mask.toNat.testBit b)
  let waits := off.filter (fun b => a.ex.writes.any (fun w => w.addr / 32768 == b))
  let gone := fun (ad : Nat) => on_.contains (ad / 32768) || (off.contains (ad / 32768) && !waits.contains (ad / 32768))
  ({ a with
      scr := a.scr.clearWhere gone
      bank := { a.bank with mask := mask, draining := waits, rising := on_ } }, waits.length)

/-- A gearing in force on every site of a context (R258, R260); a power-down that waits is counted (R268). -/
def State.setGear (s : State) (c g : Nat) : State :=
  match (s.ctx c).plan with
  | none => s
  | some p =>
    let t := (s.ctxSites c).foldl (fun u i =>
      let r := (u.site i).gearBanks (p.gear g).bankMask
      let v := u.setSite i r.1
      { v with reef := { v.reef with drainWaits := bump32 v.reef.drainWaits r.2 } }) s
    t.modCtx c (fun x => { x with gearing := g })

/-! ### PLAN_LOAD (R76, R302) -/

/-- What passing every check gives. -/
structure Loaded where
  hdr : PlanHeader
  manifest : List ManifestEntry
  quads : List Nat
  usable : List Nat
  map : List Nat
  deriving DecidableEq, Repr

/-- The outcome of the checks of Table 2.5: the first that fails with its status, or what the plan is loaded as. -/
inductive LoadVerdict where
  | fails (check : Nat) (st : Status)
  | loads (l : Loaded)
  deriving DecidableEq, Repr

/-- The weight manifest of an image (R81). -/
def manifestOf (img : List Byte) (secs : List Section) : List ManifestEntry :=
  (secs.filter (fun x => x.type == 4)).flatMap (fun x =>
    (List.range (x.bytes / 96)).map (fun i => parseEntry (bytesFrom img (x.offset + 96 * i) 96)))

/-- The checks of Table 2.5 on an image that reads without poison from installed plan memory, in their order, and the
refusal of a plan of several quadrants on a VF (R302). -/
def State.loadVerdict (s : State) (fn image home mask : Nat) (body : PlanBody) : LoadVerdict :=
  let head := s.image image 512
  let h := parseHeader head
  let img := s.image image h.bytes
  let secs := sectionsOf img h
  let man := manifestOf img secs
  if !headerOk head || !sectionsOk h secs || imageDigest img secs != h.digest then .fails 1 .badCommand
  else if fn ≠ 0 ∧ 1 < h.quads then .fails 0 .badCommand
  else if !s.ownerSigned img h secs then .fails 2 .badCommand
  else if h.major ≠ 1 ∨ h.minor ≠ 0 then .fails 3 .badCommand
  else if h.units &&& s.mod.order.units ≠ h.units ∨ (1 < h.devices ∧ s.mod.order.ports = []) then .fails 4 .missingUnit
  else match s.bind fn mask h body with
  | none => .fails 5 .noResource
  | some quads =>
    if !s.check6 h secs man body home quads then .fails 6 .badCommand
    else
      let usable := s.loadable s.turn.geom h quads
      match rewriteMap h.reefMap usable with
      | none => .fails 9 .noResource
      | some map => .loads { hdr := h, manifest := man, quads := quads, usable := usable, map := map }

/-- A mask of gearings. -/
def gearMask (l : List Nat) : Nat := quadMask l

/-- The result fields of PLAN_LOAD (Table 10.10). -/
def loadResult (x : Ctx) (failed : Nat) : List Byte :=
  if failed = 0 then
    [BitVec.ofNat 8 (gearMask x.usable), BitVec.ofNat 8 (quadMask x.quads), 0, 0] ++ x.reefMap.map (BitVec.ofNat 8)
  else [0, 0, BitVec.ofNat 8 failed, 0, 0, 0, 0, 0]

/-- A context EMPTY again; its owner, generation and the last CTX_TURN stay. -/
def Ctx.emptied (x : Ctx) : Ctx := { Ctx.reset with owner := x.owner, gen := x.gen, turn := x.turn, aborting := x.aborting }

/-- The context's plan is loaded (R76): CTX_TURN starts at 0 (R63). -/
def Ctx.finishLoad (x : Ctx) : Ctx := { x with state := .loaded, load := none, turn := 0 }

/-- The crossings that the STAGE_TABLEs of a plan declare, by plan quadrant and sluice: the same in every gearing (R265). -/
def crossKeys (l : List CrossingDecl) : List (Nat × Nat) :=
  l.foldl (fun acc d => if acc.contains (d.planQuad, d.sluice) then acc else acc ++ [(d.planQuad, d.sluice)]) []

/-- A plan's resources taken by a context that is LOADING (R50, R76, R442): a new generation, its tiles and quadrants. -/
def Ctx.take (x : Ctx) (l : Loaded) (body : PlanBody) (home pipeline prevPos turn : Nat) (w : LoadWork) : Ctx :=
  { Ctx.reset with
    state := .loading, owner := x.owner, gen := (x.gen + 1) % 256, turn := x.turn
    plan := some { hdr := l.hdr, manifest := l.manifest, body := body }
    quads := l.quads, home := home, pipeline := pipeline, prevPos := prevPos, usable := l.usable, reefMap := l.map
    loadTurn := turn, load := some w, aborting := x.aborting
    crossIn := (crossKeys body.crossings).map (fun k => { planQuad := k.1, sluice := k.2, next := 0, map0 := [], map1 := [] }) }

/-- PLAN_LOAD (R76, R302): an image outside installed plan memory or with poison fails check 1 at once; otherwise the
context is LOADING, with the resources of a plan that passes its checks. -/
def execPlanLoad (h : CmdHead) (image home quads pipeline prevPos : Nat) (body : PlanBody) (s : State) : Result3 :=
  let bad := decide (16 ≤ quads) || decide (4096 ≤ pipeline) || decide (2 ^ 18 ≤ prevPos) ||
    (decide (h.fn ≠ 0) && decide (quads ≠ 0) && !quads.testBit (h.fn - 1))
  .next (s.command h 0x01 .management true bad (decide ((s.ctx h.ctx).state = .empty)) [] (fun t =>
    if !t.imageReadable image then t.complete (headRef h 0x01) .badCommand (loadResult Ctx.reset 1)
    else
      let u := t.accept h 0x01 0 4096
      match t.loadVerdict h.fn image home quads body with
      | .fails n st => u.modCtx h.ctx (fun x => { x.emptied with
          state := .loading, load := some { fn := h.fn, ring := h.ring, tag := h.tag, failed := n, status := st.code } })
      | .loads l =>
        let v := u.modCtx h.ctx (fun x => x.take l body home pipeline prevPos t.turn.no
          { fn := h.fn, ring := h.ring, tag := h.tag, failed := 0, status := 0 })
        l.quads.foldl (fun w q => w.modQuad q (fun z => { z with
          privHosted := z.privHosted || l.hdr.flags % 2 == 1
          load := { z.load with valid := false, result := 0, kind := 2, round := 0, incomplete := 0, fenced := 0, bad := []
                                seq := (z.load.seq + 1) % 65536 } })) v))

/-- The status that a failed load completes with. -/
def loadStatus (code : Nat) : Status :=
  if code = 1 then .badCommand else if code = 8 then .missingUnit else if code = 5 then .resetting
  else if code = 11 then .timeout else .noResource

/-- A LOADING context whose load ends without a plan: its resources go and its state is EMPTY. -/
def State.dropLoad (s : State) (c : Nat) : State := (s.disarm c).modCtx c Ctx.emptied

/-- PLAN_LOAD_DONE (R76, R302, R452): the load of a LOADING context is done: it is LOADED with its sluices armed, or
EMPTY where a check failed. A load whose incomplete sites have yet to be replaced at a boundary goes on. -/
def execPlanLoadDone (ctx : Nat) (s : State) : Result3 :=
  let x := s.ctx ctx
  .next (match x.load with
    | none => s
    | some w =>
      if x.state ≠ .loading || x.quads.any (fun q => decide ((s.quad q).load.kind = 2 ∧ (s.quad q).load.bad ≠ [])) then s
      else if w.status ≠ 0 then
        (s.finish (isCmd 0x01 ctx) (loadStatus w.status) (fun _ => loadResult x w.failed)).dropLoad ctx
      else
        let t := ((s.placePlan ctx).arm ctx).modCtx ctx Ctx.finishLoad
        let u := x.quads.foldl (fun v q => v.modQuad q (fun z => { z with load := { z.load with valid := true, result := 1 } })) t
        u.finish (isCmd 0x01 ctx) .ok (fun _ => loadResult x 0))

/-! ### PLAN_UNLOAD and CTX_ABORT -/

/-- Commands that an abort or unload of a context ends (R303): all but its own, change sets and queries. -/
def endsWith (c own : Nat) (x : Cmd) : Bool := x.ctx == c && x.opc != own && !(x.opc == 0x04 || x.opc == 0x05)

/-- A replay round that a context leaves (R453): a suspect under replay ends its turns, and the round goes on. -/
def Replay.leave (r : Replay) (c : Nat) : Replay :=
  { r with suspects := ndel r.suspects c, guilty := ndel r.guilty c
           todo := r.todo.take 1 ++ ndel (r.todo.drop 1) c, left := if r.todo.head? = some c then 0 else r.left }

/-- A context's plan code and outputs stopped (R442): sites, DMA queues, ponds and requests, fillings, crossings under
way, its parts in diagnoses, watches and replays. -/
def State.stopCtx (s : State) (c : Nat) : State :=
  let t := (s.ctxSites c).foldl (fun u i => u.modSite i (fun a => { a with
    seq := { Sequencer.cleared with epoch := a.seq.epoch }, faults := [], judged := []
    ex := { a.ex with dmaq := [], xfers := [], tq := [], skids := [], pad := [], writes := [], answers := [], injUnits := 0
                      h := a.ex.h.map (fun e => (e.1, { Hopper.empty with pondBase := e.2.pondBase, pondUnits := e.2.pondUnits })) } })) s
  let u := t.modCtx c (fun x => { x with
    trans := none, cancelDrain := false, ran := false, redo := false, wait := none, held := false, diag := none, positions := []
    filling := none, privRing := [], bulkRing := [], privSnap := [], bulkSnap := [], outPackets := [], causes := [], late := false
    lateTried := false })
  { u with
    check := { u.check with watches := u.check.watches.filter (fun w => w.ctx != c) }
    quads := u.quads.map (fun e => (e.1, { e.2 with
      replay := e.2.replay.map (fun r => r.leave c) })) }

/-- A context's ACTIVE streams become IDLE, their steps completing with a status and REASON 5 (R303). -/
def State.endSteps (s : State) (c : Nat) (st : Status) : State :=
  (s.activeOf c).foldl (fun u id => u.endStep id st 5 .idle) s

/-- A context abort begins (R303, R441, R442, R447): everything of the context stops, its generation increments, its
sluice entries are armed again, shadow state on its units is lost, and its other commands end with RESETTING. -/
def State.abortCtx (s : State) (c : Nat) (fin : CtxState) : State :=
  let x := s.ctx c
  let a := (s.endSteps c .resetting).finish (endsWith c 0x07) .resetting (fun y =>
    if y.opc = 0x01 then loadResult Ctx.reset 0 else [])
  let b := (a.stopCtx c).modCtx c (fun y => { y with state := fin, gen := (y.gen + 1) % 256, aborting := true, unloading := false, load := none })
  let d := (b.rearm c).loseShadow (fun ch => ch.ctxOf == some c)
  x.quads.foldl (fun u q => u.modQuad q (fun z => { z with ctxAborts := bump16 z.ctxAborts 1 })) d

/-- PLAN_UNLOAD (R297, R303): the plan's resources are to be freed. -/
def execPlanUnload (h : CmdHead) (s : State) : Result3 :=
  let x := s.ctx h.ctx
  .next (s.command h 0x02 .management true false
    ([CtxState.loaded, .faulted, .quarantined].contains x.state && !x.unloading) [] (fun t =>
      (t.accept h 0x02 0 4096).modCtx h.ctx (fun y => { y with unloading := true, trans := none })))

/-- A context's plan gone (R297, R303): streams FREE, sluice entries FREE, sites and DDR regions free, state EMPTY; its
other commands end with RESETTING. -/
def State.unload (s : State) (c : Nat) : State :=
  let a := (s.endSteps c .resetting).finish (endsWith c 0x02) .resetting (fun _ => [])
  let b := (a.stopCtx c).disarm c
  let d := (b.ctxSites c).foldl (fun u i => u.modSite i Site.vacate) b
  let e := (d.streamsOf c).foldl (fun u p =>
    let v := u.setStream p.1 { StreamEntry.free with gen := p.2.gen }
    { v with streams := { v.streams with cache := adel v.streams.cache p.1 } }) d
  (e.loseShadow (fun ch => ch.ctxOf == some c)).modCtx c Ctx.emptied

/-- PLAN_UNLOAD_DONE (R303). -/
def execPlanUnloadDone (ctx : Nat) (s : State) : Result3 :=
  .next (if (s.ctx ctx).unloading then (s.unload ctx).finish (isCmd 0x02 ctx) .ok (fun _ => []) else s)

/-- CTX_ABORT (R303, R442): from LOADING the context is EMPTY, otherwise LOADED, from the moment the command is read. -/
def execCtxAbort (h : CmdHead) (s : State) : Result3 :=
  let x := s.ctx h.ctx
  .next (s.command h 0x07 .management true false
    ([CtxState.loading, .running, .paused, .draining, .faulted].contains x.state) [] (fun t =>
      let u := t.accept h 0x07 0 4096
      if x.state = .loading then
        ((u.finish (endsWith h.ctx 0x07) .resetting (fun _ => [])).dropLoad h.ctx).modCtx h.ctx (fun y =>
          { y with gen := (y.gen + 1) % 256, aborting := true })
      else u.abortCtx h.ctx .loaded))

/-- CTX_ABORT_DONE (R442, R447): the aborted context's sites hold its loaded image again, and CTX_ABORT completes. -/
def execCtxAbortDone (ctx : Nat) (s : State) : Result3 :=
  .next (if (s.ctx ctx).aborting then
      let t := if (s.ctx ctx).state = .loading then s else s.placePlan ctx
      (t.modCtx ctx (fun y => { y with aborting := false })).finish (isCmd 0x07 ctx) .ok (fun _ => [])
    else s)

/-! ### CTX_ASSIGN, CTX_QUERY and the transitions -/

/-- CTX_ASSIGN (R283). -/
def execCtxAssign (h : CmdHead) (function : Nat) (s : State) : Result3 :=
  let x := s.ctx h.ctx
  .next (s.command h 0x03 .pfManagement true (!s.functions.contains function)
    (decide (x.state = .empty) && decide ((s.ring x.owner (h.ctx + 1)).state = .disabled)) [] (fun t =>
      (t.modCtx h.ctx (fun y => { y with owner := function })).complete (headRef h 0x03) .ok []))

/-- The codes of Table 10.11. -/
def CtxState.code : CtxState → Nat
  | .empty => 0 | .loading => 1 | .loaded => 2 | .running => 3 | .paused => 4 | .draining => 5 | .faulted => 6
  | .quarantined => 7

/-- CTX_QUERY (R301, Table 10.10). -/
def execCtxQuery (h : CmdHead) (s : State) : Result3 :=
  .next (s.command h 0x08 .management true false true [] (fun t =>
    let x := t.ctx h.ctx
    let idle := ((t.streamsOf h.ctx).filter (fun e => decide (e.2.state = .idle))).length
    t.complete (headRef h 0x08) .ok
      ([BitVec.ofNat 8 x.state.code, BitVec.ofNat 8 x.gearing, BitVec.ofNat 8 x.owner, 0, 0, 0, 0, 0] ++ leBytes 8 x.turn ++
        leBytes 4 (t.activeOf h.ctx).length ++ leBytes 4 idle ++ leBytes 4 (gearMask x.usable) ++
        (List.range 4).map (fun r => BitVec.ofNat 8 (x.reefMap.getD r 0)))))

/-- Whether a tile of the context has lost its site and no re-placement is under way (R425). -/
def State.lacksSite (s : State) (c : Nat) : Bool :=
  (s.ctxSites c).any (fun i => decide ((s.site i).role = .fenced) && !s.heal.replacing.any (fun r => r.old == i))

/-- CTX_START (R303): it takes effect at the next boundary. -/
def execCtxStart (h : CmdHead) (s : State) : Result3 :=
  let x := s.ctx h.ctx
  .next (s.command h 0x10 .context true false
    (decide (x.state = .loaded) && !x.marked && x.trans.isNone) [] (fun t =>
      if x.starved || t.lacksSite h.ctx then t.complete (headRef h 0x10) .noResource []
      else (t.accept h 0x10 0 4096).modCtx h.ctx (fun y => { y with trans := some .start })))

/-- CTX_PAUSE (R303): it takes effect at the context's next gear point. -/
def execCtxPause (h : CmdHead) (s : State) : Result3 :=
  let x := s.ctx h.ctx
  .next (s.command h 0x11 .context true false (decide (x.state = .running) && x.trans.isNone) [] (fun t =>
    (t.accept h 0x11 0 4096).modCtx h.ctx (fun y => { y with trans := some .pause })))

/-- CTX_RESUME (R303, R396, R425, R73): from FAULTED it executes the withheld turn again. -/
def execCtxResume (h : CmdHead) (s : State) : Result3 :=
  let x := s.ctx h.ctx
  .next (s.command h 0x12 .context true false
    ((decide (x.state = .paused) || decide (x.state = .faulted)) && !x.marked && x.trans.isNone) [] (fun t =>
      if x.starved || t.lacksSite h.ctx then t.complete (headRef h 0x12) .noResource []
      else (t.accept h 0x12 0 4096).modCtx h.ctx (fun y => { y with trans := some .resume })))

/-- CTX_DRAIN (R304): the context is DRAINING until no stream of it is ACTIVE. -/
def execCtxDrain (h : CmdHead) (flags : Nat) (s : State) : Result3 :=
  let x := s.ctx h.ctx
  .next (s.command h 0x13 .context true (decide (1 < flags))
    ((decide (x.state = .running) || decide (x.state = .paused)) && x.trans.isNone) [] (fun t =>
      (t.accept h 0x13 0 4096).modCtx h.ctx (fun y => { y with state := .draining, cancelDrain := flags % 2 == 1 })))

end Machine

end Sys2Proof
end

