-- ==== Sys2Proof/Machine/Places.lean ====
section
/-! DEFINITION. The roles of sites (R86, R400, R422) and a logical tile that moves to another site (R49, R423). -/

namespace Sys2Proof.Machine

/-- A dressing rotation that starts again at item 1 (R414, R432). -/
def Quad.redress (x : Quad) : Quad := { x with round := 0, dressAt := 0, auditAt := 0 }

/-- The sites of a quadrant. -/
def quadSites (q : Nat) : List Nat := (List.range Config.sitesPerQuad).map (fun i => q * Config.sitesPerQuad + i)

/-- The sites of a quadrant that are neither LIVE nor FENCED, nor taken by a re-placement under way. -/
def State.extraSites (s : State) (q : Nat) : List Nat :=
  (quadSites q).filter (fun i => decide ((s.site i).role ≠ .live ∧ (s.site i).role ≠ .fenced) &&
    !s.heal.replacing.any (fun r => r.site == i))

/-- a_q (R400). -/
def State.auditors (s : State) (q : Nat) : Nat := 64 - s.fenced q - (s.quad q).reserve

/-- A site in another role. -/
def State.setRole (s : State) (i : Nat) (r : Role) : State :=
  if (s.site i).role = r then s else s.modSite i (fun a => { a with role := r })

/-- The sites that hold no tile take their roles: the RESERVE_q highest-numbered are SPARE, the others AUDITOR (R86,
R400; which of them is the model's choice). -/
def State.rebalance (s : State) (q : Nat) : State :=
  let l := s.extraSites q
  let n := l.length - (s.quad q).reserve
  let t := (l.take n).foldl (fun u i => u.setRole i .auditor) s
  let u := (l.drop n).foldl (fun v i => v.setRole i .spare) t
  { u with heal := { u.heal with readySpares := u.heal.readySpares.filter (fun i => !(l.take n).contains i) } }

/-- The site that re-placement or a remap takes (R422): the lowest-numbered READY_SPARE, else the lowest-numbered
auditor; `taken` are sites already chosen, and a site that is due to be fenced itself is none. -/
def State.nextSite (s : State) (q : Nat) (taken : List Nat) : Option Nat :=
  let l := (s.extraSites q).filter (fun i => !taken.contains i && !s.heal.fenceDue.contains i)
  match l.find? (fun i => s.heal.readySpares.contains i) with
  | some i => some i
  | none => l.find? (fun i => decide ((s.site i).role = .auditor))

/-- The scratchpad of a replacement (R423): the loaded image, with the PARITY and BATCH_DESC regions read from the old
site, a word that cannot be read being poisoned. -/
def carried (b : PlanBody) (t : PlanTile) (old : Memory) (bad : List Nat) : Memory :=
  let kept := b.regions.filter (fun r => r.tile == some t.tile && (r.cls == some .parity || r.cls == some .batchDesc))
  kept.foldl (fun m r =>
    let m1 := m.write r.base (old.read r.base r.bytes)
    (List.range (ceilDiv (r.base % 64 + r.bytes) 64)).foldl (fun z i =>
      let w := r.base / 64 + i
      z.mark w (old.isPoisoned w || bad.contains w)) m1) t.memory

/-- Logical tile `t` of QD`q` moved to site `new` (R49, R423): the plan's images and the persistent regions go with it;
transfers and sluice writes under way follow the tile. -/
def State.moveTile (s : State) (q t new : Nat) (replaced : Bool) (bad : List Nat) : State :=
  let old := s.siteOf q t
  let a := s.site old
  let b := s.site new
  let c := a.ctx.map (fun c => ((s.ctx c).plan.bind (fun p => (p.tile a.gtile).map (fun pt => (p, pt)))))
  let put : Site := match c with
    | some (some (p, pt)) =>
      let l := pt.load (a.ctx.getD 0) b
      { l with scr := carried p.body pt a.scr bad, bank := { l.bank with mask := a.bank.mask }
               ex := { a.ex with xferNo := max a.ex.xferNo b.ex.xferNo }
               seq := { a.seq with s := [], p := [], k := [], undef := true } }
    | _ => b.vacate
  let s1 := s.setSite new { put with role := .live, ltile := some t }
  let s2 := s1.modSite old (fun x => { x.vacate with role := if x.role = .live then .auditor else x.role, ltile := none })
  let follow := fun (e : Nat × Site) => (e.1, { e.2 with ex := { e.2.ex with
    writes := e.2.ex.writes.map (fun w => if w.fromSite = old then { w with fromSite := new } else w) } })
  let s3 := { s2 with sites := s2.sites.map follow }
  let s4 := s3.modQuad q (fun x => { x with remap := aset x.remap t { site := new, replaced := replaced } })
  { s4 with heal := { s4.heal with readySpares := ndel s4.heal.readySpares new } }

/-! ### Hold turns (R398, R424, R438, R440) -/

/-- Whether a context would issue to an engine (R440): 1 DDR requests, 2 crossbar, 3 egress, 4 intake. -/
def Ctx.usesEngine (x : Ctx) (e : Nat) : Bool :=
  match x.plan with
  | none => false
  | some p =>
    if e = 1 then decide (0 < (p.gear x.gearing).ddrUnits)
    else if e = 2 then decide (1 < p.hdr.quads)
    else if e = 3 then decide (1 < p.hdr.devices)
    else x.active

/-- Whether a context takes hold turns for a snapshot of its sites (R438), an engine reset or a replay in a quadrant
(R440), or a re-placement (R424). -/
def State.holds (s : State) (c : Nat) : Bool :=
  let x := s.ctx c
  s.quads.any (fun e =>
    (e.2.snap.pending && e.2.snap.ctxs.contains c) ||
    (match e.2.replay with
     | none => false
     | some r =>
       if r.suspects.contains c then decide (e.2.recState = .engineReset) || r.todo.head? != some c
       else decide (e.2.recState = .replay ∧ r.todo ≠ []) && (r.engine == 4 || x.boundTo e.1) && x.usesEngine r.engine)) ||
  s.heal.replacing.any (fun r => (s.site r.old).ctx == some c) ||
  s.heal.fenceDue.any (fun i => (s.site i).ctx == some c && decide ((s.site i).role = .live))

/-- The hold of every context decided anew: a hold turn is one to its end, so that a hold ends only in the intake. -/
def State.setHolds (s : State) : State :=
  allCtxs.foldl (fun u c =>
    let h := s.holds c || ((s.ctx c).held && decide (s.turn.window ≠ .intake))
    if (u.ctx c).held = h then u else u.modCtx c (fun x => { x with held := h })) s

/-! ### Fencing (R421, R422, R425) -/

/-- A context that a fault stops: FAULTED, with the state that CTX_RESUME returns to. -/
def Ctx.fault (x : Ctx) : Ctx :=
  if x.state = .running ∨ x.state = .draining ∨ x.state = .loaded ∨ x.state = .paused then
    { x with state := .faulted, prior := x.state, trans := if x.trans = some .pause then none else x.trans } else x

/-- A replacement site taken for the logical tile of a fenced LIVE site (R422), or the context left FAULTED where there is
none (R425). Its role follows at a boundary (R85). -/
def State.replaceSite (s : State) (old tile : Nat) : State :=
  let q := old / Config.sitesPerQuad
  match s.nextSite q (s.heal.replacing.map (fun r => r.site)) with
  | some i =>
    { s with heal := { s.heal with
        replacing := s.heal.replacing ++ [{ quad := q, tile := tile, old := old, site := i, copied := false }] } }
  | none =>
    let t := s.modQuad q (fun x => { x with noSpare := true })
    match (s.site old).ctx with
    | some c => t.modCtx c Ctx.fault
    | none => t

/-- A site fenced at a boundary (R421): it takes no role; a LIVE site's tile is re-placed, but not under a brake (R432). -/
def State.fenceSite (s : State) (i : Nat) : State :=
  let a := s.site i
  if a.role = .fenced then s
  else
    let t := s.modSite i (fun x => { x with role := .fenced })
    let u := { t with heal := { t.heal with readySpares := ndel t.heal.readySpares i } }
    match a.role, a.ltile with
    | .live, some n => if (s.quad (i / Config.sitesPerQuad)).braked then u else u.replaceSite i n
    | _, _ => u.rebalance (i / Config.sitesPerQuad)

/-- The fences due at a boundary; an auditor taken for a re-placement is a SPARE from then on (R85, R422). -/
def State.fenceAll (s : State) : State :=
  let t := s.heal.fenceDue.foldl (fun u i => u.fenceSite i) s
  let u := t.heal.replacing.foldl (fun v r => if (v.site r.site).role = .auditor then v.setRole r.site .spare else v) t
  { u with heal := { u.heal with fenceDue := [] } }

/-- The contexts that a quadrant's PLAN load loads. -/
def State.loadingOn (s : State) (q : Nat) : List Nat := (s.ctxsOn q).filter (fun c => decide ((s.ctx c).state = .loading))

/-- The sites that may take the tile of an incomplete site of a PLAN load (R452). -/
def State.loadSpares (s : State) (q : Nat) : List Nat := (s.extraSites q).filter (fun i => decide ((s.site i).role = .spare))

/-- An incomplete site of a PLAN load at the boundary (R85, R452): a spare takes its tile, and it is fenced. -/
def State.replaceLoading (s : State) (q i : Nat) : State :=
  match (s.site i).ltile, s.loadSpares q with
  | some t, n :: _ =>
    let u := s.moveTile q t n true []
    ((u.setRole i .fenced).modQuad q (fun x => { x with load := { x.load with fenced := x.load.fenced + 1 } })).rebalance q
  | _, _ => s

/-- The replacements of PLAN loads due at a boundary. -/
def State.replaceAll (s : State) : State :=
  s.mod.order.quads.foldl (fun u q =>
    let z := (u.quad q).load
    if z.kind = 2 ∧ z.bad ≠ [] then
      (z.bad.foldl (fun v i => v.replaceLoading q i) u).modQuad q (fun x => { x with load := { x.load with bad := [] } })
    else u) s

end Sys2Proof.Machine
end

