-- ==== Sys2Proof/Machine/Wear.lean ====
section
/-! DEFINITION. The wear score (R430, R431). -/

namespace Sys2Proof.Machine

/-- The score of QD`q` (Table 14.7). -/
def State.quadWear (s : State) (q : Nat) : Nat :=
  min 1000 (8 * s.fenced q + 15 * (24 - s.auditors q) + wearRise (aget 0 s.heal.lastCorrected q) 4096 +
    40 * (aget [] s.heal.dayTransients q).sum)

/-- The score of port L`n` (Table 14.7). -/
def State.portWear (s : State) (n : Nat) : Nat :=
  min 1000 (50 * aget 0 s.heal.lastRetrains n + wearRise (aget 0 s.heal.lastRetries n) 100000 +
    60 * (aget [] s.heal.portDegraded n).sum)

/-- The device score (R431). -/
def State.deviceWear (s : State) : Nat :=
  if s.check.suspect then 1000
  else max ((s.mod.order.quads.map s.quadWear).foldl max 0) ((s.mod.order.ports.map s.portWear).foldl max 0)

/-- Every score and flag computed anew, at an event that changes a term (R430, R431). -/
def State.rewear (s : State) : State :=
  let chans := s.mod.order.quads.flatMap s.mod.order.channels
  let mods := chans.filter (fun n => wearFlag (s.heal.moduleReplace.contains n) (s.modWear n))
  let soon := wearFlag s.heal.replaceSoon s.deviceWear
  let said := (if soon && !s.heal.replaceSoon then [Out.event .replaceSoon] else []) ++
    (mods.filter (fun n => !s.heal.moduleReplace.contains n)).map (fun n => Out.event (.moduleReplace n))
  { s with
    out := s.out ++ said
    heal := { s.heal with
      quadScore := s.mod.order.quads.map (fun q => (q, s.quadWear q))
      modScore := chans.map (fun n => (n, s.modWear n))
      portScore := s.mod.order.ports.map (fun n => (n, s.portWear n))
      replaceSoon := soon
      moduleReplace := mods } }

/-- One more in today's entry of a list of wear days. -/
def today (l : List Nat) : List Nat :=
  match l with
  | [] => [1]
  | d :: t => (d + 1) :: t

end Sys2Proof.Machine
end

