-- ==== Sys2Proof/Machine/ChangeSets.lean ====
section
/-! DEFINITION. Stage and commit (R38 to R45), and the governor's and re-placement's own change sets (R259, R424). -/

namespace Sys2Proof.Machine

/-! ### Units (R39) -/

/-- A unit that a change set can hold. -/
inductive UnitId where
  | site (i : Nat) | router (i : Nat) | remapTable (q : Nat) | intakeEntry (c : Nat) | reefEntry (c : Nat) | vouchEntry (c : Nat)
  | auditEntry (q : Nat) | whole
  deriving DecidableEq, Repr

/-- The units that a change names (R38, R43, R259, R424). -/
def State.units (s : State) : Change → List UnitId
  | .remap c tiles =>
    let x := s.ctx c
    (tiles.filterMap (fun g => (s.siteOfTile x g).map UnitId.site)) ++
      (tiles.filterMap (fun g => (x.quads[g / Config.tilesPerQuad]?).map UnitId.remapTable))
  | .reefRange c _ _ => [.reefEntry c]
  | .vouch c _ => [.vouchEntry c]
  | .audit q _ => [.auditEntry q]
  | .geometry _ => [.whole]
  | .gearing c _ => .intakeEntry c :: (s.ctxSites c).flatMap (fun i => [UnitId.site i, .router i])
  | .placement q t _ => [.remapTable q, .site (s.siteOf q t)]

/-- Whether two lists of units share one. -/
def clash (a b : List UnitId) : Bool :=
  (a.contains .whole && !b.isEmpty) || (b.contains .whole && !a.isEmpty) || a.any (fun u => b.contains u)

/-- Whether another non-terminal change set holds one of a change's units. -/
def State.heldElsewhere (s : State) (key : Nat) (ch : Change) : Bool :=
  s.sets.any (fun e => e.1 != key && clash (s.units ch) (e.2.changes.flatMap s.units))

/-! ### CFG_STAGE (R39) -/

/-- The logical tiles of a context that a change set touches, together with a further change. -/
def State.tilesTouched (s : State) (key c : Nat) (tiles : List Nat) : Nat :=
  let old := match alook s.sets key with
    | none => []
    | some z => z.changes.flatMap (fun ch => match ch with
      | .remap d l => if d = c then l else []
      | _ => [])
  ((old ++ tiles).foldl nins []).length

/-- The gearings of a loaded plan that a geometry leaves loaded, and REEF_MAP rewritten over them (R77): one does not become loaded
where an open stream does not fit its KV declaration. -/
def State.refit (s : State) (geo : Geometry) (c : Nat) (p : Plan) : List Nat × Option (List Nat) :=
  let x := s.ctx c
  let fits := fun (g : Nat) => x.usable.contains g || (s.streamsOf c).all (fun e =>
    match p.batch g with
    | some b => decide (e.2.kvBase + e.2.kvLimit * b.kvPosBytes ≤ b.kvBytes)
    | none => false)
  let l := (s.loadable geo p.hdr x.quads).filter fits
  (l, rewriteMap p.hdr.reefMap l)

/-- The conditions of Table 1.5 that need a drain (R43, R77): a geometry that leaves a loaded plan no gearing is one. -/
def State.needsDrain (s : State) (key : Nat) : Change → Bool
  | .remap c tiles =>
    (decide ((s.ctx c).state = .running) || decide ((s.ctx c).state = .paused)) && decide (16 < s.tilesTouched key c tiles)
  | .geometry g =>
    allCtxs.any (fun c =>
      let x := s.ctx c
      decide (x.state = .running) || decide (x.state = .paused) || decide (x.state = .draining) ||
        (match x.plan with
         | some p => decide (x.state ≠ .loading) && (s.refit g c p).2.isNone
         | none => false))
  | _ => false

/-- Host change sets that are not terminal (R38). -/
def State.hostSets (s : State) : Nat := (s.sets.filter (fun e => e.1 < 65536)).length

/-- A CFG_STAGE past the shared refusals: its own, in the order of R39, or the set OPEN with the change in it. -/
def State.stage (s : State) (h : CmdHead) (id : Nat) (ch : Change) : State :=
  let ref := headRef h 0x04
  if s.heldElsewhere id ch then s.refuse ref .noResource []
  else match alook s.sets id with
  | none =>
    if 4 ≤ s.hostSets then s.refuse ref .noResource []
    else if s.needsDrain id ch then s.refuse ref .needsDrain []
    else { (s.accept h 0x04 id 4096) with sets := aset s.sets id {
        changes := [ch], state := .opened, held := false, lost := false, age := 0, commit := 0 } }
  | some z =>
    if z.state = .committed then s.refuse ref .wrongState []
    else if s.needsDrain id ch then s.refuse ref .needsDrain []
    else { (s.accept h 0x04 id 4096) with sets := aset s.sets id { z with
        changes := z.changes ++ [ch], state := .opened, held := false } }

/-- The context states in which kinds 1 to 3 are legal (Table 10.8). -/
def stageStates : List CtxState := [.loaded, .running, .paused]

/-- CFG_STAGE_REMAP (R39, Table 10.9): 1 to 116 logical tiles of the context's plan. -/
def execCfgStageRemap (h : CmdHead) (id : Nat) (tiles : List Nat) (s : State) : Result3 :=
  let x := s.ctx h.ctx
  let bad := tiles.isEmpty || decide (116 < tiles.length) || tiles.any (fun g => decide (2048 ≤ g)) ||
    (match x.plan with
     | some p => !tiles.all (fun g => (p.tile g).isSome)
     | none => false)
  .next (s.command h 0x04 .management true bad (stageStates.contains x.state) []
    (fun t => t.stage h id (.remap h.ctx tiles)))

/-- CFG_STAGE_REEF_RANGE (R263). -/
def execCfgStageReefRange (h : CmdHead) (id lo hi : Nat) (s : State) : Result3 :=
  .next (s.command h 0x04 .management true (decide (3 < lo ∨ 3 < hi ∨ hi < lo)) (stageStates.contains (s.ctx h.ctx).state) []
    (fun t => t.stage h id (.reefRange h.ctx lo hi)))

/-- CFG_STAGE_VOUCH (R62, R302): OFF is refused on a privileged context and on a plan without FLAGS bit 1. -/
def execCfgStageVouch (h : CmdHead) (id mode : Nat) (s : State) : Result3 :=
  let x := s.ctx h.ctx
  let off := match x.plan with
    | some p => mode == 0 && (p.hdr.flags % 2 == 1 || p.hdr.flags / 2 % 2 == 0)
    | none => false
  .next (s.command h 0x04 .management true (decide (1 < mode) || off) (stageStates.contains x.state) []
    (fun t => t.stage h id (.vouch h.ctx (mode == 1))))

/-- CFG_STAGE_AUDIT (R400): RESERVE 0 to 64 of a present quadrant. -/
def execCfgStageAudit (h : CmdHead) (id quad reserve : Nat) (s : State) : Result3 :=
  .next (s.command h 0x04 .management false (decide (64 < reserve) || !s.mod.order.quads.contains quad) true []
    (fun t => t.stage h id (.audit quad reserve)))

/-- CFG_STAGE_GEOMETRY (R16, R43): an invalid geometry is refused with BAD_COMMAND. -/
def execCfgStageGeometry (h : CmdHead) (id m d c : Nat) (s : State) : Result3 :=
  let g : Geometry := { m := m, d := d, c := c }
  .next (s.command h 0x04 .management false (!g.valid) true [] (fun t => t.stage h id (.geometry g)))

/-- The codes of SET_STATE (Table 10.10). -/
def SetState.code : SetState → Nat
  | .opened => 0 | .staged => 1 | .committed => 2 | .applied => 3 | .discarded => 4

/-- CFG_COMMIT (R40). -/
def execCfgCommit (h : CmdHead) (id turn : Nat) (s : State) : Result3 :=
  let n := s.turn.no
  let live := match alook s.sets id with
    | some z => decide (z.state = .opened) || decide (z.state = .staged)
    | none => false
  .next (s.command h 0x05 .management false (decide (turn < n + 2 ∨ n + 65536 < turn)) live [] (fun t =>
    let u := t.accept h 0x05 id (turn - n + 2)
    { u with sets := u.sets.map (fun e => if e.1 = id then (id, { e.2 with state := .committed, commit := turn }) else e) }))

/-- Whether shadow state is loaded now: in the work and dressing windows (R39). -/
def Turn.staging (t : Turn) : Bool := t.running && (decide (t.window = .work) || decide (t.window = .dressing))

/-- CHANGE_SET_STAGED (R38, R39, R259, R424): the last named unit of a set acknowledges its shadow state. A host set
becomes STAGED and its CFG_STAGE commands complete; a re-placement set commits at the second boundary after. -/
def execChangeSetStaged (key : Nat) (s : State) : Result3 :=
  .next (match alook s.sets key with
    | none => s
    | some z =>
      if z.held || !s.turn.staging then s
      else
        let st := if z.state = .opened then SetState.staged else z.state
        let z1 : ChangeSet := { z with
          held := true, age := 0
          state := if key < 65536 then st else .committed
          commit := if key < 65552 then z.commit else s.turn.no + 2 }
        let t := { s with sets := aset s.sets key z1 }
        if key < 65536 then t.finish (fun x => x.opc == 0x04 && x.arg == key) .ok (fun _ => cfgResult key st.code 0) else t)

/-- CHANGE_SET_EXPIRE (R38): 4,096 turns in STAGED without a commit. -/
def execChangeSetExpire (key : Nat) (s : State) : Result3 :=
  .next (match alook s.sets key with
    | some z => if z.state = .staged ∧ key < 65536 ∧ 4096 ≤ z.age then s.discardSet key .stageIncomplete else s
    | none => s)

/-! ### The governor's own sets (R45, R259) -/

/-- Whether a re-placement is under way in a quadrant of the context (R275). -/
def State.replacingIn (s : State) (c : Nat) : Bool := s.heal.replacing.any (fun r => (s.ctx c).quads.contains r.quad)

/-- GOVERNOR_STAGE (R259): in the turn after its decision the governor stages the switch of a context whose target is
not its running gearing; a host set that holds one of its units defers it (R275). -/
def execGovernorStage (ctx : Nat) (s : State) : Result3 :=
  let x := s.ctx ctx
  let key := 65536 + ctx
  let ch : Change := .gearing ctx x.target
  .next (if !(decide (ctx < 16)) || !x.active || decide (x.target = x.gearing) || (alook s.sets key).isSome ||
        s.check.chipBraked || s.ctxBraked ctx then s
    else if s.heldElsewhere key ch then
      s.dropSwitch ctx
    else { s with sets := aset s.sets key {
        changes := [ch], state := .committed, held := false, lost := false, age := 0, commit := s.turn.no + 1 } })

/-! ### Application (R41) -/

/-- Gearings of a loaded plan evaluated again after a geometry change (R77). -/
def State.reevaluate (s : State) (c : Nat) : State :=
  match (s.ctx c).plan with
  | none => s
  | some p =>
    let r := s.refit s.turn.geom c p
    s.modCtx c (fun y => { y with usable := r.1, reefMap := r.2.getD y.reefMap })

/-- One change applied at a boundary; none where a unit cannot switch. -/
def State.applyChange (s : State) : Change → Option State
  | .remap c tiles =>
    tiles.foldl (fun (acc : Option State) g =>
      match acc with
      | none => none
      | some u =>
        match (u.ctx c).quads[g / Config.tilesPerQuad]? with
        | none => none
        | some q =>
          match u.nextSite q [] with
          | none => none
          | some i => some ((u.moveTile q (g % Config.tilesPerQuad) i false []).rebalance q)) (some s)
  | .reefRange c lo hi =>
    let t := s.modCtx c (fun x => { x with rangeMin := lo, rangeMax := hi })
    let out := match alook t.sets (65536 + c) with
      | some z => z.changes.any (fun ch => match ch with
        | .gearing _ g => !(List.range 4).any (fun l => decide (lo ≤ l ∧ l ≤ hi) && (t.ctx c).reefMap.getD l 0 == g)
        | _ => false)
      | none => false
    let u := t.modCtx c (fun x => { x with target := x.target_ t.reef.level })
    some (if out then u.discardSet (65536 + c) .stageIncomplete else u)
  | .vouch c on => some (s.modCtx c (fun x => { x with vouchOn := on }))
  | .audit q r => some ((s.modQuad q (fun x => { x with reserve := r })).rebalance q)
  | .geometry g =>
    let t := ({ s with turn := { s.turn with geom := g } }).cpbChanged
    let u := t.mod.order.quads.foldl (fun v q => v.modQuad q Quad.redress) t
    some (allCtxs.foldl (fun v c => v.reevaluate c) u)
  | .gearing c g =>
    let t := (s.setGear c g).modCtx c (fun x => { x with switchTurn := x.turn % 2 ^ 32 })
    some { t with reef := { t.reef with applied := bump16 t.reef.applied 1, switchedNow := true } }
  | .placement _ _ _ => some s

/-- Every change of a set applied, or none (R41). -/
def State.applyAll (s : State) (l : List Change) : Option State :=
  l.foldl (fun (acc : Option State) ch => acc.bind (fun u => u.applyChange ch)) (some s)

/-- Whether a set is due in the first cycle of the intake window that has just begun: a host set at T_c (R41), a governor set at the context's
first gear point from its earliest turn, which no wait or hold turn is (R259, Table 12.7), a re-placement set from its commit turn (R424). -/
def State.setDue (s : State) (key : Nat) (z : ChangeSet) : Bool :=
  decide (z.state = .committed) && decide (s.turn.window = .intake) && s.turn.cycle == 0 && s.turn.running &&
  (if key < 65536 then decide (z.commit = s.turn.no)
   else if key < 65552 then
     let x := s.ctx (key - 65536)
     decide (z.commit ≤ s.turn.no) && x.wait.isNone && (match x.plan with
       | some p => decide (x.turn % max p.hdr.gearPeriod 1 = 0)
       | none => false)
   else z.held && decide (z.commit ≤ s.turn.no))

/-- A re-placement that applies at its commit boundary (R424): the tile moves to the site copied, S_q and REPLACEMENTS
rise, the roles are filled again, and the context's hold ends. -/
def State.applyPlacements (s : State) (q : Nat) : State :=
  let l := s.heal.replacing.filter (fun r => r.quad == q && r.copied)
  let t := l.foldl (fun u r =>
    let v := u.moveTile q r.tile r.site true ((u.site r.site).scr.poisoned)
    v.modQuad q (fun x => { x with spareLive := x.spareLive + 1, replacements := bump16 x.replacements 1 })) s
  let u := { t with heal := { t.heal with replacing := t.heal.replacing.filter (fun r => !(r.quad == q && r.copied)) } }
  ((u.rebalance q).setHolds).rewear

/-- CHANGE_SET_APPLY (R41, R43, R259, R424): a committed set at its boundary: every unit switches, or none does. A host
change that needs a drain by now (Table 1.5) is held in no unit. -/
def execChangeSetApply (key : Nat) (s : State) : Result3 :=
  .next (match alook s.sets key with
    | none => s
    | some z =>
      if !s.setDue key z then s
      else if 65536 ≤ key ∧ key < 65552 ∧ s.replacingIn (key - 65536) then
        s.dropSwitch (key - 65536)
      else if !z.held || z.lost || (decide (key < 65536) && z.changes.any (fun ch => s.needsDrain key ch)) then
        (s.discardSet key .stageIncomplete).restage [(key, z)]
      else if 65552 ≤ key then { (s.applyPlacements (key - 65552)) with sets := adel s.sets key }
      else match s.applyAll z.changes with
      | none => s.discardSet key .stageIncomplete
      | some t =>
        let u := { t with sets := adel t.sets key }
        if key < 65536 then
          { (u.finish (isSetCmd key) .ok (fun x => if x.opc = 0x05 then cfgResult key 3 s.turn.no else cfgResult key 3 0)) with
            turn := { u.turn with applied := bump32 u.turn.applied 1 } }
        else u.settleTargets)

end Sys2Proof.Machine
end

