-- ==== Sys2Proof/Machine/Fabric.lean ====
section
/-! DEFINITION. The Avdin fabric (R357 to R381): routing, the link layer of a port, the release of crossings, and the
judging of packets that are addressed to the device. -/

namespace Sys2Proof

open Sys2Proof.Machine

/-! ### What manifests and packets say -/

/-- Coordinate X, Y or Z (0, 1, 2) of a position. -/
def coord (pos d : Nat) : Nat := pos / 64 ^ (2 - d) % 64

/-- The size of a dimension. -/
def FabricManifest.size (m : FabricManifest) (d : Nat) : Nat := if d = 0 then m.dx else if d = 1 then m.dy else m.dz

/-- The first dimension in which two positions differ, and whether the + direction is taken (R363). -/
def FabricManifest.direction (m : FabricManifest) (src dest : Nat) : Option (Nat × Bool) :=
  ([0, 1, 2].find? (fun d => coord src d != coord dest d)).map (fun d =>
    let n := max (m.size d) 1
    let up := (coord dest d + n - coord src d) % n
    (d, decide (2 * up ≤ n)))

/-- Whether a hop crosses the dateline of its dimension (R364). -/
def FabricManifest.dateline (m : FabricManifest) (src d : Nat) (plus : Bool) : Bool :=
  if plus then coord src d + 1 == m.size d else coord src d == 0

/-- Flits of a packet: its data flits and its tail. -/
def Packet.flits (p : Packet) : Nat := ceilDiv p.nwords 4 + 1

/-- Whether a packet travels on an answer channel (Table 12.4). -/
def Packet.answering (p : Packet) : Bool :=
  match p.kind with
  | .write => false
  | _ => true

/-- The virtual channel of a packet (Table 12.4). -/
def Packet.channel (p : Packet) : Nat := (if p.answering then 2 else 0) + (if p.cls then 1 else 0)

/-- The ANSWER to a WRITE packet (R368, R381). -/
def Packet.answer (p : Packet) (src status : Nat) (counts : List Nat) : Packet :=
  { p with kind := .answer, dest := p.src, src := src, cls := false, detoured := false, hops := 0, words := [], poison := []
           status := status, counts := counts, retryReq := false, ackValid := false, credits := [0, 0, 0, 0], seq := 0, ack := 0 }

namespace Machine

/-! ### Position and roles (R362 to R364) -/

/-- The device's position, where it has one (Table 12.8). -/
def State.position (s : State) : Option Nat :=
  match s.avdin.inForce with
  | some m => if m.spare then none else some m.position
  | none => none

/-- The role of a port: the manifest's, or the default of Table 12.1. -/
def State.role (s : State) (n : Nat) : Nat :=
  match s.avdin.inForce with
  | some m => (m.ports.getD n { role := 0, peerPort := 0, required := false, peerPos := 0 }).role
  | none => if n < 6 then n + 1 else 7

/-- Whether a port carries traffic: UP or DEGRADED, and not found with a wrong peer (R466). -/
def State.carries (s : State) (n : Nat) : Bool :=
  let p := s.port n
  s.mod.order.ports.contains n && (decide (p.state = .up) || decide (p.state = .degraded)) &&
    (match alook s.mod.links n with
     | some l => !(l.result == 2 && l.reason == 2)
     | none => true)

/-- The role code of a direction (Table 12.6). -/
def roleOf (d : Nat) (plus : Bool) : Nat := 2 * d + (if plus then 1 else 2)

/-- Where a packet goes next. -/
inductive Route where
  | here
  | out (port : Nat) (cls detoured : Bool)
  | lost
  deriving DecidableEq, Repr

/-- The next hop of a packet (R363 to R366): `inDim` is the dimension it arrived in, if it arrived over a link. -/
def State.route (s : State) (p : Packet) (inDim : Option Nat) : Route :=
  match s.avdin.inForce, s.position with
  | some m, some pos =>
    if 255 ≤ p.hops then .lost
    else match m.direction pos p.dest with
    | none => .here
    | some (d, plus) =>
        let want := roleOf d plus
        match s.mod.order.ports.find? (fun n => s.role n == want && s.carries n) with
        | some n => .out n (m.dateline pos d plus || (inDim == some d && p.cls)) p.detoured
        | none =>
          if p.detoured then .lost
          else match m.detours.find? (fun e => e.deadRole == want && (p.dest &&& e.mask) == (e.matchPos &&& e.mask)) with
            | some e => if s.carries e.newPort then .out e.newPort true true else .lost
            | none => .lost
  | _, _ => .lost

/-! ### The link layer (R357 to R360) -/

/-- Packets sent from the front of the waiting ones while eight are not outstanding and credit is there (R359, R360):
answer channels first, and within a class the packet that arrived first. -/
def Port.pump (n : Nat) : (fuel : Nat) → Port → Port × List Out
  | 0, x => (x, [])
  | k + 1, x =>
    let waiting := x.kept.drop x.inFlight
    let ready := waiting.filter (fun p => decide (p.flits ≤ x.credits.getD p.channel 0))
    if 8 ≤ x.inFlight then (x, [])
    else match (ready.find? (fun p => p.answering)).or ready.head? with
      | none => (x, [])
      | some p =>
        let q := { p with seq := x.txSeq, hops := p.hops + 1, vc := p.channel, ack := (x.rxSeq + 4095) % 4096, ackValid := true }
        let y := { x with
          kept := x.kept.take x.inFlight ++ [q] ++ waiting.erase p, inFlight := x.inFlight + 1, txSeq := (x.txSeq + 1) % 4096
          credits := lmod x.credits p.channel (fun c => c - p.flits)
          payload := x.payload + 64 * p.words.length }
        let z := y.pump n k
        (z.1, .packet n q :: z.2)

/-- A port sends what it can; only data sent in the close window counts as its load (Table 12.18). -/
def State.pumpPort (s : State) (n : Nat) : State :=
  let r := (s.port n).pump n ((s.port n).kept.length + 1)
  let t := s.modPort n (fun x => if s.turn.window = .close then r.1 else { r.1 with payload := x.payload })
  { t with out := t.out ++ r.2 }

/-- A packet queued on a port. -/
def State.queueOn (s : State) (n : Nat) (p : Packet) : State :=
  (s.modPort n (fun x => { x with kept := x.kept ++ [p] })).pumpPort n

/-- The device's time in cycles of the arithmetic clock since its turn generator started (R12). -/
def Turn.now (t : Turn) : Nat := t.clock + t.cycle

/-- The retries that lie within 1 ms of a time (R389). -/
def Port.lately (x : Port) (now : Nat) : List Nat := x.recent.filter (fun at_ => decide (now < at_ + 850000))

/-- The packets sent and not acknowledged go out again, oldest first (R359). -/
def State.resendPort (s : State) (n : Nat) : State :=
  let x := s.port n
  let t := s.modPort n (fun y => { y with retries := bump16 y.retries 1, recent := y.lately s.turn.now ++ [s.turn.now] })
  { t with heal := { t.heal with portRetries := amod 0 t.heal.portRetries n (· + 1) }, out := t.out ++ (x.kept.take x.inFlight).map (fun p => .packet n p) }

/-- A CONTROL packet that acknowledges (R359), asking for a resend or returning credits. -/
def controlPacket (ack : Nat) (retry : Bool) (credits : List Nat) : Packet :=
  { kind := .control, vc := 2, seq := 0, ack := ack, retryReq := retry, ackValid := true, credits := credits, dest := 0, src := 0,
    cls := false, detoured := false, pipeline := 0, sluice := 0, hops := 0, destTile := 0, srcTile := 0, offset := 0, words := [],
    nwords := 0, inst := 0, pktNo := 0, srcCtx := 0, srcQuad := 0, gens := (0, 0, 0), status := 0, desc := 0, tag := 0,
    counts := [], poison := [], crcOk := true, delayNs := none, fullTurn := none }

/-- A MGMT packet (R358): what the link-local message carries. -/
def mgmtPacket (delay turn : Option Nat) : Packet :=
  { controlPacket 0 false [0, 0, 0, 0] with kind := .mgmt, ackValid := false, delayNs := delay, fullTurn := turn }

/-- The acknowledgement, credits and resend request of a tail (R359). -/
def State.takeAck (s : State) (n : Nat) (p : Packet) : State :=
  let x := s.port n
  let acked := if p.ackValid then
      match (List.range x.inFlight).find? (fun i => (x.kept.getD i p).seq == p.ack) with
      | some i => i + 1
      | none => 0
    else 0
  let t := s.modPort n (fun y => { y with
    kept := y.kept.drop acked, inFlight := y.inFlight - acked
    credits := List.zipWith (fun a b => min 514 (a + b)) y.credits (p.credits ++ List.replicate 4 0) })
  (if p.retryReq then t.resendPort n else t).pumpPort n

/-- A packet received on a port (R359): its CRC and its place in the sequence decide whether it is taken; the port
acknowledges it and returns its flits as credits. A packet out of sequence is discarded; the acknowledgement of one taken before is
sent again (DEDUCED, log 92). -/
def State.receive (s : State) (n : Nat) (p : Packet) : State × Bool :=
  let x := s.port n
  if !(decide (x.state = .up) || decide (x.state = .degraded)) then (s, false)
  else if !p.crcOk then
    ((s.modPort n (fun y => { y with crcFails := bump16 y.crcFails 1 })).emit
      (.packet n (controlPacket ((x.rxSeq + 4095) % 4096) true [0, 0, 0, 0])), false)
  else match p.kind with
  | .control => (s.takeAck n p, false)
  | _ =>
    let old := (x.rxSeq + 4096 - p.seq) % 4096
    if old ≠ 0 then
      (if old ≤ 8 then s.emit (.packet n (controlPacket ((x.rxSeq + 4095) % 4096) false [0, 0, 0, 0])) else s, false)
    else
      let t := s.takeAck n p
      let give := lmod [0, 0, 0, 0] p.channel (fun _ => p.flits)
      ((t.modPort n (fun y => { y with rxSeq := (y.rxSeq + 1) % 4096 })).emit (.packet n (controlPacket x.rxSeq false give)), true)

/-! ### Answers -/

/-- The generations that a packet of a context carries (R381). -/
def State.gensOf (s : State) (q c : Nat) : Nat × Nat × Nat := (s.mod.devGen, (s.quad q).gen, (s.ctx c).gen)

/-- An answer reaches the sender (R377, R381): dropped where its generations are old; the packet it answers is done when
every word was admitted, a violation is raised at the sending site, and any other refusal is sent again. -/
def State.takeAnswer (s : State) (p : Packet) : State :=
  let c := p.srcCtx
  if p.gens ≠ s.gensOf p.srcQuad c then
    { s with avdin := { s.avdin with lateReplies := bump16 s.avdin.lateReplies 1 } }
  else
    let mine := fun (o : OutPacket) =>
      o.packet.dest == p.src && o.packet.sluice == p.sluice && o.packet.inst == p.inst && o.packet.pktNo == p.pktNo
    match (s.ctx c).outPackets.find? mine with
    | none => s
    | some o =>
      let k := fun (i : Nat) => p.counts.getD i 0
      let good := decide (k 0 = o.packet.nwords)
      -- an ANSWER carries neither the condition nor the first refused offset of a violation (Table 12.3)
      let found := Config.remoteViolation c p.inst p.pktNo
      let s1 := (s.modCtx c (fun x => { x with
        outPackets := if good || decide (0 < k 4) then x.outPackets.filter (fun z => !mine z)
          else x.outPackets.map (fun z => if mine z then { z with answered := true, refused := true } else z) })).engineRetire p.srcQuad 3
      let note := fun (t : Transfer) =>
        let u := { t with answered := t.answered + o.packet.nwords, bytes := t.bytes + 64 * k 0, nackClosed := t.nackClosed + k 1
                          nackOff := t.nackOff + k 2, nackReset := t.nackReset + k 3 }
        let v := if p.status = 0 then (if o.packet.poison.isEmpty then u else u.note (tokCode .poisoned)) else u.note p.status
        if 0 < k 4 then { v with violation := some (found.1, found.2) } else v
      let s2 := if o.answered then s1 else s1.modSite o.site (fun a => a.modXfer o.xfer note)
      if 0 < k 4 then
        match (s.site o.site).xfer o.xfer with
        | some t => s2.modSite o.site (fun a => a.violate t found.1 found.2 s.turn.cycle)
        | none => s2
      else s2

/-! ### Writes addressed to the device (R368, R374) -/

/-- The context whose plan a pipeline identifier matches (R368): one with a sluice that admits another device. -/
def State.pipelineCtx (s : State) (id : Nat) : Option Nat :=
  allCtxs.find? (fun c => (s.ctx c).pipeline == id && (s.ctx c).plan.any (fun p =>
    p.body.sluices.any (fun d => d.sources / 4 % 2 == 1)))

/-- The counts of an answer that gives every word one outcome. -/
def allWords (n i : Nat) : List Nat := lmod [0, 0, 0, 0, 0] i (fun _ => n)

/-- One word judged, its admitted write queued under packet number `id`, and the outcome counted: admitted, WINDOW_CLOSED,
BANK_OFF, RESETTING, violation. -/
def State.takeWord (s : State) (q id : Nat) (p : Packet) (acc : List Nat) (i : Nat) : State × List Nat :=
  let off := p.offset + 64 * i
  let pq := p.destTile / Config.tilesPerQuad
  let tile := p.destTile % Config.tilesPerQuad
  let v := s.judge q pq tile p.sluice off s.portCycle (.device p.src) (.inr p.pipeline)
  let s1 := s.countVerdict q v
  let bump := fun (k : Nat) => lmod acc k (fun x => x + 1)
  match v with
  | .allow k =>
    match (s1.quad q).sluices.find? (fun e => e.1 == k) with
    | none => (s1, bump 1)
    | some (_, e) =>
      (s1.modSite (s1.siteOf q (e.owner % Config.tilesPerQuad)) (fun x => { x with ex := { x.ex with
        writes := x.ex.writes ++ [{ addr := e.base + off, bytes := p.words.getD i (List.replicate 64 0), poison := p.poison.contains i,
                                    fromSite := fromPort + id, entry := k, xfer := 0 }] } }), bump 0)
  | .violation _ _ => (s1, bump 4)
  | .resetting => (s1, bump 3)
  | _ => (s1, bump 1)

/-- Every word of a packet judged in order. -/
def State.takeWords (s : State) (q id : Nat) (p : Packet) : State × List Nat :=
  (List.range p.nwords).foldl (fun acc i => acc.1.takeWord q id p acc.2 i) (s, [0, 0, 0, 0, 0])

/-- The first non-OK status that word counts name. -/
def countsStatus (k : List Nat) : Nat :=
  if 0 < k.getD 4 0 then 1 else if 0 < k.getD 1 0 then 3 else if 0 < k.getD 2 0 then 4 else if 0 < k.getD 3 0 then 5 else 0

/-- The quadrant at whose page the ingress port counts a write that names no quadrant of a plan. DESIGN CHOICE (log 76): the
spec names none; the lowest that the context is bound to, or QD0. -/
def State.ingressQuad (s : State) (c : Option Nat) : Nat :=
  match c with
  | some k => (s.ctx k).quads.headD 0
  | none => 0

/-- `n` writes refused as WINDOW_CLOSED at QD`q` (Table 8.8). -/
def State.countClosed (s : State) (q n : Nat) : State := s.modQuad q (fun x => { x with nackClosed := bump32 x.nackClosed n })

/-- The words of a packet judged at QD`q` (R374, R241): its arrival bit, and its answer at once where no admitted word waits
to be written (R243). -/
def State.judgePacket (s : State) (c q d : Nat) (p : Packet) : State × Option Packet :=
  let id := s.avdin.arrivalNo
  let pq := p.destTile / Config.tilesPerQuad
  let w := s.takeWords q id p
  let full := w.2.getD 0 0 == p.nwords
  let mark := fun (y : CrossIn) => if y.planQuad = pq ∧ y.sluice = p.sluice ∧ full then
      (if d = 0 then { y with map0 := nins y.map0 p.pktNo } else { y with map1 := nins y.map1 p.pktNo }) else y
  let t := w.1.modCtx c (fun y => { y with crossIn := y.crossIn.map mark })
  if w.2.getD 0 0 = 0 then (t, some (p.answer (s.position.getD 0) (countsStatus w.2) w.2))
  else ({ t with avdin := { t.avdin with
      arrivalNo := id + 1
      arrivals := t.avdin.arrivals ++ [{ id := id, quad := q, packet := p, left := w.2.getD 0 0, counts := w.2 }] } }, none)

/-- A WRITE packet at its destination: the state after it, and its answer where it has one at once (R368, R374, R241). -/
def State.takeWrite (s : State) (p : Packet) : State × Option Packet :=
  let src := s.position.getD 0
  let n := p.nwords
  let closed := some (p.answer src 3 (allWords n 1))
  if decide (s.mod.dev = .resetting) || s.check.chipBraked then (s, some (p.answer src 5 (allWords n 3)))
  else match s.pipelineCtx p.pipeline with
  | none => (s.countClosed (s.ingressQuad none) n, closed)
  | some c =>
    let x := s.ctx c
    let pq := p.destTile / Config.tilesPerQuad
    match x.quads[pq]?, (x.plan.bind (fun l => l.tile p.destTile)).isSome with
    | some q, true =>
      let z := s.quad q
      if decide (z.recState = .fast) || decide (z.recState = .full) || z.braked then
        (s.modQuad q (fun y => { y with nackResettingTx := bump32 y.nackResettingTx n }), some (p.answer src 5 (allWords n 3)))
      else match x.crossIn.find? (fun r => r.planQuad == pq && r.sluice == p.sluice) with
      | none => (s.countClosed q n, closed)
      | some r =>
        let d := (p.inst + 65536 - r.next % 65536) % 65536
        if d < 2 then s.judgePacket c q d p
        else if 32768 ≤ d then
          ({ s with avdin := { s.avdin with dupWrites := bump16 s.avdin.dupWrites 1 } }, some (p.answer src 0 (allWords n 0)))
        else ({ s with avdin := { s.avdin with earlyNacks := bump16 s.avdin.earlyNacks 1 } }, closed)
    | _, _ =>
      (s.modQuad (s.ingressQuad (some c)) (fun y => { y with violationsRx := bump16 y.violationsRx n }),
        some (p.answer src 1 (allWords n 4)))

/-! ### Sending -/

/-- An answer sent or delivered: dropped where it is unroutable (R366). -/
def State.sendAnswer (s : State) (p : Packet) : State :=
  match s.route p none with
  | .here => s.takeAnswer p
  | .out n cls det => s.queueOn n { p with cls := cls, detoured := det }
  | .lost => { s with avdin := { s.avdin with unroutable := bump16 s.avdin.unroutable 1 } }

/-- A packet sent on or delivered (R363 to R368): an unroutable WRITE is answered with NO_RESOURCE. -/
def State.forward (s : State) (p : Packet) (inDim : Option Nat) : State :=
  match s.route p inDim with
  | .here =>
    match p.kind with
    | .write => let r := s.takeWrite p
                match r.2 with
                | some a => r.1.sendAnswer a
                | none => r.1
    | _ => s.takeAnswer p
  | .out n cls det => s.queueOn n { p with cls := cls, detoured := det }
  | .lost =>
    let t := { s with avdin := { s.avdin with unroutable := bump16 s.avdin.unroutable 1 } }
    match p.kind with
    | .write =>
      let a := p.answer (s.position.getD 0) 2 [0, 0, 0, 0, 0]
      if s.position = some p.src ∨ s.position = none then t.takeAnswer a else t.sendAnswer a
    | _ => t

/-! ### Admitted writes written, and banks that power down (R242, R266 to R268) -/

/-- A word of packet `id` written, or dropped where `dropped` holds; with its last word the packet is answered (R243, R268). -/
def State.packetWord (s : State) (id : Nat) (dropped : Bool) : State :=
  match s.avdin.arrivals.find? (fun r => r.id == id) with
  | none => s
  | some r =>
    let k := if dropped then lmod (lmod r.counts 0 (· - 1)) 2 (· + 1) else r.counts
    if r.left ≤ 1 then
      ({ s with avdin := { s.avdin with arrivals := s.avdin.arrivals.filter (fun z => z.id != id) } }).sendAnswer
        (r.packet.answer (s.position.getD 0) (countsStatus k) k)
    else
      { s with avdin := { s.avdin with arrivals := s.avdin.arrivals.map (fun z =>
          if z.id = id then { z with left := z.left - 1, counts := k } else z) } }

/-- The answer to an admitted write that has been written, or dropped with BANK_OFF (R243, R268): to its engine, or to the
packet that brought it. -/
def State.settleWrite (s : State) (w : SluiceWrite) (dropped : Bool) : State :=
  if fromPort ≤ w.fromSite then s.packetWord (w.fromSite - fromPort) dropped
  else s.answer w.fromSite w.xfer (if dropped then 4 else if w.poison then 6 else 0) 0 0

/-- Whether the remote port of a site may write a word to bank `b` in `cycle` (R242, R245, Table 3.3): behind refills and spills,
one word per cycle, and in the work window only in a cycle, whose bundle has issued, without a local access to the bank. -/
def State.portWrites (s : State) (a : Site) (b cycle : Nat) : Bool :=
  decide (a.refillEnd ≤ cycle) && decide (a.spillEnd ≤ cycle) && decide (a.ex.landAt ≤ cycle) && !s.powersUp a b &&
    (s.turn.window ≠ .work || (a.issuedPast cycle && decide (a.usedAt ≤ cycle) && !(decide (a.usedAt = cycle) && a.usedBanks.contains b)))

/-- SLUICE_WRITE_LAND (R242): the oldest admitted write to `bank` of an owner's site is written in `cycle` and acknowledged,
also where the bank has closed since. -/
def execSluiceWriteLand (site bank cycle : Nat) (s : State) : Result3 :=
  let t := s.upToCycle site cycle
  let a := t.site site
  .next (match a.ex.writes.find? (fun w => bankOf w.addr == bank) with
    | none => s
    | some w =>
      if !t.portWrites a bank cycle then s else
      (t.setSite site { a with
        scr := a.scr.setWord64 w.addr w.bytes w.poison
        ex := { a.ex with writes := a.ex.writes.erase w, landAt := cycle + 1 } }).settleWrite w false)

/-- A bank loses its content as it loses power (R98, R268). -/
def Site.powerDown (a : Site) (bank : Nat) : Site :=
  { a with
    scr := a.scr.clearWhere (fun ad => ad / 32768 == bank)
    bank := { a.bank with draining := ndel a.bank.draining bank } }

/-- BANK_DRAIN_DONE (R268): the last admitted write to a bank going OFF is written, and the bank loses power. -/
def execBankDrainDone (site bank : Nat) (s : State) : Result3 :=
  let a := s.site site
  .next (if a.bank.draining.contains bank && !(a.ex.writes.any (fun w => bankOf w.addr == bank)) then
    s.setSite site (a.powerDown bank) else s)

/-- BANK_DRAIN_TIMEOUT (R268): 64 µs after the boundary the writes still pending are dropped and NACKed with BANK_OFF. -/
def execBankDrainTimeout (site bank : Nat) (s : State) : Result3 :=
  let a := s.site site
  .next (if a.bank.draining.contains bank then
      let lost := a.ex.writes.filter (fun w => bankOf w.addr == bank)
      let b := ({ a with ex := { a.ex with writes := a.ex.writes.filter (fun w => !(bankOf w.addr == bank)) } } : Site).powerDown bank
      let s1 := lost.foldl (fun u w => u.settleWrite w true) (s.setSite site b)
      { s1 with reef := { s1.reef with
          bankOffDrops := bump16 s1.reef.bankOffDrops lost.length, drainTimeouts := bump16 s1.reef.drainTimeouts 1 } }
    else s)

/-! ### The release of crossings (R371, R376, R394) -/

/-- The destination position of a descriptor for another device. -/
def DmaDesc.destPos (d : DmaDesc) : Nat := d.dest / 2048 % 2 ^ 18

/-- The crossing of a context towards a position and sluice. -/
def Ctx.crossing (x : Ctx) (d : DmaDesc) : CrossOut :=
  match x.crossOut.find? (fun k => k.dest == d.destPos && k.sluice == d.farRegion % 256) with
  | some k => k
  | none => { dest := d.destPos, sluice := d.farRegion % 256, inst := 0, packets := 0, lastTurn := none }

/-- That crossing replaced. -/
def Ctx.setCrossing (x : Ctx) (k : CrossOut) : Ctx :=
  { x with crossOut := x.crossOut.filter (fun z => !(z.dest == k.dest && z.sluice == k.sluice)) ++ [k] }

/-- The WRITE packet of row `r` of a transfer. -/
def State.rowPacket (s : State) (site c : Nat) (t : Transfer) (r : Nat) : Packet :=
  let a := s.site site
  let n := t.d.rowBytes / 64
  let at_ := fun (i : Nat) => t.scratch + r * t.d.rowBytes + 64 * i
  { controlPacket 0 false [0, 0, 0, 0] with
    kind := .write, ackValid := false, dest := t.d.destPos, src := s.position.getD 0, pipeline := (s.ctx c).pipeline
    sluice := t.d.farRegion % 256, destTile := t.d.dest % 2048, srcTile := a.gtile, offset := t.far + r * t.d.stride
    words := (List.range n).map (fun i => a.scr.word64 (at_ i)), nwords := n, inst := ((s.ctx c).crossing t.d).inst % 65536
    pktNo := t.pkt + r, srcCtx := c, srcQuad := site / Config.sitesPerQuad, gens := s.gensOf (site / Config.sitesPerQuad) c
    desc := t.desc, tag := t.d.tag, poison := (List.range n).filter (fun i => a.scr.poison64 (at_ i)) }

/-- A transfer to another device released (R60, R371): its packets go out and wait for their answers. -/
def State.releaseXfer (s : State) (site c : Nat) (t : Transfer) : State :=
  (List.range t.d.rows).foldl (fun u r =>
    let p := u.rowPacket site c t r
    let o : OutPacket := { packet := p, from_ := t.scratch + r * t.d.rowBytes, site := site, xfer := t.id, inst := p.inst, released := u.turn.no, sentTurn := u.turn.no,
                           answered := false, refused := false }
    let v := (u.modCtx c (fun x => { x with outPackets := x.outPackets ++ [o] })).modSite site (fun a =>
      a.modXfer t.id (fun y => { y with sent := y.sent + p.nwords, word := y.word + p.nwords }))
    v.forward p none) s

/-- Everything that a context holds back for its vouch released (R394). -/
def State.releaseCtx (s : State) (c : Nat) : State :=
  (s.ctxSites c).foldl (fun u i =>
    ((u.site i).ex.xfers.filter (fun t => decide (t.cls = .otherDevice) && t.sent == 0 && !t.silent)).foldl
      (fun v t => v.releaseXfer i c t) u) s

/-- A vouched turn's crossings move to their next instance, a withheld turn's keep theirs (R371). -/
def Ctx.endInstances (x : Ctx) (vouched : Bool) (turn : Nat) : Ctx :=
  { x with crossOut := x.crossOut.map (fun k =>
      if 0 < k.packets then
        (if vouched then { k with inst := k.inst + 1, packets := 0, lastTurn := some turn } else { k with packets := 0 }) else k) }

/-- A packet as the quadrant controller sends it again (R377): its words read anew from the source region. -/
def State.reread (s : State) (c : Nat) (o : OutPacket) : Packet :=
  match s.siteOfTile (s.ctx c) o.packet.srcTile with
  | none => o.packet
  | some i =>
    let m := (s.site i).scr
    let at_ := fun (k : Nat) => o.from_ + 64 * k
    { o.packet with words := (List.range o.packet.nwords).map (fun k => m.word64 (at_ k))
                    poison := (List.range o.packet.nwords).filter (fun k => m.poison64 (at_ k)) }

/-- The packets of a context that are sent again (R377): refused ones, and ones without an answer for a whole turn. -/
def State.resendCtx (s : State) (c : Nat) : State :=
  (s.ctx c).outPackets.foldl (fun u o =>
    if o.refused || (!o.answered && decide (o.sentTurn < u.turn.no)) then
      let t := u.modCtx c (fun x => { x with outPackets := x.outPackets.map (fun z =>
        if z.packet.dest = o.packet.dest ∧ z.packet.sluice = o.packet.sluice ∧ z.packet.inst = o.packet.inst ∧
          z.packet.pktNo = o.packet.pktNo then { z with refused := false, sentTurn := u.turn.no } else z) })
      let v := t.forward (u.reread c o) none
      { v with avdin := { v.avdin with resends := bump32 v.avdin.resends 1 } }
    else u) s

/-- DMA_DESCRIPTOR_FETCH (R143, R144): in a wide cycle of the work window (R18) that reloads and the matrix slot leave free the
engine of a site fetches its oldest queued descriptor, checks it, and starts the transfer or answers BAD_COMMAND. A transfer to another device takes its packet numbers in
issue order, at most 256 of an instance (R371), and is released at once where the context's vouch mode is OFF (R62). -/
def execDmaDescriptorFetch (site cycle : Nat) (s : State) : Result3 :=
  let s0 := s.upToCycle site cycle
  let a := (s0.site site).touch cycle (bankOf (s0.site site).descBase)
  let q := site / Config.sitesPerQuad
  .next (if s.turn.window ≠ .work || !s.dmaServed site cycle then s else
    match a.ex.dmaq, a.ctx with
    | r :: rest, some c =>
      let x := s.ctx c
      let d := a.desc r.desc
      let scratch := d.scratch + r.sa.toNat
      let far := d.farBase + r.sb.toNat
      let away := decide (d.cls = .otherDevice)
      let k := x.crossing d
      let t : Transfer :=
        { id := a.ex.xferNo, quadGen := (s.quad q).gen, ctxGen := x.gen, desc := r.desc, d := d, scratch := scratch,
          far := far, cls := d.cls, turn := s.turn.no, pkt := if away then k.packets else 0, word := 0, sent := 0, answered := 0
          status := 0, bytes := 0, nackOff := 0, nackClosed := 0, nackReset := 0, violation := none, silent := false
          tokenSent := false }
      let b : Site := { a with ex := { a.ex with dmaq := rest, xferNo := a.ex.xferNo + 1 } }
      let good := match x.plan with
        | some p => d.ok p (a.gtile / Config.tilesPerQuad) scratch far && (!away || decide (k.packets + d.rows ≤ 256))
        | none => false
      if good then
        let s1 := (s0.setSite site { b with ex := { b.ex with xfers := b.ex.xfers ++ [t] } }).engineIssue q d.cls.engine c
        if away then
          let s2 := s1.modCtx c (fun y => y.setCrossing { k with packets := k.packets + d.rows })
          if x.vouchOn then s2 else s2.releaseXfer site c t
        else s1
      else s0.setSite site (b.deliverToken t cycle (tokCode .badCommand) 0)
    | _, _ => s)

end Machine

end Sys2Proof
end

