-- ==== Sys2Proof/Machine/Contract.lean ====
section
/-! DEFINITION. The contract parameter block (R72, R73, Table 2.4). -/

namespace Sys2Proof.Machine

/-- A word from its fields, each with its highest bit, its lowest bit and its value. -/
def fields (l : List (Nat × Nat × Nat)) : Nat :=
  l.foldl (fun a e => a + e.2.2 % 2 ^ (e.1 + 1 - e.2.1) * 2 ^ e.2.1) 0

/-- A mask of the numbers below 64 that a predicate holds for. -/
def maskOf (p : Nat → Bool) : Nat := ((List.range 64).filter p).foldl (fun a n => a + 2 ^ n) 0

/-- The 26 words of the contract parameter block that its CRC covers (Table 2.4), as the hardware has them now; those of the ports
read 0 on a part without ports (R3). -/
def State.cpbWords (s : State) : List Nat :=
  let o := s.mod.order
  let g := s.turn.geom
  let budget := fun (q : Nat) => if o.quads.contains q then s.ddrBudget q else 0
  [0x47435042, fields [(31, 16, 1)], fields [(31, 16, 128), (15, 0, s.mod.cpbGen)],
    fields [(31, 28, quadMask o.quads), (15, 8, 16), (7, 0, 32)], g.word.toNat, g.work, fields [(31, 16, 160), (15, 0, 48)],
    fields [(31, 16, 128), (15, 8, 40), (7, 0, 24)], fields [(31, 24, 8), (23, 16, 6), (15, 8, 4), (7, 0, 1)],
    fields [(31, 24, 4), (23, 16, 4), (15, 8, 64), (7, 0, 25)], fields [(31, 16, s.ddr.mts), (15, 0, 2)],
    fields ((List.range 4).map (fun q => (8 * q + 7, 8 * q, if o.quads.contains q then s.trainedChannels q else 0))),
    budget 0, budget 1, budget 2, budget 3] ++
  (if o.ports.isEmpty then [0, 0, 0, 0]
   else [fields [(31, 24, maskOf (fun n => o.ports.contains n)), (23, 16, g.hMax 0), (15, 0, 600)], g.portCloseBytes, 200,
     s.position.getD 0]) ++
  [fields [(31, 24, 16), (23, 12, 1024), (11, 0, 256)], fields [(31, 24, 4), (23, 16, 64), (15, 8, 4), (7, 0, 32)],
    fields [(31, 16, 1024), (15, 0, 512)], o.units, s.mod.cpbTurn % 2 ^ 32, s.mod.cpbTurn / 2 ^ 32]

/-- The block stands as it is until a boundary (R73). -/
def State.cpbHold (s : State) : State :=
  if s.mod.cpbHeld.isSome then s else { s with mod := { s.mod with cpbHeld := some s.cpbWords } }

/-- At a boundary the block takes what the hardware has become; a change moves CPB_GENERATION and CHANGED_TURN (R73). -/
def State.cpbSettle (s : State) : State :=
  match s.mod.cpbHeld with
  | none => s
  | some w =>
    let t := { s with mod := { s.mod with cpbHeld := none } }
    if t.cpbWords = w then t else t.cpbChanged

/-- The block at the first boundary of a start (R73, Table 2.4): CPB_GENERATION is 0 at a cold bring-up; a chip reset that recomputes
a field to another value moves it. -/
def State.cpbStarted (s : State) : State :=
  if s.mod.cold then { s with mod := { s.mod with cpbGen := 0, cpbHeld := none } } else s.cpbSettle

end Sys2Proof.Machine
end

