-- ==== Sys2Proof/Machine/Turns.lean ====
section
/-! DEFINITION. The turn (R14 to R36): the governor's decision and the turn boundary, the work and dressing windows, the
marks, and the step. -/

namespace Sys2Proof.Machine

/-! ### The reef governor (R250 to R259) -/

/-- The allowance A in W (R251). -/
def Reef.allowance (r : Reef) : Nat := min (min r.trayW (if r.hostW = 0 then 3600 else r.hostW)) 3600

/-- E_c(g, f) of a context whose rings held `q` streams (R254). -/
def Ctx.energy (x : Ctx) (g q : Nat) : Rat :=
  match x.plan with
  | none => 0
  | some p =>
    let d := p.gear g
    let f : Rat := min 1 ((q : Rat) / (max d.batch 1 : Nat))
    (d.eIdle : Rat) + f * ((d.eFull : Rat) - (d.eIdle : Rat))

/-- q_c: the context's streams with pending work at the intake of the turn (R254). -/
def Ctx.queued (x : Ctx) : Nat := x.privSnap.length + x.bulkSnap.length

/-- Σ E_c at a level over the contexts that run plan code (R254). -/
def State.planEnergy (s : State) (level : Nat) : Rat :=
  ((allCtxs.filter (fun c => (s.ctx c).active)).map (fun c => (s.ctx c).energy ((s.ctx c).target_ level) (s.ctx c).queued)).sum

/-- P(L) in W (R254). -/
def State.predicted (s : State) (level : Nat) : Rat := (s.reef.eFloor + s.reef.k * s.planEnergy level) / s.turn.geom.micros

/-- The highest sample of any die in the turn (R255). -/
def Reef.tjMax (r : Reef) : Nat := r.tempsNow.foldl max 0

/-- K after a turn (R253): the plan energies are those of the contexts that were RUNNING or DRAINING in the turn (R254), in their
running gearings; some context must have run with one that is not 0. -/
def State.calibrated (s : State) (eMeas : Nat) : Rat :=
  let sum := fun (p : Ctx → Bool) =>
    ((allCtxs.filter (fun c => p (s.ctx c))).map (fun c => (s.ctx c).energy (s.ctx c).gearing (s.ctx c).queued)).sum
  let e := sum (fun x => x.ran || x.active)
  if sum Ctx.ran = 0 ∨ e = 0 ∨ s.reef.switchedNow ∨ s.reef.hotNow then s.reef.k
  else max (1 / 2) (min 2 (s.reef.k + (((eMeas : Rat) - s.reef.eFloor) / e - s.reef.k) / 16))

/-- The level that the decision of R256 reefs down to, with A, P_meas of two turns and Tj_max. -/
def State.reefDown (s : State) (p0 p1 : Rat) : Nat :=
  let r := s.reef
  let a : Rat := r.allowance
  let d := if r.level < 3 ∧ (a < s.predicted r.level ∨ (a < p0 ∧ a < p1 ∧ r.pending = false)) then
      (([1, 2, 3].filter (fun l => decide (r.level < l))).find? (fun l => decide (s.predicted l ≤ a))).getD 3
    else r.level
  if 95 ≤ r.tjMax ∧ r.thermalPending = false then max d (min 3 (r.level + 1)) else d

/-- Every context's target at a new device level (R250). -/
def State.setTargets (s : State) : State :=
  allCtxs.foldl (fun u c =>
    if (u.ctx c).plan.isSome then u.modCtx c (fun x => { x with target := x.target_ u.reef.level }) else u) s

/-- The governor at the close of a turn whose energy is E_meas in µJ (R252, R253, R256, R257). -/
def State.govern (s0 : State) (eMeas : Nat) : State :=
  let s := s0.settleTargets
  let r := s.reef
  let p1 : Rat := (eMeas : Rat) / s.turn.geom.micros
  let a : Rat := r.allowance
  let tj := r.tjMax
  let s1 := { s with reef := { r with
    energy := r.energy + eMeas, eMeas := eMeas, measuredPrev := r.measured, measured := p1, k := s.calibrated eMeas
    overshoot := bump16 r.overshoot (if a < p1 then 1 else 0), thermalLimit := decide (95 ≤ tj)
    thermalTurns := bump16 r.thermalTurns (if 95 ≤ tj then 1 else 0) } }
  if s.check.chipBraked then s1
  else
    let down := s1.reefDown r.measured p1
    let up := decide (0 < r.level) && decide (s1.predicted (r.level - 1) ≤ a * 19 / 20) && decide (p1 ≤ a) && decide (tj ≤ 90)
    let level := if r.level < down then down else if up ∧ r.upCount + 1 = 16 then r.level - 1 else r.level
    let count := if r.level < down then 0 else if up then (r.upCount + 1) % 16 else 0
    let s2 := { s1 with reef := { s1.reef with
      level := level, upCount := count, overAllowance := decide (a < s1.predicted 3)
      pending := s1.reef.pending || decide (level ≠ r.level), dropped := if level = r.level then r.dropped else []
      thermalPending := r.thermalPending || (decide (95 ≤ tj) && decide (r.level < level)) } }
    let s3 := { s2 with reef := { s2.reef with
      pred := s2.predicted level, predUp := if level = 0 then 0 else s2.predicted (level - 1) } }
    s3.setTargets.settleTargets

/-! ### The boundary (R18, R21, R66) -/

/-- Messages that a hopper loses at a boundary (R66). -/
def Hopper.lost (h : Hopper) : Nat :=
  h.msgs.length + h.waiting.length + (h.index.filter (fun e => !e.skip)).length + h.refills.length

/-- The steering items that a site loses at a boundary (R213): those in skid buffers, and the entries of the token queues that
the active slot's table names as inputs. -/
def Site.itemsLost (a : Site) : Nat :=
  let queues := (a.steerEntries (a.seq.slotFrom + 1)).flatMap (fun e => (match e.2.dsrc with
    | .tq q => [q.toNat]
    | .hopper _ => []) ++ (match e.2.csrc with
    | some q => [q.toNat]
    | none => []))
  (a.ex.skids.map (fun e => e.2.data.length + e.2.ctrl.length)).sum +
    ((a.ex.tq.filter (fun e => queues.contains e.1)).map (fun e => e.2.length)).sum

/-- A site's turn-local state emptied at a boundary (R66), with the messages and steering items lost. The faults it raised after
the close judged the turn stay for the next close. -/
def Site.emptied (a : Site) : Site × Nat :=
  let n := (a.ex.h.map (fun e => e.2.lost)).sum + a.ex.pad.length + a.itemsLost
  ({ a with
      seq := { a.seq with status := .off, stalls := 0, steerStalls := 0, loops := [], landings := [], clock := 0, next := 0 }
      mat := MatrixUnit.cleared, reload := none, judged := [], usedAt := 0, usedBanks := []
      bank := { a.bank with old := a.bank.own, from_ := 0, rising := [] }
      ex := { a.ex with
        h := a.ex.h.map (fun e => (e.1, { Hopper.empty with pondBase := e.2.pondBase, pondUnits := e.2.pondUnits }))
        tq := [], skids := [], injUnits := 0, injAt := 0, steer := 0, steerOff := false, popAt := none, late := false, pad := [], landAt := 0 } },
    n)

/-- The contexts whose emptying a snapshot defers (R438). -/
def State.deferred (s : State) : List Nat := s.quads.flatMap (fun e => if e.2.snap.pending then e.2.snap.ctxs else [])

/-- A context's sites emptied, the messages lost being counted. -/
def State.emptyCtx (s : State) (c : Nat) : State :=
  (s.ctxSites c).foldl (fun u i =>
    let r := (u.site i).emptied
    (u.setSite i r.1).modQuad (i / Config.sitesPerQuad) (fun x => { x with dropped := bump32 x.dropped r.2 })) s

/-- Whether the boundary is a gear point of a context (R63). -/
def Ctx.atGearPoint (x : Ctx) : Bool :=
  match x.plan with
  | some p => x.turn % max p.hdr.gearPeriod 1 == 0
  | none => false

/-- A context that enters RUNNING starts in the gearing of its effective level (R258); a switch to it that waits is moot. -/
def State.enterGear (s : State) (c : Nat) : State :=
  let x := s.ctx c
  let g := x.target_ s.reef.level
  let t := (if g = x.gearing then s else s.setGear c g).modCtx c (fun y => { y with target := g })
  match alook t.sets (65536 + c) with
  | some z => if z.changes = [.gearing c g] then { t with sets := adel t.sets (65536 + c) } else t
  | none => t

/-- The transitions of a context that take effect at a boundary (R258, R303). DEDUCED (log 80): CTX_RESUME from FAULTED executes
the withheld turn again in its gearing; from PAUSED the context enters RUNNING anew. -/
def State.transition (s : State) (c : Nat) : State :=
  let x := s.ctx c
  if x.aborting || x.unloading then s
  else match x.trans with
  | some .start =>
    if x.state = .loaded then
      let g := x.target_ s.reef.level
      (s.setGear c g).modCtx c (fun y => { y with state := .running, trans := none, target := g, redo := false })
    else s
  | some .resume =>
    let t := s.modCtx c (fun y => { y with
      state := if y.state = .paused then .running else y.prior, trans := none, redo := y.redo || decide (y.state = .faulted)
      lateTried := false })
    if x.state = .paused then t.enterGear c else t
  | some .pause =>
    if x.state = .running ∧ x.atGearPoint then s.modCtx c (fun y => { y with state := .paused, prior := .running, trans := none })
    else s
  | none => s

/-- The crossing that a context waits for at a boundary (R373, R375). -/
def Ctx.awaited (x : Ctx) : Option CrossIn :=
  match x.plan with
  | none => none
  | some p => x.crossIn.find? (fun k => p.body.crossings.any (fun d =>
      d.gearing == x.gearing && d.planQuad == k.planQuad && d.sluice == k.sluice && decide (d.duePhase ≤ x.turn) &&
        (x.turn - d.duePhase) % max d.dueEvery 1 == 0 && !(List.range d.packets).all (fun i => k.map0.contains i)))

/-- The wait or hold turn of a context at boundary `no` (R375, R376), counted; the restore of slot images that does not
fit the dressing and close windows takes one hold turn (R447). -/
def State.setWait (s : State) (c : Nat) : State :=
  let x := s.ctx c
  if !x.active then (if x.wait.isNone then s else s.modCtx c (fun y => { y with wait := none }))
  else match x.outPackets.find? (fun o => o.released + 2 ≤ s.turn.no) with
  | some o =>
    let t := s.modCtx c (fun y => { y with wait := some { shown := true, hold := true, planQuad := o.packet.destTile / Config.tilesPerQuad,
                                                          sluice := o.packet.sluice, inst := o.inst } })
    { t with avdin := { t.avdin with holdTurns := bump32 t.avdin.holdTurns 1 } }
  | none =>
    match x.awaited with
    | some k =>
      let t := s.modCtx c (fun y => { y with wait := some { shown := true, hold := false, planQuad := k.planQuad, sluice := k.sluice, inst := k.next } })
      { t with avdin := { t.avdin with waitTurns := bump32 t.avdin.waitTurns 1 } }
    | none =>
      if x.restoring then s.modCtx c (fun y => { y with wait := some { shown := false, hold := true, planQuad := 0, sluice := 0, inst := 0 }, restoring := false })
      else if x.wait.isNone then s else s.modCtx c (fun y => { y with wait := none })

/-- The rings of a context as they stand at the boundary, and its turn's beginnings (R329). -/
def Ctx.newTurn (x : Ctx) : Ctx :=
  { x with ran := false, filling := none, privSnap := x.privRing, bulkSnap := x.bulkRing }

/-- The activity masks and counts of a quadrant's engines move on by a turn (R435). -/
def Quad.shiftEngines (x : Quad) : Quad :=
  { x with engines := x.engines.map (fun e => (e.1,
      { e.2 with mask := (e.2.now :: e.2.mask).take 64, now := [], retired := 0, tripped := false })) }

/-- Plan traffic beyond the DDR budget is counted, and the counts of the turn start anew (R59). -/
def State.closeDdr (s : State) : State :=
  let beyond := s.mod.order.quads.any (fun q => decide (s.ddrBudget q < aget 0 s.ddr.used q))
  { s with ddr := { s.ddr with used := [], overBudget := bump32 s.ddr.overBudget (if beyond then 1 else 0) } }

/-- A port's close-window load (Table 12.18). -/
def Port.newTurn (x : Port) (budget : Nat) : Port :=
  { x with peak := max x.peak x.payload, overBudget := bump32 x.overBudget (if budget < x.payload then 1 else 0), payload := 0 }

/-- The mark that the turn master sends at a boundary (R25). -/
def State.ownMark (s : State) : Mark :=
  { turnLow := s.turn.no % 65536, geometry := s.turn.geom.word, priority := s.turn.ownPrio, pos := s.position.getD 0, hops := 0,
    offset := 0, aligned := true }

/-- A mark sent on every trained port but one (R25, R26). -/
def State.sendMark (s : State) (except : Option Nat) (m : Mark) : State :=
  (s.mod.order.ports.filter (fun n => s.carries n && some n != except)).foldl (fun u n => u.emit (.mark n m)) s

/-- The context that an outstanding command names: none for a CFG_COMMIT and for a CFG_STAGE that touches no context. -/
def State.cmdCtx (s : State) (x : Cmd) : Option Nat :=
  if x.opc = 0x05 then none
  else if x.opc = 0x04 then
    (match alook s.sets x.arg with
     | some z => if z.changes.any (fun ch => ch.ctxOf == some x.ctx) then some x.ctx else none
     | none => none)
  else some x.ctx

/-- Whether a command's deadline stands still in a turn: its context is PAUSED, or its ring TAILRACE_FULL (R300). -/
def State.stalls (s : State) (x : Cmd) : Bool :=
  decide ((s.ring x.fn x.ring).state = .full) || (s.fn x.fn).d3hot ||
    (match s.cmdCtx x with
     | some c => decide ((s.ctx c).state = .paused)
     | none => false)

/-- One more elapsed turn for every outstanding command (R23, R300). -/
def State.countDeadlines (s : State) : State :=
  let count := fun (x : Cmd) => if s.stalls x then x else { x with elapsed := x.elapsed + 1 }
  { s with cmds := s.cmds.map count }

/-- The records that wait for a stream entry beyond the filling of their context (R329, R446). -/
def State.overdueWaits (s : State) : List (Nat × Nat × Nat) :=
  s.streams.waits.filter (fun w => (s.ctx (w.2.2 - 1)).filling.isSome || s.streams.overdue.contains w)

/-- A boundary at which TURN_NO is a multiple of DIGEST_PERIOD calls for a digest pass (R396, R6). -/
def State.callPass (s : State) : State :=
  if s.mod.order.digest && decide (s.check.period ≠ 0) && s.turn.no % s.check.period == 0 then
    { s with check := { s.check with passDue := true } } else s

/-- Boundary `no` (R18, R21, R32, R66): turn-local state emptied, transitions, fences, waits and holds, the counts of the
turn, and the master's marks. -/
def State.boundary (s : State) (no : Nat) : State :=
  let s0 := s.closeDdr
  let keep := s0.deferred
  let s1 := allCtxs.foldl (fun u c => if ((u.ctx c).active || (u.ctx c).ran) && !keep.contains c then u.emptyCtx c else u) s0
  let t := s1.turn
  let step := t.stepPending
  let newRing := fun (r : Nat × Ring) => (r.1, { r.2 with readNow := 0 })
  let newFn := fun (e : Nat × Fn) => (e.1, { e.2 with polled := none, sent := false, rings := e.2.rings.map newRing })
  let newQuad := fun (e : Nat × Quad) => (e.1, e.2.shiftEngines)
  let newPort := fun (e : Nat × Port) => (e.1, e.2.newTurn s1.turn.geom.portCloseBytes)
  let newSet := fun (e : Nat × ChangeSet) => (e.1, if e.2.state = .staged then { e.2 with age := e.2.age + 1 } else e.2)
  let s2 : State := { s1 with
    turn := { t with no := no, window := .intake, cycle := 0, stepTurn := step, stepPending := false
                     clock := t.clock + t.geom.cycles, sinceMark := t.sinceMark + 1, sinceKey := t.sinceKey + 1
                     bestAge := t.bestAge + 1 }
    readUnits := 0, streams := { s1.streams with waits := [], overdue := s1.overdueWaits }, sets := s1.sets.map newSet
    reef := { s1.reef with temps := s1.reef.tempsNow, tempsNow := [], switchedNow := false, hotNow := s1.reef.hot.any id }
    fns := s1.fns.map newFn
    quads := s1.quads.map newQuad
    avdin := { s1.avdin with ports := s1.avdin.ports.map newPort } }
  let s3 := ((allCtxs.foldl (fun u c => u.transition c) s2).fenceAll).replaceAll.cpbSettle
  let s4 := allCtxs.foldl (fun u c => (u.setWait c).modCtx c Ctx.newTurn) s3
  let s5 := (s4.setHolds.countDeadlines.callPass).drivenModes
  if s5.turn.isMaster then s5.sendMark none s5.ownMark else s5

/-- The stream entries and the records of the close that ends (R322, R291), and the governor's decision for it. Under a chip
brake no ring is written. -/
def State.endClose (s : State) (energy vin : Nat) : State :=
  let t := if s.check.chipBraked then s else s.writeThrough.flushAll
  let u := t.govern energy
  { u with mod := { u.mod with vinMv := vin } }

/-- TURN_BOUNDARY (R15, R21, R252, R256): the last acts of the close window, then boundary TURN_NO + 1. The accumulator gives the
turn's energy in µJ, the monitor the input voltage in mV. -/
def execTurnBoundary (energy vin : Nat) (s : State) : Result3 :=
  .next (if s.turn.running && decide (s.turn.window = .close) && !s.turn.stepTurn then
      (s.endClose energy vin).boundary ((s.turn.no + 1) % 2 ^ 64) else s)

/-! ### The work and dressing windows -/

/-- A site at the first cycle of the work window (R66, R125): its gearing's ENTRY where its tile is active, else clock
gated (R261). Every reload of an earlier turn is long over, so every slot can be switched to (R132). -/
def PlanTile_start (t : PlanTile) (g epoch : Nat) (a : Site) : Site :=
  match t.entries.find? (fun e => e.gearing == g) with
  | none => { a with seq := { Sequencer.cleared with epoch := epoch, undef := true } }
  | some e =>
    let own := overlay a.bank.own (a.mapOf e.slot)
    { a with
      seq := { Sequencer.cleared with status := .running, pc := e.bundle, slot := e.slot, oldSlot := e.slot, epoch := epoch, undef := true }
      bank := { a.bank with own := own, old := own, from_ := 0 }
      reload := none, slots := a.slots.map (fun k => (k.1, { k.2 with readyAt := 0 }))
      mat := MatrixUnit.cleared
      vec := { v := [], vm := [], flags := [] } }

/-- A context's sites started (R125). -/
def State.startCtx (s : State) (c : Nat) : State :=
  let x := s.ctx c
  match x.plan with
  | none => s
  | some p =>
    let t := p.body.tiles.foldl (fun u d =>
      match u.siteOfTile x d.tile with
      | some i => if (u.site i).role = .live then u.modSite i (PlanTile_start d x.gearing (u.epochs * 4096 + i)) else u
      | none => u) s
    t.modCtx c (fun y => { y with ran := true })

/-- The intake engine's part of a turn: the contexts whose fillings it held; its watch trips where a filling has not
written its header unit by cycle 2,047 (Table 15.2). It is kept with QD0. -/
def State.intakeWatch (s0 : State) : State :=
  let s := allCtxs.foldl (fun u c => if (u.ctx c).filling.isSome then u.engineIssue 0 4 c else u) s0
  if allCtxs.any (fun c => match (s.ctx c).filling with
      | some f => !f.written
      | none => false) then
    s.modQuad 0 (fun x => { x with engines := amod Engine.reset x.engines 4 (fun e => { e with tripped := true }) })
  else s

/-- The quadrant controller resumes a late-fault context at the next boundary only (R437): afterwards it is left to the host. -/
def State.lapseLate (s : State) : State :=
  allCtxs.foldl (fun u c => if (u.ctx c).state = .faulted ∧ (u.ctx c).late then u.modCtx c (fun x => { x with late := false }) else u) s

/-- WORK_WINDOW_START (R125, R261): the sites of every context that runs plan code in this turn issue their ENTRY. -/
def execWorkWindowStart (s : State) : Result3 :=
  .next (if s.turn.running ∧ s.turn.window = .intake then
      let t := s.intakeWatch
      let u := { t with epochs := t.epochs + 1, turn := { t.turn with window := .work, cycle := t.turn.geom.start .work } }
      ((allCtxs.foldl (fun v c => if v.runs c then v.startCtx c else v) u).lapseLate).drivenModes
    else s)

/-- Whether a site's work is unfinished and no fault of its own has stopped it (R35). -/
def SeqStatus.overrun : SeqStatus → Bool
  | .running => true
  | .waiting _ => true
  | _ => false

/-- CAUSE_DATA of TURN_OVERRUN (Table 13.4). -/
def overrunData (g : Geometry) : List Byte := leBytes 4 g.work

/-- A site's plan code stopped at the end of the work window (R35): in-flight instructions are abandoned. -/
def Site.overrun (a : Site) (g : Geometry) : Site :=
  let b := a.raise .turnOverrun 0 (g.work - 1) (overrunData g)
  { b with seq := { b.seq with landings := [] }, mat := { b.mat with feeds := [], loads := [] }
           slots := match b.reload with
                    | some r => amod CfgSlot.empty b.slots r.slot (fun k => { k with undef := some (b.seq.epoch, g.work) })
                    | none => b.slots
           reload := none }

/-- The DMA transfers of an overrun context's site (R35): those not begun are abandoned, those begun run on without a
token. -/
def Site.dropDma (a : Site) (turn : Nat) : Site :=
  { a with ex := { a.ex with
      dmaq := [], xfers := a.ex.xfers.map (fun t => if t.turn = turn then { t with silent := true } else t) } }

/-- The end of a context's work window. -/
def State.endWork (s : State) (c : Nat) : State :=
  let l := s.ctxSites c
  let late := l.filter (fun i => (s.site i).seq.status.overrun)
  let t := l.foldl (fun u i => u.modSite i (fun a => if a.seq.status.overrun then a.overrun u.turn.geom else a.drain)) s
  if late.isEmpty then t else l.foldl (fun u i => u.modSite i (fun a => a.dropDma u.turn.no)) t

/-- DRESSING_WINDOW_START (R35, R90): sites that have not reached their end of work overrun; the others' operations
land; every site that does not audit enters service mode. -/
def execDressingWindowStart (s : State) : Result3 :=
  .next (if s.turn.running ∧ s.turn.window = .work then
      let ran := allCtxs.filter (fun c => (s.ctx c).ran)
      let late := ran.any (fun c => (s.ctxSites c).any (fun i => (s.site i).seq.status.overrun))
      let t := { s with turn := { s.turn with
        window := .dressing, cycle := s.turn.geom.start .dressing, overrunTurns := bump32 s.turn.overrunTurns (if late then 1 else 0) } }
      (ran.foldl (fun u c => u.endWork c) t).drivenModes
    else s)

/-! ### Marks, election and steps (R25 to R34) -/

/-- Whether a master key wins over another (R28). -/
def keyBetter (p1 pos1 p2 pos2 : Nat) : Bool := decide (0 < p1) && (p2 == 0 || decide (p1 < p2) || (p1 == p2 && decide (pos1 < pos2)))

/-- The device as its own master, or free where it is not eligible (R28, R30); unlocked while a mark's geometry differs
from its own (R33, R44). -/
def State.ownGrid (s : State) : State :=
  let t := s.turn
  let m := decide (0 < t.ownPrio)
  { s with turn := { t with
      isMaster := m, locked := m && !t.mismatch, holdover := false, best := none, bestAge := 0, masterNo := none, stepPending := false
      stepTo := none, masterHops := 0, offsetNs := 0
      masterPos := if m then s.position.getD 0 else 0, masterPrio := if m then t.ownPrio else 0, sinceMark := 0, sinceKey := 0 } }

/-- Whether a mark carries the key of the master that the device follows. -/
def Turn.follows (t : Turn) (m : Mark) : Bool :=
  match t.best with
  | some (_, b) => m.priority == b.priority && m.pos == b.pos
  | none => false

/-- The number nearest to `n` whose low 16 bits are `low`. -/
def nearest (n low : Nat) : Nat :=
  let k := (low + 65536 - n % 65536) % 65536
  if k < 32768 ∨ n + k < 65536 then n + k else n + k - 65536

/-- A mark adopted (R22, R25 to R27, R29, R32): the device aligns to it, or steps at its next boundary where boundaries or
TURN_NO differ; while it does not know the master's full TURN_NO it compares TURN_NO[15:0] and asks for the rest. -/
def State.adopt (s : State) (port : Nat) (m : Mark) : State :=
  let t := s.turn
  let known := if t.follows m then t.masterNo.map (fun n => nearest n m.turnLow) else none
  let same := m.aligned && (match known with
    | some n => n == t.no
    | none => m.turnLow == t.no % 65536)
  let next := known.getD (t.no / 65536 * 65536 + m.turnLow) + 1
  let u := { s with turn := { t with
      isMaster := false, holdover := false, mismatch := false, best := some (port, m), bestAge := 0, masterNo := known
      sinceMark := 0, sinceKey := 0, masterHops := m.hops, masterPos := m.pos, masterPrio := m.priority, offsetNs := m.offset
      locked := same || (t.locked && t.stepTurn)
      stepPending := !same && !t.stepTurn, stepTo := if same then t.stepTo else some next } }
  let v := u.sendMark (some port) { m with hops := m.hops + 1 }
  if known.isNone then v.queueOn port (mgmtPacket none none) else v

/-- Whether a mark is preferred to the one adopted (R29): by key, then hops, then port. A mark whose port no longer
carries traffic, or gave no mark in this turn and the last, is no mark that the device receives. -/
def State.prefers (s : State) (port : Nat) (m : Mark) : Bool :=
  match s.turn.best with
  | none => true
  | some (p, b) => keyBetter m.priority m.pos b.priority b.pos ||
      (s.turn.follows m && (port == p || !s.carries p || decide (2 ≤ s.turn.bestAge) || decide (m.hops < b.hops) ||
        (m.hops == b.hops && decide (port < p))))

/-- What any mark on a trained port tells (R31): the fabric is heard, and the master's key where the mark carries it. -/
def Turn.heard (t : Turn) (m : Mark) : Turn :=
  { t with sinceMark := 0, holdover := false, sinceKey := if t.follows m then 0 else t.sinceKey }

/-- TURN_MARK_RECEIVE (R26 to R33): a geometry that differs unlocks the device and ends a step; a mark over more than 96
hops, or with a key that does not win, is not adopted. -/
def execTurnMarkReceive (port : Nat) (m : Mark) (s : State) : Result3 :=
  let t := s.turn
  let heard : State := { s with turn := t.heard m }
  .next (if !t.running || !s.carries port then s
    else if m.geometry ≠ t.geom.word then { s with turn := { t.heard m with
      mismatch := true, locked := false, stepPending := false, stepTurn := false, stepTo := none } }
    else if 96 < m.hops ∨ m.priority = 0 then heard
    else if 0 < t.ownPrio && !keyBetter m.priority m.pos t.ownPrio (s.position.getD 0) then heard
    else if s.prefers port m then s.adopt port m
    else heard)

/-- HOLDOVER_ENTER (R31): no mark for 8 consecutive turns. -/
def execHoldoverEnter (s : State) : Result3 :=
  .next (if s.turn.locked && !s.turn.isMaster && decide (8 ≤ s.turn.sinceMark) then
      { s with turn := { s.turn with holdover := true } } else s)

/-- MASTER_KEY_DISCARD (R31): 64 turns without a mark from the master key; the device joins the next election. A mismatch
stands while any mark is heard (R33, R44). -/
def execMasterKeyDiscard (s : State) : Result3 :=
  .next (if s.turn.best.isSome && decide (64 ≤ s.turn.sinceKey) then
      let t := ({ s with turn := { s.turn with mismatch := s.turn.mismatch && decide (s.turn.sinceMark < 8) } } : State).ownGrid
      if t.turn.isMaster then t else { t with turn := { t.turn with locked := s.turn.locked, holdover := s.turn.holdover } }
    else s)

/-- TURN_STEP (R32): the step turn ends at the master's boundary and TURN_NO takes its value; COMMITTED change sets are
discarded. -/
def execTurnStep (energy vin : Nat) (s : State) : Result3 :=
  .next (if s.turn.running && decide (s.turn.window = .close) && s.turn.stepTurn then
      let sets := s.sets.filter (fun e => decide (e.2.state = .committed))
      let a := (sets.foldl (fun u e => u.discardSet e.1 .stageIncomplete) s).restage sets
      let b := { (a.endClose energy vin) with turn := { a.turn with
        locked := a.turn.best.isSome && !a.turn.mismatch, stepCount := bump16 a.turn.stepCount 1, stepTurn := false, stepPending := false } }
      ({ b with turn := { b.turn with stepTo := none } }).boundary ((s.turn.stepTo.getD (s.turn.no + 1)) % 2 ^ 64)
    else s)

end Sys2Proof.Machine
end

