-- ==== Sys2Proof/Machine/Dressing.lean ====
section
/-! DEFINITION. Dressing (R411 to R420, R426, R427): the rotation, targeted dressing, confirmed defects and the defect
list. -/

namespace Sys2Proof.Machine

/-! ### The rotation (R413, R414) -/

/-- The 62 items of a rotation in order (Table 14.1), each with its order number and its cycles; item 4 has 5 of them
without the MX4 unpacker. -/
def dressItems (mx4 : Bool) : List (Nat × Nat) :=
  List.replicate 32 (1, 176) ++ List.replicate 4 (2, 128) ++ [(3, 64)] ++ List.replicate (if mx4 then 6 else 5) (4, 96) ++
    [(5, 64)] ++ List.replicate 2 (6, 512) ++ List.replicate 7 (7, 64) ++ [(8, 320)] ++ List.replicate 4 (9, 160) ++
    [(10, 256), (11, 96), (12, 96), (13, 128)]

/-- Rounds that items take when they are packed in order into rounds of `room` cycles, with `left` cycles left in the
round under way (R414). -/
def packRounds (room : Nat) : (left rounds : Nat) → List (Nat × Nat) → Nat
  | _, r, [] => r
  | left, r, e :: t => if e.2 ≤ left then packRounds room (left - e.2) r t else packRounds room (room - e.2) (r + 1) t

/-- Item cycles of a round (R414). -/
def Geometry.itemCycles (g : Geometry) : Nat := g.dressing - 160

/-- ROTATION_ROUNDS (Table 14.2). -/
def Geometry.rotationRounds (g : Geometry) (mx4 : Bool) : Nat := packRounds g.itemCycles g.itemCycles 1 (dressItems mx4)

/-- How many items from the head of a list a round of `room` cycles takes (R414). -/
def fitItems : (room : Nat) → List (Nat × Nat) → Nat
  | _, [] => 0
  | room, e :: t => if e.2 ≤ room then fitItems (room - e.2) t + 1 else 0

/-- The rounds that a quadrant remembers: two rotations of the longest (Table 14.2). -/
def keptRounds : Nat := 28

/-- A quadrant's rotation moves on by a round of `room` item cycles in a turn (R414, Table 14.12). -/
def Quad.nextRound (x : Quad) (items : List (Nat × Nat)) (room turn : Nat) : Quad :=
  let past := x.dressAt + fitItems room (items.drop x.dressAt)
  let y := { x with dressRan := ((turn, x.dressAt, past) :: x.dressRan).take keptRounds }
  if past < items.length then { y with round := x.round + 1, dressAt := past }
  else { y with round := 0, dressAt := 0, rotations := bump32 x.rotations 1 }

/-- The rotation of a quadrant's auditing sites moves on by a round in the close window (R402, R414). -/
def Quad.nextAuditRound (x : Quad) (items : List (Nat × Nat)) (room : Nat) : Quad :=
  let past := x.auditAt + fitItems room (items.drop x.auditAt)
  if past < items.length then { x with auditAt := past }
  else { x with auditAt := 0, auditRotations := bump32 x.auditRotations 1 }

/-- Item cycles of an auditor's round in a turn in which it audits (R402, R414). -/
def Geometry.auditCycles (g : Geometry) : Nat := min g.dressing g.close - 32

/-- The position in the rotation of an item's instance that holds an index (Tables 14.1, 14.5). -/
def itemPos (mx4 : Bool) (item index : Nat) : Nat :=
  (dressItems mx4).findIdx (fun e => e.1 == item) +
    (if item = 1 ∨ item = 2 then index / 512 else if item = 6 then index / 256 else if item = 9 then index / 64
     else if item = 4 ∨ item = 7 then index else 0)

/-- The turn of the last round that ran an item position; 0 where none has since the start (R420). -/
def Quad.lastRound (x : Quad) (pos : Nat) : Nat :=
  ((x.dressRan.find? (fun r => decide (r.2.1 ≤ pos ∧ pos < r.2.2))).map (fun r => r.1)).getD 0

/-- ROTATIONS (Table 14.12): rotations completed on every unfenced site, the auditing ones included. -/
def State.rotations (s : State) (q : Nat) : Nat :=
  if 0 < s.auditors q then min (s.quad q).rotations (s.quad q).auditRotations else (s.quad q).rotations

/-- Whether the sites of a quadrant dress (R408, R411): none of a quadrant in reset or under a brake does. -/
def State.dresses (s : State) (i : Nat) : Bool :=
  let x := s.quad (i / Config.sitesPerQuad)
  s.live && !x.recState.resetting && !x.braked && decide ((s.site i).role ≠ .fenced)

/-- The cause that a FAULT record names for an item (Table 14.1); item 0 is a checker that did not fire. -/
def itemCause (item : Nat) : Cause := if [4, 7, 11, 12, 13].contains item then .auditMismatch else .eccUe

/-! ### Targeted dressing (R418) -/

/-- The cycles of instance `n` of the targeted queue: six matrix formats, the weight buffers, two ACC halves, seven vector
items. -/
def instCycles (n : Nat) : Nat := if n < 6 then 96 else if n = 6 then 64 else if n < 9 then 512 else 64

/-- The full targeted queue; a part without the MX4 unpacker has no matrix item for that format. -/
def targetQueue (mx4 : Bool) : List Nat := (List.range 16).filter (fun n => mx4 || n != 5)

/-- What a targeted round of `room` item cycles leaves queued: it takes instances by first fit. -/
def firstFit : (room : Nat) → List Nat → List Nat
  | _, [] => []
  | room, n :: t => if instCycles n ≤ room then firstFit (room - instCycles n) t else n :: firstFit room t

/-- A site put under targeted dressing for three rounds. -/
def State.target (s : State) (i : Nat) : State :=
  { s with heal := { s.heal with targeted := aset s.heal.targeted i (3, targetQueue s.mod.order.mx4) } }

/-- Every targeted site's round: its queue shrinks, or starts again from its head, and its rounds run out. -/
def State.targetRounds (s : State) : State :=
  let g := s.turn.geom
  let room := fun (i : Nat) => if (s.site i).role = .auditor then g.auditCycles else g.itemCycles
  let next := fun (e : Nat × (Nat × List Nat)) =>
    let q := firstFit (room e.1) e.2.2
    if s.dresses e.1 then (e.1, (e.2.1 - 1, if q.isEmpty then targetQueue s.mod.order.mx4 else q)) else e
  { s with heal := { s.heal with targeted := (s.heal.targeted.map next).filter (fun e => decide (0 < e.2.1)) } }

/-! ### The defect list (R427) -/

/-- KIND of a defect that an item names: ROW where its structure has redundant units, ROUTER for the router item, else
SITE (Tables 14.5, 14.6). -/
def itemKind (item : Nat) : Nat := if [1, 2, 3, 6, 9, 10].contains item then 1 else if item = 13 then 3 else 2

/-- Entries of a quadrant's defect list. -/
def listMax : Nat := 8192

/-- Whether two entries name the same defect. -/
def Defect.same (a b : Defect) : Bool := a.kind == b.kind && a.site == b.site && a.structure_ == b.structure_ && a.index == b.index

/-- The unfused entry with the largest MISSED, which a full list gives up (Table 14.8). -/
def worstEntry (l : List Defect) : Option Defect :=
  (l.filter (fun d => !d.fused)).foldl (fun (b : Option Defect) d =>
    match b with
    | none => some d
    | some e => if e.missed < d.missed then some d else some e) none

/-- An entry put into a quadrant's defect list; a full list replaces an entry (Table 14.8). -/
def State.listDefect (s : State) (q : Nat) (d : Defect) : State :=
  let l := aget [] s.heal.defects q
  if l.any (fun e => e.same d) then s
  else if l.length < listMax then
    { s with heal := { s.heal with defects := aset s.heal.defects q (l ++ [d]), listFull := s.heal.listFull || decide (l.length + 1 = listMax) } }
  else match worstEntry l with
    | some w => { s with heal := { s.heal with defects := aset s.heal.defects q (l.erase w ++ [d]), listFull := true } }
    | none => { s with heal := { s.heal with listFull := true } }

/-- An entry that enters the defect list; outside a start flash holds it from then on (R427, R470). -/
def State.addDefect (s : State) (q : Nat) (d : Defect) : State :=
  let t := s.listDefect q d
  if s.mod.dev.inStart then t else { t with heal := { t.heal with saved := t.heal.defects } }

/-- The entry of a runtime confirmation (R427). -/
def State.runtimeDefect (s : State) (i item index : Nat) : Defect :=
  { kind := itemKind item, site := i, structure_ := item, fused := false, runtime := true
    index := if itemKind item = 1 then index else 0, starts := 0, missed := 0, firstHours := s.heal.poweredHours }

/-! ### Dead routers (R426) -/

/-- Whether two sites are mesh neighbours. -/
def neighbours (a b : Nat) : Bool :=
  let xa := a % 24; let ya := a / 24; let xb := b % 24; let yb := b / 24
  (xa == xb && (ya + 1 == yb || yb + 1 == ya)) || (ya == yb && (xa + 1 == xb || xb + 1 == xa))

/-- Whether a site lies on the edge of its quadrant. -/
def onEdge (a : Nat) : Bool := a % 24 == 0 || a % 24 == 23 || a / 24 == 0 || a / 24 == 23

/-- Whether a quadrant still meets R52 with these dead routers (R426). -/
def routersOk (l : List Nat) : Bool :=
  decide (l.length ≤ 4) && l.all (fun a => !onEdge a && l.all (fun b => !neighbours a b))

/-- A dead router (R426): beyond the limit every context bound to the quadrant enters FAULTED, with an EXPLAINED record. -/
def State.killRouter (s : State) (i : Nat) : State :=
  let q := i / Config.sitesPerQuad
  let t := s.modQuad q (fun x => { x with deadRouters := nins x.deadRouters (i % Config.sitesPerQuad) })
  if routersOk (t.quad q).deadRouters || (t.quad q).routerLimit then t
  else
    let u := t.modQuad q (fun x => { x with routerLimit := true })
    (u.ctxsOn q).foldl (fun v c =>
      let e := v.newEvent
      (e.1.faultCtx c (e.1.ctxFault c .auditMismatch [.auditMismatch] 8 [] e.2 0 [])).modCtx c Ctx.fault) u

/-! ### Confirmation (R417, R419) -/

/-- A defect confirmed on a site: it is counted and listed, the site is fenced at the next boundary. -/
def State.confirm (s : State) (i item index : Nat) : State :=
  let q := i / Config.sitesPerQuad
  let t := s.modQuad q (fun x => { x with confirmed := bump16 x.confirmed 1 })
  let u := t.addDefect q (t.runtimeDefect i item index)
  let v := { u with
    heal := { u.heal with fenceDue := nins u.heal.fenceDue i, readySpares := ndel u.heal.readySpares i }
    check := { u.check with dressWatches := u.check.dressWatches.filter (fun w => w.site != i) } }
  if item = 13 then v.killRouter i else v

/-- A wrong answer that its repeat did not give again: the item is watched for three rounds, from the last such answer on (R417;
DEDUCED, log 93). -/
def State.watchItem (s : State) (i item : Nat) : State :=
  { s with check := { s.check with
      dressWatches := s.check.dressWatches.filter (fun w => !(w.site == i && w.item == item)) ++ [{ site := i, item := item, rounds := 3 }] } }

/-- DRESS_WATCH_END (R417): no wrong answer in the three rounds: a dressing transient, which feeds the wear score. -/
def execDressWatchEnd (site item : Nat) (s : State) : Result3 :=
  let mine := fun (w : DressWatch) => w.site == site && w.item == item && w.rounds == 0
  let q := site / Config.sitesPerQuad
  .next (if s.check.dressWatches.any mine then
      let t := { s with
        check := { s.check with dressWatches := s.check.dressWatches.filter (fun w => !mine w) }
        heal := { s.heal with dayTransients := amod [] s.heal.dayTransients q today } }
      (t.modQuad q (fun x => { x with dressTransients := bump16 x.dressTransients 1 })).rewear
    else s)

/-- Cycles of a March pass, which starts again at each boundary (R416). -/
def marchCycles : Nat := 49152

/-- MARCH_PASS_DONE (R416, R417, R422, R432): a SPARE site's pass makes it READY_SPARE; a failure is handled as a dressing
failure, and a site already taken for a re-placement gives way to the next candidate when its defect is confirmed. No pass ends
in the intake window, before its cycles are over. -/
def execMarchPassDone (site : Nat) (ok : MarchEnd) (s : State) : Result3 :=
  .next (if (s.site site).role ≠ .spare || !s.dresses site || decide (s.turn.window = .intake) then s
    else match ok with
    | .clean => { s with heal := { s.heal with readySpares := nins s.heal.readySpares site } }
    | .failed false => ({ s with heal := { s.heal with readySpares := ndel s.heal.readySpares site } } : State).watchItem site 14
    | .failed true =>
      let t := s.confirm site 14 0
      match t.heal.replacing.find? (fun r => r.site == site) with
      | none => t
      | some r =>
        let u := { t with heal := { t.heal with replacing := t.heal.replacing.filter (fun z => z.site != site) } }
        u.replaceSite r.old r.tile)

end Sys2Proof.Machine
end

