-- ==== Sys2Proof/Machine/Firmware.lean ====
section
/-! DEFINITION. Firmware images and the measured boot (R472 to R481): validity, the choice of a slot, measurements. -/

namespace Sys2Proof.Machine

/-- A component of a firmware image (Table 17.2). -/
structure FwComponent where
  type : Nat
  offset : Nat
  bytes : Nat
  digest : List Byte
  deriving DecidableEq, Repr

/-- The components that an image's header lists. -/
def fwComponents (img : List Byte) : List FwComponent :=
  (List.range (min 8 (leAt img 6 2))).map (fun i =>
    let o := 0x20 + 80 * i
    { type := leAt img o 4, offset := leAt img (o + 8) 4, bytes := leAt img (o + 12) 4, digest := bytesFrom img (o + 16) 64 })

/-- The bytes of a component. -/
def FwComponent.content (c : FwComponent) (img : List Byte) : List Byte := bytesFrom img c.offset c.bytes

/-- The component of a type. -/
def fwFind (img : List Byte) (t : Nat) : Option FwComponent := (fwComponents img).find? (fun c => c.type == t)

/-- The DIGEST of a component type, 64 zero bytes where the image has none (Table 17.3). -/
def fwDigest (img : List Byte) (t : Nat) : List Byte :=
  match fwFind img t with
  | some c => c.digest
  | none => List.replicate 64 0

/-- VERSION (Table 17.2). -/
def fwVersion (img : List Byte) : DWord := BitVec.ofNat 64 (leAt img 8 8)

/-- SVN (Table 17.2). -/
def fwSvn (img : List Byte) : Nat := leAt img 16 1

/-- Whether a firmware image is valid (R475). -/
def Security.valid (x : Security) (img : List Byte) : Bool :=
  let cs := fwComponents img
  let key := leAt img 17 1
  decide (leAt img 0 4 = 0x57464B48 ∧ leAt img 4 2 = 1 ∧ 8192 ≤ img.length) &&
    [1, 2, 3].all (fun t => (cs.filter (fun c => c.type == t)).length == 1) &&
    cs.all (fun c => decide (c.type ≠ 3) || c.bytes == 16384) &&
    decide (key < 4) && !x.revoked.contains key &&
    Config.mldsaOk (Config.firmwareKey key) ("WELWALD-FW".toList.map (fun c => BitVec.ofNat 8 c.toNat)) (bytesFrom img 0 0x300)
      (bytesFrom img 0x300 4627) &&
    cs.all (fun c => sha3_512 (c.content img) == c.digest) && decide (x.svn ≤ fwSvn img)

/-! ### The boot control record (R473) -/

/-- The copy that the boot ROM uses: the one with the higher SEQ. -/
def Security.boot (x : Security) : BootRecord := if x.recordA.seq < x.recordB.seq then x.recordB else x.recordA

/-- A new record written into the copy with the lower SEQ, which takes SEQ + 2. -/
def Security.setBoot (x : Security) (preferred : Nat) (trial : Bool) (attempts : Nat) : Security :=
  if x.recordA.seq < x.recordB.seq then
    { x with recordA := { seq := (x.recordA.seq + 2) % 2 ^ 32, preferred := preferred, trial := trial, attempts := attempts } }
  else { x with recordB := { seq := (x.recordB.seq + 2) % 2 ^ 32, preferred := preferred, trial := trial, attempts := attempts } }

/-- The image in a slot, 0 A or 1 B. -/
def Security.image (x : Security) (slot : Nat) : List Byte := if slot = 0 then x.slotA else x.slotB

/-- The SERVICE image of the running firmware (Table 17.2), which broadcasts write into the service stores (R93, R450). -/
def State.serviceImage (s : State) : List Byte :=
  let img := s.sec.image s.sec.active
  match fwFind img 3 with
  | some c => c.content img
  | none => []

/-- Bundle `n` of the service store of site `i` (R93): 512 bundles, none in a fenced site. Only service mode reads it. -/
def State.serviceBundle (s : State) (i n : Nat) : Option (BitVec 256) :=
  let z := s.quad (i / Config.sitesPerQuad)
  if s.serviceMode i && decide ((s.site i).role ≠ .fenced ∧ n < 512 ∧ 32 * n + 32 ≤ z.store.length) then
    some (BitVec.ofNat 256 (leAt z.store (32 * n) 32))
  else none

/-- The slot that the boot ROM chooses (R480); none sends it into ROM recovery. -/
def Security.choose (x : Security) : Option Nat :=
  let r := x.boot
  let c := if r.trial ∧ 3 ≤ r.attempts then 1 - r.preferred else r.preferred
  if x.valid (x.image c) then some c else if x.valid (x.image (1 - c)) then some (1 - c) else none

/-! ### Step 2 of a start (R476, R488) -/

/-- The chain digest (R476). -/
def Security.chain (x : Security) : List Byte := sha3_512 x.measured.flatten

/-- What a return destroys (R488), at once and again at every later start. -/
def Security.destroy (x : Security) : Security :=
  { x with rmaUnlocked := true, seedDestroyed := true, ownerDestroyed := true, owner := none, ownerPending := none }

/-- The boot ROM's record of its choice (R480) and its measurements (Table 17.3); 3 and 4 follow in step 4. -/
def Security.run (x : Security) (slot : Nat) : Security :=
  let r := x.boot
  let img := x.image slot
  let y := if slot ≠ r.preferred then x.setBoot slot false 0
    else if r.trial then x.setBoot slot true (r.attempts + 1) else x
  { y with
    active := slot, version := fwVersion img
    measured := [Config.bootRomDigest, fwDigest img 1, List.replicate 64 0, List.replicate 64 0,
      Config.bootStateDigest x.svn x.revoked (if x.ownerDestroyed then List.replicate 64 0xFF else x.owner.getD (List.replicate 64 0))
        x.rmaUnlocked, fwDigest img 4] }

/-- Step 2 of a start: the return's destruction where it applies, then the choice of a slot; without a valid one the
boot ROM waits in ROM recovery (R476, R480, R481, R488). -/
def State.bootStep (s : State) : State :=
  let x := { s.sec with aliasReady := false, trngFail := false, nonce := none, doe := none, updating := none
                        returning := false, measured := [], version := 0, mboxAddr := 0, mboxBytes := 0, mboxValid := false
                        mboxSeq := 0, mboxStatus := 0, mboxOpc := 0 }
  let lost := s.sec.returning || s.sec.rmaUnlocked
  let y := if lost then x.destroy else x
  let t := if lost then { s with ddr := { s.ddr with mem := [] }, sites := [] } else s
  match y.choose with
  | some slot => { t with sec := y.run slot, mod := { t.mod with phase := .bootRom } }
  | none => { t with sec := y, mod := { t.mod with phase := .recovery } }

end Sys2Proof.Machine
end

