-- ==== Sys2Proof/Machine/Resets.lean ====
section
/-! DEFINITION. Resets (R87, R313, R428, R442 to R449, R455 to R460): the defect list applied, a quadrant's sites rebuilt,
both quadrant paths, the chip reset, the resets from the host. -/

namespace Sys2Proof.Machine

/-! ### The defect list applied (R428, R445) -/

/-- The redundant units of a structure (Table 14.6). -/
def redundantUnits (structure_ : Nat) : Nat :=
  if structure_ = 1 ∨ structure_ = 2 ∨ structure_ = 6 then 4 else if structure_ = 3 ∨ structure_ = 9 then 2
  else if structure_ = 10 then 8 else 0

/-- The part of a structure that has its own redundant units: a bank, a slot, a hopper (Table 14.6). -/
def redundancyGroup (structure_ index : Nat) : Nat :=
  if structure_ = 1 ∨ structure_ = 2 then index / 512 else if structure_ = 9 then index / 64 else 0

/-- Whether two ROW entries share redundant units. -/
def sharesUnits (a b : Defect) : Bool :=
  a.site == b.site && a.structure_ == b.structure_ &&
    redundancyGroup a.structure_ a.index == redundancyGroup b.structure_ b.index

/-- The order in which entries are applied: fused ones first, then by FIRST_HOURS (R428). -/
def applyOrder (a b : Defect) : Bool := (a.fused && !b.fused) || ((a.fused == b.fused) && decide (a.firstHours ≤ b.firstHours))

/-- The entries as applied: a ROW entry whose structure has no redundant unit left becomes a SITE entry (R428). -/
def applyList (l : List Defect) : List Defect :=
  (sortBy applyOrder l).foldl (fun acc d =>
    if d.kind = 1 ∧ redundantUnits d.structure_ ≤ (acc.filter (fun e => e.kind == 1 && sharesUnits e d)).length then
      acc ++ [{ d with kind := 2 }]
    else acc ++ [d]) []

/-- The sites that an applied list fences. -/
def fencedBy (l : List Defect) : List Nat := ((l.filter (fun d => decide (d.kind ≠ 1))).map (fun d => d.site)).foldl nins []

/-- The dead routers of an applied list. -/
def deadBy (l : List Defect) : List Nat :=
  ((l.filter (fun d => d.kind == 3)).map (fun d => d.site % Config.sitesPerQuad)).foldl nins []

/-- A site that R87 has cleared, in a role. -/
def Site.fresh (i : Nat) (r : Role) (t : Option Nat) : Site := { Site.cleared i with role := r, ltile := t }

/-- A quadrant's sites cleared (R87) with `fences` fenced, and its remap built from the others in ascending logical tile
order over ascending row-major site order (R461). -/
def State.rebuild (s : State) (q : Nat) (fences : List Nat) : State :=
  let base := q * Config.sitesPerQuad
  let good := (quadSites q).filter (fun i => !fences.contains i)
  let live := good.take Config.tilesPerQuad
  let lost := fences.headD base
  let s1 := { s with sites := s.sites.filter (fun e => e.1 / Config.sitesPerQuad != q) }
  let s2 := fences.foldl (fun u i => u.setSite i (Site.fresh i .fenced none)) s1
  if fences.isEmpty then (s2.modQuad q (fun x => { x with remap := [] })).rebalance q
  else
    let s3 := (List.range live.length).foldl (fun u t =>
      let i := live.getD t 0
      if i = base + t then u else u.setSite i (Site.fresh i .live (some t))) s2
    let map := (List.range Config.tilesPerQuad).map (fun t => (t, ({ site := live.getD t lost, replaced := false } : RemapEntry)))
    (s3.modQuad q (fun x => { x with remap := map })).rebalance q

/-- The sites of a quadrant that are FENCED. -/
def State.fencedSites (s : State) (q : Nat) : List Nat :=
  (s.sites.filter (fun e => e.1 / Config.sitesPerQuad == q && decide (e.2.role = .fenced))).map Prod.fst

/-- A quadrant's defect list applied (R428 step 4, R445): after full dressing the list alone decides which sites are
fenced; without it the sites fenced before stay so. -/
def State.applyDefects (s : State) (q : Nat) (full : Bool) : State :=
  let l := applyList (aget [] s.heal.defects q)
  let fences := if full then fencedBy l else (s.fencedSites q).foldl nins (fencedBy l)
  let t := { s with heal := { s.heal with
    defects := aset s.heal.defects q l, readySpares := s.heal.readySpares.filter (fun i => i / Config.sitesPerQuad != q)
    fenceDue := s.heal.fenceDue.filter (fun i => i / Config.sitesPerQuad != q)
    targeted := s.heal.targeted.filter (fun e => e.1 / Config.sitesPerQuad != q)
    replacing := s.heal.replacing.filter (fun r => r.quad != q) } }
  let u := t.modQuad q (fun x => { x.redress with
    deadRouters := if full then deadBy l else x.deadRouters, noSpare := x.noSpare && !full
    routerLimit := if full then !routersOk (deadBy l) else x.routerLimit, spareLive := 0, pointer := 0 })
  { (u.rebuild q fences) with
    check := { u.check with dressWatches := u.check.dressWatches.filter (fun w => w.site / Config.sitesPerQuad != q) }
    sets := adel u.sets (65552 + q) }

/-- A finding of full dressing as a list entry. -/
def defectEntry (f : DefectFact) (hours : Nat) (runtime : Bool) (starts : Nat) : Defect :=
  { kind := f.kind, site := f.site, structure_ := f.structure_, fused := false, runtime := runtime, index := f.index
    starts := starts, missed := 0, firstHours := hours }

/-! ### Quadrant resets (R442 to R449) -/

/-- A context of a quadrant that goes into reset: its plan code stops, and its outstanding commands but its steps end with
RESETTING (R303, R449); a load under way fails (R314). Its steps end with the reset (R446). -/
def State.haltForReset (s : State) (c : Nat) : State :=
  let x := s.ctx c
  let ends := fun (y : Cmd) => y.ctx == c && !([0x02, 0x04, 0x05, 0x07, 0x21, 0x22].contains y.opc)
  if x.state = .empty then s
  else if x.state = .loading then
    (s.finish ends .resetting (fun y => if y.opc = 0x01 then loadResult Ctx.reset 0 else [])).dropLoad c
  else (s.finish ends .resetting (fun _ => [])).stopCtx c

/-- What a reset of a quadrant clears of shadow state (R42). -/
def State.inQuad (s : State) (q : Nat) (ch : Change) : Bool :=
  (match ch.ctxOf with
   | some c => (s.ctx c).boundTo q
   | none => false) ||
  (match ch with
   | .audit k _ => k == q
   | .placement k _ _ => k == q
   | _ => false)

/-- A quadrant reset begins (R442, R444): on the fast path only where it hosted no privileged context, is not braked and no
hardware check asked for it. -/
def State.quadReset (s : State) (q : Nat) (full host : Bool) : State :=
  let z := s.quad q
  let path : RecState := if full || z.privHosted || z.braked then .full else .fast
  let a := (s.ctxsOn q).foldl (fun u c => u.haltForReset c) (s.loseShadow (s.inQuad q))
  let busy := decide (z.load.kind ≠ 0) && !z.load.valid
  let b := a.modQuad q (fun x => { x with
    recState := path, replay := none, hostReset := host, engines := []
    snap := { x.snap with pending := false, ctxs := [] }, sluices := []
    load := { valid := false, result := if busy then 3 else 0, kind := 1, round := 0, incomplete := 0, fenced := 0
              seq := (x.load.seq + 1) % 65536, activate := 0, bad := [] } })
  { b with
    avdin := { b.avdin with arrivals := b.avdin.arrivals.filter (fun r => r.quad != q) }
    ddr := { b.ddr with refresh := if path = RecState.full then nins b.ddr.refresh q else b.ddr.refresh } }.setHolds

/-- CAUSE_DATA of WATCHDOG (Table 15.10). -/
def watchdogData (source quad last : Nat) : List Byte :=
  [BitVec.ofNat 8 source, BitVec.ofNat 8 quad, 0, 0, 0, 0, 0, 0] ++ leBytes 8 last

/-- A channel retired by the full path (R349): AT_RISK, or failing its retraining. -/
def State.retire (s : State) (q : Nat) (failed : List Nat) : State :=
  (s.mod.order.channels q).foldl (fun u n =>
    if (u.chan n).state = .atRisk ∨ ((u.chan n).state = .inService ∧ failed.contains n) then
      u.modChan n (fun c => { c with state := .retired, touched := false }) else u) s

/-- A context after a reset of a quadrant that it is bound to (R446, R73): LOADED with its plan restored and its steps
ended, FAULTED where the quadrant trains too few channels for a gearing it uses; QUARANTINED stays. -/
def State.restoreCtx (s : State) (c : Nat) (cause : Option FaultRec) : State :=
  let x := s.ctx c
  if x.state = .empty ∨ x.state = .loading then s.modCtx c (fun y => { y with gen := (y.gen + 1) % 256 })
  else
    let a := (s.endSteps c .resetting).modCtx c (fun y => { y with
      gen := (y.gen + 1) % 256, state := if y.state = .quarantined then .quarantined else .loaded })
    let b := ((a.placePlan c).rearm c).armMissing c
    let d := match cause with
      | some f => let e := b.newEvent
                  e.1.faultCtx c { f with ctx := c, gearing := x.gearing, ctxTurn := x.turn, event := e.2 }
      | none => b
    let short : Bool := match x.plan with
      | some p => x.reefMap.any (fun g => !d.gearFits d.turn.geom p.hdr x.quads g)
      | none => false
    if short ∧ x.state ≠ .quarantined then
      let e := d.newEvent
      (e.1.faultCtx c (e.1.ctxFault c .eccUe [.eccUe] 0 [] e.2 0 [])).modCtx c (fun y =>
        { y.fault with starved := true, causes := [.eccUe], late := false })
    else d.modCtx c (fun y => { y with starved := false })

/-- The counters of a quadrant's own page that its reset clears, and its state at release, the SERVICE image loaded again. -/
def Quad.released (x : Quad) (store : List Byte) (full unbrake priv : Bool) : Quad :=
  { x with
    store := store, staging := none
    gen := (x.gen + 1) % 256, recState := .normal, hostReset := false, engines := [], dressed := full
    braked := x.braked && !(full && unbrake), privHosted := if full then priv else x.privHosted
    padLate := 0, dropped := 0, spilled := 0, pondDiscards := 0, pondFull := 0, staleDrops := 0, violationsRx := 0, nackClosed := 0, corrWords := 0
    steerTrunc := 0, recvStalls := 0, steerStalls := 0
    fastResets := bump16 x.fastResets (if full then 0 else 1), fullResets := bump16 x.fullResets (if full then 1 else 0)
    load := { x.load with valid := true, result := if x.load.result = 3 then 3 else 1 } }

/-- A brake that has no quadrant left under it is over (R408). -/
def State.unbrake (s : State) (q : Nat) : State :=
  let t := s.setDev s.mod.dev (ndel s.mod.brakedQuads q)
  if t.mod.brakedQuads.isEmpty && !t.check.chipBraked then
    { t with mod := { t.mod with brakeN := true }
             check := { t.check with brakeCause := 0, brakeChip := false, brakeQuads := [], brakeTurn := 0, braking := none } }
  else t

/-- QUAD_RESET_DONE (R444 to R449, R73): the quadrant is released: its sites are cleared and rebuilt, on the full path with
its findings listed with RUNTIME set and its channels retrained; generations rise and bound contexts are restored. A reset
that no host asked for is named by a FAULT record with cause WATCHDOG. -/
def execQuadResetDone (quad : Nat) (failed : List Nat) (found : List DefectFact) (s : State) : Result3 :=
  let z := s.quad quad
  let full := decide (z.recState = .full)
  .next (if !z.recState.resetting then s
    else
      let bound := s.ctxsOn quad
      let listed := if full then
          (found.filter (fun f => f.site / Config.sitesPerQuad == quad)).foldl (fun u f =>
            u.addDefect quad (defectEntry f u.heal.poweredHours true 0)) s
        else s
      let a := listed.applyDefects quad full
      let b := if full then a.retire quad failed else a
      let d := b.modQuad quad (fun x => x.released s.serviceImage full (!s.check.chipBraked) (bound.any (fun c => (s.ctx c).privileged)))
      let e := if full then { d with ddr := { d.ddr with refresh := ndel d.ddr.refresh quad } } else d
      let f := if full ∧ !s.check.chipBraked then e.unbrake quad else e
      let g := { f with mod := { f.mod with cpbHeld := s.cpbHold.mod.cpbHeld } }
      let cause := if z.hostReset then none
        else some { (g.plainFault .watchdog [quad] (watchdogData 0 quad z.heartbeatTurn)) with scope := 0, flags := 0 }
      let h := bound.foldl (fun u c => u.restoreCtx c cause) g
      let i := if z.hostReset && !s.mod.order.quads.any (fun q => decide (q ≠ quad) && (s.quad q).hostReset) then
          { h with mod := { h.mod with resetValid := true, resetStatus := 0 } } else h
      i.setHolds.rewear)

/-! ### The chip reset (R442, R455, R460) -/

/-- The identity page's start registers at their reset values (R471), and what a start sets again. -/
def Mod.restart (m : Mod) (config : Bool) : Mod :=
  { m with
    brakeN := true, aperture := 0, bar2Gib := if config then 64 else m.bar2Gib, zeroed := false, dressedDone := false
    floorDone := false, cold := false, kind := 0, decision := 0, causes := [], incomplete := [], missing := [], totalMs := 0
    ddrMs := 0, dressMs := 0, fuseMs := 0, links := [], devGen := (m.devGen + 1) % 256, snapSeq := 0, serviced := 0
    watchdog := false }

/-- A quadrant after a chip reset (R442). -/
def Quad.restart (x : Quad) : Quad := { Quad.reset with gen := (x.gen + 1) % 256 }

/-- A context after a chip reset (R313, R442): EMPTY and assigned to the PF. -/
def Ctx.restart (x : Ctx) : Ctx := { Ctx.reset with gen := (x.gen + 1) % 256 }

/-- A function's ring block at its reset values (R316); its configuration space too where the reset reaches it (R313). -/
def Fn.restart (x : Fn) (config : Bool) : Fn :=
  if config then Fn.reset else { Fn.reset with busMaster := x.busMaster, d3hot := x.d3hot, msix := x.msix, msixMask := x.msixMask, aer := x.aer }

/-- Whether the module is powered and its clock runs. -/
def Phase.running : Phase → Bool
  | .bootRom => true
  | .recovery => true
  | .starting => true
  | .up => true
  | _ => false

/-- A chip reset (R313, R442, R460): compute domains and hub return to their reset state and step 2 begins; the fabric
domain and the DDR controllers stay up, and the contract parameter block moves at the first boundary (R73). `config` tells that the PCI Express configuration space is reset with it. -/
def State.chipReset (s : State) (config : Bool) : State :=
  if !s.mod.phase.running then s
  else
    let a : State := { s with
      mod := s.cpbHold.mod.restart config
      turn := { Turn.reset with ownPrio := s.turn.ownPrio }
      reef := { Reef.reset with trayW := s.reef.trayW, energy := s.reef.energy, peak := s.reef.peak }
      check := { Check.reset with suspect := s.check.suspect, drainRequest := s.check.drainRequest }
      heal := { s.heal with readySpares := [], fenceDue := [], targeted := [], replacing := [] }
      ddr := { s.ddr with
        zeroing := false, refresh := [], used := [], shots := []
        sets := s.ddr.sets.map (fun e => (e.1, e.2.filter (fun n => decide ((s.chan n).state ≠ .retired))))
        chan := s.ddr.chan.map (fun e => (e.1, { e.2 with scrub := 0, named := [] })) }
      streams := Streams.reset, sets := [], readUnits := 0, cmds := []
      fns := s.functions.map (fun f => (f, (s.fn f).restart config))
      ctxs := allCtxs.map (fun c => (c, (s.ctx c).restart))
      quads := s.mod.order.quads.map (fun q => (q, (s.quad q).restart))
      sites := [] }
    (a.setDev .resetting []).bootStep

/-! ### The host's resets (R313, R444) -/

/-- Whether the device answers configuration and register requests (R459). -/
def State.answers (s : State) : Bool :=
  match s.mod.phase with
  | .starting => true
  | .up => true
  | _ => false

/-- A context of a VF at the VF's FLR (R313): aborted, unloaded, and assigned to the PF. -/
def State.flrCtx (s : State) (c : Nat) : State :=
  let x := s.ctx c
  let t := if x.state = .empty then s
    else if x.state = .loading then (s.dropLoad c).modCtx c (fun y => { y with gen := (y.gen + 1) % 256 })
    else (s.abortCtx c .loaded).unload c
  t.modCtx c (fun y => { y with owner := 0, aborting := false })

/-- The FLR of the VF of QD`q`. -/
def State.vfReset (s : State) (q : Nat) : State :=
  let f := q + 1
  let t := { s with cmds := s.cmds.filter (fun y => y.fn != f) }
  let u := (allCtxs.filter (fun c => (s.ctx c).owner == f)).foldl (fun v c => v.flrCtx c) t
  u.modFn f (fun _ => Fn.reset)

/-- PF_FLR (R313): a chip reset. -/
def execPfFlr (s : State) : Result3 := .next (if s.answers then s.chipReset true else s)

/-- VF_FLR (R313). -/
def execVfFlr (quad : Nat) (s : State) : Result3 :=
  .next (if s.answers && s.mod.order.quads.contains quad then s.vfReset quad else s)

/-- HOT_RESET (R313): a chip reset. -/
def execHotReset (s : State) : Result3 := .next (if s.mod.linkUp then s.chipReset true else s)

/-- PCIE_LINK_DOWN (R313): a chip reset; the link trains again while PERST_N is high. -/
def execPcieLinkDown (s : State) : Result3 := .next (if s.mod.linkUp then s.chipReset true else s)

/-- D3HOT_ENTRY (R313): the function issues no requests and its rings behave as TAILRACE_FULL. -/
def execD3hotEntry (fn : Nat) (s : State) : Result3 :=
  .next (if s.answers && s.functions.contains fn then s.modFn fn (fun x => { x with d3hot := true }) else s)

/-- D3HOT_TO_D0 (R313): as an FLR of the function. -/
def execD3hotToD0 (fn : Nat) (s : State) : Result3 :=
  .next (if s.answers && (s.fn fn).d3hot then (if fn = 0 then s.chipReset true else s.vfReset (fn - 1)) else s)

/-- The quadrants that a mask names. -/
def maskQuads (m : Nat) : List Nat := (List.range 4).filter (fun q => m.testBit q)

/-- Whether a reset is in progress (Table 10.25, R459). -/
def State.resetBusy (s : State) : Bool :=
  decide (s.mod.dev = .booting) || decide (s.mod.dev = .resetting) || s.mod.order.quads.any (fun q => (s.quad q).recState.resetting)

/-- A RESET_REQ ignored while a reset is in progress (Table 10.25): no request is accepted, so SEQ and VALID stay. -/
def State.resetIgnored (s : State) : State := { s with mod := { s.mod with resetStatus := 5 } }

/-- A RESET_REQ answered at once with a status, without a reset (Table 10.25). -/
def State.resetAnswer (s : State) (status level : Nat) : State :=
  { s with mod := { s.mod with resetValid := true, resetSeq := (s.mod.resetSeq + 1) % 256, resetStatus := status, resetLevel := level } }

/-- A RESET_REQ of LEVEL 1 or 2 (Tables 10.24, 10.25; R444): a wrong key is ignored; a reset in progress answers RESETTING;
an absent quadrant, QUADS = 0 or a chip brake answer BAD_COMMAND. -/
def State.resetQuads (s : State) (key quads : Nat) (full : Bool) : State :=
  let l := maskQuads quads
  if !s.answers ∨ key ≠ 0xA5C3 then s
  else if s.resetBusy then s.resetIgnored
  else if l.isEmpty ∨ !l.all (fun q => s.mod.order.quads.contains q) ∨ 16 ≤ quads ∨ s.check.chipBraked then s.resetAnswer 1 0
  else
    let deep := full || l.any (fun q => (s.quad q).privHosted || (s.quad q).braked)
    let t := { s with mod := { s.mod with
      resetValid := false, resetSeq := (s.mod.resetSeq + 1) % 256, resetStatus := 0, resetLevel := if deep then 2 else 1 } }
    l.foldl (fun u q => u.quadReset q full true) t

/-- RESET_REQ_QUAD_FAST (R444). -/
def execResetReqQuadFast (key quads : Nat) (s : State) : Result3 := .next (s.resetQuads key quads false)

/-- RESET_REQ_QUAD_FULL (R444). -/
def execResetReqQuadFull (key quads : Nat) (s : State) : Result3 := .next (s.resetQuads key quads true)

/-- A RESET_REQ of LEVEL 3 (R313): a chip reset that leaves the PCI Express configuration space unchanged. -/
def State.resetDevice (s : State) (key : Nat) : State :=
  if !s.answers ∨ key ≠ 0xA5C3 then s
  else if s.resetBusy then s.resetIgnored
  else
    let t := { s with mod := { s.mod with
      resetValid := false, resetSeq := (s.mod.resetSeq + 1) % 256, resetStatus := 0, resetLevel := 3 } }
    t.chipReset false

/-- RESET_REQ_CHIP (R313). -/
def execResetReqChip (key : Nat) (s : State) : Result3 := .next (s.resetDevice key)

/-- RESET_ESCALATE (R443): a level that does not finish in its time: 1 a context abort or engine reset becomes a quadrant
reset, 2 a quadrant reset becomes a chip reset; a chip reset ends at the hub watchdog. -/
def execResetEscalate (level quad : Nat) (s : State) : Result3 :=
  let z := s.quad quad
  .next (if !s.mod.order.quads.contains quad then s
    else if level = 1 then
      (if decide (z.recState = .engineReset) || (s.ctxsOn quad).any (fun c => (s.ctx c).aborting) then s.quadReset quad false false
       else s)
    else if level = 2 then (if z.recState.resetting then s.chipReset false else s)
    else s)

end Sys2Proof.Machine
end

