-- ==== Sys2Proof/Machine/Registers.lean ====
section
/-! DEFINITION. What the registers read (R13, R46, R249, R282 and the register tables of every chapter): each page of the
PF's BAR0 as a list of registers, and a VF's BAR0. No read has a side effect. -/

namespace Sys2Proof.Machine

/-- A register: its offset, its width in bits, its value. -/
structure Reg where
  off : Nat
  bits : Nat
  val : Nat
  deriving DecidableEq, Repr

/-- A flag as a field's value. -/
def bit (b : Bool) : Nat := if b then 1 else 0

/-- A number of whole units from an exact quantity. -/
def whole (x : Rat) : Nat := x.floor.toNat

/-- A 32-bit register. -/
def r32 (off : Nat) (l : List (Nat × Nat × Nat)) : Reg := { off := off, bits := 32, val := fields l }

/-- A 64-bit register. -/
def r64 (off : Nat) (l : List (Nat × Nat × Nat)) : Reg := { off := off, bits := 64, val := fields l }

/-! ### The identity page (Tables 10.18 to 10.25, 2.4, 16.6 to 16.9, 18.11) -/

/-- DEV_STATE.STATE (Table 10.22). -/
def DevCode.code : DevCode → Nat
  | .booting => 0 | .ready => 1 | .degraded => 2 | .notReady => 3 | .resetting => 4 | .braked => 5

/-- CAP0 (Table 10.20). -/
def OrderCode.cap0 (o : OrderCode) : Nat :=
  fields [(31, 24, o.index), (23, 16, o.quads.length), (15, 8, maskOf (fun n => o.ports.contains n)), (5, 5, bit o.digest),
    (4, 4, bit o.mx4), (3, 0, quadMask o.quads)]

/-- CAP1 (Table 10.21). -/
def OrderCode.cap1 (o : OrderCode) : Nat := maskOf (fun n => (o.quads.flatMap o.channels).contains n)

/-- DEV_STATE (Table 10.22). -/
def State.devState (s : State) : Nat :=
  fields [(31, 28, s.mod.dev.code), (27, 24, quadMask s.mod.brakedQuads), (15, 0, s.mod.seq)]

/-- The contract parameter block at an offset (R72). -/
def State.cpbRegs (s : State) (base : Nat) : List Reg :=
  let w := s.mod.cpbHeld.getD s.cpbWords
  ((List.range w.length).map (fun i => r32 (base + 4 * i) [(31, 0, w.getD i 0)])) ++
    [r32 (base + 0x68) [(31, 0, (crc32 (w.flatMap (leBytes 4))).toNat)]]

/-- The bits of READY_CAUSE by the rows of Table 16.3 that hold (Table 16.7). -/
def State.readyCause (s : State) : Nat :=
  let has := fun (n : Nat) => bit (s.mod.causes.contains n)
  fields [(31, 31, has 1), (30, 30, has 2), (29, 29, has 3), (28, 28, has 4), (27, 27, has 5), (26, 26, has 7), (25, 25, has 8),
    (24, 24, has 9), (23, 23, has 10), (19, 16, quadMask s.mod.incomplete), (7, 0, maskOf (fun n => s.mod.missing.contains n))]

/-- The identity page. The start registers read their reset values until the start ends (R471). -/
def State.identityPage (s : State) : List Reg :=
  let m := s.mod
  let o := m.order
  let done := decide (m.phase = .up)
  let start := fun (l : List (Nat × Nat × Nat)) => if done then l else []
  [r32 0x00 [(31, 16, 0x48C0 + o.index), (15, 0, Config.vendorId.toNat)], r64 0x08 [(63, 0, Config.serial.toNat)],
    r32 0x10 [(31, 0, o.cap0)], r64 0x18 [(63, 0, o.cap1)], r32 0x20 [(31, 0, s.devState)], r64 0x30 [(44, 30, m.aperture)],
    r32 0x3C [(31, 31, bit m.resetValid), (23, 16, m.resetSeq), (15, 8, m.resetStatus), (3, 0, m.resetLevel)],
    r64 0x40 (start [(63, 48, m.starts), (47, 44, quadMask (o.quads.filter (fun q => (s.quad q).dressed))),
      (43, 40, quadMask (o.quads.filter (fun q => (s.quad q).complete))), (39, 38, m.kind), (31, 0, m.decision)]),
    r32 0x48 (start [(31, 0, s.readyCause)]),
    r64 0x50 (start [(63, 48, m.totalMs), (47, 32, m.ddrMs), (31, 16, m.dressMs), (15, 0, m.fuseMs)]),
    r32 0x80 [(31, 26, m.slotId.toNat), (25, 22, Config.boardRev.toNat), (15, 0, m.vinMv)]] ++
  (List.range 8).map (fun n =>
    match alook m.links n with
    | some l => r32 (0x60 + 4 * n) (start [(31, 30, l.result), (29, 27, l.reason), (26, 0, min l.corrBits 134217727)])
    | none => r32 (0x60 + 4 * n) []) ++
  s.cpbRegs 0x1000

/-! ### The turn page (Tables 1.6 to 1.14) -/

/-- TURN_PHASE.WINDOW. -/
def Window.code : Window → Nat
  | .intake => 0 | .work => 1 | .dressing => 2 | .close => 3

/-- The turn page. -/
def State.turnPage (s : State) : List Reg :=
  let t := s.turn
  [r32 0x10000 [(31, 0, t.geom.word.toNat)], r32 0x10004 [(19, 0, t.geom.work)], r64 0x10008 [(63, 0, t.no)],
    r32 0x10010 [(31, 30, t.window.code), (19, 0, t.cycle)],
    r32 0x10014 [(31, 31, bit t.locked), (30, 30, bit t.isMaster), (29, 29, bit t.holdover), (28, 28, bit t.mismatch),
      (27, 27, bit t.stepPending), (24, 18, t.masterHops), (17, 0, t.masterPos)],
    r32 0x10018 [(15, 0, t.offsetNs.toNat)], r32 0x1001C [(31, 24, t.masterPrio), (23, 16, t.ownPrio)],
    r64 0x10020 [(63, 32, t.overrunTurns), (31, 16, t.stepCount)], r64 0x10028 [(63, 32, t.applied), (31, 0, t.discarded)]]

/-! ### A ring block (Tables 10.26 to 10.34) -/

/-- RING_STATUS.STATE (Table 10.31); a ring whose function is in D3hot reads TAILRACE_FULL (R313). -/
def RingState.code : RingState → Nat
  | .disabled => 0 | .active => 1 | .full => 2 | .halted => 3 | .braked => 4

/-- The registers of a ring pair. -/
def Ring.regs (x : Ring) (b : Nat) (asleep : Bool) : List Reg :=
  [r64 b [(63, 0, x.hrBase)], r64 (b + 0x08) [(63, 0, x.trBase)],
    r32 (b + 0x10) [(31, 31, bit (decide (x.state ≠ .disabled))), (30, 30, bit x.intEn), (21, 16, x.vector), (12, 8, x.trLog), (4, 0, x.hrLog)],
    r32 (b + 0x14) [(31, 29, if asleep ∧ x.state = .active then 2 else x.state.code), (28, 28, bit x.brakeWritten),
      (27, 13, min x.held.length 32767), (12, 8, if x.state = .halted then x.haltCause else 0)],
    r64 (b + 0x18) [(63, 32, x.shownProd), (31, 0, x.shownCons)], r32 (b + 0x20) [(31, 0, x.haltOffset)],
    r64 (b + 0x28) [(63, 48, x.fullEvents), (31, 0, x.wrongState)]]

/-- The MSI-X table of function `f` at an offset: 16 bytes per vector (R279). -/
def State.msixTable (s : State) (f base vectors : Nat) : List Reg :=
  (List.range (4 * vectors)).map (fun i => r32 (base + 4 * i) [(31, 0, (s.fn f).msixWord i)])

/-- The MSI-X pending-bit array of function `f` at an offset (R279). -/
def State.msixPba (s : State) (f base : Nat) : Reg := r64 base [(63, 0, maskOf (fun n => (s.fn f).msixPending.contains n))]

/-- The ring block of function `f` at an offset. -/
def State.ringPage (s : State) (f base : Nat) : List Reg :=
  let x := s.fn f
  [r64 (base + 0x08) [(63, 0, x.ptrBlock)], r64 (base + 0x10) [(63, 0, x.devBlock)]] ++
    allRings.flatMap (fun r => (x.ring r).regs (base + 0x100 + 0x40 * r) x.d3hot)

/-! ### The reef page (Tables 9.6 to 9.16) -/

/-- The reef page; the fields of an absent quadrant's dies read 0 (R3). -/
def State.reefPage (s : State) : List Reg :=
  let r := s.reef
  let temp := fun (i : Nat) => if i < 8 ∧ !s.mod.order.quads.contains (i / 2) then 0 else r.temps.getD i 0
  [r32 0x30000 [(31, 30, r.level), (29, 29, bit r.overAllowance), (28, 28, bit r.thermalLimit), (27, 27, bit (r.hot.any id)),
      (26, 26, bit r.pending), (25, 21, r.upCount)],
    r32 0x30004 [(15, 0, r.hostW)], r32 0x30008 [(31, 16, r.allowance), (15, 0, r.trayW)],
    r64 0x30010 [(63, 48, whole r.measured), (47, 32, whole r.pred), (31, 16, whole r.predUp), (15, 0, whole (r.eFloor / s.turn.geom.micros))],
    r64 0x30018 [(63, 0, r.energy)], r32 0x30020 [(15, 0, whole (r.k * 4096))],
    r64 0x30028 ((List.range 4).flatMap (fun q => [(16 * q + 15, 16 * q + 8, temp (2 * q)), (16 * q + 7, 16 * q, temp (2 * q + 1))])),
    r32 0x30030 [(31, 24, r.peak), (7, 0, temp 8)],
    r64 0x30038 [(63, 48, r.applied), (47, 32, r.switchDiscarded), (31, 16, r.overshoot), (15, 0, r.thermalTurns)],
    r64 0x30040 [(63, 32, r.drainWaits), (31, 16, r.bankOffDrops), (15, 0, r.drainTimeouts)]] ++
  allCtxs.map (fun c =>
    let x := s.ctx c
    r64 (0x30100 + 8 * c) [(63, 62, if x.active then max x.rangeMin (min r.level x.rangeMax) else 0), (61, 60, x.rangeMin), (59, 58, x.rangeMax),
      (57, 56, x.gearing), (55, 54, x.target), (53, 53, bit (alook s.sets (65536 + c)).isSome), (31, 0, x.switchTurn)])

/-! ### The check page (Tables 13.8 to 13.18) -/

/-- The check page; the digest engine's registers read 0 on a part without one (R3). -/
def State.checkPage (s : State) : List Reg :=
  let k := s.check
  let qs := s.mod.order.quads
  [r32 0x40000 [(31, 31, bit k.suspect), (30, 30, bit k.drainRequest), (29, 29, bit k.suspect), (28, 28, bit k.chipBraked),
      (27, 24, quadMask (qs.filter (fun q => (s.quad q).braked))), (23, 20, quadMask (qs.filter (fun q => decide (s.auditors q < 8)))),
      (19, 16, quadMask (qs.filter (fun q => decide (s.auditors q = 0)))),
      (15, 12, quadMask (qs.filter (fun q => (s.ctxsOn q).any (fun c => (s.ctx c).diag.isSome)))), (11, 11, bit k.pass.isSome)],
    r64 0x40008 [(63, 48, k.brakeCause), (47, 47, bit k.brakeChip), (46, 43, quadMask k.brakeQuads), (31, 0, k.brakeTurn)],
    r64 0x40010 [(63, 32, k.pairCompares), (31, 16, k.pairMismatches), (15, 0, k.poisonSkips)],
    r64 0x40018 [(63, 32, k.vouched), (31, 0, k.withheld)], r32 0x40020 [(31, 16, k.poisonFaults), (15, 0, k.damaged)],
    r32 0x40028 [(15, 0, if s.mod.order.digest then k.period else 0)], r64 0x40030 [(63, 32, k.passes), (31, 16, k.digestMismatches), (15, 0, k.logCount)]] ++
  qs.flatMap (fun q =>
    let x := s.quad q
    let a := s.auditors q
    [r64 (0x40100 + 8 * q) [(63, 57, a), (56, 50, x.reserve), (49, 40, if a = 0 then 0 else ceilDiv 512 a), (39, 31, x.pointer),
        (30, 30, bit (decide (a < 8))), (29, 29, bit (decide (a = 0)))],
      r64 (0x40120 + 8 * q) [(63, 32, x.auditDone), (31, 16, x.auditIncomplete), (15, 0, x.auditMismatch)],
      r64 (0x40140 + 8 * q) [(63, 48, x.lockstep), (47, 32, x.residue), (31, 16, x.eccUe), (15, 0, x.transients)]]) ++
  k.log.map (fun e => { off := 0x41000 + 32 * e.1, bits := 256, val := fields [(255, 192, e.2.turn), (191, 188, e.2.ctx),
    (187, 186, e.2.quad), (185, 185, bit e.2.match_), (184, 184, bit e.2.requested), (183, 168, e.2.region),
    (127, 0, leNat (e.2.head.take 16))] })

/-! ### The healing page (Tables 14.9 to 14.17) -/

/-- REMAP[q][n] (Table 14.17). -/
def State.remapWord (s : State) (q n : Nat) : Nat :=
  let i := s.siteOf q n % 576
  fields [(31, 31, bit (decide (n < s.logicalAvailable q))), (30, 30, bit (match alook (s.quad q).remap n with
      | some e => e.replaced
      | none => false)), (9, 5, i / 24), (4, 0, i % 24)]

/-- The healing page. -/
def State.healPage (s : State) : List Reg :=
  let h := s.heal
  let qs := s.mod.order.quads
  let score := if s.check.suspect then 1000 else max ((h.quadScore.map Prod.snd).foldl max 0) ((h.portScore.map Prod.snd).foldl max 0)
  let ports := fun (b : Nat) => (List.range 4).map (fun i => (16 * i + 15, 16 * i, aget 0 h.portScore (b + i)))
  [r32 0x50000 [(31, 31, bit h.replaceSoon), (30, 30, bit (h.fuseUsed.any (fun e => decide (2048 ≤ e.2)))), (29, 29, bit h.listFull),
      (28, 19, score), (18, 15, quadMask (qs.filter (fun q => h.replacing.any (fun r => r.quad == q)))),
      (14, 11, quadMask (qs.filter (fun q => (s.quad q).noSpare))), (10, 7, quadMask (qs.filter (fun q => (s.quad q).routerLimit)))],
    r64 0x50008 ((List.range 4).map (fun q => (16 * q + 15, 16 * q, aget 0 h.quadScore q))), r64 0x50010 (ports 0), r64 0x50018 (ports 4)] ++
  qs.flatMap (fun q =>
    let x := s.quad q
    [r64 (0x50040 + 8 * q) [(63, 48, s.turn.geom.rotationRounds s.mod.order.mx4), (47, 32, x.round), (31, 0, s.rotations q)],
      r64 (0x50060 + 8 * q) [(63, 48, x.confirmed), (47, 32, x.dressTransients), (31, 0, x.correctedWords)],
      r64 (0x50080 + 8 * q) [(63, 54, s.fenced q), (53, 47, x.spareLive), (46, 44, x.deadRouters.length), (43, 34, s.logicalAvailable q),
        (15, 0, x.replacements)],
      r64 (0x500A0 + 8 * q) [(63, 52, aget 0 h.fuseUsed q), (51, 38, (aget [] h.defects q).length), (37, 26, aget 0 h.softRepairs q),
        (25, 14, aget 0 h.committedLast q)]]) ++
  (qs.flatMap s.mod.order.channels).map (fun n =>
    r32 (0x50100 + 4 * n) [(31, 31, bit (h.moduleReplace.contains n)), (25, 16, aget 0 h.modScore n),
      (15, 0, (aget [] h.modUncorr n).sum)]) ++
  qs.flatMap (fun q => (List.range 512).map (fun n => r32 (0x51000 + 0x800 * q + 4 * n) [(31, 0, s.remapWord q n)]))

/-! ### The DDR page (Tables 11.12 to 11.20) -/

/-- DDR_CHAN.STATE (Table 11.13). -/
def ChanState.code : ChanState → Nat
  | .absent => 0 | .empty => 1 | .unsupported => 2 | .trainFailed => 3 | .inService => 4 | .atRisk => 5 | .retired => 6

/-- The units of a channel that its scrubber reads: those of its module (R350). -/
def Channel.units (c : Channel) : Nat :=
  match c.module with
  | some m => capBytes m.cap / 128
  | none => 0

/-- SCRUB_STATUS.PERCENT: the slowest channel's progress. -/
def State.scrubPercent (s : State) : Nat :=
  let l := (s.mod.order.quads.flatMap s.mod.order.channels).filter (fun n => (s.chan n).state.serves)
  (l.map (fun n => (s.chan n).scrub * 100 / max (s.chan n).units 1)).foldl min (if l.isEmpty then 0 else 100)

/-- The DDR page. -/
def State.ddrPage (s : State) : List Reg :=
  let d := s.ddr
  let gib := fun (q : Nat) => if s.mod.order.quads.contains q then d.capacity q / 2 ^ 30 else 0
  let pinned := (s.streams.cache.filter (fun e => s.slotPinned e)).length
  [r32 0x60000 [(31, 30, d.rate), (29, 29, bit d.mismatch), (28, 28, bit d.zeroing),
      (27, 24, quadMask (s.mod.order.quads.filter (fun q => decide (0 < s.trainedChannels q))))],
    r64 0x60008 ((List.range 4).map (fun q => (16 * q + 15, 16 * q, gib q))),
    r64 0x60010 [(63, 32, d.overBudget), (31, 16, d.uncorrectable), (15, 0, d.sysDrops)],
    r64 0x60018 [(63, 32, d.passes), (6, 0, s.scrubPercent)], r64 0x60020 [(48, 32, pinned), (16, 0, s.streams.cache.length)],
    r64 0x60028 [(63, 32, s.streams.misses), (31, 16, s.streams.refused), (15, 0, s.streams.lateFills)], r32 0x60030 [(15, 0, d.logCount)]] ++
  (s.mod.order.quads.flatMap s.mod.order.channels).map (fun n =>
    let c := s.chan n
    r64 (0x60100 + 8 * n) [(63, 61, c.state.code), (60, 58, if c.state = .empty then 0 else match c.module with
        | some m => m.cap
        | none => 0), (57, 57, bit c.mappedSmaller), (51, 32, c.marks.toNat), (31, 0, c.corrected)]) ++
  d.log.map (fun e => { off := 0x61000 + 16 * e.1, bits := 128, val := fields [(127, 64, e.2.turn), (63, 62, e.2.kind), (61, 56, e.2.channel),
    (55, 36, maskOf (fun n => e.2.devices.contains n)), (35, 32, e.2.source), (31, 0, e.2.unit)] })

/-! ### The Avdin page (Tables 12.8 to 12.18) -/

/-- AVDIN_PORT_STATUS.STATE (Table 12.15). -/
def PortState.code : PortState → Nat
  | .absent => 0 | .disabled => 1 | .training => 2 | .up => 3 | .degraded => 4 | .down => 5 | .brakeIdle => 6

/-- AVDIN_MANIFEST.STATE (Table 12.10). -/
def ManState.code : ManState → Nat
  | .none => 0 | .pending => 1 | .applied => 2 | .rejected => 3

/-- The Avdin page; it reads 0 on a part without ports (R13). -/
def State.avdinPage (s : State) : List Reg :=
  let a := s.avdin
  let dims := match a.inForce with
    | some m => (m.dx, m.dy, m.dz, m.detours.length)
    | none => (0, 0, 0, 0)
  if s.mod.order.ports.isEmpty then []
  else
    [r32 0x70000 [(31, 31, bit s.position.isNone), (30, 30, bit a.adopted), (17, 0, s.position.getD 0)],
      r32 0x70004 [(23, 16, dims.1), (15, 8, dims.2.1), (7, 0, dims.2.2.1)],
      r64 0x70008 [(63, 32, a.manSeq), (31, 29, a.manState.code), (28, 24, a.reject), (23, 16, dims.2.2.2), (15, 0, a.manTurn)],
      r64 0x70010 [(63, 48, a.unroutable), (47, 32, a.lateReplies), (31, 16, a.dupWrites), (15, 0, a.earlyNacks)],
      r64 0x70018 [(63, 32, a.waitTurns), (31, 0, a.holdTurns)], r32 0x70020 [(31, 0, a.resends)]] ++
    allCtxs.map (fun c =>
      match (s.ctx c).wait with
      | some w => if !w.shown then r32 (0x70040 + 4 * c) [] else r32 (0x70040 + 4 * c) [(31, 31, 1), (30, 30, bit w.hold), (25, 24, w.planQuad), (23, 16, w.sluice), (15, 0, w.inst)]
      | none => r32 (0x70040 + 4 * c) []) ++
    s.mod.order.ports.flatMap (fun n =>
      let p := s.port n
      let b := 0x70100 + 0x40 * n
      [r32 b [(31, 29, p.state.code), (28, 26, s.role n), (25, 25, bit p.peerOk), (24, 24, bit p.berHigh), (23, 21, p.peerPort),
          (20, 20, bit p.downBrake), (17, 0, p.peerPos)],
        r64 (b + 0x08) [(63, 32, p.windows), (31, 0, p.corrBits)],
        r64 (b + 0x10) [(63, 48, p.retrains), (47, 32, p.uncorr), (31, 16, p.crcFails), (15, 0, p.retries)],
        r64 (b + 0x18) [(63, 32, p.peak), (31, 0, p.overBudget)]])

/-! ### The security page (Tables 17.5 to 17.10) -/

/-- The security mailbox page. -/
def State.securityPage (s : State) : List Reg :=
  let x := s.sec
  let b := x.boot
  let trial := b.trial && decide (b.preferred = x.active)
  [r32 0x80000 [(31, 31, bit x.rmaUnlocked), (30, 30, bit (x.owner.isSome || x.ownerDestroyed)), (29, 29, bit x.ownerPending.isSome),
      (28, 28, bit x.trngFail), (27, 27, bit x.aliasReady), (26, 26, x.active), (25, 25, bit trial), (24, 23, b.attempts),
      (22, 19, quadMask x.revoked), (18, 18, bit x.updating.isSome), (7, 0, x.svn)],
    r64 0x80018 [(44, 0, x.mboxAddr)], r32 0x80020 [(31, 0, x.mboxBytes)],
    r32 0x80028 [(31, 31, bit x.mboxValid), (23, 16, x.mboxSeq), (15, 8, x.mboxStatus), (7, 0, x.mboxOpc)],
    r64 0x80030 [(63, 0, x.version.toNat)]]

/-! ### A quadrant page (Tables 8.6 to 8.10, 15.13 to 15.20) -/

/-- Whether every bank of an entry's window is owned as REMOTE in the owner's map (R239). -/
def State.entryOpen (s : State) (q : Nat) (e : SluiceEntry) : Bool :=
  let a := s.site (s.siteOf q (e.owner % Config.tilesPerQuad))
  (List.range (ceilDiv (e.base % 32768 + e.bytes) 32768)).all (fun i => a.owner (e.base / 32768 + i) s.portCycle == ownRemote)

/-- SLUICE_ENTRY[n] (Table 8.10); a FREE entry reads 0. -/
def State.sluiceWord (s : State) (q n : Nat) : Nat :=
  match alook (s.quad q).sluices n with
  | none => 0
  | some e =>
    let away := e.sources / 4 % 2
    fields [(255, 254, 1), (253, 253, bit (s.entryOpen q e)), (251, 248, e.ctx), (247, 240, e.ctxGen), (239, 232, e.quadGen),
      (231, 229, e.sources), (217, 200, away * e.srcPos), (199, 188, away * e.pipeline), (187, 186, e.planQuad), (185, 177, e.owner),
      (176, 169, e.no), (168, 148, e.bytes), (147, 128, e.base), (127, 64, e.admitted), (63, 44, e.nackClosed), (43, 24, e.nackViolation),
      (23, 4, e.nackBankOff)]

/-- RECOVERY_STATUS.STATE (Table 15.13). -/
def RecState.code : RecState → Nat
  | .normal => 0 | .fast => 1 | .full => 2 | .engineReset => 3 | .replay => 4

/-- The page of QD`q` at an offset. -/
def State.quadPage (s : State) (q b : Nat) : List Reg :=
  let x := s.quad q
  let trips := fun (e : Nat) => (aget Engine.reset x.engines e).tripped
  let gens := fun (c : Nat) => if (s.ctx c).boundTo q then (s.ctx c).gen else 0
  let r := match x.replay with
    | some r => (r.todo.headD 0, r.left, !r.guilty.isEmpty)
    | none => (0, 0, false)
  let p := decide (x.recState = .replay)
  [r64 (b + 0x400) [(63, 32, x.padLate), (31, 0, x.dropped)], r64 (b + 0x408) [(63, 32, x.spilled), (31, 16, x.pondDiscards), (15, 0, x.pondFull)],
    r64 (b + 0x410) [(63, 48, x.staleDrops), (47, 32, x.violationsRx), (31, 0, x.nackClosed)],
    r32 (b + 0x418) [(8, 0, sluiceEntries - x.sluices.length)],
    r32 (b + 0x600) [(31, 29, x.recState.code), (28, 28, bit x.privHosted),
      (27, 24, ((List.range 4).filter (fun i => trips (i + 1))).foldl (fun a i => a + 2 ^ i) 0),
      (23, 20, if p then r.1 else 0), (19, 13, if p then r.2.1 else 0), (12, 12, bit r.2.2)],
    r64 (b + 0x608) [(63, 56, s.mod.devGen), (55, 48, x.gen)], r64 (b + 0x610) ((List.range 8).map (fun c => (8 * c + 7, 8 * c, gens c))),
    r64 (b + 0x618) ((List.range 8).map (fun c => (8 * c + 7, 8 * c, gens (8 + c)))),
    r64 (b + 0x620) [(63, 63, bit x.snap.valid), (58, 56, x.snap.slot), (55, 53, x.snap.trigger), (52, 50, x.snap.engine),
      (47, 32, x.snap.suspects.foldl (fun a c => a + 2 ^ c) 0), (31, 0, x.snap.seq)],
    r64 (b + 0x628) [(63, 48, x.deadlines), (47, 32, x.engineHangs), (31, 16, x.transientHangs), (15, 8, x.quarantines), (7, 0, x.lateRecoveries)],
    r64 (b + 0x630) [(63, 48, x.ctxAborts), (47, 32, x.engineResets), (31, 16, x.fastResets), (15, 0, x.fullResets)],
    r64 (b + 0x638) [(63, 32, x.nackResettingTx), (31, 16, x.staleReplies), (15, 0, x.droppedIntoReset)],
    r64 (b + 0x640) [(63, 63, bit x.load.valid), (62, 60, x.load.result), (59, 58, x.load.kind), (57, 56, x.load.round),
      (55, 46, x.load.incomplete), (45, 36, x.load.fenced), (31, 16, x.load.seq), (15, 0, x.load.activate)]] ++
  x.sluices.map (fun e => { off := b + 0x8000 + 32 * e.1, bits := 256, val := s.sluiceWord q e.1 })

/-! ### Reads -/

/-- The page of the PF's BAR0 that holds an offset (Table 0.6); a page of an absent quadrant reads 0 (R3). -/
def State.pfPage (s : State) (off : Nat) : List Reg :=
  if off < 0x10000 then s.identityPage
  else if off < 0x20000 then s.turnPage
  else if off < 0x30000 then s.ringPage 0 0x20000
  else if off < 0x40000 then s.reefPage
  else if off < 0x50000 then s.checkPage
  else if off < 0x60000 then s.healPage
  else if off < 0x70000 then s.ddrPage
  else if off < 0x80000 then s.avdinPage
  else if off < 0x90000 then s.securityPage
  else if off < 0xF0000 then []
  else if off < 0x100000 then s.msixTable 0 0xF0000 64 ++ [s.msixPba 0 0xF8000]
  else if s.mod.order.quads.contains ((off - 0x100000) / 0x10000) then s.quadPage ((off - 0x100000) / 0x10000) (off / 0x10000 * 0x10000)
  else []

/-- The BAR0 of the VF of QD`q` (Table 10.2). -/
def State.vfPage (s : State) (q : Nat) : List Reg :=
  s.quadPage q 0 ++ s.ringPage (q + 1) 0xF000 ++ s.cpbRegs 0xF800 ++ s.msixTable (q + 1) 0xFC00 8 ++ [s.msixPba (q + 1) 0xFE00] ++
    [r32 0xF880 [(31, 0, s.mod.order.cap0)], r64 0xF888 [(63, 0, s.mod.order.cap1)], r32 0xF890 [(31, 0, s.devState)]]

/-- The 32 bits at an aligned offset of a page; an offset that no register covers reads 0 (R282). -/
def readWord (l : List Reg) (off : Nat) : Nat :=
  match l.find? (fun r => decide (r.off ≤ off ∧ off < r.off + r.bits / 8)) with
  | some r => r.val / 2 ^ (8 * (off - r.off)) % 2 ^ 32
  | none => 0

/-- What a read of the PF's BAR0 answers (R282): 4 or 8 aligned bytes; none where it completes with Unsupported Request. -/
def State.readPf (s : State) (off size : Nat) : Option Nat :=
  if off % size ≠ 0 ∨ (size ≠ 4 ∧ size ≠ 8) then none
  else some (readWord (s.pfPage off) off + (if size = 8 then readWord (s.pfPage off) (off + 4) * 2 ^ 32 else 0))

/-- What a read of a VF's BAR0 answers (R279, R282); an absent quadrant has no VF (R3). -/
def State.readVf (s : State) (q off size : Nat) : Option Nat :=
  if off % size ≠ 0 ∨ (size ≠ 4 ∧ size ≠ 8) ∨ !s.mod.order.quads.contains q then none
  else some (readWord (s.vfPage q) off + (if size = 8 then readWord (s.vfPage q) (off + 4) * 2 ^ 32 else 0))

end Sys2Proof.Machine
end

