-- ==== Sys2Proof/Machine/Recovery.lean ====
section
/-! DEFINITION. Hangs and recovery (R434 to R453): snapshots, passed deadlines, engine resets with replay, late resumes,
the heartbeat and the hub watchdog, broadcast loading. -/

namespace Sys2Proof.Machine

/-! ### Snapshots (R438, R439) -/

/-- Snapshot slots (R439). -/
def snapSlots : Nat := 8

/-- First local address of a snapshot slot in QD0's DDR (R439). -/
def snapBase (slot : Nat) : Nat := 0x80000000 + slot * 0x08000000

/-- CTX[c] of a snapshot header (Table 15.5). -/
def State.snapCtx (s : State) (c : Nat) : List Byte :=
  let x := s.ctx c
  [BitVec.ofNat 8 x.state.code, BitVec.ofNat 8 x.gen, BitVec.ofNat 8 x.gearing, 0, 0, 0, 0, 0] ++ leBytes 8 x.turn ++
    leBytes 8 x.lastVouched ++ leBytes 4 (s.cmds.filter (fun y => s.cmdCtx y == some c)).length ++ leBytes 4 0

/-- A mask of contexts. -/
def ctxMask (l : List Nat) : Nat := ((List.range 16).filter (fun c => l.contains c)).foldl (fun a c => a + 2 ^ c) 0

/-- A snapshot header (Table 15.5), with the expired command where a deadline triggered it. -/
def State.snapHeader (s : State) (q trigger engine seq : Nat) (suspects : List Nat) (cmd : Option Cmd) : List Byte :=
  leBytes 4 0x4E534B48 ++ leBytes 2 1 ++ [BitVec.ofNat 8 q, BitVec.ofNat 8 trigger] ++ leBytes 4 seq ++
    [BitVec.ofNat 8 engine] ++ leBytes 2 (ctxMask suspects) ++ [0] ++ leBytes 8 s.turn.no ++
    (match cmd with
     | some x => [BitVec.ofNat 8 x.ring, BitVec.ofNat 8 x.opc] ++ leBytes 2 x.fn ++ leBytes 4 x.tag
     | none => [0xFF, 0] ++ leBytes 2 0 ++ leBytes 4 0) ++
    allCtxs.flatMap s.snapCtx

/-- Bytes that the quadrant controller writes into a snapshot slot. -/
def State.snapWrite (s : State) (slot off : Nat) (bs : List Byte) : State := s.ddrPut 0 (snapBase slot + off) bs false .snapshot

/-- The quadrant section of a slot: the sluice table and the remap table (Table 15.4). -/
def State.snapQuad (s : State) (q slot : Nat) : State :=
  let t := (List.range 256).foldl (fun u n => u.snapWrite slot (0x1000 + 32 * n) (leBytes 32 (s.sluiceWord q n))) s
  (List.range Config.tilesPerQuad).foldl (fun u n => u.snapWrite slot (0x3000 + 4 * n) (leBytes 4 (s.remapWord q n))) t

/-- A snapshot of QD`q` (R438, R439): header and quadrant section at once, the sites of the contexts concerned from the
next boundary. A trigger that meets one of the same close joins it. -/
def State.snapshot (s : State) (q trigger engine : Nat) (suspects ctxs : List Nat) (cmd : Option Cmd) : State :=
  let z := (s.quad q).snap
  if z.pending then
    (s.modQuad q (fun x => { x with snap := { z with ctxs := ctxs.foldl nins z.ctxs } })).setHolds
  else
    let slot := s.mod.snapSeq % snapSlots
    let seq := (s.mod.snapSeq + 1) % 2 ^ 32
    let a := (s.snapWrite slot 0 (s.snapHeader q trigger engine seq suspects cmd)).snapQuad q slot
    let b : State := { a with mod := { a.mod with snapSeq := seq } }
    (b.modQuad q (fun x => { x with snap := { valid := false, slot := slot, trigger := trigger, engine := engine,
                                              suspects := suspects, seq := seq, ctxs := ctxs, pending := true } })).setHolds

/-- The site records of a snapshot (R439, Table 15.6): sites whose context it concerns write them whole, the others their first
256 bytes. -/
def State.capture (s : State) (quad : Nat) (z : Snapshot) : State :=
  let old := aget [] s.ddr.shots z.slot
  let shot := fun (i : Nat) =>
    let a := s.site i
    let whole := a.ctx.any (fun c => z.ctxs.contains c)
    ({ site := i, seq := z.seq, captured := whole, head := a
       full := if whole then some (z.seq, a)
               else (old.find? (fun r => r.site % Config.sitesPerQuad == i % Config.sitesPerQuad)).bind (fun r => r.full) } : SiteShot)
  { s with ddr := { s.ddr with shots := aset s.ddr.shots z.slot ((quadSites quad).map shot) } }

/-- SNAPSHOT_SITE_CAPTURE (R438): the sites concerned have written their records; their deferred emptying takes place
and the snapshot is complete. -/
def execSnapshotSiteCapture (quad : Nat) (s : State) : Result3 :=
  let z := (s.quad quad).snap
  .next (if z.pending && decide (s.turn.window ≠ .close) then
      let t := (s.capture quad z).modQuad quad (fun x => { x with snap := { z with valid := true, pending := false, ctxs := [] } })
      ((z.ctxs.foldl (fun u c => u.emptyCtx c) t).setHolds).drivenModes
    else s)

/-! ### Engine resets and replay (R435, R440) -/

/-- The class whose transfers an engine serves (Table 15.2). -/
def servesClass (e : Nat) (c : DmaClass) : Bool := c.engine == e && decide (0 < e)

/-- The contexts that an engine's activity mask shows (R440). -/
def Engine.suspects (e : Engine) : List Nat := allCtxs.filter (fun c => e.now.contains c || e.mask.any (fun l => l.contains c))

/-- An engine of a quadrant. -/
def Quad.engine (x : Quad) (e : Nat) : Engine := aget Engine.reset x.engines e

/-- A suspect's requests revoked (R440): a new context generation, its sluice entries armed again with it, and its
requests in the engine gone. -/
def State.revoke (s : State) (q e c : Nat) : State :=
  let t := s.modCtx c (fun x => { x with gen := (x.gen + 1) % 256 })
  let u := (s.ctxSites c).foldl (fun v i =>
    if i / Config.sitesPerQuad = q then
      v.modSite i (fun a => { a with ex := { a.ex with xfers := a.ex.xfers.filter (fun x => !servesClass e x.cls) } })
    else v) t
  let fresh := fun (o : OutPacket) => { o with packet := { o.packet with gens := u.gensOf o.packet.srcQuad c } }
  (u.modCtx c (fun x => { x with outPackets := x.outPackets.map fresh })).rearm c

/-- What an engine reset clears of shadow state (R42, R275): that of its quadrant, or the intake engine's entry of every context. -/
def State.inEngine (s : State) (q e : Nat) (ch : Change) : Bool :=
  if e = 4 then (match ch with
    | .gearing _ _ => true
    | _ => false)
  else s.inQuad q ch

/-- An engine reset begins (R440): the suspects are revoked and held; a suspect whose replay hung again is guilty. -/
def State.engineReset (s : State) (q e : Nat) : State :=
  let z := s.quad q
  let r : Replay := match z.replay with
    | some r => { r with todo := r.todo.drop 1, left := 0, guilty := r.guilty ++ r.todo.take 1 }
    | none =>
      let l := (z.engine e).suspects.filter (fun c => decide ((s.ctx c).state ≠ .empty))
      { engine := e, suspects := l, todo := l, left := 0, guilty := [] }
  let t := r.suspects.foldl (fun u c => u.revoke q e c) (s.loseShadow (s.inEngine q e))
  (t.modQuad q (fun x => { x with recState := .engineReset, replay := some r, engineHangs := bump16 x.engineHangs 1 })).setHolds

/-- A tripped watch (R435, R440): a snapshot and an engine reset; in a replay of the same engine the suspect under replay
hangs again. A quadrant that is being recovered otherwise starts no second recovery. -/
def State.trip (s : State) (q e : Nat) : State :=
  let z := s.quad q
  match z.recState, z.replay with
  | .normal, _ =>
    let l := (z.engine e).suspects
    (s.snapshot q 2 e l l none).engineReset q e
  | .replay, some r =>
    if r.engine = e ∧ r.todo ≠ [] then (s.snapshot q 4 e r.suspects (r.todo.take 1) none).engineReset q e else s
  | _, _ => s

/-- Whether a suspect can be replayed: it runs, or a fault withheld its turn. -/
def Ctx.replays (x : Ctx) : Bool := x.active || (decide (x.state = .faulted) && !x.marked && !x.starved)

/-- The outcome of a replay round (Table of R440): no guilty suspect is a transient hang; one is quarantined; two or more
mean that the engine is at fault. -/
def State.endReplay (s : State) (q : Nat) (r : Replay) : State :=
  let t := s.modQuad q (fun x => { x with recState := .normal, replay := none })
  match r.guilty with
  | [] => t.modQuad q (fun x => { x with transientHangs := bump16 x.transientHangs 1 })
  | [c] => (t.abortCtx c .quarantined).modQuad q (fun x => { x with quarantines := satAdd 8 x.quarantines 1 })
  | _ => if r.engine = 4 then t.chipReset false else t.quadReset q true false

/-- The next suspect's replay (R440): it runs for 64 turns from the next work window on; a suspect that a fault stopped executes
its withheld turn again. Without one the round is to end at the next boundary. -/
def State.nextReplay (s : State) (q : Nat) (r : Replay) : State :=
  let todo := r.todo.dropWhile (fun c => !(s.ctx c).replays)
  let t := s.modQuad q (fun x => { x with
    recState := .replay, replay := some { r with todo := todo, left := if todo.isEmpty then 0 else 64 } })
  match todo with
  | [] => t
  | c :: _ => if (t.ctx c).state = .faulted then t.modCtx c (fun x => { x with trans := some .resume }) else t

/-- ENGINE_RESET_DONE (R440): the engine is idle again and the replay round begins or goes on. -/
def execEngineResetDone (quad engine : Nat) (s : State) : Result3 :=
  let z := s.quad quad
  .next (match z.recState, z.replay with
    | .engineReset, some r =>
      if r.engine ≠ engine then s
      else
        let t := s.modQuad quad (fun x => { x with
          engineResets := bump16 x.engineResets 1
          engines := amod Engine.reset x.engines engine (fun n => { n with now := [], retired := 0, tripped := false }) })
        t.nextReplay quad r
    | _, _ => s)

/-- A suspect's replay over at a boundary (R440): the next one begins at once, or the round ends. -/
def State.replayOver (s : State) (q : Nat) (r : Replay) : State :=
  let t := s.nextReplay q { r with todo := r.todo.drop 1 }
  match (t.quad q).replay with
  | some n => (match n.todo with
    | [] => t.endReplay q n
    | c :: _ => (t.transition c).setWait c)
  | none => t

/-- REPLAY_END (R440): a suspect's 64 turns are over; what follows takes effect at the boundary, before the work window. -/
def execReplayEnd (quad : Nat) (s : State) : Result3 :=
  let z := s.quad quad
  .next (match z.recState, z.replay with
    | .replay, some r => if r.left = 0 && decide (s.turn.window = .intake) then (s.replayOver quad r).setHolds else s
    | _, _ => s)

/-! ### Passed deadlines (R434, R436) -/

/-- What TIMEOUT abandons (Table 15.1), the command having completed. -/
def State.abandon (s : State) (x : Cmd) : State :=
  if x.opc = 0x01 then
    let qs := (s.ctx x.ctx).quads
    qs.foldl (fun u q => u.modQuad q (fun z => { z with load := { z.load with valid := true, result := 2 } })) (s.dropLoad x.ctx)
  else if x.opc = 0x04 then s.discardSet x.arg .stageIncomplete
  else if x.opc = 0x06 then
    { s with check := { s.check with requested := s.check.requested.filter (fun r => !(r.1 == x.ctx && r.2.2 == x.arg)) } }
  else if x.opc = 0x24 then (s.modStream x.arg (fun e => { e with state := .idle })).cacheIn x.arg
  else s

/-- The command completes with TIMEOUT; a stream's step ends with it (R434, Table 15.1). -/
def State.timeOut (s : State) (x : Cmd) : State :=
  if x.opc = 0x21 then s.endStep x.arg .timeout 0 .idle
  else
    let res : List Byte := if x.opc = 0x01 then loadResult Ctx.reset 0 else []
    ({ (s.complete x.ref .timeout res) with cmds := s.cmds.erase x }).abandon x

/-- The engine whose tripped watch explains a context's hang (Table 15.3), with its quadrant. -/
def State.hungEngine (s : State) (c : Nat) : Option (Nat × Nat) :=
  let places := ((s.ctx c).quads.flatMap (fun q => [(q, 1), (q, 2), (q, 3)])) ++ [(0, 4)]
  places.find? (fun p => ((s.quad p.1).engine p.2).tripped && ((s.quad p.1).engine p.2).suspects.contains c)

/-- Whether a recovery is under way that a context takes part in: no second one begins (R440, R453). -/
def State.recovering (s : State) (c : Nat) : Bool :=
  (0 :: (s.ctx c).quads).any (fun q => decide ((s.quad q).recState ≠ .normal) &&
    ((s.ctx c).boundTo q || (s.quad q).replay.any (fun r => r.suspects.contains c)))

/-- The action that a passed deadline's snapshot leads to (Table 15.3). -/
def State.classify (s : State) (c : Nat) : State :=
  let x := s.ctx c
  if s.recovering c then s
  else match s.hungEngine c with
  | some (q, e) => s.trip q e
  | none =>
    if x.active && x.wait.isNone && !x.held && x.diag.isNone && decide (64 ≤ x.sinceVouch) then s.abortCtx c .loaded else s

/-- DEADLINE_PASSED (R434, R436, R438): in the close of the turn in which its count reaches the deadline, a command
completes with TIMEOUT, a snapshot is taken and the hang is classified. -/
def execDeadlinePassed (fn ring tag : Nat) (s : State) : Result3 :=
  .next (match s.cmds.find? (fun x => x.fn == fn && x.ring == ring && x.tag == tag && decide (x.deadline ≤ x.elapsed)) with
    | none => s
    | some x =>
      if s.turn.running && decide (s.turn.window = .close) && !s.check.chipBraked then
        let c := s.cmdCtx x
        let q := match c with
          | some c => (s.ctx c).quads.getD 0 0
          | none => 0
        let shown := s.snapshot q 1 0 [] c.toList (some x)
        let t := (shown.timeOut x).modQuad q (fun z => { z with deadlines := bump16 z.deadlines 1 })
        match c with
        | some c => t.classify c
        | none => t
      else s)

/-- LATE_RESUME (R437): in the intake after a plan fault that a late delivery may have caused, the quadrant controller
resumes the context once, as CTX_RESUME does. -/
def execLateResume (ctx : Nat) (s : State) : Result3 :=
  let x := s.ctx ctx
  .next (if s.turn.running && decide (s.turn.window = .intake) && decide (x.state = .faulted) && x.late && !x.lateTried && !x.marked &&
        x.trans.isNone && x.causes.all (fun c => [Cause.skewOverflow, .pondFull, .turnOverrun].contains c) then
      ((s.modCtx ctx (fun y => { y with state := y.prior, redo := true, lateTried := true })).setWait ctx).setHolds
    else s)

/-! ### The heartbeat and the hub watchdog (R448) -/

/-- QC_HEARTBEAT_MISS (R448, R453): two closes without a heartbeat reset the quadrant under R444; an engine reset under
way is absorbed. The last heartbeat came two closes before. -/
def execQcHeartbeatMiss (quad : Nat) (s : State) : Result3 :=
  .next (if s.live && decide (s.turn.window = .close) && s.mod.order.quads.contains quad && !(s.quad quad).recState.resetting then
      let t := s.modQuad quad (fun x => { x with heartbeatTurn := s.turn.no - 2 })
      (t.snapshot quad 3 0 [] (t.ctxsOn quad) none).quadReset quad false false
    else s)

/-- HUB_WATCHDOG_EXPIRE (R448): a close without service engages the chip brake with cause WATCHDOG; CYCLE_REQ_N goes low
when the records are written. -/
def execHubWatchdogExpire (s : State) : Result3 :=
  .next (if s.turn.running && !s.mod.watchdog then
      let last := s.turn.no - 1
      let t : State := { s with mod := { s.mod with watchdog := true, serviced := last } }
      let f := { (t.plainFault .watchdog [] (watchdogData 1 0xFF last)) with scope := 3 }
      let u := t.brake [] true .watchdog (some f) []
      if u.check.braking.isNone then { u with mod := { u.mod with cycleReqN := false } } else u
    else s)

/-- CYCLE_REQ_TIMEOUT (R448): 1 s after the missed close CYCLE_REQ_N goes low. -/
def execCycleReqTimeout (s : State) : Result3 :=
  .next (if s.mod.watchdog then { s with mod := { s.mod with cycleReqN := false } } else s)

/-! ### Broadcast loading (R450 to R452) -/

/-- A site that a broadcast load left incomplete gets its defect list entry (R451). -/
def State.incompleteSite (s : State) (starts i : Nat) : State :=
  s.addDefect (i / Config.sitesPerQuad)
    { kind := 2, site := i, structure_ := 15, fused := false, runtime := decide (starts = 0), index := 0, starts := starts
      missed := 0, firstHours := s.heal.poweredHours }

/-- Whether the fence set of a SERVICE load holds more LIVE sites than can be replaced (R452). -/
def State.fenceTooLarge (s : State) (q : Nat) (bad : List Nat) : Bool :=
  let live := (bad.filter (fun i => decide ((s.site i).role = .live))).length
  let ready := (s.heal.readySpares.filter (fun i => i / Config.sitesPerQuad == q && !bad.contains i)).length
  let auds := ((s.extraSites q).filter (fun i => decide ((s.site i).role = .auditor) && !bad.contains i)).length
  decide (ready + auds < live)

/-- The activation turn that a SERVICE load names (R452), at least TURN_NO + 2. DESIGN CHOICE (log 90): two turns on, and eight
where the tiles of LIVE sites are to be re-placed first. -/
def State.activateTurn (s : State) (bad : List Nat) : Nat :=
  s.turn.no + (if bad.any (fun i => decide ((s.site i).role = .live)) then 8 else 2)

/-- The load after its third repair round (R451, R452): incomplete sites are listed; a SERVICE load aborts, or names its
activation turn and has its fence set fenced at the next boundary, a PLAN load replaces them at the next boundary, or ends NO_RESOURCE. In a quadrant reset the defect list then fences them. -/
def State.repaired (s : State) (q : Nat) (service : Bool) (bad : List Nat) : State :=
  let t := bad.foldl (fun u i => u.incompleteSite 0 i) s
  if (s.quad q).recState.resetting then
    t.modQuad q (fun x => { x with load := { x.load with incomplete := bad.length, fenced := bad.length } })
  else if !service then
    let need := bad.filter (fun i => (s.site i).ltile.isSome)
    let u := t.modQuad q (fun x => { x with load := { x.load with incomplete := bad.length } })
    if need.length ≤ (s.loadSpares q).length then u.modQuad q (fun x => { x with load := { x.load with bad := need } })
    else (s.loadingOn q).foldl (fun v c => v.modCtx c (fun x => { x with
      load := x.load.map (fun w => { w with status := Status.noResource.code }) })) u
  else if t.fenceTooLarge q bad then
    t.modQuad q (fun x => { x with staging := none, load := { x.load with valid := true, result := 2, incomplete := bad.length } })
  else
    let u : State := { t with heal := { t.heal with fenceDue := bad.foldl nins t.heal.fenceDue } }
    (u.modQuad q (fun x => { x with load := { x.load with
      incomplete := bad.length, fenced := bad.length, bad := bad, activate := t.activateTurn bad % 2 ^ 64 } })).setHolds

/-- BROADCAST_RECEIPT (R450, R451): the receipts of a pass or repair round: missing blocks are sent again in up to three
repair rounds. A SERVICE receipt in a quadrant without a load under way is that of a new load's pass 0. -/
def execBroadcastReceipt (quad : Nat) (service : Bool) (incomplete : List Nat) (s : State) : Result3 :=
  let z := (s.quad quad).load
  let busy := decide (z.kind ≠ 0) && !z.valid
  let bad := incomplete.filter (fun i => i / Config.sitesPerQuad == quad && decide ((s.site i).role ≠ .fenced))
  .next (if !s.live || !s.mod.order.quads.contains quad then s
    else
      let t := if busy then s
        else if service then s.modQuad quad (fun x => { x with
          staging := some s.serviceImage
          load := { valid := false, result := 0, kind := 1, round := 0, incomplete := 0, fenced := 0
                    seq := (x.load.seq + 1) % 65536, activate := 0, bad := [] } })
        else s
      let y := (t.quad quad).load
      if y.valid || y.kind ≠ (if service then 1 else 2) || decide (y.activate ≠ 0) then s
      else if bad.isEmpty then
        (if service then t.repaired quad true [] else t.modQuad quad (fun x => { x with load := { x.load with incomplete := 0 } }))
      else if y.round < 3 then
        t.modQuad quad (fun x => { x with load := { x.load with round := x.load.round + 1, incomplete := bad.length } })
      else t.repaired quad service bad)

/-- A SERVICE load that switches (R452, R453): the READY sites' staging banks become their service stores, sites that missed T_a
are listed and fenced at this boundary, and the dressing rotation starts again. -/
def State.activate (s : State) (q : Nat) (missed : List Nat) : State :=
  let t := missed.foldl (fun u i => (u.incompleteSite 0 i).fenceSite i) s
  (t.modQuad q (fun x => { x.redress with
    store := x.staging.getD x.store, staging := none
    load := { x.load with valid := true, result := 1, fenced := x.load.fenced + missed.length, bad := [] } })).setHolds.rewear

/-- BROADCAST_ACTIVATE (R452): at the first cycle of the intake window of T_a every READY site switches to the new service
store; too many LIVE sites that miss T_a abort the activation. -/
def execBroadcastActivate (quad : Activation) (s : State) : Result3 :=
  let q := quad.quad
  let z := (s.quad q).load
  let missed := quad.missed.filter (fun i => i / Config.sitesPerQuad == q && decide ((s.site i).role ≠ .fenced))
  .next (if s.live && z.kind == 1 && !z.valid && decide (z.activate ≠ 0) && decide (z.activate ≤ s.turn.no) &&
        decide (s.turn.window = .intake) && s.turn.cycle == 0 then
      if s.fenceTooLarge q missed then
        s.modQuad q (fun x => { x with staging := none, load := { x.load with valid := true, result := 2, bad := [] } })
      else s.activate q missed
    else s)

end Sys2Proof.Machine
end

