-- ==== Sys2Proof/Machine/Digests.lean ====
section
/-! DEFINITION. Weight digests (R396): passes, requests, and a region whose digest is done. -/

namespace Sys2Proof.Machine

/-- Whether a context's regions are digested: LOADED, RUNNING or PAUSED (R396). -/
def Ctx.digested (x : Ctx) : Bool := [CtxState.loaded, .running, .paused].contains x.state

/-- The manifest of a context's plan. -/
def Ctx.manifest (x : Ctx) : List ManifestEntry :=
  match x.plan with
  | some p => p.manifest
  | none => []

/-- WEIGHT_DIGEST (R396, R301): the digest of one region of plan quadrant 0 is computed. -/
def execWeightDigest (h : CmdHead) (region : Nat) (s : State) : Result3 :=
  let x := s.ctx h.ctx
  .next (s.command h 0x06 .management true (x.plan.isSome && decide (x.manifest.length ≤ region)) x.digested [] (fun t =>
    let u := t.accept h 0x06 region 4096
    { u with check := { u.check with requested := u.check.requested ++ [(h.ctx, x.quads.getD 0 0, region)] } }))

/-- The regions of a pass: every region of every context, in each bound quadrant. -/
def State.passRegions (s : State) : List (Nat × Nat × Nat) :=
  (allCtxs.filter (fun c => (s.ctx c).digested)).flatMap (fun c =>
    (s.ctx c).quads.flatMap (fun q => (List.range (s.ctx c).manifest.length).map (fun r => (c, q, r))))

/-- A pass with nothing left to do is complete. -/
def State.endPass (s : State) : State :=
  if s.check.pass = some [] then { s with check := { s.check with pass := none, passes := bump32 s.check.passes 1 } } else s

/-- DIGEST_PASS_START (R396, R6): the pass that a boundary called for starts, at the end of the previous one if that comes later;
without the digest engine, with PERIOD 0 or under a chip brake none does. -/
def execDigestPassStart (s : State) : Result3 :=
  .next (if s.live && s.mod.order.digest && decide (s.check.period ≠ 0) && s.check.passDue && s.check.pass.isNone then
      ({ s with check := { s.check with pass := some s.passRegions, passDue := false } }).endPass
    else s)

/-- The digest of a region in a quadrant. A region that holds poison has a digest that the spec does not state. -/
def State.regionDigest (s : State) (c q r : Nat) (e : ManifestEntry) : List Byte :=
  let l := (s.ctx c).home % 2 ^ 43 + e.offset
  if s.rangePoison q l e.bytes then Config.poisonedDigest s.turn.no c q r else sha3_512 (s.ddrBytes q l e.bytes)

/-- The result of WEIGHT_DIGEST (Table 10.10). -/
def digestResult (ok : Bool) (region turn : Nat) (digest : List Byte) : List Byte :=
  [if ok then 1 else 0, 0] ++ leBytes 2 region ++ [0, 0, 0, 0] ++ leBytes 8 turn ++ List.replicate 24 0 ++ digest

/-- A digest logged (Table 13.18): entry COUNT mod 64, then COUNT + 1. -/
def State.logDigest (s : State) (l : DigestLog) : State :=
  { s with check := { s.check with
      log := aset s.check.log (s.check.logCount % 64) l, logCount := (s.check.logCount + 1) % 65536 } }

/-- DIGEST_REGION_DONE (R396): a region's digest finishes: it is logged and compared with the manifest, and a
WEIGHT_DIGEST that waits for it completes. -/
def execDigestRegionDone (ctx quad region : Nat) (s : State) : Result3 :=
  let k := (ctx, quad, region)
  let asked := s.check.requested.contains k
  let listed := match s.check.pass with
    | some l => l.contains k
    | none => false
  let rest : State :=
    if asked then { s with check := { s.check with requested := s.check.requested.erase k } }
    else { s with check := { s.check with pass := s.check.pass.map (fun l => l.erase k) } }
  .next (if !(asked || listed) then s
    else match (s.ctx ctx).manifest[region]? with
    | none => rest.endPass
    | some e =>
      if !(s.ctx ctx).digested then rest.endPass
      else
        let d := s.regionDigest ctx quad region e
        let ok := decide (d = e.digest)
        let t := rest.logDigest { turn := s.turn.no, ctx := ctx, quad := quad, match_ := ok, requested := asked, region := region
                                  head := d.take 16 }
        let u := if ok then t.modCtx ctx (fun x => { x with digestOk := aset x.digestOk (region * 4 + quad) s.turn.no }) else t
        let v := if asked then
            u.finish (fun y => y.opc == 0x06 && y.ctx == ctx && y.arg == region) .ok (fun _ => digestResult ok region s.turn.no d)
          else u
        v.endPass)

end Sys2Proof.Machine
end

