-- ==== Sys2Proof/Machine/Close.lean ====
section
/-! DEFINITION. The close of a turn (R393 to R409, R417 to R420, R435): dressing findings, audits and pair comparisons, the
vouch decision of every context, and what follows a withheld turn; the ends of watches and diagnoses. -/

namespace Sys2Proof.Machine

/-! ### Flags of a FAULT record (Table 13.3) -/

/-- FLAGS bit 0. -/
def flWithheld : Nat := 1
/-- FLAGS bit 1. -/
def flLate : Nat := 2
/-- FLAGS bit 2. -/
def flDiagnosing : Nat := 4
/-- FLAGS bit 3. -/
def flExplained : Nat := 8
/-- FLAGS bit 4. -/
def flDoubt : Nat := 16
/-- FLAGS bit 5. -/
def flSuspect : Nat := 32
/-- FLAGS bit 6. -/
def flUnvouched : Nat := 64
/-- FLAGS bit 7. -/
def flReexecuting : Nat := 128

/-- WITHHELD, with UNVOUCHED_EGRESS where the context's vouch mode is OFF (R395). -/
def Ctx.withheldFlags (x : Ctx) : Nat := flWithheld + (if x.vouchOn then 0 else flUnvouched)

/-! ### The faults of a context's sites -/

/-- The faults that a context's sites raised in the turn. -/
def State.faultsOf (s : State) (c : Nat) : List (Nat × SiteFault) :=
  (s.ctxSites c).flatMap (fun i => (s.site i).faults.map (fun f => (i, f)))

/-- The order in which a cause is the primary one: LOCKSTEP, the other hardware checks, then plan faults by code. -/
def primaryOrder : List Cause :=
  [.lockstep, .residue, .eccUe, .turnOverrun, .pondFull, .skewOverflow, .bankClash, .poison, .sluiceViolation]

/-- The primary fault among several. -/
def primaryOf (l : List (Nat × SiteFault)) : Option (Nat × SiteFault) :=
  primaryOrder.findSome? (fun c => l.find? (fun e => decide (e.2.cause = c)))

/-- One site entry per site, with the site's own primary cause (R406). -/
def State.linesOf (s : State) (l : List (Nat × SiteFault)) : List SiteLine :=
  ((l.map Prod.fst).foldl nins []).filterMap (fun i =>
    (primaryOf (l.filter (fun e => e.1 == i))).map (fun e => s.faultLine i e.2))

/-- Whether a plan fault may have been caused by a late delivery (R437). -/
def State.isLate (s : State) (l : List (Nat × SiteFault)) : Bool :=
  l.any (fun e => [Cause.skewOverflow, .pondFull, .turnOverrun].contains e.2.cause && (s.site e.1).ex.late)

/-! ### Vouching (R65, R374, R394) -/

/-- Whether a crossing is due in the turn that a context has run (R373). -/
def Ctx.due (x : Ctx) (k : CrossIn) : Bool :=
  match x.plan with
  | some p => p.body.crossings.any (fun d => d.gearing == x.gearing && d.planQuad == k.planQuad && d.sluice == k.sluice && decide (d.duePhase ≤ x.turn) &&
      (x.turn - d.duePhase) % max d.dueEvery 1 == 0)
  | none => false

/-- A crossing whose instance NEXT was consumed (R374). -/
def CrossIn.advance (k : CrossIn) : CrossIn := { k with next := k.next + 1, map0 := k.map1, map1 := [] }

/-- A context after a vouched turn: CTX_TURN rises (R63), consumed crossings advance, instances end. -/
def Ctx.vouched (x : Ctx) (turn : Nat) : Ctx :=
  let y := x.endInstances true turn
  { y with
    crossIn := y.crossIn.map (fun k => if x.due k then k.advance else k), turn := (y.turn + 1) % 2 ^ 64, lastVouched := turn
    sinceVouch := 0, redo := false, lateTried := false, causes := [], late := false }

/-- A turn vouched (R394): commits and tokens, cross-device releases, then the context's own counts. -/
def State.vouch (s : State) (c : Nat) : State :=
  let x := s.ctx c
  let a := s.commit c
  let b := if x.vouchOn then a.releaseCtx c else a
  let d := b.modCtx c (fun y => y.vouched s.turn.no)
  let e := { d with check := { d.check with vouched := bump32 d.check.vouched 1 } }
  if x.lateTried then
    e.modQuad (x.quads.getD 0 0) (fun z => { z with lateRecoveries := satAdd 8 z.lateRecoveries 1 })
  else e

/-- A site's transfers to other devices that were never released are discarded with the turn (R394). -/
def Site.discardUnsent (a : Site) : Site :=
  { a with ex := { a.ex with xfers := a.ex.xfers.filter (fun t => !(decide (t.cls = .otherDevice) && t.sent == 0)) } }

/-- Whether a site reached its end-of-work point. -/
def SeqStatus.finished : SeqStatus → Bool
  | .ended _ => true
  | .off => true
  | _ => false

/-- A turn withheld (R134, R394, R447): nothing of it leaves, it is to be executed again, and where a site did not reach its
end-of-work point every slot is restored, at the price of a hold turn where D + C < 8,192. -/
def State.withhold (s : State) (c : Nat) : State :=
  let cut := (s.ctxSites c).any (fun i => !(s.site i).seq.status.finished)
  let a := (s.ctxSites c).foldl (fun u i => u.modSite i Site.discardUnsent) s
  let b := if cut then a.eachTile c (fun t z => t.restoreSlots z) else a
  let slow := cut && decide (s.turn.geom.dressing + s.turn.geom.close < 8192)
  let d := b.modCtx c (fun x => { (x.endInstances false s.turn.no) with
    redo := true, sinceVouch := x.sinceVouch + 1, restoring := x.restoring || slow })
  { d with check := { d.check with withheld := bump32 d.check.withheld 1 } }

/-! ### Hardware checks (R397) -/

/-- The watch of a site. -/
def Check.watch (k : Check) (i : Nat) : Option HwWatch := k.watches.find? (fun w => w.site == i)

/-- A check fired on a site: a new watch with targeted dressing, or a further firing of one. -/
def State.watchSite (s : State) (c i event : Nat) (cause : Cause) (fabric : Bool) : State :=
  match s.check.watch i with
  | some _ =>
    let next := fun (w : HwWatch) =>
      if w.site = i then { w with firings := w.firings + 1, again := true, fabric := w.fabric || fabric } else w
    { s with check := { s.check with watches := s.check.watches.map next } }
  | none =>
    let w : HwWatch := { site := i, ctx := c, cause := cause, event := event, since := s.turn.no, firings := 1, again := false, fabric := fabric }
    ({ s with check := { s.check with watches := s.check.watches ++ [w] } }).target i

/-- CAUSE_DATA of a hardware check's record: REPEAT counts the firings on the site in the event (Table 13.4). -/
def State.checkData (s : State) (e : Nat × SiteFault) : List Byte :=
  if e.2.cause = .eccUe then e.2.data
  else match s.check.watch e.1 with
    | some w => BitVec.ofNat 8 w.firings :: e.2.data.drop 1
    | none => e.2.data

/-- Hardware checks on sites of a context (R397): the context stays RUNNING and executes the turn again. -/
def State.checkFault (s : State) (c : Nat) (l : List (Nat × SiteFault)) : State :=
  let x := s.ctx c
  let fired := l.filter (fun e => e.2.cause.isCheck)
  let sites := (fired.map Prod.fst).foldl nins []
  let ev := match sites.findSome? (fun i => s.check.watch i) with
    | some w => (s, w.event)
    | none => s.newEvent
  let a := sites.foldl (fun u i =>
    u.watchSite c i ev.2 (((primaryOf (fired.filter (fun e => e.1 == i))).map (fun e => e.2.cause)).getD .lockstep)
      (fired.any (fun e => e.1 == i && decide (e.2.cause = .lockstep) && e.2.detail == 1))) ev.1
  match primaryOf l with
  | none => a
  | some e => a.faultCtx c (a.ctxFault c e.2.cause (l.map (fun z => z.2.cause)) (x.withheldFlags + flReexecuting) (a.linesOf l) ev.2 0
      (a.checkData e))

/-! ### Plan faults and consumed poison (R35, R405, R437) -/

/-- A plan fault or a consumption of poison: the context enters FAULTED; a CTX_PAUSE that waits has had its last turn. -/
def State.planFault (s : State) (c : Nat) (l : List (Nat × SiteFault)) : State :=
  let x := s.ctx c
  let late := s.isLate l
  let causes := (l.map (fun z => z.2.cause)).foldl (fun acc k => if acc.contains k then acc else acc ++ [k]) []
  let ev := s.newEvent
  let b := match primaryOf l with
    | none => ev.1
    | some e => ev.1.faultCtx c (ev.1.ctxFault c e.2.cause causes (x.withheldFlags + if late then flLate else 0) (ev.1.linesOf l) ev.2 0 e.2.data)
  (b.modCtx c (fun y => { y.fault with causes := causes, late := late })).finish (isCmd 0x11 c) .ok (fun _ => [])

/-! ### Mismatches and diagnosis (R398, R402, R404) -/

/-- A mismatch found at a close: the suspect sites with their roles, and what its record says. -/
structure Mismatch where
  ctx : Nat
  cause : Cause
  tile : Nat
  sites : List (Nat × Nat × Nat)
  auditor : Option Nat
  suspects : List Nat
  first : Nat
  data : List Byte
  deriving DecidableEq, Repr

/-- How the audit of one logical tile ended. -/
inductive AuditOut where
  | clean | incomplete | poisoned
  | check (auditor : Nat) (cause : Cause)
  | differ (auditor : Nat) (a b : DWord)
  deriving DecidableEq, Repr

/-- Whether the tile on a site ran plan code in the turn. -/
def State.ranOn (s : State) (i : Nat) : Bool :=
  let a := s.site i
  match a.ctx with
  | none => false
  | some c =>
    let x := s.ctx c
    x.ran && (match x.plan.bind (fun p => p.tile a.gtile) with
      | some t => t.entries.any (fun e => e.gearing == x.gearing)
      | none => false)

/-- The hardware check that a cause code names (Table 13.2). -/
def checkOf (code : Nat) : Cause := if code = 7 then .residue else if code = 8 then .eccUe else .lockstep

/-- The audit of logical tile `t` of QD`q` (R401, R402, R409): one that no auditor brings to its end is incomplete. -/
def State.auditOf (s : State) (f : CloseFacts) (q t : Nat) : AuditOut :=
  let i := s.siteOf q t
  if !s.ranOn i then .clean
  else
    let own := (s.site i).faults.any (fun e => e.cause.isCheck)
    let plan := match (s.site i).ctx with
      | some c => (s.faultsOf c).any (fun e => e.2.cause.isPlan)
      | none => false
    if own || plan then .incomplete
    else match f.audits.find? (fun e => e.tile == t && e.auditor / Config.sitesPerQuad == q) with
      | none => .incomplete
      | some e => match e.result with
        | .equal => .clean
        | .incomplete => .incomplete
        | .check k => .check e.auditor (checkOf k)
        | .poisoned => .poisoned
        | .differ a b => .differ e.auditor a b

/-- The turn of a logical tile's last clean audit, or of PLAN_LOAD. -/
def Ctx.lastClean (x : Ctx) (g : Nat) : Nat := aget x.loadTurn x.auditOk g

/-- The audits of a quadrant's turn (R401), in rotation order. -/
def State.auditList (s : State) (f : CloseFacts) (q : Nat) : List (Nat × AuditOut) :=
  (List.range (s.auditors q)).map (fun k =>
    let t := ((s.quad q).pointer + k) % Config.tilesPerQuad
    (t, s.auditOf f q t))

/-- The mismatch that an audit found. -/
def State.auditMismatch (s : State) (q : Nat) (e : Nat × AuditOut) : Option Mismatch :=
  let i := s.siteOf q e.1
  match e.2, (s.site i).ctx with
  | .differ au a b, some c =>
    some { ctx := c, cause := .auditMismatch, tile := (s.site i).gtile, sites := [(i, 0, (s.site i).gtile), (au, 1, (s.site i).gtile)]
           auditor := some au, suspects := [i, au], first := (s.ctx c).lastClean (s.site i).gtile + 1
           data := leBytes 8 a.toNat ++ leBytes 8 b.toNat }
  | _, _ => none

/-- An audit outcome's part in the counters of Table 13.16: completed, incomplete, mismatched, skipped for poison. -/
def AuditOut.counts : AuditOut → Nat × Nat × Nat × Nat
  | .clean => (1, 0, 0, 0)
  | .incomplete => (0, 1, 0, 0)
  | .check _ _ => (0, 1, 0, 0)
  | .poisoned => (0, 0, 0, 1)
  | .differ _ _ _ => (1, 0, 1, 0)

/-- The audits of a quadrant counted, clean ones remembered, and the rotation pointer moved on (R401, Table 13.16). -/
def State.countAudits (s : State) (q : Nat) (l : List (Nat × AuditOut)) : State :=
  let n := fun (f : Nat × Nat × Nat × Nat → Nat) => (l.map (fun e => f e.2.counts)).sum
  let a := s.modQuad q (fun x => { x with
    pointer := (x.pointer + l.length) % Config.tilesPerQuad, auditDone := bump32 x.auditDone (n (fun k => k.1))
    auditIncomplete := bump16 x.auditIncomplete (n (fun k => k.2.1)), auditMismatch := bump16 x.auditMismatch (n (fun k => k.2.2.1)) })
  let b := { a with check := { a.check with poisonSkips := bump16 a.check.poisonSkips (n (fun k => k.2.2.2)) } }
  (l.filter (fun e => decide (e.2 = .clean))).foldl (fun u e =>
    let z := u.site (u.siteOf q e.1)
    match z.ctx with
    | some c => u.modCtx c (fun x => { x with auditOk := aset x.auditOk z.gtile u.turn.no })
    | none => u) b

/-- The auditors on which a hardware check fired get its watch and targeted dressing, and the check is counted (R397, R409). -/
def State.checkAuditors (s : State) (q : Nat) (l : List (Nat × AuditOut)) : State :=
  l.foldl (fun u e => match e.2 with
    | .check au cause =>
      let one := fun (k : Cause) => if cause = k then 1 else 0
      let v := u.modQuad q (fun x => { x with lockstep := bump16 x.lockstep (one .lockstep)
                                              residue := bump16 x.residue (one .residue), eccUe := bump16 x.eccUe (one .eccUe) })
      let ev := match v.check.watch au with
        | some w => (v, w.event)
        | none => v.newEvent
      ev.1.watchSite (((v.site (v.siteOf q e.1)).ctx).getD 0) au ev.2 cause false
    | _ => u) s

/-- Whether a context's pairs are compared in the turn (R404, R409): it runs privileged streams and raised no fault. -/
def State.pairsCompared (s : State) (c : Nat) : Bool := (s.ctx c).ran && (s.ctx c).privileged && (s.faultsOf c).isEmpty

/-- The pairs that a context's plan declares for its gearing (R403). -/
def Ctx.pairs (x : Ctx) : List PairDecl :=
  match x.plan with
  | some p => p.body.pairs.filter (fun d => d.gearing == x.gearing)
  | none => []

/-- The tile and address of the TWIN_OUT entry of a batch position (R403): TWIN_OUT mirrors the BATCH_OUT region. -/
def Ctx.twinEntry (x : Ctx) (b : BatchDecl) (pos : Nat) : Option (Nat × Nat) :=
  match x.plan, x.pairs.find? (fun d => d.primary == b.outTile) with
  | some p, some d =>
    let at_ := fun (u : RegionUse) (t : Nat) => (p.body.regions.find? (fun r => r.use == u && r.tile == some t)).map (fun r => r.base)
    match at_ .batchOut b.outTile, at_ .twinOut d.twin with
    | some a, some w => some (d.twin, w + b.outOffset - a + 8 * pos)
    | _, _ => none
  | _, _ => none

/-- The quadrant controller's comparison of BATCH_OUT with TWIN_OUT over the privileged positions of the turn (R404): whether an entry
differs, and whether one is poisoned. -/
def State.twinCompare (s : State) (c : Nat) : Bool × Bool :=
  let x := s.ctx c
  match x.gear with
  | none => (false, false)
  | some (_, b) =>
    let due := x.positions.filter (fun p => p.filled + b.returnTurns == x.turn + 1 && (s.stream p.stream).priv)
    due.foldl (fun acc p => match x.twinEntry b p.pos, s.siteOfTile x b.outTile with
      | some (w, ad), some i => (match s.siteOfTile x w with
        | some j =>
          let a := (s.site i).scr
          let t := (s.site j).scr
          let at_ := b.outOffset + 8 * p.pos
          (acc.1 || decide (a.read at_ 8 ≠ t.read ad 8), acc.2 || a.poison64 at_ || t.poison64 ad)
        | none => acc)
      | _, _ => acc) (false, false)

/-- A context's pair facts: those of the digests, and that of BATCH_OUT against TWIN_OUT where no digest of the pair differed. -/
def State.pairFactsOf (s : State) (f : CloseFacts) (c : Nat) : List PairFact :=
  let told := f.pairs.filter (fun e => e.ctx == c)
  let twin := s.twinCompare c
  let out := match (s.ctx c).gear with
    | some (_, b) => b.outTile
    | none => 0
  let mine := (s.ctx c).pairs.find? (fun d => d.primary == out)
  let more : List PairFact := match mine with
    | some d => if (twin.1 || twin.2) && !told.any (fun e => e.primary == out && e.differ.isSome) then
        [{ ctx := c, primary := out, poisoned := twin.2
           differ := if twin.1 then some (Config.pairDigest s.turn.no c out, Config.pairDigest s.turn.no c d.twin) else none }] else []
    | none => []
  sortBy (fun a b => decide (a.primary ≤ b.primary)) (told ++ more)

/-- The mismatch that the pair comparison of a context found (R404): its data is the lowest differing primary's, its
suspects every site of both sets. -/
def State.pairMismatch (s : State) (f : CloseFacts) (c : Nat) : Option Mismatch :=
  let x := s.ctx c
  let pairs := x.pairs
  let bad := (s.pairFactsOf f c).filter (fun e => e.differ.isSome && !e.poisoned && pairs.any (fun z => z.primary == e.primary))
  if !s.pairsCompared c then none
  else match bad with
    | [] => none
    | e :: _ =>
      let at_ := fun (g role : Nat) => (s.siteOfTile x g).map (fun i => (i, role, g))
      let d := e.differ.getD (0, 0)
      some { ctx := c, cause := .pairMismatch, tile := e.primary
             sites := bad.flatMap (fun z => (at_ z.primary 2).toList ++
               ((pairs.find? (fun w => w.primary == z.primary)).bind (fun w => at_ w.twin 3)).toList)
             auditor := none, suspects := pairs.flatMap (fun w => (s.siteOfTile x w.primary).toList ++ (s.siteOfTile x w.twin).toList)
             first := 0, data := leBytes 8 d.1.toNat ++ leBytes 8 d.2.toNat }

/-- The pair comparisons counted (Table 13.10). -/
def State.countPairs (s : State) (f : CloseFacts) : State :=
  let cs := allCtxs.filter (fun c => s.pairsCompared c)
  let skipped := (cs.filter (fun c => (s.pairFactsOf f c).any (fun e => e.poisoned))).length
  let bad := (cs.filter (fun c => (s.pairMismatch f c).isSome)).length
  { s with check := { s.check with
      pairCompares := bump32 s.check.pairCompares (cs.length - skipped), pairMismatches := bump16 s.check.pairMismatches bad
      poisonSkips := bump16 s.check.poisonSkips skipped } }

/-- A diagnosis begins (R398): the record of the mismatches of one context, three hold turns, targeted dressing. -/
def State.diagnose (s : State) (c : Nat) (l : List Mismatch) : State :=
  match l with
  | [] => s
  | m :: _ =>
    let x := s.ctx c
    let ev := s.newEvent
    let lines := l.flatMap (fun z => z.sites.map (fun e => { s.siteLine e.1 e.2.1 z.cause.code with tile := e.2.2 }))
    let a := ev.1.faultCtx c (ev.1.ctxFault c m.cause (l.map (fun z => z.cause)) (x.withheldFlags + flDiagnosing) lines ev.2 m.first m.data)
    let all := (l.flatMap (fun z => z.suspects)).foldl nins []
    let b := a.modCtx c (fun y => { y with diag := some {
      event := ev.2, cause := m.cause, started := s.turn.no, suspects := all, auditor := m.auditor, firstSuspect := m.first, data := m.data } })
    all.foldl (fun u i => u.target i) b

/-! ### Weight changes (R396) -/

/-- The digest mismatch that a context has not yet been marked for. -/
def State.digestBad (s : State) (c : Nat) : Option DigestLog :=
  let x := s.ctx c
  if x.marked || x.plan.isNone || decide (x.state = .loading) || decide (x.state = .quarantined) then none
  else (s.check.log.find? (fun e => e.2.ctx == c && !e.2.match_ && decide (x.loadTurn ≤ e.2.turn))).map Prod.snd

/-- DIGEST_MISMATCH raised (R396): the plan is marked and the context FAULTED, after a diagnosis that holds it (R409). -/
def State.digestFault (s : State) (c : Nat) (d : DigestLog) (ran : Bool) : State :=
  let x := s.ctx c
  let first := aget x.loadTurn x.digestOk (d.region * 4 + d.quad) + 1
  let ev := s.newEvent
  let data : List Byte := leBytes 2 d.region ++ [BitVec.ofNat 8 d.quad, 0, 0, 0, 0, 0] ++ d.head.take 8
  let a := ev.1.faultCtx c (ev.1.ctxFault c .digestMismatch [.digestMismatch] ((if ran then x.withheldFlags else 0) + flSuspect) [] ev.2
    first data)
  let b := (a.suspectRanges c first).modCtx c (fun y =>
    let z := { y with marked := true, causes := [.digestMismatch], late := false }
    if y.diag.isSome then z else z.fault)
  let e := { b with check := { b.check with digestMismatches := bump16 b.check.digestMismatches 1 } }
  e.finish (fun k => isCmd 0x11 c k && decide ((e.ctx c).state = .faulted)) .ok (fun _ => [])

/-! ### Dressing findings (R417 to R420) -/

/-- Whether a finding is a confirmed defect: the repeat was wrong in the same way, or a checker did not fire (R411, R417). -/
def dressConfirmed (f : DressFact) : Bool := f.item == 0 || f.again

/-- The turn after the last round in which an item passed on a site, or its tile's last clean audit (R420). The rounds are those of
the quadrant's rotation (DEDUCED, log 42). -/
def State.dressSuspect (s : State) (c i item index : Nat) : Nat :=
  let x := s.ctx c
  if itemCause item = .auditMismatch then
    max ((s.quad (i / Config.sitesPerQuad)).lastRound (itemPos s.mod.order.mx4 item index)) (x.lastClean (s.site i).gtile) + 1
  else 0

/-- The record of a defect that routine dressing confirmed on a LIVE site (R420). -/
def State.dressRecord (s : State) (c i item index : Nat) (ran : Bool) : State :=
  let x := s.ctx c
  let first := s.dressSuspect c i item index
  let ev := s.newEvent
  let flags := (if ran then x.withheldFlags else 0) + flExplained + (if first = 0 then 0 else flSuspect)
  let a := ev.1.faultCtx c (ev.1.ctxFault c (itemCause item) [itemCause item] flags
    [ev.1.siteLine i 0 (itemCause item).code] ev.2 first [])
  if first = 0 then a else a.suspectRanges c first

/-- A hardware check that dressing explains (R397): the outcome record of its event. -/
def State.explainWatch (s : State) (w : HwWatch) : State :=
  let a := s.faultCtx w.ctx (s.ctxFault w.ctx w.cause [w.cause] flExplained [s.siteLine w.site 0 w.cause.code] w.event 0 [])
  { a with check := { a.check with watches := a.check.watches.filter (fun z => z.site != w.site) } }

/-- A diagnosis that dressing explains (R398): the outcome record with the ranges of an audit mismatch, unless only the
auditor's site was at fault; the context executes its turn again, or is FAULTED where its plan is marked. -/
def State.explainDiag (s : State) (c : Nat) (d : Diagnosis) (sites : List Nat) : State :=
  let ranges := decide (d.cause = .auditMismatch) && sites.any (fun i => some i != d.auditor)
  let lines := sites.map (fun i => s.siteLine i (if some i = d.auditor then 1 else 0) d.cause.code)
  let a := s.faultCtx c (s.ctxFault c d.cause [d.cause] (flExplained + if ranges then flSuspect else 0) lines d.event d.firstSuspect d.data)
  let b := if ranges then a.suspectRanges c d.firstSuspect else a
  b.modCtx c (fun x => if x.marked then { x with diag := none, redo := true }.fault else { x with diag := none, redo := true })

/-- Defects confirmed at a close on sites that a check or a diagnosis had under targeted dressing. -/
def State.explain (s : State) (sites : List Nat) : State :=
  let a := (s.check.watches.filter (fun w => sites.contains w.site)).foldl (fun u w => u.explainWatch w) s
  allCtxs.foldl (fun u c =>
    match (u.ctx c).diag with
    | none => u
    | some d =>
      let l := sites.filter (fun i => d.suspects.contains i)
      if l.isEmpty then u else u.explainDiag c d l) a

/-- Sites whose dressing is targeted. -/
def State.isTargeted (s : State) (i : Nat) : Bool := s.heal.targeted.any (fun e => e.1 == i)

/-- The findings of dressing entered (R412, R417): confirmed defects, words that could not be read and are restored poisoned, and
watches of answers that were not repeated; then the
rounds of watches and of targeted dressing that the turn used up. -/
def State.dress (s : State) (f : CloseFacts) : State :=
  let real := f.dress.filter (fun e => s.dresses e.site)
  let down := fun (w : DressWatch) => if s.dresses w.site then { w with rounds := w.rounds - 1 } else w
  let a := (real.filter dressConfirmed).foldl (fun u e => u.confirm e.site e.item e.index) s
  let lost := (real.filter (fun e => e.item == 1 && e.unread)).foldl (fun u e =>
    u.modSite e.site (fun x => { x with scr := x.scr.mark e.index true })) a
  let b : State := { lost with check := { a.check with dressWatches := a.check.dressWatches.map down } }
  let d := (real.filter (fun e => !dressConfirmed e)).foldl (fun u e => u.watchItem e.site e.item) b
  d.targetRounds

/-! ### The close of one context -/

/-- What the close knows of a context: its faults, mismatches, and defects that routine dressing confirmed on its sites. -/
structure CtxFacts where
  faults : List (Nat × SiteFault)
  mismatches : List Mismatch
  fixes : List (Nat × Nat × Nat)
  deriving DecidableEq, Repr

/-- The consumptions of poison in sites counted (Table 13.12). -/
def State.countPoison (s : State) (l : List (Nat × SiteFault)) : State :=
  let n := (l.filter (fun e => decide (e.2.cause = .poison))).length
  { s with check := { s.check with poisonFaults := bump16 s.check.poisonFaults n } }

/-- The vouch decision of a context (R393) and what follows it. A hardware check decides over plan faults (R397). -/
def State.closeCtx (s : State) (c : Nat) (k : CtxFacts) : State :=
  let x := s.ctx c
  let bad := s.digestBad c
  let clean := k.faults.isEmpty && k.mismatches.isEmpty && k.fixes.isEmpty && bad.isNone
  if x.ran && clean then s.vouch c
  else
    let a := if x.ran then s.withhold c
      else if x.active then s.modCtx c (fun y => { y with sinceVouch := y.sinceVouch + 1 })
      else s
    let b := if k.faults.isEmpty then a
      else if k.faults.any (fun e => e.2.cause.isCheck) then (a.countPoison k.faults).checkFault c k.faults
      else (a.countPoison k.faults).planFault c k.faults
    let d := b.diagnose c k.mismatches
    let e := k.fixes.foldl (fun u z => u.dressRecord c z.1 z.2.1 z.2.2 x.ran) d
    match bad with
    | some g => e.digestFault c g x.ran
    | none => e

/-- The commands of a context that the close completes (Table 10.7): CTX_START and CTX_RESUME with the first turn run,
CTX_PAUSE with the last, CTX_DRAIN when no stream is ACTIVE. -/
def State.closeCmds (s : State) (c : Nat) : State :=
  let a := if (s.ctx c).ran then s.finish (fun y => isCmd 0x10 c y || isCmd 0x12 c y) .ok (fun _ => []) else s
  let b := if (a.ctx c).trans = some .pause ∧ (a.ctx c).state = .running ∧ (a.ctx c).atGearPoint then
      a.finish (isCmd 0x11 c) .ok (fun _ => []) else a
  if (b.ctx c).state = .draining ∧ (b.activeOf c).isEmpty then
    (b.modCtx c (fun y => { y with state := .loaded, cancelDrain := false })).finish (isCmd 0x13 c) .ok (fun _ => [])
  else b

/-! ### Engine watches (R435) -/

/-- Whether an engine held a request in the turn (Table 15.2). -/
def State.engineHeld (s : State) (q e : Nat) : Bool :=
  let here := fun (f : Transfer → Bool) =>
    s.sites.any (fun p => p.1 / Config.sitesPerQuad == q && p.2.ex.xfers.any (fun t => servesClass e t.cls && f t))
  if e = 3 then here (fun t => decide (0 < t.sent) && !t.tokenSent && decide (t.turn < s.turn.no))
  else !((s.quad q).engine e).now.isEmpty || here (fun _ => true)

/-- Whether an engine's watch trips in this close: it held a request and retired none; the DDR request engine's watch is
suspended while its quadrant's controllers retrain or refresh. The intake engine's watch tripped in the intake. -/
def State.watchTrips (s : State) (q e : Nat) : Bool :=
  if e = 4 then ((s.quad q).engine e).tripped
  else s.engineHeld q e && ((s.quad q).engine e).retired == 0 &&
    !(e == 1 && (s.ddr.refresh.contains q || decide ((s.quad q).recState = .full)))

/-- Every engine's watch at a close. -/
def State.watchEngines (s : State) : State :=
  s.mod.order.quads.foldl (fun u q =>
    if (u.quad q).recState.resetting || (u.quad q).braked then u
    else (if q = 0 then [1, 2, 3, 4] else [1, 2, 3]).foldl (fun v e =>
      if v.watchTrips q e then
        (v.modQuad q (fun x => { x with engines := amod Engine.reset x.engines e (fun n => { n with tripped := true }) })).trip q e
      else v) u) s

/-! ### The close -/

/-- Whether the replay of a suspect uses up a turn. -/
def State.replaysNow (s : State) (x : Quad) : Bool :=
  match x.recState, x.replay with
  | .replay, some r => (match r.todo with
      | c :: _ => !(s.ctx c).held && !s.turn.stepTurn
      | [] => false)
  | _, _ => false

/-- A quadrant at the close: its dressing rotation, its heartbeat, and the replay under way. -/
def State.closeQuad (s : State) (audits : Bool) (x : Quad) : Quad :=
  let items := dressItems s.mod.order.mx4
  let g := s.turn.geom
  let round := x.nextRound items g.itemCycles s.turn.no
  let y := if x.recState.resetting || x.braked then x
    else if audits then round.nextAuditRound items g.auditCycles else round
  let used := s.replaysNow x
  { y with heartbeatTurn := if x.recState.resetting then x.heartbeatTurn else s.turn.no
           replay := x.replay.map (fun r => if used then { r with left := r.left - 1 } else r) }

/-- Quadrants at the close, with the words that read-checks corrected; the hub watchdog is serviced (R448). -/
def State.closeQuads (s : State) (f : CloseFacts) : State :=
  let a := f.corrected.foldl (fun u e =>
    (u.wearCorrected e.1 e.2).modQuad e.1 (fun x => { x with correctedWords := bump32 x.correctedWords e.2 })) s
  let b := a.mod.order.quads.foldl (fun u q => u.modQuad q (fun x => u.closeQuad (decide (0 < u.auditors q)) x)) a
  { b with mod := { b.mod with serviced := b.turn.no } }

/-- The faults of a context's sites judged: they stay with the sites until the boundary, and count for no later close. -/
def State.judgeFaults (s : State) (c : Nat) : State :=
  if (s.ctx c).ran then (s.ctxSites c).foldl (fun u i => u.modSite i (fun a => { a with judged := a.faults, faults := [] })) s else s

/-- CLOSE_WINDOW_START (R393 to R405, R417 to R420, R435): the findings of the turn's dressing, audits and pair
comparisons, then the vouch decision of every context and what follows from it. Under a chip brake only the window comes. -/
def execCloseWindowStart (facts : CloseFacts) (s : State) : Result3 :=
  .next (if s.live && decide (s.turn.window = .dressing) then
      let s0 : State := { s with turn := { s.turn with window := .close, cycle := s.turn.geom.start .close } }
      let qs := s0.mod.order.quads.filter (fun q => !(s0.quad q).recState.resetting && !(s0.quad q).braked)
      let audits := qs.map (fun q => (q, s0.auditList facts q))
      let found := audits.flatMap (fun e => e.2.filterMap (fun z => s0.auditMismatch e.1 z))
      let pairs := allCtxs.filterMap (fun c => s0.pairMismatch facts c)
      let real := facts.dress.filter (fun e => dressConfirmed e && s0.dresses e.site)
      let routine := real.filter (fun e => decide ((s0.site e.site).role = .live) && !s0.isTargeted e.site)
      let sites := ((real.filter (fun e => s0.isTargeted e.site)).map (fun e => e.site)).foldl nins []
      let of_ := fun (c : Nat) =>
        ({ faults := if (s0.ctx c).ran then s0.faultsOf c else []
           mismatches := sortBy (fun a b => decide (a.tile ≤ b.tile)) (found.filter (fun m => m.ctx == c)) ++
             pairs.filter (fun m => m.ctx == c)
           fixes := (routine.filter (fun e => (s0.site e.site).ctx == some c)).map (fun e => (e.site, e.item, e.index)) } : CtxFacts)
      let s1 := ((allCtxs.foldl (fun u c => if u.ctxBraked c then u else u.resendCtx c) s0).explain sites).dress facts
      let s2 := audits.foldl (fun u e => (u.countAudits e.1 e.2).checkAuditors e.1 e.2) (s1.countPairs facts)
      let s3 := allCtxs.foldl (fun u c => u.closeCtx c (of_ c)) s2
      let s4 := allCtxs.foldl (fun u c => (u.judgeFaults c).closeCmds c) s3
      ((s4.closeQuads facts).watchEngines).rewear.drivenModes
    else if s.turn.running && decide (s.turn.window = .dressing) then
      ({ s with turn := { s.turn with window := .close, cycle := s.turn.geom.start .close } } : State).drivenModes
    else s)

/-! ### Doubt (R397 to R399) -/

/-- A suspect device (R399): SUSPECT and DRAIN_REQUEST are set, and its wear score is 1,000. -/
def State.becomeSuspect (s : State) : State :=
  let t := if s.check.suspect then s else s.emit (.event .spareWanted)
  ({ t with check := { t.check with suspect := true, drainRequest := true } }).rewear

/-- The ports under a brake whose doubt lies in the fabric domain (R369): each sends one BRAKE flit and is BRAKE_IDLE. -/
def State.idlePorts (s : State) (cause : Cause) : State :=
  (s.mod.order.ports.filter (fun n => (s.port n).cable)).foldl (fun u n =>
    (u.emit (.brakeFlit n (s.position.getD 0) cause.code)).modPort n (fun x => { x with
      state := .brakeIdle, kept := [], inFlight := 0, degradedNow := false })) s

/-- An event that is doubt: its FAULT record, with the ranges of what may be wrong, then the brake, and the device is
suspect. Doubt in the fabric domain brakes the chip and idles its ports (R369, R408; DEDUCED, log 91: R397 names the quadrant scope for
a site's checks, of which router control is one). -/
def State.doubt (s : State) (c : Nat) (cause : Cause) (lines : List SiteLine) (event first : Nat) (data : List Byte)
    (quads : List Nat) (fabric : Bool) : State :=
  let chip := fabric || decide (2 ≤ quads.length) || s.mod.order.quads.all (fun q => (s.quad q).braked || quads.contains q)
  let flags := flDoubt + if first = 0 then 0 else flSuspect
  let a := s.faultCtx c { (s.ctxFault c cause [cause] flags lines event first data) with scope := if chip then 3 else 2 }
  let seq := a.lastSeq c
  let b := if first = 0 then a else a.suspectRanges c first
  let d := b.brake quads fabric cause none [(s.ctxRing c, seq)]
  (if fabric then d.idlePorts cause else d).becomeSuspect

/-- Whether the close of turn `n` has come. -/
def Turn.closed (t : Turn) (n : Nat) : Bool := decide (n < t.no) || (decide (n ≤ t.no) && decide (t.window = .close))

/-- HW_CHECK_WATCH_END (R397): in the close of the third turn after a check: a second firing without a confirmed defect is
doubt; otherwise the event was a localised transient. -/
def execHwCheckWatchEnd (site : Nat) (s : State) : Result3 :=
  let q := site / Config.sitesPerQuad
  .next (match s.check.watch site with
    | none => s
    | some w =>
      if !s.live || !s.turn.closed (w.since + 3) then s
      else
        let t := { s with check := { s.check with watches := s.check.watches.filter (fun z => z.site != site) } }
        if w.again then
          t.doubt w.ctx w.cause [t.siteLine site 0 w.cause.code] w.event 0
            (if w.cause = .eccUe then [] else [BitVec.ofNat 8 w.firings]) [q] w.fabric
        else
          let u := t.modQuad q (fun x => { x with transients := bump16 x.transients 1 })
          ({ u with heal := { u.heal with dayTransients := amod [] u.heal.dayTransients q today } }).rewear)

/-- DIAGNOSIS_END (R398): in the close of N + 3 no defect was confirmed: the event is doubt. -/
def execDiagnosisEnd (ctx : Nat) (s : State) : Result3 :=
  .next (match (s.ctx ctx).diag with
    | none => s
    | some d =>
      if !s.live || !s.turn.closed (d.started + 3) then s
      else
        let t := s.modCtx ctx (fun x => { x with diag := none })
        t.doubt ctx d.cause (d.suspects.map (fun i => t.siteLine i (if some i = d.auditor then 1 else 0) d.cause.code)) d.event
          d.firstSuspect d.data ((d.suspects.map (fun i => i / Config.sitesPerQuad)).foldl nins []) false)

/-- HUB_LOCKSTEP (R397, R408): a mismatch in hub control is doubt at once and brakes the chip; its record goes to the
management tailraces. -/
def execHubLockstep (s : State) : Result3 :=
  .next (if s.live then
      let e := s.newEvent
      e.1.brake [] true .lockstep (some { (e.1.plainFault .lockstep [] [1]) with event := e.2 }) []
    else s)

end Sys2Proof.Machine
end

