-- ==== Sys2Proof/Machine/ExchangeOps.lean ====
section
/-! DEFINITION. The operations of the exchange slot, each as the bundle that holds it alone in its slot. -/

namespace Sys2Proof.Machine

/-- SEND_V (R138): Send a message of 1 to 8 units from V registers to a hopper of a logical tile. -/
def execSendV (site : Nat) (f : FmtSV) (k : Checks) (s : State) : Result3 :=
  .next (s.issueAt site (loneExch (.sendV f)) k)

/-- SEND_S (R139): Send a one-unit message from eight scalar registers. -/
def execSendS (site : Nat) (f : FmtSS) (k : Checks) (s : State) : Result3 :=
  .next (s.issueAt site (loneExch (.sendS f)) k)

/-- MSEND_V (R139): Send a V-register message to every member of a multicast group. -/
def execMsendV (site : Nat) (f : FmtMV) (k : Checks) (s : State) : Result3 :=
  .next (s.issueAt site (loneExch (.msendV f)) k)

/-- RECV_V (R141): Take the head message of a hopper into V registers, stalling while the hopper is empty. -/
def execRecvV (site : Nat) (f : FmtRV) (k : Checks) (s : State) : Result3 :=
  .next (s.issueAt site (loneExch (.recvV f)) k)

/-- RECV_S (R141): Take unit 0 of the head message into scalar registers. -/
def execRecvS (site : Nat) (f : FmtRV) (k : Checks) (s : State) : Result3 :=
  .next (s.issueAt site (loneExch (.recvS f)) k)

/-- TPUSH (R142): Push a scalar register onto a token queue. -/
def execTpush (site : Nat) (f : FmtTP) (k : Checks) (s : State) : Result3 :=
  .next (s.issueAt site (loneExch (.tpush f)) k)

/-- TPUSHI (R142): Push an immediate onto a token queue. -/
def execTpushi (site : Nat) (f : FmtTI) (k : Checks) (s : State) : Result3 :=
  .next (s.issueAt site (loneExch (.tpushi f)) k)

/-- TPOP (R142): Pop the head of a token queue into a scalar register. -/
def execTpop (site : Nat) (f : FmtTO) (k : Checks) (s : State) : Result3 :=
  .next (s.issueAt site (loneExch (.tpop f)) k)

/-- DMA (R143): Queue the transfer described by a descriptor table entry. -/
def execDma (site : Nat) (f : FmtDM) (k : Checks) (s : State) : Result3 :=
  .next (s.issueAt site (loneExch (.dma f)) k)

end Sys2Proof.Machine
end

