-- ==== Sys2Proof/Machine/Healing.lean ====
section
/-! DEFINITION. Re-placement copies (R423, R424) and the wear log (R430). -/

namespace Sys2Proof.Machine

/-- The host change sets that hold a unit which a re-placement needs are discarded at once (R42, R432). -/
def State.clearFor (s : State) (ch : Change) : State :=
  (s.sets.filter (fun e => decide (e.1 < 65536) && clash (s.units ch) (e.2.changes.flatMap s.units))).foldl
    (fun u e => u.discardSet e.1 .stageIncomplete) s

/-- A placement joins the quadrant's re-placement set, which is staged (R424, R432). DESIGN CHOICE (log 82): a re-placement first
needs the units of its remap when the copy is done and the remap is staged; the host sets that hold them are discarded then. -/
def State.stagePlacement (s : State) (q tile site : Nat) : State :=
  let ch : Change := .placement q tile site
  let t := s.clearFor ch
  let key := 65552 + q
  let old := match alook t.sets key with
    | some z => z.changes
    | none => []
  { t with sets := aset t.sets key {
      changes := old ++ [ch], state := .opened, held := false, lost := false, age := 0, commit := 0 } }

/-- REPLACEMENT_COPY_DONE (R422 to R424): the copy into a site whose March pass was clean finishes; words that could not be
read arrive poisoned, and the remap is staged. -/
def execReplacementCopyDone (quad tile : Nat) (poisoned : List Nat) (s : State) : Result3 :=
  .next (match s.heal.replacing.find? (fun r => r.quad == quad && r.tile == tile && !r.copied) with
    | none => s
    | some r =>
      if !s.heal.readySpares.contains r.site then s
      else
        let bad := poisoned.foldl (fun (m : Memory) w => m.mark w true) Memory.cleared
        let t := s.modSite r.site (fun a => { a with scr := bad })
        let done := fun (z : Replacement) => if z.site = r.site then { z with copied := true } else z
        ({ t with heal := { t.heal with replacing := t.heal.replacing.map done } }).stagePlacement quad tile r.site)

/-- A list of wear days with a new day in front, 30 days long. -/
def newDay (l : List Nat) : List Nat := 0 :: l.take 29

/-- The windows of the wear score after a wear day (R430). -/
def Heal.endDay (h : Heal) : Heal :=
  let shift := fun (e : Nat × List Nat) => (e.1, newDay e.2)
  { h with
    lastCorrected := h.dayCorrected, lastModCorrected := h.modCorrected, lastRetrains := h.portRetrains, lastRetries := h.portRetries
    dayCorrected := [], modCorrected := [], portRetrains := [], portRetries := []
    dayTransients := h.dayTransients.map shift, modUncorr := h.modUncorr.map shift, portDegraded := h.portDegraded.map shift
    poweredHours := h.poweredHours + 24, logPending := true }

/-- The ports that are DEGRADED as a wear day begins count in it (Table 14.7). -/
def State.degradedToday (s : State) : State :=
  (s.mod.order.ports.filter (fun n => (s.port n).degradedNow)).foldl (fun u n =>
    { u with heal := { u.heal with portDegraded := amod [] u.heal.portDegraded n (fun l => 1 :: l.drop 1) } }) s

/-- WEAR_DAY_END (R430, R431): 24 hours of powered time are over; every score is computed anew. -/
def execWearDayEnd (s : State) : Result3 :=
  .next (if s.mod.phase.running then (({ s with heal := s.heal.endDay }).degradedToday).rewear else s)

/-- WEAR_LOG_WRITE (R430): the wear log goes to flash. -/
def execWearLogWrite (s : State) : Result3 := .next { s with heal := { s.heal with logPending := false } }

end Sys2Proof.Machine
end

