-- ==== Sys2Proof/Machine/HostRegs.lean ====
section
/-! DEFINITION. The host's writes to BAR0 (R251, R279, R282 to R284, R313, R316, R396, R459, R485, R490), the security
mailbox, and its accesses through BAR2 (R280, R340). -/

namespace Sys2Proof.Machine

/-! ### Which writes are served (R313, R408, R459) -/

/-- Whether BAR0 of function `f` takes writes at all, RESET_REQ apart (R313, R459): the chip is not braked and, for a
VF, its quadrant is not. -/
def State.takes (s : State) (f : Nat) : Bool :=
  s.answers && s.functions.contains f && !s.check.chipBraked && (f == 0 || !(s.quad (f - 1)).braked)

/-! ### Ring blocks (R283, R284, R316) -/

/-- The RING_CFG word's fields (Table 10.30) put into a ring pair. -/
def Ring.withCfg (x : Ring) (v : Nat) : Ring :=
  { x with intEn := v.testBit 30, vector := v / 2 ^ 16 % 64, trLog := v / 2 ^ 8 % 32, hrLog := v % 32 }

/-- Whether ENABLE may be set with these fields (R283, Table 10.30): sizes 6 to 16, a vector in range, and for a context
ring a context assigned to the function. -/
def State.mayEnable (s : State) (f r v : Nat) : Bool :=
  decide (6 ≤ v % 32 ∧ v % 32 ≤ 16 ∧ 6 ≤ v / 2 ^ 8 % 32 ∧ v / 2 ^ 8 % 32 ≤ 16) &&
    (f == 0 || decide (v / 2 ^ 16 % 64 < 8)) && (r == 0 || (s.ctx (r - 1)).owner == f)

/-- Whether ENABLE may be cleared (R284). -/
def State.mayDisable (s : State) (f r : Nat) : Bool :=
  decide ((s.ring f r).state = .halted) ||
    (if r = 0 then allCtxs.all (fun c => decide ((s.ctx c).owner ≠ f) || decide ((s.ctx c).state = .empty))
     else decide ((s.ctx (r - 1)).state = .empty))

/-- A ring pair put in service (R284, R316): indices, counters and what it held at their reset values, phase 1. -/
def Ring.enabled (x : Ring) (v : Nat) : Ring :=
  { Ring.reset.withCfg v with hrBase := x.hrBase, trBase := x.trBase, state := .active }

/-- A ring pair out of service. -/
def Ring.stopped (x : Ring) : Ring := { x with state := .disabled, haltCause := 0, due := [], held := [], gained := false }

/-- RING_CFG[r] of function `f` is written (R283, R284, R316). Setting ENABLE also stands for the host's setting of Bus
Master Enable, which has no command (log 20). -/
def State.writeCfg (s : State) (f r v : Nat) : State :=
  let x := s.ring f r
  if 17 ≤ r then s
  else if x.state ≠ .disabled then
    if v.testBit 31 || !s.mayDisable f r then s else s.modRing f r Ring.stopped
  else if !v.testBit 31 then s.modRing f r (fun y => y.withCfg v)
  else if s.mayEnable f r v then (s.modRing f r (fun y => y.enabled v)).modFn f (fun y => { y with busMaster := true })
  else s

/-- The low or high half of a 64-bit register replaced. -/
def setHalf (old : Nat) (high : Bool) (v : Nat) : Nat :=
  if high then old % 2 ^ 32 + v % 2 ^ 32 * 2 ^ 32 else old / 2 ^ 32 * 2 ^ 32 + v % 2 ^ 32

/-- The word at offset `o` of function `f`'s ring block is written (Tables 10.26 to 10.34). -/
def State.writeRing (s : State) (f o v : Nat) : State :=
  let r := (o - 0x100) / 0x40
  let k := (o - 0x100) % 0x40
  if o = 0x08 ∨ o = 0x0C then s.modFn f (fun x => { x with ptrBlock := setHalf x.ptrBlock (o == 0x0C) v / 2 ^ 8 * 2 ^ 8 })
  else if o = 0x10 ∨ o = 0x14 then s.modFn f (fun x => { x with devBlock := setHalf x.devBlock (o == 0x14) v / 2 ^ 8 * 2 ^ 8 })
  else if o < 0x100 ∨ 17 ≤ r then s
  else if k = 0x10 then s.writeCfg f r v
  else if (s.ring f r).state ≠ .disabled then s
  else if k = 0 ∨ k = 4 then s.modRing f r (fun x => { x with hrBase := setHalf x.hrBase (k == 4) v / 2 ^ 12 * 2 ^ 12 })
  else if k = 8 ∨ k = 12 then s.modRing f r (fun x => { x with trBase := setHalf x.trBase (k == 12) v / 2 ^ 12 * 2 ^ 12 })
  else s

/-! ### The security mailbox (R482, R485, R490) -/

/-- A request accepted, with its result where it completes at once (Table 17.9). -/
def State.mbox (s : State) (opc : Nat) (result : Option Status) : State :=
  { s with sec := { s.sec with
      mboxOpc := opc, mboxSeq := (s.sec.mboxSeq + 1) % 256, mboxValid := result.isSome
      mboxStatus := match result with
        | some st => st.code
        | none => 0 } }

/-- Whether a request is in progress (R490): an update that the mailbox started. -/
def Security.mboxBusy (x : Security) : Bool :=
  match x.updating with
  | some u => u.2.2
  | none => false

/-- A slot write begins (R482): the slot that is not running is erased. `host` tells that the mailbox asked for it. -/
def Security.update (x : Security) (image : List Byte) (host : Bool) : Security :=
  let y := { x with updating := some (1 - x.active, image, host) }
  if x.active = 0 then { y with slotB := [] } else { y with slotA := [] }

/-- The bytes that MBOX_ADDR and a length name; none where they leave plan memory or meet poison (Tables 17.7, 17.9). -/
def State.mboxData (s : State) (n : Nat) : Option (List Byte) :=
  let a := s.sec.mboxAddr
  if s.inPlanMemory a n && !s.rangePoison (a / 2 ^ 43) (a % 2 ^ 43) n then some (s.image a n) else none

/-- FW_STAGE (R482). -/
def State.fwStage (s : State) : State :=
  if s.sec.updating.isSome then s.mbox 1 (some .noResource)
  else if 2 ^ 26 < s.sec.mboxBytes then s.mbox 1 (some .badCommand)
  else
    match s.mboxData s.sec.mboxBytes with
    | none => s.mbox 1 (some .badCommand)
    | some img =>
      if s.sec.valid img then
        let t := s.mbox 1 none
        { t with sec := t.sec.update img true }
      else s.mbox 1 (some .badCommand)

/-- Whether an owner digest may be staged (R485, Table 17.9). -/
def Security.ownerFree (x : Security) : Bool := x.owner.isNone && !x.ownerDestroyed && x.ownerPending.isNone

/-- OWNER_SET (R485): the digest of the key at MBOX_ADDR is staged. -/
def State.ownerSet (s : State) : State :=
  if !s.sec.ownerFree then s.mbox 2 (some .wrongState)
  else
    match s.mboxData 2592 with
    | none => s.mbox 2 (some .badCommand)
    | some key =>
      let t := s.mbox 2 (some .ok)
      { t with sec := { t.sec with ownerPending := some (sha3_512 key) } }

/-- A write to MBOX_REQ (R490, Table 17.6): ignored with a wrong key or while a request is in progress. -/
def State.mboxReq (s : State) (key opc : Nat) : State :=
  if key ≠ 0x5EC5 ∨ s.sec.mboxBusy then s
  else if opc = 1 then s.fwStage
  else if opc = 2 then s.ownerSet
  else s.mbox opc (some .badCommand)

/-! ### The PF's registers -/

/-- RESET_REQ is written (Table 10.24). -/
def State.writeReset (s : State) (v : Nat) : State :=
  let level := v % 16
  if level = 3 then s.resetDevice (v / 2 ^ 16)
  else if level = 1 ∨ level = 2 then s.resetQuads (v / 2 ^ 16) (v / 2 ^ 8 % 16) (level == 2)
  else s

/-- REEF_ALLOW_HOST is written (R251, R276). -/
def State.writeAllowance (s : State) (v : Nat) : State := { s with reef := { s.reef with hostW := v % 65536 } }

/-- A word of a function's MSI-X table is written (R279): a vector that is masked no longer sends what it has pending (R293). -/
def State.writeMsix (s : State) (f i v : Nat) : State :=
  (s.modFn f (fun x => { x with msix := aset x.msix i (v % 2 ^ 32) })).firePending f

/-- A write to a function's PCI Express configuration space, of which the spec gives three things that software sets (R277, R280,
R286, R293), numbered here (DESIGN CHOICE, log 88): 0 Bus Master Enable, 4 the MSI-X Function Mask, 8 the size of BAR2 in GiB by
its Resizable BAR capability, a power of two from 1 to 1,024 on the PF. -/
def State.writeConfig (s : State) (f o v : Nat) : State :=
  if !s.answers || !s.functions.contains f then s
  else if o = 0 then s.modFn f (fun x => { x with busMaster := v.testBit 0 })
  else if o = 4 then (s.modFn f (fun x => { x with msixMask := v.testBit 0 })).firePending f
  else if o = 8 ∧ f = 0 ∧ ((List.range 11).map (2 ^ ·)).contains v then { s with mod := { s.mod with bar2Gib := v } }
  else s

/-- A word of the PF's BAR0 outside the ring block and RESET_REQ is written; an offset with no writable register is
ignored (R282). -/
def State.writePf (s : State) (o v : Nat) : State :=
  if o = 0x30 ∨ o = 0x34 then
    { s with mod := { s.mod with aperture := setHalf (s.mod.aperture * 2 ^ 30) (o == 0x34) v / 2 ^ 30 % 2 ^ 15 } }
  else if o = 0x30004 then s.writeAllowance v
  else if o = 0x40028 then (if s.mod.order.digest then { s with check := { s.check with period := v % 65536 } } else s)
  else if o = 0x80010 then s.mboxReq (v / 2 ^ 16) (v % 256)
  else if o = 0x80018 ∨ o = 0x8001C then
    { s with sec := { s.sec with mboxAddr := setHalf s.sec.mboxAddr (o == 0x8001C) v % 2 ^ 45 } }
  else if o = 0x80020 then { s with sec := { s.sec with mboxBytes := v % 2 ^ 32 } }
  else if 0xF0000 ≤ o ∧ o < 0xF0400 then s.writeMsix 0 ((o - 0xF0000) / 4) v
  else s

/-- An aligned word of function `f`'s BAR0 is written (R282, R313, R459): RESET_REQ is always served, the ring blocks
also during a start, every other register only after it. -/
def State.writeWord (s : State) (f o v : Nat) : State :=
  if f = 0 ∧ o = 0x38 then s.writeReset v
  else if !s.takes f then s
  else if f = 0 ∧ 0x20000 ≤ o ∧ o < 0x30000 then s.writeRing 0 (o - 0x20000) v
  else if f ≠ 0 ∧ 0xF000 ≤ o ∧ o < 0xF800 then s.writeRing f (o - 0xF000) v
  else if s.mod.dev.inStart then s
  else if f = 0 then s.writePf o v
  else if 0xFC00 ≤ o ∧ o < 0xFC80 then s.writeMsix f ((o - 0xFC00) / 4) v
  else s

/-! ### The commands -/

/-- REGISTER_WRITE (R282): an aligned write of 4 or 8 bytes; any other completes with Unsupported Request and changes
nothing. Function 256 + f stands for the configuration space of function f. -/
def execRegisterWrite (fn offset size : Nat) (value : DWord) (s : State) : Result3 :=
  let v := value.toNat
  .next (if 256 ≤ fn then s.writeConfig (fn - 256) offset v
    else if size = 4 ∧ offset % 4 = 0 then s.writeWord fn offset (v % 2 ^ 32)
    else if size = 8 ∧ offset % 8 = 0 then (s.writeWord fn offset (v % 2 ^ 32)).writeWord fn (offset + 4) (v / 2 ^ 32)
    else s)

/-- RING_ENABLE (R283, R284): a RING_CFG write with ENABLE set. -/
def execRingEnable (fn ring : Nat) (cfg : Word) (s : State) : Result3 :=
  .next (if s.takes fn then s.writeCfg fn ring (cfg.toNat ||| 2 ^ 31) else s)

/-- RING_DISABLE (R284): a RING_CFG write with ENABLE clear. -/
def execRingDisable (fn ring : Nat) (cfg : Word) (s : State) : Result3 :=
  .next (if s.takes fn then s.writeCfg fn ring (cfg.toNat % 2 ^ 31) else s)

/-- HOST_ALLOWANCE_WRITE (R251, R276, R459). -/
def execHostAllowanceWrite (value : Word) (s : State) : Result3 :=
  .next (if s.takes 0 && !s.mod.dev.inStart then s.writeAllowance value.toNat else s)

/-- FW_STAGE (R482, R490). -/
def execFwStage (key : Nat) (s : State) : Result3 :=
  .next (if s.takes 0 && !s.mod.dev.inStart then s.mboxReq key 1 else s)

/-- OWNER_SET (R485, R490). -/
def execOwnerSet (key : Nat) (s : State) : Result3 :=
  .next (if s.takes 0 && !s.mod.dev.inStart then s.mboxReq key 2 else s)

/-- FW_UPDATE_DONE (R482): the slot is written and read back; where that is right the boot control record prefers it on
trial. The result goes to the mailbox or to the tray controller. -/
def execFwUpdateDone (readBackOk : Bool) (s : State) : Result3 :=
  .next (match s.sec.updating with
    | none => s
    | some (slot, img, host) =>
      let x := { s.sec with updating := none }
      let y := if !readBackOk then x
        else (if slot = 0 then { x with slotA := img } else { x with slotB := img }).setBoot slot true 0
      let st : Status := if readBackOk then .ok else .badCommand
      if host then { s with sec := { y with mboxValid := true, mboxStatus := st.code } }
      else ({ s with sec := y } : State).emit (.pldm st.code))

/-! ### BAR2 (R280, R340, R459) -/

/-- What a BAR2 offset reaches. -/
inductive Bar2Target where
  /-- nothing: beyond installed DDR, or not served now -/
  | none
  /-- a part of QD0's system region that reads 0 -/
  | zero
  /-- the snapshot region, at a local address of QD0 -/
  | snap (l : Nat)
  /-- plan memory of a quadrant, at a local address -/
  | plan (q l : Nat)
  deriving DecidableEq, Repr

/-- The device DDR address of BAR2 offset `o` (R280, Table 10.23): the base's bits below the BAR's size are masked. -/
def State.bar2Addr (s : State) (o : Nat) : Nat :=
  let size := s.mod.bar2Gib * 2 ^ 30
  s.mod.aperture * 2 ^ 30 / size * size + o

/-- What `n` bytes at BAR2 offset `o` reach (Tables 11.7, 13.6, 16.4; R459). -/
def State.bar2Target (s : State) (o n : Nat) : Bar2Target :=
  let a := s.bar2Addr o
  let q := a / 2 ^ 43
  let l := a % 2 ^ 43
  if !s.answers || !s.mod.zeroed || s.check.chipBraked || decide (s.mod.bar2Gib * 2 ^ 30 < o + n) then .none
  else if !s.mod.order.quads.contains q || decide (s.ddr.capacity q < l + n) then .none
  else if q = 0 ∧ l < 0x100000000 then (if 0x80000000 ≤ l ∧ l < 0xC0000000 then .snap l else .zero)
  else if (s.quad q).braked || s.ddr.refresh.contains q then .none
  else .plan q l

/-- The first bytes of a site record (Table 15.6), its fields in the order in which the table lists them (DEDUCED, log 19); none
where the spec gives no code. -/
def SiteShot.headBytes (r : SiteShot) : List (Option Byte) :=
  let a := r.head
  let cause := match a.faults ++ a.judged with
    | f :: _ => f.cause.code
    | [] => 0
  let stopped := match a.seq.status with
    | .stopped _ => 2
    | _ => 0
  let fenced := if a.role = .fenced then 4 else 0
  ((leBytes 2 (siteCode r.site) ++ leBytes 2 (a.gtile % 2048 + (if a.role = .auditor then 2 ^ 14 else 0)) ++
    leBytes 2 (a.seq.pc % 1024 + a.seq.slot % 4 * 1024 + (if a.service then 4096 else 0))).map some) ++
  [none, a.ctx.map (BitVec.ofNat 8)] ++
  (([BitVec.ofNat 8 (bit r.captured + stopped + fenced), BitVec.ofNat 8 cause] ++ leBytes 4 a.seq.stalls ++
    leBytes 4 a.seq.steerStalls ++ (List.range 4).map (fun q => BitVec.ofNat 8 (a.tokens q).length) ++
    (List.range 4).map (fun h => BitVec.ofNat 8 ((a.hopper h).msgs.map (fun m => m.units.length)).sum)).map some)

/-- An entry of the pond index as a snapshot shows it (Table 15.6). -/
def PondEntry.word (e : PondEntry) : Nat :=
  let marks := ((List.range 8).filter (fun i => e.poison.getD i false)).foldl (fun a i => a + 2 ^ i) 0
  e.pos % 4096 + (e.len - 1) % 8 * 2 ^ 12 + e.tag.toNat * 2 ^ 15 + e.source.code % 2048 * 2 ^ 23 + marks * 2 ^ 34 +
    bit e.skip * 2 ^ 42 + 2 ^ 63

/-- A byte of a captured site record from offset 0x100 on (Table 15.6), where the table gives its place: scalar registers, token
queues, hopper units, pond index entries. At which position a hopper or an index begins is free. -/
def Site.shotByte (a : Site) (seq o : Nat) : Option Byte :=
  let i := a.gtile
  if 0x100 ≤ o ∧ o < 0x180 then (leBytes 4 (a.sreg ((o - 0x100) / 4)).toNat)[o % 4]?
  else if 0x700 ≤ o ∧ o < 0x800 then
    ((a.tokens ((o - 0x700) / 64))[o % 64 / 4]?).bind (fun t => (leBytes 4 t.value.toNat)[o % 4]?)
  else if 0x1000 ≤ o ∧ o < 0x5000 then
    let h := (o - 0x1000) / 4096
    let k := ((o - 0x1000) % 4096 / 64 + 64 - Config.hopperStart seq i h % 64) % 64
    (((a.hopper h).msgs.flatMap (fun m => m.units))[k]?).bind (fun u => u.bytes[o % 64]?)
  else if 0x9000 ≤ o ∧ o < 0x11000 then
    let h := (o - 0x9000) / 8192
    let k := ((o - 0x9000) % 8192 / 8 + 1024 - Config.pondStart seq i h % 1024) % 1024
    match (a.hopper h).index[k]? with
    | some e => (leBytes 8 e.word)[o % 8]?
    | none => if o % 8 = 7 then some 0 else none
  else none

/-- A byte of a site record (Table 15.6): what the spec gives no place is free, and a part never captured is as zeroing left it. -/
def SiteShot.byte (r : SiteShot) (off o : Nat) : Byte :=
  if o < 256 then ((r.headBytes[o]?).getD none).getD (Config.snapshotByte r.seq off)
  else match r.full with
    | some (seq, a) => (a.shotByte seq o).getD (Config.snapshotByte seq off)
    | none => 0

/-- A byte of the snapshot region (R439, Table 15.4): header, sluice and remap tables as written, site records as captured, the
parts without a byte layout free values of the snapshot in the slot. -/
def State.snapByte (s : State) (l : Nat) : Byte :=
  let slot := (l - 0x80000000) / 0x08000000
  let off := (l - 0x80000000) % 0x08000000
  let seq := (s.mod.snapSeq - 1 - slot) / snapSlots * snapSlots + slot + 1
  if s.mod.snapSeq ≤ slot then 0
  else if off < 0x220 ∨ (0x1000 ≤ off ∧ off < 0x3800) then (s.ddr.memory 0).byte l
  else if 0x200000 ≤ off then
    (match (aget [] s.ddr.shots slot)[(off - 0x200000) / 0x20000]? with
     | some r => r.byte off ((off - 0x200000) % 0x20000)
     | none => if (off - 0x200000) / 0x20000 < Config.sitesPerQuad then 0 else Config.snapshotByte seq off)
  else Config.snapshotByte seq off

/-- An error recorded in the PF's AER (R277). -/
def State.aerNote (s : State) (e : AerError) : State :=
  s.modFn 0 (fun x => { x with aer := if x.aer.contains e then x.aer else x.aer ++ [e] })

/-- A BAR2 read answered, AER recording one that met poison (R280). -/
def State.bar2Answer (s : State) (bs : List Byte) (poison : Bool) : State :=
  let t := s.emit (.bar2 bs poison false)
  if poison then t.aerNote .poisonedRead else t

/-- An access that reaches nothing: AER records one to the DDR of a quadrant that retrains (Table 15.11). -/
def State.bar2Lost (s : State) (o : Nat) : State :=
  if s.answers ∧ (s.quad (s.bar2Addr o / 2 ^ 43)).recState = .full then s.aerNote .unsupported else s

/-- BAR2_READ (R280): data, the EP bit where a unit is poisoned, or Unsupported Request. -/
def execBar2Read (offset bytes : Nat) (found : List (Nat × EccFind)) (s : State) : Result3 :=
  .next (match s.bar2Target offset bytes with
    | .none => (s.bar2Lost offset).emit (.bar2 [] false true)
    | .zero => s.emit (.bar2 (List.replicate bytes 0) false false)
    | .snap l =>
      let t := s.ddrFinds 0 l bytes found .bar2
      t.bar2Answer ((List.range bytes).map (fun i => t.snapByte (l + i))) (!(s.lostIn 0 l bytes found).isEmpty)
    | .plan q l =>
      let t := (s.touchRetired q l .bar2).ddrFinds q l bytes found .bar2
      t.bar2Answer (t.ddrBytes q l bytes) (!(s.lostIn q l bytes found).isEmpty))

/-- Whether a write of `n` bytes from `l` covers unit `u` only in part. -/
def partialUnit (l n u : Nat) : Bool := decide (u * 128 < l) || decide (l + n < u * 128 + 128)

/-- BAR2_WRITE (R280, R340, R346): data into plan memory; a part of a unit whose read is uncorrectable leaves it poisoned;
writes to the system region are dropped and counted, others that reach nothing are dropped. -/
def execBar2Write (offset : Nat) (data : List Byte) (poison : Bool) (found : List (Nat × EccFind)) (s : State) : Result3 :=
  let drop : State := { s with ddr := { s.ddr with sysDrops := bump16 s.ddr.sysDrops 1 } }
  .next (match s.bar2Target offset data.length with
    | .none => s.bar2Lost offset
    | .zero => drop
    | .snap _ => drop
    | .plan q l =>
      let n := data.length
      let parts := found.filter (fun e => decide (l / 128 ≤ e.1 ∧ e.1 * 128 < l + n) && partialUnit l n e.1)
      let t := (s.ddrFinds q l n parts .bar2).ddrPut q l data poison .bar2
      (parts.filter (fun e => s.eccAt q (128 * e.1) e.2 == .uncorrectable)).foldl (fun u e =>
        let v := u.modMem q (fun m => m.mark e.1 true)
        match v.ddr.locate q (128 * e.1) with
        | some (ch, a) => v.ddrLogAdd 2 ch [] .bar2 (a / 128)
        | none => v) t)

end Sys2Proof.Machine
end

