-- ==== Sys2Proof/Machine/LoadStoreOps.lean ====
section
/-! DEFINITION. The operations of the load/store slot, each as the bundle that holds it alone in its slot. -/

namespace Sys2Proof.Machine

/-- VLDQ (R171): Load a scratchpad word into one quarter of a V register. -/
def execVldq (site : Nat) (f : FmtLQ) (k : Checks) (s : State) : Result3 :=
  .next (s.issueAt site (loneLs (.vldq f)) k)

/-- VLDQ_P (R171): Quarter load with post-increment of the address register. -/
def execVldqP (site : Nat) (f : FmtLPI) (k : Checks) (s : State) : Result3 :=
  .next (s.issueAt site (loneLs (.vldqP f)) k)

/-- VSTQ (R172): Store one V-register quarter as a whole word. -/
def execVstq (site : Nat) (f : FmtLQ) (k : Checks) (s : State) : Result3 :=
  .next (s.issueAt site (loneLs (.vstq f)) k)

/-- VSTQ_P (R172): Quarter store with post-increment of the address register. -/
def execVstqP (site : Nat) (f : FmtLPI) (k : Checks) (s : State) : Result3 :=
  .next (s.issueAt site (loneLs (.vstqP f)) k)

/-- VLDB (R171): Load 64 bytes zero-extended into the lanes. -/
def execVldb (site : Nat) (f : FmtLQ) (k : Checks) (s : State) : Result3 :=
  .next (s.issueAt site (loneLs (.vldb f)) k)

/-- VLDB_X (R171): Load 64 bytes sign-extended into the lanes. -/
def execVldbX (site : Nat) (f : FmtLQ) (k : Checks) (s : State) : Result3 :=
  .next (s.issueAt site (loneLs (.vldbX f)) k)

/-- VLDH (R171): Load 32 halfwords into half of the lanes. -/
def execVldh (site : Nat) (f : FmtLQ) (k : Checks) (s : State) : Result3 :=
  .next (s.issueAt site (loneLs (.vldh f)) k)

/-- SLD (R173): Load a 32-bit scalar from scratchpad. -/
def execSld (site : Nat) (f : FmtLS) (k : Checks) (s : State) : Result3 :=
  .next (s.issueAt site (loneLs (.sld f)) k)

/-- SST (R172): Store a 32-bit scalar by read-merge-write of its word. -/
def execSst (site : Nat) (f : FmtLS) (k : Checks) (s : State) : Result3 :=
  .next (s.issueAt site (loneLs (.sst f)) k)

end Sys2Proof.Machine
end

