-- ==== Sys2Proof/Machine/MatrixOps.lean ====
section
/-! DEFINITION. The operations of the matrix slot, each as the bundle that holds it alone in its slot. -/

namespace Sys2Proof.Machine

/-- MLDW (R152): Load a weight block into a weight buffer through the wide port. -/
def execMldw (site : Nat) (f : FmtMW) (k : Checks) (s : State) : Result3 :=
  .next (s.issueAt site (loneMat (.mldw f)) k)

/-- MFEED (R154): Arm an activation stream and start fetching its row groups. -/
def execMfeed (site : Nat) (f : FmtMF) (k : Checks) (s : State) : Result3 :=
  .next (s.issueAt site (loneMat (.mfeed f)) k)

/-- MMUL (R155): Multiply the armed rows by a weight buffer into ACC rows. -/
def execMmul (site : Nat) (f : FmtMM) (k : Checks) (s : State) : Result3 :=
  .next (s.issueAt site (loneMat (.mmul f)) k)

end Sys2Proof.Machine
end

