-- ==== Sys2Proof/Machine/Scrub.lean ====
section
/-! DEFINITION. Patrol scrub (R350) and the modules' own temperature sensors (R510). -/

namespace Sys2Proof.Machine

/-- Whether the scrubber of channel `n` reads (R350, Table 13.6): the DDR is zeroed and its quadrant's modules are not in
self-refresh; QD0's stay in service under a quadrant brake. -/
def State.scrubs (s : State) (n : Nat) : Bool :=
  let q := n / 16
  s.mod.phase.running && s.mod.zeroed && (s.chan n).state.serves && !s.check.chipBraked && !s.ddr.refresh.contains q &&
    (decide (q = 0) || !(s.quad q).braked)

/-- The local address of a unit of a channel (R341); none above the mapped capacity or outside the interleave set. -/
def Ddr.unitOf (d : Ddr) (q ch unit : Nat) : Option Nat :=
  let a := unit * 128
  match (d.set q).findIdx? (· == ch) with
  | some i => if a < capBytes (aget 0 d.cap q) then some ((a / 1024 * (d.set q).length + i) * 1024 + a % 1024) else none
  | none => none

/-- What a scrub read finds takes effect (R350): corrections are written back and counted, an uncorrectable unit is
logged and becomes poisoned; a poisoned unit is skipped. A unit above the mapped capacity holds the zeros of its initialisation. -/
def State.scrubFound (s : State) (n : Nat) (f : EccFind) : State :=
  let q := n / 16
  match s.ddr.unitOf q n (s.chan n).scrub with
  | some l =>
    let t := s.ddrFound q l f .scrub
    if s.eccAt q l f = .uncorrectable then t.modMem q (fun m => m.mark (l / 128) true) else t
  | none =>
    match eccAccess (List.replicate 128 0) false f ((List.range 20).filter (fun d => (s.chan n).marks.toNat.testBit d)) with
    | .corrected ds _ => s.corrected n (s.chan n).scrub ds .scrub
    | .uncorrectable => s.uncorrected n (s.chan n).scrub .scrub
    | _ => s

/-- The scrub position moves on; the end of a module ends its pass (R345, R350). -/
def Channel.advance (c : Channel) : Channel :=
  if c.units ≤ c.scrub + 1 then { c with scrub := 0, named := [], passes := c.passes + 1 } else { c with scrub := c.scrub + 1 }

/-- SCRUB_READ (R350). PASSES counts the passes that every channel in service has completed. -/
def execScrubRead (channel : Nat) (found : EccFind) (s : State) : Result3 :=
  .next (if !s.scrubs channel then s
    else
      let t := (s.scrubFound channel found).modChan channel Channel.advance
      let l := (s.mod.order.quads.flatMap s.mod.order.channels).filter (fun n => (t.chan n).state.serves)
      let done := (l.map (fun n => (t.chan n).passes)).foldl min ((t.chan channel).passes)
      { t with ddr := { t.ddr with passes := min done (2 ^ 32 - 1) } })

/-- MODULE_TEMP_READ (R510): the reading is kept for PLDM; no action is taken on it. -/
def execModuleTempRead (channel temp : Nat) (s : State) : Result3 :=
  .next (if s.mod.phase.running && (s.chan channel).module.isSome && decide ((s.chan channel).state ≠ .empty) && (s.mod.order.channels (channel / 16)).contains channel then
      s.modChan channel (fun c => { c with temp := temp }) else s)

end Sys2Proof.Machine
end

