-- ==== Sys2Proof/Machine/Ports.lean ====
section
/-! DEFINITION. Avdin ports (R357 to R370, R377, R381, R388, R389, R506): packets that arrive, retries, training, error-rate
windows, BRAKE flits, cables. -/

namespace Sys2Proof.Machine

/-! ### Going down and training (R365, R366, R369, R389, R506) -/

/-- A port that no longer carries traffic: what it held goes by a detour, or is answered NO_RESOURCE (R365, R366). -/
def State.portDown (s : State) (n : Nat) (st : PortState) (brake : Bool) : State :=
  let x := s.port n
  let held := (x.kept.take x.inFlight).map (fun p => { p with hops := p.hops - 1 }) ++ x.kept.drop x.inFlight
  let t := s.modPort n (fun y => { y with state := st, downBrake := brake, kept := [], inFlight := 0, degradedNow := false })
  held.foldl (fun u p => match p.kind with
    | .write => u.forward p none
    | .answer => u.forward p none
    | _ => u) t

/-- A training begins (R389): each one after the first counts. -/
def State.train (s : State) (n : Nat) : State :=
  let x := s.port n
  let t := (s.portDown n .training false).modPort n (fun y => { y with
    trained := true, retrains := if x.trained then bump16 y.retrains 1 else y.retrains, windows := 0, corrBits := 0
    dirty := 0, clean := 0, berHigh := false, peerOk := false })
  if x.trained then
    ({ t with heal := { t.heal with portRetrains := amod 0 t.heal.portRetrains n (· + 1) } }).rewear
  else t

/-- More than 64 go-back-N retries within 1 ms make a port train again (R389). -/
def State.calm (s : State) (n : Nat) : State :=
  if s.carries n && decide (64 < ((s.port n).lately s.turn.now).length) then (s.modPort n (fun y => { y with failures := 0 })).train n
  else s

/-! ### Packets (R359, R360) -/

/-- The dimension of a port's role. -/
def State.portDim (s : State) (n : Nat) : Option Nat :=
  let r := s.role n
  if 1 ≤ r ∧ r ≤ 6 then some ((r - 1) / 2) else none

/-- A WRITE or ANSWER packet received on a port, then sent on or delivered. -/
def State.packetIn (s : State) (n : Nat) (p : Packet) : State :=
  let r := s.receive n p
  (if r.2 then r.1.forward p (s.portDim n) else r.1).calm n

/-- AVDIN_WRITE_PACKET (R359, R363 to R368, R374). -/
def execAvdinWritePacket (port : Nat) (p : Packet) (s : State) : Result3 :=
  .next (if p.kind = .write then s.packetIn port p else s)

/-- AVDIN_ANSWER_PACKET (R359, R366, R377, R381). -/
def execAvdinAnswerPacket (port : Nat) (p : Packet) (s : State) : Result3 :=
  .next (if p.kind = .answer then s.packetIn port p else s)

/-- AVDIN_CONTROL_PACKET (R359): acknowledgements, a resend request, credits. -/
def execAvdinControlPacket (port : Nat) (p : Packet) (s : State) : Result3 :=
  .next (if p.kind = .control then (s.receive port p).1.calm port else s)

/-- The full TURN_NO that the device gives on request (R25): its own, or while it is to step the master's as it knows it. -/
def Turn.fullNo (t : Turn) : Option Nat := if t.stepPending || t.stepTurn then t.masterNo else some t.no

/-- Whether two turn numbers differ by more than the boundary that a message may cross on its way. -/
def apart (a b : Nat) : Bool := decide (a + 1 < b) || decide (b + 1 < a)

/-- The master's full TURN_NO is told (R22, R25, R32): a device whose own differs steps to it. -/
def State.learnTurn (s : State) (no : Nat) : State :=
  let t := s.turn
  let differs := !(t.stepPending || t.stepTurn) && apart no t.no
  { s with turn := { t with
      masterNo := some no, locked := t.locked && !differs, stepPending := t.stepPending || differs
      stepTo := if differs || t.stepPending || t.stepTurn then some (no + 1) else t.stepTo } }

/-- AVDIN_MGMT_PACKET (R25, R26, R370): the link delay measured at training, or the full TURN_NO of the master that the
device follows; a message with neither asks for TURN_NO. -/
def execAvdinMgmtPacket (port : Nat) (p : Packet) (s : State) : Result3 :=
  .next (if p.kind ≠ .mgmt then s
    else
      let r := s.receive port p
      if !r.2 then r.1.calm port
      else
        let t := match p.delayNs with
          | some d => r.1.modPort port (fun x => { x with delayNs := d })
          | none => r.1
        let mine := match t.turn.best with
          | some (n, _) => n == port
          | none => false
        match p.fullTurn, p.delayNs with
        | some no, _ => if mine then t.learnTurn no else t
        | none, none => if t.turn.running && t.turn.fullNo.isSome then t.queueOn port (mgmtPacket none t.turn.fullNo) else t
        | none, some _ => t)

/-- LINK_RETRY_TIMEOUT (R359): 2 µs without an acknowledgement; the port sends again from the oldest packet. -/
def execLinkRetryTimeout (port : Nat) (s : State) : Result3 :=
  .next (if s.carries port && decide (0 < (s.port port).inFlight) then (s.resendPort port).calm port else s)

/-! ### Trainings (R366, R369, R389) -/

/-- CODEWORD_LOCK_LOSS (R389): codeword lock is lost, or more than 64 retries in 1 ms: the port trains again. -/
def execCodewordLockLoss (port : Nat) (s : State) : Result3 :=
  let x := s.port port
  .next (if decide (x.state = .up) || decide (x.state = .degraded) then
      (s.modPort port (fun y => { y with failures := 0 })).train port else s)

/-- Whether a peer is the one that the manifest in force names (R466). -/
def State.peerMatches (s : State) (n peerPos peerPort : Nat) : Bool :=
  match s.avdin.inForce with
  | some m =>
    let e := m.ports.getD n { role := 0, peerPort := 0, required := false, peerPos := 0 }
    e.peerPos == peerPos && e.peerPort == peerPort
  | none => false

/-- A trained port: UP with its peer, its link layer started anew; the link delay is measured (R370). -/
def State.portUp (s : State) (n peerPos peerPort : Nat) : State :=
  let t := s.modPort n (fun y => { y with
    state := .up, downBrake := false, failures := 0, peerPos := peerPos, peerPort := peerPort
    peerOk := s.peerMatches n peerPos peerPort, txSeq := 0, rxSeq := 0, credits := [514, 514, 514, 514], kept := [], inFlight := 0, recent := [] })
  t.queueOn n (mgmtPacket (some 0) none)

/-- LINK_TRAINING_DONE (R389): UP, or failed; after three failures in a row the port is DOWN. -/
def execLinkTrainingDone (port : Nat) (result : TrainEnd) (s : State) : Result3 :=
  let x := s.port port
  .next (if x.state ≠ .training then s
    else match result with
    | .up pos p => s.portUp port pos p
    | .failed =>
      let t := s.modPort port (fun y => { y with failures := y.failures + 1 })
      if 3 ≤ x.failures + 1 then t.portDown port .down false else t.train port)

/-- PORT_RETRY_TIMER (R389): a DOWN port tries again every 10 s. -/
def execPortRetryTimer (port : Nat) (s : State) : Result3 :=
  .next (if (s.port port).state = .down then s.train port else s)

/-- BRAKE_FLIT_RECEIVE (R369): the neighbour brakes; the port is DOWN with that cause. -/
def execBrakeFlitReceive (port : Nat) (s : State) : Result3 :=
  .next (if decide ((s.port port).state = .up) || decide ((s.port port).state = .degraded) then s.portDown port .down true else s)

/-! ### Error-rate windows (R388) -/

/-- A window's judgement: DEGRADED after three windows with BER_HIGH, UP again after three without. -/
def Port.window (x : Port) (corrBits uncorrected : Nat) : Port :=
  let high := decide (17000000 ≤ corrBits)
  let dirty := if high then x.dirty + 1 else 0
  let clean := if high then 0 else x.clean + 1
  let st : PortState := if x.state = .up ∧ 3 ≤ dirty then .degraded else if x.state = .degraded ∧ 3 ≤ clean then .up else x.state
  { x with windows := bump32 x.windows 1, corrBits := min corrBits (2 ^ 32 - 1), uncorr := bump16 x.uncorr uncorrected, berHigh := high
           dirty := dirty, clean := clean, state := st, degradedNow := decide (st = .degraded) }

/-- BER_WINDOW_END (R388, R430). -/
def execBerWindowEnd (port corrBits uncorrected : Nat) (s : State) : Result3 :=
  .next (if decide ((s.port port).state = .up) || decide ((s.port port).state = .degraded) then
      let t := s.modPort port (fun x => x.window corrBits uncorrected)
      if (t.port port).degradedNow then
        ({ t with heal := { t.heal with portDegraded := amod [] t.heal.portDegraded port (fun l => 1 :: l.drop 1) } }).rewear
      else t
    else s)

/-! ### Cables (R506) -/

/-- OSFP_CABLE_INSERT (R506): a cable within 3.0 W trains once the fabric domain is up; one above it stays in low-power
mode and its port reads DISABLED. -/
def execOsfpCableInsert (port milliwatts : Nat) (s : State) : Result3 :=
  .next (if !s.mod.order.ports.contains port || (s.port port).cable then s
    else if 3000 < milliwatts then s
    else
      let t := s.modPort port (fun x => { x with cable := true, failures := 0 })
      if s.answers then t.train port else t)

/-- OSFP_CABLE_REMOVE (R506): routing treats the port as DOWN; an empty cage reads DISABLED. -/
def execOsfpCableRemove (port : Nat) (s : State) : Result3 :=
  .next (if s.mod.order.ports.contains port then
      (s.portDown port .disabled false).modPort port (fun x => { x with cable := false, peerOk := false, berHigh := false })
    else s)

end Sys2Proof.Machine
end

