-- ==== Sys2Proof/Machine/Readiness.lean ====
section
/-! DEFINITION. Readiness (R463 to R469), and the fabric manifest (R383 to R387). -/

namespace Sys2Proof.Machine

/-! ### Links (R465, R466) -/

/-- Whether a role is a direction (Table 12.6): the port's link is expected (R465). -/
def isDirection (role : Nat) : Bool := decide (1 ≤ role ∧ role ≤ 6)

/-- The corrected bits of a window at which a link is counted missing (R466). -/
def berLimit : Nat := 17000000

/-- LINK_CHECK of port L`n` (R466, Table 16.9). -/
def State.linkCheck (s : State) (n : Nat) : LinkCheck :=
  let x := s.port n
  let miss := fun (reason : Nat) => ({ result := 2, reason := reason, corrBits := x.corrBits } : LinkCheck)
  if !s.mod.order.ports.contains n then { result := 3, reason := 0, corrBits := 0 }
  else if s.avdin.inForce.isNone || !isDirection (s.role n) then { result := 0, reason := 0, corrBits := 0 }
  else if x.state ≠ .up ∧ x.state ≠ .degraded then miss 1
  else if !s.peerMatches n x.peerPos x.peerPort then miss 2
  else if x.windows = 0 then miss 3
  else if berLimit ≤ x.corrBits then miss 4
  else { result := 1, reason := 0, corrBits := x.corrBits }

/-- Every port's check. -/
def State.linkChecks (s : State) : List (Nat × LinkCheck) := (List.range 8).map (fun n => (n, s.linkCheck n))

/-- The ports judged missing (R467). -/
def missingPorts (l : List (Nat × LinkCheck)) : List Nat := (l.filter (fun e => e.2.result == 2)).map Prod.fst

/-! ### Table 16.3 -/

/-- The link rows of Table 16.3 that hold: 3, 4, 5, 8, 9. -/
def State.linkRows (s : State) (missing : List Nat) : List Nat :=
  let row := fun (n : Nat) (b : Bool) => if b then [n] else []
  let m := missing.length
  match s.avdin.inForce with
  | some f =>
    let required := fun (n : Nat) => (f.ports.getD n { role := 0, peerPort := 0, required := false, peerPos := 0 }).required
    row 3 (missing.any required) ++ row 4 (decide (f.allowMissing < m)) ++ row 5 (decide (0 < m ∧ m ≤ f.allowMissing)) ++
      row 9 (!s.mod.order.ports.isEmpty && !s.turn.locked)
  | none => row 8 (!s.mod.order.ports.isEmpty)

/-- Whether a quadrant is complete (R463). -/
def State.isComplete (s : State) (q : Nat) : Bool :=
  decide (s.logicalAvailable q = 512) && !(s.quad q).routerLimit && decide (0 < s.trainedChannels q)

/-- Whether a channel deviates from the population record (R464). -/
def State.deviates (s : State) (n : Nat) : Bool :=
  match (s.chan n).state with
  | .unsupported => true
  | .trainFailed => true
  | .empty =>
    match s.ddr.record with
    | some l => (alook l n == some ChanState.inService) || (alook l n == some ChanState.atRisk)
    | none => false
  | _ => false

/-- The other rows that hold: 1, 2, 6, 7, 10. -/
def State.startRows (s : State) : List Nat :=
  let row := fun (n : Nat) (b : Bool) => if b then [n] else []
  let qs := s.mod.order.quads
  row 1 (decide (s.trainedChannels 0 = 0)) ++ row 2 (!qs.any s.isComplete) ++ row 6 (qs.any (fun q => !s.isComplete q)) ++
    row 7 (s.ddr.record.isSome && (qs.flatMap s.mod.order.channels).any s.deviates) ++ row 10 s.check.suspect

/-- The readiness state that rows give (Table 16.3): the first row decides. -/
def readiness (rows : List Nat) : DevCode :=
  if rows.any (fun r => decide (r ≤ 4)) then .notReady else if rows.isEmpty then .ready else .degraded

/-- The link rows evaluated again (R469): a running device never becomes NOT_READY by them, and NOT_READY ends only where
rows 3 and 4 alone were its reason. -/
def State.relink (s : State) : State :=
  let checks := s.linkChecks
  let missing := missingPorts checks
  let kept := s.mod.causes.filter (fun r => [1, 2, 6, 7, 10].contains r)
  let rows := kept ++ s.linkRows missing
  let was := s.mod.dev
  let next : DevCode :=
    match was with
    | .ready => if readiness rows = .ready then .ready else .degraded
    | .degraded => if readiness rows = .ready then .ready else .degraded
    | .notReady => if kept.contains 1 || kept.contains 2 then .notReady else readiness rows
    | d => d
  let t := (({ s with mod := { s.mod with
    links := checks, missing := missing, causes := rows, decision := s.turn.no % 2 ^ 32 } } : State).setDev next s.mod.brakedQuads)
  if next = .degraded ∧ was ≠ .degraded then t.emit (.event .readinessChanged) else t

/-! ### The fabric manifest (R383 to R387) -/

/-- Whether a manifest's content keeps Table 12.6 beyond what `layoutOk` says: sizes, coordinates, and roles only for
present ports. -/
def State.manifestOk (s : State) (m : FabricManifest) : Bool :=
  let dims := [m.dx, m.dy, m.dz]
  m.layoutOk && dims.all (fun d => decide (1 ≤ d ∧ d ≤ 64)) &&
    (m.spare || [0, 1, 2].all (fun d => decide (coord m.position d < m.size d))) && decide (m.detours.length ≤ 64) &&
    (List.range 8).all (fun n => s.mod.order.ports.contains n ||
      (m.ports.getD n { role := 0, peerPort := 0, required := false, peerPos := 0 }).role == 0)

/-- The position that a manifest gives. -/
def manifestPlace (m : FabricManifest) : Option Nat := if m.spare then none else some m.position

/-- Why a manifest is rejected (R386, R387): the first cause that holds. -/
def State.rejects (s : State) (m : FabricManifest) : Option Nat :=
  let busy := allCtxs.any (fun c =>
    let x := s.ctx c
    (decide (x.state = .running) || decide (x.state = .paused)) && (match x.plan with
      | some p => decide (1 < p.hdr.devices)
      | none => false))
  let atOnce := s.mod.dev.inStart || decide (s.mod.dev = .notReady)
  if !m.crcOk then some 1
  else if !s.manifestOk m || (busy && manifestPlace m != s.position) then some 2
  else if m.applyTurn ≠ 0 ∧ m.applyTurn < s.turn.no + 2 then some 3
  else if s.avdin.inForce.any (fun f => decide (m.seq ≤ f.seq)) then some 4
  else if m.applyTurn = 0 ∧ !atOnce then some 5
  else none

/-- Whether a manifest makes the device take a position by adoption (R383): a spare whose L6 and L7 become −X and +X. -/
def State.adopts (s : State) (m : FabricManifest) : Bool :=
  let role := fun (n : Nat) => (m.ports.getD n { role := 0, peerPort := 0, required := false, peerPos := 0 }).role
  !m.spare && (s.avdin.inForce.any (fun f => f.spare)) && role 6 == 2 && role 7 == 1

/-- The election after a change of the device's own key (R28 to R30). -/
def State.reelect (s : State) : State :=
  let t := s.turn
  let wins := match t.best with
    | some (_, b) => keyBetter t.ownPrio (s.position.getD 0) b.priority b.pos
    | none => true
  if t.running && (t.isMaster || (decide (0 < t.ownPrio) && wins)) then s.ownGrid else s

/-- A manifest comes into force (R387): position, dimensions, roles, detours and priority together. A new position reaches the
contract parameter block at a boundary (R73). -/
def State.applyManifest (s : State) (m : FabricManifest) : State :=
  let moved := manifestPlace m != s.position
  let adopted := s.adopts m || (s.avdin.adopted && !moved)
  let a : State := { s with
    avdin := { s.avdin with inForce := some m, waiting := none, manState := .applied, reject := 0, adopted := adopted }
    turn := { s.turn with ownPrio := m.priority } }
  let ok := fun (e : Nat × Port) => (e.1, { e.2 with peerOk := a.peerMatches e.1 e.2.peerPos e.2.peerPort })
  let b := { a with avdin := { a.avdin with ports := a.avdin.ports.map ok } }
  ({ b with mod := { b.mod with cpbHeld := if moved then s.cpbHold.mod.cpbHeld else b.mod.cpbHeld } }).reelect

/-- FABRIC_MANIFEST_RECEIVE (R385 to R387, R469): rejected with its cause, or kept in flash and PENDING, or applied at
once during a start and in NOT_READY. -/
def execFabricManifestReceive (m : FabricManifest) (s : State) : Result3 :=
  .next (if !s.answers || s.mod.watchdog then s
    else
      let t : State := { s with avdin := { s.avdin with manSeq := m.seq, manTurn := m.applyTurn % 65536 } }
      match s.rejects m with
      | some cause => ({ t with avdin := { t.avdin with manState := .rejected, reject := cause } }).emit (.pldm 1)
      | none =>
        let u := ({ t with avdin := { t.avdin with
          cached := some m, waiting := some m, manState := .pending, reject := 0 } }).emit (.pldm 0)
        if m.applyTurn = 0 then
          let v := u.applyManifest m
          if s.mod.dev = .notReady then v.relink else v
        else u)

/-- MANIFEST_APPLY (R387, R469): at the first intake cycle of APPLY_TURN. -/
def execManifestApply (s : State) : Result3 :=
  .next (match s.avdin.waiting with
    | some m => if s.turn.running ∧ s.turn.window = .intake ∧ s.turn.cycle = 0 ∧ m.applyTurn ≤ s.turn.no then (s.applyManifest m).cpbSettle.relink else s
    | none => s)

end Sys2Proof.Machine
end

