-- ==== Sys2Proof/Machine/ScalarOps.lean ====
section
/-! DEFINITION. The operations of the scalar and control slot, each as the bundle that holds it alone in its slot. -/

namespace Sys2Proof.Machine

/-- ADD (R126): Scalar add modulo 2^32. -/
def execSAdd (site : Nat) (f : FmtSR) (k : Checks) (s : State) : Result3 :=
  .next (s.issueAt site (loneScalar (.alu .add f)) k)

/-- SUB (R126): Scalar subtract modulo 2^32. -/
def execSSub (site : Nat) (f : FmtSR) (k : Checks) (s : State) : Result3 :=
  .next (s.issueAt site (loneScalar (.alu .sub f)) k)

/-- MUL (R126): Scalar multiply, low 32 bits. -/
def execSMul (site : Nat) (f : FmtSR) (k : Checks) (s : State) : Result3 :=
  .next (s.issueAt site (loneScalar (.alu .mul f)) k)

/-- MULHU (R126): Scalar unsigned multiply, high 32 bits. -/
def execSMulhu (site : Nat) (f : FmtSR) (k : Checks) (s : State) : Result3 :=
  .next (s.issueAt site (loneScalar (.alu .mulhu f)) k)

/-- AND (R126): Scalar bitwise AND. -/
def execSAnd (site : Nat) (f : FmtSR) (k : Checks) (s : State) : Result3 :=
  .next (s.issueAt site (loneScalar (.alu .and f)) k)

/-- OR (R126): Scalar bitwise OR. -/
def execSOr (site : Nat) (f : FmtSR) (k : Checks) (s : State) : Result3 :=
  .next (s.issueAt site (loneScalar (.alu .or f)) k)

/-- XOR (R126): Scalar bitwise XOR. -/
def execSXor (site : Nat) (f : FmtSR) (k : Checks) (s : State) : Result3 :=
  .next (s.issueAt site (loneScalar (.alu .xor f)) k)

/-- SHL (R126): Scalar shift left by SB[4:0]. -/
def execSShl (site : Nat) (f : FmtSR) (k : Checks) (s : State) : Result3 :=
  .next (s.issueAt site (loneScalar (.alu .shl f)) k)

/-- SHR (R126): Scalar logical shift right. -/
def execSShr (site : Nat) (f : FmtSR) (k : Checks) (s : State) : Result3 :=
  .next (s.issueAt site (loneScalar (.alu .shr f)) k)

/-- SRA (R126): Scalar arithmetic shift right. -/
def execSSra (site : Nat) (f : FmtSR) (k : Checks) (s : State) : Result3 :=
  .next (s.issueAt site (loneScalar (.alu .sra f)) k)

/-- MIN (R126): Scalar signed minimum. -/
def execSMin (site : Nat) (f : FmtSR) (k : Checks) (s : State) : Result3 :=
  .next (s.issueAt site (loneScalar (.alu .min f)) k)

/-- MAX (R126): Scalar signed maximum. -/
def execSMax (site : Nat) (f : FmtSR) (k : Checks) (s : State) : Result3 :=
  .next (s.issueAt site (loneScalar (.alu .max f)) k)

/-- MINU (R126): Scalar unsigned minimum. -/
def execSMinu (site : Nat) (f : FmtSR) (k : Checks) (s : State) : Result3 :=
  .next (s.issueAt site (loneScalar (.alu .minu f)) k)

/-- MAXU (R126): Scalar unsigned maximum. -/
def execSMaxu (site : Nat) (f : FmtSR) (k : Checks) (s : State) : Result3 :=
  .next (s.issueAt site (loneScalar (.alu .maxu f)) k)

/-- ADDI (R126): Scalar add of an immediate. -/
def execSAddi (site : Nat) (f : FmtSI) (k : Checks) (s : State) : Result3 :=
  .next (s.issueAt site (loneScalar (.alui .add f)) k)

/-- MULI (R126): Scalar multiply by an immediate, low 32 bits. -/
def execSMuli (site : Nat) (f : FmtSI) (k : Checks) (s : State) : Result3 :=
  .next (s.issueAt site (loneScalar (.alui .mul f)) k)

/-- ANDI (R126): Scalar AND with an immediate. -/
def execSAndi (site : Nat) (f : FmtSI) (k : Checks) (s : State) : Result3 :=
  .next (s.issueAt site (loneScalar (.alui .and f)) k)

/-- ORI (R126): Scalar OR with an immediate. -/
def execSOri (site : Nat) (f : FmtSI) (k : Checks) (s : State) : Result3 :=
  .next (s.issueAt site (loneScalar (.alui .or f)) k)

/-- XORI (R126): Scalar XOR with an immediate. -/
def execSXori (site : Nat) (f : FmtSI) (k : Checks) (s : State) : Result3 :=
  .next (s.issueAt site (loneScalar (.alui .xor f)) k)

/-- SHLI (R126): Scalar shift left by an immediate. -/
def execSShli (site : Nat) (f : FmtSI) (k : Checks) (s : State) : Result3 :=
  .next (s.issueAt site (loneScalar (.alui .shl f)) k)

/-- SHRI (R126): Scalar logical shift right by an immediate. -/
def execSShri (site : Nat) (f : FmtSI) (k : Checks) (s : State) : Result3 :=
  .next (s.issueAt site (loneScalar (.alui .shr f)) k)

/-- SRAI (R126): Scalar arithmetic shift right by an immediate. -/
def execSSrai (site : Nat) (f : FmtSI) (k : Checks) (s : State) : Result3 :=
  .next (s.issueAt site (loneScalar (.alui .sra f)) k)

/-- MOVI (R126): Load an immediate into a scalar register. -/
def execSMovi (site : Nat) (g : Guard) (sd : BitVec 5) (imm : Word) (k : Checks) (s : State) : Result3 :=
  .next (s.issueAt site (loneScalar (.movi g sd imm)) k)

/-- CMP_EQ (R126): Write to a predicate whether SA equals SB. -/
def execCmpEq (site : Nat) (f : FmtPC) (k : Checks) (s : State) : Result3 :=
  .next (s.issueAt site (loneScalar (.cmp .eq f)) k)

/-- CMP_NE (R126): Write to a predicate whether SA differs from SB. -/
def execCmpNe (site : Nat) (f : FmtPC) (k : Checks) (s : State) : Result3 :=
  .next (s.issueAt site (loneScalar (.cmp .ne f)) k)

/-- CMP_LT (R126): Write to a predicate whether SA is below SB, signed. -/
def execCmpLt (site : Nat) (f : FmtPC) (k : Checks) (s : State) : Result3 :=
  .next (s.issueAt site (loneScalar (.cmp .lt f)) k)

/-- CMP_LE (R126): Write to a predicate whether SA is at most SB, signed. -/
def execCmpLe (site : Nat) (f : FmtPC) (k : Checks) (s : State) : Result3 :=
  .next (s.issueAt site (loneScalar (.cmp .le f)) k)

/-- CMP_LTU (R126): Write to a predicate whether SA is below SB, unsigned. -/
def execCmpLtu (site : Nat) (f : FmtPC) (k : Checks) (s : State) : Result3 :=
  .next (s.issueAt site (loneScalar (.cmp .ltu f)) k)

/-- CMP_LEU (R126): Write to a predicate whether SA is at most SB, unsigned. -/
def execCmpLeu (site : Nat) (f : FmtPC) (k : Checks) (s : State) : Result3 :=
  .next (s.issueAt site (loneScalar (.cmp .leu f)) k)

/-- CMPI_EQ (R126): Immediate predicate compare for equality. -/
def execCmpiEq (site : Nat) (f : FmtPCI) (k : Checks) (s : State) : Result3 :=
  .next (s.issueAt site (loneScalar (.cmpi .eq f)) k)

/-- CMPI_NE (R126): Immediate predicate compare for inequality. -/
def execCmpiNe (site : Nat) (f : FmtPCI) (k : Checks) (s : State) : Result3 :=
  .next (s.issueAt site (loneScalar (.cmpi .ne f)) k)

/-- CMPI_LT (R126): Immediate signed less-than compare. -/
def execCmpiLt (site : Nat) (f : FmtPCI) (k : Checks) (s : State) : Result3 :=
  .next (s.issueAt site (loneScalar (.cmpi .lt f)) k)

/-- CMPI_LE (R126): Immediate signed less-or-equal compare. -/
def execCmpiLe (site : Nat) (f : FmtPCI) (k : Checks) (s : State) : Result3 :=
  .next (s.issueAt site (loneScalar (.cmpi .le f)) k)

/-- CMPI_LTU (R126): Immediate unsigned less-than compare. -/
def execCmpiLtu (site : Nat) (f : FmtPCI) (k : Checks) (s : State) : Result3 :=
  .next (s.issueAt site (loneScalar (.cmpi .ltu f)) k)

/-- CMPI_LEU (R126): Immediate unsigned less-or-equal compare. -/
def execCmpiLeu (site : Nat) (f : FmtPCI) (k : Checks) (s : State) : Result3 :=
  .next (s.issueAt site (loneScalar (.cmpi .leu f)) k)

/-- PAND (R126): Predicate AND with optional inversions. -/
def execPand (site : Nat) (f : FmtPL) (k : Checks) (s : State) : Result3 :=
  .next (s.issueAt site (loneScalar (.plog .and f)) k)

/-- POR (R126): Predicate OR with optional inversions. -/
def execPor (site : Nat) (f : FmtPL) (k : Checks) (s : State) : Result3 :=
  .next (s.issueAt site (loneScalar (.plog .or f)) k)

/-- PXOR (R126): Predicate XOR with optional inversions. -/
def execPxor (site : Nat) (f : FmtPL) (k : Checks) (s : State) : Result3 :=
  .next (s.issueAt site (loneScalar (.plog .xor f)) k)

/-- MOVK (R126): Copy a loop counter K register into a scalar register. -/
def execMovk (site : Nat) (f : FmtMK) (k : Checks) (s : State) : Result3 :=
  .next (s.issueAt site (loneScalar (.movk f)) k)

/-- RDID (R126): Write the tile's global logical tile number into a scalar register. -/
def execRdid (site : Nat) (g : Guard) (sd : BitVec 5) (k : Checks) (s : State) : Result3 :=
  .next (s.issueAt site (loneScalar (.rdid g sd)) k)

/-- BR (R127): Branch to a bundle of the active slot, popping loop entries it leaves. -/
def execBranch (site : Nat) (f : FmtBR) (k : Checks) (s : State) : Result3 :=
  .next (s.issueAt site (loneScalar (.br f)) k)

/-- CALL (R127): Branch and write the return bundle index into S31. -/
def execCall (site : Nat) (f : FmtBR) (k : Checks) (s : State) : Result3 :=
  .next (s.issueAt site (loneScalar (.call f)) k)

/-- JR (R127): Branch to the bundle index held in a scalar register. -/
def execJr (site : Nat) (f : FmtJR) (k : Checks) (s : State) : Result3 :=
  .next (s.issueAt site (loneScalar (.jr f)) k)

/-- LOOP (R129): Start a hardware loop whose count is held in a scalar register. -/
def execLoop (site : Nat) (f : FmtLP) (k : Checks) (s : State) : Result3 :=
  .next (s.issueAt site (loneScalar (.loop f)) k)

/-- LOOPI (R129): Start a hardware loop with an immediate count. -/
def execLoopi (site : Nat) (f : FmtLI) (k : Checks) (s : State) : Result3 :=
  .next (s.issueAt site (loneScalar (.loopi f)) k)

/-- SWITCH (R132): Switch to another configuration slot at an entry bundle, applying its map and steering table. -/
def execSwitchSlot (site : Nat) (f : FmtSW) (k : Checks) (s : State) : Result3 :=
  .next (s.issueAt site (loneScalar (.switch f)) k)

/-- RELOAD (R133): Copy a slot image and trailer from scratchpad into a slot that is not executing. -/
def execReload (site : Nat) (f : FmtRL) (k : Checks) (s : State) : Result3 :=
  .next (s.issueAt site (loneScalar (.reload f)) k)

/-- OWNR (R135): Hand a range of scratchpad banks to a new owner port. -/
def execOwnr (site : Nat) (f : FmtOW) (k : Checks) (s : State) : Result3 :=
  .next (s.issueAt site (loneScalar (.ownr f)) k)

/-- IDLE (R137): Issue no bundle for N cycles. -/
def execIdle (site : Nat) (f : FmtCY) (k : Checks) (s : State) : Result3 :=
  .next (s.issueAt site (loneScalar (.idle f)) k)

/-- WAITC (R137): Issue no bundle before work cycle N. -/
def execWaitc (site : Nat) (f : FmtCY) (k : Checks) (s : State) : Result3 :=
  .next (s.issueAt site (loneScalar (.waitc f)) k)

/-- ENDWORK (R136): Mark the site's end-of-work point; no further bundle issues this turn. -/
def execEndwork (site : Nat) (g : Guard) (k : Checks) (s : State) : Result3 :=
  .next (s.issueAt site (loneScalar (.endwork g)) k)

end Sys2Proof.Machine
end

