-- ==== Sys2Proof/Machine/Security.lean ====
section
/-! DEFINITION. Identity, firmware and attestation (R474 to R490): the sideband's firmware and key requests, the return
unlock, and the SPDM responder. -/

namespace Sys2Proof.Machine

/-- Whether the sideband answers (R448, R459, R483): from step 3 of a start, and not after a watchdog trip. -/
def State.sideband (s : State) : Bool := s.answers && !s.mod.watchdog

/-! ### PLDM (R251, R481, R482, R485) -/

/-- TRAY_ALLOWANCE_SET (R251). -/
def execTrayAllowanceSet (watts : Nat) (s : State) : Result3 :=
  .next (if s.sideband then { s with reef := { s.reef with trayW := watts % 65536 } } else s)

/-- PLDM_OWNER_KEY (R485): the digest is staged once. -/
def execPldmOwnerKey (digest : List Byte) (s : State) : Result3 :=
  .next (if !s.sideband then s
    else if !s.sec.ownerFree then s.emit (.pldm Status.wrongState.code)
    else if digest.length ≠ 64 then s.emit (.pldm Status.badCommand.code)
    else ({ s with sec := { s.sec with ownerPending := some digest } }).emit (.pldm 0))

/-- PLDM_FW_UPDATE (R482, R491): the image is checked, and its write into the slot that is not running begins. -/
def execPldmFwUpdate (image : List Byte) (s : State) : Result3 :=
  .next (if !s.sideband then s
    else if s.sec.updating.isSome then s.emit (.pldm Status.noResource.code)
    else if decide (2 ^ 26 < image.length) || !s.sec.valid image then s.emit (.pldm Status.badCommand.code)
    else { s with sec := s.sec.update image false })

/-- ROM_RECOVERY_UPDATE (R481): a valid image goes into slot A, and a cold bring-up starts from step 2. -/
def execRomRecoveryUpdate (image : List Byte) (s : State) : Result3 :=
  .next (if s.mod.phase ≠ .recovery then s
    else if decide (2 ^ 26 < image.length) || !s.sec.valid image then s.emit (.pldm Status.badCommand.code)
    else
      let t : State := { s with
        sec := ({ s.sec with slotA := image }).setBoot 0 true 0, mod := { s.mod with cold := true, trained := false } }
      (t.emit (.pldm 0)).bootStep)

/-! ### The return unlock (R486 to R488) -/

/-- The next output of the DRBG (R478). -/
def State.draw (s : State) : State × List Byte :=
  ({ s with sec := { s.sec with nonces := s.sec.nonces + 1 } }, Config.drbg s.sec.nonces)

/-- RETURN_NONCE (R487, R488): a fresh nonce, or an error while TRNG_FAIL is set. -/
def execReturnNonce (s : State) : Result3 :=
  .next (if !s.sideband then s
    else if s.sec.trngFail then s.emit (.vendor none)
    else
      let r := s.draw
      let n := r.2.take 32
      ({ r.1 with sec := { r.1.sec with nonce := some n } }).emit (.vendor (some n)))

/-- RETURN_NONCE_EXPIRE (R487). -/
def execReturnNonceExpire (s : State) : Result3 := .next { s with sec := { s.sec with nonce := none } }

/-- The 64 bytes of an unlock record that its signature covers (R486). -/
def UnlockRecord_message (r : UnlockRecord) : List Byte := leBytes 8 r.serial.toNat ++ r.nonce ++ leBytes 4 r.action ++ r.reserved

/-- Whether an unlock record is accepted (R486, R487). -/
def Security.unlocks (x : Security) (r : UnlockRecord) : Bool :=
  r.serial == Config.serial && x.nonce == some r.nonce && r.action == 1 &&
    Config.mldsaOk Config.returnKey ("WELWALD-RETURN".toList.map (fun c => BitVec.ofNat 8 c.toNat)) (UnlockRecord_message r) r.sig

/-- RETURN_UNLOCK (R487, R488): the nonce is spent; an accepted record starts a chip reset whose step 2 destroys the
identity. -/
def execReturnUnlock (record : UnlockRecord) (s : State) : Result3 :=
  .next (if !s.sideband then s
    else
      let spent : State := { s with sec := { s.sec with nonce := none } }
      if s.sec.unlocks record then
        ({ spent with sec := { spent.sec with returning := true, updating := none } } : State).chipReset false
      else spent.emit (.vendor none))

/-! ### SPDM (R483, R484, Table 17.4) -/

/-- Whether the DOE mailbox is reachable: the link is up and the device answers configuration requests, or is in step 2
of a chip reset (R458, R484). -/
def State.doeReachable (s : State) : Bool :=
  s.mod.linkUp && (s.answers || (decide (s.mod.phase = .bootRom) && !s.mod.cold))

/-- An SPDM answer on its way (R483, R484): over MCTP at once; the DOE mailbox serves one request at a time and its
answer leaves at the next idle step (log 10). Before the alias key exists the answer is ResponseNotReady. -/
def State.spdm (s : State) (t : Transport) (a : SpdmAnswer) : State :=
  let b : SpdmAnswer := if s.sec.aliasReady then a else .error .notReady
  match t with
  | .mctp => if s.sideband then s.emit (.spdm .mctp b) else s
  | .doe =>
    if !s.doeReachable then s
    else if s.sec.doe.isSome then s.emit (.spdm .doe (.error .busy))
    else { s with sec := { s.sec with doe := some b } }

/-- Whether a request over a transport will be served now. -/
def State.serving (s : State) (t : Transport) : Bool :=
  s.sec.aliasReady && (match t with
    | .mctp => s.sideband
    | .doe => s.doeReachable && s.sec.doe.isNone)

/-- The certificate chain of slot 0 (R477). -/
def Security.slot0 (x : Security) : List Byte := Config.certChain x.chain

/-- GET_VERSION (R483): SPDM 1.4. -/
def execGetVersion (t : Transport) (s : State) : Result3 := .next (s.spdm t (.version 1 4))

/-- GET_CAPABILITIES (R483, Table 17.4). -/
def execGetCapabilities (t : Transport) (s : State) : Result3 := .next (s.spdm t .capabilities)

/-- NEGOTIATE_ALGORITHMS (R483, Table 17.4): ML-DSA-87 and SHA3-512 where the requester offers them. -/
def execNegotiateAlgorithms (t : Transport) (mldsa87 sha3 : Bool) (s : State) : Result3 := .next (s.spdm t (.algorithms mldsa87 sha3))

/-- GET_DIGESTS (R483, R489): slot 0. -/
def execGetDigests (t : Transport) (s : State) : Result3 :=
  .next (s.spdm t (if s.sec.rmaUnlocked then .error .unspecified else .digests [0] (sha3_512 s.sec.slot0)))

/-- GET_CERTIFICATE (R483, R489): a part of slot 0; no other slot is supported. -/
def execGetCertificate (t : Transport) (slot offset length : Nat) (s : State) : Result3 :=
  let c := s.sec.slot0
  .next (s.spdm t (if slot ≠ 0 then .error .unsupported
    else if s.sec.rmaUnlocked then .error .unspecified
    else .certificate (bytesFrom c offset length) (c.length - offset - (bytesFrom c offset length).length)))

/-- CHALLENGE (R478, R483, R489). -/
def execChallenge (t : Transport) (slot : Nat) (nonce : List Byte) (s : State) : Result3 :=
  .next (if slot ≠ 0 then s.spdm t (.error .unsupported)
    else if s.sec.trngFail || s.sec.rmaUnlocked then s.spdm t (.error .unspecified)
    else if !s.serving t then s.spdm t (.error .notReady)
    else
      let r := s.draw
      let n := r.2.take 32
      let d := sha3_512 s.sec.slot0
      let sum := Config.measurementSummary s.sec.measured
      r.1.spdm t (.challengeAuth d n sum (Config.aliasSign s.sec.chain (nonce ++ n ++ d ++ sum) s.sec.nonces)))

/-- The measurements that an index names (Table 17.3): one, or all with 0xFF; 0 asks for their number only. -/
def Security.named (x : Security) (index : Nat) : Option (List (Nat × List Byte)) :=
  if index = 0 then some []
  else if index = 255 then some ((List.range 6).map (fun i => (i + 1, x.measured.getD i [])))
  else if index ≤ 6 then some [(index, x.measured.getD (index - 1) [])]
  else none

/-- GET_MEASUREMENTS (R478, R483): by index, signed or not. -/
def execGetMeasurements (t : Transport) (index : Nat) (signed : Bool) (nonce : List Byte) (s : State) : Result3 :=
  .next (match s.sec.named index with
    | none => s.spdm t (.error .unsupported)
    | some l =>
      if !signed then s.spdm t (.measurements l none)
      else if s.sec.trngFail || s.sec.rmaUnlocked then s.spdm t (.error .unspecified)
      else if !s.serving t then s.spdm t (.error .notReady)
      else
        let r := s.draw
        let n := r.2.take 32
        let msg := nonce ++ n ++ l.flatMap (fun e => e.2)
        r.1.spdm t (.measurements l (some (n, Config.aliasSign s.sec.chain msg s.sec.nonces))))

/-- DOE_ABORT (R484). -/
def execDoeAbort (s : State) : Result3 := .next { s with sec := { s.sec with doe := none } }

/-- TRNG_HEALTH_FAIL (R478): until the next start requests that need the DRBG are answered with errors. -/
def execTrngHealthFail (s : State) : Result3 :=
  .next (if s.mod.phase.running then { s with sec := { s.sec with trngFail := true } } else s)

/-! ### What an empty queue does (log 10) -/

/-- One cycle of the arithmetic clock: the turn generator counts up to the last cycle of its window (the windows change
by commands), and the DOE mailbox answers the request that it serves. -/
def State.tick (s : State) : State :=
  let g := s.turn.geom
  let last := match s.turn.window with
    | .intake => g.start .work
    | .work => g.start .dressing
    | .dressing => g.start .close
    | .close => g.cycles
  let t : State := match s.sec.doe with
    | some a => { s with out := s.out ++ [.spdm .doe a], sec := { s.sec with doe := none } }
    | none => s
  if t.turn.running && decide (t.turn.cycle + 1 < last) then
    { t with turn := { t.turn with cycle := t.turn.cycle + 1 } }
  else t

end Sys2Proof.Machine
end

