-- ==== Sys2Proof/Machine/SiteOps.lean ====
section
/-! DEFINITION. What happens to one site besides an operation of its own: the bundle fetch, the end of a wait, a NOP, a
stream left without its MMUL, and a steering cycle. -/

namespace Sys2Proof.Machine

/-- BUNDLE_FETCH (R124): the sequencer fetches and issues one bundle from the active slot. -/
def execBundleFetch (site : Nat) (k : Checks) (s : State) : Result3 := s.fetchAt site k

/-- WAIT_EXPIRE (R137): the wait of an IDLE or WAITC ends, and the next bundle issues. A site that does not wait is left
as it is. -/
def execWaitExpire (site : Nat) (k : Checks) (s : State) : Result3 :=
  match (s.site site).seq.status with
  | .waiting _ => (s.modSite site Site.endWait).fetchAt site k
  | _ => .next s

/-- NOP (R118): a bundle whose slots all hold NOP does nothing but take its cycle, in whichever slot it is named. -/
def execNop (site : Nat) (_slot : SlotName) (k : Checks) (s : State) : Result3 := .next (s.issueAt site Bundle.nops k)

/-- FEED_TIMING (R155): BANK_CLASH in cycle a + 9. -/
def execFeedTiming (site : Nat) (s : State) : Result3 :=
  .next (match (s.site site).feedDue with
    | some _ => s.modSite site Site.feedTiming
    | none => s)

/-- STEERING_CYCLE (R209): the steering unit's cycle `cycle` of the work window, in which a site that takes part in the
turn takes in items, fires entries and emits. It fires only in the work window (R213), and after the exchange slot of the
bundle of its cycle (R142). A cycle already past, or a site whose sequencer never started, is left as it is. `bad` is the address of an uncorrectable error in the steering table (Table 13.1): ECC_UE, and nothing fires. -/
def execSteeringCycle (site cycle : Nat) (bad : Option Nat) (s : State) : Result3 :=
  let a := s.site site
  if a.seq.status = .off || cycle < a.ex.steer || s.turn.geom.work ≤ cycle || s.turn.window ≠ .work ||
      !a.issuedPast cycle then .next s
  else if let some addr := bad then
    let b := a.raise .eccUe 0 cycle (eccData 3 addr)
    .next ((s.setSite site { b with ex := { b.ex with steer := cycle + 1, steerOff := true } }).countChecks site a)
  else
    let o := a.steerCycle cycle
    let done : Site := { o.site with ex := { o.site.ex with steer := cycle + 1 } }
    let q := site / Config.sitesPerQuad
    .next ((((s.setSite site done).dispatch site o.out).countSite site a 0).modQuad q
      (fun x => { x with steerTrunc := bump32 x.steerTrunc o.trunc }))

end Sys2Proof.Machine
end

