-- ==== Sys2Proof/Machine/Start.lean ====
section
/-! DEFINITION. Power and starts (R272, R339, R351, R428, R455 to R471, R498 to R507, R514): the pins, the steps of Table
16.2, the readiness decision with its fuse commit, and the thermal thresholds (R271). -/

namespace Sys2Proof.Machine

/-! ### Power (R498 to R500, R514) -/

/-- The module with PWR_EN low: flash, fuses, straps, modules and cables stay, everything else is at its reset value. -/
def State.powerOff (s : State) : State :=
  let x := s.sec
  { State.reset with
    pending := s.pending, epochs := s.epochs, out := s.out
    mod := { Mod.reset with order := s.mod.order, perstN := s.mod.perstN, slotStrap := s.mod.slotStrap, starts := s.mod.starts }
    check := { Check.reset with suspect := s.check.suspect, drainRequest := s.check.drainRequest }
    heal := { s.heal with readySpares := [], fenceDue := [], targeted := [], replacing := [], defects := s.heal.saved
                          softRepairs := [], committedLast := [], logPending := false }
    ddr := { Ddr.reset with
      record := s.ddr.record
      chan := s.ddr.chan.map (fun e => (e.1, { Channel.reset with module := e.2.module, marks := e.2.marks })) }
    avdin := { Avdin.reset with
      cached := s.avdin.cached, ports := s.avdin.ports.map (fun e => (e.1, { Port.reset with cable := e.2.cable })) }
    sec := { Security.reset with
      rmaUnlocked := x.rmaUnlocked, seedDestroyed := x.seedDestroyed, owner := x.owner, ownerDestroyed := x.ownerDestroyed
      ownerPending := x.ownerPending, revoked := x.revoked, svn := x.svn, slotA := x.slotA, slotB := x.slotB
      recordA := x.recordA, recordB := x.recordB } }

/-- PWR_EN_RISE (R498, R514): the rails rise. Less than 250 ms after it fell the spec calls what follows undefined. -/
def execPwrEnRise (lowMs : Nat) (s : State) : Result3 :=
  if s.mod.pwrEn then .next s
  else if lowMs < 250 then .fault (.powerCycleTooShort lowMs)
  else .next { s with mod := { s.mod with pwrEn := true, phase := .powering, cold := true } }

/-- POWER_UP_COMPLETE (R498, R476): PGOOD rises, and measured boot begins. -/
def execPowerUpComplete (s : State) : Result3 :=
  .next (if s.mod.phase = .powering then
      ({ s with mod := { s.mod with pgood := true, linkUp := s.mod.perstN } } : State).bootStep
    else s)

/-- POWER_SEQ_TIMEOUT (R499): the sequencer stops, and PGOOD stays low until PWR_EN falls. -/
def execPowerSeqTimeout (s : State) : Result3 :=
  .next (if s.mod.phase = .powering then { s with mod := { s.mod with phase := .stopped } } else s)

/-- PWR_EN_FALL (R500). -/
def execPwrEnFall (s : State) : Result3 := .next (if s.mod.pwrEn then s.powerOff else s)

/-- PERST_N_RISE (R458, R514): link training begins, or waits for PGOOD. -/
def execPerstNRise (s : State) : Result3 := .next { s with mod := { s.mod with perstN := true, linkUp := s.mod.pgood && s.mod.phase.running } }

/-- PERST_N_FALL (R514): with PGOOD high a chip reset. -/
def execPerstNFall (s : State) : Result3 :=
  let t : State := { s with mod := { s.mod with perstN := false, linkUp := false } }
  .next (if s.mod.perstN && s.mod.pgood then t.chipReset true else t)

/-- The arithmetic clock of every die stops (R272): nothing executes, and the PCIe and Avdin links fail. -/
def State.tripped (s : State) : State :=
  let down := fun (e : Nat × Port) => (e.1, { e.2 with
    state := if e.2.state = .absent ∨ e.2.state = .disabled then e.2.state else .down, kept := [], inFlight := 0 })
  { s with
    mod := { s.mod with phase := .tripped, thermtripN := false, linkUp := false }
    turn := { s.turn with running := false }
    cmds := [], sites := [], avdin := { s.avdin with ports := s.avdin.ports.map down } }

/-- THERMTRIP (R272). -/
def execThermtrip (die : Nat) (s : State) : Result3 := .next (if s.mod.pgood && decide (die < 9) then s.tripped else s)

/-- SLOT_ID_CHANGE (R503): the strap changes; MODULE_INFO follows at the next cold bring-up. -/
def execSlotIdChange (value : BitVec 6) (s : State) : Result3 := .next { s with mod := { s.mod with slotStrap := value } }

/-- MEMORY_MODULE_INSERT (R507): a module in an empty socket; with PWR_EN high it is not trained. -/
def execMemoryModuleInsert (channel : Nat) (module : MemModule) (s : State) : Result3 :=
  .next (if (s.mod.order.quads.flatMap s.mod.order.channels).contains channel && (s.chan channel).module.isNone then
      s.modChan channel (fun c => { c with module := some module }) else s)

/-! ### Steps 3 and 4 (R461, R476, Table 16.2) -/

/-- A site that the first SERVICE load of a start leaves incomplete (R461): STARTS counts this start. -/
def State.startSite (s : State) (i : Nat) : State :=
  let q := i / Config.sitesPerQuad
  let seen := fun (d : Defect) => decide (d.kind = 2 ∧ d.site = i ∧ d.structure_ = 15)
  let l := aget [] s.heal.defects q
  let again := l.map (fun d => if seen d then { d with starts := d.starts + 1, missed := 0 } else d)
  if l.any seen then { s with heal := { s.heal with defects := aset s.heal.defects q again } }
  else s.incompleteSite 1 i

/-- Step 4 in one quadrant (R461): the fused entries applied, sites cleared, the SERVICE image committed, sites still
incomplete fenced. -/
def State.startQuad (s : State) (bad : List Nat) (q : Nat) : State :=
  let mine := bad.filter (fun i => i / Config.sitesPerQuad == q)
  let a := mine.foldl (fun u i => u.startSite i) s
  let fused := (aget [] a.heal.defects q).filter (fun d => d.fused)
  let b := a.rebuild q (mine.foldl nins (fencedBy (applyList fused)))
  b.modQuad q (fun x => { x with
    deadRouters := deadBy fused, store := s.serviceImage, staging := none
    load := { valid := true, result := 1, kind := 1, round := 0, incomplete := mine.length, fenced := mine.length
              seq := (x.load.seq + 1) % 65536, activate := 0, bad := mine } })

/-- Ports that have not trained since power-on begin to (step 7). -/
def State.startPorts (s : State) : State :=
  (s.mod.order.ports.filter (fun n => (s.port n).cable && !(s.port n).trained)).foldl (fun u n => u.train n) s

/-- What step 3 reads from flash: the defect list, the manifest cache (R385), and at a cold bring-up the SLOT_ID straps
(R503). -/
def State.readFlash (s : State) : State :=
  let a : State := { s with
    heal := { s.heal with defects := s.heal.saved }
    mod := { s.mod with slotId := if s.mod.cold then s.mod.slotStrap else s.mod.slotId } }
  match s.avdin.cached with
  | none => a
  | some m =>
    { a with
      avdin := { a.avdin with inForce := some m, waiting := none, manState := .applied, reject := 0, manSeq := m.seq
                              manTurn := m.applyTurn % 65536 }
      turn := { a.turn with ownPrio := m.priority } }

/-- CHIP_CONTROLLER_START (R73, R459, R461, R476): steps 3 and 4. Measurements 3 and 4 are recorded and the alias key is
derived; at a chip reset zeroing begins. -/
def execChipControllerStart (incomplete : List Nat) (s : State) : Result3 :=
  .next (if s.mod.phase ≠ .bootRom then s
    else
      let img := s.sec.image s.sec.active
      let m := s.sec.measured
      let a := s.readFlash
      let b : State := { a with
        sec := { a.sec with measured := [m.getD 0 [], m.getD 1 [], fwDigest img 2, fwDigest img 3, m.getD 4 [], m.getD 5 []], aliasReady := true }
        mod := { a.mod with phase := .starting }
        ddr := { a.ddr with zeroing := a.mod.trained } }
      (s.mod.order.quads.foldl (fun u q => u.startQuad incomplete q) b).startPorts)

/-! ### Step 5 (R338, R339, R341, R351) -/

/-- The state of a channel after training (Table 11.13). -/
def Channel.afterTraining (c : Channel) (failed : Bool) : ChanState :=
  match c.module with
  | none => .empty
  | some m =>
    if !m.supported then .unsupported else if failed then .trainFailed else if 3 ≤ c.marked then .atRisk else .inService

/-- Every channel after training, the one data rate, and the interleave sets with their mapped capacities. -/
def State.trainDdr (s : State) (failed : List Nat) : State :=
  let all := s.mod.order.quads.flatMap s.mod.order.channels
  let good := all.filterMap (fun n => (s.chan n).module.bind (fun m => if m.supported then some m else none))
  let a := all.foldl (fun u n => u.modChan n (fun c => { c with state := c.afterTraining (failed.contains n), touched := false })) s
  let capOf := fun (n : Nat) => match (a.chan n).module with
    | some m => m.cap
    | none => 0
  let set := fun (q : Nat) => (s.mod.order.channels q).filter (fun n => (a.chan n).state.serves)
  let low : Nat → Nat := fun q => ((set q).map capOf).foldl min 4
  let larger := fun (n : Nat) => (set (n / 16)).contains n && decide (low (n / 16) < capOf n)
  let b := all.foldl (fun u n => u.modChan n (fun c => { c with mappedSmaller := larger n })) a
  { b with ddr := { b.ddr with
      rate := if good.isEmpty then 0 else (good.map (fun m => m.rate)).foldl min 2
      mismatch := all.any larger
      sets := s.mod.order.quads.map (fun q => (q, set q)), cap := s.mod.order.quads.map (fun q => (q, if (set q).isEmpty then 0 else low q)) } }

/-- DDR_TRAINING_DONE (R338, R339, R341): zeroing follows. -/
def execDdrTrainingDone (failed : List Nat) (ms : Nat) (s : State) : Result3 :=
  .next (if s.mod.phase ≠ .starting ∨ s.mod.trained then s
    else
      let a := s.trainDdr failed
      { a with mod := { a.mod with trained := true, ddrMs := min ms 65535 }, ddr := { a.ddr with zeroing := true } })

/-- ZEROING_DONE (R351): every unit reads zero, without poison. -/
def execZeroingDone (ms : Nat) (s : State) : Result3 :=
  .next (if s.mod.phase = .starting ∧ s.ddr.zeroing then
      { s with mod := { s.mod with zeroed := true, ddrMs := min (s.mod.ddrMs + ms) 65535 }
               ddr := { s.ddr with zeroing := false, mem := [] } }
    else s)

/-! ### Step 6 (R22, R428) -/

/-- An entry after full dressing (R428): found again or missed; none where it is removed. -/
def Defect.afterDressing (d : Defect) (found kept : Bool) : Option Defect :=
  if kept then some d
  else if found then some { d with starts := d.starts + 1, missed := 0 }
  else if d.fused then some d
  else if 16 ≤ d.missed + 1 then none
  else some { d with starts := 0, missed := d.missed + 1 }

/-- Steps 3 and 4 of soft repair in one quadrant (R428): the list grows by what was found and is applied. Sites that the
SERVICE load left incomplete were counted in step 4 of the start. -/
def State.softRepair (s : State) (found : List DefectFact) (q : Nat) : State :=
  let mine := found.filter (fun f => f.site / Config.sitesPerQuad == q)
  let bad := (s.quad q).load.bad
  let names := fun (d : Defect) (f : DefectFact) => decide (d.site = f.site ∧ d.structure_ = f.structure_ ∧ d.index = f.index)
  let fresh := mine.filter (fun f => !(aget [] s.heal.defects q).any (fun d => names d f))
  let l := (aget [] s.heal.defects q).filterMap (fun d =>
    d.afterDressing (mine.any (names d)) (d.structure_ == 15 && bad.contains d.site))
  let a : State := { s with heal := { s.heal with defects := aset s.heal.defects q l } }
  let b := fresh.foldl (fun u f => u.addDefect q (defectEntry f u.heal.poweredHours false 1)) a
  let d := (b.applyDefects q true).modQuad q (fun x => { x with dressed := true })
  let rows := ((aget [] d.heal.defects q).filter (fun e => !e.fused)).length
  { d with heal := { d.heal with softRepairs := aset d.heal.softRepairs q rows
                                 listFull := d.heal.defects.any (fun e => decide (listMax ≤ e.2.length)) } }

/-- FULL_DRESSING_DONE (R22, R30, R73, R428): soft repair, then the turn generator starts with boundary 0, at which the contract
parameter block holds what the start found. The energy drawn since the rails rose or the last turn before the reset is a free
value (R276). -/
def execFullDressingDone (found : List DefectFact) (ms : Nat) (s : State) : Result3 :=
  .next (if s.mod.phase ≠ .starting ∨ s.mod.dressedDone then s
    else
      let a := s.mod.order.quads.foldl (fun u q => u.softRepair found q) s
      let b : State := { a with
        mod := { a.mod with dressedDone := true, dressMs := min ms 65535, serviced := 0 }
        reef := { a.reef with energy := a.reef.energy + Config.startEnergy a.epochs }
        turn := { a.turn with running := true, no := 0, window := .intake, cycle := 0 } }
      b.cpbStarted.ownGrid.rewear)

/-! ### Step 8 (R253, R258) -/

/-- E_FLOOR_MEASURED (R253, R258): the floor in µJ of a turn, K at 1, and level 3. -/
def execEFloorMeasured (floor : Nat) (s : State) : Result3 :=
  .next (if s.mod.phase = .starting ∧ s.mod.zeroed ∧ s.mod.dressedDone then
      { s with mod := { s.mod with floorDone := true }, reef := { s.reef with eFloor := floor, k := 1, level := 3 } }
    else s)

/-! ### Step 9 to 11 (R462 to R468, R479, R480, R485) -/

/-- Whether step 7 has ended (R466): at a cold bring-up every port that trained has a complete window, or has failed. -/
def State.portsReady (s : State) : Bool :=
  !s.mod.cold || s.mod.order.ports.all (fun n =>
    let x := s.port n
    decide (x.state ≠ .training) && (decide (x.state ≠ .up ∧ x.state ≠ .degraded) || decide (0 < x.windows)))

/-- The fuses of step 10 that come before defect entries, and how many entries they take (R475, R479, R485): each for a
confirmed running image, the owner's digest for any. -/
def Security.fuse (x : Security) : Security × Nat :=
  let img := x.image x.active
  let confirmed := !(x.boot.trial && decide (x.boot.preferred = x.active))
  let svn := if confirmed && decide (x.svn < fwSvn img) then 1 else 0
  let gone := match fwFind img 4 with
    | some c => if confirmed then (Config.revokes (c.content img)).filter (fun k => decide (k < 4) && !x.revoked.contains k) else []
    | none => []
  let keys := gone.foldl nins x.revoked
  let own := match x.ownerPending with
    | some d => ({ x with owner := some d, ownerPending := none }, 1)
    | none => (x, 0)
  ({ own.1 with svn := if svn = 1 then fwSvn img else x.svn, revoked := keys }, svn + (keys.length - x.revoked.length) + own.2)

/-- Whether an entry is due for the fuses (R429, R462). -/
def Defect.due (d : Defect) : Bool := !d.fused && decide (3 ≤ d.starts)

/-- One due entry fused where its quadrant has a fuse entry left (R429). -/
def Heal.fuse (h : Heal) (e : Nat × Defect) : Heal :=
  let n := aget 0 h.fuseUsed e.1
  if 2048 ≤ n then h
  else
    { h with
      fuseUsed := aset h.fuseUsed e.1 (n + 1), committedLast := amod 0 h.committedLast e.1 (· + 1)
      defects := amod [] h.defects e.1 (fun l => l.map (fun d => if d = e.2 then { d with fused := true } else d)) }

/-- The entries of step 10 with their quadrants: at most 256 in order of FIRST_HOURS (R462). -/
def Heal.toFuse (h : Heal) (room : Nat) : List (Nat × Defect) :=
  let due := h.defects.flatMap (fun e => (e.2.filter (fun d => d.due && decide (aget 0 h.fuseUsed e.1 < 2048))).map (fun d => (e.1, d)))
  (sortBy (fun (a b : Nat × Defect) => decide (a.2.firstHours ≤ b.2.firstHours)) due).take room

/-- Step 10 (R462). -/
def Heal.commit (h : Heal) (room : Nat) : Heal := (h.toFuse room).foldl Heal.fuse { h with committedLast := [] }

/-- Step 10 cut short by a fall of PWR_EN (R462, R470): the first `n` entries are fused, the one being programmed uses its fuse entry
without a valid fuse, and flash holds the list of before, in which the fused ones read as the fuses do. -/
def Heal.cut (h : Heal) (room n : Nat) : Heal :=
  let l := h.toFuse room
  let a := (l.take n).foldl Heal.fuse h
  let wasted := match l[n]? with
    | some e => if aget 0 a.fuseUsed e.1 < 2048 then amod 0 a.fuseUsed e.1 (· + 1) else a.fuseUsed
    | none => a.fuseUsed
  let done := fun (q : Nat) (d : Defect) => (l.take n).any (fun e => e.1 == q && e.2.same d)
  { a with fuseUsed := wasted
           saved := a.saved.map (fun e => (e.1, e.2.map (fun d => if done e.1 d then { d with fused := true } else d))) }

/-- The security engine with PWR_EN falling while its version advances (R491): the bits already blown stand. -/
def Security.cut (x : Security) (bits : Nat) : Security := { x with svn := min (x.svn + bits) x.fuse.1.svn }

/-- The decision of step 9 (R463 to R468): links, rows, incomplete quadrants and the state. -/
def State.decide9 (s : State) : State :=
  let checks := s.linkChecks
  let missing := missingPorts checks
  let rows := s.startRows ++ s.linkRows missing
  let a := s.mod.order.quads.foldl (fun u q => u.modQuad q (fun x => { x with complete := s.isComplete q })) s
  let b : State := { a with mod := { a.mod with
    links := checks, missing := missing, causes := rows, decision := s.turn.no % 2 ^ 32
    incomplete := s.mod.order.quads.filter (fun q => !s.isComplete q) } }
  b.setDev (readiness rows) s.mod.brakedQuads

/-- Steps 10 and 11 with PWR_EN falling in them (R470, R491): what was fused stands, nothing is written to flash, and the module
goes off. -/
def State.cutStart (s : State) (cut : FuseEnd) : State :=
  let f := s.sec.fuse
  let room := 256 - f.2
  match cut with
  | .cutVersion bits => ({ s with sec := s.sec.cut bits }).powerOff
  | .cutEntry n => ({ s with sec := f.1, heal := s.heal.cut room n }).powerOff
  | _ => ({ s with sec := f.1, heal := s.heal.cut room room }).powerOff

/-- Steps 10 and 11 (R462, R464, R479, R480): fuses, then flash: the defect list, the population record, the number of
starts, and the confirmation of a trial image where the device is not NOT_READY. -/
def State.commitStart (s : State) (totalMs fuseMs : Nat) : State :=
  let f := s.sec.fuse
  let x := f.1
  let trial := x.boot.trial && decide (x.boot.preferred = x.active) && decide (s.mod.dev ≠ .notReady)
  let h := s.heal.commit (256 - f.2)
  let all := s.mod.order.quads.flatMap s.mod.order.channels
  { s with
    sec := if trial then x.setBoot x.boot.preferred false 0 else x
    heal := { h with saved := h.defects }
    ddr := { s.ddr with record := some (all.map (fun n => (n, (s.chan n).state))) }
    mod := { s.mod with
      phase := .up, starts := satAdd 16 s.mod.starts 1, kind := if s.mod.cold then 1 else 2, totalMs := min totalMs 65535
      fuseMs := min fuseMs 65535, resetValid := s.mod.resetValid || decide (s.mod.resetLevel = 3)
      resetStatus := if s.mod.resetLevel = 3 ∧ !s.mod.resetValid then 0 else s.mod.resetStatus } }

/-- READINESS_DECISION (R462 to R468, R470): steps 9 to 11; under a chip brake there is no decision. -/
def execReadinessDecision (totalMs : Nat) (fuse : FuseEnd) (s : State) : Result3 :=
  .next (if s.mod.phase ≠ .starting ∨ s.mod.floorDone = false ∨ s.portsReady = false ∨ s.check.chipBraked then s
    else match fuse with
    | .done ms =>
      let t := s.decide9.commitStart totalMs ms
      let u := if t.mod.dev = .degraded then t.emit (.event .readinessChanged) else t
      u.rewear
    | cut => s.decide9.cutStart cut)

/-! ### Temperatures (R255, R271) -/

/-- The quadrant of a die; none for the hub. -/
def dieQuad (die : Nat) : Option Nat := if die < 8 then some (die / 2) else none

/-- CAUSE_DATA of THERMAL (Table 13.4). -/
def thermalData (die temp : Nat) : List Byte :=
  [BitVec.ofNat 8 (if die < 8 then die % 2 * 4 + die / 2 else 8), BitVec.ofNat 8 temp, 0, 0, 0, 0, 0, 0]

/-- The brake that a die at 110 °C or more engages (R271): its quadrant's, or the chip's for the hub die. -/
def State.heatBrake (s : State) (die temp : Nat) : State :=
  match dieQuad die with
  | some q =>
    if (s.quad q).braked || !s.mod.order.quads.contains q then s
    else s.brake [q] false .thermal (some (s.plainFault .thermal [q] (thermalData die temp))) []
  | none =>
    if s.check.chipBraked then s
    else s.brake [] true .thermal (some (s.plainFault .thermal [] (thermalData die temp))) []

/-- TEMP_SAMPLE (R255, R271): a sample of the nine dies; an absent quadrant's read 0 (R3). -/
def execTempSample (all : List Nat) (s : State) : Result3 :=
  .next (if !s.mod.phase.running then s
    else
      let old := s.reef
      let there := fun (i : Nat) => (dieQuad i).all (fun q => s.mod.order.quads.contains q)
      let temps := (List.range 9).map (fun i => if there i then all.getD i 0 else 0)
      let hot := (List.range 9).map (fun i =>
        let t := temps.getD i 0
        decide (105 ≤ t) || (old.hot.getD i false && decide (100 < t)))
      let now := (List.range 9).map (fun i => max (old.tempsNow.getD i 0) (temps.getD i 0))
      let a : State := { s with reef := { old with hot := hot, tempsNow := now, peak := max old.peak (temps.foldl max 0)
                                                   hotNow := old.hotNow || hot.any id } }
      (List.range 9).foldl (fun u i => if 110 ≤ temps.getD i 0 then u.heatBrake i (temps.getD i 0) else u) a)

/-! ### ALERT_N (R257, R271, R399, R431, R468, R478, R481) -/

/-- Whether ALERT_N is driven low: some cause is readable over PLDM. -/
def State.alertLow (s : State) : Bool :=
  s.mod.pgood && (s.reef.overAllowance || s.reef.hot.any id || s.check.suspect || s.heal.replaceSoon || !s.heal.moduleReplace.isEmpty ||
    s.sec.trngFail || decide (s.mod.dev = .notReady) || decide (s.mod.phase = .recovery))

end Sys2Proof.Machine
end

