-- ==== Sys2Proof/Machine/VectorOps.lean ====
section
/-! DEFINITION. The operations of the vector slot, each as the bundle that holds it alone in its slot. -/

namespace Sys2Proof.Machine

/-- VADD (R160): FP32 lane add. -/
def execVadd (site : Nat) (f : FmtV3) (k : Checks) (s : State) : Result3 :=
  .next (s.issueAt site (loneVec (.v3 .add f)) k)

/-- VSUB (R160): FP32 lane subtract. -/
def execVsub (site : Nat) (f : FmtV3) (k : Checks) (s : State) : Result3 :=
  .next (s.issueAt site (loneVec (.v3 .sub f)) k)

/-- VMUL (R160): FP32 lane multiply. -/
def execVmul (site : Nat) (f : FmtV3) (k : Checks) (s : State) : Result3 :=
  .next (s.issueAt site (loneVec (.v3 .mul f)) k)

/-- VFMA (R160): FP32 fused multiply-add. -/
def execVfma (site : Nat) (f : FmtV3) (k : Checks) (s : State) : Result3 :=
  .next (s.issueAt site (loneVec (.v3 .fma f)) k)

/-- VFMS (R160): FP32 fused multiply-subtract. -/
def execVfms (site : Nat) (f : FmtV3) (k : Checks) (s : State) : Result3 :=
  .next (s.issueAt site (loneVec (.v3 .fms f)) k)

/-- VFNMA (R160): FP32 negated fused multiply-add. -/
def execVfnma (site : Nat) (f : FmtV3) (k : Checks) (s : State) : Result3 :=
  .next (s.issueAt site (loneVec (.v3 .fnma f)) k)

/-- VMIN (R160): FP32 lane minimum. -/
def execVmin (site : Nat) (f : FmtV3) (k : Checks) (s : State) : Result3 :=
  .next (s.issueAt site (loneVec (.v3 .min f)) k)

/-- VMAX (R160): FP32 lane maximum. -/
def execVmax (site : Nat) (f : FmtV3) (k : Checks) (s : State) : Result3 :=
  .next (s.issueAt site (loneVec (.v3 .max f)) k)

/-- VABS (R160): Clear the sign bit of each lane. -/
def execVabs (site : Nat) (f : FmtV3) (k : Checks) (s : State) : Result3 :=
  .next (s.issueAt site (loneVec (.v3 .abs f)) k)

/-- VNEG (R160): Invert the sign bit of each lane. -/
def execVneg (site : Nat) (f : FmtV3) (k : Checks) (s : State) : Result3 :=
  .next (s.issueAt site (loneVec (.v3 .neg f)) k)

/-- VMOV (R160): Copy the lanes. -/
def execVmov (site : Nat) (f : FmtV3) (k : Checks) (s : State) : Result3 :=
  .next (s.issueAt site (loneVec (.v3 .mov f)) k)

/-- VRCP (R161): Correctly rounded reciprocal. -/
def execVrcp (site : Nat) (f : FmtV3) (k : Checks) (s : State) : Result3 :=
  .next (s.issueAt site (loneVec (.v3 .rcp f)) k)

/-- VRSQRT (R161): Correctly rounded reciprocal square root. -/
def execVrsqrt (site : Nat) (f : FmtV3) (k : Checks) (s : State) : Result3 :=
  .next (s.issueAt site (loneVec (.v3 .rsqrt f)) k)

/-- VSQRT (R161): Correctly rounded square root. -/
def execVsqrt (site : Nat) (f : FmtV3) (k : Checks) (s : State) : Result3 :=
  .next (s.issueAt site (loneVec (.v3 .sqrt f)) k)

/-- VEXP2 (R161): Correctly rounded 2^A. -/
def execVexp2 (site : Nat) (f : FmtV3) (k : Checks) (s : State) : Result3 :=
  .next (s.issueAt site (loneVec (.v3 .exp2 f)) k)

/-- VLOG2 (R161): Correctly rounded log2 A. -/
def execVlog2 (site : Nat) (f : FmtV3) (k : Checks) (s : State) : Result3 :=
  .next (s.issueAt site (loneVec (.v3 .log2 f)) k)

/-- VADDI (R160): Add an FP32 immediate to each lane. -/
def execVaddi (site : Nat) (f : FmtVI) (k : Checks) (s : State) : Result3 :=
  .next (s.issueAt site (loneVec (.vi .addi f)) k)

/-- VMULI (R160): Multiply each lane by an FP32 immediate. -/
def execVmuli (site : Nat) (f : FmtVI) (k : Checks) (s : State) : Result3 :=
  .next (s.issueAt site (loneVec (.vi .muli f)) k)

/-- VMOVI (R160): Write an immediate into each active lane. -/
def execVmovi (site : Nat) (f : FmtVI) (k : Checks) (s : State) : Result3 :=
  .next (s.issueAt site (loneVec (.vi .movi f)) k)

/-- VRDA (R159): Read two ACC rows into the lanes. -/
def execVrda (site : Nat) (f : FmtVA) (k : Checks) (s : State) : Result3 :=
  .next (s.issueAt site (loneVec (.va .rda f)) k)

/-- VADD_A (R159): Add B to ACC lanes. -/
def execVaddA (site : Nat) (f : FmtVA) (k : Checks) (s : State) : Result3 :=
  .next (s.issueAt site (loneVec (.va .add f)) k)

/-- VMUL_A (R159): Multiply ACC lanes by B. -/
def execVmulA (site : Nat) (f : FmtVA) (k : Checks) (s : State) : Result3 :=
  .next (s.issueAt site (loneVec (.va .mul f)) k)

/-- VFMA_A (R159): Fused ACC × B + C. -/
def execVfmaA (site : Nat) (f : FmtVA) (k : Checks) (s : State) : Result3 :=
  .next (s.issueAt site (loneVec (.va .fma f)) k)

/-- VIADD (R159): 32-bit integer lane add. -/
def execViadd (site : Nat) (f : FmtV3) (k : Checks) (s : State) : Result3 :=
  .next (s.issueAt site (loneVec (.v3 .iadd f)) k)

/-- VISUB (R159): 32-bit integer lane subtract. -/
def execVisub (site : Nat) (f : FmtV3) (k : Checks) (s : State) : Result3 :=
  .next (s.issueAt site (loneVec (.v3 .isub f)) k)

/-- VIMUL (R159): 32-bit integer lane multiply, low bits. -/
def execVimul (site : Nat) (f : FmtV3) (k : Checks) (s : State) : Result3 :=
  .next (s.issueAt site (loneVec (.v3 .imul f)) k)

/-- VAND (R159): Lane bitwise AND. -/
def execVand (site : Nat) (f : FmtV3) (k : Checks) (s : State) : Result3 :=
  .next (s.issueAt site (loneVec (.v3 .and f)) k)

/-- VOR (R159): Lane bitwise OR. -/
def execVor (site : Nat) (f : FmtV3) (k : Checks) (s : State) : Result3 :=
  .next (s.issueAt site (loneVec (.v3 .or f)) k)

/-- VXOR (R159): Lane bitwise XOR. -/
def execVxor (site : Nat) (f : FmtV3) (k : Checks) (s : State) : Result3 :=
  .next (s.issueAt site (loneVec (.v3 .xor f)) k)

/-- VSHL (R159): Lane shift left. -/
def execVshl (site : Nat) (f : FmtV3) (k : Checks) (s : State) : Result3 :=
  .next (s.issueAt site (loneVec (.v3 .shl f)) k)

/-- VSHR (R159): Lane logical shift right. -/
def execVshr (site : Nat) (f : FmtV3) (k : Checks) (s : State) : Result3 :=
  .next (s.issueAt site (loneVec (.v3 .shr f)) k)

/-- VSRA (R159): Lane arithmetic shift right. -/
def execVsra (site : Nat) (f : FmtV3) (k : Checks) (s : State) : Result3 :=
  .next (s.issueAt site (loneVec (.v3 .sra f)) k)

/-- VIMIN (R159): Lane signed integer minimum. -/
def execVimin (site : Nat) (f : FmtV3) (k : Checks) (s : State) : Result3 :=
  .next (s.issueAt site (loneVec (.v3 .imin f)) k)

/-- VIMAX (R159): Lane signed integer maximum. -/
def execVimax (site : Nat) (f : FmtV3) (k : Checks) (s : State) : Result3 :=
  .next (s.issueAt site (loneVec (.v3 .imax f)) k)

/-- VCVT_F2I (R162): Convert FP32 to INT32 with saturation. -/
def execVcvtF2i (site : Nat) (f : FmtV3) (k : Checks) (s : State) : Result3 :=
  .next (s.issueAt site (loneVec (.v3 .cvtF2I f)) k)

/-- VCVT_I2F (R162): Convert INT32 to FP32. -/
def execVcvtI2f (site : Nat) (f : FmtV3) (k : Checks) (s : State) : Result3 :=
  .next (s.issueAt site (loneVec (.v3 .cvtI2F f)) k)

/-- VUNPK (R162): Widen a narrow-format value to FP32 exactly. -/
def execVunpk (site : Nat) (f : FmtVU) (k : Checks) (s : State) : Result3 :=
  .next (s.issueAt site (loneVec (.unpk f)) k)

/-- OCVT (R166): Scale, bias, clip and convert values to a storable format, and pack them. -/
def execOcvt (site : Nat) (f : FmtOC) (k : Checks) (s : State) : Result3 :=
  .next (s.issueAt site (loneVec (.ocvt f)) k)

/-- VCMP_EQ (R163): FP32 equality compare into a mask. -/
def execVcmpEq (site : Nat) (f : FmtVC) (k : Checks) (s : State) : Result3 :=
  .next (s.issueAt site (loneVec (.cmp .eq f)) k)

/-- VCMP_LT (R163): FP32 less-than compare into a mask. -/
def execVcmpLt (site : Nat) (f : FmtVC) (k : Checks) (s : State) : Result3 :=
  .next (s.issueAt site (loneVec (.cmp .lt f)) k)

/-- VCMP_LE (R163): FP32 less-or-equal compare into a mask. -/
def execVcmpLe (site : Nat) (f : FmtVC) (k : Checks) (s : State) : Result3 :=
  .next (s.issueAt site (loneVec (.cmp .le f)) k)

/-- VCMP_UN (R163): FP32 unordered compare into a mask. -/
def execVcmpUn (site : Nat) (f : FmtVC) (k : Checks) (s : State) : Result3 :=
  .next (s.issueAt site (loneVec (.cmp .un f)) k)

/-- VICMP_EQ (R163): Integer equality compare into a mask. -/
def execVicmpEq (site : Nat) (f : FmtVC) (k : Checks) (s : State) : Result3 :=
  .next (s.issueAt site (loneVec (.cmp .ieq f)) k)

/-- VICMP_LT (R163): Signed integer compare into a mask. -/
def execVicmpLt (site : Nat) (f : FmtVC) (k : Checks) (s : State) : Result3 :=
  .next (s.issueAt site (loneVec (.cmp .ilt f)) k)

/-- VICMP_LTU (R163): Unsigned integer compare into a mask. -/
def execVicmpLtu (site : Nat) (f : FmtVC) (k : Checks) (s : State) : Result3 :=
  .next (s.issueAt site (loneVec (.cmp .iltu f)) k)

/-- VMAND (R163): Mask AND. -/
def execVmand (site : Nat) (f : FmtML) (k : Checks) (s : State) : Result3 :=
  .next (s.issueAt site (loneVec (.mlog .and f)) k)

/-- VMOR (R163): Mask OR. -/
def execVmor (site : Nat) (f : FmtML) (k : Checks) (s : State) : Result3 :=
  .next (s.issueAt site (loneVec (.mlog .or f)) k)

/-- VMXOR (R163): Mask XOR. -/
def execVmxor (site : Nat) (f : FmtML) (k : Checks) (s : State) : Result3 :=
  .next (s.issueAt site (loneVec (.mlog .xor f)) k)

/-- VRSUM (R164): Sum the active lanes in the fixed tree. -/
def execVrsum (site : Nat) (f : FmtRD) (k : Checks) (s : State) : Result3 :=
  .next (s.issueAt site (loneVec (.red .sum f)) k)

/-- VRMAX (R164): Maximum over the active lanes. -/
def execVrmax (site : Nat) (f : FmtRD) (k : Checks) (s : State) : Result3 :=
  .next (s.issueAt site (loneVec (.red .max f)) k)

/-- VRMIN (R164): Minimum over the active lanes. -/
def execVrmin (site : Nat) (f : FmtRD) (k : Checks) (s : State) : Result3 :=
  .next (s.issueAt site (loneVec (.red .min f)) k)

/-- VRARGMAX (R164): Maximum over the active lanes and its lane number. -/
def execVrargmax (site : Nat) (f : FmtRD) (k : Checks) (s : State) : Result3 :=
  .next (s.issueAt site (loneVec (.red .argmax f)) k)

/-- VLUT (R165): Look up 256-entry table entries by lane index. -/
def execVlut (site : Nat) (f : FmtLU) (k : Checks) (s : State) : Result3 :=
  .next (s.issueAt site (loneVec (.lut f)) k)

/-- SAMPLE (R167): Produce Philox4x32-10 draws keyed by stream seed and token index. -/
def execSample (site : Nat) (f : FmtSM) (k : Checks) (s : State) : Result3 :=
  .next (s.issueAt site (loneVec (.sample f)) k)

/-- VEXT (R168): Extract one lane into a scalar register. -/
def execVext (site : Nat) (f : FmtEX) (k : Checks) (s : State) : Result3 :=
  .next (s.issueAt site (loneVec (.ext f)) k)

/-- VFRD (R169): Read lane flags or matrix column flag sets. -/
def execVfrd (site : Nat) (f : FmtFL) (k : Checks) (s : State) : Result3 :=
  .next (s.issueAt site (loneVec (.frd f)) k)

/-- VFCLR (R169): Clear lane flags or matrix column flag sets. -/
def execVfclr (site : Nat) (m : VMask) (sel : BitVec 1) (k : Checks) (s : State) : Result3 :=
  .next (s.issueAt site (loneVec (.fclr m sel)) k)

end Sys2Proof.Machine
end

