-- ==== Sys2Proof/Machine/Dispatch.lean ====
section
/-! DEFINITION. The dispatch of a command to its meaning: one arm per constructor of `Instr`. -/

namespace Sys2Proof.Machine

def exec (i : Instr) (s : State) : Host.Outcome State Fault Refusal :=
  match i with
  | .turnBoundary energy vin => Sys2Proof.Machine.execTurnBoundary energy vin s
  | .workWindowStart => Sys2Proof.Machine.execWorkWindowStart s
  | .dressingWindowStart => Sys2Proof.Machine.execDressingWindowStart s
  | .closeWindowStart facts => Sys2Proof.Machine.execCloseWindowStart facts s
  | .dmaTokenCloseDeadline site xfer => Sys2Proof.Machine.execDmaTokenCloseDeadline site xfer s
  | .turnStep energy vin => Sys2Proof.Machine.execTurnStep energy vin s
  | .holdoverEnter => Sys2Proof.Machine.execHoldoverEnter s
  | .masterKeyDiscard => Sys2Proof.Machine.execMasterKeyDiscard s
  | .turnMarkReceive port m => Sys2Proof.Machine.execTurnMarkReceive port m s
  | .changeSetStaged key => Sys2Proof.Machine.execChangeSetStaged key s
  | .changeSetApply key => Sys2Proof.Machine.execChangeSetApply key s
  | .changeSetExpire key => Sys2Proof.Machine.execChangeSetExpire key s
  | .governorStage ctx => Sys2Proof.Machine.execGovernorStage ctx s
  | .bankDrainDone site bank => Sys2Proof.Machine.execBankDrainDone site bank s
  | .bankDrainTimeout site bank => Sys2Proof.Machine.execBankDrainTimeout site bank s
  | .bundleFetch site k => Sys2Proof.Machine.execBundleFetch site k s
  | .nop site slot k => Sys2Proof.Machine.execNop site slot k s
  | .sAdd site f k => Sys2Proof.Machine.execSAdd site f k s
  | .sSub site f k => Sys2Proof.Machine.execSSub site f k s
  | .sMul site f k => Sys2Proof.Machine.execSMul site f k s
  | .sMulhu site f k => Sys2Proof.Machine.execSMulhu site f k s
  | .sAnd site f k => Sys2Proof.Machine.execSAnd site f k s
  | .sOr site f k => Sys2Proof.Machine.execSOr site f k s
  | .sXor site f k => Sys2Proof.Machine.execSXor site f k s
  | .sShl site f k => Sys2Proof.Machine.execSShl site f k s
  | .sShr site f k => Sys2Proof.Machine.execSShr site f k s
  | .sSra site f k => Sys2Proof.Machine.execSSra site f k s
  | .sMin site f k => Sys2Proof.Machine.execSMin site f k s
  | .sMax site f k => Sys2Proof.Machine.execSMax site f k s
  | .sMinu site f k => Sys2Proof.Machine.execSMinu site f k s
  | .sMaxu site f k => Sys2Proof.Machine.execSMaxu site f k s
  | .sAddi site f k => Sys2Proof.Machine.execSAddi site f k s
  | .sMuli site f k => Sys2Proof.Machine.execSMuli site f k s
  | .sAndi site f k => Sys2Proof.Machine.execSAndi site f k s
  | .sOri site f k => Sys2Proof.Machine.execSOri site f k s
  | .sXori site f k => Sys2Proof.Machine.execSXori site f k s
  | .sShli site f k => Sys2Proof.Machine.execSShli site f k s
  | .sShri site f k => Sys2Proof.Machine.execSShri site f k s
  | .sSrai site f k => Sys2Proof.Machine.execSSrai site f k s
  | .sMovi site g sd imm k => Sys2Proof.Machine.execSMovi site g sd imm k s
  | .cmpEq site f k => Sys2Proof.Machine.execCmpEq site f k s
  | .cmpNe site f k => Sys2Proof.Machine.execCmpNe site f k s
  | .cmpLt site f k => Sys2Proof.Machine.execCmpLt site f k s
  | .cmpLe site f k => Sys2Proof.Machine.execCmpLe site f k s
  | .cmpLtu site f k => Sys2Proof.Machine.execCmpLtu site f k s
  | .cmpLeu site f k => Sys2Proof.Machine.execCmpLeu site f k s
  | .cmpiEq site f k => Sys2Proof.Machine.execCmpiEq site f k s
  | .cmpiNe site f k => Sys2Proof.Machine.execCmpiNe site f k s
  | .cmpiLt site f k => Sys2Proof.Machine.execCmpiLt site f k s
  | .cmpiLe site f k => Sys2Proof.Machine.execCmpiLe site f k s
  | .cmpiLtu site f k => Sys2Proof.Machine.execCmpiLtu site f k s
  | .cmpiLeu site f k => Sys2Proof.Machine.execCmpiLeu site f k s
  | .pand site f k => Sys2Proof.Machine.execPand site f k s
  | .por site f k => Sys2Proof.Machine.execPor site f k s
  | .pxor site f k => Sys2Proof.Machine.execPxor site f k s
  | .movk site f k => Sys2Proof.Machine.execMovk site f k s
  | .rdid site g sd k => Sys2Proof.Machine.execRdid site g sd k s
  | .branch site f k => Sys2Proof.Machine.execBranch site f k s
  | .call site f k => Sys2Proof.Machine.execCall site f k s
  | .jr site f k => Sys2Proof.Machine.execJr site f k s
  | .loop site f k => Sys2Proof.Machine.execLoop site f k s
  | .loopi site f k => Sys2Proof.Machine.execLoopi site f k s
  | .switchSlot site f k => Sys2Proof.Machine.execSwitchSlot site f k s
  | .reload site f k => Sys2Proof.Machine.execReload site f k s
  | .ownr site f k => Sys2Proof.Machine.execOwnr site f k s
  | .idle site f k => Sys2Proof.Machine.execIdle site f k s
  | .waitc site f k => Sys2Proof.Machine.execWaitc site f k s
  | .waitExpire site k => Sys2Proof.Machine.execWaitExpire site k s
  | .endwork site g k => Sys2Proof.Machine.execEndwork site g k s
  | .sendV site f k => Sys2Proof.Machine.execSendV site f k s
  | .sendS site f k => Sys2Proof.Machine.execSendS site f k s
  | .msendV site f k => Sys2Proof.Machine.execMsendV site f k s
  | .recvV site f k => Sys2Proof.Machine.execRecvV site f k s
  | .recvS site f k => Sys2Proof.Machine.execRecvS site f k s
  | .tpush site f k => Sys2Proof.Machine.execTpush site f k s
  | .tpushi site f k => Sys2Proof.Machine.execTpushi site f k s
  | .tpop site f k => Sys2Proof.Machine.execTpop site f k s
  | .dma site f k => Sys2Proof.Machine.execDma site f k s
  | .dmaDescriptorFetch site cycle => Sys2Proof.Machine.execDmaDescriptorFetch site cycle s
  | .dmaTransferDone site xfer cycle found => Sys2Proof.Machine.execDmaTransferDone site xfer cycle found s
  | .mldw site f k => Sys2Proof.Machine.execMldw site f k s
  | .mfeed site f k => Sys2Proof.Machine.execMfeed site f k s
  | .mmul site f k => Sys2Proof.Machine.execMmul site f k s
  | .feedTiming site => Sys2Proof.Machine.execFeedTiming site s
  | .vadd site f k => Sys2Proof.Machine.execVadd site f k s
  | .vsub site f k => Sys2Proof.Machine.execVsub site f k s
  | .vmul site f k => Sys2Proof.Machine.execVmul site f k s
  | .vfma site f k => Sys2Proof.Machine.execVfma site f k s
  | .vfms site f k => Sys2Proof.Machine.execVfms site f k s
  | .vfnma site f k => Sys2Proof.Machine.execVfnma site f k s
  | .vmin site f k => Sys2Proof.Machine.execVmin site f k s
  | .vmax site f k => Sys2Proof.Machine.execVmax site f k s
  | .vabs site f k => Sys2Proof.Machine.execVabs site f k s
  | .vneg site f k => Sys2Proof.Machine.execVneg site f k s
  | .vmov site f k => Sys2Proof.Machine.execVmov site f k s
  | .vrcp site f k => Sys2Proof.Machine.execVrcp site f k s
  | .vrsqrt site f k => Sys2Proof.Machine.execVrsqrt site f k s
  | .vsqrt site f k => Sys2Proof.Machine.execVsqrt site f k s
  | .vexp2 site f k => Sys2Proof.Machine.execVexp2 site f k s
  | .vlog2 site f k => Sys2Proof.Machine.execVlog2 site f k s
  | .vaddi site f k => Sys2Proof.Machine.execVaddi site f k s
  | .vmuli site f k => Sys2Proof.Machine.execVmuli site f k s
  | .vmovi site f k => Sys2Proof.Machine.execVmovi site f k s
  | .vrda site f k => Sys2Proof.Machine.execVrda site f k s
  | .vaddA site f k => Sys2Proof.Machine.execVaddA site f k s
  | .vmulA site f k => Sys2Proof.Machine.execVmulA site f k s
  | .vfmaA site f k => Sys2Proof.Machine.execVfmaA site f k s
  | .viadd site f k => Sys2Proof.Machine.execViadd site f k s
  | .visub site f k => Sys2Proof.Machine.execVisub site f k s
  | .vimul site f k => Sys2Proof.Machine.execVimul site f k s
  | .vand site f k => Sys2Proof.Machine.execVand site f k s
  | .vor site f k => Sys2Proof.Machine.execVor site f k s
  | .vxor site f k => Sys2Proof.Machine.execVxor site f k s
  | .vshl site f k => Sys2Proof.Machine.execVshl site f k s
  | .vshr site f k => Sys2Proof.Machine.execVshr site f k s
  | .vsra site f k => Sys2Proof.Machine.execVsra site f k s
  | .vimin site f k => Sys2Proof.Machine.execVimin site f k s
  | .vimax site f k => Sys2Proof.Machine.execVimax site f k s
  | .vcvtF2i site f k => Sys2Proof.Machine.execVcvtF2i site f k s
  | .vcvtI2f site f k => Sys2Proof.Machine.execVcvtI2f site f k s
  | .vunpk site f k => Sys2Proof.Machine.execVunpk site f k s
  | .ocvt site f k => Sys2Proof.Machine.execOcvt site f k s
  | .vcmpEq site f k => Sys2Proof.Machine.execVcmpEq site f k s
  | .vcmpLt site f k => Sys2Proof.Machine.execVcmpLt site f k s
  | .vcmpLe site f k => Sys2Proof.Machine.execVcmpLe site f k s
  | .vcmpUn site f k => Sys2Proof.Machine.execVcmpUn site f k s
  | .vicmpEq site f k => Sys2Proof.Machine.execVicmpEq site f k s
  | .vicmpLt site f k => Sys2Proof.Machine.execVicmpLt site f k s
  | .vicmpLtu site f k => Sys2Proof.Machine.execVicmpLtu site f k s
  | .vmand site f k => Sys2Proof.Machine.execVmand site f k s
  | .vmor site f k => Sys2Proof.Machine.execVmor site f k s
  | .vmxor site f k => Sys2Proof.Machine.execVmxor site f k s
  | .vrsum site f k => Sys2Proof.Machine.execVrsum site f k s
  | .vrmax site f k => Sys2Proof.Machine.execVrmax site f k s
  | .vrmin site f k => Sys2Proof.Machine.execVrmin site f k s
  | .vrargmax site f k => Sys2Proof.Machine.execVrargmax site f k s
  | .vlut site f k => Sys2Proof.Machine.execVlut site f k s
  | .sample site f k => Sys2Proof.Machine.execSample site f k s
  | .vext site f k => Sys2Proof.Machine.execVext site f k s
  | .vfrd site f k => Sys2Proof.Machine.execVfrd site f k s
  | .vfclr site m sel k => Sys2Proof.Machine.execVfclr site m sel k s
  | .vldq site f k => Sys2Proof.Machine.execVldq site f k s
  | .vldqP site f k => Sys2Proof.Machine.execVldqP site f k s
  | .vstq site f k => Sys2Proof.Machine.execVstq site f k s
  | .vstqP site f k => Sys2Proof.Machine.execVstqP site f k s
  | .vldb site f k => Sys2Proof.Machine.execVldb site f k s
  | .vldbX site f k => Sys2Proof.Machine.execVldbX site f k s
  | .vldh site f k => Sys2Proof.Machine.execVldh site f k s
  | .sld site f k => Sys2Proof.Machine.execSld site f k s
  | .sst site f k => Sys2Proof.Machine.execSst site f k s
  | .steeringCycle site cycle bad => Sys2Proof.Machine.execSteeringCycle site cycle bad s
  | .messageRelease site hop late => Sys2Proof.Machine.execMessageRelease site hop late s
  | .pondSpill site hop cycle => Sys2Proof.Machine.execPondSpill site hop cycle s
  | .pondRefill site hop cycle bad => Sys2Proof.Machine.execPondRefill site hop cycle bad s
  | .pondRefillDone site hop cycle => Sys2Proof.Machine.execPondRefillDone site hop cycle s
  | .sluiceWriteArrival site xfer cycle bad => Sys2Proof.Machine.execSluiceWriteArrival site xfer cycle bad s
  | .sluiceWriteLand site bank cycle => Sys2Proof.Machine.execSluiceWriteLand site bank cycle s
  | .sluiceAnswerArrival site xfer cycle => Sys2Proof.Machine.execSluiceAnswerArrival site xfer cycle s
  | .batchFill ctx => Sys2Proof.Machine.execBatchFill ctx s
  | .batchHeaderWrite ctx => Sys2Proof.Machine.execBatchHeaderWrite ctx s
  | .inputWindowReadDone stream uncorrectable => Sys2Proof.Machine.execInputWindowReadDone stream uncorrectable s
  | .streamEntryFetchDone stream uncorrectable => Sys2Proof.Machine.execStreamEntryFetchDone stream uncorrectable s
  | .pointerBlockArrival fn ok idx => Sys2Proof.Machine.execPointerBlockArrival fn ok idx s
  | .headraceSkip h span => Sys2Proof.Machine.execHeadraceSkip h span s
  | .unknownCommand h opc => Sys2Proof.Machine.execUnknownCommand h opc s
  | .planLoad h image home quads pipeline prevPos body => Sys2Proof.Machine.execPlanLoad h image home quads pipeline prevPos body s
  | .planLoadDone ctx => Sys2Proof.Machine.execPlanLoadDone ctx s
  | .planUnload h => Sys2Proof.Machine.execPlanUnload h s
  | .planUnloadDone ctx => Sys2Proof.Machine.execPlanUnloadDone ctx s
  | .ctxAssign h function => Sys2Proof.Machine.execCtxAssign h function s
  | .cfgStageRemap h id tiles => Sys2Proof.Machine.execCfgStageRemap h id tiles s
  | .cfgStageReefRange h id lo hi => Sys2Proof.Machine.execCfgStageReefRange h id lo hi s
  | .cfgStageVouch h id mode => Sys2Proof.Machine.execCfgStageVouch h id mode s
  | .cfgStageAudit h id quad reserve => Sys2Proof.Machine.execCfgStageAudit h id quad reserve s
  | .cfgStageGeometry h id m d c => Sys2Proof.Machine.execCfgStageGeometry h id m d c s
  | .cfgCommit h id turn => Sys2Proof.Machine.execCfgCommit h id turn s
  | .weightDigest h region => Sys2Proof.Machine.execWeightDigest h region s
  | .digestPassStart => Sys2Proof.Machine.execDigestPassStart s
  | .digestRegionDone ctx quad region => Sys2Proof.Machine.execDigestRegionDone ctx quad region s
  | .ctxAbort h => Sys2Proof.Machine.execCtxAbort h s
  | .ctxAbortDone ctx => Sys2Proof.Machine.execCtxAbortDone ctx s
  | .ctxQuery h => Sys2Proof.Machine.execCtxQuery h s
  | .ctxStart h => Sys2Proof.Machine.execCtxStart h s
  | .ctxPause h => Sys2Proof.Machine.execCtxPause h s
  | .ctxResume h => Sys2Proof.Machine.execCtxResume h s
  | .ctxDrain h flags => Sys2Proof.Machine.execCtxDrain h flags s
  | .streamOpen h id adapter priv seed kvBase kvLimit => Sys2Proof.Machine.execStreamOpen h id adapter priv seed kvBase kvLimit s
  | .streamStep h id gen flags inputCount newTokens stop inputAddr inputs => Sys2Proof.Machine.execStreamStep h id gen flags inputCount newTokens stop inputAddr inputs s
  | .streamCancel h id gen => Sys2Proof.Machine.execStreamCancel h id gen s
  | .streamTruncate h id gen position => Sys2Proof.Machine.execStreamTruncate h id gen position s
  | .streamEvict h id gen => Sys2Proof.Machine.execStreamEvict h id gen s
  | .streamEvictDone stream => Sys2Proof.Machine.execStreamEvictDone stream s
  | .streamRestore h id gen => Sys2Proof.Machine.execStreamRestore h id gen s
  | .streamRestoreDone stream uncorrectable => Sys2Proof.Machine.execStreamRestoreDone stream uncorrectable s
  | .streamClose h id gen => Sys2Proof.Machine.execStreamClose h id gen s
  | .streamQuery h id => Sys2Proof.Machine.execStreamQuery h id s
  | .ringEnable fn ring cfg => Sys2Proof.Machine.execRingEnable fn ring cfg s
  | .ringDisable fn ring cfg => Sys2Proof.Machine.execRingDisable fn ring cfg s
  | .hostAllowanceWrite value => Sys2Proof.Machine.execHostAllowanceWrite value s
  | .resetReqQuadFast key quads => Sys2Proof.Machine.execResetReqQuadFast key quads s
  | .resetReqQuadFull key quads => Sys2Proof.Machine.execResetReqQuadFull key quads s
  | .resetReqChip key => Sys2Proof.Machine.execResetReqChip key s
  | .fwStage key => Sys2Proof.Machine.execFwStage key s
  | .ownerSet key => Sys2Proof.Machine.execOwnerSet key s
  | .fwUpdateDone readBackOk => Sys2Proof.Machine.execFwUpdateDone readBackOk s
  | .registerWrite fn offset size value => Sys2Proof.Machine.execRegisterWrite fn offset size value s
  | .bar2Read offset bytes found => Sys2Proof.Machine.execBar2Read offset bytes found s
  | .bar2Write offset data poison found => Sys2Proof.Machine.execBar2Write offset data poison found s
  | .pfFlr => Sys2Proof.Machine.execPfFlr s
  | .vfFlr quad => Sys2Proof.Machine.execVfFlr quad s
  | .hotReset => Sys2Proof.Machine.execHotReset s
  | .pcieLinkDown => Sys2Proof.Machine.execPcieLinkDown s
  | .d3hotToD0 fn => Sys2Proof.Machine.execD3hotToD0 fn s
  | .perstNRise => Sys2Proof.Machine.execPerstNRise s
  | .perstNFall => Sys2Proof.Machine.execPerstNFall s
  | .pwrEnRise lowMs => Sys2Proof.Machine.execPwrEnRise lowMs s
  | .powerUpComplete => Sys2Proof.Machine.execPowerUpComplete s
  | .powerSeqTimeout => Sys2Proof.Machine.execPowerSeqTimeout s
  | .pwrEnFall => Sys2Proof.Machine.execPwrEnFall s
  | .thermtrip die => Sys2Proof.Machine.execThermtrip die s
  | .slotIdChange value => Sys2Proof.Machine.execSlotIdChange value s
  | .memoryModuleInsert channel module => Sys2Proof.Machine.execMemoryModuleInsert channel module s
  | .osfpCableInsert port milliwatts => Sys2Proof.Machine.execOsfpCableInsert port milliwatts s
  | .osfpCableRemove port => Sys2Proof.Machine.execOsfpCableRemove port s
  | .chipControllerStart incomplete => Sys2Proof.Machine.execChipControllerStart incomplete s
  | .ddrTrainingDone failed ms => Sys2Proof.Machine.execDdrTrainingDone failed ms s
  | .zeroingDone ms => Sys2Proof.Machine.execZeroingDone ms s
  | .fullDressingDone found ms => Sys2Proof.Machine.execFullDressingDone found ms s
  | .eFloorMeasured floor => Sys2Proof.Machine.execEFloorMeasured floor s
  | .readinessDecision totalMs fuseMs => Sys2Proof.Machine.execReadinessDecision totalMs fuseMs s
  | .tempSample temps => Sys2Proof.Machine.execTempSample temps s
  | .brakePtrPoll fn ok idx => Sys2Proof.Machine.execBrakePtrPoll fn ok idx s
  | .brakeRecordTimeout => Sys2Proof.Machine.execBrakeRecordTimeout s
  | .trayAllowanceSet watts => Sys2Proof.Machine.execTrayAllowanceSet watts s
  | .pldmOwnerKey digest => Sys2Proof.Machine.execPldmOwnerKey digest s
  | .pldmFwUpdate image => Sys2Proof.Machine.execPldmFwUpdate image s
  | .romRecoveryUpdate image => Sys2Proof.Machine.execRomRecoveryUpdate image s
  | .fabricManifestReceive m => Sys2Proof.Machine.execFabricManifestReceive m s
  | .manifestApply => Sys2Proof.Machine.execManifestApply s
  | .returnNonce => Sys2Proof.Machine.execReturnNonce s
  | .returnNonceExpire => Sys2Proof.Machine.execReturnNonceExpire s
  | .returnUnlock record => Sys2Proof.Machine.execReturnUnlock record s
  | .getVersion t => Sys2Proof.Machine.execGetVersion t s
  | .getCapabilities t => Sys2Proof.Machine.execGetCapabilities t s
  | .negotiateAlgorithms t mldsa87 sha3 => Sys2Proof.Machine.execNegotiateAlgorithms t mldsa87 sha3 s
  | .getDigests t => Sys2Proof.Machine.execGetDigests t s
  | .getCertificate t slot offset length => Sys2Proof.Machine.execGetCertificate t slot offset length s
  | .challenge t slot nonce => Sys2Proof.Machine.execChallenge t slot nonce s
  | .getMeasurements t index signed nonce => Sys2Proof.Machine.execGetMeasurements t index signed nonce s
  | .doeAbort => Sys2Proof.Machine.execDoeAbort s
  | .trngHealthFail => Sys2Proof.Machine.execTrngHealthFail s
  | .avdinWritePacket port p => Sys2Proof.Machine.execAvdinWritePacket port p s
  | .avdinAnswerPacket port p => Sys2Proof.Machine.execAvdinAnswerPacket port p s
  | .avdinControlPacket port p => Sys2Proof.Machine.execAvdinControlPacket port p s
  | .avdinMgmtPacket port p => Sys2Proof.Machine.execAvdinMgmtPacket port p s
  | .brakeFlitReceive port => Sys2Proof.Machine.execBrakeFlitReceive port s
  | .linkRetryTimeout port => Sys2Proof.Machine.execLinkRetryTimeout port s
  | .codewordLockLoss port => Sys2Proof.Machine.execCodewordLockLoss port s
  | .linkTrainingDone port result => Sys2Proof.Machine.execLinkTrainingDone port result s
  | .portRetryTimer port => Sys2Proof.Machine.execPortRetryTimer port s
  | .berWindowEnd port corrBits uncorrected => Sys2Proof.Machine.execBerWindowEnd port corrBits uncorrected s
  | .scrubRead channel found => Sys2Proof.Machine.execScrubRead channel found s
  | .moduleTempRead channel temp => Sys2Proof.Machine.execModuleTempRead channel temp s
  | .deadlinePassed fn ring tag => Sys2Proof.Machine.execDeadlinePassed fn ring tag s
  | .snapshotSiteCapture quad => Sys2Proof.Machine.execSnapshotSiteCapture quad s
  | .engineResetDone quad engine => Sys2Proof.Machine.execEngineResetDone quad engine s
  | .replayEnd quad => Sys2Proof.Machine.execReplayEnd quad s
  | .lateResume ctx => Sys2Proof.Machine.execLateResume ctx s
  | .hwCheckWatchEnd site => Sys2Proof.Machine.execHwCheckWatchEnd site s
  | .dressWatchEnd site item => Sys2Proof.Machine.execDressWatchEnd site item s
  | .diagnosisEnd ctx => Sys2Proof.Machine.execDiagnosisEnd ctx s
  | .replacementCopyDone quad tile poisoned => Sys2Proof.Machine.execReplacementCopyDone quad tile poisoned s
  | .quadResetDone quad failed found => Sys2Proof.Machine.execQuadResetDone quad failed found s
  | .resetEscalate level quad => Sys2Proof.Machine.execResetEscalate level quad s
  | .qcHeartbeatMiss quad => Sys2Proof.Machine.execQcHeartbeatMiss quad s
  | .hubWatchdogExpire => Sys2Proof.Machine.execHubWatchdogExpire s
  | .cycleReqTimeout => Sys2Proof.Machine.execCycleReqTimeout s
  | .broadcastReceipt quad service incomplete => Sys2Proof.Machine.execBroadcastReceipt quad service incomplete s
  | .broadcastActivate quad => Sys2Proof.Machine.execBroadcastActivate quad s
  | .wearDayEnd => Sys2Proof.Machine.execWearDayEnd s
  | .wearLogWrite => Sys2Proof.Machine.execWearLogWrite s
  | .d3hotEntry fn => Sys2Proof.Machine.execD3hotEntry fn s
  | .marchPassDone site ok => Sys2Proof.Machine.execMarchPassDone site ok s
  | .hubLockstep => Sys2Proof.Machine.execHubLockstep s

end Sys2Proof.Machine
end

