-- ==== Sys2Proof/WellFormed.lean ====
section
/-! DEFINITION. What a command's operands must be for the command to be one that the block can be given: the site,
quadrant, channel, port, hopper, bank, context or ring it names exists, and a slot's fields are ones a plan may hold. -/

namespace Sys2Proof

/-- A headrace record's header names a function and a ring (R279, R283). -/
def CmdHead.wf (h : CmdHead) : Bool := decide (h.fn < 5 ∧ h.ring < 17)

/-- The tile site that a command names. -/
def Instr.site? : Instr → Option Nat
  | .turnBoundary _ _ => none
  | .workWindowStart => none
  | .dressingWindowStart => none
  | .closeWindowStart _ => none
  | .dmaTokenCloseDeadline site _ => some site
  | .turnStep _ _ => none
  | .holdoverEnter => none
  | .masterKeyDiscard => none
  | .turnMarkReceive _ _ => none
  | .changeSetStaged _ => none
  | .changeSetApply _ => none
  | .changeSetExpire _ => none
  | .governorStage _ => none
  | .bankDrainDone site _ => some site
  | .bankDrainTimeout site _ => some site
  | .bundleFetch site _ => some site
  | .nop site _ _ => some site
  | .sAdd site _ _ => some site
  | .sSub site _ _ => some site
  | .sMul site _ _ => some site
  | .sMulhu site _ _ => some site
  | .sAnd site _ _ => some site
  | .sOr site _ _ => some site
  | .sXor site _ _ => some site
  | .sShl site _ _ => some site
  | .sShr site _ _ => some site
  | .sSra site _ _ => some site
  | .sMin site _ _ => some site
  | .sMax site _ _ => some site
  | .sMinu site _ _ => some site
  | .sMaxu site _ _ => some site
  | .sAddi site _ _ => some site
  | .sMuli site _ _ => some site
  | .sAndi site _ _ => some site
  | .sOri site _ _ => some site
  | .sXori site _ _ => some site
  | .sShli site _ _ => some site
  | .sShri site _ _ => some site
  | .sSrai site _ _ => some site
  | .sMovi site _ _ _ _ => some site
  | .cmpEq site _ _ => some site
  | .cmpNe site _ _ => some site
  | .cmpLt site _ _ => some site
  | .cmpLe site _ _ => some site
  | .cmpLtu site _ _ => some site
  | .cmpLeu site _ _ => some site
  | .cmpiEq site _ _ => some site
  | .cmpiNe site _ _ => some site
  | .cmpiLt site _ _ => some site
  | .cmpiLe site _ _ => some site
  | .cmpiLtu site _ _ => some site
  | .cmpiLeu site _ _ => some site
  | .pand site _ _ => some site
  | .por site _ _ => some site
  | .pxor site _ _ => some site
  | .movk site _ _ => some site
  | .rdid site _ _ _ => some site
  | .branch site _ _ => some site
  | .call site _ _ => some site
  | .jr site _ _ => some site
  | .loop site _ _ => some site
  | .loopi site _ _ => some site
  | .switchSlot site _ _ => some site
  | .reload site _ _ => some site
  | .ownr site _ _ => some site
  | .idle site _ _ => some site
  | .waitc site _ _ => some site
  | .waitExpire site _ => some site
  | .endwork site _ _ => some site
  | .sendV site _ _ => some site
  | .sendS site _ _ => some site
  | .msendV site _ _ => some site
  | .recvV site _ _ => some site
  | .recvS site _ _ => some site
  | .tpush site _ _ => some site
  | .tpushi site _ _ => some site
  | .tpop site _ _ => some site
  | .dma site _ _ => some site
  | .dmaDescriptorFetch site _ => some site
  | .dmaTransferDone site _ _ _ => some site
  | .mldw site _ _ => some site
  | .mfeed site _ _ => some site
  | .mmul site _ _ => some site
  | .feedTiming site => some site
  | .vadd site _ _ => some site
  | .vsub site _ _ => some site
  | .vmul site _ _ => some site
  | .vfma site _ _ => some site
  | .vfms site _ _ => some site
  | .vfnma site _ _ => some site
  | .vmin site _ _ => some site
  | .vmax site _ _ => some site
  | .vabs site _ _ => some site
  | .vneg site _ _ => some site
  | .vmov site _ _ => some site
  | .vrcp site _ _ => some site
  | .vrsqrt site _ _ => some site
  | .vsqrt site _ _ => some site
  | .vexp2 site _ _ => some site
  | .vlog2 site _ _ => some site
  | .vaddi site _ _ => some site
  | .vmuli site _ _ => some site
  | .vmovi site _ _ => some site
  | .vrda site _ _ => some site
  | .vaddA site _ _ => some site
  | .vmulA site _ _ => some site
  | .vfmaA site _ _ => some site
  | .viadd site _ _ => some site
  | .visub site _ _ => some site
  | .vimul site _ _ => some site
  | .vand site _ _ => some site
  | .vor site _ _ => some site
  | .vxor site _ _ => some site
  | .vshl site _ _ => some site
  | .vshr site _ _ => some site
  | .vsra site _ _ => some site
  | .vimin site _ _ => some site
  | .vimax site _ _ => some site
  | .vcvtF2i site _ _ => some site
  | .vcvtI2f site _ _ => some site
  | .vunpk site _ _ => some site
  | .ocvt site _ _ => some site
  | .vcmpEq site _ _ => some site
  | .vcmpLt site _ _ => some site
  | .vcmpLe site _ _ => some site
  | .vcmpUn site _ _ => some site
  | .vicmpEq site _ _ => some site
  | .vicmpLt site _ _ => some site
  | .vicmpLtu site _ _ => some site
  | .vmand site _ _ => some site
  | .vmor site _ _ => some site
  | .vmxor site _ _ => some site
  | .vrsum site _ _ => some site
  | .vrmax site _ _ => some site
  | .vrmin site _ _ => some site
  | .vrargmax site _ _ => some site
  | .vlut site _ _ => some site
  | .sample site _ _ => some site
  | .vext site _ _ => some site
  | .vfrd site _ _ => some site
  | .vfclr site _ _ _ => some site
  | .vldq site _ _ => some site
  | .vldqP site _ _ => some site
  | .vstq site _ _ => some site
  | .vstqP site _ _ => some site
  | .vldb site _ _ => some site
  | .vldbX site _ _ => some site
  | .vldh site _ _ => some site
  | .sld site _ _ => some site
  | .sst site _ _ => some site
  | .steeringCycle site _ _ => some site
  | .messageRelease site _ _ => some site
  | .pondSpill site _ _ => some site
  | .pondRefill site _ _ _ => some site
  | .pondRefillDone site _ _ => some site
  | .sluiceWriteArrival site _ _ _ => some site
  | .sluiceWriteLand site _ _ => some site
  | .sluiceAnswerArrival site _ _ => some site
  | .batchFill _ => none
  | .batchHeaderWrite _ => none
  | .inputWindowReadDone _ _ => none
  | .streamEntryFetchDone _ _ => none
  | .pointerBlockArrival _ _ _ => none
  | .headraceSkip _ _ => none
  | .unknownCommand _ _ => none
  | .planLoad _ _ _ _ _ _ _ => none
  | .planLoadDone _ => none
  | .planUnload _ => none
  | .planUnloadDone _ => none
  | .ctxAssign _ _ => none
  | .cfgStageRemap _ _ _ => none
  | .cfgStageReefRange _ _ _ _ => none
  | .cfgStageVouch _ _ _ => none
  | .cfgStageAudit _ _ _ _ => none
  | .cfgStageGeometry _ _ _ _ _ => none
  | .cfgCommit _ _ _ => none
  | .weightDigest _ _ => none
  | .digestPassStart => none
  | .digestRegionDone _ _ _ => none
  | .ctxAbort _ => none
  | .ctxAbortDone _ => none
  | .ctxQuery _ => none
  | .ctxStart _ => none
  | .ctxPause _ => none
  | .ctxResume _ => none
  | .ctxDrain _ _ => none
  | .streamOpen _ _ _ _ _ _ _ => none
  | .streamStep _ _ _ _ _ _ _ _ _ => none
  | .streamCancel _ _ _ => none
  | .streamTruncate _ _ _ _ => none
  | .streamEvict _ _ _ => none
  | .streamEvictDone _ => none
  | .streamRestore _ _ _ => none
  | .streamRestoreDone _ _ => none
  | .streamClose _ _ _ => none
  | .streamQuery _ _ => none
  | .ringEnable _ _ _ => none
  | .ringDisable _ _ _ => none
  | .hostAllowanceWrite _ => none
  | .resetReqQuadFast _ _ => none
  | .resetReqQuadFull _ _ => none
  | .resetReqChip _ => none
  | .fwStage _ => none
  | .ownerSet _ => none
  | .fwUpdateDone _ => none
  | .registerWrite _ _ _ _ => none
  | .bar2Read _ _ _ => none
  | .bar2Write _ _ _ _ => none
  | .pfFlr => none
  | .vfFlr _ => none
  | .hotReset => none
  | .pcieLinkDown => none
  | .d3hotToD0 _ => none
  | .perstNRise => none
  | .perstNFall => none
  | .pwrEnRise _ => none
  | .powerUpComplete => none
  | .powerSeqTimeout => none
  | .pwrEnFall => none
  | .thermtrip _ => none
  | .slotIdChange _ => none
  | .memoryModuleInsert _ _ => none
  | .osfpCableInsert _ _ => none
  | .osfpCableRemove _ => none
  | .chipControllerStart _ => none
  | .ddrTrainingDone _ _ => none
  | .zeroingDone _ => none
  | .fullDressingDone _ _ => none
  | .eFloorMeasured _ => none
  | .readinessDecision _ _ => none
  | .tempSample _ => none
  | .brakePtrPoll _ _ _ => none
  | .brakeRecordTimeout => none
  | .trayAllowanceSet _ => none
  | .pldmOwnerKey _ => none
  | .pldmFwUpdate _ => none
  | .romRecoveryUpdate _ => none
  | .fabricManifestReceive _ => none
  | .manifestApply => none
  | .returnNonce => none
  | .returnNonceExpire => none
  | .returnUnlock _ => none
  | .getVersion _ => none
  | .getCapabilities _ => none
  | .negotiateAlgorithms _ _ _ => none
  | .getDigests _ => none
  | .getCertificate _ _ _ _ => none
  | .challenge _ _ _ => none
  | .getMeasurements _ _ _ _ => none
  | .doeAbort => none
  | .trngHealthFail => none
  | .avdinWritePacket _ _ => none
  | .avdinAnswerPacket _ _ => none
  | .avdinControlPacket _ _ => none
  | .avdinMgmtPacket _ _ => none
  | .brakeFlitReceive _ => none
  | .linkRetryTimeout _ => none
  | .codewordLockLoss _ => none
  | .linkTrainingDone _ _ => none
  | .portRetryTimer _ => none
  | .berWindowEnd _ _ _ => none
  | .scrubRead _ _ => none
  | .moduleTempRead _ _ => none
  | .deadlinePassed _ _ _ => none
  | .snapshotSiteCapture _ => none
  | .engineResetDone _ _ => none
  | .replayEnd _ => none
  | .lateResume _ => none
  | .hwCheckWatchEnd site => some site
  | .dressWatchEnd site _ => some site
  | .diagnosisEnd _ => none
  | .replacementCopyDone _ _ _ => none
  | .quadResetDone _ _ _ => none
  | .resetEscalate _ _ => none
  | .qcHeartbeatMiss _ => none
  | .hubWatchdogExpire => none
  | .cycleReqTimeout => none
  | .broadcastReceipt _ _ _ => none
  | .broadcastActivate _ => none
  | .wearDayEnd => none
  | .wearLogWrite => none
  | .d3hotEntry _ => none
  | .marchPassDone site _ => some site
  | .hubLockstep => none

/-- The bundle that holds alone the slot operation that a command spells. -/
def Instr.bundle? : Instr → Option Bundle
  | .turnBoundary _ _ => none
  | .workWindowStart => none
  | .dressingWindowStart => none
  | .closeWindowStart _ => none
  | .dmaTokenCloseDeadline _ _ => none
  | .turnStep _ _ => none
  | .holdoverEnter => none
  | .masterKeyDiscard => none
  | .turnMarkReceive _ _ => none
  | .changeSetStaged _ => none
  | .changeSetApply _ => none
  | .changeSetExpire _ => none
  | .governorStage _ => none
  | .bankDrainDone _ _ => none
  | .bankDrainTimeout _ _ => none
  | .bundleFetch _ _ => none
  | .nop _ _ _ => none
  | .sAdd _ f _ => some { Bundle.nops with scal := .alu .add f }
  | .sSub _ f _ => some { Bundle.nops with scal := .alu .sub f }
  | .sMul _ f _ => some { Bundle.nops with scal := .alu .mul f }
  | .sMulhu _ f _ => some { Bundle.nops with scal := .alu .mulhu f }
  | .sAnd _ f _ => some { Bundle.nops with scal := .alu .and f }
  | .sOr _ f _ => some { Bundle.nops with scal := .alu .or f }
  | .sXor _ f _ => some { Bundle.nops with scal := .alu .xor f }
  | .sShl _ f _ => some { Bundle.nops with scal := .alu .shl f }
  | .sShr _ f _ => some { Bundle.nops with scal := .alu .shr f }
  | .sSra _ f _ => some { Bundle.nops with scal := .alu .sra f }
  | .sMin _ f _ => some { Bundle.nops with scal := .alu .min f }
  | .sMax _ f _ => some { Bundle.nops with scal := .alu .max f }
  | .sMinu _ f _ => some { Bundle.nops with scal := .alu .minu f }
  | .sMaxu _ f _ => some { Bundle.nops with scal := .alu .maxu f }
  | .sAddi _ f _ => some { Bundle.nops with scal := .alui .add f }
  | .sMuli _ f _ => some { Bundle.nops with scal := .alui .mul f }
  | .sAndi _ f _ => some { Bundle.nops with scal := .alui .and f }
  | .sOri _ f _ => some { Bundle.nops with scal := .alui .or f }
  | .sXori _ f _ => some { Bundle.nops with scal := .alui .xor f }
  | .sShli _ f _ => some { Bundle.nops with scal := .alui .shl f }
  | .sShri _ f _ => some { Bundle.nops with scal := .alui .shr f }
  | .sSrai _ f _ => some { Bundle.nops with scal := .alui .sra f }
  | .sMovi _ g sd imm _ => some { Bundle.nops with scal := .movi g sd imm }
  | .cmpEq _ f _ => some { Bundle.nops with scal := .cmp .eq f }
  | .cmpNe _ f _ => some { Bundle.nops with scal := .cmp .ne f }
  | .cmpLt _ f _ => some { Bundle.nops with scal := .cmp .lt f }
  | .cmpLe _ f _ => some { Bundle.nops with scal := .cmp .le f }
  | .cmpLtu _ f _ => some { Bundle.nops with scal := .cmp .ltu f }
  | .cmpLeu _ f _ => some { Bundle.nops with scal := .cmp .leu f }
  | .cmpiEq _ f _ => some { Bundle.nops with scal := .cmpi .eq f }
  | .cmpiNe _ f _ => some { Bundle.nops with scal := .cmpi .ne f }
  | .cmpiLt _ f _ => some { Bundle.nops with scal := .cmpi .lt f }
  | .cmpiLe _ f _ => some { Bundle.nops with scal := .cmpi .le f }
  | .cmpiLtu _ f _ => some { Bundle.nops with scal := .cmpi .ltu f }
  | .cmpiLeu _ f _ => some { Bundle.nops with scal := .cmpi .leu f }
  | .pand _ f _ => some { Bundle.nops with scal := .plog .and f }
  | .por _ f _ => some { Bundle.nops with scal := .plog .or f }
  | .pxor _ f _ => some { Bundle.nops with scal := .plog .xor f }
  | .movk _ f _ => some { Bundle.nops with scal := .movk f }
  | .rdid _ g sd _ => some { Bundle.nops with scal := .rdid g sd }
  | .branch _ f _ => some { Bundle.nops with scal := .br f }
  | .call _ f _ => some { Bundle.nops with scal := .call f }
  | .jr _ f _ => some { Bundle.nops with scal := .jr f }
  | .loop _ f _ => some { Bundle.nops with scal := .loop f }
  | .loopi _ f _ => some { Bundle.nops with scal := .loopi f }
  | .switchSlot _ f _ => some { Bundle.nops with scal := .switch f }
  | .reload _ f _ => some { Bundle.nops with scal := .reload f }
  | .ownr _ f _ => some { Bundle.nops with scal := .ownr f }
  | .idle _ f _ => some { Bundle.nops with scal := .idle f }
  | .waitc _ f _ => some { Bundle.nops with scal := .waitc f }
  | .waitExpire _ _ => none
  | .endwork _ g _ => some { Bundle.nops with scal := .endwork g }
  | .sendV _ f _ => some { Bundle.nops with exch := .sendV f }
  | .sendS _ f _ => some { Bundle.nops with exch := .sendS f }
  | .msendV _ f _ => some { Bundle.nops with exch := .msendV f }
  | .recvV _ f _ => some { Bundle.nops with exch := .recvV f }
  | .recvS _ f _ => some { Bundle.nops with exch := .recvS f }
  | .tpush _ f _ => some { Bundle.nops with exch := .tpush f }
  | .tpushi _ f _ => some { Bundle.nops with exch := .tpushi f }
  | .tpop _ f _ => some { Bundle.nops with exch := .tpop f }
  | .dma _ f _ => some { Bundle.nops with exch := .dma f }
  | .dmaDescriptorFetch _ _ => none
  | .dmaTransferDone _ _ _ _ => none
  | .mldw _ f _ => some { Bundle.nops with mat := .mldw f }
  | .mfeed _ f _ => some { Bundle.nops with mat := .mfeed f }
  | .mmul _ f _ => some { Bundle.nops with mat := .mmul f }
  | .feedTiming _ => none
  | .vadd _ f _ => some { Bundle.nops with vec := .v3 .add f }
  | .vsub _ f _ => some { Bundle.nops with vec := .v3 .sub f }
  | .vmul _ f _ => some { Bundle.nops with vec := .v3 .mul f }
  | .vfma _ f _ => some { Bundle.nops with vec := .v3 .fma f }
  | .vfms _ f _ => some { Bundle.nops with vec := .v3 .fms f }
  | .vfnma _ f _ => some { Bundle.nops with vec := .v3 .fnma f }
  | .vmin _ f _ => some { Bundle.nops with vec := .v3 .min f }
  | .vmax _ f _ => some { Bundle.nops with vec := .v3 .max f }
  | .vabs _ f _ => some { Bundle.nops with vec := .v3 .abs f }
  | .vneg _ f _ => some { Bundle.nops with vec := .v3 .neg f }
  | .vmov _ f _ => some { Bundle.nops with vec := .v3 .mov f }
  | .vrcp _ f _ => some { Bundle.nops with vec := .v3 .rcp f }
  | .vrsqrt _ f _ => some { Bundle.nops with vec := .v3 .rsqrt f }
  | .vsqrt _ f _ => some { Bundle.nops with vec := .v3 .sqrt f }
  | .vexp2 _ f _ => some { Bundle.nops with vec := .v3 .exp2 f }
  | .vlog2 _ f _ => some { Bundle.nops with vec := .v3 .log2 f }
  | .vaddi _ f _ => some { Bundle.nops with vec := .vi .addi f }
  | .vmuli _ f _ => some { Bundle.nops with vec := .vi .muli f }
  | .vmovi _ f _ => some { Bundle.nops with vec := .vi .movi f }
  | .vrda _ f _ => some { Bundle.nops with vec := .va .rda f }
  | .vaddA _ f _ => some { Bundle.nops with vec := .va .add f }
  | .vmulA _ f _ => some { Bundle.nops with vec := .va .mul f }
  | .vfmaA _ f _ => some { Bundle.nops with vec := .va .fma f }
  | .viadd _ f _ => some { Bundle.nops with vec := .v3 .iadd f }
  | .visub _ f _ => some { Bundle.nops with vec := .v3 .isub f }
  | .vimul _ f _ => some { Bundle.nops with vec := .v3 .imul f }
  | .vand _ f _ => some { Bundle.nops with vec := .v3 .and f }
  | .vor _ f _ => some { Bundle.nops with vec := .v3 .or f }
  | .vxor _ f _ => some { Bundle.nops with vec := .v3 .xor f }
  | .vshl _ f _ => some { Bundle.nops with vec := .v3 .shl f }
  | .vshr _ f _ => some { Bundle.nops with vec := .v3 .shr f }
  | .vsra _ f _ => some { Bundle.nops with vec := .v3 .sra f }
  | .vimin _ f _ => some { Bundle.nops with vec := .v3 .imin f }
  | .vimax _ f _ => some { Bundle.nops with vec := .v3 .imax f }
  | .vcvtF2i _ f _ => some { Bundle.nops with vec := .v3 .cvtF2I f }
  | .vcvtI2f _ f _ => some { Bundle.nops with vec := .v3 .cvtI2F f }
  | .vunpk _ f _ => some { Bundle.nops with vec := .unpk f }
  | .ocvt _ f _ => some { Bundle.nops with vec := .ocvt f }
  | .vcmpEq _ f _ => some { Bundle.nops with vec := .cmp .eq f }
  | .vcmpLt _ f _ => some { Bundle.nops with vec := .cmp .lt f }
  | .vcmpLe _ f _ => some { Bundle.nops with vec := .cmp .le f }
  | .vcmpUn _ f _ => some { Bundle.nops with vec := .cmp .un f }
  | .vicmpEq _ f _ => some { Bundle.nops with vec := .cmp .ieq f }
  | .vicmpLt _ f _ => some { Bundle.nops with vec := .cmp .ilt f }
  | .vicmpLtu _ f _ => some { Bundle.nops with vec := .cmp .iltu f }
  | .vmand _ f _ => some { Bundle.nops with vec := .mlog .and f }
  | .vmor _ f _ => some { Bundle.nops with vec := .mlog .or f }
  | .vmxor _ f _ => some { Bundle.nops with vec := .mlog .xor f }
  | .vrsum _ f _ => some { Bundle.nops with vec := .red .sum f }
  | .vrmax _ f _ => some { Bundle.nops with vec := .red .max f }
  | .vrmin _ f _ => some { Bundle.nops with vec := .red .min f }
  | .vrargmax _ f _ => some { Bundle.nops with vec := .red .argmax f }
  | .vlut _ f _ => some { Bundle.nops with vec := .lut f }
  | .sample _ f _ => some { Bundle.nops with vec := .sample f }
  | .vext _ f _ => some { Bundle.nops with vec := .ext f }
  | .vfrd _ f _ => some { Bundle.nops with vec := .frd f }
  | .vfclr _ m sel _ => some { Bundle.nops with vec := .fclr m sel }
  | .vldq _ f _ => some { Bundle.nops with ls := .vldq f }
  | .vldqP _ f _ => some { Bundle.nops with ls := .vldqP f }
  | .vstq _ f _ => some { Bundle.nops with ls := .vstq f }
  | .vstqP _ f _ => some { Bundle.nops with ls := .vstqP f }
  | .vldb _ f _ => some { Bundle.nops with ls := .vldb f }
  | .vldbX _ f _ => some { Bundle.nops with ls := .vldbX f }
  | .vldh _ f _ => some { Bundle.nops with ls := .vldh f }
  | .sld _ f _ => some { Bundle.nops with ls := .sld f }
  | .sst _ f _ => some { Bundle.nops with ls := .sst f }
  | .steeringCycle _ _ _ => none
  | .messageRelease _ _ _ => none
  | .pondSpill _ _ _ => none
  | .pondRefill _ _ _ _ => none
  | .pondRefillDone _ _ _ => none
  | .sluiceWriteArrival _ _ _ _ => none
  | .sluiceWriteLand _ _ _ => none
  | .sluiceAnswerArrival _ _ _ => none
  | .batchFill _ => none
  | .batchHeaderWrite _ => none
  | .inputWindowReadDone _ _ => none
  | .streamEntryFetchDone _ _ => none
  | .pointerBlockArrival _ _ _ => none
  | .headraceSkip _ _ => none
  | .unknownCommand _ _ => none
  | .planLoad _ _ _ _ _ _ _ => none
  | .planLoadDone _ => none
  | .planUnload _ => none
  | .planUnloadDone _ => none
  | .ctxAssign _ _ => none
  | .cfgStageRemap _ _ _ => none
  | .cfgStageReefRange _ _ _ _ => none
  | .cfgStageVouch _ _ _ => none
  | .cfgStageAudit _ _ _ _ => none
  | .cfgStageGeometry _ _ _ _ _ => none
  | .cfgCommit _ _ _ => none
  | .weightDigest _ _ => none
  | .digestPassStart => none
  | .digestRegionDone _ _ _ => none
  | .ctxAbort _ => none
  | .ctxAbortDone _ => none
  | .ctxQuery _ => none
  | .ctxStart _ => none
  | .ctxPause _ => none
  | .ctxResume _ => none
  | .ctxDrain _ _ => none
  | .streamOpen _ _ _ _ _ _ _ => none
  | .streamStep _ _ _ _ _ _ _ _ _ => none
  | .streamCancel _ _ _ => none
  | .streamTruncate _ _ _ _ => none
  | .streamEvict _ _ _ => none
  | .streamEvictDone _ => none
  | .streamRestore _ _ _ => none
  | .streamRestoreDone _ _ => none
  | .streamClose _ _ _ => none
  | .streamQuery _ _ => none
  | .ringEnable _ _ _ => none
  | .ringDisable _ _ _ => none
  | .hostAllowanceWrite _ => none
  | .resetReqQuadFast _ _ => none
  | .resetReqQuadFull _ _ => none
  | .resetReqChip _ => none
  | .fwStage _ => none
  | .ownerSet _ => none
  | .fwUpdateDone _ => none
  | .registerWrite _ _ _ _ => none
  | .bar2Read _ _ _ => none
  | .bar2Write _ _ _ _ => none
  | .pfFlr => none
  | .vfFlr _ => none
  | .hotReset => none
  | .pcieLinkDown => none
  | .d3hotToD0 _ => none
  | .perstNRise => none
  | .perstNFall => none
  | .pwrEnRise _ => none
  | .powerUpComplete => none
  | .powerSeqTimeout => none
  | .pwrEnFall => none
  | .thermtrip _ => none
  | .slotIdChange _ => none
  | .memoryModuleInsert _ _ => none
  | .osfpCableInsert _ _ => none
  | .osfpCableRemove _ => none
  | .chipControllerStart _ => none
  | .ddrTrainingDone _ _ => none
  | .zeroingDone _ => none
  | .fullDressingDone _ _ => none
  | .eFloorMeasured _ => none
  | .readinessDecision _ _ => none
  | .tempSample _ => none
  | .brakePtrPoll _ _ _ => none
  | .brakeRecordTimeout => none
  | .trayAllowanceSet _ => none
  | .pldmOwnerKey _ => none
  | .pldmFwUpdate _ => none
  | .romRecoveryUpdate _ => none
  | .fabricManifestReceive _ => none
  | .manifestApply => none
  | .returnNonce => none
  | .returnNonceExpire => none
  | .returnUnlock _ => none
  | .getVersion _ => none
  | .getCapabilities _ => none
  | .negotiateAlgorithms _ _ _ => none
  | .getDigests _ => none
  | .getCertificate _ _ _ _ => none
  | .challenge _ _ _ => none
  | .getMeasurements _ _ _ _ => none
  | .doeAbort => none
  | .trngHealthFail => none
  | .avdinWritePacket _ _ => none
  | .avdinAnswerPacket _ _ => none
  | .avdinControlPacket _ _ => none
  | .avdinMgmtPacket _ _ => none
  | .brakeFlitReceive _ => none
  | .linkRetryTimeout _ => none
  | .codewordLockLoss _ => none
  | .linkTrainingDone _ _ => none
  | .portRetryTimer _ => none
  | .berWindowEnd _ _ _ => none
  | .scrubRead _ _ => none
  | .moduleTempRead _ _ => none
  | .deadlinePassed _ _ _ => none
  | .snapshotSiteCapture _ => none
  | .engineResetDone _ _ => none
  | .replayEnd _ => none
  | .lateResume _ => none
  | .hwCheckWatchEnd _ => none
  | .dressWatchEnd _ _ => none
  | .diagnosisEnd _ => none
  | .replacementCopyDone _ _ _ => none
  | .quadResetDone _ _ _ => none
  | .resetEscalate _ _ => none
  | .qcHeartbeatMiss _ => none
  | .hubWatchdogExpire => none
  | .cycleReqTimeout => none
  | .broadcastReceipt _ _ _ => none
  | .broadcastActivate _ => none
  | .wearDayEnd => none
  | .wearLogWrite => none
  | .d3hotEntry _ => none
  | .marchPassDone _ _ => none
  | .hubLockstep => none

/-- The checks of each command's other operands. -/
def Instr.operandsWf : Instr → Bool
  | .turnBoundary _ _ => true
  | .workWindowStart => true
  | .dressingWindowStart => true
  | .closeWindowStart _ => true
  | .dmaTokenCloseDeadline _ _ => true
  | .turnStep _ _ => true
  | .holdoverEnter => true
  | .masterKeyDiscard => true
  | .turnMarkReceive port _ => decide (port < 8)
  | .changeSetStaged _ => true
  | .changeSetApply _ => true
  | .changeSetExpire _ => true
  | .governorStage ctx => decide (ctx < 16)
  | .bankDrainDone _ bank => decide (bank < 32)
  | .bankDrainTimeout _ bank => decide (bank < 32)
  | .bundleFetch _ _ => true
  | .nop _ _ _ => true
  | .sAdd _ f _ => ScalarOp.legal (.alu .add f)
  | .sSub _ f _ => ScalarOp.legal (.alu .sub f)
  | .sMul _ f _ => ScalarOp.legal (.alu .mul f)
  | .sMulhu _ f _ => ScalarOp.legal (.alu .mulhu f)
  | .sAnd _ f _ => ScalarOp.legal (.alu .and f)
  | .sOr _ f _ => ScalarOp.legal (.alu .or f)
  | .sXor _ f _ => ScalarOp.legal (.alu .xor f)
  | .sShl _ f _ => ScalarOp.legal (.alu .shl f)
  | .sShr _ f _ => ScalarOp.legal (.alu .shr f)
  | .sSra _ f _ => ScalarOp.legal (.alu .sra f)
  | .sMin _ f _ => ScalarOp.legal (.alu .min f)
  | .sMax _ f _ => ScalarOp.legal (.alu .max f)
  | .sMinu _ f _ => ScalarOp.legal (.alu .minu f)
  | .sMaxu _ f _ => ScalarOp.legal (.alu .maxu f)
  | .sAddi _ f _ => ScalarOp.legal (.alui .add f)
  | .sMuli _ f _ => ScalarOp.legal (.alui .mul f)
  | .sAndi _ f _ => ScalarOp.legal (.alui .and f)
  | .sOri _ f _ => ScalarOp.legal (.alui .or f)
  | .sXori _ f _ => ScalarOp.legal (.alui .xor f)
  | .sShli _ f _ => ScalarOp.legal (.alui .shl f)
  | .sShri _ f _ => ScalarOp.legal (.alui .shr f)
  | .sSrai _ f _ => ScalarOp.legal (.alui .sra f)
  | .sMovi _ g sd imm _ => ScalarOp.legal (.movi g sd imm)
  | .cmpEq _ f _ => ScalarOp.legal (.cmp .eq f)
  | .cmpNe _ f _ => ScalarOp.legal (.cmp .ne f)
  | .cmpLt _ f _ => ScalarOp.legal (.cmp .lt f)
  | .cmpLe _ f _ => ScalarOp.legal (.cmp .le f)
  | .cmpLtu _ f _ => ScalarOp.legal (.cmp .ltu f)
  | .cmpLeu _ f _ => ScalarOp.legal (.cmp .leu f)
  | .cmpiEq _ f _ => ScalarOp.legal (.cmpi .eq f)
  | .cmpiNe _ f _ => ScalarOp.legal (.cmpi .ne f)
  | .cmpiLt _ f _ => ScalarOp.legal (.cmpi .lt f)
  | .cmpiLe _ f _ => ScalarOp.legal (.cmpi .le f)
  | .cmpiLtu _ f _ => ScalarOp.legal (.cmpi .ltu f)
  | .cmpiLeu _ f _ => ScalarOp.legal (.cmpi .leu f)
  | .pand _ f _ => ScalarOp.legal (.plog .and f)
  | .por _ f _ => ScalarOp.legal (.plog .or f)
  | .pxor _ f _ => ScalarOp.legal (.plog .xor f)
  | .movk _ f _ => ScalarOp.legal (.movk f)
  | .rdid _ g sd _ => ScalarOp.legal (.rdid g sd)
  | .branch _ f _ => ScalarOp.legal (.br f)
  | .call _ f _ => ScalarOp.legal (.call f)
  | .jr _ f _ => ScalarOp.legal (.jr f)
  | .loop _ f _ => ScalarOp.legal (.loop f)
  | .loopi _ f _ => ScalarOp.legal (.loopi f)
  | .switchSlot _ f _ => ScalarOp.legal (.switch f)
  | .reload _ f _ => ScalarOp.legal (.reload f)
  | .ownr _ f _ => ScalarOp.legal (.ownr f)
  | .idle _ f _ => ScalarOp.legal (.idle f)
  | .waitc _ f _ => ScalarOp.legal (.waitc f)
  | .waitExpire _ _ => true
  | .endwork _ g _ => ScalarOp.legal (.endwork g)
  | .sendV _ f _ => ExchOp.legal (.sendV f)
  | .sendS _ f _ => ExchOp.legal (.sendS f)
  | .msendV _ f _ => ExchOp.legal (.msendV f)
  | .recvV _ f _ => ExchOp.legal (.recvV f)
  | .recvS _ f _ => ExchOp.legal (.recvS f)
  | .tpush _ f _ => ExchOp.legal (.tpush f)
  | .tpushi _ f _ => ExchOp.legal (.tpushi f)
  | .tpop _ f _ => ExchOp.legal (.tpop f)
  | .dma _ f _ => ExchOp.legal (.dma f)
  | .dmaDescriptorFetch _ _ => true
  | .dmaTransferDone _ _ _ _ => true
  | .mldw _ f _ => MatOp.legal (.mldw f)
  | .mfeed _ f _ => MatOp.legal (.mfeed f)
  | .mmul _ f _ => MatOp.legal (.mmul f)
  | .feedTiming _ => true
  | .vadd _ f _ => VecOp.legal (.v3 .add f)
  | .vsub _ f _ => VecOp.legal (.v3 .sub f)
  | .vmul _ f _ => VecOp.legal (.v3 .mul f)
  | .vfma _ f _ => VecOp.legal (.v3 .fma f)
  | .vfms _ f _ => VecOp.legal (.v3 .fms f)
  | .vfnma _ f _ => VecOp.legal (.v3 .fnma f)
  | .vmin _ f _ => VecOp.legal (.v3 .min f)
  | .vmax _ f _ => VecOp.legal (.v3 .max f)
  | .vabs _ f _ => VecOp.legal (.v3 .abs f)
  | .vneg _ f _ => VecOp.legal (.v3 .neg f)
  | .vmov _ f _ => VecOp.legal (.v3 .mov f)
  | .vrcp _ f _ => VecOp.legal (.v3 .rcp f)
  | .vrsqrt _ f _ => VecOp.legal (.v3 .rsqrt f)
  | .vsqrt _ f _ => VecOp.legal (.v3 .sqrt f)
  | .vexp2 _ f _ => VecOp.legal (.v3 .exp2 f)
  | .vlog2 _ f _ => VecOp.legal (.v3 .log2 f)
  | .vaddi _ f _ => VecOp.legal (.vi .addi f)
  | .vmuli _ f _ => VecOp.legal (.vi .muli f)
  | .vmovi _ f _ => VecOp.legal (.vi .movi f)
  | .vrda _ f _ => VecOp.legal (.va .rda f)
  | .vaddA _ f _ => VecOp.legal (.va .add f)
  | .vmulA _ f _ => VecOp.legal (.va .mul f)
  | .vfmaA _ f _ => VecOp.legal (.va .fma f)
  | .viadd _ f _ => VecOp.legal (.v3 .iadd f)
  | .visub _ f _ => VecOp.legal (.v3 .isub f)
  | .vimul _ f _ => VecOp.legal (.v3 .imul f)
  | .vand _ f _ => VecOp.legal (.v3 .and f)
  | .vor _ f _ => VecOp.legal (.v3 .or f)
  | .vxor _ f _ => VecOp.legal (.v3 .xor f)
  | .vshl _ f _ => VecOp.legal (.v3 .shl f)
  | .vshr _ f _ => VecOp.legal (.v3 .shr f)
  | .vsra _ f _ => VecOp.legal (.v3 .sra f)
  | .vimin _ f _ => VecOp.legal (.v3 .imin f)
  | .vimax _ f _ => VecOp.legal (.v3 .imax f)
  | .vcvtF2i _ f _ => VecOp.legal (.v3 .cvtF2I f)
  | .vcvtI2f _ f _ => VecOp.legal (.v3 .cvtI2F f)
  | .vunpk _ f _ => VecOp.legal (.unpk f)
  | .ocvt _ f _ => VecOp.legal (.ocvt f)
  | .vcmpEq _ f _ => VecOp.legal (.cmp .eq f)
  | .vcmpLt _ f _ => VecOp.legal (.cmp .lt f)
  | .vcmpLe _ f _ => VecOp.legal (.cmp .le f)
  | .vcmpUn _ f _ => VecOp.legal (.cmp .un f)
  | .vicmpEq _ f _ => VecOp.legal (.cmp .ieq f)
  | .vicmpLt _ f _ => VecOp.legal (.cmp .ilt f)
  | .vicmpLtu _ f _ => VecOp.legal (.cmp .iltu f)
  | .vmand _ f _ => VecOp.legal (.mlog .and f)
  | .vmor _ f _ => VecOp.legal (.mlog .or f)
  | .vmxor _ f _ => VecOp.legal (.mlog .xor f)
  | .vrsum _ f _ => VecOp.legal (.red .sum f)
  | .vrmax _ f _ => VecOp.legal (.red .max f)
  | .vrmin _ f _ => VecOp.legal (.red .min f)
  | .vrargmax _ f _ => VecOp.legal (.red .argmax f)
  | .vlut _ f _ => VecOp.legal (.lut f)
  | .sample _ f _ => VecOp.legal (.sample f)
  | .vext _ f _ => VecOp.legal (.ext f)
  | .vfrd _ f _ => VecOp.legal (.frd f)
  | .vfclr _ m sel _ => VecOp.legal (.fclr m sel)
  | .vldq _ f _ => LsOp.legal (.vldq f)
  | .vldqP _ f _ => LsOp.legal (.vldqP f)
  | .vstq _ f _ => LsOp.legal (.vstq f)
  | .vstqP _ f _ => LsOp.legal (.vstqP f)
  | .vldb _ f _ => LsOp.legal (.vldb f)
  | .vldbX _ f _ => LsOp.legal (.vldbX f)
  | .vldh _ f _ => LsOp.legal (.vldh f)
  | .sld _ f _ => LsOp.legal (.sld f)
  | .sst _ f _ => LsOp.legal (.sst f)
  | .steeringCycle _ _ _ => true
  | .messageRelease _ _ _ => true
  | .pondSpill _ hop _ => decide (hop < 4)
  | .pondRefill _ hop _ _ => decide (hop < 4)
  | .pondRefillDone _ hop _ => decide (hop < 4)
  | .sluiceWriteArrival _ _ _ _ => true
  | .sluiceWriteLand _ bank _ => decide (bank < 32)
  | .sluiceAnswerArrival _ _ _ => true
  | .batchFill ctx => decide (ctx < 16)
  | .batchHeaderWrite ctx => decide (ctx < 16)
  | .inputWindowReadDone stream _ => decide (stream < 2 ^ 24)
  | .streamEntryFetchDone stream _ => decide (stream < 2 ^ 24)
  | .pointerBlockArrival fn _ _ => decide (fn < 5)
  | .headraceSkip h _ => h.wf
  | .unknownCommand h _ => h.wf
  | .planLoad h _ _ _ _ _ _ => h.wf
  | .planLoadDone ctx => decide (ctx < 16)
  | .planUnload h => h.wf
  | .planUnloadDone ctx => decide (ctx < 16)
  | .ctxAssign h _ => h.wf
  | .cfgStageRemap h _ _ => h.wf
  | .cfgStageReefRange h _ _ _ => h.wf
  | .cfgStageVouch h _ _ => h.wf
  | .cfgStageAudit h _ _ _ => h.wf
  | .cfgStageGeometry h _ _ _ _ => h.wf
  | .cfgCommit h _ _ => h.wf
  | .weightDigest h _ => h.wf
  | .digestPassStart => true
  | .digestRegionDone ctx quad _ => decide (ctx < 16) && decide (quad < 4)
  | .ctxAbort h => h.wf
  | .ctxAbortDone ctx => decide (ctx < 16)
  | .ctxQuery h => h.wf
  | .ctxStart h => h.wf
  | .ctxPause h => h.wf
  | .ctxResume h => h.wf
  | .ctxDrain h _ => h.wf
  | .streamOpen h _ _ _ _ _ _ => h.wf
  | .streamStep h _ _ _ _ _ _ _ _ => h.wf
  | .streamCancel h _ _ => h.wf
  | .streamTruncate h _ _ _ => h.wf
  | .streamEvict h _ _ => h.wf
  | .streamEvictDone stream => decide (stream < 2 ^ 24)
  | .streamRestore h _ _ => h.wf
  | .streamRestoreDone stream _ => decide (stream < 2 ^ 24)
  | .streamClose h _ _ => h.wf
  | .streamQuery h _ => h.wf
  | .ringEnable fn ring _ => decide (fn < 5) && decide (ring < 17)
  | .ringDisable fn ring _ => decide (fn < 5) && decide (ring < 17)
  | .hostAllowanceWrite _ => true
  | .resetReqQuadFast _ _ => true
  | .resetReqQuadFull _ _ => true
  | .resetReqChip _ => true
  | .fwStage _ => true
  | .ownerSet _ => true
  | .fwUpdateDone _ => true
  | .registerWrite fn _ _ _ => decide (fn < 5)
  | .bar2Read _ _ _ => true
  | .bar2Write _ _ _ _ => true
  | .pfFlr => true
  | .vfFlr quad => decide (quad < 4)
  | .hotReset => true
  | .pcieLinkDown => true
  | .d3hotToD0 fn => decide (fn < 5)
  | .perstNRise => true
  | .perstNFall => true
  | .pwrEnRise _ => true
  | .powerUpComplete => true
  | .powerSeqTimeout => true
  | .pwrEnFall => true
  | .thermtrip die => decide (die < 9)
  | .slotIdChange _ => true
  | .memoryModuleInsert channel _ => decide (channel < 64)
  | .osfpCableInsert port _ => decide (port < 8)
  | .osfpCableRemove port => decide (port < 8)
  | .chipControllerStart _ => true
  | .ddrTrainingDone _ _ => true
  | .zeroingDone _ => true
  | .fullDressingDone _ _ => true
  | .eFloorMeasured _ => true
  | .readinessDecision _ _ => true
  | .tempSample _ => true
  | .brakePtrPoll fn _ _ => decide (fn < 5)
  | .brakeRecordTimeout => true
  | .trayAllowanceSet _ => true
  | .pldmOwnerKey _ => true
  | .pldmFwUpdate _ => true
  | .romRecoveryUpdate _ => true
  | .fabricManifestReceive _ => true
  | .manifestApply => true
  | .returnNonce => true
  | .returnNonceExpire => true
  | .returnUnlock _ => true
  | .getVersion _ => true
  | .getCapabilities _ => true
  | .negotiateAlgorithms _ _ _ => true
  | .getDigests _ => true
  | .getCertificate _ _ _ _ => true
  | .challenge _ _ _ => true
  | .getMeasurements _ _ _ _ => true
  | .doeAbort => true
  | .trngHealthFail => true
  | .avdinWritePacket port _ => decide (port < 8)
  | .avdinAnswerPacket port _ => decide (port < 8)
  | .avdinControlPacket port _ => decide (port < 8)
  | .avdinMgmtPacket port _ => decide (port < 8)
  | .brakeFlitReceive port => decide (port < 8)
  | .linkRetryTimeout port => decide (port < 8)
  | .codewordLockLoss port => decide (port < 8)
  | .linkTrainingDone port _ => decide (port < 8)
  | .portRetryTimer port => decide (port < 8)
  | .berWindowEnd port _ _ => decide (port < 8)
  | .scrubRead channel _ => decide (channel < 64)
  | .moduleTempRead channel _ => decide (channel < 64)
  | .deadlinePassed fn ring _ => decide (fn < 5) && decide (ring < 17)
  | .snapshotSiteCapture quad => decide (quad < 4)
  | .engineResetDone quad _ => decide (quad < 4)
  | .replayEnd quad => decide (quad < 4)
  | .lateResume ctx => decide (ctx < 16)
  | .hwCheckWatchEnd _ => true
  | .dressWatchEnd _ _ => true
  | .diagnosisEnd ctx => decide (ctx < 16)
  | .replacementCopyDone quad _ _ => decide (quad < 4)
  | .quadResetDone quad _ _ => decide (quad < 4)
  | .resetEscalate _ quad => decide (quad < 4)
  | .qcHeartbeatMiss quad => decide (quad < 4)
  | .hubWatchdogExpire => true
  | .cycleReqTimeout => true
  | .broadcastReceipt quad _ _ => decide (quad < 4)
  | .broadcastActivate quad => decide (quad.quad < 4)
  | .wearDayEnd => true
  | .wearLogWrite => true
  | .d3hotEntry fn => decide (fn < 5)
  | .marchPassDone _ _ => true
  | .hubLockstep => true

/-- The site a command names is one of the 2,304. -/
def Instr.siteWf (i : Instr) : Bool :=
  match i.site? with
  | some n => decide (n < 4 * Config.sitesPerQuad)
  | none => true

/-- A well-formed command. -/
def Instr.wf (i : Instr) : Bool := i.siteWf && i.operandsWf

end Sys2Proof
end

