-- ==== Sys2Proof/Safety.lean ====
section
/-! DEFINITION. The terms in which statements speak of the block: what a step may touch, when a site can issue, what a
bundle finds, and the state that every run keeps in form. -/

namespace Sys2Proof.Machine

/-! ### A site that issues -/

/-- Nothing of an earlier bundle is in flight at a site, and no loop is open. -/
def Site.idle (a : Site) : Bool :=
  a.seq.landings.isEmpty && a.mat.feeds.isEmpty && a.mat.loads.isEmpty && a.reload.isNone && a.seq.loops.isEmpty

/-- Site `i` runs, its next bundle lies in the slot, and its issue cycle lies in the work window. -/
def State.atIssue (s : State) (i : Nat) : Bool :=
  let a := s.site i
  decide (a.seq.status = .running) && decide (a.seq.pc ≤ 1023) && decide (a.seq.next < s.turn.geom.work) &&
  decide (a.seq.clock ≤ a.seq.next)

/-- Site `i` runs with nothing in flight. -/
def State.canIssue (s : State) (i : Nat) : Bool := s.atIssue i && (s.site i).idle

/-- The cycle in which site `i` issues its next bundle. -/
def State.issueCycle (s : State) (i : Nat) : Nat := (s.site i).seq.next

/-- Site `i` as a bundle that issues in cycle `c` finds it: what is due by then has landed (R120). -/
def State.seen (t : State) (i c : Nat) : Site := ((t.site i).settle c).arrive c

/-! ### What a command leaves alone -/

/-- The counters of a quadrant's pages fit their widths (Tables 8.6, 13.17). -/
def Quad.countersFit (x : Quad) : Bool :=
  decide (x.recvStalls < 2 ^ 32) && decide (x.steerStalls < 2 ^ 32) && decide (x.corrWords < 2 ^ 32) &&
  decide (x.lockstep < 2 ^ 16) && decide (x.residue < 2 ^ 16) && decide (x.eccUe < 2 ^ 16) && decide (x.steerTrunc < 2 ^ 32)

/-- Nothing outside site `i` changed: not another site, not a quadrant, not any other part of the module. -/
def OnlySite (s t : State) (i : Nat) : Prop :=
  t = { s with sites := t.sites, quads := t.quads } ∧ (∀ j, j ≠ i → t.site j = s.site j) ∧
  (∀ q, (s.quad q).countersFit = true → t.quad q = s.quad q)

/-- Of the sites only `i` changed, and beside the sites and quadrants nothing. -/
def OnlySiteX (s t : State) (i : Nat) : Prop :=
  t = { s with sites := t.sites, quads := t.quads } ∧ ∀ j, j ≠ i → t.site j = s.site j

/-- The site moved to its next bundle in the next cycle, and only its sequencer and `t.site i`'s given parts moved. -/
def Moved (s t : State) (i : Nat) : Prop :=
  OnlySite s t i ∧ (t.site i).seq.pc = (s.site i).seq.pc + 1 ∧ (t.site i).seq.next = s.issueCycle i + 1 ∧
  (t.site i).seq.status = .running

/-- `c` runs and puts `v` into scalar register `r` as a bundle `lat` cycles later finds it; every other scalar register,
every predicate and loop counter, and every other part of the site stays; `u` is the site with what the bundle's access
notes of the scratchpad's ports. -/
def WritesS (s : State) (i : Nat) (c : Instr) (r lat : Nat) (v : Word) (u : Site := s.site i) : Prop :=
  ∃ t, exec c s = .next t ∧ Moved s t i ∧
    (let a := t.seen i (s.issueCycle i + lat)
     a.sreg r = v ∧ (∀ q, q ≠ r → a.sreg q = (s.site i).sreg q) ∧ (∀ q, a.preg q = (s.site i).preg q) ∧
     (∀ q, a.kreg q = (s.site i).kreg q) ∧ a = { u with seq := a.seq })

/-- `c` runs and puts `v` into predicate `r` as the next bundle finds it, unless `r` is P0, which reads 1 always; nothing
else of the site changes. -/
def WritesP (s : State) (i : Nat) (c : Instr) (r : Nat) (v : Bool) : Prop :=
  ∃ t, exec c s = .next t ∧ Moved s t i ∧
    (let a := t.seen i (s.issueCycle i + 1)
     a.preg r = (if r = 0 then true else v) ∧ (∀ q, q ≠ r → a.preg q = (s.site i).preg q) ∧
     (∀ q, a.sreg q = (s.site i).sreg q) ∧ (∀ q, a.kreg q = (s.site i).kreg q) ∧ a = { s.site i with seq := a.seq })

/-- Two sites whose registers and masks hold the same. -/
def Site.sameRegs (a b : Site) : Prop :=
  (∀ q, a.sreg q = b.sreg q) ∧ (∀ q, a.preg q = b.preg q) ∧ (∀ q, a.kreg q = b.kreg q) ∧ (∀ q, a.vreg q = b.vreg q) ∧
  (∀ q, a.vmreg q = b.vmreg q)

/-- `c` runs and `lat` cycles later lane `l` of V`r` is `new l` and lane `l`'s flags have `fl l` ORed in, for every lane;
every other register and every other part of the site stays; `u` is as for `WritesS`. -/
def ChangesV (s : State) (i : Nat) (c : Instr) (lat r : Nat) (new : Nat → Lane) (fl : Nat → BitVec 5)
    (u : Site := s.site i) : Prop :=
  ∃ t, exec c s = .next t ∧ Moved s t i ∧
    (let b := s.site i
     let a := t.seen i (s.issueCycle i + lat)
     (∀ l, l < 64 → laneAt (a.vreg r) l = new l ∧ a.laneFlags l = b.laneFlags l ||| fl l) ∧
     (∀ q, q ≠ r → a.vreg q = b.vreg q) ∧ (∀ q, a.vmreg q = b.vmreg q) ∧ (∀ q, a.sreg q = b.sreg q) ∧
     (∀ q, a.preg q = b.preg q) ∧ (∀ q, a.kreg q = b.kreg q) ∧ a = { u with seq := a.seq, vec := a.vec })

/-- A lane's result: its bits, its flags, and whether an operand carries poison. -/
abbrev LaneFn := Nat → Word × BitVec 5 × Bool

/-- Four cycles after `c` every active lane of V`r` holds its result and carries poison exactly where an operand did (R195:
the bits are then undefined and no flag is set), with its flags ORed in; every inactive lane stays (R149). -/
def WritesV (s : State) (i : Nat) (c : Instr) (m : VMask) (r : Nat) (f : LaneFn) : Prop :=
  ChangesV s i c 4 r
    (fun l => if (s.site i).active m l then
        { bits := if (f l).2.2 then Config.poisonedBits (s.site i).seq.epoch (s.issueCycle i) l else (f l).1
          poison := (f l).2.2 }
      else laneAt ((s.site i).vreg r) l)
    (fun l => if (s.site i).active m l && !(f l).2.2 then (f l).2.1 else 0)

/-- `c` runs and four cycles later mask VM`r` holds `v`, unless it is VM0, which reads all ones; each lane's flags have
`fl` ORed in, and nothing else of the site changes. -/
def WritesVM (s : State) (i : Nat) (c : Instr) (r : Nat) (v : DWord) (fl : Nat → BitVec 5) : Prop :=
  ∃ t, exec c s = .next t ∧ Moved s t i ∧
    (let b := s.site i
     let a := t.seen i (s.issueCycle i + 4)
     a.vmreg r = (if r = 0 then BitVec.allOnes 64 else v) ∧ (∀ q, q ≠ r → a.vmreg q = b.vmreg q) ∧
     (∀ l, l < 64 → a.laneFlags l = b.laneFlags l ||| fl l) ∧ (∀ q, a.vreg q = b.vreg q) ∧ (∀ q, a.sreg q = b.sreg q) ∧
     (∀ q, a.preg q = b.preg q) ∧ (∀ q, a.kreg q = b.kreg q) ∧ a = { b with seq := a.seq, vec := a.vec })

/-- The value at the root of a fixed tree: level `k + 1` combines neighbours of level `k`, collecting flags (R164, R188). -/
def treeValue (g : Word → Word → Word × BitVec 5) (leaf : Nat → Word × BitVec 5) : (levels place : Nat) → Word × BitVec 5
  | 0, p => leaf p
  | k + 1, p =>
    let a := treeValue g leaf k (2 * p)
    let b := treeValue g leaf k (2 * p + 1)
    ((g a.1 b.1).1, (g a.1 b.1).2 ||| a.2 ||| b.2)

/-- `c` does not perform its operation: the site records the fault and issues nothing more in the turn (R101). `u` is the
site with what the bundle's access notes of the scratchpad's ports. -/
def StopsWith (s : State) (i : Nat) (c : Instr) (cause : Cause) (detail : Nat) (u : Site := s.site i) : Prop :=
  ∃ t, exec c s = .next t ∧ OnlySite s t i ∧ (t.site i).seq.status = .stopped (s.issueCycle i) ∧
    ((t.site i).seq.pc = (s.site i).seq.pc ∨ (t.site i).seq.pc = (s.site i).seq.pc + 1) ∧
    (t.site i).faults.map (fun e => (e.cause, e.detail, e.cycle, e.pc)) =
      (s.site i).faults.map (fun e => (e.cause, e.detail, e.cycle, e.pc)) ++
        [(cause, detail, s.issueCycle i, (s.site i).seq.pc)] ∧
    t.site i = { u with seq := (t.site i).seq, faults := (t.site i).faults, ex := (t.site i).ex } ∧
    ∀ n, (t.seen i n).sameRegs (s.site i)

/-- `c` runs and the 64-byte or narrower store changes bytes `a` to `a + n − 1` alone, to what `bytes` gives from `a` on;
the poison mark of 64-byte word `a / 64` becomes `p`, every other mark stays, and so does every register; the site notes
the access to the bank. -/
def Stores (s : State) (i : Nat) (c : Instr) (a n : Nat) (bytes : Nat → Byte) (p : Bool) : Prop :=
  ∃ t, exec c s = .next t ∧ Moved s t i ∧
    (∀ x, (t.site i).scr.byte x = if a ≤ x ∧ x < a + n then bytes (x - a) else (s.site i).scr.byte x) ∧
    (∀ w, (t.site i).scr.isPoisoned w = if w = a / 64 then p else (s.site i).scr.isPoisoned w) ∧
    (∀ k, (t.seen i k).sameRegs (s.site i)) ∧
    t.site i = { (s.site i).touch (s.issueCycle i) (bankOf a) with seq := (t.site i).seq, scr := (t.site i).scr }

/-! ### The turn -/

/-- The first cycle after a window (Table 1.1). -/
def Geometry.windowEnd (g : Geometry) : Window → Nat
  | .intake => g.start .work
  | .work => g.start .dressing
  | .dressing => g.start .close
  | .close => g.cycles

/-! ### Commands of the rings -/

/-- The record of a command is read from its ring, and no refusal that every command shares applies to it (R286, R516),
the command's own ranges and the legal states apart. -/
def State.reads (s : State) (h : CmdHead) (opc : Nat) (k : RingKind) (named : Bool) : Prop :=
  s.frame h.fn h.ring h.units h.readOk = .read ∧ s.refusal h opc k named false true = none

/-- The outstanding command that an accepted record becomes; a DEADLINE of 0 selects the default (R300). -/
def outstanding (h : CmdHead) (opc arg default_ : Nat) : Cmd :=
  { fn := h.fn, ring := h.ring, opc := opc, ctx := h.ctx, tag := h.tag, arg := arg,
    deadline := if h.deadline = 0 then default_ else h.deadline, elapsed := 0 }

/-- The headrace position passes over the record, and no other ring changes (R286). -/
def Taken (s t : State) (h : CmdHead) : Prop :=
  (t.ring h.fn h.ring).hrCons = ((s.ring h.fn h.ring).hrCons + h.units) % 2 ^ 32 ∧ t.readUnits = s.readUnits + h.units ∧
    ∀ f r, f ≠ h.fn ∨ r ≠ h.ring → t.ring f r = s.ring f r

/-- The record is taken, and its command is outstanding as the last of them; its ring gains no record. -/
def Accepts (s t : State) (h : CmdHead) (c : Cmd) : Prop :=
  Taken s t h ∧ t.cmds = s.cmds ++ [c] ∧ (t.ring h.fn h.ring).due = (s.ring h.fn h.ring).due

/-- The record is taken, and its command completes at once: a completion with its tag, a status and a result becomes the
last record that the ring owes its tailrace, under the ring's next SEQ (R290, R294, R301). -/
def Completes (s t : State) (h : CmdHead) (opc : Nat) (st : Status) (res : List Byte) : Prop :=
  Taken s t h ∧ t.cmds = s.cmds ∧
    (t.ring h.fn h.ring).due = (s.ring h.fn h.ring).due ++
      [{ type := 1, units := if opc = 0x06 then 2 else 1, seq := nextSeq (s.ring h.fn h.ring).seq, turn := s.turn.no,
         body := completionBody (headRef h opc) st res }]

/-- Nothing changes but a context, the rings and the outstanding commands. -/
def OnlyCtx (s t : State) (c : Nat) : Prop :=
  t = { s with ctxs := t.ctxs, fns := t.fns, cmds := t.cmds, readUnits := t.readUnits } ∧ ∀ k, k ≠ c → t.ctx k = s.ctx k

/-- Nothing changes but the rings and the outstanding commands. -/
def OnlyRings (s t : State) : Prop := t = { s with fns := t.fns, cmds := t.cmds, readUnits := t.readUnits }

/-! ### What every run keeps -/

/-- Every scratchpad and every DDR memory is in canonical form. -/
def MemoriesCanonical (s : State) : Prop :=
  (∀ i, (s.site i).scr.wf = true) ∧ (∀ q, (s.ddr.memory q).wf = true)

end Sys2Proof.Machine
end

