-- ==== Sys2Proof/Certificates/Slice0/Obligations.lean ====
section
/-! DEFINITION. The statements made about the block, for the provers. -/

open Sys2Proof Sys2Proof.Machine

/-! ### The queue of commands -/

/-- A step takes the command at the front of the queue and runs its meaning with the rest of the queue. -/
def Obligations.StepRunsFrontCommand : Prop :=
  ∀ (c : Instr) (l : List Instr) (s : State), step { s with pending := c :: l } = exec c { s with pending := l }

/-- Every command but a bundle fetch, the end of a wait and the rise of PWR_EN answers a next state in every state; those
three do too unless the bundle fetched is none that a plan may hold, or PWR_EN was low for less than 250 ms. With an empty
queue the arithmetic clock goes one cycle on, within the window, once the readiness decision has started the turns (the
model's choice, log 10; a DOE exchange that waits is answered then). -/
def Obligations.CommandsComplete : Prop :=
  (∀ (c : Instr) (s : State),
    (∃ t, exec c s = .next t) ∨
    (∃ i k, (c = .bundleFetch i k ∨ c = .waitExpire i k) ∧ exec c s = .fault (.undefinedBundle i (s.site i).seq.pc) ∧
      ∀ b, decodeBundle (s.site i).fetched = some b → b.legal = false) ∨
    (∃ ms, c = .pwrEnRise ms ∧ ms < 250 ∧ exec c s = .fault (.powerCycleTooShort ms))) ∧
  (∀ s : State, s.pending = [] → ∃ t, step s = .next t ∧
    t.turn.cycle = (if s.turn.running && decide (s.turn.cycle + 1 < s.turn.geom.windowEnd s.turn.window) then s.turn.cycle + 1
                    else s.turn.cycle) ∧
    t.turn.window = s.turn.window ∧ t.turn.no = s.turn.no ∧ t.sites = s.sites ∧ t.ctxs = s.ctxs ∧ t.quads = s.quads ∧
    t.ddr = s.ddr ∧ t.fns = s.fns)

/-! ### Encodings -/

/-- Every bundle whose fields a plan may hold is decoded from its encoding (R117, R118). Every word that decodes to a bundle
is that bundle's encoding, so no bit of a bundle is dropped and no two bundles share an encoding. -/
def Obligations.BundleRoundTrip : Prop :=
  (∀ b : Bundle, b.legal = true → decodeBundle (encodeBundle b) = some b) ∧
  (∀ (w : BitVec 256) (b : Bundle), decodeBundle w = some b → encodeBundle b = w)

/-- Bundles written out from Tables 4.1 to 5.10 decode to the operations that the tables name: an ADD, a RECV.V, a VLDQ, an
MLDW and a VFMA. -/
def Obligations.WrittenWordsDecode : Prop :=
  decodeScalar 0x01000040C0000000 = none ∧
  decodeScalar (0x01 * 2 ^ 48 + 0 * 2 ^ 44 + 3 * 2 ^ 39 + 4 * 2 ^ 34 + 5 * 2 ^ 29) = some (.alu .add { g := 0, sd := 3, sa := 4, sb := 5 }) ∧
  decodeExch (0x08 * 2 ^ 48 + 2 * 2 ^ 44 + 6 * 2 ^ 39 + 7 * 2 ^ 34 + 1 * 2 ^ 32) = some (.recvV { g := 2, d := 6, sst := 7, hop := 1 }) ∧
  decodeLs (0x01 * 2 ^ 32 + 9 * 2 ^ 23 + 3 * 2 ^ 21 + 10 * 2 ^ 16 + 77) = some (.vldq { g := 0, vd := 9, q := 3, sa := 10, off := 77 }) ∧
  decodeMat (0x01 * 2 ^ 32 + 1 * 2 ^ 27 + 4 * 2 ^ 24 + 11 * 2 ^ 19) = some (.mldw { g := 0, wb := 1, fmt := 4, sa := 11 }) ∧
  decodeVec (0x04 * 2 ^ 56 + 1 * 2 ^ 53 + 1 * 2 ^ 52 + 2 * 2 ^ 47 + 3 * 2 ^ 42 + 4 * 2 ^ 37 + 5 * 2 ^ 32 + 1 * 2 ^ 31) =
    some (.v3 .fma { m := { mask := 1, minv := 1 }, vd := 2, va := 3, vb := 4, vc := 5, bs := 1, cs := 0 })

/-! ### The scalar and control slot -/

/-- The register operations of the scalar slot (R126, Table 4.3), modulo 2^32, one cycle after issue and two for the
multiplies; a shift uses bits 4 to 0 of its amount. The immediate operations of the scalar slot (Table 4.3); the shifts'
amounts are below 32 in every plan. The compares write a predicate one cycle after issue (Table 4.3); a write to P0 has no
effect, and P0 reads 1 (R126). Predicate logic with either input inverted, MOVK and RDID (Table 4.3): RDID gives the global
logical tile. -/
def Obligations.ScalarOperations : Prop :=
  (∀ (s : State) (i : Nat) (f : FmtSR), s.canIssue i = true → (s.site i).guard f.g = true →
    let a := (s.site i).sreg f.sa.toNat
    let b := (s.site i).sreg f.sb.toNat
    let d := f.sd.toNat
    WritesS s i (.sAdd i f .clean) d 1 (a + b) ∧ WritesS s i (.sSub i f .clean) d 1 (a - b) ∧
    WritesS s i (.sMul i f .clean) d 2 (a * b) ∧
    WritesS s i (.sMulhu i f .clean) d 2 (((a.setWidth 64 * b.setWidth 64) >>> 32).setWidth 32) ∧
    WritesS s i (.sAnd i f .clean) d 1 (a &&& b) ∧ WritesS s i (.sOr i f .clean) d 1 (a ||| b) ∧
    WritesS s i (.sXor i f .clean) d 1 (a ^^^ b) ∧ WritesS s i (.sShl i f .clean) d 1 (a <<< (b &&& 31)) ∧
    WritesS s i (.sShr i f .clean) d 1 (a >>> (b &&& 31)) ∧
    WritesS s i (.sSra i f .clean) d 1 (a.sshiftRight (b &&& 31).toNat) ∧
    WritesS s i (.sMin i f .clean) d 1 (if a.toInt ≤ b.toInt then a else b) ∧
    WritesS s i (.sMax i f .clean) d 1 (if a.toInt ≤ b.toInt then b else a) ∧
    WritesS s i (.sMinu i f .clean) d 1 (if a.toNat ≤ b.toNat then a else b) ∧
    WritesS s i (.sMaxu i f .clean) d 1 (if a.toNat ≤ b.toNat then b else a)) ∧
  (∀ (s : State) (i : Nat) (f : FmtSI), s.canIssue i = true → (s.site i).guard f.g = true →
    let a := (s.site i).sreg f.sa.toNat
    let d := f.sd.toNat
    WritesS s i (.sAddi i f .clean) d 1 (a + f.imm) ∧ WritesS s i (.sMuli i f .clean) d 2 (a * f.imm) ∧
    WritesS s i (.sAndi i f .clean) d 1 (a &&& f.imm) ∧ WritesS s i (.sOri i f .clean) d 1 (a ||| f.imm) ∧
    WritesS s i (.sXori i f .clean) d 1 (a ^^^ f.imm) ∧ WritesS s i (.sMovi i f.g f.sd f.imm .clean) d 1 f.imm ∧
    (f.imm.toNat < 32 →
      WritesS s i (.sShli i f .clean) d 1 (a <<< f.imm.toNat) ∧ WritesS s i (.sShri i f .clean) d 1 (a >>> f.imm.toNat) ∧
      WritesS s i (.sSrai i f .clean) d 1 (a.sshiftRight f.imm.toNat))) ∧
  (∀ (s : State) (i : Nat) (f : FmtPC) (e : FmtPCI), s.canIssue i = true → (s.site i).guard f.g = true →
    (s.site i).guard e.g = true →
    let a := (s.site i).sreg f.sa.toNat
    let b := (s.site i).sreg f.sb.toNat
    let x := (s.site i).sreg e.sa.toNat
    WritesP s i (.cmpEq i f .clean) f.pd.toNat (decide (a = b)) ∧ WritesP s i (.cmpNe i f .clean) f.pd.toNat (decide (a ≠ b)) ∧
    WritesP s i (.cmpLt i f .clean) f.pd.toNat (decide (a.toInt < b.toInt)) ∧
    WritesP s i (.cmpLe i f .clean) f.pd.toNat (decide (a.toInt ≤ b.toInt)) ∧
    WritesP s i (.cmpLtu i f .clean) f.pd.toNat (decide (a.toNat < b.toNat)) ∧
    WritesP s i (.cmpLeu i f .clean) f.pd.toNat (decide (a.toNat ≤ b.toNat)) ∧
    WritesP s i (.cmpiEq i e .clean) e.pd.toNat (decide (x = e.imm)) ∧
    WritesP s i (.cmpiNe i e .clean) e.pd.toNat (decide (x ≠ e.imm)) ∧
    WritesP s i (.cmpiLt i e .clean) e.pd.toNat (decide (x.toInt < e.imm.toInt)) ∧
    WritesP s i (.cmpiLe i e .clean) e.pd.toNat (decide (x.toInt ≤ e.imm.toInt)) ∧
    WritesP s i (.cmpiLtu i e .clean) e.pd.toNat (decide (x.toNat < e.imm.toNat)) ∧
    WritesP s i (.cmpiLeu i e .clean) e.pd.toNat (decide (x.toNat ≤ e.imm.toNat))) ∧
  (∀ (s : State) (i : Nat) (f : FmtPL) (k : FmtMK) (sd : BitVec 5), s.canIssue i = true → (s.site i).guard f.g = true →
    (s.site i).guard k.g = true →
    let a := (s.site i).preg f.pa.toNat ^^ (f.na == 1)
    let b := (s.site i).preg f.pb.toNat ^^ (f.nb == 1)
    WritesP s i (.pand i f .clean) f.pd.toNat (a && b) ∧ WritesP s i (.por i f .clean) f.pd.toNat (a || b) ∧
    WritesP s i (.pxor i f .clean) f.pd.toNat (a != b) ∧
    WritesS s i (.movk i k .clean) k.sd.toNat 1 ((s.site i).kreg k.kn.toNat) ∧
    WritesS s i (.rdid i f.g sd .clean) sd.toNat 1 (BitVec.ofNat 32 (s.site i).gtile))

/-- BR, CALL and JR (R127) on a site with no open loop: the next bundle issues at the target in the next cycle; CALL puts the
index of the bundle after it into S31, readable one cycle later; JR takes bits 9 to 0 of its register. LOOP and LOOPI (R129) on
a site with no open loop: a count of 0 goes on after the END bundle and leaves every register; another count opens the loop of
the bundles after this one, whose counter holds it from the next cycle on. At the END bundle of the innermost loop (R129): a
counter above 1 falls by one and the loop begins again; else the counter becomes 0 and the loop is left. Stated of a NOP that
stands at the END bundle of the one open loop. A LOOP or LOOPI is not performed and raises BANK_CLASH with detail LOOP_STACK
when the stack holds 8 entries or one of them counts in its KN, whatever its count (R130; that the count does not matter is the
model's reading, log 25). NOP takes its cycle and changes nothing (R118). IDLE and WAITC go on in sequence, IDLE N cycles after
the next one and WAITC not before work cycle N (R137). ENDWORK ends the site's work in its cycle (R136). -/
def Obligations.ControlFlow : Prop :=
  (∀ (s : State) (i : Nat) (f : FmtBR) (j : FmtJR), s.canIssue i = true → (s.site i).guard f.g = true →
    (s.site i).guard j.g = true →
    let a := s.site i
    let n := s.issueCycle i
    let went := fun (t : State) (p : Nat) => OnlySite s t i ∧ (t.site i).seq.pc = p ∧ (t.site i).seq.next = n + 1 ∧
      (t.site i).seq.status = .running ∧ t.site i = { a with seq := (t.site i).seq }
    (∃ t, exec (.branch i f .clean) s = .next t ∧ went t f.target.toNat ∧ ∀ q, (t.seen i (n + 1)).sreg q = a.sreg q) ∧
    (∃ t, exec (.call i f .clean) s = .next t ∧ went t f.target.toNat ∧
      (t.seen i (n + 1)).sreg 31 = BitVec.ofNat 32 (a.seq.pc + 1) ∧ ∀ q, q ≠ 31 → (t.seen i (n + 1)).sreg q = a.sreg q) ∧
    (∃ t, exec (.jr i j .clean) s = .next t ∧ went t ((a.sreg j.sa.toNat).toNat % 1024) ∧
      ∀ q, (t.seen i (n + 1)).sreg q = a.sreg q)) ∧
  (∀ (s : State) (i : Nat) (f : FmtLP) (g : FmtLI), s.canIssue i = true → (s.site i).guard f.g = true →
    (s.site i).guard g.g = true →
    let a := s.site i
    let n := s.issueCycle i
    let opened := fun (c : Instr) (count : Nat) (kn : BitVec 4) (end_ : BitVec 10) =>
      ∃ t, exec c s = .next t ∧ OnlySite s t i ∧ (t.site i).seq.next = n + 1 ∧ (t.site i).seq.status = .running ∧
        t.site i = { a with seq := (t.site i).seq } ∧ (∀ q, (t.seen i (n + 1)).sreg q = a.sreg q) ∧
        (∀ q, (t.seen i (n + 1)).preg q = a.preg q) ∧
        if count = 0 then (t.site i).seq.pc = end_.toNat + 1 ∧ (t.site i).seq.loops = [] ∧
          ∀ q, (t.seen i (n + 1)).kreg q = a.kreg q
        else (t.site i).seq.pc = a.seq.pc + 1 ∧
          (t.site i).seq.loops = [{ kn := kn.toNat, start := a.seq.pc + 1, end_ := end_.toNat }] ∧
          (t.seen i (n + 1)).kreg kn.toNat = BitVec.ofNat 32 count ∧
          ∀ q, q ≠ kn.toNat → (t.seen i (n + 1)).kreg q = a.kreg q
    opened (.loop i f .clean) (a.sreg f.sa.toNat).toNat f.kn f.end_ ∧ opened (.loopi i g .clean) g.count.toNat g.kn g.end_) ∧
  (∀ (s : State) (i : Nat) (e : LoopEntry), s.canIssue i = true → (s.site i).seq.pc = e.end_ →
    let u := s.modSite i (fun a => { a with seq := { a.seq with loops := [e] } })
    let k := (s.site i).kreg e.kn
    ∃ t, exec (.nop i .scalar .clean) u = .next t ∧ OnlySite u t i ∧ (t.site i).seq.next = s.issueCycle i + 1 ∧
      (t.site i).seq.status = .running ∧ t.site i = { s.site i with seq := (t.site i).seq } ∧
      (t.site i).seq.pc = (if 1 < k.toNat then e.start else e.end_ + 1) ∧
      (t.site i).seq.loops = (if 1 < k.toNat then [e] else []) ∧
      (t.seen i (s.issueCycle i + 1)).kreg e.kn = (if 1 < k.toNat then k - 1 else 0)) ∧
  (∀ (s : State) (i : Nat) (f : FmtLP) (g : FmtLI) (ls : List LoopEntry), s.canIssue i = true → (s.site i).guard f.g = true →
    (s.site i).guard g.g = true →
    let u := s.modSite i (fun a => { a with seq := { a.seq with loops := ls } })
    (8 ≤ ls.length ∨ (∃ e ∈ ls, e.kn = f.kn.toNat) →
      StopsWith u i (.loop i f .clean) .bankClash Clash.loopStack.code) ∧
    (8 ≤ ls.length ∨ (∃ e ∈ ls, e.kn = g.kn.toNat) →
      StopsWith u i (.loopi i g .clean) .bankClash Clash.loopStack.code)) ∧
  (∀ (s : State) (i : Nat) (f : FmtCY) (slot : SlotName), s.canIssue i = true → (s.site i).guard f.g = true →
    let a := s.site i
    let n := s.issueCycle i
    let kept := fun (t : State) => OnlySite s t i ∧ t.site i = { a with seq := (t.site i).seq } ∧
      (∀ c q, (t.seen i c).sreg q = a.sreg q) ∧ (∀ c q, (t.seen i c).preg q = a.preg q) ∧
      (∀ c q, (t.seen i c).kreg q = a.kreg q)
    let waits := fun (t : State) (c : Nat) => (t.site i).seq.pc = a.seq.pc + 1 ∧ (t.site i).seq.next = c ∧
      (t.site i).seq.status = (if c = n + 1 then .running else .waiting c)
    (∃ t, exec (.nop i slot .clean) s = .next t ∧ kept t ∧ waits t (n + 1)) ∧
    (∃ t, exec (.idle i f .clean) s = .next t ∧ kept t ∧ waits t (n + 1 + f.n.toNat)) ∧
    (∃ t, exec (.waitc i f .clean) s = .next t ∧ kept t ∧ waits t (max (n + 1) f.n.toNat)) ∧
    (∃ t, exec (.endwork i f.g .clean) s = .next t ∧ kept t ∧ (t.site i).seq.status = .ended n))

/-- A slot operation whose guard does not hold is a NOP (R119): the module after it is the module after a NOP. -/
def Obligations.FalseGuardIsNop : Prop :=
  ∀ (s : State) (i : Nat) (c : Instr) (b : Bundle), s.canIssue i = true → c.site? = some i → c.bundle? = some b →
    (∀ k, c ≠ .nop i k .clean) →
    (b.vec = .nop ∧ (s.site i).guard (scalarGuard b.scal) = false ∨ b.vec = .nop ∧ (s.site i).guard (exchGuard b.exch) = false ∨
     b.vec = .nop ∧ (s.site i).guard (matGuard b.mat) = false ∨ b.vec = .nop ∧ (s.site i).guard (lsGuard b.ls) = false) →
    s.issueAt i b .clean = s.issueAt i Bundle.nops .clean

/-- BUNDLE_FETCH issues the bundle at the program counter of the active slot (R124), and WAIT_EXPIRE ends the wait and does
the same (R137); a fetch error that the ECC cannot correct stops the site with ECC_UE in the cycle, and the bundle does not
issue. -/
def Obligations.FetchIssuesBundle : Prop :=
  ∀ (s : State) (i : Nat) (b : Bundle) (k : Checks), decodeBundle (s.site i).fetched = some b → b.legal = true →
    (exec (.bundleFetch i .clean) s = .next (s.issueAt i b .clean)) ∧
    (∀ c, (s.site i).seq.status = .waiting c →
      exec (.waitExpire i .clean) s =
        .next ((s.modSite i (fun a => { a with seq := { a.seq with status := .running } })).issueAt i b .clean)) ∧
    (s.canIssue i = true → k = { Checks.clean with ecc := .uncorrectable } →
      ∃ t, exec (.bundleFetch i k) s = .next t ∧ (t.site i).seq.status = .stopped (s.issueCycle i) ∧
        (t.site i).seq.pc = (s.site i).seq.pc ∧
        (t.site i).faults.map (fun e => (e.cause, e.cycle, e.pc)) =
          (s.site i).faults.map (fun e => (e.cause, e.cycle, e.pc)) ++ [(.eccUe, s.issueCycle i, (s.site i).seq.pc)] ∧
        ∀ q, (t.site i).sreg q = (s.site i).sreg q)

/-- SWITCH (R132, R98): from the next cycle on the sequencer runs slot SLOT from bundle ENTRY with its ownership map, in
which a bank that the map names OFF keeps its owner, and no loop is open. A slot whose reload has not completed stops the
site with SLOT_NOT_READY, and a steering item still in a skid buffer with STEER_BUSY. OWNR (R97, R98, R135): from the next
cycle on the banks FIRST to FIRST + COUNT − 1 have the owner CODE, and every other bank its own; code 0 changes none. A bank
that BANK_MASK leaves out stops the site with OWNER_OFF and changes none. -/
def Obligations.SlotsAndOwners : Prop :=
  (∀ (s : State) (i : Nat) (f : FmtSW), s.canIssue i = true → (s.site i).guard f.g = true →
    let b := s.site i
    let n := s.issueCycle i
    let x := b.cfg f.slot.toNat
    let calm := (({ b with seq := { b.seq with clock := n } } : Site).steerCycle n).site.skidsEmpty
    (n < x.readyAt → StopsWith s i (.switchSlot i f .clean) .bankClash Clash.slotNotReady.code) ∧
    (x.readyAt ≤ n → calm = false → StopsWith s i (.switchSlot i f .clean) .bankClash Clash.steerBusy.code) ∧
    (x.readyAt ≤ n → calm = true → ∃ t, exec (.switchSlot i f .clean) s = .next t ∧ OnlySite s t i ∧
      (t.site i).seq.pc = f.entry.toNat ∧ (t.site i).seq.next = n + 1 ∧ (t.site i).seq.status = .running ∧
      (t.site i).seq.loops = [] ∧ (t.site i).slotAt n = b.slotAt n ∧ (t.site i).slotAt (n + 1) = f.slot.toNat ∧
      (∀ k, k < 32 → (t.site i).owner k n = b.owner k n ∧
        (t.site i).owner k (n + 1) =
          if b.bank.mask.toNat.testBit k = false then 0
          else if ownerIn (b.mapOf f.slot.toNat) k = 0 then b.owner k n else ownerIn (b.mapOf f.slot.toNat) k) ∧
      t.site i = { b with seq := (t.site i).seq, bank := (t.site i).bank } ∧ ∀ k, (t.seen i k).sameRegs b)) ∧
  (∀ (s : State) (i : Nat) (f : FmtOW), s.canIssue i = true → (s.site i).guard f.g = true →
    (s.site i).bank.from_ ≤ s.issueCycle i →
    let b := s.site i
    let n := s.issueCycle i
    let named := fun (k : Nat) => decide (f.first.toNat ≤ k ∧ k < f.first.toNat + f.count.toNat)
    ((∃ k, named k = true ∧ b.bank.mask.toNat.testBit k = false) →
      StopsWith s i (.ownr i f .clean) .bankClash Clash.ownerOff.code) ∧
    ((∀ k, named k = true → b.bank.mask.toNat.testBit k = true) →
      ∃ t, exec (.ownr i f .clean) s = .next t ∧ Moved s t i ∧
        (∀ k, k < 32 → (t.site i).owner k n = b.owner k n ∧
          (t.site i).owner k (n + 1) = if named k && decide (f.code ≠ 0) then f.code.toNat else b.owner k n) ∧
        t.site i = { b with seq := (t.site i).seq, bank := (t.site i).bank } ∧ ∀ k, (t.seen i k).sameRegs b))

/-- RELOAD (R92, R133) with its bank WIDE and its trailer's bank NARROW: 128 cycles later the slot holds the 1,024 bundles
of the bank and the trailer's ownership map and steering table, and can be switched to; nothing else of the site changed.
The slot in execution is not reloaded: SLOT_BUSY. -/
def Obligations.ReloadFillsSlot : Prop :=
  ∀ (s : State) (i : Nat) (f : FmtRL), s.canIssue i = true → (s.site i).guard f.g = true →
    let b := s.site i
    let n := s.issueCycle i
    (f.slot.toNat = b.slotAt n → StopsWith s i (.reload i f .clean) .bankClash Clash.slotBusy.code) ∧
    (f.slot.toNat ≠ b.slotAt n →
      (∀ c, n ≤ c → b.owner f.bank.toNat c = ownWide ∧ b.owner (bankOf (f.trailer.toNat * 1024)) c = ownNarrow) →
      ∃ t, exec (.reload i f .clean) s = .next t ∧ Moved s t i ∧
        (let a := t.seen i (n + 128)
         let x := a.cfg f.slot.toNat
         (∀ k, k < 1024 → aget 0 x.bundles k = BitVec.ofNat 256 (leNat (b.scr.read (f.bank.toNat * 32768 + 32 * k) 32))) ∧
         x.own = BitVec.ofNat 64 (leNat (b.scr.read (f.trailer.toNat * 1024) 8)) ∧
         (∀ k, k < 32 → aget 0 x.steer k = BitVec.ofNat 128 (leNat (b.scr.read (f.trailer.toNat * 1024 + 512 + 16 * k) 16))) ∧
         x.undef = none ∧ x.readyAt = n + 128 ∧ a.reloading (n + 128) = false ∧ a.sameRegs b ∧ a.scr = b.scr ∧ a.faults = b.faults ∧
         ∀ k, k ≠ f.slot.toNat → a.cfg k = b.cfg k))

/-! ### The vector slot -/

/-- The FP32 operations of format V3 (R160, R161, Table 5.6), with one rounding to nearest each: add, subtract, multiply,
the three fused forms, minimum and maximum, sign changes, copy, and the five functions. -/
def Obligations.VectorFloat : Prop :=
  ∀ (s : State) (i : Nat) (f : FmtV3), s.canIssue i = true →
    let x := fun (r : BitVec 5) (l : Nat) => laneAt ((s.site i).vreg r.toNat) l
    let a := x f.va
    let b := fun (l : Nat) => if f.bs = 1 then ⟨(s.site i).sreg f.vb.toNat, false⟩ else x f.vb l
    let c := fun (l : Nat) => if f.cs = 1 then ⟨(s.site i).sreg f.vc.toNat, false⟩ else x f.vc l
    let one := fun (k : Instr) (g : Word → Word × BitVec 5) =>
      WritesV s i k f.m f.vd.toNat (fun l => ((g (a l).bits).1, (g (a l).bits).2, (a l).poison))
    let two := fun (k : Instr) (g : Word → Word → Word × BitVec 5) =>
      WritesV s i k f.m f.vd.toNat (fun l =>
        ((g (a l).bits (b l).bits).1, (g (a l).bits (b l).bits).2, (a l).poison || (b l).poison))
    let three := fun (k : Instr) (g : Word → Word → Word → Word × BitVec 5) =>
      WritesV s i k f.m f.vd.toNat (fun l => ((g (a l).bits (b l).bits (c l).bits).1, (g (a l).bits (b l).bits (c l).bits).2,
        (a l).poison || (b l).poison || (c l).poison))
    two (.vadd i f .clean) fadd ∧ two (.vsub i f .clean) (fun u v => fadd u (v ^^^ 0x80000000) ) ∧
    two (.vmul i f .clean) fmul ∧ three (.vfma i f .clean) (ffma false false) ∧ three (.vfms i f .clean) (ffma false true) ∧
    three (.vfnma i f .clean) (ffma true false) ∧ two (.vmin i f .clean) fmin ∧ two (.vmax i f .clean) fmax ∧
    one (.vabs i f .clean) (fun u => (u &&& 0x7FFFFFFF, 0)) ∧ one (.vneg i f .clean) (fun u => (u ^^^ 0x80000000, 0)) ∧
    one (.vmov i f .clean) (fun u => (u, 0)) ∧ one (.vrcp i f .clean) frcp ∧ one (.vrsqrt i f .clean) frsqrt ∧
    one (.vsqrt i f .clean) fsqrt ∧ one (.vexp2 i f .clean) fexp2 ∧ one (.vlog2 i f .clean) flog2

/-- The immediate forms and the forms that read operand A through the ACC port, whose lane l is column l mod 32 of row (ROW
+ l div 32) mod 512 (R159, Table 5.6). -/
def Obligations.VectorImmediateAndAcc : Prop :=
  ∀ (s : State) (i : Nat) (f : FmtVI) (g : FmtVA), s.canIssue i = true →
    let a := fun (l : Nat) => laneAt ((s.site i).vreg f.va.toNat) l
    let row := fun (l : Nat) => (s.site i).accRow ((g.row.toNat + l / 32) % 512)
    let acc := fun (l : Nat) => (row l).cols.getD (l % 32) 0
    let bad := fun (l : Nat) => if l % 32 < 16 then (row l).pLo else (row l).pHi
    let x := fun (bs : BitVec 1) (r : BitVec 5) (l : Nat) =>
      if bs = 1 then ⟨(s.site i).sreg r.toNat, false⟩ else laneAt ((s.site i).vreg r.toNat) l
    let b := x g.bs g.vb
    let c := x g.cs g.vc
    WritesV s i (.vaddi i f .clean) f.m f.vd.toNat
      (fun l => ((fadd (a l).bits f.imm).1, (fadd (a l).bits f.imm).2, (a l).poison)) ∧
    WritesV s i (.vmuli i f .clean) f.m f.vd.toNat
      (fun l => ((fmul (a l).bits f.imm).1, (fmul (a l).bits f.imm).2, (a l).poison)) ∧
    WritesV s i (.vmovi i f .clean) f.m f.vd.toNat (fun _ => (f.imm, 0, false)) ∧
    WritesV s i (.vrda i g .clean) g.m g.vd.toNat (fun l => (acc l, 0, bad l)) ∧
    WritesV s i (.vaddA i g .clean) g.m g.vd.toNat
      (fun l => ((fadd (acc l) (b l).bits).1, (fadd (acc l) (b l).bits).2, bad l || (b l).poison)) ∧
    WritesV s i (.vmulA i g .clean) g.m g.vd.toNat
      (fun l => ((fmul (acc l) (b l).bits).1, (fmul (acc l) (b l).bits).2, bad l || (b l).poison)) ∧
    WritesV s i (.vfmaA i g .clean) g.m g.vd.toNat
      (fun l => ((ffma false false (acc l) (b l).bits (c l).bits).1, (ffma false false (acc l) (b l).bits (c l).bits).2,
        bad l || (b l).poison || (c l).poison))

/-- The 32-bit integer operations of the vector slot (Table 5.6), as the scalar ones of Table 4.3, and the conversions
between INT32 and FP32 (R162). -/
def Obligations.VectorIntegers : Prop :=
  ∀ (s : State) (i : Nat) (f : FmtV3), s.canIssue i = true →
    let a := fun (l : Nat) => laneAt ((s.site i).vreg f.va.toNat) l
    let b := fun (l : Nat) => if f.bs = 1 then ⟨(s.site i).sreg f.vb.toNat, false⟩ else laneAt ((s.site i).vreg f.vb.toNat) l
    let two := fun (k : Instr) (g : Word → Word → Word) =>
      WritesV s i k f.m f.vd.toNat (fun l => (g (a l).bits (b l).bits, 0, (a l).poison || (b l).poison))
    two (.viadd i f .clean) (fun u v => u + v) ∧ two (.visub i f .clean) (fun u v => u - v) ∧
    two (.vimul i f .clean) (fun u v => u * v) ∧ two (.vand i f .clean) (fun u v => u &&& v) ∧
    two (.vor i f .clean) (fun u v => u ||| v) ∧ two (.vxor i f .clean) (fun u v => u ^^^ v) ∧
    two (.vshl i f .clean) (fun u v => u <<< (v &&& 31)) ∧ two (.vshr i f .clean) (fun u v => u >>> (v &&& 31)) ∧
    two (.vsra i f .clean) (fun u v => u.sshiftRight (v &&& 31).toNat) ∧
    two (.vimin i f .clean) (fun u v => if u.toInt ≤ v.toInt then u else v) ∧
    two (.vimax i f .clean) (fun u v => if u.toInt ≤ v.toInt then v else u) ∧
    WritesV s i (.vcvtF2i i f .clean) f.m f.vd.toNat
      (fun l => ((cvtF2I (a l).bits).1, (cvtF2I (a l).bits).2, (a l).poison)) ∧
    WritesV s i (.vcvtI2f i f .clean) f.m f.vd.toNat
      (fun l => ((cvtI2F (a l).bits).1, (cvtI2F (a l).bits).2, (a l).poison))

/-- VUNPK widens the low bits of a lane (R162); VLUT takes entry A[7:0] of the 256-entry table in V[VT] to V[VT + 3], with
the poison of the index or the entry (R165); SAMPLE gives Philox output word l mod 4 for the counter of lane l, or its top
24 bits as a fraction (R167). -/
def Obligations.VectorTables : Prop :=
  ∀ (s : State) (i : Nat) (u : FmtVU) (t : FmtLU) (m : FmtSM) (k : ElemFmt), s.canIssue i = true →
    ElemFmt.ofCode u.fmt.toNat = some k →
    let lane := fun (r l : Nat) => laneAt ((s.site i).vreg r) l
    let entry := fun (l : Nat) =>
      let e := (lane t.va.toNat l).bits.toNat % 256
      lane (t.vt.toNat + e / 64) (e % 64)
    let reg := fun (r : Nat) => (s.site i).sreg r
    let draw := fun (l : Nat) => philox (reg m.st.toNat) (reg m.sdr.toNat + BitVec.ofNat 32 (l / 4)) (m.purp.setWidth 32) 0
      (reg m.sk.toNat) (reg (m.sk.toNat + 1)) (l % 4)
    WritesV s i (.vunpk i u .clean) u.m u.vd.toNat
      (fun l => ((unpack k (lane u.va.toNat l).bits).1, (unpack k (lane u.va.toNat l).bits).2, (lane u.va.toNat l).poison)) ∧
    WritesV s i (.vlut i t .clean) t.m t.vd.toNat
      (fun l => ((entry l).bits, 0, (lane t.va.toNat l).poison || (entry l).poison)) ∧
    WritesV s i (.sample i m .clean) m.m m.vd.toNat
      (fun l => (if m.u = 1 then (Fp.fin false ((draw l).toNat / 256) (-24)).exact32 else draw l, 0, false))

/-- OCVT (R166) where no operand of an active lane carries poison: y = x × s + b with one rounding, limited if CLIP = 1, and
converted to FMT; the result of active lane l lies at the bytes of VD that Table 5.8 names, and every other byte stays; a
lane of VD loses its poison exactly where all its bytes are written. -/
def Obligations.OutputConversion : Prop :=
  ∀ (s : State) (i : Nat) (f : FmtOC) (k : ElemFmt), s.canIssue i = true → ElemFmt.ofCode f.fmt.toNat = some k →
    (k = .fp32 ∨ k = .fp16 ∨ k = .bf16 ∨ k = .e4m3 ∨ k = .e5m2 ∨ k = .int8) →
    (k = .fp32 → f.qsel = 0) → (k.size = 2 → f.qsel.toNat % 2 = 0) → (f.as = 0 → f.itype = 0) →
    let b := s.site i
    let x := fun (l : Nat) => if f.as = 1 then laneAt (b.accOperand f.src.toNat) l else laneAt (b.vreg (f.src.toNat % 32)) l
    let sc := fun (l : Nat) => if f.ssc = 1 then ⟨b.sreg f.vsc.toNat, false⟩ else laneAt (b.vreg f.vsc.toNat) l
    let bi := fun (l : Nat) => if f.sbi = 1 then ⟨b.sreg f.vbi.toNat, false⟩ else laneAt (b.vreg f.vbi.toNat) l
    (∀ l, l < 64 → b.active f.m l = true → (x l).poison = false ∧ (sc l).poison = false ∧ (bi l).poison = false) →
    let v := fun (l : Nat) => if f.itype = 1 then (cvtI2F (x l).bits).1 else (x l).bits
    let y := fun (l : Nat) => ffma false false (v l) (sc l).bits (bi l).bits
    let z := fun (l : Nat) => if f.clip = 1 then clip (y l).1 (b.sreg f.scl.toNat) (b.sreg (f.scl.toNat + 1)) else (y l).1
    let r := fun (l : Nat) => outConvert k (decide (f.sat = 1)) (z l)
    let byte := fun (u : Lane) (n : Nat) => u.bits.toNat / 256 ^ n % 256
    let written := fun (x : Nat) => ∃ l, l < 64 ∧ b.active f.m l = true ∧ ocvtByte k f.qsel.toNat l ≤ x ∧
      x < ocvtByte k f.qsel.toNat l + k.size
    ∃ t, exec (.ocvt i f .clean) s = .next t ∧ Moved s t i ∧
      (let a := t.seen i (s.issueCycle i + 4)
       (∀ l n, l < 64 → n < k.size → b.active f.m l = true →
         byte (laneAt (a.vreg f.vd.toNat) ((ocvtByte k f.qsel.toNat l + n) / 4)) ((ocvtByte k f.qsel.toNat l + n) % 4) =
           (r l).1 / 256 ^ n % 256) ∧
       (∀ d n, d < 64 → n < 4 → ¬ written (4 * d + n) →
         byte (laneAt (a.vreg f.vd.toNat) d) n = byte (laneAt (b.vreg f.vd.toNat) d) n) ∧
       (∀ d, d < 64 → (∀ n, n < 4 → written (4 * d + n)) → (laneAt (a.vreg f.vd.toNat) d).poison = false) ∧
       (∀ d n, d < 64 → n < 4 → ¬ written (4 * d + n) →
         (laneAt (a.vreg f.vd.toNat) d).poison = (laneAt (b.vreg f.vd.toNat) d).poison) ∧
       (∀ l, l < 64 → a.laneFlags l = b.laneFlags l ||| (if b.active f.m l then
         (r l).2 ||| (y l).2 ||| (if f.itype = 1 then (cvtI2F (x l).bits).2 else 0) else 0)) ∧
       (∀ q, q ≠ f.vd.toNat → a.vreg q = b.vreg q) ∧ (∀ q, a.vmreg q = b.vmreg q) ∧ (∀ q, a.sreg q = b.sreg q) ∧
       (∀ q, a.preg q = b.preg q) ∧ (∀ q, a.kreg q = b.kreg q) ∧ a = { b with seq := a.seq, vec := a.vec })

/-- The compares write the active lanes' bits of VM[VMD] and leave the others; where an active lane carries poison the site
stops with POISON (R163). Mask logic writes all 64 bits of VM[VMD], either input inverted (R163). -/
def Obligations.VectorMasks : Prop :=
  (∀ (s : State) (i : Nat) (f : FmtVC), s.canIssue i = true →
    let site := s.site i
    let a := fun (l : Nat) => laneAt (site.vreg f.va.toNat) l
    let b := fun (l : Nat) => if f.bs = 1 then ⟨site.sreg f.vb.toNat, false⟩ else laneAt (site.vreg f.vb.toNat) l
    let bad := ∃ l, l < 64 ∧ site.active f.m l = true ∧ ((a l).poison = true ∨ (b l).poison = true)
    let nan := fun (l : Nat) => (dec32 (a l).bits).isNan || (dec32 (b l).bits).isNan
    let ops := fun (k : Instr) (g : Nat → Bool) (fl : Nat → BitVec 5) =>
      (¬ bad → WritesVM s i k f.vmd.toNat
        (BitVec.ofFnLE (fun l : Fin 64 => if site.active f.m l then g l else (site.vmreg f.vmd.toNat).getLsbD l))
        (fun l => if site.active f.m l then fl l else 0)) ∧
      (bad → StopsWith s i k .poison 0)
    let sig := fun (l : Nat) => (dec32 (a l).bits).sigFlag ||| (dec32 (b l).bits).sigFlag
    ops (.vcmpEq i f .clean) (fun l => !nan l && (dec32 (a l).bits).eqv (dec32 (b l).bits)) sig ∧
    ops (.vcmpLt i f .clean) (fun l => !nan l && (dec32 (a l).bits).lt (dec32 (b l).bits)) sig ∧
    ops (.vcmpLe i f .clean) (fun l => !nan l && !(dec32 (b l).bits).lt (dec32 (a l).bits)) sig ∧
    ops (.vcmpUn i f .clean) nan sig ∧
    ops (.vicmpEq i f .clean) (fun l => decide ((a l).bits = (b l).bits)) (fun _ => 0) ∧
    ops (.vicmpLt i f .clean) (fun l => decide ((a l).bits.toInt < (b l).bits.toInt)) (fun _ => 0) ∧
    ops (.vicmpLtu i f .clean) (fun l => decide ((a l).bits.toNat < (b l).bits.toNat)) (fun _ => 0)) ∧
  (∀ (s : State) (i : Nat) (f : FmtML), s.canIssue i = true → f.m = ⟨0, 0⟩ →
    let a := if f.na = 1 then ~~~((s.site i).vmreg f.vma.toNat) else (s.site i).vmreg f.vma.toNat
    let b := if f.nb = 1 then ~~~((s.site i).vmreg f.vmb.toNat) else (s.site i).vmreg f.vmb.toNat
    WritesVM s i (.vmand i f .clean) f.vmd.toNat (a &&& b) (fun _ => 0) ∧
    WritesVM s i (.vmor i f .clean) f.vmd.toNat (a ||| b) (fun _ => 0) ∧
    WritesVM s i (.vmxor i f .clean) f.vmd.toNat (a ^^^ b) (fun _ => 0))

/-- The reductions combine the active lanes in a tree of six levels, inactive lanes entering as −0, −Inf or +Inf, and write
lane 0 alone, whatever the mask; it carries poison if an active lane does (R164). VRARGMAX (R164): the largest active lane
in VMAX's order, the lower one of a tie, into lane 0 with its number in lane 1; the canonical NaN and the lowest NaN lane
where an active lane is a NaN; −Inf and 64 where no lane is active. -/
def Obligations.Reductions : Prop :=
  (∀ (s : State) (i : Nat) (f : FmtRD), s.canIssue i = true → ¬ (f.m.mask = 0 ∧ f.m.minv = 1) →
    let b := s.site i
    let a := fun (l : Nat) => laneAt (b.vreg f.va.toNat) l
    let bad := (List.range 64).any (fun l => b.active f.m l && (a l).poison)
    let red := fun (k : Instr) (g : Word → Word → Word × BitVec 5) (unit : Word) =>
      let r := treeValue g (fun l => (if b.active f.m l then (a l).bits else unit, 0)) 6 0
      ChangesV s i k 4 f.vd.toNat
        (fun l => if l = 0 then { bits := if bad then Config.poisonedBits b.seq.epoch (s.issueCycle i) 0 else r.1, poison := bad }
          else laneAt (b.vreg f.vd.toNat) l)
        (fun l => if l = 0 ∧ bad = false then r.2 else 0)
    red (.vrsum i f .clean) fadd 0x80000000 ∧ red (.vrmax i f .clean) fmax 0xFF800000 ∧
    red (.vrmin i f .clean) fmin 0x7F800000) ∧
  (∀ (s : State) (i : Nat) (f : FmtRD) (k : Nat) (v : Word), s.canIssue i = true → ¬ (f.m.mask = 0 ∧ f.m.minv = 1) →
    let b := s.site i
    let a := fun (l : Nat) => laneAt (b.vreg f.va.toNat) l
    let act := fun (l : Nat) => decide (l < 64) && b.active f.m l
    let nan := fun (l : Nat) => (dec32 (a l).bits).isNan
    let sig := (List.range 64).foldl (fun u l => if act l then u ||| (dec32 (a l).bits).sigFlag else u) (0 : BitVec 5)
    let below := fun (l m : Nat) => maxLess (a l).bits (a m).bits
    (∀ l, act l = true → (a l).poison = false) →
    ((∀ l, act l = false) ∧ k = 64 ∧ v = 0xFF800000 ∨
      act k = true ∧ nan k = true ∧ (∀ l, l < k → act l = true → nan l = false) ∧ v = 0x7FC00000 ∨
      act k = true ∧ (∀ l, act l = true → nan l = false ∧ below k l = false ∧ (l < k → below l k = true)) ∧ v = (a k).bits) →
    ChangesV s i (.vrargmax i f .clean) 4 f.vd.toNat
      (fun l => if l = 0 then ⟨v, false⟩ else if l = 1 then ⟨BitVec.ofNat 32 k, false⟩ else laneAt (b.vreg f.vd.toNat) l)
      (fun l => if l = 0 then sig else 0))

/-- VEXT writes lane LANE of A to S[SD] when the lane is active and writes nothing otherwise; an active lane with poison
stops the site with POISON (R168). VFRD writes the lane flags, or the 32 column sets and 0 above them; VFCLR clears the
flags of the active lanes, or the column sets (R169). -/
def Obligations.LaneExtractAndFlags : Prop :=
  (∀ (s : State) (i : Nat) (f : FmtEX), s.canIssue i = true →
    let x := laneAt ((s.site i).vreg f.va.toNat) f.lane.toNat
    let on := (s.site i).active f.m f.lane.toNat
    (on = true → x.poison = false → WritesS s i (.vext i f .clean) f.sd.toNat 4 x.bits) ∧
    (on = true → x.poison = true → StopsWith s i (.vext i f .clean) .poison 0) ∧
    (on = false → ∃ t, exec (.vext i f .clean) s = .next t ∧ Moved s t i ∧
      t.site i = { s.site i with seq := (t.site i).seq } ∧ ∀ n, (t.seen i n).sameRegs (s.site i))) ∧
  (∀ (s : State) (i : Nat) (f : FmtFL) (m : VMask), s.canIssue i = true →
    (f.sel = 0 → WritesV s i (.vfrd i f .clean) f.m f.vd.toNat (fun l => (((s.site i).laneFlags l).setWidth 32, 0, false))) ∧
    (f.sel = 1 → WritesV s i (.vfrd i f .clean) f.m f.vd.toNat
      (fun l => (if l < 32 then ((s.site i).colFlags l).setWidth 32 else 0, 0, false))) ∧
    (∃ t, exec (.vfclr i m 0 .clean) s = .next t ∧ Moved s t i ∧
      (let a := t.seen i (s.issueCycle i + 4)
       a.sameRegs (s.site i) ∧ a.mat = (s.site i).mat ∧ a.scr = (s.site i).scr ∧
       ∀ l, l < 64 → a.laneFlags l = if (s.site i).active m l then 0 else (s.site i).laneFlags l)) ∧
    (¬ (m.mask = 0 ∧ m.minv = 1) → ∃ t, exec (.vfclr i m 1 .clean) s = .next t ∧ Moved s t i ∧
      (let a := t.seen i (s.issueCycle i + 4)
       a.sameRegs (s.site i) ∧ a.scr = (s.site i).scr ∧ (∀ l, a.laneFlags l = (s.site i).laneFlags l) ∧
       ∀ c, a.colFlags c = 0)))

/-- Every NaN that a floating-point operation produces is the canonical quiet NaN. -/
def Obligations.NansAreCanonical : Prop :=
  ∀ (a b c : Word) (k : ElemFmt) (p q : Bool),
    let one := fun (r : Word × BitVec 5) => (dec32 r.1).isNan = true → r.1 = 0x7FC00000
    one (fadd a b) ∧ one (fsub a b) ∧ one (fmul a b) ∧ one (ffma p q a b c) ∧ one (fmin a b) ∧ one (fmax a b) ∧
    one (frcp a) ∧ one (frsqrt a) ∧ one (fsqrt a) ∧ one (fexp2 a) ∧ one (flog2 a) ∧ one (cvtI2F a) ∧ one (unpack k a)

/-! ### The load/store slot -/

/-- The loads (R171, R173, Table 5.10) from a bank that the narrow port owns: VLDQ takes the 16 words of a 64-byte word into
quarter Q; VLDB and VLDB.X its bytes, zero- or sign-extended, into all lanes; VLDH its halfwords into half Q; each lane takes
the word's poison, and with it undefined bits (R195). SLD takes one clean word into S[SD]. All are readable 6 cycles after
issue. A narrow access to a bank that is not NARROW is not performed: the site stops with BANK_CLASH, detail OWNER, and neither
the memory nor a register changes, the post-increment included (R101, R171). -/
def Obligations.Loads : Prop :=
  (∀ (s : State) (i : Nat) (f : FmtLQ) (g : FmtLS), s.canIssue i = true → (s.site i).guard f.g = true →
    (s.site i).guard g.g = true →
    let b := s.site i
    let n := s.issueCycle i
    let a := b.vecAddr f.sa f.off.toNat
    let e := b.scalarAddr g.sa g.off.toNat
    let bytes := fun (at_ k : Nat) => leNat (b.scr.read at_ k)
    let p := b.scr.poison64 a
    let lane := fun (l : Nat) (v : Word) => ({ bits := if p then b.loadFree n l else v, poison := p } : Lane)
    let u := b.touch n (bankOf a)
    (b.owner (bankOf a) n = ownNarrow →
      ChangesV s i (.vldq i f .clean) 6 f.vd.toNat
        (fun l => if l / 16 = f.q.toNat then lane l (BitVec.ofNat 32 (bytes (a + 4 * (l % 16)) 4)) else laneAt (b.vreg f.vd.toNat) l)
        (fun _ => 0) u ∧
      ChangesV s i (.vldb i f .clean) 6 f.vd.toNat (fun l => lane l ((b.scr.byte (a + l)).setWidth 32)) (fun _ => 0) u ∧
      ChangesV s i (.vldbX i f .clean) 6 f.vd.toNat (fun l => lane l ((b.scr.byte (a + l)).signExtend 32)) (fun _ => 0) u ∧
      ChangesV s i (.vldh i f .clean) 6 f.vd.toNat
        (fun l => if l / 32 = f.q.toNat % 2 then lane l (BitVec.ofNat 32 (bytes (a + 2 * (l % 32)) 2)) else laneAt (b.vreg f.vd.toNat) l)
        (fun _ => 0) u) ∧
    (b.owner (bankOf e) n = ownNarrow → b.scr.poison64 e = false →
      WritesS s i (.sld i g .clean) g.sd.toNat 6 (BitVec.ofNat 32 (bytes e 4)) (b.touch n (bankOf e))) ∧
    (b.owner (bankOf e) n = ownNarrow → b.scr.poison64 e = true →
      StopsWith s i (.sld i g .clean) .poison 0 (b.touch n (bankOf e)))) ∧
  (∀ (s : State) (i : Nat) (f : FmtLQ) (p : FmtLPI) (g : FmtLS), s.canIssue i = true → (s.site i).guard f.g = true →
    (s.site i).guard p.g = true → (s.site i).guard g.g = true →
    let b := s.site i
    let n := s.issueCycle i
    (b.owner (bankOf (b.vecAddr f.sa f.off.toNat)) n ≠ ownNarrow →
      ∀ c ∈ [Instr.vldq i f .clean, .vldb i f .clean, .vldbX i f .clean, .vldh i f .clean, .vstq i f .clean],
        StopsWith s i c .bankClash Clash.owner.code) ∧
    (b.owner (bankOf (b.vecAddr p.sa 0)) n ≠ ownNarrow →
      ∀ c ∈ [Instr.vldqP i p .clean, .vstqP i p .clean], StopsWith s i c .bankClash Clash.owner.code) ∧
    (b.owner (bankOf (b.scalarAddr g.sa g.off.toNat)) n ≠ ownNarrow →
      ∀ c ∈ [Instr.sld i g .clean, .sst i g .clean], StopsWith s i c .bankClash Clash.owner.code))

/-- The stores (R172): VSTQ writes the 64 bytes of a quarter, poisoned if a lane of it is; SST writes four bytes and leaves
the word's poison mark. No other byte and no register changes. The post-increment forms (Table 5.10) access address S[SA]
and add S[SB] to S[SA], readable in the next cycle. -/
def Obligations.StoresWriteTheirBytes : Prop :=
  (∀ (s : State) (i : Nat) (f : FmtLQ) (g : FmtLS), s.canIssue i = true → (s.site i).guard f.g = true →
    (s.site i).guard g.g = true →
    let b := s.site i
    let n := s.issueCycle i
    let a := b.vecAddr f.sa f.off.toNat
    let e := b.scalarAddr g.sa g.off.toNat
    let lane := fun (k : Nat) => laneAt (b.vreg f.vd.toNat) (16 * f.q.toNat + k)
    (b.owner (bankOf a) n = ownNarrow →
      Stores s i (.vstq i f .clean) a 64 (fun k => BitVec.ofNat 8 ((lane (k / 4)).bits.toNat / 256 ^ (k % 4)))
        ((List.range 16).any (fun k => (lane k).poison))) ∧
    (b.owner (bankOf e) n = ownNarrow →
      Stores s i (.sst i g .clean) e 4 (fun k => BitVec.ofNat 8 ((b.sreg g.sd.toNat).toNat / 256 ^ k)) (b.scr.poison64 e))) ∧
  (∀ (s : State) (i : Nat) (f : FmtLPI), s.canIssue i = true → (s.site i).guard f.g = true →
    let b := s.site i
    let n := s.issueCycle i
    let a := b.vecAddr f.sa 0
    let lane := fun (k : Nat) => laneAt (b.vreg f.vd.toNat) (16 * f.q.toNat + k)
    let stepped := fun (x : Site) => x.sreg f.sa.toNat = b.sreg f.sa.toNat + b.sreg f.sb.toNat ∧
      (∀ q, q ≠ f.sa.toNat → x.sreg q = b.sreg q) ∧ (∀ q, x.preg q = b.preg q) ∧ (∀ q, x.kreg q = b.kreg q) ∧
      (∀ q, x.vmreg q = b.vmreg q) ∧ ∀ q, q ≠ f.vd.toNat → x.vreg q = b.vreg q
    b.owner (bankOf a) n = ownNarrow →
    (∃ t, exec (.vldqP i f .clean) s = .next t ∧ Moved s t i ∧ stepped (t.seen i (n + 1)) ∧ stepped (t.seen i (n + 6)) ∧
      (t.site i).scr = b.scr ∧ (t.seen i (n + 1)).vreg f.vd.toNat = b.vreg f.vd.toNat ∧
      ∀ l, l < 64 → laneAt ((t.seen i (n + 6)).vreg f.vd.toNat) l =
        if l / 16 = f.q.toNat then
          { bits := if b.scr.poison64 a then b.loadFree n l else BitVec.ofNat 32 (leNat (b.scr.read (a + 4 * (l % 16)) 4))
            poison := b.scr.poison64 a }
        else laneAt (b.vreg f.vd.toNat) l) ∧
    (∃ t, exec (.vstqP i f .clean) s = .next t ∧ Moved s t i ∧ stepped (t.seen i (n + 1)) ∧
      (t.seen i (n + 1)).vreg f.vd.toNat = b.vreg f.vd.toNat ∧
      (∀ x, (t.site i).scr.byte x = if a ≤ x ∧ x < a + 64 then
        BitVec.ofNat 8 ((lane ((x - a) / 4)).bits.toNat / 256 ^ ((x - a) % 4)) else b.scr.byte x) ∧
      ∀ w, (t.site i).scr.isPoisoned w = if w = a / 64 then (List.range 16).any (fun k => (lane k).poison)
        else b.scr.isPoisoned w))

/-! ### The matrix slot -/

/-- MLDW (R152, R153) from WIDE banks loads one 256-byte group per cycle: the buffer then holds the block (for MX4 the first
32 bytes of its third group), poisoned if a loaded word is, and is readable 8 cycles after the last access. A buffer that is
still loading stops the site with WB_BUSY. -/
def Obligations.WeightLoad : Prop :=
  ∀ (s : State) (i : Nat) (f : FmtMW) (k : ElemFmt), s.canIssue i = true → (s.site i).guard f.g = true →
    ElemFmt.ofCode f.fmt.toNat = some k → (s.site i).mat.lastWide ≤ s.issueCycle i →
    let b := s.site i
    let n := s.issueCycle i
    let at_ := fun (j : Nat) => (b.groupAddr f.sa + 256 * j) % 2 ^ 20
    let len := fun (j : Nat) => if k = .mx4 ∧ j = 2 then 32 else 256
    let other := fun (m : MatrixUnit) => if f.wb = 0 then m.wb1 else m.wb0
    (n < (b.mat.wb f.wb.toNat).readable → StopsWith s i (.mldw i f .clean) .bankClash Clash.wbBusy.code) ∧
    ((b.mat.wb f.wb.toNat).readable ≤ n → (∀ j c, j < blockAccesses k → n ≤ c → b.owner (bankOf (at_ j)) c = ownWide) →
      ∃ t, exec (.mldw i f .clean) s = .next t ∧ Moved s t i ∧
        (let a := t.seen i (n + blockAccesses k)
         a.mat.wb f.wb.toNat =
           { block := some { fmt := k, bytes := (List.range (blockAccesses k)).flatMap (fun j => b.scr.read (at_ j) (len j)),
                             poison := (List.range (blockAccesses k)).any (fun j => b.scr.anyPoison (at_ j / 64) (len j / 64 + len j % 64 / 32)) }
             readable := n + blockAccesses k + 7 } ∧
         a.mat.loads = [] ∧ other a.mat = other b.mat ∧ a.mat.acc = b.mat.acc ∧ a.mat.cols = b.mat.cols ∧ a.sameRegs b ∧
         a.scr = b.scr ∧ a.faults = b.faults))

/-- MFEED (R154) arms a stream of N + 1 rows whose first group is fetched in its issue cycle from S[SA], bits 7 to 0
cleared; a bank that is not WIDE stops the site with OWNER. An MMUL without a stream armed 8 cycles before stops the site
with FEED_TIMING in its own cycle, and a stream without its MMUL stops it in cycle a + 9 (R155). -/
def Obligations.StreamArmedAndTimed : Prop :=
  (∀ (s : State) (i : Nat) (f : FmtMF) (k : ElemFmt), s.canIssue i = true → (s.site i).guard f.g = true →
    ElemFmt.ofCode f.fmt.toNat = some k →
    let b := s.site i
    let n := s.issueCycle i
    let a := (b.sreg f.sa.toNat).toNat % 2 ^ 20 / 256 * 256
    let stride := (b.sreg f.sb.toNat).toNat % 2 ^ 20 / 256 * 256
    ∃ t, exec (.mfeed i f .clean) s = .next t ∧ OnlySite s t i ∧
      (b.owner (bankOf a) n = ownWide →
        Moved s t i ∧ (t.site i).mat = { b.mat with
          lastWide := n + 1
          feeds := [{ start := n, fmt := k, rows := f.n.toNat + 1, addr := a, stride := stride, mmul := none
                      groups := [{ bytes := b.scr.read a 256, poison := b.scr.anyPoison (a / 64) 4, ok := true }] }] } ∧
        t.site i = { b.touch n (bankOf a) with seq := (t.site i).seq, mat := (t.site i).mat }) ∧
      (b.owner (bankOf a) n ≠ ownWide → (t.site i).seq.status = .stopped n ∧
        (t.site i).faults.map (fun e => (e.cause, e.detail, e.cycle)) =
          b.faults.map (fun e => (e.cause, e.detail, e.cycle)) ++ [(.bankClash, Clash.owner.code, n)])) ∧
  (∀ (s : State) (i : Nat) (f : FmtMM),
    (s.canIssue i = true → (s.site i).guard f.g = true →
      StopsWith s i (.mmul i f .clean) .bankClash Clash.feedTiming.code) ∧
    (∀ x : Feed, (s.site i).mat.feeds = [x] → x.mmul = none → x.groups.length = x.groupCount →
      (s.site i).seq.landings = [] → (s.site i).mat.loads = [] → (s.site i).reload = none →
      (s.site i).seq.status = .running → (s.site i).seq.clock ≤ x.start + 9 → x.start + 9 ≤ s.issueCycle i →
      ∃ t, exec (.feedTiming i) s = .next t ∧ OnlySite s t i ∧ (t.site i).seq.status = .stopped (x.start + 9) ∧
        (t.site i).faults.map (fun e => (e.cause, e.detail, e.cycle)) =
          (s.site i).faults.map (fun e => (e.cause, e.detail, e.cycle)) ++ [(.bankClash, Clash.feedTiming.code, x.start + 9)] ∧
        (t.site i).mat.feeds = [] ∧ (t.site i).mat.acc = (s.site i).mat.acc ∧ (t.site i).sameRegs (s.site i) ∧
        (t.site i).scr = (s.site i).scr))

/-- MMUL (R155, R158, R188, R189, R192) with a fetched, clean stream of at most one group and a clean block: row r of the
stream lands 40 + r cycles later in ACC row (ROW0 + r) mod 512, without poison. On the floating path its column j is the
sum, in the fixed tree of five levels, of the 32 products rounded to FP32, added to the old value when MODE is 1; on the
INT8 path the exact sum of the products, clamped to INT32. -/
def Obligations.MultiplyLandsRows : Prop :=
  ∀ (s : State) (i : Nat) (f : FmtMM) (x : Feed) (g : Group) (w : Block),
    let b := s.site i
    let n := s.issueCycle i
    s.atIssue i = true → b.mat.feeds = [x] → b.seq.landings = [] → b.mat.loads = [] → b.reload = none → b.seq.loops = [] →
    b.seq.clock = n → b.guard f.g = true → x.mmul = none → x.start + 8 = n → x.groups = [g] → x.rows ≤ rowsPerGroup x.fmt →
    0 < x.rows → g.ok = true → g.poison = false → (b.mat.wb f.wb.toNat).block = some w → w.poison = false →
    (b.mat.wb f.wb.toNat).readable ≤ n → paired w.fmt x.fmt = true →
    (∀ r, r < x.rows → f.mode = 1 →
      (b.accRow ((f.row0.toNat + r) % 512)).pLo = false ∧ (b.accRow ((f.row0.toNat + r) % 512)).pHi = false) →
    let bytes := fun (r : Nat) => bytesFrom g.bytes (r * 32 * x.fmt.size) (32 * x.fmt.size)
    let old := fun (r j : Nat) => (b.accRow ((f.row0.toNat + r) % 512)).cols.getD j 0
    let sum := fun (r j : Nat) =>
      treeValue fadd (fun k => Fp.round (Fp.mul (activation x.fmt (bytes r) k) (w.weight k j))) 5 0
    let dot := fun (r j : Nat) => ((List.range 32).map (fun k => (byteAt (bytes r) k).toInt * w.weightInt k j)).sum
    let clamp := fun (v : Int) => BitVec.ofInt 32 (max (-2147483648) (min 2147483647 v))
    ∃ t, exec (.mmul i f .clean) s = .next t ∧ Moved s t i ∧ (t.site i).scr = b.scr ∧ (t.site i).sameRegs b ∧
      ∀ r j, r < x.rows → j < 32 →
        let row := (t.seen i (n + 40 + r)).accRow ((f.row0.toNat + r) % 512)
        row.pLo = false ∧ row.pHi = false ∧
        row.cols.getD j 0 =
          if w.fmt = .int8 then clamp ((if f.mode = 1 then (old r j).toInt else 0) + dot r j)
          else if f.mode = 1 then (fadd (old r j) (sum r j).1).1 else (sum r j).1

/-! ### The exchange slot -/

/-- SEND.V, SEND.S and MSEND.V (R138, R139, R140): with room in the injection queue each destination tile's site gets the
message, pinned 48 cycles later in the sender's quadrant and 160 in another (R52), with its units and tag; the units enter
the injection queue, and no other site changes. Without the room the site stops with INJECT_FULL. -/
def Obligations.SendsReachTheirTiles : Prop :=
  ∀ (s : State) (i c : Nat) (v : FmtSV) (w : FmtSS) (m : FmtMV), s.canIssue i = true → (s.site i).ctx = some c →
    (∀ q, (s.quad q).recState = .normal) →
    let b := s.site i
    let n := s.issueCycle i
    let quarter := fun (r k : Nat) => quarterUnit (b.vreg (r + k / 4)) (k % 4)
    let vec := fun (r : BitVec 5) (len : BitVec 3) => (List.range (len.toNat + 1)).map (quarter r.toNat)
    let scal : MsgUnit :=
      { bytes := (List.range 8).flatMap (fun k => leBytes 4 (b.sreg (w.ssrc.toNat + k)).toNat) ++ List.replicate 32 0
        poison := false }
    let flight := fun (g hop : Nat) (tag : Byte) (units : List MsgUnit) (d : Nat) =>
      let due := n + if d / 576 = i / 576 then 48 else 160
      ({ toTile := g, hop := hop, order := b.gtile * 64 + 2
         msg := { units := units, tag := tag, source := .tile b.gtile, visible := due, pinned := due } } : Flight)
    let sends := fun (k : Instr) (dests : List Nat) (hop : Nat) (tag : Byte) (units : List MsgUnit) =>
      (b.injHeld n + units.length ≤ 64 →
        ∃ t, exec k s = .next t ∧ (t.site i).seq.pc = b.seq.pc + 1 ∧ (t.site i).seq.next = n + 1 ∧
          (t.site i).injHeld n = b.injHeld n + units.length ∧
          (∀ d, (t.site d).ex.pad = (s.site d).ex.pad ++
            ((dests.filter (fun g => decide (s.siteOfTile (s.ctx c) g = some d))).map (fun g => flight g hop tag units d))) ∧
          (∀ d, d ≠ i → t.site d = { s.site d with ex := { (s.site d).ex with pad := (t.site d).ex.pad } }) ∧
          t = { s with sites := t.sites, quads := t.quads }) ∧
      (64 < b.injHeld n + units.length → StopsWith s i k .bankClash Clash.injectFull.code)
    (b.guard v.g = true →
      sends (.sendV i v .clean) [v.dq.toNat * 512 + v.dtile.toNat] v.hop.toNat v.tag (vec v.vsrc v.len)) ∧
    (b.guard w.g = true → sends (.sendS i w .clean) [w.dq.toNat * 512 + w.dtile.toNat] w.hop.toNat w.tag [scal]) ∧
    (b.guard m.g = true →
      sends (.msendV i m .clean) (s.members i (.group m.group.toNat)) m.hop.toNat m.tag (vec m.vsrc m.len))

/-- RECV.V and RECV.S (R121, R141): with a message at the head of the hopper it is taken, and two cycles later the registers
hold its units, a poisoned unit's lanes undefined bits (R195), and SST its status word; without one the bundle stalls a cycle
and the site's stall counter rises. -/
def Obligations.ReceiveOrStall : Prop :=
  ∀ (s : State) (i : Nat) (f : FmtRV), s.canIssue i = true → (s.site i).guard f.g = true → f.hop.toNat < 4 →
    let b := s.site i
    let n := s.issueCycle i
    let h := b.hopper f.hop.toNat
    (h.head n = none →
      ∀ c ∈ [Instr.recvV i f .clean, .recvS i f .clean], ∃ t, exec c s = .next t ∧ (t.site i).seq.pc = b.seq.pc ∧
        (t.site i).seq.next = n + 1 ∧ (t.site i).seq.stalls = b.seq.stalls + 1 ∧ (t.site i).sameRegs b ∧
        (t.site i).ex = b.ex ∧ t = { s with sites := t.sites, quads := t.quads } ∧
        (t.quad (i / 576)).recvStalls = min (2 ^ 32 - 1) ((s.quad (i / 576)).recvStalls + 1)) ∧
    (∀ m rest, h.msgs = m :: rest → m.visible ≤ n → 1 ≤ m.units.length → m.units.length ≤ 8 →
      let status := fun (trunc : Bool) => BitVec.ofNat 32 ((if m.units.any (fun u => u.poison) then 2 ^ 31 else 0) +
        (if trunc then 2 ^ 30 else 0) + m.tag.toNat * 256 + m.units.length)
      let word := fun (k j : Nat) => (m.units[k]?).map (fun u => BitVec.ofNat 32 (leAt u.bytes (4 * j) 4))
      (f.d.toNat ≤ 30 → ∃ t, exec (.recvV i f .clean) s = .next t ∧ Moved s t i ∧
        (t.site i).hopper f.hop.toNat = h.take n ∧
        (let a := t.seen i (n + 2)
         a.sreg f.sst.toNat = status false ∧ (∀ q, q ≠ f.sst.toNat → a.sreg q = b.sreg q) ∧
         (∀ r l, r < 2 → l < 64 → laneAt (a.vreg (f.d.toNat + r)) l =
           match m.units[4 * r + l / 16]?, word (4 * r + l / 16) (l % 16) with
           | some u, some v => { bits := if u.poison then Config.poisonedBits b.seq.epoch n (256 + 64 * r + l) else v, poison := u.poison }
           | _, _ => laneAt (b.vreg (f.d.toNat + r)) l) ∧
         (∀ q, q ≠ f.d.toNat → q ≠ f.d.toNat + 1 → a.vreg q = b.vreg q))) ∧
      (f.d.toNat ≤ 24 → (f.sst.toNat < f.d.toNat ∨ f.d.toNat + 8 ≤ f.sst.toNat) → (∀ u, m.units.head? = some u → u.poison = false) →
        ∃ t, exec (.recvS i f .clean) s = .next t ∧ Moved s t i ∧ (t.site i).hopper f.hop.toNat = h.take n ∧
          (let a := t.seen i (n + 2)
           a.sreg f.sst.toNat = status (decide (1 < m.units.length)) ∧
           (∀ k, k < 8 → word 0 k = some (a.sreg (f.d.toNat + k))) ∧
           (∀ q, q ≠ f.sst.toNat → ¬ (f.d.toNat ≤ q ∧ q < f.d.toNat + 8) → a.sreg q = b.sreg q) ∧ ∀ q, a.vreg q = b.vreg q)) ∧
      ((∃ u, m.units.head? = some u ∧ u.poison = true) → StopsWith s i (.recvS i f .clean) .poison 0))

/-- The token queues (R142): TPUSH and TPUSHI append a word, visible from the next cycle, and stop the site with TQ_FULL at
16 entries; TPOP takes the oldest visible word, readable two cycles later, and stops the site with TQ_EMPTY without one. DMA
(R143, R112) queues its descriptor with the operands read at issue; with 64 outstanding it is answered NO_RESOURCE by a
token of the site's own in the next cycle. -/
def Obligations.QueuesOfTheSite : Prop :=
  (∀ (s : State) (i : Nat) (p : FmtTP) (q : FmtTI) (o : FmtTO), s.canIssue i = true → (s.site i).guard p.g = true →
    (s.site i).guard q.g = true → (s.site i).guard o.g = true →
    let b := s.site i
    let n := s.issueCycle i
    let push := fun (k : Instr) (tq : Nat) (v : Word) =>
      ((b.tokens tq).length < 16 → ∃ t, exec k s = .next t ∧ Moved s t i ∧
        (t.site i).tokens tq = b.tokens tq ++ [{ value := v, visible := n + 1 }] ∧
        (∀ j, j ≠ tq → (t.site i).tokens j = b.tokens j) ∧ ∀ c, (t.seen i c).sameRegs b) ∧
      (16 ≤ (b.tokens tq).length → StopsWith s i k .bankClash Clash.tqFull.code)
    push (.tpush i p .clean) p.tq.toNat (b.sreg p.sa.toNat) ∧ push (.tpushi i q .clean) q.tq.toNat q.imm ∧
    (∀ e rest, b.tokens o.tq.toNat = e :: rest → e.visible ≤ n →
      ∃ t, exec (.tpop i o .clean) s = .next t ∧ Moved s t i ∧ (t.site i).tokens o.tq.toNat = rest ∧
        (∀ j, j ≠ o.tq.toNat → (t.site i).tokens j = b.tokens j) ∧
        (let a := t.seen i (n + 2)
         a.sreg o.sd.toNat = e.value ∧ ∀ r, r ≠ o.sd.toNat → a.sreg r = b.sreg r)) ∧
    ((∀ e, (b.tokens o.tq.toNat).head? = some e → n < e.visible) →
      StopsWith s i (.tpop i o .clean) .bankClash Clash.tqEmpty.code)) ∧
  (∀ (s : State) (i : Nat) (f : FmtDM), s.canIssue i = true → (s.site i).guard f.g = true →
    let b := s.site i
    let n := s.issueCycle i
    ∃ t, exec (.dma i f .clean) s = .next t ∧ Moved s t i ∧ (∀ c, (t.seen i c).sameRegs b) ∧ (t.site i).scr = b.scr ∧
      (b.dmaHeld < 64 → (t.site i).ex.pad = b.ex.pad ∧ (t.site i).ex.dmaq = b.ex.dmaq ++
        [{ desc := f.desc.toNat, sa := b.sreg f.sa.toNat, sb := b.sreg f.sb.toNat, cycle := n }]) ∧
      (64 ≤ b.dmaHeld → (t.site i).ex.dmaq = b.ex.dmaq ∧ ∃ p : Flight, (t.site i).ex.pad = b.ex.pad ++ [p] ∧
        p.toTile = b.gtile ∧ p.hop = (b.desc f.desc.toNat).hopper % 4 ∧ p.msg.pinned = n + 1 ∧ p.msg.source = .ownDma ∧
        (p.msg.units.map (fun u => byteAt u.bytes 1)) = [2]))

/-! ### Steering, messages and ponds -/

/-- One steering cycle (R208, R209): an entry with a constant control word that acts on output A moves the visible word of
its token queue to the output's queue, visible from the next cycle. -/
def Obligations.SteeringMovesWord : Prop :=
  ∀ (s : State) (i c n : Nat) (e : SteerEntry) (q r : BitVec 2) (w : Token) (rest : List Token),
    let b := s.site i
    s.turn.window = .work → b.seq.status ≠ .off → b.issuedPast c = true → b.ex.steer ≤ c → c < s.turn.geom.work →
    b.ex.steerOff = false → b.steerEntries c = [(n, e)] →
    e.dsrc = .tq q → e.csrc = none → e.outA = .tq r → r ≠ q → steerAction e e.const = .a → e.payA = 0 →
    b.skid n = Skid.empty → b.tokens q.toNat = w :: rest → w.visible ≤ c → (b.tokens r.toNat).length < 15 →
    ∃ t, exec (.steeringCycle i c none) s = .next t ∧ OnlySite s t i ∧ (t.site i).tokens q.toNat = rest ∧
      (t.site i).tokens r.toNat = b.tokens r.toNat ++ [{ value := w.value, visible := c + 1 }] ∧
      (∀ k, k ≠ q.toNat → k ≠ r.toNat → (t.site i).tokens k = b.tokens k) ∧ (t.site i).skid n = Skid.empty ∧
      (t.site i).ex.steer = c + 1 ∧ t.site i = { b with ex := (t.site i).ex }

/-- MESSAGE_RELEASE (R225, R226, R227): the released message joins the hopper's tail, visible from its release, where the
hopper takes it, and waits in the pad for the pond where it does not; while the pad has no room for it, or against the order
of R226, it is not released. POND_SPILL (R230, R231, R233): once no refill or other spill holds the port, the message that
waits longest is written into the pond at the write position, one unit a cycle, where it fits before the pond's end; a spill
that finds no room stops the site with POND_FULL, and the hopper's later messages are discarded. A message released, or
spilled, after its pinned cycle counts in PAD_LATE and marks the site. POND_REFILL and POND_REFILL_DONE (R232): a complete
spilled message at the pond's head is read back once the hopper has room, before spills in progress, and becomes visible at
its tail 7 cycles after its last unit is read. -/
def Obligations.MessagesAndPonds : Prop :=
  (∀ (s : State) (i slot late : Nat) (f : Flight), nextFlight (s.site i).ex.pad (slot % 4) (slot / 4) = some f →
    ((s.site i).hopper (slot % 4)).failed = false →
    let b := s.site i
    let hop := slot % 4
    let c := f.msg.pinned + late
    let h := (b.hopper hop).tidy c
    let u := (h.msgs.map (fun m => m.units.length)).sum + (if h.freedAt = c then h.freed else 0) + f.msg.units.length
    let direct := h.index = [] ∧ h.waiting = [] ∧ h.refills = [] ∧ h.doneAt ≤ c ∧ u ≤ 64
    let free := b.padRoom f.msg.units.length = true ∧ h.inOrder c f.order = true
    (free → ∃ t, exec (.messageRelease i slot late) s = .next t ∧ (t.site i).ex.pad = b.ex.pad.erase f ∧
      (direct → (t.site i).hopper hop = { h with
          msgs := h.msgs ++ [{ f.msg with visible := c }], relAt := c + 1, relOrder := f.order } ∧
        (t.site i).ex.late = (b.ex.late || decide (0 < late)) ∧
        (t.quad (i / 576)).padLate = min (2 ^ 32 - 1) ((s.quad (i / 576)).padLate + if 0 < late then 1 else 0)) ∧
      (¬ direct → (t.site i).hopper hop = { h with waiting := h.waiting ++ [f.msg], relAt := c + 1, relOrder := f.order } ∧
        (t.site i).ex.late = b.ex.late ∧ t.quads = s.quads) ∧
      (∀ k, k ≠ hop → (t.site i).hopper k = b.hopper k) ∧
      t = { s with sites := t.sites, quads := t.quads } ∧ (∀ j, j ≠ i → t.site j = s.site j) ∧
      ∀ q, q ≠ i / 576 → t.quad q = s.quad q) ∧
    (¬ free → exec (.messageRelease i slot late) s = .next s)) ∧
  (∀ (s : State) (i hop c : Nat) (m : Message) (rest : List Message),
    let b := s.site i
    let h := (b.hopper hop).tidy c
    let k := m.units.length
    h.waiting = m :: rest → h.failed = false →
    (b.refillEnd ≤ c → b.spillEnd ≤ c → h.wpos < h.pondUnits → h.wpos + k ≤ h.pondUnits → h.pondFree c h.wpos k = true →
      h.entries c < 1024 → 1 ≤ k →
      ∃ t, exec (.pondSpill i hop c) s = .next t ∧
        (t.site i).hopper hop = { h with
          waiting := rest, wpos := h.wpos + k
          index := h.index ++ [{ pos := h.wpos, len := k, tag := m.tag, source := m.source
                                 poison := m.units.map (fun u => u.poison), skip := false, spillEnd := c + k - 1 }] } ∧
        (h.pondBase % 64 = 0 → (∀ u ∈ m.units, u.bytes.length = 64) →
          (∀ j u, m.units[j]? = some u → (t.site i).scr.word64 (h.pondBase + 64 * (h.wpos + j)) = u.bytes) ∧
          ∀ x, (x < h.pondBase + 64 * h.wpos ∨ h.pondBase + 64 * (h.wpos + k) ≤ x) → (t.site i).scr.byte x = b.scr.byte x) ∧
        (t.quad (i / 576)).spilled = min (2 ^ 32 - 1) ((s.quad (i / 576)).spilled + 1) ∧
        (t.quad (i / 576)).padLate = min (2 ^ 32 - 1) ((s.quad (i / 576)).padLate + if m.pinned < c then 1 else 0) ∧
        (t.site i).ex.late = (b.ex.late || decide (m.pinned < c)) ∧ ∀ j, j ≠ i → t.site j = s.site j) ∧
    (b.refillEnd ≤ c → b.spillEnd ≤ c → h.spillAt c k = none → b.seq.status = .running →
      ∃ t, exec (.pondSpill i hop c) s = .next t ∧ (t.site i).seq.status = .stopped c ∧ (t.site i).scr = b.scr ∧
        (t.site i).faults.map (fun e => (e.cause, e.cycle)) = b.faults.map (fun e => (e.cause, e.cycle)) ++ [(.pondFull, c)] ∧
        ((t.site i).hopper hop).failed = true ∧ ((t.site i).hopper hop).waiting = [] ∧ (t.site i).ex.steerOff = true) ∧
    (c < b.refillEnd ∨ c < b.spillEnd → exec (.pondSpill i hop c) s = .next s)) ∧
  (∀ (s : State) (i hop c : Nat) (e : PondEntry) (rest : List PondEntry) (r : Refill) (more : List Refill),
    let b := s.site i
    let h := (b.hopper hop).tidy c
    (h.index = e :: rest → e.skip = false → h.room c e.len = true → e.spillEnd < c → b.refillEnd ≤ c →
      ∃ t x, exec (.pondRefill i hop c none) s = .next t ∧ (t.site i).scr = b.scr ∧
        (t.site i).hopper hop = { h with
          index := rest.map (fun z => if c ≤ z.spillEnd then { z with spillEnd := z.spillEnd + e.len } else z)
          rpos := e.pos + e.len, refills := h.refills ++ [x] } ∧
        x.start = c ∧ x.lastRead = c + e.len - 1 ∧ x.pos = e.pos ∧ x.len = e.len ∧ x.msg.tag = e.tag ∧
        x.msg.source = e.source ∧ x.msg.units.length = e.len ∧
        (∀ j, j < e.len → (x.msg.units[j]?).map (fun u => u.bytes) = some (b.scr.word64 (h.pondBase + 64 * (e.pos + j)))) ∧
        ∀ j, j ≠ i → t.site j = s.site j) ∧
    ((b.hopper hop).refills = r :: more → r.lastRead + 7 ≤ c →
      ∃ t, exec (.pondRefillDone i hop c) s = .next t ∧ (t.site i).hopper hop =
        { b.hopper hop with
          refills := more, doneAt := r.lastRead + 8
          msgs := (b.hopper hop).msgs ++ [{ r.msg with visible := r.lastRead + 7 }] } ∧
        (t.site i).scr = b.scr ∧ ∀ j, j ≠ i → t.site j = s.site j))

/-! ### DMA engines and sluices -/

/-- DMA_DESCRIPTOR_FETCH (R143, R144, R113): in a cycle of the work window that leaves the wide port to the engine the oldest
queued descriptor leaves the queue, and in another nothing happens; one that passes its checks starts a transfer that holds what
the descriptor says, and one that does not is answered BAD_COMMAND by a token in the cycle. DMA_TRANSFER_DONE of a DDR transfer
that stands first in its class (R111, R112, R145, R347), from clean units: the scratchpad holds the region's bytes, row by row,
every other byte is as before, and a token with status OK and the byte count goes to the site's own hopper. -/
def Obligations.DdrTransfers : Prop :=
  (∀ (s : State) (i c cycle : Nat) (r : DmaReq) (rest : List DmaReq) (p : Plan),
    let a := (s.upToCycle i cycle).site i
    let b := a.touch cycle (bankOf a.descBase)
    let x := s.ctx c
    let d := b.desc r.desc
    let sc := d.scratch + r.sa.toNat
    let far := d.farBase + r.sb.toNat
    s.turn.window = .work → s.dmaServed i cycle = true → b.ex.dmaq = r :: rest → b.ctx = some c → x.plan = some p →
    (d.op = 1 ∨ d.op = 2 → d.ok p (b.gtile / 512) sc far = true →
      ∃ t y, exec (.dmaDescriptorFetch i cycle) s = .next t ∧ OnlySiteX s t i ∧
        t.site i = { b with ex := { b.ex with dmaq := rest, xferNo := b.ex.xferNo + 1, xfers := b.ex.xfers ++ [y] } } ∧
        y.id = b.ex.xferNo ∧ y.d = d ∧ y.scratch = sc ∧ y.far = far ∧ y.cls = .ddr ∧ y.turn = s.turn.no ∧
        y.quadGen = (s.quad (i / 576)).gen ∧ y.ctxGen = x.gen ∧ y.desc = r.desc ∧
        (y.word, y.sent, y.answered, y.status, y.bytes) = (0, 0, 0, 0, 0)) ∧
    (d.ok p (b.gtile / 512) sc far = false →
      ∃ t f, exec (.dmaDescriptorFetch i cycle) s = .next t ∧ OnlySiteX s t i ∧
        t.site i = { b with ex := { b.ex with dmaq := rest, xferNo := b.ex.xferNo + 1, pad := b.ex.pad ++ [f] } } ∧
        f.msg.pinned = cycle ∧ f.hop = d.hopper % 4 ∧ f.msg.units.map (fun u => byteAt u.bytes 1) = [1])) ∧
  (∀ (s : State) (i cycle : Nat), s.turn.window ≠ .work ∨ s.dmaServed i cycle = false →
    exec (.dmaDescriptorFetch i cycle) s = .next s) ∧
  (∀ (s : State) (i c cycle id : Nat) (y : Transfer) (p : Plan) (g : Region),
    let b := (s.upToCycle i cycle).site i
    let q := i / 576
    let per := y.d.rowBytes / 128
    let n := y.d.total / 128
    let far := fun (k : Nat) => (s.ctx c).regionAt g + y.far + k / per * y.d.stride + 128 * (k % per)
    s.dmaServed i cycle = true → (s.site i).turnTo id = true →
    b.xfer id = some y → y.cls = .ddr → y.d.op = 1 → y.silent = false → y.status = 0 → b.ctx = some c →
    (s.ctx c).plan = some p → p.body.regions[y.d.farRegion]? = some g → y.scratch % 128 = 0 → y.d.rowBytes % 128 = 0 →
    (∀ k, k < n → s.dmaAccess i b (y.scratch + 128 * k) cycle = .ok ∧ (s.eccOf q (far k / 128) []).lost = false) →
    ∃ t f, exec (.dmaTransferDone i id cycle []) s = .next t ∧
      (∀ k j, k < n → j < 128 → (t.site i).scr.byte (y.scratch + 128 * k + j) = (s.ddr.memory q).byte (far k + j)) ∧
      (∀ a, (a < y.scratch ∨ y.scratch + 128 * n ≤ a) → (t.site i).scr.byte a = b.scr.byte a) ∧
      (t.site i).ex.pad = b.ex.pad ++ [f] ∧ f.hop = y.d.hopper % 4 ∧ f.msg.pinned = cycle ∧
      f.msg.units.map (fun u => (byteAt u.bytes 1, leAt u.bytes 8 4)) = [(0, (y.bytes + 128 * n) % 2 ^ 32)] ∧
      (t.site i).xfer id = none ∧ (t.site i).sameRegs b ∧ (∀ j, j ≠ i → t.site j = s.site j) ∧
      (∀ q, t.ddr.memory q = s.ddr.memory q))

/-- SLUICE_WRITE_ARRIVAL (R240, R241, Table 8.4): the next word of a transfer to a tile of the device is judged at the
owner's router; an admitted one waits at the owner's site for its bank and is counted, and a refused one is answered with
the verdict's status. SLUICE_WRITE_LAND and SLUICE_ANSWER_ARRIVAL (R242, R243, R244): in a cycle that leaves it the port and
the bank, the oldest admitted write to the bank
is written, 64 bytes with their poison and no other byte, and its answer reaches the engine, which counts the word; a
violation is recorded against the sending site, which goes on. -/
def Obligations.SluiceWrites : Prop :=
  (∀ (s : State) (i c cycle id dq : Nat) (y : Transfer),
    let b := s.site i
    let q := i / 576
    let per := y.d.rowBytes / 64
    let off := y.far + y.word / per * y.d.stride + 64 * (y.word % per)
    let sc := y.scratch + 64 * y.word
    let tile := y.d.dest % 2048
    let v := s.judge dq (tile / 512) (tile % 512) (y.d.farRegion % 256) off cycle (if dq = q then .same else .other) (.inl c)
    b.xfer id = some y → b.ctx = some c → (y.cls = .sameQuad ∨ y.cls = .otherQuad) → y.word < y.d.words →
    b.turnTo id = true → s.dmaServed i cycle = true →
    s.writeWaits dq (tile / 512) (y.d.farRegion % 256) off (.inl c) = false → s.dmaAccess i b sc cycle = .ok → (s.ctx c).quads[tile / 512]? = some dq → y.quadGen = (s.quad q).gen →
    y.ctxGen = (s.ctx c).gen →
    (∀ k e, v = .allow k → (s.quad dq).sluices.find? (fun z => z.1 == k) = some (k, e) →
      ∃ t w, exec (.sluiceWriteArrival i id cycle none) s = .next t ∧
        (t.site (s.siteOf dq (e.owner % 512))).ex.writes = (s.site (s.siteOf dq (e.owner % 512))).ex.writes ++ [w] ∧ w.addr = e.base + off ∧ w.bytes = b.scr.word64 sc ∧
        w.poison = b.scr.poison64 sc ∧ w.fromSite = i ∧ w.xfer = id ∧
        (t.site i).xfer id = some { y with word := y.word + 1, sent := y.sent + 1 } ∧
        (t.quad dq).sluices.find? (fun z => z.1 == k) = some (k, { e with admitted := min (e.admitted + 1) (2 ^ 64 - 1) }) ∧
        (∀ j, (t.site j).scr = (s.site j).scr)) ∧
    (∀ st cond, v.answer = some (st, cond) →
      ∃ t, exec (.sluiceWriteArrival i id cycle none) s = .next t ∧
        (t.site i).ex.answers = b.ex.answers ++ [{ xfer := id, status := st, cond := cond, off := off }] ∧
        (t.site i).xfer id = some { y with word := y.word + 1, sent := y.sent + 1 } ∧
        ∀ j, (t.site j).ex.writes = (s.site j).ex.writes ∧ (t.site j).scr = (s.site j).scr)) ∧
  (∀ (s : State) (i bank cycle id : Nat) (w : SluiceWrite) (r : Answer) (y : Transfer),
    let b := s.site i
    let u := s.upToCycle i cycle
    let room := u.portWrites (u.site i) bank cycle
    (b.ex.writes.find? (fun z => bankOf z.addr == bank) = some w → room = false → exec (.sluiceWriteLand i bank cycle) s = .next s) ∧
    (b.ex.writes.find? (fun z => bankOf z.addr == bank) = some w → room = true → w.addr % 64 = 0 → w.bytes.length = 64 → w.fromSite < fromPort →
      ∃ t, exec (.sluiceWriteLand i bank cycle) s = .next t ∧ (t.site i).ex.writes = b.ex.writes.erase w ∧
        (∀ a, (t.site i).scr.byte a = if w.addr ≤ a ∧ a < w.addr + 64 then byteAt w.bytes (a - w.addr) else b.scr.byte a) ∧
        (t.site i).scr.poison64 w.addr = w.poison ∧
        (t.site w.fromSite).ex.answers = (s.site w.fromSite).ex.answers ++
          [{ xfer := w.xfer, status := if w.poison then 6 else 0, cond := 0, off := 0 }] ∧
        (∀ j, j ≠ i → (t.site j).scr = (s.site j).scr)) ∧
    (b.ex.answers.find? (fun z => z.xfer == id) = some r → b.xfer id = some y → y.status = 0 →
      ∃ t z, exec (.sluiceAnswerArrival i id cycle) s = .next t ∧ OnlySiteX s t i ∧
        (t.site i).ex.answers = b.ex.answers.erase r ∧ (t.site i).xfer id = some z ∧ z.answered = y.answered + 1 ∧
        z.bytes = y.bytes + (if r.status = 0 ∨ r.status = 6 then 64 else 0) ∧
        z.status = (if r.status = 0 then 0 else if r.status = 6 then 6 else if r.status = 1 then 1 else
          if r.status = 3 then 3 else if r.status = 4 then 4 else 5) ∧
        (t.site i).seq = b.seq ∧ (t.site i).scr = b.scr ∧
        (t.site i).faults.map (fun e => (e.cause, e.cycle)) = b.faults.map (fun e => (e.cause, e.cycle)) ++
          (if r.status = 1 ∧ y.violation = none then [(.sluiceViolation, cycle)] else [])))

/-- DMA_TOKEN_CLOSE_DEADLINE (R378): the token of a transfer to another device whose packets have gone out is sent at the last
close cycle with its unanswered words, and with NO_RESOURCE where nothing else went wrong; in another window, or once the
token has been sent, nothing happens. BANK_DRAIN_DONE and BANK_DRAIN_TIMEOUT (R268): a bank that goes OFF loses its content,
and no other byte of the site, once its admitted writes are done, or with them after the time-out, which NACKs each with
BANK_OFF and counts it; the packets that wait for other words go on waiting. -/
def Obligations.DeadlineAndDrains : Prop :=
  ∀ (s : State) (i id bank : Nat) (y : Transfer),
    let b := s.site i
    let mine := fun (w : SluiceWrite) => bankOf w.addr == bank
    (b.xfer id = some y → s.turn.window ≠ .close ∨ y.tokenSent = true → exec (.dmaTokenCloseDeadline i id) s = .next s) ∧
    (b.xfer id = some y → s.turn.window = .close → y.cls = .otherDevice → y.tokenSent = false → y.silent = false → 0 < y.sent →
      ∃ t f, exec (.dmaTokenCloseDeadline i id) s = .next t ∧ OnlySiteX s t i ∧ (t.site i).ex.pad = b.ex.pad ++ [f] ∧
        f.msg.pinned = s.turn.geom.cycles ∧ f.hop = y.d.hopper % 4 ∧
        f.msg.units.map (fun u => (byteAt u.bytes 1, leAt u.bytes 24 4)) =
          [(if y.status = 0 ∧ y.answered < y.d.words then 2 else BitVec.ofNat 8 y.status, (y.d.words - y.answered) % 2 ^ 32)] ∧
        (t.site i).xfer id = some { y with tokenSent := true } ∧ (t.site i).scr = b.scr) ∧
    (b.bank.draining.contains bank = false ∨ b.ex.writes.any mine = true → exec (.bankDrainDone i bank) s = .next s) ∧
    (b.bank.draining.contains bank = true → b.ex.writes.any mine = false →
      ∃ t, exec (.bankDrainDone i bank) s = .next t ∧ OnlySiteX s t i ∧ (t.site i).bank.draining.contains bank = false ∧
        (t.site i).ex = b.ex ∧ (t.site i).sameRegs b ∧ (∀ k, k ≠ bank → k ∈ b.bank.draining → k ∈ (t.site i).bank.draining) ∧
        (∀ w, (t.site i).scr.isPoisoned w = (b.scr.isPoisoned w && decide (w * 64 / 32768 ≠ bank))) ∧
        ∀ a, (t.site i).scr.byte a = if a / 32768 = bank then 0 else b.scr.byte a) ∧
    (b.bank.draining.contains bank = true →
      ∃ t, exec (.bankDrainTimeout i bank) s = .next t ∧ (t.site i).ex.writes = b.ex.writes.filter (fun w => !mine w) ∧
        (∀ a, (t.site i).scr.byte a = if a / 32768 = bank then 0 else b.scr.byte a) ∧
        (∀ j, (t.site j).ex.answers = (s.site j).ex.answers ++
          ((b.ex.writes.filter (fun w => mine w && decide (w.fromSite = j ∧ j < fromPort))).map
            (fun w => { xfer := w.xfer, status := 4, cond := 0, off := 0 }))) ∧
        (∀ r ∈ s.avdin.arrivals, (∀ w ∈ b.ex.writes, mine w = true → w.fromSite ≠ fromPort + r.id) → r ∈ t.avdin.arrivals) ∧
        t.reef.bankOffDrops = min (s.reef.bankOffDrops + (b.ex.writes.filter mine).length) (2 ^ 16 - 1) ∧
        t.reef.drainTimeouts = min (s.reef.drainTimeouts + 1) (2 ^ 16 - 1))

/-! ### The turn -/

/-- TURN_BOUNDARY and TURN_STEP (R21, R32, R252): boundary TURN_NO + 1, or the one that a step names, begins the intake
window in cycle 0, takes the turn's energy and the input voltage, and empties what the turn counted; outside the close
window (R15) and their turns they do nothing. A step counts and leaves no committed change set of a host. -/
def Obligations.TurnBoundary : Prop :=
  ∀ (s : State) (e v : Nat),
    let begun := fun (t : State) (no : Nat) => t.turn.no = no ∧ t.turn.window = .intake ∧ t.turn.cycle = 0 ∧
      t.turn.running = true ∧ t.turn.geom = s.turn.geom ∧ t.readUnits = 0 ∧ t.reef.energy = s.reef.energy + e ∧
      t.reef.eMeas = e ∧ t.mod.vinMv = v ∧ t.reef.temps = s.reef.tempsNow ∧ t.reef.tempsNow = [] ∧ t.pending = s.pending
    (s.turn.running = true → s.turn.window = .close → s.turn.stepTurn = false → ∃ t, exec (.turnBoundary e v) s = .next t ∧
      begun t ((s.turn.no + 1) % 2 ^ 64) ∧ t.turn.stepTurn = s.turn.stepPending ∧ t.turn.stepPending = false ∧
      t.turn.sinceMark = s.turn.sinceMark + 1 ∧ t.turn.sinceKey = s.turn.sinceKey + 1 ∧
      t.turn.clock = s.turn.clock + s.turn.geom.cycles ∧ t.turn.stepCount = s.turn.stepCount) ∧
    (s.turn.running = true → s.turn.window = .close → s.turn.stepTurn = true → ∃ t, exec (.turnStep e v) s = .next t ∧
      begun t ((s.turn.stepTo.getD (s.turn.no + 1)) % 2 ^ 64) ∧ t.turn.stepTurn = false ∧ t.turn.stepTo = none ∧
      t.turn.stepCount = min (s.turn.stepCount + 1) (2 ^ 16 - 1) ∧
      ∀ k z, k < 65536 → alook t.sets k = some z → z.state ≠ .committed) ∧
    (s.turn.running = false ∨ s.turn.window ≠ .close ∨ s.turn.stepTurn = true → exec (.turnBoundary e v) s = .next s) ∧
    (s.turn.running = false ∨ s.turn.window ≠ .close ∨ s.turn.stepTurn = false → exec (.turnStep e v) s = .next s)

/-- WORK_WINDOW_START and DRESSING_WINDOW_START (R35, R125, R261): the window changes in its order; a tile that the running
gearing's entry names starts at its slot and bundle with cleared matrix and vector units and its scratchpad kept; and a site
that still runs when the work window ends stops with TURN_OVERRUN, the turn counting as overrun. -/
def Obligations.WorkAndDressingWindows : Prop :=
  ∀ (s : State),
    (s.turn.running = true → s.turn.window = .intake → ∃ t, exec .workWindowStart s = .next t ∧ t.turn.window = .work ∧
      t.turn.cycle = 2048 ∧ t.epochs = s.epochs + 1 ∧
      (∀ c i (p : Plan) (d : PlanTile) e, c < 16 → s.runs c = true → (∀ k, k ≠ c → s.runs k = false) → (s.ctx c).plan = some p →
        p.body.tiles = [d] → s.siteOfTile (s.ctx c) d.tile = some i → (s.site i).role = .live →
        d.entries.find? (fun z => z.gearing == (s.ctx c).gearing) = some e →
        (t.site i).seq.status = .running ∧ (t.site i).seq.pc = e.bundle ∧ (t.site i).seq.slot = e.slot ∧
        (t.site i).seq.next = 0 ∧ (t.site i).seq.loops = [] ∧ (t.site i).mat = MatrixUnit.cleared ∧ (t.site i).vec.flags = [] ∧
        (t.site i).scr = (s.site i).scr ∧ (t.site i).ex = (s.site i).ex ∧
        (∀ j, j ≠ i → t.site j = { s.site j with service := (t.site j).service }) ∧
        (t.ctx c).ran = true)) ∧
    (s.turn.running = true → s.turn.window = .work → ∃ t, exec .dressingWindowStart s = .next t ∧ t.turn.window = .dressing ∧
      t.turn.cycle = s.turn.geom.start .dressing ∧ t.turn.no = s.turn.no ∧
      t.turn.overrunTurns = min (s.turn.overrunTurns + (if allCtxs.any (fun c => (s.ctx c).ran &&
        (s.ctxSites c).any (fun i => (s.site i).seq.status.overrun)) then 1 else 0)) (2 ^ 32 - 1) ∧
      (∀ c i, c < 16 → (s.ctx c).ran = true → (∀ k, k ≠ c → (s.ctx k).ran = false) → s.ctxSites c = [i] →
        (s.site i).seq.status = .running →
        (t.site i).seq.status = .stopped (s.turn.geom.work - 1) ∧ (t.site i).ex.dmaq = [] ∧ (t.site i).seq.landings = [] ∧
        (t.site i).faults.map (fun f => (f.cause, f.cycle)) =
          (s.site i).faults.map (fun f => (f.cause, f.cycle)) ++ [(.turnOverrun, s.turn.geom.work - 1)] ∧
        (t.site i).scr = (s.site i).scr ∧ ∀ j, j ≠ i → t.site j = { s.site j with service := (t.site j).service })) ∧
    (s.turn.window ≠ .intake → exec .workWindowStart s = .next s) ∧
    (s.turn.window ≠ .work → exec .dressingWindowStart s = .next s)

/-- TURN_MARK_RECEIVE (R26, R29, R31, R33): any mark ends HOLDOVER and its count; a mark of another geometry unlocks the
device and ends a step; the first mark that wins is adopted, sent on with one more hop and followed by a request for the full
TURN_NO (R25), and where boundaries or the TURN_NO known differ a step is pending. HOLDOVER_ENTER after 8 turns
without a mark, and MASTER_KEY_DISCARD after 64 without the master's: an eligible device is its own master again, locked
unless marks of another geometry are still heard (R31, R44). -/
def Obligations.MarksAndMasters : Prop :=
  ∀ (s : State) (port : Nat) (m : Mark),
    let own := fun (t : State) (u : Turn) => t = { s with turn := u, out := t.out, avdin := t.avdin }
    let heard := { s.turn with
      sinceMark := 0, holdover := false, sinceKey := if s.turn.follows m then 0 else s.turn.sinceKey }
    (s.turn.running = true → s.carries port = true →
      (m.geometry ≠ s.turn.geom.word → exec (.turnMarkReceive port m) s = .next { s with turn := { heard with
        mismatch := true, locked := false, stepPending := false, stepTurn := false, stepTo := none } }) ∧
      (m.geometry = s.turn.geom.word → 96 < m.hops → exec (.turnMarkReceive port m) s = .next { s with turn := heard }) ∧
      (m.geometry = s.turn.geom.word → m.hops ≤ 96 → 0 < m.priority → s.turn.ownPrio = 0 → s.turn.best = none →
        ∃ t l, exec (.turnMarkReceive port m) s = .next t ∧ own t t.turn ∧ t.turn.isMaster = false ∧
          t.turn.best = some (port, m) ∧ t.turn.holdover = false ∧ t.turn.mismatch = false ∧ t.turn.sinceMark = 0 ∧
          t.turn.sinceKey = 0 ∧ t.turn.masterHops = m.hops ∧ t.turn.masterPos = m.pos ∧
          t.turn.masterPrio = m.priority ∧ t.turn.offsetNs = m.offset ∧ t.turn.no = s.turn.no ∧ t.turn.masterNo = none ∧
          (m.aligned = true → m.turnLow = s.turn.no % 65536 → t.turn.locked = true ∧ t.turn.stepPending = false) ∧
          (m.aligned = false ∨ m.turnLow ≠ s.turn.no % 65536 → s.turn.stepTurn = false →
            t.turn.stepPending = true ∧ t.turn.stepTo = some (s.turn.no / 65536 * 65536 + m.turnLow + 1)) ∧
          t.out = s.out ++ ((s.mod.order.ports.filter (fun n => s.carries n && some n != some port)).map
            (fun n => .mark n { m with hops := m.hops + 1 })) ++ l ∧ ∀ o ∈ l, ∃ p, o = .packet port p)) ∧
    (s.turn.locked = true → s.turn.isMaster = false → 8 ≤ s.turn.sinceMark →
      exec .holdoverEnter s = .next { s with turn := { s.turn with holdover := true } }) ∧
    (s.turn.best.isSome = true → 64 ≤ s.turn.sinceKey → ∃ t, exec .masterKeyDiscard s = .next t ∧ own t t.turn ∧
      t.turn.best = none ∧ t.turn.isMaster = decide (0 < s.turn.ownPrio) ∧
      (0 < s.turn.ownPrio → t.turn.locked = !(s.turn.mismatch && decide (s.turn.sinceMark < 8)) ∧
        t.turn.holdover = false ∧ t.turn.masterPrio = s.turn.ownPrio ∧
        t.turn.masterHops = 0) ∧ t.out = s.out)

/-! ### Change sets -/

/-- CHANGE_SET_STAGED and CHANGE_SET_EXPIRE (R38, R39): in the work and dressing windows a set held at its units is STAGED,
or COMMITTED where it was, and a STAGED host set without a commit for 4,096 turns is discarded. GOVERNOR_STAGE (R259) commits
a switch to the target gearing for the next boundary on, unless a host set holds one of its units, which is counted.
CHANGE_SET_APPLY (R41): in the first cycle after its boundary a host set that every unit holds is applied whole and is gone,
and one that a unit does not hold or has lost, or that needs a drain by now, is discarded with nothing applied; before its
boundary it waits. A VOUCH change sets the mode of its context, a reef range its bounds, an audit change RESERVE, a geometry
change the geometry of the turn. -/
def Obligations.ChangeSets : Prop :=
  (∀ (s : State) (key c : Nat) (z : ChangeSet),
    let switch : ChangeSet :=
      { changes := [.gearing c (s.ctx c).target], state := .committed, held := false, lost := false, age := 0,
        commit := s.turn.no + 1 }
    (s.turn.running = true → s.turn.window = .work ∨ s.turn.window = .dressing →
      key < 65536 → alook s.sets key = some z → z.held = false → z.state = .opened ∨ z.state = .committed →
      ∃ t y, exec (.changeSetStaged key) s = .next t ∧ alook t.sets key = some y ∧ y.held = true ∧ y.changes = z.changes ∧
        y.commit = z.commit ∧ y.state = (if z.state = .opened then .staged else .committed) ∧ y.age = 0 ∧
        t.cmds = s.cmds.filter (fun x => !(x.opc == 0x04 && x.arg == key)) ∧
        t = { s with sets := t.sets, cmds := t.cmds, fns := t.fns } ∧ (∀ k, k ≠ key → alook t.sets k = alook s.sets k)) ∧
    (alook s.sets key = some z → key < 65536 → z.state = .staged → 4096 ≤ z.age →
      ∃ t, exec (.changeSetExpire key) s = .next t ∧ alook t.sets key = none ∧
        t.turn.discarded = min (s.turn.discarded + 1) (2 ^ 32 - 1) ∧ t.sites = s.sites) ∧
    (c < 16 → (s.ctx c).active = true → (s.ctx c).target ≠ (s.ctx c).gearing → alook s.sets (65536 + c) = none →
      s.check.chipBraked = false → s.ctxBraked c = false →
      (s.heldElsewhere (65536 + c) (.gearing c (s.ctx c).target) = false →
        exec (.governorStage c) s = .next { s with sets := aset s.sets (65536 + c) switch }) ∧
      (s.heldElsewhere (65536 + c) (.gearing c (s.ctx c).target) = true →
        ∃ t, exec (.governorStage c) s = .next t ∧ t = { s with reef := t.reef } ∧ c ∈ t.reef.dropped ∧
          t.reef.level = s.reef.level ∧ t.reef.switchDiscarded = min (s.reef.switchDiscarded + 1) (2 ^ 16 - 1)))) ∧
  (∀ (s : State) (key : Nat) (z : ChangeSet), key < 65536 → alook s.sets key = some z → z.state = .committed →
    let whole := z.held = true ∧ z.lost = false ∧ ∀ ch ∈ z.changes, s.needsDrain key ch = false
    (z.commit ≠ s.turn.no ∨ s.turn.window ≠ .intake ∨ s.turn.cycle ≠ 0 → exec (.changeSetApply key) s = .next s) ∧
    (s.turn.running = true → s.turn.window = .intake → s.turn.cycle = 0 → z.commit = s.turn.no →
      (∀ u, whole → s.applyAll z.changes = some u → ∃ t, exec (.changeSetApply key) s = .next t ∧ alook t.sets key = none ∧
        t.ctxs = u.ctxs ∧ t.sites = u.sites ∧ t.quads = u.quads ∧ t.turn.geom = u.turn.geom ∧
        t.turn.applied = min (u.turn.applied + 1) (2 ^ 32 - 1)) ∧
      (¬whole ∨ s.applyAll z.changes = none → ∃ t, exec (.changeSetApply key) s = .next t ∧ t.ctxs = s.ctxs ∧
        alook t.sets key = none ∧ t.turn.discarded = min (s.turn.discarded + 1) (2 ^ 32 - 1) ∧ t.sites = s.sites ∧ t.quads = s.quads))) ∧
  (∀ (s : State) (c q r lo hi : Nat) (on : Bool) (g : Geometry),
    (∃ u, s.applyAll [.vouch c on] = some u ∧ (u.ctx c).vouchOn = on ∧ u.sites = s.sites ∧ u.quads = s.quads ∧
      ∀ k, k ≠ c → u.ctx k = s.ctx k) ∧
    (∃ u, s.applyAll [.reefRange c lo hi] = some u ∧ (u.ctx c).rangeMin = lo ∧ (u.ctx c).rangeMax = hi ∧ u.sites = s.sites ∧
      u.quads = s.quads ∧ ∀ k, k ≠ c → u.ctx k = s.ctx k) ∧
    (∃ u, s.applyAll [.audit q r] = some u ∧ (u.quad q).reserve = r ∧ u.ctxs = s.ctxs ∧ ∀ k, k ≠ q → u.quad k = s.quad k) ∧
    (∃ u, s.applyAll [.geometry g] = some u ∧ u.turn.geom = g ∧ u.sites = s.sites))

/-! ### The close -/

/-- CLOSE_WINDOW_START (R393 to R395, R63): at the close the turn of a context that ran and raised no fault is vouched and
CTX_TURN rises; where its sites raised plan faults the turn is withheld, CTX_TURN stands, and the context is FAULTED. Stated
of a device with one loaded context and a close without findings, in which no auditor brings an audit to its end. -/
def Obligations.CloseOfTurn : Prop :=
  ∀ (s : State) (c : Nat), c < 16 → s.live = true → s.turn.window = .dressing → (s.ctx c).ran = true → s.digestBad c = none →
    s.twinCompare c = (false, false) → (∀ k, k ≠ c → s.ctx k = Ctx.reset) →
    (s.faultsOf c = [] → ∃ t, exec (.closeWindowStart CloseFacts.clean) s = .next t ∧ t.turn.window = .close ∧
      t.turn.cycle = s.turn.geom.start .close ∧ t.turn.no = s.turn.no ∧ (t.ctx c).turn = ((s.ctx c).turn + 1) % 2 ^ 64 ∧
      (t.ctx c).lastVouched = s.turn.no ∧ (t.ctx c).redo = false ∧ t.check.vouched = min (s.check.vouched + 1) (2 ^ 32 - 1)) ∧
    (s.faultsOf c ≠ [] → (∀ e ∈ s.faultsOf c, e.2.cause.isPlan = true) → (s.ctx c).state = .running →
      ∃ t, exec (.closeWindowStart CloseFacts.clean) s = .next t ∧ t.turn.window = .close ∧
        t.turn.cycle = s.turn.geom.start .close ∧ t.turn.no = s.turn.no ∧ (t.ctx c).turn = (s.ctx c).turn ∧
        (t.ctx c).state = .faulted ∧ (t.ctx c).prior = .running ∧ (t.ctx c).redo = true ∧ t.check.vouched = s.check.vouched ∧
        t.check.withheld = min (s.check.withheld + 1) (2 ^ 32 - 1))

/-- HW_CHECK_WATCH_END, DIAGNOSIS_END and HUB_LOCKSTEP (R397 to R399, R408): a check that did not fire again was a transient
and is counted; one that did, and a diagnosis that found no defect, are doubt, which brakes the quadrants of the suspects
and makes the device SUSPECT; a mismatch in hub control brakes the chip at once. -/
def Obligations.ChecksAndDoubt : Prop :=
  ∀ (s : State), s.live = true →
    (∀ (i : Nat) (w : HwWatch), s.check.watch i = some w → s.turn.closed (w.since + 3) = true →
      ∃ t, exec (.hwCheckWatchEnd i) s = .next t ∧ t.check.watch i = none ∧
        (w.again = false → t.sites = s.sites ∧ t.ctxs = s.ctxs ∧ t.fns = s.fns ∧
          (t.quad (i / 576)).transients = min ((s.quad (i / 576)).transients + 1) (2 ^ 16 - 1)) ∧
        (w.again = true → i / 576 ∈ s.mod.order.quads → t.check.suspect = true ∧ t.check.drainRequest = true ∧
          t.mod.brakeN = false ∧ (t.quad (i / 576)).braked = true)) ∧
    (∀ (c : Nat) (d : Diagnosis), (s.ctx c).diag = some d → s.turn.closed (d.started + 3) = true →
      ∃ t, exec (.diagnosisEnd c) s = .next t ∧ (t.ctx c).diag = none ∧ t.check.suspect = true ∧ t.check.drainRequest = true ∧
        t.mod.brakeN = false ∧ ∀ i ∈ d.suspects, i / 576 ∈ s.mod.order.quads → (t.quad (i / 576)).braked = true) ∧
    (∃ t, exec .hubLockstep s = .next t ∧ t.check.chipBraked = true ∧ t.mod.dev = .braked ∧ t.mod.brakeN = false ∧
      ∀ q ∈ s.mod.order.quads, (t.quad q).braked = true)

/-! ### Contexts -/

/-- CTX_START, CTX_PAUSE, CTX_RESUME and CTX_DRAIN (R303, R304, R294): accepted in their states they are outstanding, and
the context's transition waits, or the context is DRAINING; nothing else changes. CTX_START and CTX_RESUME are refused with
NO_RESOURCE where the context lost a site or a channel that it needs. CTX_ASSIGN and CTX_QUERY (R283, R301): an EMPTY
context whose ring is out of service passes to another function of the module; a query answers with the context's state,
gearing, owner, CTX_TURN, streams and gearings and changes nothing. LATE_RESUME (R437): at the boundary after a plan fault
that a late delivery may have caused, the context returns once to the state it had, to execute the withheld turn again; a
second time, or after another cause, nothing happens. -/
def Obligations.Contexts : Prop :=
  (∀ (s : State) (h : CmdHead),
    let x := s.ctx h.ctx
    let fit := x.starved = false ∧ s.lacksSite h.ctx = false
    (s.reads h 0x10 .context true → x.state = .loaded → x.marked = false → x.trans = none →
      (fit → ∃ t, exec (.ctxStart h) s = .next t ∧ Accepts s t h (outstanding h 0x10 0 4096) ∧ OnlyCtx s t h.ctx ∧
        t.ctx h.ctx = { x with trans := some .start }) ∧
      (¬fit → ∃ t, exec (.ctxStart h) s = .next t ∧ Completes s t h 0x10 .noResource [] ∧ OnlyRings s t)) ∧
    (s.reads h 0x11 .context true → x.state = .running → x.trans = none →
      ∃ t, exec (.ctxPause h) s = .next t ∧ Accepts s t h (outstanding h 0x11 0 4096) ∧ OnlyCtx s t h.ctx ∧
        t.ctx h.ctx = { x with trans := some .pause }) ∧
    (s.reads h 0x12 .context true → x.state = .paused ∨ x.state = .faulted → x.marked = false → x.trans = none →
      (fit → ∃ t, exec (.ctxResume h) s = .next t ∧ Accepts s t h (outstanding h 0x12 0 4096) ∧ OnlyCtx s t h.ctx ∧
        t.ctx h.ctx = { x with trans := some .resume }) ∧
      (¬fit → ∃ t, exec (.ctxResume h) s = .next t ∧ Completes s t h 0x12 .noResource [] ∧ OnlyRings s t)) ∧
    (∀ flags, flags ≤ 1 → s.reads h 0x13 .context true → x.state = .running ∨ x.state = .paused → x.trans = none →
      ∃ t, exec (.ctxDrain h flags) s = .next t ∧ Accepts s t h (outstanding h 0x13 0 4096) ∧ OnlyCtx s t h.ctx ∧
        t.ctx h.ctx = { x with state := .draining, cancelDrain := flags == 1 })) ∧
  (∀ (s : State) (h : CmdHead),
    let x := s.ctx h.ctx
    (∀ f ∈ s.functions, s.reads h 0x03 .pfManagement true → x.state = .empty → (s.ring x.owner (h.ctx + 1)).state = .disabled →
      ∃ t, exec (.ctxAssign h f) s = .next t ∧ Completes s t h 0x03 .ok [] ∧ OnlyCtx s t h.ctx ∧
        t.ctx h.ctx = { x with owner := f }) ∧
    (s.reads h 0x08 .management true → ∃ t, exec (.ctxQuery h) s = .next t ∧ OnlyRings s t ∧
      Completes s t h 0x08 .ok ([BitVec.ofNat 8 x.state.code, BitVec.ofNat 8 x.gearing, BitVec.ofNat 8 x.owner, 0, 0, 0, 0, 0] ++
        leBytes 8 x.turn ++ leBytes 4 (s.activeOf h.ctx).length ++
        leBytes 4 ((s.streamsOf h.ctx).filter (fun e => e.2.state == .idle)).length ++ leBytes 4 (gearMask x.usable) ++
        (List.range 4).map (fun r => BitVec.ofNat 8 (x.reefMap.getD r 0))))) ∧
  (∀ (s : State) (c : Nat),
    let x := s.ctx c
    let may := x.late = true ∧ x.lateTried = false ∧ ∀ k ∈ x.causes, k = .skewOverflow ∨ k = .pondFull ∨ k = .turnOverrun
    (s.turn.running = true → s.turn.window = .intake → x.state = .faulted → x.marked = false → x.trans = none →
      (may → ∃ t, exec (.lateResume c) s = .next t ∧ (t.ctx c).state = x.prior ∧ (t.ctx c).redo = true ∧
        (t.ctx c).lateTried = true ∧ (t.ctx c).turn = x.turn ∧ t.sites = s.sites ∧ t.quads = s.quads) ∧
      (¬may → exec (.lateResume c) s = .next s)))

/-- PLAN_LOAD and PLAN_LOAD_DONE (R76, R302): an image that cannot be read fails check 1 at once; one that passes every
check binds the context, LOADING under its next generation; a load whose incomplete sites have yet to be replaced goes on; when
the load is done the plan's tiles are in their sites and the context is LOADED with CTX_TURN 0 (R63), or EMPTY where a check
failed. PLAN_UNLOAD, PLAN_UNLOAD_DONE, CTX_ABORT and CTX_ABORT_DONE (R303,
R442): an unload is outstanding until its end leaves the context EMPTY, its sites without a tile and its streams FREE; an
abort stops a context at once, under a new generation, and its end gives the sites the loaded image again. -/
def Obligations.Plans : Prop :=
  (∀ (s : State) (h : CmdHead) (image home quads pipeline prevPos : Nat) (body : PlanBody),
    let x := s.ctx h.ctx
    let e := exec (.planLoad h image home quads pipeline prevPos body) s
    (s.reads h 0x01 .management true → x.state = .empty → quads < 16 → pipeline < 2 ^ 12 → prevPos < 2 ^ 18 →
      h.fn = 0 ∨ quads = 0 ∨ quads.testBit (h.fn - 1) = true →
      (s.imageReadable image = false →
        ∃ t, e = .next t ∧ Completes s t h 0x01 .badCommand (loadResult Ctx.reset 1) ∧ OnlyRings s t) ∧
      (∀ l, s.imageReadable image = true → s.loadVerdict h.fn image home quads body = .loads l →
        ∃ t, e = .next t ∧ Accepts s t h (outstanding h 0x01 0 4096) ∧ t.sites = s.sites ∧
          (t.ctx h.ctx).state = .loading ∧ (t.ctx h.ctx).plan = some { hdr := l.hdr, manifest := l.manifest, body := body } ∧
          (t.ctx h.ctx).quads = l.quads ∧ (t.ctx h.ctx).usable = l.usable ∧ (t.ctx h.ctx).reefMap = l.map ∧
          (t.ctx h.ctx).gen = (x.gen + 1) % 256 ∧ (t.ctx h.ctx).owner = x.owner ∧ ∀ k, k ≠ h.ctx → t.ctx k = s.ctx k) ∧
      (∀ n st, s.imageReadable image = true → s.loadVerdict h.fn image home quads body = .fails n st →
        ∃ t, e = .next t ∧ Accepts s t h (outstanding h 0x01 0 4096) ∧ OnlyCtx s t h.ctx ∧ (t.ctx h.ctx).state = .loading ∧
          (t.ctx h.ctx).plan = none ∧ (t.ctx h.ctx).load.map (fun w => (w.failed, w.status)) = some (n, st.code))) ∧
    (∀ (c : Nat) (w : LoadWork), (s.ctx c).load = some w → (s.ctx c).state = .loading →
      ((∃ q ∈ (s.ctx c).quads, (s.quad q).load.kind = 2 ∧ (s.quad q).load.bad ≠ []) → exec (.planLoadDone c) s = .next s) ∧
      (w.status = 0 → (∀ q ∈ (s.ctx c).quads, (s.quad q).load.kind ≠ 2 ∨ (s.quad q).load.bad = []) →
        ∃ t, exec (.planLoadDone c) s = .next t ∧ (t.ctx c).state = .loaded ∧ (t.ctx c).load = none ∧ (t.ctx c).turn = 0 ∧
        (∀ y ∈ t.cmds, isCmd 0x01 c y = false) ∧ ∀ (p : Plan) (d : PlanTile) i, (s.ctx c).plan = some p →
          p.body.tiles.filter (fun z => s.siteOfTile (s.ctx c) z.tile == some i) = [d] → t.site i = d.load c (s.site i)) ∧
      (w.status ≠ 0 → (∀ q ∈ (s.ctx c).quads, (s.quad q).load.kind ≠ 2 ∨ (s.quad q).load.bad = []) →
        ∃ t, exec (.planLoadDone c) s = .next t ∧ (t.ctx c).state = .empty ∧ (t.ctx c).plan = none ∧
        t.sites = s.sites ∧ ∀ y ∈ t.cmds, isCmd 0x01 c y = false))) ∧
  (∀ (s : State) (h : CmdHead) (c : Nat),
    let x := s.ctx h.ctx
    (s.reads h 0x02 .management true → x.state = .loaded ∨ x.state = .faulted ∨ x.state = .quarantined → x.unloading = false →
      ∃ t, exec (.planUnload h) s = .next t ∧ Accepts s t h (outstanding h 0x02 0 4096) ∧ OnlyCtx s t h.ctx ∧
        t.ctx h.ctx = { x with unloading := true, trans := none }) ∧
    ((s.ctx c).unloading = true → ∃ t, exec (.planUnloadDone c) s = .next t ∧ (t.ctx c).state = .empty ∧ (t.ctx c).plan = none ∧
      (t.ctx c).owner = (s.ctx c).owner ∧ (t.ctx c).gen = (s.ctx c).gen ∧ (∀ i ∈ s.ctxSites c, (t.site i).ctx = none) ∧
      (∀ e ∈ s.streamsOf c, (t.stream e.1).state = .free) ∧ ∀ y ∈ t.cmds, isCmd 0x02 c y = false) ∧
    (s.reads h 0x07 .management true →
      (x.state = .running ∨ x.state = .paused ∨ x.state = .draining ∨ x.state = .faulted →
        ∃ t, exec (.ctxAbort h) s = .next t ∧ (t.ctx h.ctx).state = .loaded ∧ (t.ctx h.ctx).gen = (x.gen + 1) % 256 ∧
          (t.ctx h.ctx).aborting = true ∧ (t.ctx h.ctx).plan = x.plan ∧ outstanding h 0x07 0 4096 ∈ t.cmds ∧
          ∀ i ∈ s.ctxSites h.ctx, (t.site i).ex.dmaq = [] ∧ (t.site i).ex.xfers = [] ∧ (t.site i).faults = [] ∧
            (t.site i).seq.status = .off ∧ (t.site i).scr = (s.site i).scr) ∧
      (x.state = .loading → ∃ t, exec (.ctxAbort h) s = .next t ∧ (t.ctx h.ctx).state = .empty ∧ (t.ctx h.ctx).plan = none ∧
        (t.ctx h.ctx).gen = (x.gen + 1) % 256 ∧ (t.ctx h.ctx).aborting = true ∧ t.sites = s.sites)) ∧
    ((s.ctx c).aborting = true → (s.ctx c).state ≠ .loading → ∃ t, exec (.ctxAbortDone c) s = .next t ∧
      (t.ctx c).aborting = false ∧ (∀ y ∈ t.cmds, isCmd 0x07 c y = false) ∧ ∀ (p : Plan) (d : PlanTile) i,
        (s.ctx c).plan = some p → p.body.tiles.filter (fun z => s.siteOfTile (s.ctx c) z.tile == some i) = [d] →
        t.site i = d.load c (s.site i)))

/-! ### Change sets of the host -/

/-- CFG_STAGE (R38, R39, R43) of each kind: a change whose units no other change set holds opens its set, or joins it while
it is not COMMITTED; it is refused with NO_RESOURCE where another set holds a unit or four host sets are open, with
NEEDS_DRAIN where Table 1.5 asks for a drain, and with WRONG_STATE in a COMMITTED set. -/
def Obligations.ChangesStaged : Prop :=
  ∀ (s : State) (h : CmdHead) (id : Nat) (i : Instr) (ch : Change) (named : Bool),
    let x := s.ctx h.ctx
    let bound := x.state = .loaded ∨ x.state = .running ∨ x.state = .paused
    (∃ l, i = .cfgStageRemap h id l ∧ ch = .remap h.ctx l ∧ named = true ∧ bound ∧ 1 ≤ l.length ∧ l.length ≤ 116 ∧
      ∃ p, x.plan = some p ∧ ∀ g ∈ l, g < 2048 ∧ (p.tile g).isSome = true) ∨
    (∃ lo hi, i = .cfgStageReefRange h id lo hi ∧ ch = .reefRange h.ctx lo hi ∧ named = true ∧ bound ∧ lo ≤ hi ∧ hi ≤ 3) ∨
    (∃ m p, i = .cfgStageVouch h id m ∧ ch = .vouch h.ctx (m == 1) ∧ named = true ∧ bound ∧ x.plan = some p ∧
      (m = 1 ∨ (m = 0 ∧ p.hdr.flags % 2 = 0 ∧ p.hdr.flags / 2 % 2 = 1))) ∨
    (∃ q r, i = .cfgStageAudit h id q r ∧ ch = .audit q r ∧ named = false ∧ r ≤ 64 ∧ q ∈ s.mod.order.quads) ∨
    (∃ m d c, i = .cfgStageGeometry h id m d c ∧ ch = .geometry { m := m, d := d, c := c } ∧ named = false ∧
      Geometry.valid { m := m, d := d, c := c } = true) →
    s.reads h 0x04 .management named →
    let open1 : ChangeSet :=
      { changes := [ch], state := .opened, held := false, lost := false, age := 0, commit := 0 }
    let taken := fun (t : State) (z : ChangeSet) => Accepts s t h (outstanding h 0x04 id 4096) ∧ alook t.sets id = some z ∧
      (∀ k, k ≠ id → alook t.sets k = alook s.sets k) ∧ t = { s with fns := t.fns, cmds := t.cmds, readUnits := t.readUnits, sets := t.sets }
    let refused := fun (st : Status) => ∃ t, exec i s = .next t ∧ Completes s t h 0x04 st [] ∧ OnlyRings s t
    (s.heldElsewhere id ch = true → refused .noResource) ∧
    (s.heldElsewhere id ch = false → alook s.sets id = none →
      (4 ≤ s.hostSets → refused .noResource) ∧ (s.hostSets < 4 → s.needsDrain id ch = true → refused .needsDrain) ∧
      (s.hostSets < 4 → s.needsDrain id ch = false → ∃ t, exec i s = .next t ∧ taken t open1)) ∧
    (∀ z, s.heldElsewhere id ch = false → alook s.sets id = some z →
      (z.state = .committed → refused .wrongState) ∧
      (z.state ≠ .committed → s.needsDrain id ch = true → refused .needsDrain) ∧
      (z.state ≠ .committed → s.needsDrain id ch = false → ∃ t, exec i s = .next t ∧
        taken t { z with changes := z.changes ++ [ch], state := .opened, held := false }))

/-- CFG_COMMIT (R40): an OPEN or STAGED set is COMMITTED for the boundary that the command names, from 2 to 65,536 turns on;
another turn is refused with BAD_COMMAND, and a set that is neither with WRONG_STATE. -/
def Obligations.ChangesCommitted : Prop :=
  ∀ (s : State) (h : CmdHead) (id turn : Nat), s.reads h 0x05 .management false →
    let within := s.turn.no + 2 ≤ turn ∧ turn ≤ s.turn.no + 65536
    let refused := fun (st : Status) => ∃ t, exec (.cfgCommit h id turn) s = .next t ∧ Completes s t h 0x05 st [] ∧ OnlyRings s t
    (¬within → refused .badCommand) ∧
    (within → (∀ z, alook s.sets id = some z → z.state ≠ .opened ∧ z.state ≠ .staged) → refused .wrongState) ∧
    (∀ z, within → alook s.sets id = some z → z.state = .opened ∨ z.state = .staged →
      ∃ t, exec (.cfgCommit h id turn) s = .next t ∧ Accepts s t h (outstanding h 0x05 id (turn - s.turn.no + 2)) ∧
        alook t.sets id = some { z with state := .committed, commit := turn } ∧ (∀ k, k ≠ id → alook t.sets k = alook s.sets k) ∧
        t = { s with fns := t.fns, cmds := t.cmds, readUnits := t.readUnits, sets := t.sets })

/-! ### Streams -/

/-- Commands that name a stream (R322, R323): while its entry is in no cache slot the record stays unread, holds back the
records behind it, and the entry is fetched, which counts a miss. STREAM_ENTRY_FETCH_DONE brings the entry as its unit of
device DDR holds it, unless the table is unreachable; an entry that reads poisoned completes the command with POISONED and
reads DAMAGED. STREAM_OPEN, STREAM_TRUNCATE, STREAM_CLOSE and STREAM_QUERY (R318, R319, R335, R301): the entry that each
leaves, its completion and result; no other stream changes. -/
def Obligations.StreamEntries : Prop :=
  (∀ (s : State) (h : CmdHead) (id gen opc : Nat) (i : Instr) (f : EccFind),
    (i, opc) = (.streamQuery h id, 0x27) ∨ (i, opc) = (.streamClose h id gen, 0x26) ∨
      (i, opc) = (.streamEvict h id gen, 0x24) ∨ (i, opc) = (.streamCancel h id gen, 0x22) →
    id < 2 ^ 24 →
    let u := s.unwait h id
    let waits := u.streams.waits ++ [(id, h.fn, h.ring)]
    (u.frame h.fn h.ring h.units h.readOk = .read → s.atHand id = false →
      (id ∈ s.streams.fetching → exec i s = .next { s with streams := { s.streams with waits := waits } }) ∧
      (id ∉ s.streams.fetching → exec i s = .next { s with streams := { s.streams with
        waits := waits, fetching := s.streams.fetching ++ [id], misses := min (s.streams.misses + 1) (2 ^ 32 - 1) } })) ∧
    (s.tableAway = true ∨ id ∉ s.streams.fetching → exec (.streamEntryFetchDone id f) s = .next s) ∧
    (id ∈ s.streams.fetching → s.tableAway = false → id ∉ s.streams.dirty →
      (s.unitPoison 0 (128 * id) = false → ∃ t, exec (.streamEntryFetchDone id EccFind.clean) s = .next t ∧
        t = { s with streams := t.streams } ∧ t.atHand id = true ∧ alook t.streams.fetched id = some false ∧
        id ∉ t.streams.fetching ∧ t.stream id = StreamEntry.ofBytes (s.ddrBytes 0 (128 * id) 128) ∧
        ∀ k, k ≠ id → t.stream k = s.stream k) ∧
      (s.unitPoison 0 (128 * id) = true → ∃ t, exec (.streamEntryFetchDone id f) s = .next t ∧
        alook t.streams.fetched id = some true ∧ id ∉ t.streams.fetching ∧ t.streams.table = s.streams.table)) ∧
    (u.frame h.fn h.ring h.units h.readOk = .read → alook s.streams.fetched id = some true → ∃ t, exec i s = .next t ∧
      (t.ring h.fn h.ring).hrCons = ((s.ring h.fn h.ring).hrCons + h.units) % 2 ^ 32 ∧ (t.stream id).state = .damaged ∧
      (t.stream id).ctx = h.ctx ∧ (t.stream id).gen = 0xFFFF ∧
      ∃ r ∈ (t.ring h.fn h.ring).due, r.type = 1 ∧ r.body = completionBody (headRef h opc) .poisoned [])) ∧
  (∀ (s : State) (h : CmdHead) (id : Nat),
    let x := s.ctx h.ctx
    let e := s.stream id
    let mine := fun (opc : Nat) => (s.unwait h id).reads h opc .context true ∧ id < 2 ^ 24 ∧ s.atHand id = true ∧
      alook s.streams.fetched id ≠ some true
    let held := x.state = .loaded ∨ x.state = .running ∨ x.state = .paused
    let others := fun (t : State) => (∀ k, k ≠ id → t.stream k = s.stream k) ∧ t.ctxs = s.ctxs ∧ t.sites = s.sites ∧ t.ddr = s.ddr
    (∀ (adapter priv base limit : Nat) (seed : DWord), mine 0x20 → held → e.state = .free → priv ≤ 1 → (priv = 1 → x.privileged = true) →
      base % 4096 = 0 → 0 < limit → x.kvFits base limit = true →
      (s.check.suspect = true → ∃ t, exec (.streamOpen h id adapter priv seed base limit) s = .next t ∧ others t ∧
        Completes s t h 0x20 .noResource [] ∧ t.stream id = e) ∧
      (s.check.suspect = false → ∃ t, exec (.streamOpen h id adapter priv seed base limit) s = .next t ∧ others t ∧
        Completes s t h 0x20 .ok (leBytes 2 ((e.gen + 1) % 65536)) ∧
        t.stream id = { StreamEntry.free with
          state := .idle, ctx := h.ctx, gen := (e.gen + 1) % 65536, priv := priv == 1, needInput := true, adapter := adapter,
          seed := seed, kvBase := base, kvLimit := limit })) ∧
    (∀ (adapter base limit : Nat) (seed : DWord), mine 0x20 → x.state = .empty → x.plan = none → e.state = .free →
      base % 4096 = 0 → 0 < limit → ∃ t, exec (.streamOpen h id adapter 0 seed base limit) s = .next t ∧ others t ∧
        Completes s t h 0x20 .wrongState [] ∧ t.stream id = e) ∧
    (∀ position, mine 0x23 → held → e.state = .idle → e.ctx = h.ctx →
      (position ≤ e.position → ∃ t, exec (.streamTruncate h id e.gen position) s = .next t ∧ others t ∧
        Completes s t h 0x23 .ok (List.replicate 8 0 ++ leBytes 4 position) ∧
        t.stream id = { e with kvLength := position, hasLast := false, needInput := true }) ∧
      (e.position < position → ∃ t, exec (.streamTruncate h id e.gen position) s = .next t ∧ others t ∧
        Completes s t h 0x23 .badCommand [] ∧ t.stream id = e)) ∧
    (mine 0x26 → held ∨ x.state = .draining ∨ x.state = .faulted ∨ x.state = .quarantined →
      e.state = .idle ∨ e.state = .evicted ∨ e.state = .damaged → e.ctx = h.ctx →
      ∃ t, exec (.streamClose h id e.gen) s = .next t ∧ others t ∧ Completes s t h 0x26 .ok [] ∧
        t.stream id = { StreamEntry.free with gen := e.gen }) ∧
    (mine 0x27 → x.state ≠ .empty → e.state = .free ∨ e.ctx = h.ctx →
      ∃ t, exec (.streamQuery h id) s = .next t ∧ others t ∧ t.stream id = e ∧
        Completes s t h 0x27 .ok ([BitVec.ofNat 8 e.state.code, if e.priv then 1 else 0] ++ leBytes 2 e.gen ++
          leBytes 4 e.position ++ leBytes 4 e.kvLength ++ leBytes 4 e.pendingNew)))

/-- STREAM_STEP and STREAM_CANCEL (R305, R306, R321): an IDLE stream becomes ACTIVE in a pinned slot that holds its inputs,
or the number still to read where they are INDIRECT; a stream at its limit completes at once with REASON 3. A cancel takes the
stream out of the filling of the turn and marks it, and ends its step at once where it has no uncommitted position.
STREAM_EVICT, STREAM_EVICT_DONE, STREAM_RESTORE and STREAM_RESTORE_DONE (R317, R336, R337): an IDLE stream gives up its cache
slot and reads EVICTED, and its command completes once its 128 bytes are in the stream table; a restore brings the entry back
as the table holds it, IDLE, or DAMAGED where it reads poisoned, and leaves a stream that is EVICTED no more as it is. -/
def Obligations.StreamSteps : Prop :=
  (∀ (s : State) (h : CmdHead) (id : Nat),
    let x := s.ctx h.ctx
    let e := s.stream id
    let mine := fun (opc : Nat) => (s.unwait h id).reads h opc .context true ∧ id < 2 ^ 24 ∧
      (alook s.streams.cache id).isSome = true ∧ alook s.streams.fetched id ≠ some true ∧ e.ctx = h.ctx
    (∀ (flags count new addr : Nat) (stop : Word) (inputs : List Word), mine 0x21 → x.state = .running ∨ x.state = .paused →
      e.state = .idle → flags ≤ 1 → 0 < count + new → (flags = 0 → count + 10 ≤ 16 * h.units) →
      (flags = 1 → 0 < count → s.inPlanMemory addr (4 * count) = true ∧ 0 < s.trainedChannels (addr / 2 ^ 43)) →
      (e.kvLength = e.kvLimit → ∃ t, exec (.streamStep h id e.gen flags count new stop addr inputs) s = .next t ∧
        Completes s t h 0x21 .ok (stepResult 3 { e with tokensOut := 0 }) ∧ t.stream id = e) ∧
      (e.kvLength ≠ e.kvLimit → e.needInput = true → count = 0 →
        ∃ t, exec (.streamStep h id e.gen flags count new stop addr inputs) s = .next t ∧
          Completes s t h 0x21 .badCommand [] ∧ t.stream id = e) ∧
      (e.kvLength ≠ e.kvLimit → e.needInput = false ∨ 0 < count →
        ∃ t, exec (.streamStep h id e.gen flags count new stop addr inputs) s = .next t ∧
          Accepts s t h (outstanding h 0x21 id (64 * x.turnsPerStep * max 1 (new + count))) ∧
          t.stream id = { e with
            state := .active, indirect := flags == 1, pendingInput := count, pendingNew := new, stop := stop, tag := h.tag,
            inputAddr := addr, tokensOut := 0 } ∧
          (t.slot id).pinned = true ∧ (t.slot id).window = (if flags = 1 then [] else inputs.take (min count 64)) ∧
          (t.slot id).toRead = (if flags = 1 then count else 0) ∧
          (t.slot id).reading = (decide (flags = 1) && decide (0 < count)) ∧ ∀ k, k ≠ id → t.stream k = s.stream k)) ∧
    (mine 0x22 → x.state = .running ∨ x.state = .paused ∨ x.state = .draining → e.state = .active →
      ((∃ p ∈ (x.unfill id).positions, p.stream = id) → ∃ t, exec (.streamCancel h id e.gen) s = .next t ∧
        Accepts s t h (outstanding h 0x22 id 4096) ∧ t.stream id = { e with cancelled := true } ∧
        (t.ctx h.ctx).positions = (x.unfill id).positions) ∧
      ((∀ p ∈ (x.unfill id).positions, p.stream ≠ id) → ∃ t, exec (.streamCancel h id e.gen) s = .next t ∧
        (t.stream id).state = .idle ∧ (t.stream id).pendingNew = 0 ∧ (t.slot id).pinned = false ∧
        (∀ p ∈ (t.ctx h.ctx).positions, p.stream ≠ id) ∧
        ∀ y ∈ t.cmds, y ∈ s.cmds ∧ ¬(y.arg = id ∧ y.ctx = h.ctx ∧ (y.opc = 0x21 ∨ y.opc = 0x22))))) ∧
  (∀ (s : State) (h : CmdHead) (id : Nat) (f : EccFind),
    let x := s.ctx h.ctx
    let e := s.stream id
    let held := x.state = .loaded ∨ x.state = .running ∨ x.state = .paused
    let evicting := fun (y : Cmd) => y.opc == 0x24 && y.arg == id
    let restoring := fun (y : Cmd) => y.opc == 0x25 && y.arg == id
    ((s.unwait h id).reads h 0x24 .context true → id < 2 ^ 24 → s.atHand id = true → alook s.streams.fetched id ≠ some true →
      held → e.state = .idle → e.ctx = h.ctx → ∃ t, exec (.streamEvict h id e.gen) s = .next t ∧
        Accepts s t h (outstanding h 0x24 id 4096) ∧ t.stream id = { e with state := .evicted } ∧
        alook t.streams.cache id = none) ∧
    (s.tableAway = true ∨ s.cmds.any evicting = false → exec (.streamEvictDone id) s = .next s) ∧
    (s.tableAway = false → s.cmds.any evicting = true → ∃ t, exec (.streamEvictDone id) s = .next t ∧
      t.cmds = s.cmds.filter (fun y => !evicting y) ∧ t.streams = { s.streams with dirty := ndel s.streams.dirty id } ∧
      t.sites = s.sites ∧ t.ctxs = s.ctxs ∧
      (s.isRetired 0 (128 * id) = false → t.ddrBytes 0 (128 * id) 128 = e.bytes ∧ t.unitPoison 0 (128 * id) = false ∧
        ∀ q l, q ≠ 0 ∨ l / 128 ≠ id → t.ddrBytes q l 1 = s.ddrBytes q l 1)) ∧
    (s.reads h 0x25 .context true → id < 2 ^ 24 → held → e.state = .evicted → e.ctx = h.ctx →
      ∃ t, exec (.streamRestore h id e.gen) s = .next t ∧ Accepts s t h (outstanding h 0x25 id 4096) ∧
        t = { s with fns := t.fns, cmds := t.cmds, readUnits := t.readUnits, streams := { s.streams with
          misses := min (s.streams.misses + 1) (2 ^ 32 - 1) } }) ∧
    (s.tableAway = true ∨ s.cmds.any restoring = false → exec (.streamRestoreDone id f) s = .next s) ∧
    (s.tableAway = false → s.cmds.any restoring = true →
      (e.state ≠ .evicted → ∃ t, exec (.streamRestoreDone id f) s = .next t ∧ OnlyRings s t ∧
        t.cmds = s.cmds.filter (fun y => !restoring y)) ∧
      (e.state = .evicted → id ∉ s.streams.dirty → s.unitPoison 0 (128 * id) = false →
        ∃ t, exec (.streamRestoreDone id EccFind.clean) s = .next t ∧
          t.stream id = { StreamEntry.ofBytes (s.ddrBytes 0 (128 * id) 128) with state := .idle } ∧
          t.cmds = s.cmds.filter (fun y => !restoring y)) ∧
      (e.state = .evicted → id ∉ s.streams.dirty → s.unitPoison 0 (128 * id) = true →
        ∃ t, exec (.streamRestoreDone id f) s = .next t ∧ (t.stream id).state = .damaged ∧ (t.stream id).gen = 0xFFFF ∧
          t.cmds = s.cmds.filter (fun y => !restoring y))))

/-- BATCH_FILL, BATCH_HEADER_WRITE and INPUT_WINDOW_READ_DONE (R325 to R330, R348): a filling opens with no positions taken and
a privileged stream takes them from the front; the header unit in the intake window closes the filling; an input read brings
the words of its unit into the stream's window, and a unit that reads poisoned makes the stream DAMAGED at its POSITION. -/
def Obligations.BatchesFilled : Prop :=
  ∀ (s : State) (c id : Nat) (g : Gearing) (b : BatchDecl) (find : EccFind),
    let x := s.ctx c
    let opened : Filling := { priv := 0, bulk := 0, gearing := x.gearing, open_ := true, written := false }
    (s.turn.running = true → s.turn.window = .intake → x.filling = none → s.runs c = true → s.fills c = true →
      (x.privSnap = [] → x.bulkSnap = [] → x.privRing = [] → x.bulkRing = [] → ∃ t, exec (.batchFill c) s = .next t ∧
        t = { s with ctxs := t.ctxs } ∧ t.ctx c = { x with filling := some opened }) ∧
      (x.privSnap = [id] → x.bulkSnap = [] → (∀ k ∈ x.privRing ++ x.bulkRing, k = id) → x.gear = some (g, b) →
        (s.stream id).priv = true →
        let w := s.wants x id b.inputSpan g.batch
        ∃ t, exec (.batchFill c) s = .next t ∧ (t.ctx c).filling = some { opened with priv := w.length } ∧
          (t.ctx c).positions.map (fun p => (p.pos, p.stream, p.index, p.token)) =
            x.positions.map (fun p => (p.pos, p.stream, p.index, p.token)) ++ (List.range w.length).map (fun k =>
              (k, id, (s.stream id).kvLength + k, (w.getD k (0, false, false)).1)) ∧
          t.streams = s.streams)) ∧
    (s.turn.window ≠ .intake ∨ s.runs c = false ∨ s.fills c = false → exec (.batchFill c) s = .next s) ∧
    (∀ f, x.filling = some f → x.gear = some (g, b) → f.open_ = true →
      (s.turn.window = .intake → ∃ t, exec (.batchHeaderWrite c) s = .next t ∧ t = { s with ctxs := t.ctxs, sites := t.sites } ∧
        t.ctx c = { x with filling := some { f with open_ := false, written := true } } ∧
        ∀ (p : Plan) r i, x.plan = some p → b.rx = [r] → s.siteOfTile x r = some i →
          (t.site i).scr.read p.hdr.batchOffset 7 =
            leBytes 2 f.priv ++ leBytes 2 f.bulk ++ leBytes 2 g.batch ++ [BitVec.ofNat 8 f.gearing]) ∧
      (s.turn.window ≠ .intake → exec (.batchHeaderWrite c) s = .next s)) ∧
    (let e := s.stream id
     let q := e.inputAddr / 2 ^ 43
     let l := e.inputAddr % 2 ^ 43
     let k := s.slot id
     let n := min (min k.toRead ((128 - l % 128 + 3) / 4)) (64 - k.window.length)
     e.state = .active → k.reading = true →
      (s.unitPoison q l = false → ∃ t, exec (.inputWindowReadDone id EccFind.clean) s = .next t ∧
        t = { s with streams := t.streams } ∧
        (t.slot id).window = k.window ++ (List.range n).map (fun i => BitVec.ofNat 32 (leNat (s.ddrBytes q (l + 4 * i) 4))) ∧
        (t.slot id).toRead = k.toRead - n ∧ t.stream id = { e with inputAddr := e.inputAddr + 4 * n }) ∧
      (s.unitPoison q l = true → ∃ t, exec (.inputWindowReadDone id find) s = .next t ∧ (t.stream id).state = .damaged ∧
        (t.stream id).damagedIndex = e.position))

/-! ### Rings and registers -/

/-- RING_ENABLE and RING_DISABLE (R283, R284, R316): a ring with legal sizes and vector, and for a context ring a context of
the function, comes into service with its indices at 0; one whose context is EMPTY, or that is halted, goes out of service
and drops its records; otherwise nothing changes. POINTER_BLOCK_ARRIVAL (R286, R289): the block gives a ring's HR_PROD and
TR_CONS, and impossible indices halt it with cause 3; a failed read is recorded in AER, and no record of the function is read
in that turn (R314); there is one block in a turn. -/
def Obligations.RingsServed : Prop :=
  ∀ (s : State) (f r : Nat) (cfg : Word),
    let x := s.ring f r
    let on_ := cfg.toNat ||| 2 ^ 31
    let off := cfg.toNat % 2 ^ 31
    let others := fun (t : State) => ∀ n m, n ≠ f ∨ m ≠ r → t.ring n m = s.ring n m
    (s.takes f = false → exec (.ringEnable f r cfg) s = .next s ∧ exec (.ringDisable f r cfg) s = .next s) ∧
    (s.takes f = true → r < 17 →
      (x.state = .disabled → s.mayEnable f r on_ = true → ∃ t, exec (.ringEnable f r cfg) s = .next t ∧ others t ∧
        (t.fn f).busMaster = true ∧
        t.ring f r = { Ring.reset.withCfg on_ with hrBase := x.hrBase, trBase := x.trBase, state := .active }) ∧
      (x.state ≠ .disabled ∨ s.mayEnable f r on_ = false → exec (.ringEnable f r cfg) s = .next s) ∧
      (x.state ≠ .disabled → s.mayDisable f r = true → ∃ t, exec (.ringDisable f r cfg) s = .next t ∧ others t ∧
        (t.ring f r).state = .disabled ∧ (t.ring f r).due = [] ∧ (t.ring f r).held = []) ∧
      (x.state ≠ .disabled → s.mayDisable f r = false → exec (.ringDisable f r cfg) s = .next s) ∧
      (x.state = .disabled → ∃ t, exec (.ringDisable f r cfg) s = .next t ∧ others t ∧ t.ring f r = x.withCfg off)) ∧
    (∀ (p : PtrIndex), s.serves f = true → (s.fn f).polled = none → p.ring = r → r < 17 → x.state = .active →
      (∀ m, (s.ring f m).held = [] ∧ (s.ring f m).state ≠ .full) →
      (idxSub p.hrProd x.hrCons ≤ 2 ^ x.hrLog → idxSub p.trCons x.trCons ≤ idxSub x.trProd x.trCons →
        ∃ t, exec (.pointerBlockArrival f true [p]) s = .next t ∧ others t ∧
          t.ring f r = { x with hrProd := p.hrProd, trCons := p.trCons }) ∧
      (2 ^ x.hrLog < idxSub p.hrProd x.hrCons ∨ idxSub x.trProd x.trCons < idxSub p.trCons x.trCons →
        ∃ t, exec (.pointerBlockArrival f true [p]) s = .next t ∧ others t ∧
          t.ring f r = { x with state := .halted, haltCause := 3, haltOffset := x.hrCons })) ∧
    (∀ idx, s.serves f = true → (s.fn f).polled = none → ∃ t, exec (.pointerBlockArrival f false idx) s = .next t ∧
      (t.fn f).polled = some false ∧ AerError.pointerBlock ∈ (t.fn f).aer ∧ (∀ n m, t.ring n m = s.ring n m) ∧
      ∀ m u, t.frame f m u true = .leave) ∧
    (∀ ok idx, s.serves f = false ∨ (s.fn f).polled.isSome = true → exec (.pointerBlockArrival f ok idx) s = .next s)

/-- Records of a headrace (R286 to R289, R294, R296, R298, R299, R516): one that is not there yet, or beyond the reads of
the turn, stays; one that cannot be framed halts the ring and is not passed over; one that is refused completes with the
first refusal of R516, WRONG_STATE being counted; an unknown opcode completes with BAD_COMMAND; and a SKIP record moves the
position to the ring start. DEADLINE_PASSED (R434, R436, R438): in the close a command whose count reached its deadline
completes with TIMEOUT, a snapshot of the quadrant is taken and the deadline counted. BRAKE_PTR_POLL and
BRAKE_RECORD_TIMEOUT (R311): under the brake the block gives TR_CONS only, and after 1 s the device goes on without the
records that found no room. -/
def Obligations.RecordsRead : Prop :=
  (∀ (s : State) (h : CmdHead),
    let x := s.ring h.fn h.ring
    let size := 2 ^ x.hrLog
    let halted := fun (t : State) (k : Nat) => t.ring h.fn h.ring = { x with state := .halted, haltCause := k, haltOffset := x.hrCons } ∧
      t = { s with fns := t.fns }
    (∀ (i : Instr) (opc : Nat) (k : RingKind) (legal : List CtxState),
      (i, opc, k, legal) = (.ctxStart h, 0x10, .context, [.loaded]) ∨ (i, opc, k, legal) = (.ctxPause h, 0x11, .context, [.running]) ∨
      (i, opc, k, legal) = (.ctxAbort h, 0x07, .management, [.loading, .running, .paused, .draining, .faulted]) ∨
      (i, opc, k, legal) = (.planUnload h, 0x02, .management, [.loaded, .faulted, .quarantined]) →
      (s.frame h.fn h.ring h.units h.readOk = .leave → exec i s = .next s) ∧
      (∀ n, s.frame h.fn h.ring h.units h.readOk = .halt n → ∃ t, exec i s = .next t ∧ halted t n) ∧
      (∀ st, s.frame h.fn h.ring h.units h.readOk = .read → s.refusal h opc k true false true = some st →
        ∃ t, exec i s = .next t ∧ Completes s t h opc st [] ∧ OnlyRings s t) ∧
      (s.reads h opc k true → (s.ctx h.ctx).state ∉ legal → ∃ t, exec i s = .next t ∧ Completes s t h opc .wrongState [] ∧
        OnlyRings s t ∧ (t.ring h.fn h.ring).wrongState = min (x.wrongState + 1) (2 ^ 32 - 1))) ∧
    (∀ opc, s.frame h.fn h.ring h.units h.readOk = .read → ∃ t, exec (.unknownCommand h opc) s = .next t ∧ OnlyRings s t ∧
      Completes s t h opc (if s.mod.dev = .notReady then .noResource else .badCommand) []) ∧
    (∀ span, s.frame h.fn h.ring 1 h.readOk = .read →
      (h.units = 1 → x.hrCons % size + span = size → span ≤ idxSub x.hrProd x.hrCons →
        ∃ t, exec (.headraceSkip h span) s = .next t ∧ t = { s with fns := t.fns, readUnits := s.readUnits + 1 } ∧
          t.ring h.fn h.ring = { x with hrCons := (x.hrCons + span) % 2 ^ 32, readNow := x.readNow + 1 }) ∧
      (h.units = 1 → x.hrCons % size + span = size → idxSub x.hrProd x.hrCons < span → exec (.headraceSkip h span) s = .next s) ∧
      (h.units ≠ 1 ∨ x.hrCons % size + span ≠ size → ∃ t, exec (.headraceSkip h span) s = .next t ∧ halted t 5))) ∧
  (∀ (s : State),
    (∀ (x : Cmd), s.cmds.find? (fun y => y.fn == x.fn && y.ring == x.ring && y.tag == x.tag && decide (y.deadline ≤ y.elapsed)) = some x →
      s.live = true → s.turn.window = .close → x.opc ≠ 0x01 → x.opc ≠ 0x21 → (s.ring x.fn x.ring).state = .active →
      let q := match s.cmdCtx x with
        | some c => (s.ctx c).quads.getD 0 0
        | none => 0
      ∃ t, exec (.deadlinePassed x.fn x.ring x.tag) s = .next t ∧
        (∃ r ∈ (t.ring x.fn x.ring).due, r.type = 1 ∧ r.body = completionBody x.ref .timeout []) ∧
        (t.quad q).deadlines = min ((s.quad q).deadlines + 1) (2 ^ 16 - 1) ∧ (t.quad q).snap.pending = true) ∧
    (∀ (f n : Nat) (p : PtrIndex), s.check.braking = some n → (s.fn f).ptrBlock ≠ 0 → (s.fn f).devBlock = 0 →
      (s.fn f).busMaster = true → (s.fn f).d3hot = false → p.ring < 17 → (s.ring f p.ring).state ≠ .disabled →
      (∀ m, (s.ring f m).held = [] ∧ (s.ring f m).state ≠ .full) →
      idxSub p.trCons (s.ring f p.ring).trCons ≤ idxSub (s.ring f p.ring).trProd (s.ring f p.ring).trCons → s.brakeWaits = true →
      ∃ t, exec (.brakePtrPoll f true [p]) s = .next t ∧ t.check.braking = some (n + 1) ∧
        t.ring f p.ring = { s.ring f p.ring with trCons := p.trCons }) ∧
    (∀ n, s.check.braking = some n → ∃ t, exec .brakeRecordTimeout s = .next t ∧ t.check.braking = none ∧ t.check.brakeMsgs = [] ∧
      (s.check.chipBraked = true → ∀ f ∈ s.functions, (t.fn f).busMaster = false) ∧
      (s.mod.watchdog = true → t.mod.cycleReqN = false) ∧ t.sites = s.sites) ∧
    (s.check.braking = none → exec .brakeRecordTimeout s = .next s))

/-- REGISTER_WRITE (R282, R251, R280, R396): aligned words reach the writable registers, an aligned 8-byte write is its two
words, and a write of any other size or alignment changes nothing; function 256 + f is the configuration space of function f,
with Bus Master Enable and the size of BAR2 at the model's offsets (log 88). HOST_ALLOWANCE_WRITE and TRAY_ALLOWANCE_SET (R251)
set their halves of the allowance. BAR2_READ and BAR2_WRITE (R280, R340, R346): a read answers the bytes of plan memory, with
the EP bit where a unit is poisoned, zeros in QD0's system region, and Unsupported Request where nothing is served; a write puts
its bytes into plan memory, and one into the system region is dropped and counted. AER records a poisoned read and an access to
a quadrant that trains its DDR again (R277, R280). -/
def Obligations.RegistersAndBar2 : Prop :=
  (∀ (s : State) (f off size : Nat) (v : DWord) (w : Word),
    (f < 256 → size ≠ 4 ∧ size ≠ 8 ∨ off % size ≠ 0 → exec (.registerWrite f off size v) s = .next s) ∧
    (s.answers = true → f ∈ s.functions →
      (∃ t, exec (.registerWrite (256 + f) 0 size v) s = .next t ∧ t.fn f = { s.fn f with busMaster := v.getLsbD 0 } ∧
        t = { s with fns := t.fns } ∧ ∀ n, n ≠ f → t.fn n = s.fn n) ∧
      ∀ k, k ≤ 10 → exec (.registerWrite 256 8 size (2 ^ k)) s = .next { s with mod := { s.mod with bar2Gib := 2 ^ k } }) ∧
    (s.answers = false → exec (.registerWrite (256 + f) off size v) s = .next s) ∧
    (f < 256 → off % 8 = 0 → ∃ t, exec (.registerWrite f off 4 v) s = .next t ∧
      exec (.registerWrite f off 8 v) s = exec (.registerWrite f (off + 4) 4 (v >>> 32)) t) ∧
    (s.takes 0 = true → s.mod.dev.inStart = false →
      (∃ t, exec (.registerWrite 0 0x30004 4 v) s = .next t ∧ t.reef.hostW = v.toNat % 65536 ∧
        t = { s with reef := { s.reef with hostW := t.reef.hostW } }) ∧
      (∃ t, exec (.hostAllowanceWrite w) s = .next t ∧ t.reef.hostW = w.toNat % 65536 ∧
        t = { s with reef := { s.reef with hostW := t.reef.hostW } }) ∧
      (∃ t, exec (.registerWrite 0 0x80020 4 v) s = .next t ∧ t.sec.mboxBytes = v.toNat % 2 ^ 32 ∧
        t = { s with sec := { s.sec with mboxBytes := t.sec.mboxBytes } }) ∧
      (∃ t, exec (.registerWrite 0 0x40028 4 v) s = .next t ∧
        t.check.period = (if s.mod.order.digest then v.toNat % 65536 else s.check.period) ∧
        t = { s with check := { s.check with period := t.check.period } })) ∧
    (f < 256 → s.takes f = false → off ≠ 0x38 → exec (.registerWrite f off 4 v) s = .next s) ∧
    (s.takes 0 = false → exec (.hostAllowanceWrite w) s = .next s) ∧
    (∀ n, (s.sideband = true → ∃ t, exec (.trayAllowanceSet n) s = .next t ∧ t.reef.trayW = n % 65536 ∧
        t = { s with reef := { s.reef with trayW := t.reef.trayW } }) ∧
      (s.sideband = false → exec (.trayAllowanceSet n) s = .next s))) ∧
  (∀ (s : State) (off n : Nat) (data : List Byte) (poison : Bool),
    let trains := s.answers = true ∧ (s.quad (s.bar2Addr off / 2 ^ 43)).recState = .full
    (s.bar2Target off n = .none → (¬trains → exec (.bar2Read off n []) s = .next { s with out := s.out ++ [.bar2 [] false true] }) ∧
      (trains → ∃ t, exec (.bar2Read off n []) s = .next t ∧ t = { s with fns := t.fns, out := s.out ++ [.bar2 [] false true] } ∧
        AerError.unsupported ∈ (t.fn 0).aer)) ∧
    (s.bar2Target off n = .zero →
      exec (.bar2Read off n []) s = .next { s with out := s.out ++ [.bar2 (List.replicate n 0) false false] }) ∧
    (∀ q l, s.bar2Target off n = .plan q l → (∀ c, (s.chan c).state ≠ .retired) → ∃ t, exec (.bar2Read off n []) s = .next t ∧
      t = { s with fns := t.fns, out := s.out ++ [.bar2 (s.ddrBytes q l n) (s.rangePoison q l n) false] } ∧
      (s.rangePoison q l n = false → t.fns = s.fns) ∧
      (s.rangePoison q l n = true → AerError.poisonedRead ∈ (t.fn 0).aer)) ∧
    (s.bar2Target off data.length = .none → ¬trains → exec (.bar2Write off data poison []) s = .next s) ∧
    (∀ l, s.bar2Target off data.length = .zero ∨ s.bar2Target off data.length = .snap l →
      exec (.bar2Write off data poison []) s = .next { s with ddr := { s.ddr with sysDrops := min (s.ddr.sysDrops + 1) (2 ^ 16 - 1) } }) ∧
    (∀ q l, s.bar2Target off data.length = .plan q l → (∀ c, (s.chan c).state ≠ .retired) →
      ∃ t, exec (.bar2Write off data poison []) s = .next t ∧ t.sites = s.sites ∧
        (∀ a, l ≤ a → a < l + data.length → (t.ddr.memory q).byte a = data.getD (a - l) 0) ∧
        (∀ a, a < l ∨ l + data.length ≤ a → (t.ddr.memory q).byte a = (s.ddr.memory q).byte a) ∧
        ∀ k, k ≠ q → t.ddr.memory k = s.ddr.memory k))

/-! ### Resets and power -/

/-- RESET_REQ (R313, R442, R444) at LEVEL 1, 2 and 3: a wrong key is ignored; a reset under way answers RESETTING, as no
accepted request, and a wrong mask BAD_COMMAND; else every quadrant named goes onto the fast or the full path and its contexts'
plan code stops, or the chip is reset: contexts EMPTY, generations risen, rings and sites as after reset, the bus mastering of
the functions kept. QUAD_RESET_DONE and RESET_ESCALATE (R87, R443 to R446): a reset that the host asked for ends with a new
quadrant generation, its path counted and every site of the quadrant cleared; no other quadrant's site changes. A level that
does not finish in its time becomes the next one. -/
def Obligations.QuadrantAndChipResets : Prop :=
  (∀ (s : State) (key m : Nat),
    let answer := fun (st : Nat) => { s with mod := { s.mod with
      resetValid := true, resetSeq := (s.mod.resetSeq + 1) % 256, resetStatus := st, resetLevel := 0 } }
    let ignored : State := { s with mod := { s.mod with resetStatus := 5 } }
    (s.answers = false ∨ key ≠ 0xA5C3 → exec (.resetReqQuadFast key m) s = .next s ∧ exec (.resetReqQuadFull key m) s = .next s ∧
      exec (.resetReqChip key) s = .next s) ∧
    (s.answers = true → s.resetBusy = true → exec (.resetReqQuadFast 0xA5C3 m) s = .next ignored ∧
      exec (.resetReqQuadFull 0xA5C3 m) s = .next ignored ∧ exec (.resetReqChip 0xA5C3) s = .next ignored) ∧
    (s.answers = true → s.resetBusy = false →
      (maskQuads m = [] ∨ 16 ≤ m ∨ s.check.chipBraked = true ∨ (∃ q ∈ maskQuads m, q ∉ s.mod.order.quads) →
        exec (.resetReqQuadFast 0xA5C3 m) s = .next (answer 1) ∧ exec (.resetReqQuadFull 0xA5C3 m) s = .next (answer 1)) ∧
      (∀ (full : Bool), maskQuads m ≠ [] → m < 16 → s.check.chipBraked = false → (∀ q ∈ maskQuads m, q ∈ s.mod.order.quads) →
        ∃ t, exec (if full then .resetReqQuadFull 0xA5C3 m else .resetReqQuadFast 0xA5C3 m) s = .next t ∧
          t.mod.resetValid = false ∧ t.mod.resetStatus = 0 ∧ t.mod.resetSeq = (s.mod.resetSeq + 1) % 256 ∧
          ∀ q ∈ maskQuads m, (t.quad q).hostReset = true ∧
            (t.quad q).recState = (if full || (s.quad q).privHosted || (s.quad q).braked then .full else .fast) ∧
            ∀ c, c < 16 → (s.ctx c).boundTo q = true → (s.ctx c).state ≠ .empty → (s.ctx c).state ≠ .loading →
              (t.ctx c).ran = false ∧ ∀ i ∈ s.ctxSites c, (t.site i).seq.status = .off ∧ (t.site i).ex.xfers = []) ∧
      (∃ t, exec (.resetReqChip 0xA5C3) s = .next t ∧ t.mod.dev = .resetting ∧ t.mod.resetLevel = 3 ∧ t.mod.resetValid = false ∧
        t.mod.devGen = (s.mod.devGen + 1) % 256 ∧ t.turn.running = false ∧ t.cmds = [] ∧ t.sets = [] ∧ t.sites = [] ∧
        (∀ c, c < 16 → t.ctx c = { Ctx.reset with gen := ((s.ctx c).gen + 1) % 256 }) ∧
        (∀ q ∈ s.mod.order.quads, t.quad q = { Quad.reset with gen := ((s.quad q).gen + 1) % 256 }) ∧
        (∀ f ∈ s.functions, t.fn f = { Fn.reset with
          busMaster := (s.fn f).busMaster, d3hot := (s.fn f).d3hot, msix := (s.fn f).msix, msixMask := (s.fn f).msixMask,
          aer := (s.fn f).aer }) ∧ t.avdin = s.avdin))) ∧
  (∀ (s : State) (q : Nat),
    ((s.quad q).recState.resetting = true → (s.quad q).hostReset = true → s.ctxsOn q = [] →
      (∀ d ∈ aget [] s.heal.defects q, d.site / 576 = q) →
      ∃ t, exec (.quadResetDone q [] []) s = .next t ∧ (t.quad q).recState = .normal ∧
        (t.quad q).gen = ((s.quad q).gen + 1) % 256 ∧ (t.quad q).hostReset = false ∧
        (t.quad q).fastResets = min ((s.quad q).fastResets + (if (s.quad q).recState = .fast then 1 else 0)) (2 ^ 16 - 1) ∧
        (t.quad q).fullResets = min ((s.quad q).fullResets + (if (s.quad q).recState = .full then 1 else 0)) (2 ^ 16 - 1) ∧
        (∀ i, i / 576 = q → (t.site i).scr = Memory.cleared ∧ (t.site i).ctx = none ∧ (t.site i).seq = Sequencer.cleared) ∧
        ∀ i, i / 576 ≠ q → t.site i = s.site i) ∧
    ((s.quad q).recState.resetting = false → exec (.quadResetDone q [] []) s = .next s) ∧
    (q ∈ s.mod.order.quads →
      ((s.quad q).recState = .engineReset → ∃ t, exec (.resetEscalate 1 q) s = .next t ∧ (t.quad q).recState.resetting = true ∧
        (t.quad q).replay = none) ∧
      ((s.quad q).recState.resetting = true → s.mod.phase.running = true →
        ∃ t, exec (.resetEscalate 2 q) s = .next t ∧ t.mod.dev = .resetting ∧ t.sites = [] ∧ t.cmds = []) ∧
      exec (.resetEscalate 3 q) s = .next s))

/-- PF_FLR, HOT_RESET, PCIE_LINK_DOWN, VF_FLR, D3HOT_ENTRY and D3HOT_TO_D0 (R313): the first three and the PF's return from
D3hot are chip resets with every function's rings out of service; a VF's FLR empties its contexts, gives them to the PF and
resets its function alone. -/
def Obligations.FunctionsReset : Prop :=
  ∀ (s : State) (q : Nat),
    let chip := fun (t : State) => t.mod.dev = .resetting ∧ t.mod.devGen = (s.mod.devGen + 1) % 256 ∧ t.turn.running = false ∧
      t.cmds = [] ∧ t.sites = [] ∧ (∀ f, t.fn f = Fn.reset) ∧ ∀ c, c < 16 → (t.ctx c).state = .empty ∧ (t.ctx c).owner = 0
    let vf := fun (t : State) => t.fn (q + 1) = Fn.reset ∧ (∀ y ∈ t.cmds, y.fn ≠ q + 1) ∧ t.mod = s.mod ∧
      ∀ c, c < 16 → ((s.ctx c).owner = q + 1 → (t.ctx c).owner = 0 ∧ (t.ctx c).state = .empty) ∧
        ((s.ctx c).owner ≠ q + 1 → (t.ctx c).owner = (s.ctx c).owner ∧ (t.ctx c).state = (s.ctx c).state)
    (s.answers = true → (∃ t, exec .pfFlr s = .next t ∧ chip t) ∧
      (q ∈ s.mod.order.quads → ∃ t, exec (.vfFlr q) s = .next t ∧ vf t) ∧
      (∀ f ∈ s.functions, ∃ t, exec (.d3hotEntry f) s = .next t ∧ t.fn f = { s.fn f with d3hot := true } ∧
        t = { s with fns := t.fns } ∧ ∀ n, n ≠ f → t.fn n = s.fn n) ∧
      ((s.fn 0).d3hot = true → ∃ t, exec (.d3hotToD0 0) s = .next t ∧ chip t) ∧
      ((s.fn (q + 1)).d3hot = true → ∃ t, exec (.d3hotToD0 (q + 1)) s = .next t ∧ vf t)) ∧
    (s.mod.linkUp = true → s.mod.phase.running = true → (∃ t, exec .hotReset s = .next t ∧ chip t) ∧
      ∃ t, exec .pcieLinkDown s = .next t ∧ chip t) ∧
    (s.answers = false → exec .pfFlr s = .next s ∧ exec (.vfFlr q) s = .next s) ∧
    (s.mod.linkUp = false → exec .hotReset s = .next s ∧ exec .pcieLinkDown s = .next s)

/-- The pins and sockets (R272, R458, R498 to R500, R503, R506, R507, R514): power comes up through its sequence to the boot
ROM, or to ROM recovery where no firmware slot is valid; its fall leaves flash, fuses and cables; PERST_N going low with
PGOOD high is a chip reset; THERMTRIP stops the clock. -/
def Obligations.PowerAndPins : Prop :=
  ∀ (s : State) (n : Nat),
    (s.mod.pwrEn = false →
      (250 ≤ n → exec (.pwrEnRise n) s = .next { s with mod := { s.mod with pwrEn := true, phase := .powering, cold := true } }) ∧
      (n < 250 → exec (.pwrEnRise n) s = .fault (.powerCycleTooShort n)) ∧ exec .pwrEnFall s = .next s) ∧
    (s.mod.phase = .powering →
      (∃ t, exec .powerUpComplete s = .next t ∧ t.mod.pgood = true ∧ t.mod.linkUp = s.mod.perstN ∧ t.sec.aliasReady = false ∧
        (s.sec.choose = none → t.mod.phase = .recovery) ∧
        (∀ k, s.sec.choose = some k → t.mod.phase = .bootRom ∧ t.sec.active = k)) ∧
      exec .powerSeqTimeout s = .next { s with mod := { s.mod with phase := .stopped } }) ∧
    (s.mod.pwrEn = true → ∃ t, exec .pwrEnFall s = .next t ∧ t.mod.pwrEn = false ∧ t.mod.pgood = false ∧ t.sites = [] ∧ t.cmds = [] ∧
      (∀ q, t.ddr.memory q = Memory.cleared) ∧ t.sec.slotA = s.sec.slotA ∧ t.sec.slotB = s.sec.slotB ∧ t.sec.owner = s.sec.owner ∧
      t.heal.defects = s.heal.saved ∧ t.pending = s.pending) ∧
    (∃ t, exec .perstNRise s = .next t ∧ t.mod.perstN = true ∧ t.mod.linkUp = (s.mod.pgood && s.mod.phase.running) ∧
      t = { s with mod := { s.mod with perstN := true, linkUp := t.mod.linkUp } }) ∧
    (∃ t, exec .perstNFall s = .next t ∧ t.mod.perstN = false ∧ t.mod.linkUp = false ∧
      (s.mod.perstN = true → s.mod.pgood = true → s.mod.phase.running = true → t.mod.dev = .resetting ∧ t.sites = [])) ∧
    (s.mod.pgood = true → n < 9 → ∃ t, exec (.thermtrip n) s = .next t ∧ t.mod.phase = .tripped ∧ t.mod.thermtripN = false ∧
      t.mod.linkUp = false ∧ t.turn.running = false ∧ t.cmds = []) ∧
    (∀ v, exec (.slotIdChange v) s = .next { s with mod := { s.mod with slotStrap := v } }) ∧
    (∀ q m, q ∈ s.mod.order.quads → n ∈ s.mod.order.channels q → (s.chan n).module = none →
      ∃ t, exec (.memoryModuleInsert n m) s = .next t ∧ t.chan n = { s.chan n with module := some m } ∧ t.sites = s.sites) ∧
    (n ∈ s.mod.order.ports →
      (∀ mw, (s.port n).cable = false → mw ≤ 3000 → ∃ t, exec (.osfpCableInsert n mw) s = .next t ∧ (t.port n).cable = true ∧
        (s.answers = true → (t.port n).state = .training)) ∧
      (∀ mw, 3000 < mw → exec (.osfpCableInsert n mw) s = .next s) ∧
      (∃ t, exec (.osfpCableRemove n) s = .next t ∧ (t.port n).cable = false ∧ (t.port n).state = .disabled))

/-- The start (R253, R258, R271, R338, R339, R351, R428, R459 to R468): each step of Table 16.2 from the boot ROM to the
decision of step 9, which takes the rows of Table 16.3; PWR_EN falling in steps 10 and 11 leaves the bits and entries already
blown, and flash as it was (R470, R491); and the temperatures, of which 105 °C is HOT and 110 °C brakes the die's quadrant,
those of an absent quadrant reading 0 (R3). -/
def Obligations.StartSteps : Prop :=
  ∀ (s : State) (ms n : Nat),
    (s.mod.phase = .bootRom → ∃ t, exec (.chipControllerStart []) s = .next t ∧ t.mod.phase = .starting ∧ t.sec.aliasReady = true ∧
      t.ddr.zeroing = s.mod.trained ∧ ∀ q ∈ s.mod.order.quads, (t.quad q).load.valid = true ∧ (t.quad q).load.kind = 1) ∧
    (s.mod.phase = .starting →
      (∀ failed, s.mod.trained = false → ∃ t, exec (.ddrTrainingDone failed ms) s = .next t ∧ t.mod.trained = true ∧
        t.ddr.zeroing = true ∧ t.mod.ddrMs = min ms 65535 ∧ ∀ q ∈ s.mod.order.quads, ∀ ch ∈ s.mod.order.channels q,
          (t.chan ch).state = (s.chan ch).afterTraining (failed.contains ch)) ∧
      (s.ddr.zeroing = true → ∃ t, exec (.zeroingDone ms) s = .next t ∧ t.mod.zeroed = true ∧ t.ddr.zeroing = false ∧
        (∀ q, t.ddr.memory q = Memory.cleared) ∧ t.sites = s.sites) ∧
      (∀ found, s.mod.dressedDone = false → ∃ t, exec (.fullDressingDone found ms) s = .next t ∧ t.mod.dressedDone = true ∧
        t.turn.running = true ∧ t.turn.no = 0 ∧ t.turn.window = .intake ∧ t.turn.cycle = 0) ∧
      (s.mod.zeroed = true → s.mod.dressedDone = true → exec (.eFloorMeasured n) s =
        .next { s with mod := { s.mod with floorDone := true }, reef := { s.reef with eFloor := n, k := 1, level := 3 } }) ∧
      (s.mod.floorDone = true → s.portsReady = true → s.check.chipBraked = false →
        (∃ t, exec (.readinessDecision ms .cutFlash) s = .next t ∧ t.mod.phase = .off ∧ t.mod.pwrEn = false ∧
          t.mod.starts = s.mod.starts ∧ t.ddr.record = s.ddr.record ∧ t.heal.defects = t.heal.saved ∧ t.sec.svn = s.sec.fuse.1.svn) ∧
        (∃ t, exec (.readinessDecision ms (.cutVersion n)) s = .next t ∧ t.mod.phase = .off ∧
          t.sec.svn = min (s.sec.svn + n) s.sec.fuse.1.svn ∧ t.heal.fuseUsed = s.heal.fuseUsed ∧ t.heal.defects = s.heal.saved) ∧
        ∃ t, exec (.readinessDecision ms (.done n)) s = .next t ∧ t.mod.phase = .up ∧
          t.mod.causes = s.startRows ++ s.linkRows (missingPorts s.linkChecks) ∧ t.mod.dev = readiness t.mod.causes ∧
          t.mod.starts = min (s.mod.starts + 1) (2 ^ 16 - 1) ∧ t.mod.totalMs = min ms 65535 ∧ t.mod.fuseMs = min n 65535)) ∧
    (∀ temps : List Nat, s.mod.phase.running = true →
      ((∀ i, i < 9 → temps.getD i 0 < 110) → ∃ t, exec (.tempSample temps) s = .next t ∧ t = { s with reef := t.reef } ∧
        ∀ i, i < 9 → t.reef.hot.getD i false = (if i < 8 ∧ i / 2 ∉ s.mod.order.quads then false
          else decide (105 ≤ temps.getD i 0) || (s.reef.hot.getD i false && decide (100 < temps.getD i 0)))) ∧
      (∀ i, i < 8 → 110 ≤ temps.getD i 0 → (∀ j, j < 9 → j ≠ i → temps.getD j 0 < 110) → s.check.chipBraked = false →
        i / 2 ∈ s.mod.order.quads → ∃ t, exec (.tempSample temps) s = .next t ∧ (t.quad (i / 2)).braked = true))

/-! ### Security -/

/-- PLDM_OWNER_KEY, OWNER_SET, PLDM_FW_UPDATE, FW_STAGE, FW_UPDATE_DONE and ROM_RECOVERY_UPDATE (R481, R482, R485, R490): an
owner digest is staged once; a valid image goes into the slot that does not run, which the boot control record prefers on
trial once it reads back right. RETURN_NONCE, RETURN_NONCE_EXPIRE, RETURN_UNLOCK and TRNG_HEALTH_FAIL (R478, R486 to R488):
a nonce comes fresh from the DRBG and is spent by the next unlock; an accepted record resets the chip and destroys the owner
and the seed; without entropy no nonce is given. The DRBG's outputs are free values. -/
def Obligations.FirmwareKeysAndReturn : Prop :=
  (∀ (s : State) (img digest : List Byte) (key : Nat),
    let x := s.sec
    let spare := 1 - x.active
    let erased := fun (y : Security) => if x.active = 0 then y.slotB = [] else y.slotA = []
    (s.sideband = true →
      (x.ownerFree = true → digest.length = 64 → exec (.pldmOwnerKey digest) s =
        .next { s with sec := { x with ownerPending := some digest }, out := s.out ++ [.pldm 0] }) ∧
      (x.ownerFree = false → exec (.pldmOwnerKey digest) s = .next { s with out := s.out ++ [.pldm 7] }) ∧
      (x.updating = none → img.length ≤ 2 ^ 26 → x.valid img = true → ∃ t, exec (.pldmFwUpdate img) s = .next t ∧
        t.sec.updating = some (spare, img, false) ∧ erased t.sec ∧ t = { s with sec := t.sec }) ∧
      (x.updating = none → x.valid img = false → exec (.pldmFwUpdate img) s = .next { s with out := s.out ++ [.pldm 1] })) ∧
    (s.takes 0 = true → s.mod.dev.inStart = false → x.mboxBusy = false →
      (key ≠ 0x5EC5 → exec (.ownerSet key) s = .next s ∧ exec (.fwStage key) s = .next s) ∧
      (∀ k, x.ownerFree = true → s.mboxData 2592 = some k → ∃ t, exec (.ownerSet 0x5EC5) s = .next t ∧
        t = { s with sec := t.sec } ∧ t.sec.ownerPending = some (sha3_512 k) ∧ t.sec.mboxValid = true ∧ t.sec.mboxStatus = 0 ∧
        t.sec.mboxSeq = (x.mboxSeq + 1) % 256) ∧
      (x.updating = none → x.mboxBytes ≤ 2 ^ 26 → s.mboxData x.mboxBytes = some img → x.valid img = true →
        ∃ t, exec (.fwStage 0x5EC5) s = .next t ∧ t = { s with sec := t.sec } ∧ t.sec.updating = some (spare, img, true) ∧
          erased t.sec ∧ t.sec.mboxValid = false)) ∧
    (∀ slot host, x.updating = some (slot, img, host) → slot ≤ 1 →
      x.recordB.seq = x.recordA.seq + 1 ∨ x.recordA.seq = x.recordB.seq + 1 →
      (∃ t, exec (.fwUpdateDone true) s = .next t ∧ t.sec.updating = none ∧ t.sec.image slot = img ∧ t.sec.boot.preferred = slot ∧
        t.sec.boot.trial = true ∧ t.sec.boot.attempts = 0) ∧
      (∃ t, exec (.fwUpdateDone false) s = .next t ∧ t.sec.updating = none ∧ t.sec.recordA = x.recordA ∧
        t.sec.recordB = x.recordB)) ∧
    (s.mod.phase = .recovery → img.length ≤ 2 ^ 26 → x.valid img = true → ∃ t, exec (.romRecoveryUpdate img) s = .next t ∧
      t.mod.phase = .bootRom ∧ t.mod.cold = true ∧ t.sec.slotA = img)) ∧
  (∀ (s : State) (r : UnlockRecord),
    let n := (Config.drbg s.sec.nonces).take 32
    (s.sideband = true →
      (s.sec.trngFail = false → exec .returnNonce s = .next { s with
        sec := { s.sec with nonce := some n, nonces := s.sec.nonces + 1 }, out := s.out ++ [.vendor (some n)] }) ∧
      (s.sec.trngFail = true → exec .returnNonce s = .next { s with out := s.out ++ [.vendor none] }) ∧
      (s.sec.unlocks r = false → exec (.returnUnlock r) s = .next { s with
        sec := { s.sec with nonce := none }, out := s.out ++ [.vendor none] }) ∧
      (s.sec.unlocks r = true → ∃ t, exec (.returnUnlock r) s = .next t ∧ t.mod.dev = .resetting ∧ t.sec.rmaUnlocked = true ∧
        t.sec.seedDestroyed = true ∧ t.sec.ownerDestroyed = true ∧ t.sec.owner = none ∧ t.sec.nonce = none ∧ t.sites = [])) ∧
    (s.sec.nonce ≠ some r.nonce → s.sec.unlocks r = false) ∧
    exec .returnNonceExpire s = .next { s with sec := { s.sec with nonce := none } } ∧
    (s.mod.phase.running = true → exec .trngHealthFail s = .next { s with sec := { s.sec with trngFail := true } }))

/-- The SPDM requests and DOE_ABORT (R483, R484, R489): over MCTP each is answered at once, over DOE it waits as the one
request that the mailbox serves; a second one is answered Busy, and before the alias key exists every one ResponseNotReady.
A signed answer carries a fresh nonce and a signature of the alias key, both free values. -/
def Obligations.SpdmAnswers : Prop :=
  ∀ (s : State) (tr : Transport) (nonce : List Byte),
    let said := fun (i : Instr) (a : SpdmAnswer) (used : Nat) => exec i s = .next (match tr with
      | .mctp => { s with out := s.out ++ [.spdm .mctp a], sec := { s.sec with nonces := s.sec.nonces + used } }
      | .doe => { s with sec := { s.sec with doe := some a, nonces := s.sec.nonces + used } })
    let n := (Config.drbg s.sec.nonces).take 32
    let d := sha3_512 s.sec.slot0
    let sum := Config.measurementSummary s.sec.measured
    (s.serving tr = true →
      said (.getVersion tr) (.version 1 4) 0 ∧ said (.getCapabilities tr) .capabilities 0 ∧
      (∀ a b, said (.negotiateAlgorithms tr a b) (.algorithms a b) 0) ∧
      said (.getDigests tr) (if s.sec.rmaUnlocked then .error .unspecified else .digests [0] d) 0 ∧
      (∀ off len, s.sec.rmaUnlocked = false → said (.getCertificate tr 0 off len)
        (.certificate (bytesFrom s.sec.slot0 off len) (s.sec.slot0.length - off - (bytesFrom s.sec.slot0 off len).length)) 0) ∧
      (s.sec.trngFail = false → s.sec.rmaUnlocked = false →
        said (.challenge tr 0 nonce)
          (.challengeAuth d n sum (Config.aliasSign s.sec.chain (nonce ++ n ++ d ++ sum) s.sec.nonces)) 1 ∧
        ∀ i, 1 ≤ i → i ≤ 6 → let m := s.sec.measured.getD (i - 1) []
          said (.getMeasurements tr i false nonce) (.measurements [(i, m)] none) 0 ∧
          said (.getMeasurements tr i true nonce) (.measurements [(i, m)]
            (some (n, Config.aliasSign s.sec.chain (nonce ++ n ++ m) s.sec.nonces))) 1) ∧
      (s.sec.trngFail = true ∨ s.sec.rmaUnlocked = true → said (.challenge tr 0 nonce) (.error .unspecified) 0)) ∧
    (s.sec.aliasReady = false → s.sideband = true → exec (.getVersion .mctp) s =
      .next { s with out := s.out ++ [.spdm .mctp (.error .notReady)] }) ∧
    (s.doeReachable = true → s.sec.doe.isSome = true → exec (.getVersion .doe) s =
      .next { s with out := s.out ++ [.spdm .doe (.error .busy)] }) ∧
    exec .doeAbort s = .next { s with sec := { s.sec with doe := none } }

/-! ### The fabric -/

/-- Packets that arrive on a port with nothing outstanding (R357 to R360, R363, R368, R374, R377): a packet that fails its
CRC asks for a resend; one in sequence is acknowledged, returns its flits as credits, and goes on by its route under the
next port's sequence number; one out of sequence is not taken, and only acknowledged where it was taken before (log 92). A
WRITE at its destination puts the words that its sluice admits into the owner's scratchpad queue, to be answered when they are
written (R243); an ANSWER for the device ends the packet that it answers. -/
def Obligations.PacketsArrive : Prop :=
  ∀ (s : State) (n : Nat) (p : Packet),
    let x := s.port n
    let data := p.kind = .write ∨ p.kind = .answer
    let i : Instr := if p.kind = .write then .avdinWritePacket n p else .avdinAnswerPacket n p
    let give := lmod [0, 0, 0, 0] p.channel (fun _ => p.flits)
    let old := (x.rxSeq + 4096 - p.seq) % 4096
    x.state = .up ∨ x.state = .degraded → x.kept = [] → x.inFlight = 0 → p.retryReq = false →
    (x.lately s.turn.now).length ≤ 64 →
    (p.crcOk = false → data → exec i s = .next { s with
      avdin := { s.avdin with ports := aset s.avdin.ports n { x with crcFails := min (x.crcFails + 1) (2 ^ 16 - 1) } }
      out := s.out ++ [.packet n (controlPacket ((x.rxSeq + 4095) % 4096) true [0, 0, 0, 0])] }) ∧
    (p.crcOk = true → data → old ≠ 0 → exec i s = .next (if old ≤ 8 then
      { s with out := s.out ++ [.packet n (controlPacket ((x.rxSeq + 4095) % 4096) false [0, 0, 0, 0])] } else s)) ∧
    (p.crcOk = true → data → old = 0 → ∃ t, exec i s = .next t ∧ (t.port n).rxSeq = (x.rxSeq + 1) % 4096 ∧
      (∀ (m : Nat) (cls det : Bool), m ≠ n → s.route p (s.portDim n) = .out m cls det → (s.port m).kept = [] →
        (s.port m).inFlight = 0 → p.flits ≤ (s.port m).credits.getD ({ p with cls := cls } : Packet).channel 0 →
        t.sites = s.sites ∧ t.ctxs = s.ctxs ∧ t.out = s.out ++ [.packet n (controlPacket x.rxSeq false give),
          .packet m { p with
            cls := cls, detoured := det, seq := (s.port m).txSeq, hops := p.hops + 1,
            vc := ({ p with cls := cls } : Packet).channel, ack := ((s.port m).rxSeq + 4095) % 4096, ackValid := true }]) ∧
      (∀ (c q k : Nat) (e : SluiceEntry) (r : CrossIn), p.kind = .write → s.route p (s.portDim n) = .here → p.nwords = 1 →
        s.mod.dev ≠ .resetting → s.check.chipBraked = false → s.pipelineCtx p.pipeline = some c →
        (s.ctx c).quads[p.destTile / 512]? = some q → ((s.ctx c).plan.bind (fun l => l.tile p.destTile)).isSome = true →
        (s.quad q).recState = .normal → (s.quad q).braked = false →
        (s.ctx c).crossIn.find? (fun z => z.planQuad == p.destTile / 512 && z.sluice == p.sluice) = some r →
        p.inst = r.next % 65536 →
        s.judge q (p.destTile / 512) (p.destTile % 512) p.sluice p.offset s.portCycle (.device p.src) (.inr p.pipeline) = .allow k →
        (s.quad q).sluices.find? (fun z => z.1 == k) = some (k, e) → t.out = s.out ++ [.packet n (controlPacket x.rxSeq false give)] ∧
        t.avdin.arrivals = s.avdin.arrivals ++
          [{ id := s.avdin.arrivalNo, quad := q, packet := p, left := 1, counts := [1, 0, 0, 0, 0] }] ∧
        (t.site (s.siteOf q (e.owner % 512))).ex.writes = (s.site (s.siteOf q (e.owner % 512))).ex.writes ++
          [{ addr := e.base + p.offset, bytes := p.words.getD 0 (List.replicate 64 0), poison := p.poison.contains 0,
             fromSite := fromPort + s.avdin.arrivalNo, entry := k, xfer := 0 }]) ∧
      (∀ o, p.kind = .answer → s.route p (s.portDim n) = .here → p.gens = s.gensOf p.srcQuad p.srcCtx →
        p.counts = [o.packet.nwords, 0, 0, 0, 0] →
        let mine := fun (z : OutPacket) => z.packet.dest == p.src && z.packet.sluice == p.sluice && z.packet.inst == p.inst &&
          z.packet.pktNo == p.pktNo
        (s.ctx p.srcCtx).outPackets.find? mine = some o →
        (t.ctx p.srcCtx).outPackets = (s.ctx p.srcCtx).outPackets.filter (fun z => !mine z)))

/-- AVDIN_CONTROL_PACKET, AVDIN_MGMT_PACKET and LINK_RETRY_TIMEOUT (R25, R358, R359, R370): an acknowledgement frees the
packets up to it and returns credits; a resend request, or 2 µs without an acknowledgement, sends the outstanding packets
again, and the 65th time within 1 ms trains the port again (R389); a MGMT message gives the link delay, or the full TURN_NO of
the master, to which a device that differs by more than a boundary steps, or asks for it. CODEWORD_LOCK_LOSS,
LINK_TRAINING_DONE, PORT_RETRY_TIMER, BRAKE_FLIT_RECEIVE and BER_WINDOW_END (R369, R388, R389): a port that loses its lock
trains again; a training ends UP with its peer, or tries again until the third failure in a row leaves the port DOWN;
BER_HIGH stands for a window of 17,000,000 corrected bits, three of which make the port DEGRADED and three without UP.
Stated of ports that hold no packet. FABRIC_MANIFEST_RECEIVE and MANIFEST_APPLY (R385 to R387): a manifest is rejected with
its cause, or kept in flash and PENDING until the intake of its APPLY_TURN, when it comes into force with its position,
roles and priority. -/
def Obligations.LinksAndManifests : Prop :=
  (∀ (s : State) (n : Nat) (p k : Packet),
    let x := s.port n
    let credits := List.zipWith (fun a b => min 514 (a + b)) x.credits (p.credits ++ List.replicate 4 0)
    (x.state = .up ∨ x.state = .degraded → p.crcOk = true → p.kind = .control → x.kept = [k] → x.inFlight = 1 →
      (x.lately s.turn.now).length < 64 →
      (p.ackValid = true → p.ack = k.seq → p.retryReq = false → ∃ t, exec (.avdinControlPacket n p) s = .next t ∧
        t.port n = { x with kept := [], inFlight := 0, credits := credits } ∧ t.out = s.out) ∧
      (p.ackValid = false → p.retryReq = true → ∃ t, exec (.avdinControlPacket n p) s = .next t ∧
        t.port n = { x with credits := credits, retries := min (x.retries + 1) (2 ^ 16 - 1), recent := x.lately s.turn.now ++ [s.turn.now] } ∧
        t.out = s.out ++ [.packet n k])) ∧
    (x.state = .up ∨ x.state = .degraded → p.crcOk = true → p.kind = .mgmt → x.kept = [] → x.inFlight = 0 → p.seq = x.rxSeq →
      p.retryReq = false →
      (∀ d, p.delayNs = some d → p.fullTurn = none → ∃ t, exec (.avdinMgmtPacket n p) s = .next t ∧ (t.port n).delayNs = d ∧
        (t.port n).rxSeq = (x.rxSeq + 1) % 4096 ∧ t.turn = s.turn) ∧
      (p.fullTurn = none → p.delayNs = none → s.turn.running = true → s.turn.fullNo.isSome = true →
        ∃ t z, exec (.avdinMgmtPacket n p) s = .next t ∧ (t.port n).kept = [z] ∧ z.kind = .mgmt ∧ z.fullTurn = s.turn.fullNo) ∧
      (∀ no m, p.fullTurn = some no → p.delayNs = none → s.turn.best = some (n, m) →
        ∃ t, exec (.avdinMgmtPacket n p) s = .next t ∧
          (s.turn.stepPending = true → t.turn = { s.turn with masterNo := some no, stepTo := some (no + 1) }) ∧
          (s.turn.stepPending = false → s.turn.stepTurn = false → no + 1 < s.turn.no ∨ s.turn.no + 1 < no →
            t.turn = { s.turn with masterNo := some no, locked := false, stepPending := true, stepTo := some (no + 1) }) ∧
          (s.turn.stepPending = false → s.turn.stepTurn = false → no ≤ s.turn.no + 1 → s.turn.no ≤ no + 1 →
            t.turn = { s.turn with masterNo := some no }))) ∧
    (s.carries n = true → 0 < x.inFlight → 64 ≤ (x.lately s.turn.now).length → ∃ t, exec (.linkRetryTimeout n) s = .next t ∧
      (t.port n).state = .training) ∧
    (s.carries n = true → 0 < x.inFlight → (x.lately s.turn.now).length < 64 → ∃ t, exec (.linkRetryTimeout n) s = .next t ∧
      t.out = s.out ++ (x.kept.take x.inFlight).map (fun z => .packet n z) ∧
      t.port n = { x with retries := min (x.retries + 1) (2 ^ 16 - 1), recent := x.lately s.turn.now ++ [s.turn.now] } ∧ t.sites = s.sites)) ∧
  (∀ (s : State) (n : Nat), (s.port n).kept = [] → (s.port n).inFlight = 0 →
    let x := s.port n
    (x.state = .up ∨ x.state = .degraded →
      (∃ t, exec (.codewordLockLoss n) s = .next t ∧ (t.port n).state = .training ∧ (t.port n).failures = 0 ∧
        (t.port n).retrains = (if x.trained then min (x.retrains + 1) (2 ^ 16 - 1) else x.retrains)) ∧
      (∃ t, exec (.brakeFlitReceive n) s = .next t ∧ (t.port n).state = .down ∧ (t.port n).downBrake = true ∧ t.sites = s.sites) ∧
      (∀ bits un, ∃ t, exec (.berWindowEnd n bits un) s = .next t ∧ (t.port n).berHigh = decide (17000000 ≤ bits) ∧
        (t.port n).windows = min (x.windows + 1) (2 ^ 32 - 1) ∧
        (t.port n).state = (if x.state = .up ∧ 17000000 ≤ bits ∧ 2 ≤ x.dirty then .degraded
          else if x.state = .degraded ∧ bits < 17000000 ∧ 2 ≤ x.clean then .up else x.state))) ∧
    (x.state = .training →
      (∀ pos port, ∃ t, exec (.linkTrainingDone n (.up pos port)) s = .next t ∧ (t.port n).state = .up ∧
        (t.port n).peerPos = pos ∧ (t.port n).peerPort = port ∧ (t.port n).failures = 0 ∧ (t.port n).rxSeq = 0) ∧
      (x.failures < 2 → ∃ t, exec (.linkTrainingDone n .failed) s = .next t ∧ (t.port n).state = .training ∧
        (t.port n).failures = x.failures + 1) ∧
      (2 ≤ x.failures → ∃ t, exec (.linkTrainingDone n .failed) s = .next t ∧ (t.port n).state = .down)) ∧
    (x.state = .down → ∃ t, exec (.portRetryTimer n) s = .next t ∧ (t.port n).state = .training) ∧
    (x.state ≠ .down → exec (.portRetryTimer n) s = .next s) ∧
    (x.state ≠ .up → x.state ≠ .degraded → exec (.codewordLockLoss n) s = .next s ∧ exec (.brakeFlitReceive n) s = .next s)) ∧
  (∀ (s : State) (m : FabricManifest),
    (s.answers = true → s.mod.watchdog = false →
      (∀ k, s.rejects m = some k → ∃ t, exec (.fabricManifestReceive m) s = .next t ∧ t.avdin.manState = .rejected ∧
        t.avdin.reject = k ∧ t.avdin.inForce = s.avdin.inForce ∧ t.avdin.waiting = s.avdin.waiting ∧ t.out = s.out ++ [.pldm 1]) ∧
      (s.rejects m = none → m.applyTurn ≠ 0 → ∃ t, exec (.fabricManifestReceive m) s = .next t ∧ t.avdin.manState = .pending ∧
        t.avdin.waiting = some m ∧ t.avdin.cached = some m ∧ t.avdin.inForce = s.avdin.inForce ∧ t.avdin.manSeq = m.seq ∧
        t.out = s.out ++ [.pldm 0])) ∧
    (s.avdin.waiting = some m →
      (s.turn.running = true → s.turn.window = .intake → s.turn.cycle = 0 → m.applyTurn ≤ s.turn.no → ∃ t, exec .manifestApply s = .next t ∧
        t.avdin.inForce = some m ∧ t.avdin.waiting = none ∧ t.avdin.manState = .applied ∧ t.turn.ownPrio = m.priority ∧
        t.sites = s.sites) ∧
      (s.turn.no < m.applyTurn ∨ s.turn.window ≠ .intake ∨ s.turn.cycle ≠ 0 → exec .manifestApply s = .next s)))

/-! ### Memory checks, dressing, wear -/

/-- WEIGHT_DIGEST, DIGEST_PASS_START and DIGEST_REGION_DONE (R396): a request names a region of the plan; a pass lists every
region of every digested context; the digest of a region is logged and compared with its manifest entry. SCRUB_READ and
MODULE_TEMP_READ (R344, R350, R510): a scrub read moves the channel's position on, and the end of the module ends its pass; what
it corrects is counted and written back, an uncorrectable unit becomes poisoned; a module's temperature is kept.
DRESS_WATCH_END, MARCH_PASS_DONE and REPLACEMENT_COPY_DONE (R416, R417, R422 to R424): three rounds without a wrong answer are a
transient; a SPARE site that passes its March is ready, one whose wrong answer its repeat does not give again is watched for
three rounds, and one that fails both times is a confirmed defect to be fenced; a copy that ends leaves unreadable words
poisoned and stages its re-placement. WEAR_DAY_END and WEAR_LOG_WRITE (R430, R431): a wear day adds 24 hours, closes the day's
counts and calls for a write of the log, which ends the call. -/
def Obligations.MemoryChecksAndHealing : Prop :=
  (∀ (s : State) (h : CmdHead) (c q r : Nat) (e : ManifestEntry),
    (s.reads h 0x06 .management true → (s.ctx h.ctx).digested = true → r < (s.ctx h.ctx).manifest.length →
      ∃ t, exec (.weightDigest h r) s = .next t ∧ Accepts s t h (outstanding h 0x06 r 4096) ∧ t.ctxs = s.ctxs ∧
        t.check.requested = s.check.requested ++ [(h.ctx, (s.ctx h.ctx).quads.getD 0 0, r)]) ∧
    (s.live = true → s.mod.order.digest = true → s.check.period ≠ 0 → s.check.passDue = true → s.check.pass = none →
      (s.passRegions ≠ [] → exec .digestPassStart s =
        .next { s with check := { s.check with pass := some s.passRegions, passDue := false } }) ∧
      (s.passRegions = [] → exec .digestPassStart s = .next { s with check := { s.check with
        pass := none, passDue := false, passes := min (s.check.passes + 1) (2 ^ 32 - 1) } })) ∧
    (s.mod.order.digest = false ∨ s.check.period = 0 ∨ s.check.passDue = false ∨ s.check.pass.isSome = true →
      exec .digestPassStart s = .next s) ∧
    ((c, q, r) ∈ s.check.requested → (s.ctx c).digested = true → (s.ctx c).manifest[r]? = some e →
      ∃ t, exec (.digestRegionDone c q r) s = .next t ∧ t.check.requested = s.check.requested.erase (c, q, r) ∧
        t.check.logCount = (s.check.logCount + 1) % 65536 ∧ alook t.check.log (s.check.logCount % 64) = some
          { turn := s.turn.no, ctx := c, quad := q, match_ := decide (s.regionDigest c q r e = e.digest), requested := true,
            region := r, head := (s.regionDigest c q r e).take 16 } ∧
        (∀ y ∈ t.cmds, ¬(y.opc = 0x06 ∧ y.ctx = c ∧ y.arg = r)) ∧ t.sites = s.sites)) ∧
  (∀ (s : State) (n temp : Nat) (f : EccFind),
    (s.scrubs n = true →
      (∃ t, exec (.scrubRead n EccFind.clean) s = .next t ∧ t.ddr.mem = s.ddr.mem ∧ t.sites = s.sites ∧
        (t.chan n).scrub = (if (s.chan n).units ≤ (s.chan n).scrub + 1 then 0 else (s.chan n).scrub + 1)) ∧
      (∀ l, s.ddr.unitOf (n / 16) n (s.chan n).scrub = some l → s.ddr.locate (n / 16) l = some (n, (s.chan n).scrub * 128) →
        (∀ ds bytes, s.eccAt (n / 16) l f = .corrected ds bytes → ∃ t, exec (.scrubRead n f) s = .next t ∧ t.sites = s.sites ∧
          (t.chan n).corrected = min ((s.chan n).corrected + 1) (2 ^ 32 - 1) ∧
          ∀ k, k < 128 → (t.ddr.memory (n / 16)).byte (l / 128 * 128 + k) = bytes.getD k 0) ∧
        (s.eccAt (n / 16) l f = .uncorrectable → ∃ t, exec (.scrubRead n f) s = .next t ∧ t.sites = s.sites ∧
          (t.ddr.memory (n / 16)).isPoisoned (l / 128) = true ∧
          t.ddr.uncorrectable = min (s.ddr.uncorrectable + 1) (2 ^ 16 - 1)))) ∧
    (s.scrubs n = false → exec (.scrubRead n f) s = .next s) ∧
    (s.mod.phase.running = true → (s.chan n).module.isSome = true → (s.chan n).state ≠ .empty → n ∈ s.mod.order.channels (n / 16) →
      ∃ t, exec (.moduleTempRead n temp) s = .next t ∧ t.chan n = { s.chan n with temp := temp } ∧ t.sites = s.sites ∧
        t.ddr.mem = s.ddr.mem)) ∧
  (∀ (s : State) (i item : Nat),
    ((∃ w ∈ s.check.dressWatches, w.site = i ∧ w.item = item ∧ w.rounds = 0) →
      ∃ t, exec (.dressWatchEnd i item) s = .next t ∧ t.sites = s.sites ∧
        (t.quad (i / 576)).dressTransients = min ((s.quad (i / 576)).dressTransients + 1) (2 ^ 16 - 1) ∧
        ∀ w ∈ t.check.dressWatches, ¬(w.site = i ∧ w.item = item ∧ w.rounds = 0)) ∧
    ((s.site i).role = .spare → s.dresses i = true → s.turn.window ≠ .intake →
      (∃ t, exec (.marchPassDone i .clean) s = .next t ∧ i ∈ t.heal.readySpares ∧ t = { s with heal := t.heal }) ∧
      (∃ t, exec (.marchPassDone i (.failed false)) s = .next t ∧ i ∉ t.heal.readySpares ∧
        ({ site := i, item := 14, rounds := 3 } : DressWatch) ∈ t.check.dressWatches ∧ t.quads = s.quads ∧ t.sites = s.sites) ∧
      ((∀ r ∈ s.heal.replacing, r.site ≠ i) → ∃ t, exec (.marchPassDone i (.failed true)) s = .next t ∧ i ∈ t.heal.fenceDue ∧
        i ∉ t.heal.readySpares ∧ (t.quad (i / 576)).confirmed = min ((s.quad (i / 576)).confirmed + 1) (2 ^ 16 - 1) ∧
        t.sites = s.sites)) ∧
    ((s.site i).role ≠ .spare ∨ s.dresses i = false ∨ s.turn.window = .intake → ∀ ok, exec (.marchPassDone i ok) s = .next s) ∧
    (∀ (q tile : Nat) (bad : List Nat) (r : Replacement),
      s.heal.replacing.find? (fun z => z.quad == q && z.tile == tile && !z.copied) = some r → r.site ∈ s.heal.readySpares →
      ∃ t, exec (.replacementCopyDone q tile bad) s = .next t ∧ (∀ w, (t.site r.site).scr.isPoisoned w = decide (w ∈ bad)) ∧
        ∃ z, alook t.sets (65552 + q) = some z ∧ z.state = .opened ∧ z.held = false ∧ Change.placement q tile r.site ∈ z.changes)) ∧
  (∀ (s : State),
    (s.mod.phase.running = true → ∃ t, exec .wearDayEnd s = .next t ∧ t.heal.poweredHours = s.heal.poweredHours + 24 ∧
      t.heal.logPending = true ∧ t.heal.lastCorrected = s.heal.dayCorrected ∧ t.heal.dayCorrected = [] ∧
      t.heal.lastRetrains = s.heal.portRetrains ∧ t.heal.portRetrains = [] ∧ t.sites = s.sites ∧ t.quads = s.quads) ∧
    (s.mod.phase.running = false → exec .wearDayEnd s = .next s) ∧
    exec .wearLogWrite s = .next { s with heal := { s.heal with logPending := false } })

/-! ### Recovery -/

/-- SNAPSHOT_SITE_CAPTURE, ENGINE_RESET_DONE and REPLAY_END (R438, R440): a snapshot is complete when its sites are captured; an
engine reset goes on to the replay of the first suspect, for 64 turns; the round ends in an intake window, where without a
guilty one the hang was transient, and one guilty context is QUARANTINED. QC_HEARTBEAT_MISS, HUB_WATCHDOG_EXPIRE and
CYCLE_REQ_TIMEOUT (R448): a quadrant controller that misses its heartbeat is reset with its quadrant; a hub that misses its
service is braked with cause WATCHDOG and asks for a power cycle. BROADCAST_RECEIPT and BROADCAST_ACTIVATE (R450 to R452): a
SERVICE load without an incomplete site is to activate two turns on (the model's choice, log 90), one with some is repaired in a
further round; in the first cycle of its turn every READY site switches to the new store, those that miss it are fenced, and too
many of them end the load without a switch. -/
def Obligations.Recovery : Prop :=
  (∀ (s : State) (q c g : Nat) (r : Replay),
    ((s.quad q).snap.pending = true → s.turn.window ≠ .close → ∃ t, exec (.snapshotSiteCapture q) s = .next t ∧
      (t.quad q).snap = { (s.quad q).snap with valid := true, pending := false, ctxs := [] }) ∧
    ((s.quad q).replay = some r → (s.quad q).recState = .engineReset →
      (∀ l, r.todo = c :: l → (s.ctx c).replays = true → ∃ t, exec (.engineResetDone q r.engine) s = .next t ∧
        (t.quad q).recState = .replay ∧ (t.quad q).replay = some { r with left := 64 } ∧
        (t.quad q).engineResets = min ((s.quad q).engineResets + 1) (2 ^ 16 - 1) ∧ t.sites = s.sites) ∧
      (r.todo = [] → ∃ t, exec (.engineResetDone q r.engine) s = .next t ∧ (t.quad q).recState = .replay ∧
        (t.quad q).replay = some { r with left := 0 } ∧ t.sites = s.sites ∧ t.ctxs = s.ctxs) ∧
      (∀ e, e ≠ r.engine → exec (.engineResetDone q e) s = .next s)) ∧
    ((s.quad q).replay = some r → (s.quad q).recState = .replay →
      (r.left ≠ 0 ∨ s.turn.window ≠ .intake → exec (.replayEnd q) s = .next s) ∧
      (r.left = 0 → s.turn.window = .intake → r.todo.drop 1 = [] → r.guilty = [] → ∃ t, exec (.replayEnd q) s = .next t ∧ (t.quad q).recState = .normal ∧
        (t.quad q).transientHangs = min ((s.quad q).transientHangs + 1) (2 ^ 16 - 1)) ∧
      (r.left = 0 → s.turn.window = .intake → r.todo.drop 1 = [] → r.guilty = [g] → ∃ t, exec (.replayEnd q) s = .next t ∧ (t.quad q).recState = .normal ∧
        (t.ctx g).state = .quarantined ∧ (t.ctx g).gen = ((s.ctx g).gen + 1) % 256 ∧
        (t.quad q).quarantines = min ((s.quad q).quarantines + 1) (2 ^ 8 - 1)))) ∧
  (∀ (s : State) (q : Nat),
    (s.live = true → s.turn.window = .close → q ∈ s.mod.order.quads → (s.quad q).recState.resetting = false →
      ∃ t, exec (.qcHeartbeatMiss q) s = .next t ∧ (t.quad q).recState.resetting = true ∧ (t.quad q).hostReset = false ∧
        (t.quad q).heartbeatTurn = s.turn.no - 2 ∧ t.turn = s.turn) ∧
    (s.live = true → s.mod.watchdog = false → ∃ t, exec .hubWatchdogExpire s = .next t ∧ t.mod.watchdog = true ∧
      t.check.chipBraked = true ∧ t.mod.dev = .braked ∧ t.mod.brakeN = false ∧ t.mod.serviced = s.turn.no - 1 ∧
      (t.check.braking = none → t.mod.cycleReqN = false)) ∧
    (s.mod.watchdog = true → exec .hubWatchdogExpire s = .next s ∧
      exec .cycleReqTimeout s = .next { s with mod := { s.mod with cycleReqN := false } }) ∧
    (s.mod.watchdog = false → exec .cycleReqTimeout s = .next s)) ∧
  (∀ (s : State) (q : Nat) (bad : List Nat), s.live = true → q ∈ s.mod.order.quads →
    let z := (s.quad q).load
    (z.kind = 0 ∨ z.valid = true → (s.quad q).recState = .normal →
      (∃ t, exec (.broadcastReceipt q true []) s = .next t ∧ (t.quad q).load.valid = false ∧ (t.quad q).load.kind = 1 ∧
        (t.quad q).load.seq = (z.seq + 1) % 65536 ∧ (t.quad q).load.activate = (s.turn.no + 2) % 2 ^ 64 ∧
        (t.quad q).load.incomplete = 0 ∧ (t.quad q).staging = some s.serviceImage ∧ (t.quad q).store = (s.quad q).store ∧
        t.sites = s.sites) ∧
      (bad ≠ [] → (∀ i ∈ bad, i / 576 = q ∧ (s.site i).role ≠ .fenced) → ∃ t, exec (.broadcastReceipt q true bad) s = .next t ∧
        (t.quad q).load.round = 1 ∧ (t.quad q).load.incomplete = bad.length ∧ (t.quad q).load.activate = 0 ∧ t.sites = s.sites)) ∧
    (z.kind = 1 → z.valid = false → z.activate ≠ 0 → z.activate ≤ s.turn.no → s.turn.window = .intake → s.turn.cycle = 0 →
      (∀ i ∈ bad, i / 576 = q ∧ (s.site i).role ≠ .fenced) →
      (s.fenceTooLarge q bad = false → ∃ t, exec (.broadcastActivate { quad := q, missed := bad }) s = .next t ∧
        (t.quad q).load.valid = true ∧ (t.quad q).load.result = 1 ∧ (t.quad q).load.fenced = z.fenced + bad.length ∧
        (t.quad q).store = (s.quad q).staging.getD (s.quad q).store ∧ (t.quad q).staging = none ∧ (t.quad q).round = 0 ∧
        ∀ i ∈ bad, (t.site i).role = .fenced) ∧
      (s.fenceTooLarge q bad = true → ∃ t, exec (.broadcastActivate { quad := q, missed := bad }) s = .next t ∧
        (t.quad q).load.valid = true ∧ (t.quad q).load.result = 2 ∧ (t.quad q).staging = none ∧
        (t.quad q).store = (s.quad q).store ∧ t.sites = s.sites)) ∧
    (z.kind = 1 → z.activate = 0 ∨ s.turn.no < z.activate ∨ s.turn.window ≠ .intake ∨ s.turn.cycle ≠ 0 →
      exec (.broadcastActivate { quad := q, missed := bad }) s = .next s))

/-! ### Reset and what every step keeps -/

/-- Every step keeps every scratchpad and every DDR memory in canonical form: addresses strictly rising, no entry equal to
what an unlisted byte reads as. -/
def Obligations.StepsKeepMemoriesCanonical : Prop :=
  ∀ s t : State, MemoriesCanonical s → step s = .next t → MemoriesCanonical t

/-- Reset leaves every memory in canonical form, no command waiting, power off, the turn generator stopped at the geometry
of Table 1.6, the reef at level 3 with the tray's 3,600 W (Tables 9.6, 9.8), the digest period at 4,096 turns, and every
context EMPTY and the PF's. The values of the memories and of the sites are the model's choice (log 3). -/
def Obligations.ResetState : Prop :=
  MemoriesCanonical State.reset ∧ State.reset.pending = [] ∧ State.reset.mod.pwrEn = false ∧ State.reset.mod.phase = .off ∧
  State.reset.mod.dev = .booting ∧ State.reset.turn.running = false ∧ State.reset.turn.geom = { m := 170, d := 12, c := 32 } ∧
  State.reset.reef.level = 3 ∧ State.reset.reef.trayW = 3600 ∧ State.reset.reef.hostW = 0 ∧ State.reset.check.period = 4096 ∧
  State.reset.mod.brakeN = true ∧ State.reset.mod.thermtripN = true ∧ State.reset.mod.cycleReqN = true ∧
  State.reset.check.chipBraked = false ∧
  (∀ c, (State.reset.ctx c).state = .empty ∧ (State.reset.ctx c).owner = 0) ∧ (∀ f r, (State.reset.ring f r).state = .disabled) ∧
  (∀ q, (State.reset.quad q).recState = .normal ∧ (State.reset.quad q).braked = false) ∧
  (∀ id, (State.reset.stream id).state = .free ∧ (State.reset.stream id).gen = 0) ∧
  ∀ i, (State.reset.site i).seq = Sequencer.cleared ∧ (State.reset.site i).scr = Memory.cleared
end

