-- ==== Sys2Proof/Laws/Dispatch.lean ====
section
/-! SUPPORT. One equation of the dispatch per command, so that a proof about one command unfolds neither the dispatch nor its
other arms. -/

namespace Sys2Proof.Machine

@[simp] theorem exec_turnBoundary {energy vin} {s} : exec (.turnBoundary energy vin) s = execTurnBoundary energy vin s := rfl
@[simp] theorem exec_workWindowStart {s} : exec .workWindowStart s = execWorkWindowStart s := rfl
@[simp] theorem exec_dressingWindowStart {s} : exec .dressingWindowStart s = execDressingWindowStart s := rfl
@[simp] theorem exec_closeWindowStart {facts} {s} : exec (.closeWindowStart facts) s = execCloseWindowStart facts s := rfl
@[simp] theorem exec_dmaTokenCloseDeadline {site xfer} {s} :
    exec (.dmaTokenCloseDeadline site xfer) s = execDmaTokenCloseDeadline site xfer s := rfl
@[simp] theorem exec_turnStep {energy vin} {s} : exec (.turnStep energy vin) s = execTurnStep energy vin s := rfl
@[simp] theorem exec_holdoverEnter {s} : exec .holdoverEnter s = execHoldoverEnter s := rfl
@[simp] theorem exec_masterKeyDiscard {s} : exec .masterKeyDiscard s = execMasterKeyDiscard s := rfl
@[simp] theorem exec_turnMarkReceive {port m} {s} : exec (.turnMarkReceive port m) s = execTurnMarkReceive port m s := rfl
@[simp] theorem exec_changeSetStaged {key} {s} : exec (.changeSetStaged key) s = execChangeSetStaged key s := rfl
@[simp] theorem exec_changeSetApply {key} {s} : exec (.changeSetApply key) s = execChangeSetApply key s := rfl
@[simp] theorem exec_changeSetExpire {key} {s} : exec (.changeSetExpire key) s = execChangeSetExpire key s := rfl
@[simp] theorem exec_governorStage {ctx} {s} : exec (.governorStage ctx) s = execGovernorStage ctx s := rfl
@[simp] theorem exec_bankDrainDone {site bank} {s} : exec (.bankDrainDone site bank) s = execBankDrainDone site bank s := rfl
@[simp] theorem exec_bankDrainTimeout {site bank} {s} :
    exec (.bankDrainTimeout site bank) s = execBankDrainTimeout site bank s := rfl
@[simp] theorem exec_bundleFetch {site k} {s} : exec (.bundleFetch site k) s = execBundleFetch site k s := rfl
@[simp] theorem exec_nop {site slot k} {s} : exec (.nop site slot k) s = execNop site slot k s := rfl
@[simp] theorem exec_sAdd {site f k} {s} : exec (.sAdd site f k) s = execSAdd site f k s := rfl
@[simp] theorem exec_sSub {site f k} {s} : exec (.sSub site f k) s = execSSub site f k s := rfl
@[simp] theorem exec_sMul {site f k} {s} : exec (.sMul site f k) s = execSMul site f k s := rfl
@[simp] theorem exec_sMulhu {site f k} {s} : exec (.sMulhu site f k) s = execSMulhu site f k s := rfl
@[simp] theorem exec_sAnd {site f k} {s} : exec (.sAnd site f k) s = execSAnd site f k s := rfl
@[simp] theorem exec_sOr {site f k} {s} : exec (.sOr site f k) s = execSOr site f k s := rfl
@[simp] theorem exec_sXor {site f k} {s} : exec (.sXor site f k) s = execSXor site f k s := rfl
@[simp] theorem exec_sShl {site f k} {s} : exec (.sShl site f k) s = execSShl site f k s := rfl
@[simp] theorem exec_sShr {site f k} {s} : exec (.sShr site f k) s = execSShr site f k s := rfl
@[simp] theorem exec_sSra {site f k} {s} : exec (.sSra site f k) s = execSSra site f k s := rfl
@[simp] theorem exec_sMin {site f k} {s} : exec (.sMin site f k) s = execSMin site f k s := rfl
@[simp] theorem exec_sMax {site f k} {s} : exec (.sMax site f k) s = execSMax site f k s := rfl
@[simp] theorem exec_sMinu {site f k} {s} : exec (.sMinu site f k) s = execSMinu site f k s := rfl
@[simp] theorem exec_sMaxu {site f k} {s} : exec (.sMaxu site f k) s = execSMaxu site f k s := rfl
@[simp] theorem exec_sAddi {site f k} {s} : exec (.sAddi site f k) s = execSAddi site f k s := rfl
@[simp] theorem exec_sMuli {site f k} {s} : exec (.sMuli site f k) s = execSMuli site f k s := rfl
@[simp] theorem exec_sAndi {site f k} {s} : exec (.sAndi site f k) s = execSAndi site f k s := rfl
@[simp] theorem exec_sOri {site f k} {s} : exec (.sOri site f k) s = execSOri site f k s := rfl
@[simp] theorem exec_sXori {site f k} {s} : exec (.sXori site f k) s = execSXori site f k s := rfl
@[simp] theorem exec_sShli {site f k} {s} : exec (.sShli site f k) s = execSShli site f k s := rfl
@[simp] theorem exec_sShri {site f k} {s} : exec (.sShri site f k) s = execSShri site f k s := rfl
@[simp] theorem exec_sSrai {site f k} {s} : exec (.sSrai site f k) s = execSSrai site f k s := rfl
@[simp] theorem exec_sMovi {site g sd imm k} {s} : exec (.sMovi site g sd imm k) s = execSMovi site g sd imm k s := rfl
@[simp] theorem exec_cmpEq {site f k} {s} : exec (.cmpEq site f k) s = execCmpEq site f k s := rfl
@[simp] theorem exec_cmpNe {site f k} {s} : exec (.cmpNe site f k) s = execCmpNe site f k s := rfl
@[simp] theorem exec_cmpLt {site f k} {s} : exec (.cmpLt site f k) s = execCmpLt site f k s := rfl
@[simp] theorem exec_cmpLe {site f k} {s} : exec (.cmpLe site f k) s = execCmpLe site f k s := rfl
@[simp] theorem exec_cmpLtu {site f k} {s} : exec (.cmpLtu site f k) s = execCmpLtu site f k s := rfl
@[simp] theorem exec_cmpLeu {site f k} {s} : exec (.cmpLeu site f k) s = execCmpLeu site f k s := rfl
@[simp] theorem exec_cmpiEq {site f k} {s} : exec (.cmpiEq site f k) s = execCmpiEq site f k s := rfl
@[simp] theorem exec_cmpiNe {site f k} {s} : exec (.cmpiNe site f k) s = execCmpiNe site f k s := rfl
@[simp] theorem exec_cmpiLt {site f k} {s} : exec (.cmpiLt site f k) s = execCmpiLt site f k s := rfl
@[simp] theorem exec_cmpiLe {site f k} {s} : exec (.cmpiLe site f k) s = execCmpiLe site f k s := rfl
@[simp] theorem exec_cmpiLtu {site f k} {s} : exec (.cmpiLtu site f k) s = execCmpiLtu site f k s := rfl
@[simp] theorem exec_cmpiLeu {site f k} {s} : exec (.cmpiLeu site f k) s = execCmpiLeu site f k s := rfl
@[simp] theorem exec_pand {site f k} {s} : exec (.pand site f k) s = execPand site f k s := rfl
@[simp] theorem exec_por {site f k} {s} : exec (.por site f k) s = execPor site f k s := rfl
@[simp] theorem exec_pxor {site f k} {s} : exec (.pxor site f k) s = execPxor site f k s := rfl
@[simp] theorem exec_movk {site f k} {s} : exec (.movk site f k) s = execMovk site f k s := rfl
@[simp] theorem exec_rdid {site g sd k} {s} : exec (.rdid site g sd k) s = execRdid site g sd k s := rfl
@[simp] theorem exec_branch {site f k} {s} : exec (.branch site f k) s = execBranch site f k s := rfl
@[simp] theorem exec_call {site f k} {s} : exec (.call site f k) s = execCall site f k s := rfl
@[simp] theorem exec_jr {site f k} {s} : exec (.jr site f k) s = execJr site f k s := rfl
@[simp] theorem exec_loop {site f k} {s} : exec (.loop site f k) s = execLoop site f k s := rfl
@[simp] theorem exec_loopi {site f k} {s} : exec (.loopi site f k) s = execLoopi site f k s := rfl
@[simp] theorem exec_switchSlot {site f k} {s} : exec (.switchSlot site f k) s = execSwitchSlot site f k s := rfl
@[simp] theorem exec_reload {site f k} {s} : exec (.reload site f k) s = execReload site f k s := rfl
@[simp] theorem exec_ownr {site f k} {s} : exec (.ownr site f k) s = execOwnr site f k s := rfl
@[simp] theorem exec_idle {site f k} {s} : exec (.idle site f k) s = execIdle site f k s := rfl
@[simp] theorem exec_waitc {site f k} {s} : exec (.waitc site f k) s = execWaitc site f k s := rfl
@[simp] theorem exec_waitExpire {site k} {s} : exec (.waitExpire site k) s = execWaitExpire site k s := rfl
@[simp] theorem exec_endwork {site g k} {s} : exec (.endwork site g k) s = execEndwork site g k s := rfl
@[simp] theorem exec_sendV {site f k} {s} : exec (.sendV site f k) s = execSendV site f k s := rfl
@[simp] theorem exec_sendS {site f k} {s} : exec (.sendS site f k) s = execSendS site f k s := rfl
@[simp] theorem exec_msendV {site f k} {s} : exec (.msendV site f k) s = execMsendV site f k s := rfl
@[simp] theorem exec_recvV {site f k} {s} : exec (.recvV site f k) s = execRecvV site f k s := rfl
@[simp] theorem exec_recvS {site f k} {s} : exec (.recvS site f k) s = execRecvS site f k s := rfl
@[simp] theorem exec_tpush {site f k} {s} : exec (.tpush site f k) s = execTpush site f k s := rfl
@[simp] theorem exec_tpushi {site f k} {s} : exec (.tpushi site f k) s = execTpushi site f k s := rfl
@[simp] theorem exec_tpop {site f k} {s} : exec (.tpop site f k) s = execTpop site f k s := rfl
@[simp] theorem exec_dma {site f k} {s} : exec (.dma site f k) s = execDma site f k s := rfl
@[simp] theorem exec_dmaDescriptorFetch {site cycle} {s} :
    exec (.dmaDescriptorFetch site cycle) s = execDmaDescriptorFetch site cycle s := rfl
@[simp] theorem exec_dmaTransferDone {site xfer cycle found} {s} :
    exec (.dmaTransferDone site xfer cycle found) s = execDmaTransferDone site xfer cycle found s := rfl
@[simp] theorem exec_mldw {site f k} {s} : exec (.mldw site f k) s = execMldw site f k s := rfl
@[simp] theorem exec_mfeed {site f k} {s} : exec (.mfeed site f k) s = execMfeed site f k s := rfl
@[simp] theorem exec_mmul {site f k} {s} : exec (.mmul site f k) s = execMmul site f k s := rfl
@[simp] theorem exec_feedTiming {site} {s} : exec (.feedTiming site) s = execFeedTiming site s := rfl
@[simp] theorem exec_vadd {site f k} {s} : exec (.vadd site f k) s = execVadd site f k s := rfl
@[simp] theorem exec_vsub {site f k} {s} : exec (.vsub site f k) s = execVsub site f k s := rfl
@[simp] theorem exec_vmul {site f k} {s} : exec (.vmul site f k) s = execVmul site f k s := rfl
@[simp] theorem exec_vfma {site f k} {s} : exec (.vfma site f k) s = execVfma site f k s := rfl
@[simp] theorem exec_vfms {site f k} {s} : exec (.vfms site f k) s = execVfms site f k s := rfl
@[simp] theorem exec_vfnma {site f k} {s} : exec (.vfnma site f k) s = execVfnma site f k s := rfl
@[simp] theorem exec_vmin {site f k} {s} : exec (.vmin site f k) s = execVmin site f k s := rfl
@[simp] theorem exec_vmax {site f k} {s} : exec (.vmax site f k) s = execVmax site f k s := rfl
@[simp] theorem exec_vabs {site f k} {s} : exec (.vabs site f k) s = execVabs site f k s := rfl
@[simp] theorem exec_vneg {site f k} {s} : exec (.vneg site f k) s = execVneg site f k s := rfl
@[simp] theorem exec_vmov {site f k} {s} : exec (.vmov site f k) s = execVmov site f k s := rfl
@[simp] theorem exec_vrcp {site f k} {s} : exec (.vrcp site f k) s = execVrcp site f k s := rfl
@[simp] theorem exec_vrsqrt {site f k} {s} : exec (.vrsqrt site f k) s = execVrsqrt site f k s := rfl
@[simp] theorem exec_vsqrt {site f k} {s} : exec (.vsqrt site f k) s = execVsqrt site f k s := rfl
@[simp] theorem exec_vexp2 {site f k} {s} : exec (.vexp2 site f k) s = execVexp2 site f k s := rfl
@[simp] theorem exec_vlog2 {site f k} {s} : exec (.vlog2 site f k) s = execVlog2 site f k s := rfl
@[simp] theorem exec_vaddi {site f k} {s} : exec (.vaddi site f k) s = execVaddi site f k s := rfl
@[simp] theorem exec_vmuli {site f k} {s} : exec (.vmuli site f k) s = execVmuli site f k s := rfl
@[simp] theorem exec_vmovi {site f k} {s} : exec (.vmovi site f k) s = execVmovi site f k s := rfl
@[simp] theorem exec_vrda {site f k} {s} : exec (.vrda site f k) s = execVrda site f k s := rfl
@[simp] theorem exec_vaddA {site f k} {s} : exec (.vaddA site f k) s = execVaddA site f k s := rfl
@[simp] theorem exec_vmulA {site f k} {s} : exec (.vmulA site f k) s = execVmulA site f k s := rfl
@[simp] theorem exec_vfmaA {site f k} {s} : exec (.vfmaA site f k) s = execVfmaA site f k s := rfl
@[simp] theorem exec_viadd {site f k} {s} : exec (.viadd site f k) s = execViadd site f k s := rfl
@[simp] theorem exec_visub {site f k} {s} : exec (.visub site f k) s = execVisub site f k s := rfl
@[simp] theorem exec_vimul {site f k} {s} : exec (.vimul site f k) s = execVimul site f k s := rfl
@[simp] theorem exec_vand {site f k} {s} : exec (.vand site f k) s = execVand site f k s := rfl
@[simp] theorem exec_vor {site f k} {s} : exec (.vor site f k) s = execVor site f k s := rfl
@[simp] theorem exec_vxor {site f k} {s} : exec (.vxor site f k) s = execVxor site f k s := rfl
@[simp] theorem exec_vshl {site f k} {s} : exec (.vshl site f k) s = execVshl site f k s := rfl
@[simp] theorem exec_vshr {site f k} {s} : exec (.vshr site f k) s = execVshr site f k s := rfl
@[simp] theorem exec_vsra {site f k} {s} : exec (.vsra site f k) s = execVsra site f k s := rfl
@[simp] theorem exec_vimin {site f k} {s} : exec (.vimin site f k) s = execVimin site f k s := rfl
@[simp] theorem exec_vimax {site f k} {s} : exec (.vimax site f k) s = execVimax site f k s := rfl
@[simp] theorem exec_vcvtF2i {site f k} {s} : exec (.vcvtF2i site f k) s = execVcvtF2i site f k s := rfl
@[simp] theorem exec_vcvtI2f {site f k} {s} : exec (.vcvtI2f site f k) s = execVcvtI2f site f k s := rfl
@[simp] theorem exec_vunpk {site f k} {s} : exec (.vunpk site f k) s = execVunpk site f k s := rfl
@[simp] theorem exec_ocvt {site f k} {s} : exec (.ocvt site f k) s = execOcvt site f k s := rfl
@[simp] theorem exec_vcmpEq {site f k} {s} : exec (.vcmpEq site f k) s = execVcmpEq site f k s := rfl
@[simp] theorem exec_vcmpLt {site f k} {s} : exec (.vcmpLt site f k) s = execVcmpLt site f k s := rfl
@[simp] theorem exec_vcmpLe {site f k} {s} : exec (.vcmpLe site f k) s = execVcmpLe site f k s := rfl
@[simp] theorem exec_vcmpUn {site f k} {s} : exec (.vcmpUn site f k) s = execVcmpUn site f k s := rfl
@[simp] theorem exec_vicmpEq {site f k} {s} : exec (.vicmpEq site f k) s = execVicmpEq site f k s := rfl
@[simp] theorem exec_vicmpLt {site f k} {s} : exec (.vicmpLt site f k) s = execVicmpLt site f k s := rfl
@[simp] theorem exec_vicmpLtu {site f k} {s} : exec (.vicmpLtu site f k) s = execVicmpLtu site f k s := rfl
@[simp] theorem exec_vmand {site f k} {s} : exec (.vmand site f k) s = execVmand site f k s := rfl
@[simp] theorem exec_vmor {site f k} {s} : exec (.vmor site f k) s = execVmor site f k s := rfl
@[simp] theorem exec_vmxor {site f k} {s} : exec (.vmxor site f k) s = execVmxor site f k s := rfl
@[simp] theorem exec_vrsum {site f k} {s} : exec (.vrsum site f k) s = execVrsum site f k s := rfl
@[simp] theorem exec_vrmax {site f k} {s} : exec (.vrmax site f k) s = execVrmax site f k s := rfl
@[simp] theorem exec_vrmin {site f k} {s} : exec (.vrmin site f k) s = execVrmin site f k s := rfl
@[simp] theorem exec_vrargmax {site f k} {s} : exec (.vrargmax site f k) s = execVrargmax site f k s := rfl
@[simp] theorem exec_vlut {site f k} {s} : exec (.vlut site f k) s = execVlut site f k s := rfl
@[simp] theorem exec_sample {site f k} {s} : exec (.sample site f k) s = execSample site f k s := rfl
@[simp] theorem exec_vext {site f k} {s} : exec (.vext site f k) s = execVext site f k s := rfl
@[simp] theorem exec_vfrd {site f k} {s} : exec (.vfrd site f k) s = execVfrd site f k s := rfl
@[simp] theorem exec_vfclr {site m sel k} {s} : exec (.vfclr site m sel k) s = execVfclr site m sel k s := rfl
@[simp] theorem exec_vldq {site f k} {s} : exec (.vldq site f k) s = execVldq site f k s := rfl
@[simp] theorem exec_vldqP {site f k} {s} : exec (.vldqP site f k) s = execVldqP site f k s := rfl
@[simp] theorem exec_vstq {site f k} {s} : exec (.vstq site f k) s = execVstq site f k s := rfl
@[simp] theorem exec_vstqP {site f k} {s} : exec (.vstqP site f k) s = execVstqP site f k s := rfl
@[simp] theorem exec_vldb {site f k} {s} : exec (.vldb site f k) s = execVldb site f k s := rfl
@[simp] theorem exec_vldbX {site f k} {s} : exec (.vldbX site f k) s = execVldbX site f k s := rfl
@[simp] theorem exec_vldh {site f k} {s} : exec (.vldh site f k) s = execVldh site f k s := rfl
@[simp] theorem exec_sld {site f k} {s} : exec (.sld site f k) s = execSld site f k s := rfl
@[simp] theorem exec_sst {site f k} {s} : exec (.sst site f k) s = execSst site f k s := rfl
@[simp] theorem exec_steeringCycle {site cycle bad} {s} :
    exec (.steeringCycle site cycle bad) s = execSteeringCycle site cycle bad s := rfl
@[simp] theorem exec_messageRelease {site hop late} {s} :
    exec (.messageRelease site hop late) s = execMessageRelease site hop late s := rfl
@[simp] theorem exec_pondSpill {site hop cycle} {s} : exec (.pondSpill site hop cycle) s = execPondSpill site hop cycle s := rfl
@[simp] theorem exec_pondRefill {site hop cycle bad} {s} :
    exec (.pondRefill site hop cycle bad) s = execPondRefill site hop cycle bad s := rfl
@[simp] theorem exec_pondRefillDone {site hop cycle} {s} :
    exec (.pondRefillDone site hop cycle) s = execPondRefillDone site hop cycle s := rfl
@[simp] theorem exec_sluiceWriteArrival {site xfer cycle bad} {s} :
    exec (.sluiceWriteArrival site xfer cycle bad) s = execSluiceWriteArrival site xfer cycle bad s := rfl
@[simp] theorem exec_sluiceWriteLand {site bank cycle} {s} :
    exec (.sluiceWriteLand site bank cycle) s = execSluiceWriteLand site bank cycle s := rfl
@[simp] theorem exec_sluiceAnswerArrival {site xfer cycle} {s} :
    exec (.sluiceAnswerArrival site xfer cycle) s = execSluiceAnswerArrival site xfer cycle s := rfl
@[simp] theorem exec_batchFill {ctx} {s} : exec (.batchFill ctx) s = execBatchFill ctx s := rfl
@[simp] theorem exec_batchHeaderWrite {ctx} {s} : exec (.batchHeaderWrite ctx) s = execBatchHeaderWrite ctx s := rfl
@[simp] theorem exec_inputWindowReadDone {stream uncorrectable} {s} :
    exec (.inputWindowReadDone stream uncorrectable) s = execInputWindowReadDone stream uncorrectable s := rfl
@[simp] theorem exec_streamEntryFetchDone {stream uncorrectable} {s} :
    exec (.streamEntryFetchDone stream uncorrectable) s = execStreamEntryFetchDone stream uncorrectable s := rfl
@[simp] theorem exec_pointerBlockArrival {fn ok idx} {s} :
    exec (.pointerBlockArrival fn ok idx) s = execPointerBlockArrival fn ok idx s := rfl
@[simp] theorem exec_headraceSkip {h span} {s} : exec (.headraceSkip h span) s = execHeadraceSkip h span s := rfl
@[simp] theorem exec_unknownCommand {h opc} {s} : exec (.unknownCommand h opc) s = execUnknownCommand h opc s := rfl
@[simp] theorem exec_planLoad {h image home quads pipeline prevPos body} {s} :
    exec (.planLoad h image home quads pipeline prevPos body) s = execPlanLoad h image home quads pipeline prevPos body s := rfl
@[simp] theorem exec_planLoadDone {ctx} {s} : exec (.planLoadDone ctx) s = execPlanLoadDone ctx s := rfl
@[simp] theorem exec_planUnload {h} {s} : exec (.planUnload h) s = execPlanUnload h s := rfl
@[simp] theorem exec_planUnloadDone {ctx} {s} : exec (.planUnloadDone ctx) s = execPlanUnloadDone ctx s := rfl
@[simp] theorem exec_ctxAssign {h function} {s} : exec (.ctxAssign h function) s = execCtxAssign h function s := rfl
@[simp] theorem exec_cfgStageRemap {h id tiles} {s} : exec (.cfgStageRemap h id tiles) s = execCfgStageRemap h id tiles s := rfl
@[simp] theorem exec_cfgStageReefRange {h id lo hi} {s} :
    exec (.cfgStageReefRange h id lo hi) s = execCfgStageReefRange h id lo hi s := rfl
@[simp] theorem exec_cfgStageVouch {h id mode} {s} : exec (.cfgStageVouch h id mode) s = execCfgStageVouch h id mode s := rfl
@[simp] theorem exec_cfgStageAudit {h id quad reserve} {s} :
    exec (.cfgStageAudit h id quad reserve) s = execCfgStageAudit h id quad reserve s := rfl
@[simp] theorem exec_cfgStageGeometry {h id m d c} {s} :
    exec (.cfgStageGeometry h id m d c) s = execCfgStageGeometry h id m d c s := rfl
@[simp] theorem exec_cfgCommit {h id turn} {s} : exec (.cfgCommit h id turn) s = execCfgCommit h id turn s := rfl
@[simp] theorem exec_weightDigest {h region} {s} : exec (.weightDigest h region) s = execWeightDigest h region s := rfl
@[simp] theorem exec_digestPassStart {s} : exec .digestPassStart s = execDigestPassStart s := rfl
@[simp] theorem exec_digestRegionDone {ctx quad region} {s} :
    exec (.digestRegionDone ctx quad region) s = execDigestRegionDone ctx quad region s := rfl
@[simp] theorem exec_ctxAbort {h} {s} : exec (.ctxAbort h) s = execCtxAbort h s := rfl
@[simp] theorem exec_ctxAbortDone {ctx} {s} : exec (.ctxAbortDone ctx) s = execCtxAbortDone ctx s := rfl
@[simp] theorem exec_ctxQuery {h} {s} : exec (.ctxQuery h) s = execCtxQuery h s := rfl
@[simp] theorem exec_ctxStart {h} {s} : exec (.ctxStart h) s = execCtxStart h s := rfl
@[simp] theorem exec_ctxPause {h} {s} : exec (.ctxPause h) s = execCtxPause h s := rfl
@[simp] theorem exec_ctxResume {h} {s} : exec (.ctxResume h) s = execCtxResume h s := rfl
@[simp] theorem exec_ctxDrain {h flags} {s} : exec (.ctxDrain h flags) s = execCtxDrain h flags s := rfl
@[simp] theorem exec_streamOpen {h id adapter priv seed kvBase kvLimit} {s} :
    exec (.streamOpen h id adapter priv seed kvBase kvLimit) s = execStreamOpen h id adapter priv seed kvBase kvLimit s := rfl
@[simp] theorem exec_streamStep {h id gen flags inputCount newTokens stop inputAddr inputs} {s} :
    exec (.streamStep h id gen flags inputCount newTokens stop inputAddr inputs) s = execStreamStep h id gen flags inputCount newTokens stop inputAddr inputs s := rfl
@[simp] theorem exec_streamCancel {h id gen} {s} : exec (.streamCancel h id gen) s = execStreamCancel h id gen s := rfl
@[simp] theorem exec_streamTruncate {h id gen position} {s} :
    exec (.streamTruncate h id gen position) s = execStreamTruncate h id gen position s := rfl
@[simp] theorem exec_streamEvict {h id gen} {s} : exec (.streamEvict h id gen) s = execStreamEvict h id gen s := rfl
@[simp] theorem exec_streamEvictDone {stream} {s} : exec (.streamEvictDone stream) s = execStreamEvictDone stream s := rfl
@[simp] theorem exec_streamRestore {h id gen} {s} : exec (.streamRestore h id gen) s = execStreamRestore h id gen s := rfl
@[simp] theorem exec_streamRestoreDone {stream uncorrectable} {s} :
    exec (.streamRestoreDone stream uncorrectable) s = execStreamRestoreDone stream uncorrectable s := rfl
@[simp] theorem exec_streamClose {h id gen} {s} : exec (.streamClose h id gen) s = execStreamClose h id gen s := rfl
@[simp] theorem exec_streamQuery {h id} {s} : exec (.streamQuery h id) s = execStreamQuery h id s := rfl
@[simp] theorem exec_ringEnable {fn ring cfg} {s} : exec (.ringEnable fn ring cfg) s = execRingEnable fn ring cfg s := rfl
@[simp] theorem exec_ringDisable {fn ring cfg} {s} : exec (.ringDisable fn ring cfg) s = execRingDisable fn ring cfg s := rfl
@[simp] theorem exec_hostAllowanceWrite {value} {s} : exec (.hostAllowanceWrite value) s = execHostAllowanceWrite value s := rfl
@[simp] theorem exec_resetReqQuadFast {key quads} {s} :
    exec (.resetReqQuadFast key quads) s = execResetReqQuadFast key quads s := rfl
@[simp] theorem exec_resetReqQuadFull {key quads} {s} :
    exec (.resetReqQuadFull key quads) s = execResetReqQuadFull key quads s := rfl
@[simp] theorem exec_resetReqChip {key} {s} : exec (.resetReqChip key) s = execResetReqChip key s := rfl
@[simp] theorem exec_fwStage {key} {s} : exec (.fwStage key) s = execFwStage key s := rfl
@[simp] theorem exec_ownerSet {key} {s} : exec (.ownerSet key) s = execOwnerSet key s := rfl
@[simp] theorem exec_fwUpdateDone {readBackOk} {s} : exec (.fwUpdateDone readBackOk) s = execFwUpdateDone readBackOk s := rfl
@[simp] theorem exec_registerWrite {fn offset size value} {s} :
    exec (.registerWrite fn offset size value) s = execRegisterWrite fn offset size value s := rfl
@[simp] theorem exec_bar2Read {offset bytes found} {s} :
    exec (.bar2Read offset bytes found) s = execBar2Read offset bytes found s := rfl
@[simp] theorem exec_bar2Write {offset data poison found} {s} :
    exec (.bar2Write offset data poison found) s = execBar2Write offset data poison found s := rfl
@[simp] theorem exec_pfFlr {s} : exec .pfFlr s = execPfFlr s := rfl
@[simp] theorem exec_vfFlr {quad} {s} : exec (.vfFlr quad) s = execVfFlr quad s := rfl
@[simp] theorem exec_hotReset {s} : exec .hotReset s = execHotReset s := rfl
@[simp] theorem exec_pcieLinkDown {s} : exec .pcieLinkDown s = execPcieLinkDown s := rfl
@[simp] theorem exec_d3hotToD0 {fn} {s} : exec (.d3hotToD0 fn) s = execD3hotToD0 fn s := rfl
@[simp] theorem exec_perstNRise {s} : exec .perstNRise s = execPerstNRise s := rfl
@[simp] theorem exec_perstNFall {s} : exec .perstNFall s = execPerstNFall s := rfl
@[simp] theorem exec_pwrEnRise {lowMs} {s} : exec (.pwrEnRise lowMs) s = execPwrEnRise lowMs s := rfl
@[simp] theorem exec_powerUpComplete {s} : exec .powerUpComplete s = execPowerUpComplete s := rfl
@[simp] theorem exec_powerSeqTimeout {s} : exec .powerSeqTimeout s = execPowerSeqTimeout s := rfl
@[simp] theorem exec_pwrEnFall {s} : exec .pwrEnFall s = execPwrEnFall s := rfl
@[simp] theorem exec_thermtrip {die} {s} : exec (.thermtrip die) s = execThermtrip die s := rfl
@[simp] theorem exec_slotIdChange {value} {s} : exec (.slotIdChange value) s = execSlotIdChange value s := rfl
@[simp] theorem exec_memoryModuleInsert {channel module} {s} :
    exec (.memoryModuleInsert channel module) s = execMemoryModuleInsert channel module s := rfl
@[simp] theorem exec_osfpCableInsert {port milliwatts} {s} :
    exec (.osfpCableInsert port milliwatts) s = execOsfpCableInsert port milliwatts s := rfl
@[simp] theorem exec_osfpCableRemove {port} {s} : exec (.osfpCableRemove port) s = execOsfpCableRemove port s := rfl
@[simp] theorem exec_chipControllerStart {incomplete} {s} :
    exec (.chipControllerStart incomplete) s = execChipControllerStart incomplete s := rfl
@[simp] theorem exec_ddrTrainingDone {failed ms} {s} :
    exec (.ddrTrainingDone failed ms) s = execDdrTrainingDone failed ms s := rfl
@[simp] theorem exec_zeroingDone {ms} {s} : exec (.zeroingDone ms) s = execZeroingDone ms s := rfl
@[simp] theorem exec_fullDressingDone {found ms} {s} :
    exec (.fullDressingDone found ms) s = execFullDressingDone found ms s := rfl
@[simp] theorem exec_eFloorMeasured {floor} {s} : exec (.eFloorMeasured floor) s = execEFloorMeasured floor s := rfl
@[simp] theorem exec_readinessDecision {totalMs fuseMs} {s} :
    exec (.readinessDecision totalMs fuseMs) s = execReadinessDecision totalMs fuseMs s := rfl
@[simp] theorem exec_tempSample {temps} {s} : exec (.tempSample temps) s = execTempSample temps s := rfl
@[simp] theorem exec_brakePtrPoll {fn ok idx} {s} : exec (.brakePtrPoll fn ok idx) s = execBrakePtrPoll fn ok idx s := rfl
@[simp] theorem exec_brakeRecordTimeout {s} : exec .brakeRecordTimeout s = execBrakeRecordTimeout s := rfl
@[simp] theorem exec_trayAllowanceSet {watts} {s} : exec (.trayAllowanceSet watts) s = execTrayAllowanceSet watts s := rfl
@[simp] theorem exec_pldmOwnerKey {digest} {s} : exec (.pldmOwnerKey digest) s = execPldmOwnerKey digest s := rfl
@[simp] theorem exec_pldmFwUpdate {image} {s} : exec (.pldmFwUpdate image) s = execPldmFwUpdate image s := rfl
@[simp] theorem exec_romRecoveryUpdate {image} {s} : exec (.romRecoveryUpdate image) s = execRomRecoveryUpdate image s := rfl
@[simp] theorem exec_fabricManifestReceive {m} {s} : exec (.fabricManifestReceive m) s = execFabricManifestReceive m s := rfl
@[simp] theorem exec_manifestApply {s} : exec .manifestApply s = execManifestApply s := rfl
@[simp] theorem exec_returnNonce {s} : exec .returnNonce s = execReturnNonce s := rfl
@[simp] theorem exec_returnNonceExpire {s} : exec .returnNonceExpire s = execReturnNonceExpire s := rfl
@[simp] theorem exec_returnUnlock {record} {s} : exec (.returnUnlock record) s = execReturnUnlock record s := rfl
@[simp] theorem exec_getVersion {t} {s} : exec (.getVersion t) s = execGetVersion t s := rfl
@[simp] theorem exec_getCapabilities {t} {s} : exec (.getCapabilities t) s = execGetCapabilities t s := rfl
@[simp] theorem exec_negotiateAlgorithms {t mldsa87 sha3} {s} :
    exec (.negotiateAlgorithms t mldsa87 sha3) s = execNegotiateAlgorithms t mldsa87 sha3 s := rfl
@[simp] theorem exec_getDigests {t} {s} : exec (.getDigests t) s = execGetDigests t s := rfl
@[simp] theorem exec_getCertificate {t slot offset length} {s} :
    exec (.getCertificate t slot offset length) s = execGetCertificate t slot offset length s := rfl
@[simp] theorem exec_challenge {t slot nonce} {s} : exec (.challenge t slot nonce) s = execChallenge t slot nonce s := rfl
@[simp] theorem exec_getMeasurements {t index signed nonce} {s} :
    exec (.getMeasurements t index signed nonce) s = execGetMeasurements t index signed nonce s := rfl
@[simp] theorem exec_doeAbort {s} : exec .doeAbort s = execDoeAbort s := rfl
@[simp] theorem exec_trngHealthFail {s} : exec .trngHealthFail s = execTrngHealthFail s := rfl
@[simp] theorem exec_avdinWritePacket {port p} {s} : exec (.avdinWritePacket port p) s = execAvdinWritePacket port p s := rfl
@[simp] theorem exec_avdinAnswerPacket {port p} {s} : exec (.avdinAnswerPacket port p) s = execAvdinAnswerPacket port p s := rfl
@[simp] theorem exec_avdinControlPacket {port p} {s} :
    exec (.avdinControlPacket port p) s = execAvdinControlPacket port p s := rfl
@[simp] theorem exec_avdinMgmtPacket {port p} {s} : exec (.avdinMgmtPacket port p) s = execAvdinMgmtPacket port p s := rfl
@[simp] theorem exec_brakeFlitReceive {port} {s} : exec (.brakeFlitReceive port) s = execBrakeFlitReceive port s := rfl
@[simp] theorem exec_linkRetryTimeout {port} {s} : exec (.linkRetryTimeout port) s = execLinkRetryTimeout port s := rfl
@[simp] theorem exec_codewordLockLoss {port} {s} : exec (.codewordLockLoss port) s = execCodewordLockLoss port s := rfl
@[simp] theorem exec_linkTrainingDone {port result} {s} :
    exec (.linkTrainingDone port result) s = execLinkTrainingDone port result s := rfl
@[simp] theorem exec_portRetryTimer {port} {s} : exec (.portRetryTimer port) s = execPortRetryTimer port s := rfl
@[simp] theorem exec_berWindowEnd {port corrBits uncorrected} {s} :
    exec (.berWindowEnd port corrBits uncorrected) s = execBerWindowEnd port corrBits uncorrected s := rfl
@[simp] theorem exec_scrubRead {channel found} {s} : exec (.scrubRead channel found) s = execScrubRead channel found s := rfl
@[simp] theorem exec_moduleTempRead {channel temp} {s} :
    exec (.moduleTempRead channel temp) s = execModuleTempRead channel temp s := rfl
@[simp] theorem exec_deadlinePassed {fn ring tag} {s} :
    exec (.deadlinePassed fn ring tag) s = execDeadlinePassed fn ring tag s := rfl
@[simp] theorem exec_snapshotSiteCapture {quad} {s} : exec (.snapshotSiteCapture quad) s = execSnapshotSiteCapture quad s := rfl
@[simp] theorem exec_engineResetDone {quad engine} {s} :
    exec (.engineResetDone quad engine) s = execEngineResetDone quad engine s := rfl
@[simp] theorem exec_replayEnd {quad} {s} : exec (.replayEnd quad) s = execReplayEnd quad s := rfl
@[simp] theorem exec_lateResume {ctx} {s} : exec (.lateResume ctx) s = execLateResume ctx s := rfl
@[simp] theorem exec_hwCheckWatchEnd {site} {s} : exec (.hwCheckWatchEnd site) s = execHwCheckWatchEnd site s := rfl
@[simp] theorem exec_dressWatchEnd {site item} {s} : exec (.dressWatchEnd site item) s = execDressWatchEnd site item s := rfl
@[simp] theorem exec_diagnosisEnd {ctx} {s} : exec (.diagnosisEnd ctx) s = execDiagnosisEnd ctx s := rfl
@[simp] theorem exec_replacementCopyDone {quad tile poisoned} {s} :
    exec (.replacementCopyDone quad tile poisoned) s = execReplacementCopyDone quad tile poisoned s := rfl
@[simp] theorem exec_quadResetDone {quad failed found} {s} :
    exec (.quadResetDone quad failed found) s = execQuadResetDone quad failed found s := rfl
@[simp] theorem exec_resetEscalate {level quad} {s} : exec (.resetEscalate level quad) s = execResetEscalate level quad s := rfl
@[simp] theorem exec_qcHeartbeatMiss {quad} {s} : exec (.qcHeartbeatMiss quad) s = execQcHeartbeatMiss quad s := rfl
@[simp] theorem exec_hubWatchdogExpire {s} : exec .hubWatchdogExpire s = execHubWatchdogExpire s := rfl
@[simp] theorem exec_cycleReqTimeout {s} : exec .cycleReqTimeout s = execCycleReqTimeout s := rfl
@[simp] theorem exec_broadcastReceipt {quad service incomplete} {s} :
    exec (.broadcastReceipt quad service incomplete) s = execBroadcastReceipt quad service incomplete s := rfl
@[simp] theorem exec_broadcastActivate {quad} {s} : exec (.broadcastActivate quad) s = execBroadcastActivate quad s := rfl
@[simp] theorem exec_wearDayEnd {s} : exec .wearDayEnd s = execWearDayEnd s := rfl
@[simp] theorem exec_wearLogWrite {s} : exec .wearLogWrite s = execWearLogWrite s := rfl
@[simp] theorem exec_d3hotEntry {fn} {s} : exec (.d3hotEntry fn) s = execD3hotEntry fn s := rfl
@[simp] theorem exec_marchPassDone {site ok} {s} : exec (.marchPassDone site ok) s = execMarchPassDone site ok s := rfl
@[simp] theorem exec_hubLockstep {s} : exec .hubLockstep s = execHubLockstep s := rfl

end Sys2Proof.Machine
end

