-- ==== Sys2Proof/Laws/Hub.lean ====
section
/-! SUPPORT. What the operations shared by the hub's commands can do: an access to device DDR (R344, R346), an MSI-X message
(R293), a packet that a port receives (R359). -/

namespace Sys2Proof.Machine

/-! ### Accesses to device DDR -/

/-- An access whose devices deliver what they store meets the stored poison or nothing. -/
theorem eccAccess_still (unit : List Byte) (p : Bool) (f : EccFind) (marked : List Nat)
    (h : f.errors.all (fun e => e.2 == 0) = true) : eccAccess unit p f marked = if p then .poisoned else .clean := by
  cases p
  · unfold eccAccess; rw [if_pos h]
  · rfl

/-- Stored poison hides every error of the devices (R346). -/
theorem eccAccess_poisoned (unit : List Byte) (f : EccFind) (marked : List Nat) :
    eccAccess unit true f marked = .poisoned := by
  simp [eccAccess]

/-- Without an error of its devices a unit is what its poison mark says. -/
theorem State.eccAt_clean (s : State) (q l : Nat) :
    s.eccAt q l EccFind.clean = if s.unitPoison q l then .poisoned else .clean := by
  unfold State.eccAt
  exact eccAccess_still _ _ _ _ rfl

/-- So a range is delivered poisoned exactly in its poisoned units. -/
theorem State.lostIn_nil (s : State) (q l n : Nat) :
    s.lostIn q l n [] = ((List.range (ceilDiv (l % 128 + n) 128)).map (fun i => l / 128 + i)).filter
      (fun u => s.unitPoison q (128 * u)) := by
  unfold State.lostIn
  refine List.filter_congr (fun u _ => ?_)
  simp only [State.eccOf, List.find?_nil, State.eccAt_clean]
  cases s.unitPoison q (128 * u) <;> rfl

/-- An access without errors changes nothing. -/
theorem State.ddrFound_clean (s : State) (q l : Nat) (src : DdrSource) : s.ddrFound q l EccFind.clean src = s := by
  unfold State.ddrFound
  rw [State.eccAt_clean]
  cases s.ddr.locate q l with
  | none => rfl
  | some e => cases s.unitPoison q l <;> rfl

theorem State.ddrFinds_nil (s : State) (q l n : Nat) (src : DdrSource) : s.ddrFinds q l n [] src = s := rfl

/-! ### Messages -/

/-- A message whose vector is masked waits; any other goes out, as the one of its turn. -/
theorem State.message_cases (s : State) (f v : Nat) :
    ((s.fn f).isMasked v = true ∧
      s.message f v = s.modFn f (fun y => { y with msixPending := nins y.msixPending v })) ∨
    ((s.fn f).isMasked v = false ∧
      s.message f v = (s.emit (.msix f v)).modFn f (fun y => { y with msixPending := ndel y.msixPending v, sent := true })) := by
  unfold State.message
  cases (s.fn f).isMasked v <;> simp

/-- After the turn's message nothing pending goes out. -/
theorem State.firePending_sent (s : State) (f : Nat) (h : (s.fn f).sent = true) : s.firePending f = s := by
  simp [State.firePending, h]

theorem State.firePending_none (s : State) (f : Nat) (h : (s.fn f).msixPending = []) : s.firePending f = s := by
  simp [State.firePending, h]

/-! ### Packets at a port -/

/-- A packet is taken only on a trained port, with a good CRC, as no CONTROL packet, and in sequence. -/
theorem State.receive_taken (s : State) (n : Nat) (p : Packet) (h : (s.receive n p).2 = true) :
    ((s.port n).state = .up ∨ (s.port n).state = .degraded) ∧ p.crcOk = true ∧ p.kind ≠ .control ∧
      ((s.port n).rxSeq + 4096 - p.seq) % 4096 = 0 := by
  unfold State.receive at h
  dsimp only at h
  split at h
  · simp at h
  · rename_i hs
    split at h
    · simp at h
    · rename_i hc
      refine ⟨by simpa [Classical.or_iff_not_imp_left] using hs, by simpa using hc, ?_, ?_⟩
      · intro hk; simp [hk] at h
      · by_contra hne
        split at h
        · simp at h
        · simp [hne] at h

/-- A port that is not trained takes nothing and stays as it is. -/
theorem State.receive_down (s : State) (n : Nat) (p : Packet) (h1 : (s.port n).state ≠ .up) (h2 : (s.port n).state ≠ .degraded) :
    s.receive n p = (s, false) := by
  simp [State.receive, h1, h2]

end Sys2Proof.Machine
end

