-- ==== Sys2Proof/Laws/State.lean ====
section
/-! SUPPORT. What each update of the module's state leaves in each field, and reads after writes of its tables. -/

namespace Sys2Proof.Machine

/-! ### Tables -/

theorem alook_aset_self {α : Type} (l : List (Nat × α)) (i : Nat) (x : α) : alook (aset l i x) i = some x := by
  induction l with
  | nil => simp [aset, alook]
  | cons h t ih =>
    obtain ⟨k, v⟩ := h
    by_cases h1 : i < k
    · simp [aset, h1, alook]
    · by_cases h2 : i = k
      · subst h2; simp [aset, alook]
      · simp [aset, h1, h2, alook, Ne.symm h2, ih]

theorem alook_aset_ne {α : Type} (l : List (Nat × α)) (i j : Nat) (x : α) (h : j ≠ i) :
    alook (aset l i x) j = alook l j := by
  induction l with
  | nil => simp [aset, alook, Ne.symm h]
  | cons e t ih =>
    obtain ⟨k, v⟩ := e
    by_cases h1 : i < k
    · simp [aset, h1, alook, Ne.symm h]
    · by_cases h2 : i = k
      · subst h2; simp [aset, alook, Ne.symm h]
      · simp [aset, h1, h2, alook, ih]

theorem aget_eq {α : Type} (d : α) (l : List (Nat × α)) (i : Nat) : aget d l i = (alook l i).getD d := by
  induction l with
  | nil => simp [aget, alook]
  | cons e t ih =>
    obtain ⟨k, v⟩ := e
    by_cases h : k = i
    · simp [aget, alook, h]
    · simp [aget, alook, h, ih]

@[simp] theorem aget_aset_self {α : Type} (d : α) (l : List (Nat × α)) (i : Nat) (x : α) : aget d (aset l i x) i = x := by
  simp [aget_eq, alook_aset_self]

theorem aget_aset_ne {α : Type} (d : α) (l : List (Nat × α)) (i j : Nat) (x : α) (h : j ≠ i) :
    aget d (aset l i x) j = aget d l j := by
  simp [aget_eq, alook_aset_ne l i j x h]

/-! ### Reads after writes -/

@[simp] theorem State.site_setSite_self (s : State) (i : Nat) (x : Site) : (s.setSite i x).site i = x := by
  simp [State.site, State.setSite, alook_aset_self]

theorem State.site_setSite_ne (s : State) (i j : Nat) (x : Site) (h : j ≠ i) : (s.setSite i x).site j = s.site j := by
  simp [State.site, State.setSite, alook_aset_ne _ _ _ _ h]

@[simp] theorem State.ctx_setCtx_self (s : State) (c : Nat) (x : Ctx) : (s.setCtx c x).ctx c = x := by
  simp [State.ctx, State.setCtx]

theorem State.ctx_setCtx_ne (s : State) (c d : Nat) (x : Ctx) (h : d ≠ c) : (s.setCtx c x).ctx d = s.ctx d := by
  simp [State.ctx, State.setCtx, aget_aset_ne _ _ _ _ _ h]

@[simp] theorem State.quad_modQuad_self (s : State) (q : Nat) (f : Quad → Quad) : (s.modQuad q f).quad q = f (s.quad q) := by
  simp [State.quad, State.modQuad]

theorem State.quad_modQuad_ne (s : State) (q r : Nat) (f : Quad → Quad) (h : r ≠ q) : (s.modQuad q f).quad r = s.quad r := by
  simp [State.quad, State.modQuad, aget_aset_ne _ _ _ _ _ h]

@[simp] theorem State.fn_modFn_self (s : State) (n : Nat) (g : Fn → Fn) : (s.modFn n g).fn n = g (s.fn n) := by
  simp [State.fn, State.modFn]

@[simp] theorem State.ring_modRing_self (s : State) (n r : Nat) (g : Ring → Ring) : (s.modRing n r g).ring n r = g (s.ring n r) := by
  simp [State.ring, State.modRing, Fn.ring]

@[simp] theorem State.port_modPort_self (s : State) (n : Nat) (g : Port → Port) : (s.modPort n g).port n = g (s.port n) := by
  simp [State.port, State.modPort]

@[simp] theorem State.chan_modChan_self (s : State) (n : Nat) (g : Channel → Channel) : (s.modChan n g).chan n = g (s.chan n) := by
  simp [State.chan, State.modChan]

@[simp] theorem State.memory_modMem_self (s : State) (q : Nat) (g : Memory → Memory) :
    (s.modMem q g).ddr.memory q = g (s.ddr.memory q) := by
  simp [Ddr.memory, State.modMem]

/-! ### Fields that an update leaves alone -/

@[simp] theorem State.pending_setSite (s : State) (i : Nat) (x : Site) : (s.setSite i x).pending = s.pending := rfl
@[simp] theorem State.epochs_setSite (s : State) (i : Nat) (x : Site) : (s.setSite i x).epochs = s.epochs := rfl
@[simp] theorem State.out_setSite (s : State) (i : Nat) (x : Site) : (s.setSite i x).out = s.out := rfl
@[simp] theorem State.mod_setSite (s : State) (i : Nat) (x : Site) : (s.setSite i x).mod = s.mod := rfl
@[simp] theorem State.turn_setSite (s : State) (i : Nat) (x : Site) : (s.setSite i x).turn = s.turn := rfl
@[simp] theorem State.reef_setSite (s : State) (i : Nat) (x : Site) : (s.setSite i x).reef = s.reef := rfl
@[simp] theorem State.check_setSite (s : State) (i : Nat) (x : Site) : (s.setSite i x).check = s.check := rfl
@[simp] theorem State.heal_setSite (s : State) (i : Nat) (x : Site) : (s.setSite i x).heal = s.heal := rfl
@[simp] theorem State.ddr_setSite (s : State) (i : Nat) (x : Site) : (s.setSite i x).ddr = s.ddr := rfl
@[simp] theorem State.avdin_setSite (s : State) (i : Nat) (x : Site) : (s.setSite i x).avdin = s.avdin := rfl
@[simp] theorem State.sec_setSite (s : State) (i : Nat) (x : Site) : (s.setSite i x).sec = s.sec := rfl
@[simp] theorem State.streams_setSite (s : State) (i : Nat) (x : Site) : (s.setSite i x).streams = s.streams := rfl
@[simp] theorem State.sets_setSite (s : State) (i : Nat) (x : Site) : (s.setSite i x).sets = s.sets := rfl
@[simp] theorem State.fns_setSite (s : State) (i : Nat) (x : Site) : (s.setSite i x).fns = s.fns := rfl
@[simp] theorem State.readUnits_setSite (s : State) (i : Nat) (x : Site) : (s.setSite i x).readUnits = s.readUnits := rfl
@[simp] theorem State.cmds_setSite (s : State) (i : Nat) (x : Site) : (s.setSite i x).cmds = s.cmds := rfl
@[simp] theorem State.ctxs_setSite (s : State) (i : Nat) (x : Site) : (s.setSite i x).ctxs = s.ctxs := rfl
@[simp] theorem State.quads_setSite (s : State) (i : Nat) (x : Site) : (s.setSite i x).quads = s.quads := rfl

@[simp] theorem State.pending_modSite (s : State) (i : Nat) (g : Site → Site) : (s.modSite i g).pending = s.pending := rfl
@[simp] theorem State.epochs_modSite (s : State) (i : Nat) (g : Site → Site) : (s.modSite i g).epochs = s.epochs := rfl
@[simp] theorem State.out_modSite (s : State) (i : Nat) (g : Site → Site) : (s.modSite i g).out = s.out := rfl
@[simp] theorem State.mod_modSite (s : State) (i : Nat) (g : Site → Site) : (s.modSite i g).mod = s.mod := rfl
@[simp] theorem State.turn_modSite (s : State) (i : Nat) (g : Site → Site) : (s.modSite i g).turn = s.turn := rfl
@[simp] theorem State.reef_modSite (s : State) (i : Nat) (g : Site → Site) : (s.modSite i g).reef = s.reef := rfl
@[simp] theorem State.check_modSite (s : State) (i : Nat) (g : Site → Site) : (s.modSite i g).check = s.check := rfl
@[simp] theorem State.heal_modSite (s : State) (i : Nat) (g : Site → Site) : (s.modSite i g).heal = s.heal := rfl
@[simp] theorem State.ddr_modSite (s : State) (i : Nat) (g : Site → Site) : (s.modSite i g).ddr = s.ddr := rfl
@[simp] theorem State.avdin_modSite (s : State) (i : Nat) (g : Site → Site) : (s.modSite i g).avdin = s.avdin := rfl
@[simp] theorem State.sec_modSite (s : State) (i : Nat) (g : Site → Site) : (s.modSite i g).sec = s.sec := rfl
@[simp] theorem State.streams_modSite (s : State) (i : Nat) (g : Site → Site) : (s.modSite i g).streams = s.streams := rfl
@[simp] theorem State.sets_modSite (s : State) (i : Nat) (g : Site → Site) : (s.modSite i g).sets = s.sets := rfl
@[simp] theorem State.fns_modSite (s : State) (i : Nat) (g : Site → Site) : (s.modSite i g).fns = s.fns := rfl
@[simp] theorem State.readUnits_modSite (s : State) (i : Nat) (g : Site → Site) : (s.modSite i g).readUnits = s.readUnits := rfl
@[simp] theorem State.cmds_modSite (s : State) (i : Nat) (g : Site → Site) : (s.modSite i g).cmds = s.cmds := rfl
@[simp] theorem State.ctxs_modSite (s : State) (i : Nat) (g : Site → Site) : (s.modSite i g).ctxs = s.ctxs := rfl
@[simp] theorem State.quads_modSite (s : State) (i : Nat) (g : Site → Site) : (s.modSite i g).quads = s.quads := rfl

@[simp] theorem State.pending_setCtx (s : State) (c : Nat) (x : Ctx) : (s.setCtx c x).pending = s.pending := rfl
@[simp] theorem State.epochs_setCtx (s : State) (c : Nat) (x : Ctx) : (s.setCtx c x).epochs = s.epochs := rfl
@[simp] theorem State.out_setCtx (s : State) (c : Nat) (x : Ctx) : (s.setCtx c x).out = s.out := rfl
@[simp] theorem State.mod_setCtx (s : State) (c : Nat) (x : Ctx) : (s.setCtx c x).mod = s.mod := rfl
@[simp] theorem State.turn_setCtx (s : State) (c : Nat) (x : Ctx) : (s.setCtx c x).turn = s.turn := rfl
@[simp] theorem State.reef_setCtx (s : State) (c : Nat) (x : Ctx) : (s.setCtx c x).reef = s.reef := rfl
@[simp] theorem State.check_setCtx (s : State) (c : Nat) (x : Ctx) : (s.setCtx c x).check = s.check := rfl
@[simp] theorem State.heal_setCtx (s : State) (c : Nat) (x : Ctx) : (s.setCtx c x).heal = s.heal := rfl
@[simp] theorem State.ddr_setCtx (s : State) (c : Nat) (x : Ctx) : (s.setCtx c x).ddr = s.ddr := rfl
@[simp] theorem State.avdin_setCtx (s : State) (c : Nat) (x : Ctx) : (s.setCtx c x).avdin = s.avdin := rfl
@[simp] theorem State.sec_setCtx (s : State) (c : Nat) (x : Ctx) : (s.setCtx c x).sec = s.sec := rfl
@[simp] theorem State.streams_setCtx (s : State) (c : Nat) (x : Ctx) : (s.setCtx c x).streams = s.streams := rfl
@[simp] theorem State.sets_setCtx (s : State) (c : Nat) (x : Ctx) : (s.setCtx c x).sets = s.sets := rfl
@[simp] theorem State.fns_setCtx (s : State) (c : Nat) (x : Ctx) : (s.setCtx c x).fns = s.fns := rfl
@[simp] theorem State.readUnits_setCtx (s : State) (c : Nat) (x : Ctx) : (s.setCtx c x).readUnits = s.readUnits := rfl
@[simp] theorem State.cmds_setCtx (s : State) (c : Nat) (x : Ctx) : (s.setCtx c x).cmds = s.cmds := rfl
@[simp] theorem State.quads_setCtx (s : State) (c : Nat) (x : Ctx) : (s.setCtx c x).quads = s.quads := rfl
@[simp] theorem State.sites_setCtx (s : State) (c : Nat) (x : Ctx) : (s.setCtx c x).sites = s.sites := rfl

@[simp] theorem State.pending_modCtx (s : State) (c : Nat) (g : Ctx → Ctx) : (s.modCtx c g).pending = s.pending := rfl
@[simp] theorem State.epochs_modCtx (s : State) (c : Nat) (g : Ctx → Ctx) : (s.modCtx c g).epochs = s.epochs := rfl
@[simp] theorem State.out_modCtx (s : State) (c : Nat) (g : Ctx → Ctx) : (s.modCtx c g).out = s.out := rfl
@[simp] theorem State.mod_modCtx (s : State) (c : Nat) (g : Ctx → Ctx) : (s.modCtx c g).mod = s.mod := rfl
@[simp] theorem State.turn_modCtx (s : State) (c : Nat) (g : Ctx → Ctx) : (s.modCtx c g).turn = s.turn := rfl
@[simp] theorem State.reef_modCtx (s : State) (c : Nat) (g : Ctx → Ctx) : (s.modCtx c g).reef = s.reef := rfl
@[simp] theorem State.check_modCtx (s : State) (c : Nat) (g : Ctx → Ctx) : (s.modCtx c g).check = s.check := rfl
@[simp] theorem State.heal_modCtx (s : State) (c : Nat) (g : Ctx → Ctx) : (s.modCtx c g).heal = s.heal := rfl
@[simp] theorem State.ddr_modCtx (s : State) (c : Nat) (g : Ctx → Ctx) : (s.modCtx c g).ddr = s.ddr := rfl
@[simp] theorem State.avdin_modCtx (s : State) (c : Nat) (g : Ctx → Ctx) : (s.modCtx c g).avdin = s.avdin := rfl
@[simp] theorem State.sec_modCtx (s : State) (c : Nat) (g : Ctx → Ctx) : (s.modCtx c g).sec = s.sec := rfl
@[simp] theorem State.streams_modCtx (s : State) (c : Nat) (g : Ctx → Ctx) : (s.modCtx c g).streams = s.streams := rfl
@[simp] theorem State.sets_modCtx (s : State) (c : Nat) (g : Ctx → Ctx) : (s.modCtx c g).sets = s.sets := rfl
@[simp] theorem State.fns_modCtx (s : State) (c : Nat) (g : Ctx → Ctx) : (s.modCtx c g).fns = s.fns := rfl
@[simp] theorem State.readUnits_modCtx (s : State) (c : Nat) (g : Ctx → Ctx) : (s.modCtx c g).readUnits = s.readUnits := rfl
@[simp] theorem State.cmds_modCtx (s : State) (c : Nat) (g : Ctx → Ctx) : (s.modCtx c g).cmds = s.cmds := rfl
@[simp] theorem State.quads_modCtx (s : State) (c : Nat) (g : Ctx → Ctx) : (s.modCtx c g).quads = s.quads := rfl
@[simp] theorem State.sites_modCtx (s : State) (c : Nat) (g : Ctx → Ctx) : (s.modCtx c g).sites = s.sites := rfl

@[simp] theorem State.pending_modQuad (s : State) (q : Nat) (g : Quad → Quad) : (s.modQuad q g).pending = s.pending := rfl
@[simp] theorem State.epochs_modQuad (s : State) (q : Nat) (g : Quad → Quad) : (s.modQuad q g).epochs = s.epochs := rfl
@[simp] theorem State.out_modQuad (s : State) (q : Nat) (g : Quad → Quad) : (s.modQuad q g).out = s.out := rfl
@[simp] theorem State.mod_modQuad (s : State) (q : Nat) (g : Quad → Quad) : (s.modQuad q g).mod = s.mod := rfl
@[simp] theorem State.turn_modQuad (s : State) (q : Nat) (g : Quad → Quad) : (s.modQuad q g).turn = s.turn := rfl
@[simp] theorem State.reef_modQuad (s : State) (q : Nat) (g : Quad → Quad) : (s.modQuad q g).reef = s.reef := rfl
@[simp] theorem State.check_modQuad (s : State) (q : Nat) (g : Quad → Quad) : (s.modQuad q g).check = s.check := rfl
@[simp] theorem State.heal_modQuad (s : State) (q : Nat) (g : Quad → Quad) : (s.modQuad q g).heal = s.heal := rfl
@[simp] theorem State.ddr_modQuad (s : State) (q : Nat) (g : Quad → Quad) : (s.modQuad q g).ddr = s.ddr := rfl
@[simp] theorem State.avdin_modQuad (s : State) (q : Nat) (g : Quad → Quad) : (s.modQuad q g).avdin = s.avdin := rfl
@[simp] theorem State.sec_modQuad (s : State) (q : Nat) (g : Quad → Quad) : (s.modQuad q g).sec = s.sec := rfl
@[simp] theorem State.streams_modQuad (s : State) (q : Nat) (g : Quad → Quad) : (s.modQuad q g).streams = s.streams := rfl
@[simp] theorem State.sets_modQuad (s : State) (q : Nat) (g : Quad → Quad) : (s.modQuad q g).sets = s.sets := rfl
@[simp] theorem State.fns_modQuad (s : State) (q : Nat) (g : Quad → Quad) : (s.modQuad q g).fns = s.fns := rfl
@[simp] theorem State.readUnits_modQuad (s : State) (q : Nat) (g : Quad → Quad) : (s.modQuad q g).readUnits = s.readUnits := rfl
@[simp] theorem State.cmds_modQuad (s : State) (q : Nat) (g : Quad → Quad) : (s.modQuad q g).cmds = s.cmds := rfl
@[simp] theorem State.ctxs_modQuad (s : State) (q : Nat) (g : Quad → Quad) : (s.modQuad q g).ctxs = s.ctxs := rfl
@[simp] theorem State.sites_modQuad (s : State) (q : Nat) (g : Quad → Quad) : (s.modQuad q g).sites = s.sites := rfl

@[simp] theorem State.pending_modFn (s : State) (n : Nat) (g : Fn → Fn) : (s.modFn n g).pending = s.pending := rfl
@[simp] theorem State.epochs_modFn (s : State) (n : Nat) (g : Fn → Fn) : (s.modFn n g).epochs = s.epochs := rfl
@[simp] theorem State.out_modFn (s : State) (n : Nat) (g : Fn → Fn) : (s.modFn n g).out = s.out := rfl
@[simp] theorem State.mod_modFn (s : State) (n : Nat) (g : Fn → Fn) : (s.modFn n g).mod = s.mod := rfl
@[simp] theorem State.turn_modFn (s : State) (n : Nat) (g : Fn → Fn) : (s.modFn n g).turn = s.turn := rfl
@[simp] theorem State.reef_modFn (s : State) (n : Nat) (g : Fn → Fn) : (s.modFn n g).reef = s.reef := rfl
@[simp] theorem State.check_modFn (s : State) (n : Nat) (g : Fn → Fn) : (s.modFn n g).check = s.check := rfl
@[simp] theorem State.heal_modFn (s : State) (n : Nat) (g : Fn → Fn) : (s.modFn n g).heal = s.heal := rfl
@[simp] theorem State.ddr_modFn (s : State) (n : Nat) (g : Fn → Fn) : (s.modFn n g).ddr = s.ddr := rfl
@[simp] theorem State.avdin_modFn (s : State) (n : Nat) (g : Fn → Fn) : (s.modFn n g).avdin = s.avdin := rfl
@[simp] theorem State.sec_modFn (s : State) (n : Nat) (g : Fn → Fn) : (s.modFn n g).sec = s.sec := rfl
@[simp] theorem State.streams_modFn (s : State) (n : Nat) (g : Fn → Fn) : (s.modFn n g).streams = s.streams := rfl
@[simp] theorem State.sets_modFn (s : State) (n : Nat) (g : Fn → Fn) : (s.modFn n g).sets = s.sets := rfl
@[simp] theorem State.readUnits_modFn (s : State) (n : Nat) (g : Fn → Fn) : (s.modFn n g).readUnits = s.readUnits := rfl
@[simp] theorem State.cmds_modFn (s : State) (n : Nat) (g : Fn → Fn) : (s.modFn n g).cmds = s.cmds := rfl
@[simp] theorem State.ctxs_modFn (s : State) (n : Nat) (g : Fn → Fn) : (s.modFn n g).ctxs = s.ctxs := rfl
@[simp] theorem State.quads_modFn (s : State) (n : Nat) (g : Fn → Fn) : (s.modFn n g).quads = s.quads := rfl
@[simp] theorem State.sites_modFn (s : State) (n : Nat) (g : Fn → Fn) : (s.modFn n g).sites = s.sites := rfl

@[simp] theorem State.pending_modRing (s : State) (n r : Nat) (g : Ring → Ring) : (s.modRing n r g).pending = s.pending := rfl
@[simp] theorem State.epochs_modRing (s : State) (n r : Nat) (g : Ring → Ring) : (s.modRing n r g).epochs = s.epochs := rfl
@[simp] theorem State.out_modRing (s : State) (n r : Nat) (g : Ring → Ring) : (s.modRing n r g).out = s.out := rfl
@[simp] theorem State.mod_modRing (s : State) (n r : Nat) (g : Ring → Ring) : (s.modRing n r g).mod = s.mod := rfl
@[simp] theorem State.turn_modRing (s : State) (n r : Nat) (g : Ring → Ring) : (s.modRing n r g).turn = s.turn := rfl
@[simp] theorem State.reef_modRing (s : State) (n r : Nat) (g : Ring → Ring) : (s.modRing n r g).reef = s.reef := rfl
@[simp] theorem State.check_modRing (s : State) (n r : Nat) (g : Ring → Ring) : (s.modRing n r g).check = s.check := rfl
@[simp] theorem State.heal_modRing (s : State) (n r : Nat) (g : Ring → Ring) : (s.modRing n r g).heal = s.heal := rfl
@[simp] theorem State.ddr_modRing (s : State) (n r : Nat) (g : Ring → Ring) : (s.modRing n r g).ddr = s.ddr := rfl
@[simp] theorem State.avdin_modRing (s : State) (n r : Nat) (g : Ring → Ring) : (s.modRing n r g).avdin = s.avdin := rfl
@[simp] theorem State.sec_modRing (s : State) (n r : Nat) (g : Ring → Ring) : (s.modRing n r g).sec = s.sec := rfl
@[simp] theorem State.streams_modRing (s : State) (n r : Nat) (g : Ring → Ring) : (s.modRing n r g).streams = s.streams := rfl
@[simp] theorem State.sets_modRing (s : State) (n r : Nat) (g : Ring → Ring) : (s.modRing n r g).sets = s.sets := rfl
@[simp] theorem State.readUnits_modRing (s : State) (n r : Nat) (g : Ring → Ring) : (s.modRing n r g).readUnits = s.readUnits := rfl
@[simp] theorem State.cmds_modRing (s : State) (n r : Nat) (g : Ring → Ring) : (s.modRing n r g).cmds = s.cmds := rfl
@[simp] theorem State.ctxs_modRing (s : State) (n r : Nat) (g : Ring → Ring) : (s.modRing n r g).ctxs = s.ctxs := rfl
@[simp] theorem State.quads_modRing (s : State) (n r : Nat) (g : Ring → Ring) : (s.modRing n r g).quads = s.quads := rfl
@[simp] theorem State.sites_modRing (s : State) (n r : Nat) (g : Ring → Ring) : (s.modRing n r g).sites = s.sites := rfl

@[simp] theorem State.pending_modPort (s : State) (n : Nat) (g : Port → Port) : (s.modPort n g).pending = s.pending := rfl
@[simp] theorem State.epochs_modPort (s : State) (n : Nat) (g : Port → Port) : (s.modPort n g).epochs = s.epochs := rfl
@[simp] theorem State.out_modPort (s : State) (n : Nat) (g : Port → Port) : (s.modPort n g).out = s.out := rfl
@[simp] theorem State.mod_modPort (s : State) (n : Nat) (g : Port → Port) : (s.modPort n g).mod = s.mod := rfl
@[simp] theorem State.turn_modPort (s : State) (n : Nat) (g : Port → Port) : (s.modPort n g).turn = s.turn := rfl
@[simp] theorem State.reef_modPort (s : State) (n : Nat) (g : Port → Port) : (s.modPort n g).reef = s.reef := rfl
@[simp] theorem State.check_modPort (s : State) (n : Nat) (g : Port → Port) : (s.modPort n g).check = s.check := rfl
@[simp] theorem State.heal_modPort (s : State) (n : Nat) (g : Port → Port) : (s.modPort n g).heal = s.heal := rfl
@[simp] theorem State.ddr_modPort (s : State) (n : Nat) (g : Port → Port) : (s.modPort n g).ddr = s.ddr := rfl
@[simp] theorem State.sec_modPort (s : State) (n : Nat) (g : Port → Port) : (s.modPort n g).sec = s.sec := rfl
@[simp] theorem State.streams_modPort (s : State) (n : Nat) (g : Port → Port) : (s.modPort n g).streams = s.streams := rfl
@[simp] theorem State.sets_modPort (s : State) (n : Nat) (g : Port → Port) : (s.modPort n g).sets = s.sets := rfl
@[simp] theorem State.fns_modPort (s : State) (n : Nat) (g : Port → Port) : (s.modPort n g).fns = s.fns := rfl
@[simp] theorem State.readUnits_modPort (s : State) (n : Nat) (g : Port → Port) : (s.modPort n g).readUnits = s.readUnits := rfl
@[simp] theorem State.cmds_modPort (s : State) (n : Nat) (g : Port → Port) : (s.modPort n g).cmds = s.cmds := rfl
@[simp] theorem State.ctxs_modPort (s : State) (n : Nat) (g : Port → Port) : (s.modPort n g).ctxs = s.ctxs := rfl
@[simp] theorem State.quads_modPort (s : State) (n : Nat) (g : Port → Port) : (s.modPort n g).quads = s.quads := rfl
@[simp] theorem State.sites_modPort (s : State) (n : Nat) (g : Port → Port) : (s.modPort n g).sites = s.sites := rfl

@[simp] theorem State.pending_modChan (s : State) (n : Nat) (g : Channel → Channel) : (s.modChan n g).pending = s.pending := rfl
@[simp] theorem State.epochs_modChan (s : State) (n : Nat) (g : Channel → Channel) : (s.modChan n g).epochs = s.epochs := rfl
@[simp] theorem State.out_modChan (s : State) (n : Nat) (g : Channel → Channel) : (s.modChan n g).out = s.out := rfl
@[simp] theorem State.mod_modChan (s : State) (n : Nat) (g : Channel → Channel) : (s.modChan n g).mod = s.mod := rfl
@[simp] theorem State.turn_modChan (s : State) (n : Nat) (g : Channel → Channel) : (s.modChan n g).turn = s.turn := rfl
@[simp] theorem State.reef_modChan (s : State) (n : Nat) (g : Channel → Channel) : (s.modChan n g).reef = s.reef := rfl
@[simp] theorem State.check_modChan (s : State) (n : Nat) (g : Channel → Channel) : (s.modChan n g).check = s.check := rfl
@[simp] theorem State.heal_modChan (s : State) (n : Nat) (g : Channel → Channel) : (s.modChan n g).heal = s.heal := rfl
@[simp] theorem State.avdin_modChan (s : State) (n : Nat) (g : Channel → Channel) : (s.modChan n g).avdin = s.avdin := rfl
@[simp] theorem State.sec_modChan (s : State) (n : Nat) (g : Channel → Channel) : (s.modChan n g).sec = s.sec := rfl
@[simp] theorem State.streams_modChan (s : State) (n : Nat) (g : Channel → Channel) : (s.modChan n g).streams = s.streams := rfl
@[simp] theorem State.sets_modChan (s : State) (n : Nat) (g : Channel → Channel) : (s.modChan n g).sets = s.sets := rfl
@[simp] theorem State.fns_modChan (s : State) (n : Nat) (g : Channel → Channel) : (s.modChan n g).fns = s.fns := rfl
@[simp] theorem State.readUnits_modChan (s : State) (n : Nat) (g : Channel → Channel) : (s.modChan n g).readUnits = s.readUnits := rfl
@[simp] theorem State.cmds_modChan (s : State) (n : Nat) (g : Channel → Channel) : (s.modChan n g).cmds = s.cmds := rfl
@[simp] theorem State.ctxs_modChan (s : State) (n : Nat) (g : Channel → Channel) : (s.modChan n g).ctxs = s.ctxs := rfl
@[simp] theorem State.quads_modChan (s : State) (n : Nat) (g : Channel → Channel) : (s.modChan n g).quads = s.quads := rfl
@[simp] theorem State.sites_modChan (s : State) (n : Nat) (g : Channel → Channel) : (s.modChan n g).sites = s.sites := rfl

@[simp] theorem State.pending_modMem (s : State) (q : Nat) (g : Memory → Memory) : (s.modMem q g).pending = s.pending := rfl
@[simp] theorem State.epochs_modMem (s : State) (q : Nat) (g : Memory → Memory) : (s.modMem q g).epochs = s.epochs := rfl
@[simp] theorem State.out_modMem (s : State) (q : Nat) (g : Memory → Memory) : (s.modMem q g).out = s.out := rfl
@[simp] theorem State.mod_modMem (s : State) (q : Nat) (g : Memory → Memory) : (s.modMem q g).mod = s.mod := rfl
@[simp] theorem State.turn_modMem (s : State) (q : Nat) (g : Memory → Memory) : (s.modMem q g).turn = s.turn := rfl
@[simp] theorem State.reef_modMem (s : State) (q : Nat) (g : Memory → Memory) : (s.modMem q g).reef = s.reef := rfl
@[simp] theorem State.check_modMem (s : State) (q : Nat) (g : Memory → Memory) : (s.modMem q g).check = s.check := rfl
@[simp] theorem State.heal_modMem (s : State) (q : Nat) (g : Memory → Memory) : (s.modMem q g).heal = s.heal := rfl
@[simp] theorem State.avdin_modMem (s : State) (q : Nat) (g : Memory → Memory) : (s.modMem q g).avdin = s.avdin := rfl
@[simp] theorem State.sec_modMem (s : State) (q : Nat) (g : Memory → Memory) : (s.modMem q g).sec = s.sec := rfl
@[simp] theorem State.streams_modMem (s : State) (q : Nat) (g : Memory → Memory) : (s.modMem q g).streams = s.streams := rfl
@[simp] theorem State.sets_modMem (s : State) (q : Nat) (g : Memory → Memory) : (s.modMem q g).sets = s.sets := rfl
@[simp] theorem State.fns_modMem (s : State) (q : Nat) (g : Memory → Memory) : (s.modMem q g).fns = s.fns := rfl
@[simp] theorem State.readUnits_modMem (s : State) (q : Nat) (g : Memory → Memory) : (s.modMem q g).readUnits = s.readUnits := rfl
@[simp] theorem State.cmds_modMem (s : State) (q : Nat) (g : Memory → Memory) : (s.modMem q g).cmds = s.cmds := rfl
@[simp] theorem State.ctxs_modMem (s : State) (q : Nat) (g : Memory → Memory) : (s.modMem q g).ctxs = s.ctxs := rfl
@[simp] theorem State.quads_modMem (s : State) (q : Nat) (g : Memory → Memory) : (s.modMem q g).quads = s.quads := rfl
@[simp] theorem State.sites_modMem (s : State) (q : Nat) (g : Memory → Memory) : (s.modMem q g).sites = s.sites := rfl

@[simp] theorem State.pending_emit (s : State) (o : Out) : (s.emit o).pending = s.pending := rfl
@[simp] theorem State.epochs_emit (s : State) (o : Out) : (s.emit o).epochs = s.epochs := rfl
@[simp] theorem State.mod_emit (s : State) (o : Out) : (s.emit o).mod = s.mod := rfl
@[simp] theorem State.turn_emit (s : State) (o : Out) : (s.emit o).turn = s.turn := rfl
@[simp] theorem State.reef_emit (s : State) (o : Out) : (s.emit o).reef = s.reef := rfl
@[simp] theorem State.check_emit (s : State) (o : Out) : (s.emit o).check = s.check := rfl
@[simp] theorem State.heal_emit (s : State) (o : Out) : (s.emit o).heal = s.heal := rfl
@[simp] theorem State.ddr_emit (s : State) (o : Out) : (s.emit o).ddr = s.ddr := rfl
@[simp] theorem State.avdin_emit (s : State) (o : Out) : (s.emit o).avdin = s.avdin := rfl
@[simp] theorem State.sec_emit (s : State) (o : Out) : (s.emit o).sec = s.sec := rfl
@[simp] theorem State.streams_emit (s : State) (o : Out) : (s.emit o).streams = s.streams := rfl
@[simp] theorem State.sets_emit (s : State) (o : Out) : (s.emit o).sets = s.sets := rfl
@[simp] theorem State.fns_emit (s : State) (o : Out) : (s.emit o).fns = s.fns := rfl
@[simp] theorem State.readUnits_emit (s : State) (o : Out) : (s.emit o).readUnits = s.readUnits := rfl
@[simp] theorem State.cmds_emit (s : State) (o : Out) : (s.emit o).cmds = s.cmds := rfl
@[simp] theorem State.ctxs_emit (s : State) (o : Out) : (s.emit o).ctxs = s.ctxs := rfl
@[simp] theorem State.quads_emit (s : State) (o : Out) : (s.emit o).quads = s.quads := rfl
@[simp] theorem State.sites_emit (s : State) (o : Out) : (s.emit o).sites = s.sites := rfl

@[simp] theorem State.out_emit (s : State) (o : Out) : (s.emit o).out = s.out ++ [o] := rfl
@[simp] theorem State.epochs_queue (s : State) (l : List Instr) : ({ s with pending := l } : State).epochs = s.epochs := rfl
@[simp] theorem State.out_queue (s : State) (l : List Instr) : ({ s with pending := l } : State).out = s.out := rfl
@[simp] theorem State.mod_queue (s : State) (l : List Instr) : ({ s with pending := l } : State).mod = s.mod := rfl
@[simp] theorem State.turn_queue (s : State) (l : List Instr) : ({ s with pending := l } : State).turn = s.turn := rfl
@[simp] theorem State.reef_queue (s : State) (l : List Instr) : ({ s with pending := l } : State).reef = s.reef := rfl
@[simp] theorem State.check_queue (s : State) (l : List Instr) : ({ s with pending := l } : State).check = s.check := rfl
@[simp] theorem State.heal_queue (s : State) (l : List Instr) : ({ s with pending := l } : State).heal = s.heal := rfl
@[simp] theorem State.ddr_queue (s : State) (l : List Instr) : ({ s with pending := l } : State).ddr = s.ddr := rfl
@[simp] theorem State.avdin_queue (s : State) (l : List Instr) : ({ s with pending := l } : State).avdin = s.avdin := rfl
@[simp] theorem State.sec_queue (s : State) (l : List Instr) : ({ s with pending := l } : State).sec = s.sec := rfl
@[simp] theorem State.streams_queue (s : State) (l : List Instr) : ({ s with pending := l } : State).streams = s.streams := rfl
@[simp] theorem State.sets_queue (s : State) (l : List Instr) : ({ s with pending := l } : State).sets = s.sets := rfl
@[simp] theorem State.fns_queue (s : State) (l : List Instr) : ({ s with pending := l } : State).fns = s.fns := rfl
@[simp] theorem State.readUnits_queue (s : State) (l : List Instr) : ({ s with pending := l } : State).readUnits = s.readUnits := rfl
@[simp] theorem State.cmds_queue (s : State) (l : List Instr) : ({ s with pending := l } : State).cmds = s.cmds := rfl
@[simp] theorem State.ctxs_queue (s : State) (l : List Instr) : ({ s with pending := l } : State).ctxs = s.ctxs := rfl
@[simp] theorem State.quads_queue (s : State) (l : List Instr) : ({ s with pending := l } : State).quads = s.quads := rfl
@[simp] theorem State.sites_queue (s : State) (l : List Instr) : ({ s with pending := l } : State).sites = s.sites := rfl

/-! ### Updates of a site -/

@[simp] theorem Site.role_touch (s : Site) (c b : Nat) : (s.touch c b).role = s.role := rfl
@[simp] theorem Site.service_touch (s : Site) (c b : Nat) : (s.touch c b).service = s.service := rfl
@[simp] theorem Site.ltile_touch (s : Site) (c b : Nat) : (s.touch c b).ltile = s.ltile := rfl
@[simp] theorem Site.ctx_touch (s : Site) (c b : Nat) : (s.touch c b).ctx = s.ctx := rfl
@[simp] theorem Site.gtile_touch (s : Site) (c b : Nat) : (s.touch c b).gtile = s.gtile := rfl
@[simp] theorem Site.descBase_touch (s : Site) (c b : Nat) : (s.touch c b).descBase = s.descBase := rfl
@[simp] theorem Site.seq_touch (s : Site) (c b : Nat) : (s.touch c b).seq = s.seq := rfl
@[simp] theorem Site.bank_touch (s : Site) (c b : Nat) : (s.touch c b).bank = s.bank := rfl
@[simp] theorem Site.slots_touch (s : Site) (c b : Nat) : (s.touch c b).slots = s.slots := rfl
@[simp] theorem Site.reload_touch (s : Site) (c b : Nat) : (s.touch c b).reload = s.reload := rfl
@[simp] theorem Site.mat_touch (s : Site) (c b : Nat) : (s.touch c b).mat = s.mat := rfl
@[simp] theorem Site.vec_touch (s : Site) (c b : Nat) : (s.touch c b).vec = s.vec := rfl
@[simp] theorem Site.scr_touch (s : Site) (c b : Nat) : (s.touch c b).scr = s.scr := rfl
@[simp] theorem Site.ex_touch (s : Site) (c b : Nat) : (s.touch c b).ex = s.ex := rfl
@[simp] theorem Site.faults_touch (s : Site) (c b : Nat) : (s.touch c b).faults = s.faults := rfl
@[simp] theorem Site.judged_touch (s : Site) (c b : Nat) : (s.touch c b).judged = s.judged := rfl

@[simp] theorem Site.role_setHopper (s : Site) (h : Nat) (x : Hopper) : (s.setHopper h x).role = s.role := rfl
@[simp] theorem Site.service_setHopper (s : Site) (h : Nat) (x : Hopper) : (s.setHopper h x).service = s.service := rfl
@[simp] theorem Site.ltile_setHopper (s : Site) (h : Nat) (x : Hopper) : (s.setHopper h x).ltile = s.ltile := rfl
@[simp] theorem Site.ctx_setHopper (s : Site) (h : Nat) (x : Hopper) : (s.setHopper h x).ctx = s.ctx := rfl
@[simp] theorem Site.gtile_setHopper (s : Site) (h : Nat) (x : Hopper) : (s.setHopper h x).gtile = s.gtile := rfl
@[simp] theorem Site.descBase_setHopper (s : Site) (h : Nat) (x : Hopper) : (s.setHopper h x).descBase = s.descBase := rfl
@[simp] theorem Site.seq_setHopper (s : Site) (h : Nat) (x : Hopper) : (s.setHopper h x).seq = s.seq := rfl
@[simp] theorem Site.bank_setHopper (s : Site) (h : Nat) (x : Hopper) : (s.setHopper h x).bank = s.bank := rfl
@[simp] theorem Site.slots_setHopper (s : Site) (h : Nat) (x : Hopper) : (s.setHopper h x).slots = s.slots := rfl
@[simp] theorem Site.reload_setHopper (s : Site) (h : Nat) (x : Hopper) : (s.setHopper h x).reload = s.reload := rfl
@[simp] theorem Site.mat_setHopper (s : Site) (h : Nat) (x : Hopper) : (s.setHopper h x).mat = s.mat := rfl
@[simp] theorem Site.vec_setHopper (s : Site) (h : Nat) (x : Hopper) : (s.setHopper h x).vec = s.vec := rfl
@[simp] theorem Site.scr_setHopper (s : Site) (h : Nat) (x : Hopper) : (s.setHopper h x).scr = s.scr := rfl
@[simp] theorem Site.faults_setHopper (s : Site) (h : Nat) (x : Hopper) : (s.setHopper h x).faults = s.faults := rfl
@[simp] theorem Site.judged_setHopper (s : Site) (h : Nat) (x : Hopper) : (s.setHopper h x).judged = s.judged := rfl
@[simp] theorem Site.usedAt_setHopper (s : Site) (h : Nat) (x : Hopper) : (s.setHopper h x).usedAt = s.usedAt := rfl
@[simp] theorem Site.usedBanks_setHopper (s : Site) (h : Nat) (x : Hopper) : (s.setHopper h x).usedBanks = s.usedBanks := rfl

@[simp] theorem Site.role_setTokens (s : Site) (q : Nat) (l : List Token) : (s.setTokens q l).role = s.role := rfl
@[simp] theorem Site.service_setTokens (s : Site) (q : Nat) (l : List Token) : (s.setTokens q l).service = s.service := rfl
@[simp] theorem Site.ltile_setTokens (s : Site) (q : Nat) (l : List Token) : (s.setTokens q l).ltile = s.ltile := rfl
@[simp] theorem Site.ctx_setTokens (s : Site) (q : Nat) (l : List Token) : (s.setTokens q l).ctx = s.ctx := rfl
@[simp] theorem Site.gtile_setTokens (s : Site) (q : Nat) (l : List Token) : (s.setTokens q l).gtile = s.gtile := rfl
@[simp] theorem Site.descBase_setTokens (s : Site) (q : Nat) (l : List Token) : (s.setTokens q l).descBase = s.descBase := rfl
@[simp] theorem Site.seq_setTokens (s : Site) (q : Nat) (l : List Token) : (s.setTokens q l).seq = s.seq := rfl
@[simp] theorem Site.bank_setTokens (s : Site) (q : Nat) (l : List Token) : (s.setTokens q l).bank = s.bank := rfl
@[simp] theorem Site.slots_setTokens (s : Site) (q : Nat) (l : List Token) : (s.setTokens q l).slots = s.slots := rfl
@[simp] theorem Site.reload_setTokens (s : Site) (q : Nat) (l : List Token) : (s.setTokens q l).reload = s.reload := rfl
@[simp] theorem Site.mat_setTokens (s : Site) (q : Nat) (l : List Token) : (s.setTokens q l).mat = s.mat := rfl
@[simp] theorem Site.vec_setTokens (s : Site) (q : Nat) (l : List Token) : (s.setTokens q l).vec = s.vec := rfl
@[simp] theorem Site.scr_setTokens (s : Site) (q : Nat) (l : List Token) : (s.setTokens q l).scr = s.scr := rfl
@[simp] theorem Site.faults_setTokens (s : Site) (q : Nat) (l : List Token) : (s.setTokens q l).faults = s.faults := rfl
@[simp] theorem Site.judged_setTokens (s : Site) (q : Nat) (l : List Token) : (s.setTokens q l).judged = s.judged := rfl
@[simp] theorem Site.usedAt_setTokens (s : Site) (q : Nat) (l : List Token) : (s.setTokens q l).usedAt = s.usedAt := rfl
@[simp] theorem Site.usedBanks_setTokens (s : Site) (q : Nat) (l : List Token) : (s.setTokens q l).usedBanks = s.usedBanks := rfl

@[simp] theorem Site.role_noteLate (s : Site) (b : Bool) : (s.noteLate b).role = s.role := rfl
@[simp] theorem Site.service_noteLate (s : Site) (b : Bool) : (s.noteLate b).service = s.service := rfl
@[simp] theorem Site.ltile_noteLate (s : Site) (b : Bool) : (s.noteLate b).ltile = s.ltile := rfl
@[simp] theorem Site.ctx_noteLate (s : Site) (b : Bool) : (s.noteLate b).ctx = s.ctx := rfl
@[simp] theorem Site.gtile_noteLate (s : Site) (b : Bool) : (s.noteLate b).gtile = s.gtile := rfl
@[simp] theorem Site.descBase_noteLate (s : Site) (b : Bool) : (s.noteLate b).descBase = s.descBase := rfl
@[simp] theorem Site.seq_noteLate (s : Site) (b : Bool) : (s.noteLate b).seq = s.seq := rfl
@[simp] theorem Site.bank_noteLate (s : Site) (b : Bool) : (s.noteLate b).bank = s.bank := rfl
@[simp] theorem Site.slots_noteLate (s : Site) (b : Bool) : (s.noteLate b).slots = s.slots := rfl
@[simp] theorem Site.reload_noteLate (s : Site) (b : Bool) : (s.noteLate b).reload = s.reload := rfl
@[simp] theorem Site.mat_noteLate (s : Site) (b : Bool) : (s.noteLate b).mat = s.mat := rfl
@[simp] theorem Site.vec_noteLate (s : Site) (b : Bool) : (s.noteLate b).vec = s.vec := rfl
@[simp] theorem Site.scr_noteLate (s : Site) (b : Bool) : (s.noteLate b).scr = s.scr := rfl
@[simp] theorem Site.faults_noteLate (s : Site) (b : Bool) : (s.noteLate b).faults = s.faults := rfl
@[simp] theorem Site.judged_noteLate (s : Site) (b : Bool) : (s.noteLate b).judged = s.judged := rfl
@[simp] theorem Site.usedAt_noteLate (s : Site) (b : Bool) : (s.noteLate b).usedAt = s.usedAt := rfl
@[simp] theorem Site.usedBanks_noteLate (s : Site) (b : Bool) : (s.noteLate b).usedBanks = s.usedBanks := rfl

@[simp] theorem Site.hopper_setHopper_self (s : Site) (h : Nat) (x : Hopper) : (s.setHopper h x).hopper h = x := by
  simp [Site.hopper, Site.setHopper]

theorem Site.hopper_setHopper_ne (s : Site) (h k : Nat) (x : Hopper) (n : k ≠ h) : (s.setHopper h x).hopper k = s.hopper k := by
  simp [Site.hopper, Site.setHopper, aget_aset_ne _ _ _ _ _ n]

@[simp] theorem Site.tokens_setTokens_self (s : Site) (q : Nat) (l : List Token) : (s.setTokens q l).tokens q = l := by
  simp [Site.tokens, Site.setTokens]

theorem Site.tokens_setTokens_ne (s : Site) (q k : Nat) (l : List Token) (n : k ≠ q) : (s.setTokens q l).tokens k = s.tokens k := by
  simp [Site.tokens, Site.setTokens, aget_aset_ne _ _ _ _ _ n]

/-- What making a site's accesses up to a cycle can change: that site alone. -/
theorem State.upToCycle_rest (s : State) (i c : Nat) : s.upToCycle i c = { s with sites := (s.upToCycle i c).sites } ∧
    ∀ j, j ≠ i → (s.upToCycle i c).site j = s.site j := by
  unfold State.upToCycle
  split
  · exact ⟨rfl, fun j h => State.site_setSite_ne s i j _ h⟩
  · exact ⟨rfl, fun _ _ => rfl⟩

/-- What counting a late message can change: the quadrant's PAD_LATE. -/
theorem State.countLate_rest (s : State) (q : Nat) (b : Bool) : s.countLate q b = { s with quads := (s.countLate q b).quads } ∧
    (∀ r, r ≠ q → (s.countLate q b).quad r = s.quad r) ∧
    (s.countLate q b).quad q = { s.quad q with padLate := bump32 (s.quad q).padLate (if b then 1 else 0) } :=
  ⟨rfl, fun r h => State.quad_modQuad_ne s q r _ h, State.quad_modQuad_self s q _⟩

end Sys2Proof.Machine
end

