-- ==== Sys2Proof/Laws/Issue.lean ====
section
/-! SUPPORT. What issuing a bundle does (R117, R120): on a site with nothing in flight the bundle's slots act on the site as
it stands, and nothing outside the site changes. -/

namespace Sys2Proof.Machine

theorem Site.idle_iff (a : Site) : a.idle = true ↔
    a.seq.landings = [] ∧ a.mat.feeds = [] ∧ a.mat.loads = [] ∧ a.reload = none ∧ a.seq.loops = [] := by
  simp [Site.idle, and_assoc]

theorem State.canIssue_iff (s : State) (i : Nat) : s.canIssue i = true ↔
    (s.site i).seq.status = .running ∧ (s.site i).seq.pc ≤ 1023 ∧ (s.site i).seq.next < s.turn.geom.work ∧
    (s.site i).seq.clock ≤ (s.site i).seq.next ∧ (s.site i).idle = true := by
  simp [State.canIssue, State.atIssue, and_assoc]

/-- A site with its clock at cycle `c`. -/
def Site.clocked (a : Site) (c : Nat) : Site := { a with seq := { a.seq with clock := c } }

theorem Site.idle_clocked (a : Site) (c : Nat) (h : a.idle = true) : (a.clocked c).idle = true := h

/-- With nothing in flight the cycles up to `c` pass at once. -/
theorem Site.settle_idle (a : Site) (c : Nat) (h : a.idle = true) (hc : a.seq.clock ≤ c) : a.settle c = a.clocked c := by
  obtain ⟨h1, h2, h3, h4, -⟩ := a.idle_iff.mp h
  have hq : a.quiet = true := by simp [Site.quiet, h1, h2, h3, h4]
  unfold Site.settle
  cases hd : c - a.seq.clock with
  | zero =>
    have : a.seq.clock = c := by omega
    simp [Site.runTo, Site.clocked, this]
  | succ k =>
    have : ¬ c ≤ a.seq.clock := by omega
    simp [Site.runTo, this, hq, Site.clocked]

theorem Site.land_none (a : Site) (c : Nat) (h : a.seq.landings = []) : a.land c = a := by
  have e : a.land c = { a with seq := { a.seq with landings := [] } } := by
    unfold Site.land
    simp [h, show List.range 5 = [0, 1, 2, 3, 4] from rfl]
  rw [e, ← h]

theorem Site.landRows_none (a : Site) (c : Nat) (h : a.mat.feeds = []) : a.landRows c = a := by
  have e : a.landRows c = { a with mat := { a.mat with feeds := [] } } := by
    unfold Site.landRows
    simp [h]
  rw [e, ← h]

theorem Site.feedCheck_none (a : Site) (c : Nat) (h : a.mat.feeds = []) : a.feedCheck c = a := by
  simp [Site.feedCheck, h]

/-- With nothing in flight nothing lands. -/
theorem Site.arrive_idle (a : Site) (c : Nat) (h : a.idle = true) : a.arrive c = a := by
  obtain ⟨h1, h2, -⟩ := a.idle_iff.mp h
  simp [Site.arrive, a.land_none c h1, a.landRows_none c h2, a.feedCheck_none c h2]

/-- Without loads, streams and a reload the wide port is not used. -/
theorem Site.wide_none (a : Site) (c : Nat) (h2 : a.mat.feeds = []) (h3 : a.mat.loads = []) (h4 : a.reload = none) :
    a.wide c = a := by
  simp [Site.wide, Site.reloadAccess, h4, Site.fetchAccess, Site.fetchDue, h2, Site.weightAccess, h3]

theorem Site.wide_idle (a : Site) (c : Nat) (h : a.idle = true) : a.wide c = a := by
  obtain ⟨-, h2, h3, h4, -⟩ := a.idle_iff.mp h
  exact a.wide_none c h2 h3 h4

theorem Site.early_none (a : Site) (c : Nat) (b : Bundle) (h2 : a.mat.feeds = []) (h3 : a.mat.loads = []) (h4 : a.reload = none) :
    a.early c b = a := by
  simp [Site.early, Site.reloadAccess, h4, Site.fetchAccess, Site.fetchDue, h2, Site.weightAccess, h3]

theorem Site.early_idle (a : Site) (c : Nat) (b : Bundle) (h : a.idle = true) : a.early c b = a := by
  obtain ⟨-, h2, h3, h4, -⟩ := a.idle_iff.mp h
  exact a.early_none c b h2 h3 h4

/-- A bundle that does not stall issues its five slots on the site as it stands. -/
theorem Site.issue_idle (a : Site) (limit : Nat) (b : Bundle) (k : Checks) (hr : a.seq.status = .running)
    (hp : a.seq.pc ≤ 1023) (hn : a.seq.next < limit) (hc : a.seq.clock ≤ a.seq.next) (hi : a.idle = true)
    (hs : (a.clocked a.seq.next).stalls a.seq.next b.exch = false) :
    a.issue limit b k = (a.clocked a.seq.next).slots5 a.seq.next b k := by
  have h1 : a.settle a.seq.next = a.clocked a.seq.next := a.settle_idle _ hi hc
  have h2 : (a.clocked a.seq.next).arrive a.seq.next = a.clocked a.seq.next := Site.arrive_idle _ _ hi
  have h3 : (a.clocked a.seq.next).early a.seq.next b = a.clocked a.seq.next := Site.early_idle _ _ _ hi
  have hst : (a.clocked a.seq.next).seq.status.isStopped = false := by
    simp [Site.clocked, hr, SeqStatus.isStopped]
  have hcond : ¬ ((a.seq.status ≠ .running || a.seq.pc > 1023 || limit ≤ a.seq.next) = true) := by
    simp [hr]; omega
  unfold Site.issue
  rw [if_neg hcond]
  simp only [h1, h2, h3, hst, hs, Bool.false_eq_true, if_false]

theorem Site.checks_clean (a : Site) (n : Nat) (b : Bundle) : a.checks n b Checks.clean = a := rfl

theorem Site.upset_nil (a : Site) : a.upset [] = a := rfl

theorem bump32_zero (n : Nat) (h : n < 2 ^ 32) : bump32 n 0 = n := by
  simp only [bump32, satAdd]; omega

theorem bump16_zero (n : Nat) (h : n < 2 ^ 16) : bump16 n 0 = n := by
  simp only [bump16, satAdd]; omega

theorem Quad.countersFit_iff (x : Quad) : x.countersFit = true ↔
    x.recvStalls < 2 ^ 32 ∧ x.steerStalls < 2 ^ 32 ∧ x.corrWords < 2 ^ 32 ∧ x.lockstep < 2 ^ 16 ∧ x.residue < 2 ^ 16 ∧
    x.eccUe < 2 ^ 16 ∧ x.steerTrunc < 2 ^ 32 := by
  simp [Quad.countersFit, and_assoc]

theorem State.quad_modQuad (s : State) (q r : Nat) (f : Quad → Quad) :
    (s.modQuad q f).quad r = if r = q then f (s.quad q) else s.quad r := by
  by_cases h : r = q
  · subst h; simp
  · simp [h, State.quad_modQuad_ne]

theorem State.site_setSite (s : State) (i j : Nat) (x : Site) : (s.setSite i x).site j = if j = i then x else s.site j := by
  by_cases h : j = i
  · subst h; simp
  · simp [h, State.site_setSite_ne]

@[simp] theorem State.site_modQuad (s : State) (q : Nat) (f : Quad → Quad) (j : Nat) : (s.modQuad q f).site j = s.site j := rfl

@[simp] theorem State.quad_setSite (s : State) (i : Nat) (x : Site) (q : Nat) : (s.setSite i x).quad q = s.quad q := rfl

/-- What a lone bundle does to the whole module: the site takes the result, and where nothing was counted nothing else
changes. -/
theorem State.issueAt_lone (s : State) (i : Nat) (b : Bundle) (x : Site)
    (h : (s.site i).issue s.turn.geom.work b Checks.clean = (x, []))
    (h1 : x.seq.stalls = (s.site i).seq.stalls) (h2 : x.seq.steerStalls = (s.site i).seq.steerStalls)
    (h3 : x.faults = (s.site i).faults) :
    (s.issueAt i b Checks.clean).site i = x ∧ OnlySite s (s.issueAt i b Checks.clean) i := by
  have e : s.issueAt i b Checks.clean =
      (((s.setSite i x).countSite i (s.site i) 0).countChecks i (s.site i)) := by
    have hu : (s.site i).upset Checks.clean.upsets = s.site i := rfl
    have hf : fetchBad Checks.clean.ecc = false := rfl
    have hw : wordsFixed Checks.clean = 0 := rfl
    simp only [State.issueAt, hu, hf, hw, Bool.false_eq_true, if_false, h]
    simp [State.dispatch]
  rw [e]
  refine ⟨?_, rfl, fun j hj => ?_, fun q hq => ?_⟩
  · simp [State.countChecks, State.countSite, State.wearCorrected]
  · simp [State.countChecks, State.countSite, State.wearCorrected, State.site_setSite, hj]
  · obtain ⟨a1, a2, a3, a4, a5, a6, -⟩ := (s.quad q).countersFit_iff.mp hq
    simp only [State.countChecks, State.countSite, State.wearCorrected, if_true, State.quad_modQuad, State.quad_setSite,
      State.site_modQuad, State.site_setSite_self, h1, h2, h3, Nat.sub_self, List.drop_length, List.filter_nil, List.length_nil]
    by_cases hqq : q = i / Config.sitesPerQuad
    · subst hqq
      simp only [if_true, bump32_zero _ a1, bump32_zero _ a2, bump32_zero _ a3, bump16_zero _ a4, bump16_zero _ a5, bump16_zero _ a6]
    · simp [hqq]

/-! ### The five slots of a lone operation -/

theorem Site.issueExch_nop (a : Site) (n : Nat) : a.issueExch n .nop = (a, []) := by
  simp [Site.issueExch, Site.exchBody]

theorem Site.issueScalar_nop (a : Site) (n : Nat) (busy : Bool) : a.issueScalar n busy .nop = (a, .fall) := by
  simp [Site.issueScalar, Site.scalarBody]

theorem Site.issueMat_nop (a : Site) (n : Nat) : a.issueMat n .nop = a := by
  simp [Site.issueMat]

theorem Site.issueVec_nop (a : Site) (n : Nat) : a.issueVec n .nop = a := by
  simp [Site.issueVec, Site.vecBody]

theorem Site.issueLs_nop (a : Site) (n : Nat) : a.issueLs n .nop = a := by
  simp [Site.issueLs, Site.lsBody]

/-- A lone scalar or control operation. -/
theorem Site.slots5_scalar (a : Site) (n : Nat) (op : ScalarOp) :
    a.slots5 n (loneScalar op) Checks.clean =
      (let c := a.issueScalar n (a.switches (loneScalar op) && !(a.steerCycle n).site.skidsEmpty) op
       ((c.1.wide n).finish n c.2 |>.clocked (n + 1), [])) := by
  simp [Site.slots5, loneScalar, Bundle.nops, Site.issueExch_nop, Site.issueMat_nop, Site.issueVec_nop, Site.issueLs_nop,
    Site.checks_clean, Site.clocked, Site.switches]

/-- A lone vector operation. -/
theorem Site.slots5_vec (a : Site) (n : Nat) (op : VecOp) :
    a.slots5 n (loneVec op) Checks.clean = (((a.issueVec n op).wide n).finish n .fall |>.clocked (n + 1), []) := by
  simp [Site.slots5, loneVec, Bundle.nops, Site.issueExch_nop, Site.issueMat_nop, Site.issueScalar_nop, Site.issueLs_nop,
    Site.checks_clean, Site.clocked, Site.switches]

/-- A lone load/store operation. -/
theorem Site.slots5_ls (a : Site) (n : Nat) (op : LsOp) :
    a.slots5 n (loneLs op) Checks.clean = (((a.issueLs n op).wide n).finish n .fall |>.clocked (n + 1), []) := by
  simp [Site.slots5, loneLs, Bundle.nops, Site.issueExch_nop, Site.issueMat_nop, Site.issueScalar_nop, Site.issueVec_nop,
    Site.checks_clean, Site.clocked, Site.switches]

/-- A lone matrix operation. -/
theorem Site.slots5_mat (a : Site) (n : Nat) (op : MatOp) :
    a.slots5 n (loneMat op) Checks.clean = (((a.issueMat n op).wide n).finish n .fall |>.clocked (n + 1), []) := by
  simp [Site.slots5, loneMat, Bundle.nops, Site.issueExch_nop, Site.issueLs_nop, Site.issueScalar_nop, Site.issueVec_nop,
    Site.checks_clean, Site.clocked, Site.switches]

/-- A lone exchange operation. -/
theorem Site.slots5_exch (a : Site) (n : Nat) (op : ExchOp) :
    a.slots5 n (loneExch op) Checks.clean =
      ((((a.issueExch n op).1.wide n).finish n .fall).clocked (n + 1), (a.issueExch n op).2) := by
  simp [Site.slots5, loneExch, Bundle.nops, Site.issueMat_nop, Site.issueLs_nop, Site.issueScalar_nop, Site.issueVec_nop,
    Site.checks_clean, Site.clocked, Site.switches]

/-- The next bundle in sequence, outside every loop. -/
theorem Site.finish_fall (a : Site) (n : Nat) (hr : a.seq.status = .running) (hl : a.seq.loops = []) :
    a.finish n .fall = { a with seq := { a.seq with pc := a.seq.pc + 1, next := n + 1 } } := by
  have e : a.finish n .fall = { a with seq := { a.seq with pc := a.seq.pc + 1, loops := [], next := n + 1 } } := by
    simp [Site.finish, hr, Site.inSequence, hl, evalLoops]
  rw [e, ← hl]

/-! ### Landings -/

/-- A cycle in which no result is due leaves the site. -/
theorem Site.land_later (a : Site) (c : Nat) (h : ∀ e ∈ a.seq.landings, e.at_ ≠ c) : a.land c = a := by
  have hd : a.seq.landings.filter (fun e => e.at_ == c) = [] := by
    rw [List.filter_eq_nil_iff]; intro e he; simpa using h e he
  have hk : a.seq.landings.filter (fun e => e.at_ != c) = a.seq.landings := by
    rw [List.filter_eq_self]; intro e he; simpa using h e he
  have e : a.land c = { a with seq := { a.seq with landings := a.seq.landings.filter (fun e => e.at_ != c) } } := by
    unfold Site.land
    simp [hd, show List.range 5 = [0, 1, 2, 3, 4] from rfl]
  rw [e, hk]

theorem Site.runTo_hold (k c : Nat) (a : Site) (hk : a.seq.clock + k = c) (h : ∀ e ∈ a.seq.landings, c ≤ e.at_)
    (h2 : a.mat.feeds = []) (h3 : a.mat.loads = []) (h4 : a.reload = none) : Site.runTo k c a = a.clocked c := by
  induction k generalizing a with
  | zero => simp only [Nat.add_zero] at hk; subst hk; simp [Site.runTo, Site.clocked]
  | succ k ih =>
    have hc : ¬ c ≤ a.seq.clock := by omega
    rw [Site.runTo, if_neg hc]
    by_cases hq : a.quiet = true
    · rw [if_pos hq]; rfl
    · rw [if_neg hq]
      have e1 : a.arrive a.seq.clock = a := by
        rw [Site.arrive, a.land_later _ (fun e he => by have := h e he; omega), a.landRows_none _ h2, a.feedCheck_none _ h2]
      have e2 : a.pass a.seq.clock = a.clocked (a.seq.clock + 1) := by
        simp only [Site.pass, e1, a.wide_none _ h2 h3 h4, Site.clocked]
      rw [e2, ih (a.clocked (a.seq.clock + 1)) (by simp only [Site.clocked]; omega) h h2 h3 h4]
      rfl

/-- While results are in flight and nothing else is, the cycles before the first of them lands pass. -/
theorem Site.settle_hold (a : Site) (c : Nat) (hc : a.seq.clock ≤ c) (h : ∀ e ∈ a.seq.landings, c ≤ e.at_)
    (h2 : a.mat.feeds = []) (h3 : a.mat.loads = []) (h4 : a.reload = none) : a.settle c = a.clocked c :=
  Site.runTo_hold _ _ _ (by omega) h h2 h3 h4

/-- A site with nothing in flight. -/
def Site.landed (a : Site) : Site := { a with seq := { a.seq with landings := [] } }

/-- What the updates of a landing leave alone. -/
theorem Site.apply_feeds (a : Site) (r : Result) : (a.apply r).mat.feeds = a.mat.feeds := by
  cases r with
  | s r v => rfl
  | p r v => simp only [Site.apply, Site.setP]; split <;> rfl
  | k r v => rfl
  | v r w => rfl
  | vm r b w => simp only [Site.apply, Site.setVM]; split <;> rfl
  | flags fs =>
    simp only [Site.apply]
    generalize List.range 64 = l
    induction l generalizing a with
    | nil => rfl
    | cons x t ih =>
      rw [List.foldl_cons, ih]
      simp only [Site.orLane]; split <;> rfl
  | clrLanes w => rfl
  | clrCols => rfl

theorem Site.apply_landings (a : Site) (r : Result) : (a.apply r).seq.landings = a.seq.landings := by
  cases r with
  | s r v => rfl
  | p r v => simp only [Site.apply, Site.setP]; split <;> rfl
  | k r v => rfl
  | v r w => rfl
  | vm r b w => simp only [Site.apply, Site.setVM]; split <;> rfl
  | flags fs =>
    simp only [Site.apply]
    generalize List.range 64 = l
    induction l generalizing a with
    | nil => rfl
    | cons x t ih =>
      rw [List.foldl_cons, ih]
      simp only [Site.orLane]; split <;> rfl
  | clrLanes w => rfl
  | clrCols => rfl

/-- A site with one result in flight, seen in the cycle in which it lands. -/
theorem Site.seen_one (a : Site) (c : Nat) (e : Landing) (h1 : a.seq.landings = [e]) (h2 : a.mat.feeds = [])
    (h3 : a.mat.loads = []) (h4 : a.reload = none) (hc : a.seq.clock ≤ c) (he : e.at_ = c) (hk : e.rank < 5) :
    (a.settle c).arrive c = ((a.clocked c).apply (e.settled (a.clocked c) [e])).landed := by
  rw [a.settle_hold c hc (by simp [h1, he]) h2 h3 h4]
  have hl : (a.clocked c).seq.landings = [e] := h1
  have hb : e.beaten [e] = false := by
    simp only [Landing.beaten]
    split
    · rfl
    · simp
  have hland : (a.clocked c).land c = ((a.clocked c).apply (e.settled (a.clocked c) [e])).landed := by
    unfold Site.land
    have hr : e.rank = 0 ∨ e.rank = 1 ∨ e.rank = 2 ∨ e.rank = 3 ∨ e.rank = 4 := by omega
    rcases hr with hr | hr | hr | hr | hr <;>
      simp [he, hb, hr, show List.range 5 = [0, 1, 2, 3, 4] from rfl, Site.landed, Site.apply_landings, h1, Site.clocked]
  have hf : ((a.clocked c).apply (e.settled (a.clocked c) [e])).landed.mat.feeds = [] := by
    show ((a.clocked c).apply _).mat.feeds = []
    rw [Site.apply_feeds]; exact h2
  rw [Site.arrive, hland, Site.landRows_none _ _ hf, Site.feedCheck_none _ _ hf]

end Sys2Proof.Machine
end

