-- ==== Sys2Proof/Laws/Memory.lean ====
section
/-! SUPPORT. Memories (R93, R94, R346): a read after a write, and that every memory operation keeps the canonical form. -/

namespace Sys2Proof.Machine

theorem alook_adel_self {α : Type} (l : List (Nat × α)) (i : Nat) : alook (adel l i) i = none := by
  induction l with
  | nil => rfl
  | cons e t ih =>
    obtain ⟨k, v⟩ := e
    by_cases h : k = i
    · simpa [adel, h] using ih
    · simpa [adel, h, alook] using ih

theorem alook_adel_ne {α : Type} (l : List (Nat × α)) (i j : Nat) (h : j ≠ i) : alook (adel l i) j = alook l j := by
  induction l with
  | nil => rfl
  | cons e t ih =>
    obtain ⟨k, v⟩ := e
    by_cases h1 : k = i
    · subst h1; simpa [adel, alook, Ne.symm h] using ih
    · by_cases h2 : k = j
      · subst h2; simp [adel, h1, alook]
      · simpa [adel, h1, alook, h2] using ih

/-- A byte read after it is written. -/
@[simp] theorem Memory.byte_setByte_self (m : Memory) (a : Nat) (b : Byte) : (m.setByte a b).byte a = b := by
  by_cases h : b = Memory.unlisted
  · simp [Memory.setByte, Memory.byte, h, aget_eq, alook_adel_self]
  · simp [Memory.setByte, Memory.byte, h]

/-- A byte write leaves every other byte. -/
theorem Memory.byte_setByte_ne (m : Memory) (a c : Nat) (b : Byte) (h : c ≠ a) : (m.setByte a b).byte c = m.byte c := by
  by_cases hb : b = Memory.unlisted
  · simp [Memory.setByte, Memory.byte, hb, aget_eq, alook_adel_ne _ _ _ h]
  · simp [Memory.setByte, Memory.byte, hb, aget_aset_ne _ _ _ _ _ h]

/-- A write leaves every byte outside it. -/
theorem Memory.byte_write_ne (l : List Byte) (m : Memory) (a c : Nat) (h : c < a ∨ a + l.length ≤ c) :
    (m.write a l).byte c = m.byte c := by
  induction l generalizing m a with
  | nil => rfl
  | cons b t ih =>
    simp only [Memory.write]
    simp only [List.length_cons] at h
    rw [ih _ _ (by omega), Memory.byte_setByte_ne _ _ _ _ (by omega)]

/-- A byte of a write. -/
theorem Memory.byte_write (l : List Byte) (m : Memory) (a i : Nat) (h : i < l.length) :
    (m.write a l).byte (a + i) = l.getD i 0 := by
  induction l generalizing m a i with
  | nil => simp at h
  | cons b t ih =>
    simp only [Memory.write]
    cases i with
    | zero => rw [Memory.byte_write_ne _ _ _ _ (by omega)]; simp
    | succ j =>
      have := ih (m.setByte a b) (a + 1) j (by simpa using h)
      simpa [Nat.add_assoc, Nat.add_comm 1 j] using this

@[simp] theorem Memory.byte_mark (m : Memory) (w c : Nat) (p : Bool) : (m.mark w p).byte c = m.byte c := rfl

/-! ### The canonical form -/

theorem rising_cons {a : Nat} {l : List Nat} : rising (a :: l) = true ↔ (∀ b ∈ l.head?, a < b) ∧ rising l = true := by
  cases l with
  | nil => simp [rising]
  | cons b t => simp [rising]

theorem head_aset {α : Type} (l : List (Nat × α)) (i : Nat) (x : α) :
    ∀ b ∈ ((aset l i x).map Prod.fst).head?, b = i ∨ b ∈ (l.map Prod.fst).head? := by
  cases l with
  | nil => simp [aset]
  | cons e t =>
    obtain ⟨k, v⟩ := e
    by_cases h1 : i < k
    · simp [aset, h1]
    · by_cases h2 : i = k
      · simp [aset, h2]
      · simp [aset, h1, h2]

/-- Putting an entry in keeps the keys rising. -/
theorem rising_aset {α : Type} (l : List (Nat × α)) (i : Nat) (x : α) (h : rising (l.map Prod.fst) = true) :
    rising ((aset l i x).map Prod.fst) = true := by
  induction l with
  | nil => simp [aset, rising]
  | cons e t ih =>
    obtain ⟨k, v⟩ := e
    rw [List.map_cons, rising_cons] at h
    by_cases h1 : i < k
    · simp only [aset, h1, if_true, List.map_cons]
      rw [rising_cons, rising_cons]
      exact ⟨by simp [h1], h⟩
    · by_cases h2 : i = k
      · subst h2
        simp only [aset, Nat.lt_irrefl, if_false, if_true, List.map_cons]
        rw [rising_cons]; exact h
      · simp only [aset, h1, h2, if_false, List.map_cons]
        rw [rising_cons]
        refine ⟨fun b hb => ?_, ih h.2⟩
        rcases head_aset t i x b hb with rfl | hb'
        · omega
        · exact h.1 b hb'

theorem rising_lt {a : Nat} {l : List Nat} (h : rising (a :: l) = true) : ∀ b ∈ l, a < b := by
  induction l generalizing a with
  | nil => simp
  | cons c t ih =>
    rw [rising_cons] at h
    have hac : a < c := h.1 c (by simp)
    intro b hb
    rcases List.mem_cons.mp hb with rfl | hb
    · exact hac
    · exact Nat.lt_trans hac (ih h.2 b hb)

theorem rising_of_lt {a : Nat} {l : List Nat} (h : ∀ b ∈ l, a < b) (hl : rising l = true) : rising (a :: l) = true := by
  rw [rising_cons]
  refine ⟨fun b hb => h b ?_, hl⟩
  cases l with
  | nil => simp at hb
  | cons c t => simp only [List.head?_cons, Option.mem_def, Option.some.injEq] at hb; subst hb; exact List.mem_cons_self

/-- Part of a rising list rises. -/
theorem rising_filter (p : Nat → Bool) (l : List Nat) (h : rising l = true) : rising (l.filter p) = true := by
  induction l with
  | nil => rfl
  | cons a t ih =>
    have ht : rising t = true := (rising_cons.mp h).2
    by_cases hp : p a
    · rw [List.filter_cons_of_pos hp]
      exact rising_of_lt (fun b hb => rising_lt h b (List.mem_filter.mp hb).1) (ih ht)
    · rw [List.filter_cons_of_neg hp]
      exact ih ht

theorem adel_keys {α : Type} (l : List (Nat × α)) (i : Nat) :
    (adel l i).map Prod.fst = (l.map Prod.fst).filter (fun k => k != i) := by
  induction l with
  | nil => rfl
  | cons e t ih =>
    by_cases h : e.1 = i
    · simpa [adel, h] using ih
    · simpa [adel, h] using ih

theorem mem_aset {α : Type} (l : List (Nat × α)) (i : Nat) (x : α) (e : Nat × α) (h : e ∈ aset l i x) :
    e = (i, x) ∨ e ∈ l := by
  induction l with
  | nil => simpa [aset] using h
  | cons c t ih =>
    obtain ⟨k, v⟩ := c
    by_cases h1 : i < k
    · simpa [aset, h1] using h
    · by_cases h2 : i = k
      · subst h2
        simp only [aset, Nat.lt_irrefl, if_false, if_true, List.mem_cons] at h
        rcases h with h | h
        · exact .inl h
        · exact .inr (List.mem_cons_of_mem _ h)
      · simp only [aset, h1, h2, if_false, List.mem_cons] at h
        rcases h with h | h
        · exact .inr (by simp [h])
        · rcases ih h with h | h
          · exact .inl h
          · exact .inr (List.mem_cons_of_mem _ h)

/-- Putting a number into a rising list keeps it rising. -/
theorem rising_nins (l : List Nat) (i : Nat) (h : rising l = true) : rising (nins l i) = true := by
  induction l with
  | nil => rfl
  | cons k t ih =>
    by_cases h1 : i < k
    · simp only [nins, h1, if_true]; rw [rising_cons]; exact ⟨by simp [h1], h⟩
    · by_cases h2 : i = k
      · simpa [nins, h2] using h
      · simp only [nins, h1, h2, if_false]
        rw [rising_cons] at h ⊢
        refine ⟨fun b hb => ?_, ih h.2⟩
        cases t with
        | nil => simp only [nins, List.head?_cons, Option.mem_def, Option.some.injEq] at hb; omega
        | cons c u =>
          have hc : k < c := h.1 c (by simp)
          by_cases h3 : i < c
          · simp only [nins, h3, if_true, List.head?_cons, Option.mem_def, Option.some.injEq] at hb; omega
          · by_cases h4 : i = c
            · simp only [nins, h4, Nat.lt_irrefl, if_false, if_true, List.head?_cons, Option.mem_def, Option.some.injEq] at hb
              omega
            · simp only [nins, h3, h4, if_false, List.head?_cons, Option.mem_def, Option.some.injEq] at hb; omega

theorem Memory.wf_iff (m : Memory) : m.wf = true ↔
    rising (m.cells.map Prod.fst) = true ∧ (∀ c ∈ m.cells, c.2 ≠ Memory.unlisted) ∧ rising m.poisoned = true := by
  simp [Memory.wf, and_assoc]

/-- A byte write keeps the canonical form. -/
theorem Memory.wf_setByte (m : Memory) (a : Nat) (b : Byte) (h : m.wf = true) : (m.setByte a b).wf = true := by
  rw [Memory.wf_iff] at h ⊢
  obtain ⟨h1, h2, h3⟩ := h
  by_cases hb : b = Memory.unlisted
  · refine ⟨?_, ?_, h3⟩
    · simp only [Memory.setByte, hb, if_true, adel_keys]; exact rising_filter _ _ h1
    · intro c hc
      simp only [Memory.setByte, hb, if_true, adel, List.mem_filter] at hc
      exact h2 c hc.1
  · refine ⟨?_, ?_, h3⟩
    · simp only [Memory.setByte, hb, if_false]; exact rising_aset _ _ _ h1
    · intro c hc
      simp only [Memory.setByte, hb, if_false] at hc
      rcases mem_aset _ _ _ _ hc with rfl | hc
      · exact hb
      · exact h2 c hc

/-- A write keeps the canonical form. -/
theorem Memory.wf_write (l : List Byte) (m : Memory) (a : Nat) (h : m.wf = true) : (m.write a l).wf = true := by
  induction l generalizing m a with
  | nil => exact h
  | cons b t ih => exact ih _ _ (Memory.wf_setByte m a b h)

/-- A poison mark set or cleared keeps the canonical form. -/
theorem Memory.wf_mark (m : Memory) (w : Nat) (p : Bool) (h : m.wf = true) : (m.mark w p).wf = true := by
  rw [Memory.wf_iff] at h ⊢
  refine ⟨h.1, h.2.1, ?_⟩
  cases p
  · exact rising_filter _ _ h.2.2
  · exact rising_nins _ _ h.2.2

/-- A whole scratchpad word written keeps the canonical form. -/
theorem Memory.wf_setWord64 (m : Memory) (a : Nat) (bs : List Byte) (p : Bool) (h : m.wf = true) :
    (m.setWord64 a bs p).wf = true :=
  Memory.wf_mark _ _ _ (Memory.wf_write _ _ _ h)

theorem map_fst_filter {α : Type} (p : Nat → Bool) (l : List (Nat × α)) :
    (l.filter (fun c => p c.1)).map Prod.fst = (l.map Prod.fst).filter p := by
  induction l with
  | nil => rfl
  | cons e t ih =>
    by_cases h : p e.1
    · simpa [h] using ih
    · simpa [h] using ih

/-- A clear keeps the canonical form. -/
theorem Memory.wf_clearWhere (m : Memory) (gone : Nat → Bool) (h : m.wf = true) : (m.clearWhere gone).wf = true := by
  rw [Memory.wf_iff] at h ⊢
  refine ⟨?_, ?_, rising_filter _ _ h.2.2⟩
  · simp only [Memory.clearWhere]
    rw [map_fst_filter (fun a => !gone a)]
    exact rising_filter _ _ h.1
  · intro c hc
    exact h.2.1 c (List.mem_filter.mp hc).1

/-- The memory with nothing listed is canonical. -/
theorem Memory.wf_empty : Memory.empty.wf = true := rfl

/-- So is the memory that a clear leaves. -/
theorem Memory.wf_cleared : Memory.cleared.wf = true := rfl

end Sys2Proof.Machine
end

