-- ==== Sys2Proof/Laws/PerInstr.lean ====
section
/-! SUPPORT. A law of every command as syntax, one lemma per constructor: the site that a well-formed command names is one of
the 2,304 tile sites (00_scope: 576 in each of four quadrants). -/

namespace Sys2Proof.Laws.WellFormed

/-- A well-formed command names a site of the module, where it names one. -/
def Statement (i : Instr) : Prop := i.wf = true → ∀ n, i.site? = some n → n < 2304

/-- The check of a command's site is all that the law needs. -/
theorem site_of_wf (i : Instr) : Statement i := by
  intro h n hn
  have := (Bool.and_eq_true_iff.mp h).1
  simp only [Instr.siteWf, hn, decide_eq_true_eq] at this
  exact this

theorem turnBoundary (x0) (x1) : Statement (.turnBoundary x0 x1) := site_of_wf _
theorem workWindowStart : Statement (.workWindowStart) := site_of_wf _
theorem dressingWindowStart : Statement (.dressingWindowStart) := site_of_wf _
theorem closeWindowStart (x0) : Statement (.closeWindowStart x0) := site_of_wf _
theorem dmaTokenCloseDeadline (x0) (x1) : Statement (.dmaTokenCloseDeadline x0 x1) := site_of_wf _
theorem turnStep (x0) (x1) : Statement (.turnStep x0 x1) := site_of_wf _
theorem holdoverEnter : Statement (.holdoverEnter) := site_of_wf _
theorem masterKeyDiscard : Statement (.masterKeyDiscard) := site_of_wf _
theorem turnMarkReceive (x0) (x1) : Statement (.turnMarkReceive x0 x1) := site_of_wf _
theorem changeSetStaged (x0) : Statement (.changeSetStaged x0) := site_of_wf _
theorem changeSetApply (x0) : Statement (.changeSetApply x0) := site_of_wf _
theorem changeSetExpire (x0) : Statement (.changeSetExpire x0) := site_of_wf _
theorem governorStage (x0) : Statement (.governorStage x0) := site_of_wf _
theorem bankDrainDone (x0) (x1) : Statement (.bankDrainDone x0 x1) := site_of_wf _
theorem bankDrainTimeout (x0) (x1) : Statement (.bankDrainTimeout x0 x1) := site_of_wf _
theorem bundleFetch (x0) (x1) : Statement (.bundleFetch x0 x1) := site_of_wf _
theorem nop (x0) (x1) (x2) : Statement (.nop x0 x1 x2) := site_of_wf _
theorem sAdd (x0) (x1) (x2) : Statement (.sAdd x0 x1 x2) := site_of_wf _
theorem sSub (x0) (x1) (x2) : Statement (.sSub x0 x1 x2) := site_of_wf _
theorem sMul (x0) (x1) (x2) : Statement (.sMul x0 x1 x2) := site_of_wf _
theorem sMulhu (x0) (x1) (x2) : Statement (.sMulhu x0 x1 x2) := site_of_wf _
theorem sAnd (x0) (x1) (x2) : Statement (.sAnd x0 x1 x2) := site_of_wf _
theorem sOr (x0) (x1) (x2) : Statement (.sOr x0 x1 x2) := site_of_wf _
theorem sXor (x0) (x1) (x2) : Statement (.sXor x0 x1 x2) := site_of_wf _
theorem sShl (x0) (x1) (x2) : Statement (.sShl x0 x1 x2) := site_of_wf _
theorem sShr (x0) (x1) (x2) : Statement (.sShr x0 x1 x2) := site_of_wf _
theorem sSra (x0) (x1) (x2) : Statement (.sSra x0 x1 x2) := site_of_wf _
theorem sMin (x0) (x1) (x2) : Statement (.sMin x0 x1 x2) := site_of_wf _
theorem sMax (x0) (x1) (x2) : Statement (.sMax x0 x1 x2) := site_of_wf _
theorem sMinu (x0) (x1) (x2) : Statement (.sMinu x0 x1 x2) := site_of_wf _
theorem sMaxu (x0) (x1) (x2) : Statement (.sMaxu x0 x1 x2) := site_of_wf _
theorem sAddi (x0) (x1) (x2) : Statement (.sAddi x0 x1 x2) := site_of_wf _
theorem sMuli (x0) (x1) (x2) : Statement (.sMuli x0 x1 x2) := site_of_wf _
theorem sAndi (x0) (x1) (x2) : Statement (.sAndi x0 x1 x2) := site_of_wf _
theorem sOri (x0) (x1) (x2) : Statement (.sOri x0 x1 x2) := site_of_wf _
theorem sXori (x0) (x1) (x2) : Statement (.sXori x0 x1 x2) := site_of_wf _
theorem sShli (x0) (x1) (x2) : Statement (.sShli x0 x1 x2) := site_of_wf _
theorem sShri (x0) (x1) (x2) : Statement (.sShri x0 x1 x2) := site_of_wf _
theorem sSrai (x0) (x1) (x2) : Statement (.sSrai x0 x1 x2) := site_of_wf _
theorem sMovi (x0) (x1) (x2) (x3) (x4) : Statement (.sMovi x0 x1 x2 x3 x4) := site_of_wf _
theorem cmpEq (x0) (x1) (x2) : Statement (.cmpEq x0 x1 x2) := site_of_wf _
theorem cmpNe (x0) (x1) (x2) : Statement (.cmpNe x0 x1 x2) := site_of_wf _
theorem cmpLt (x0) (x1) (x2) : Statement (.cmpLt x0 x1 x2) := site_of_wf _
theorem cmpLe (x0) (x1) (x2) : Statement (.cmpLe x0 x1 x2) := site_of_wf _
theorem cmpLtu (x0) (x1) (x2) : Statement (.cmpLtu x0 x1 x2) := site_of_wf _
theorem cmpLeu (x0) (x1) (x2) : Statement (.cmpLeu x0 x1 x2) := site_of_wf _
theorem cmpiEq (x0) (x1) (x2) : Statement (.cmpiEq x0 x1 x2) := site_of_wf _
theorem cmpiNe (x0) (x1) (x2) : Statement (.cmpiNe x0 x1 x2) := site_of_wf _
theorem cmpiLt (x0) (x1) (x2) : Statement (.cmpiLt x0 x1 x2) := site_of_wf _
theorem cmpiLe (x0) (x1) (x2) : Statement (.cmpiLe x0 x1 x2) := site_of_wf _
theorem cmpiLtu (x0) (x1) (x2) : Statement (.cmpiLtu x0 x1 x2) := site_of_wf _
theorem cmpiLeu (x0) (x1) (x2) : Statement (.cmpiLeu x0 x1 x2) := site_of_wf _
theorem pand (x0) (x1) (x2) : Statement (.pand x0 x1 x2) := site_of_wf _
theorem por (x0) (x1) (x2) : Statement (.por x0 x1 x2) := site_of_wf _
theorem pxor (x0) (x1) (x2) : Statement (.pxor x0 x1 x2) := site_of_wf _
theorem movk (x0) (x1) (x2) : Statement (.movk x0 x1 x2) := site_of_wf _
theorem rdid (x0) (x1) (x2) (x3) : Statement (.rdid x0 x1 x2 x3) := site_of_wf _
theorem branch (x0) (x1) (x2) : Statement (.branch x0 x1 x2) := site_of_wf _
theorem call (x0) (x1) (x2) : Statement (.call x0 x1 x2) := site_of_wf _
theorem jr (x0) (x1) (x2) : Statement (.jr x0 x1 x2) := site_of_wf _
theorem loop (x0) (x1) (x2) : Statement (.loop x0 x1 x2) := site_of_wf _
theorem loopi (x0) (x1) (x2) : Statement (.loopi x0 x1 x2) := site_of_wf _
theorem switchSlot (x0) (x1) (x2) : Statement (.switchSlot x0 x1 x2) := site_of_wf _
theorem reload (x0) (x1) (x2) : Statement (.reload x0 x1 x2) := site_of_wf _
theorem ownr (x0) (x1) (x2) : Statement (.ownr x0 x1 x2) := site_of_wf _
theorem idle (x0) (x1) (x2) : Statement (.idle x0 x1 x2) := site_of_wf _
theorem waitc (x0) (x1) (x2) : Statement (.waitc x0 x1 x2) := site_of_wf _
theorem waitExpire (x0) (x1) : Statement (.waitExpire x0 x1) := site_of_wf _
theorem endwork (x0) (x1) (x2) : Statement (.endwork x0 x1 x2) := site_of_wf _
theorem sendV (x0) (x1) (x2) : Statement (.sendV x0 x1 x2) := site_of_wf _
theorem sendS (x0) (x1) (x2) : Statement (.sendS x0 x1 x2) := site_of_wf _
theorem msendV (x0) (x1) (x2) : Statement (.msendV x0 x1 x2) := site_of_wf _
theorem recvV (x0) (x1) (x2) : Statement (.recvV x0 x1 x2) := site_of_wf _
theorem recvS (x0) (x1) (x2) : Statement (.recvS x0 x1 x2) := site_of_wf _
theorem tpush (x0) (x1) (x2) : Statement (.tpush x0 x1 x2) := site_of_wf _
theorem tpushi (x0) (x1) (x2) : Statement (.tpushi x0 x1 x2) := site_of_wf _
theorem tpop (x0) (x1) (x2) : Statement (.tpop x0 x1 x2) := site_of_wf _
theorem dma (x0) (x1) (x2) : Statement (.dma x0 x1 x2) := site_of_wf _
theorem dmaDescriptorFetch (x0) (x1) : Statement (.dmaDescriptorFetch x0 x1) := site_of_wf _
theorem dmaTransferDone (x0) (x1) (x2) (x3) : Statement (.dmaTransferDone x0 x1 x2 x3) := site_of_wf _
theorem mldw (x0) (x1) (x2) : Statement (.mldw x0 x1 x2) := site_of_wf _
theorem mfeed (x0) (x1) (x2) : Statement (.mfeed x0 x1 x2) := site_of_wf _
theorem mmul (x0) (x1) (x2) : Statement (.mmul x0 x1 x2) := site_of_wf _
theorem feedTiming (x0) : Statement (.feedTiming x0) := site_of_wf _
theorem vadd (x0) (x1) (x2) : Statement (.vadd x0 x1 x2) := site_of_wf _
theorem vsub (x0) (x1) (x2) : Statement (.vsub x0 x1 x2) := site_of_wf _
theorem vmul (x0) (x1) (x2) : Statement (.vmul x0 x1 x2) := site_of_wf _
theorem vfma (x0) (x1) (x2) : Statement (.vfma x0 x1 x2) := site_of_wf _
theorem vfms (x0) (x1) (x2) : Statement (.vfms x0 x1 x2) := site_of_wf _
theorem vfnma (x0) (x1) (x2) : Statement (.vfnma x0 x1 x2) := site_of_wf _
theorem vmin (x0) (x1) (x2) : Statement (.vmin x0 x1 x2) := site_of_wf _
theorem vmax (x0) (x1) (x2) : Statement (.vmax x0 x1 x2) := site_of_wf _
theorem vabs (x0) (x1) (x2) : Statement (.vabs x0 x1 x2) := site_of_wf _
theorem vneg (x0) (x1) (x2) : Statement (.vneg x0 x1 x2) := site_of_wf _
theorem vmov (x0) (x1) (x2) : Statement (.vmov x0 x1 x2) := site_of_wf _
theorem vrcp (x0) (x1) (x2) : Statement (.vrcp x0 x1 x2) := site_of_wf _
theorem vrsqrt (x0) (x1) (x2) : Statement (.vrsqrt x0 x1 x2) := site_of_wf _
theorem vsqrt (x0) (x1) (x2) : Statement (.vsqrt x0 x1 x2) := site_of_wf _
theorem vexp2 (x0) (x1) (x2) : Statement (.vexp2 x0 x1 x2) := site_of_wf _
theorem vlog2 (x0) (x1) (x2) : Statement (.vlog2 x0 x1 x2) := site_of_wf _
theorem vaddi (x0) (x1) (x2) : Statement (.vaddi x0 x1 x2) := site_of_wf _
theorem vmuli (x0) (x1) (x2) : Statement (.vmuli x0 x1 x2) := site_of_wf _
theorem vmovi (x0) (x1) (x2) : Statement (.vmovi x0 x1 x2) := site_of_wf _
theorem vrda (x0) (x1) (x2) : Statement (.vrda x0 x1 x2) := site_of_wf _
theorem vaddA (x0) (x1) (x2) : Statement (.vaddA x0 x1 x2) := site_of_wf _
theorem vmulA (x0) (x1) (x2) : Statement (.vmulA x0 x1 x2) := site_of_wf _
theorem vfmaA (x0) (x1) (x2) : Statement (.vfmaA x0 x1 x2) := site_of_wf _
theorem viadd (x0) (x1) (x2) : Statement (.viadd x0 x1 x2) := site_of_wf _
theorem visub (x0) (x1) (x2) : Statement (.visub x0 x1 x2) := site_of_wf _
theorem vimul (x0) (x1) (x2) : Statement (.vimul x0 x1 x2) := site_of_wf _
theorem vand (x0) (x1) (x2) : Statement (.vand x0 x1 x2) := site_of_wf _
theorem vor (x0) (x1) (x2) : Statement (.vor x0 x1 x2) := site_of_wf _
theorem vxor (x0) (x1) (x2) : Statement (.vxor x0 x1 x2) := site_of_wf _
theorem vshl (x0) (x1) (x2) : Statement (.vshl x0 x1 x2) := site_of_wf _
theorem vshr (x0) (x1) (x2) : Statement (.vshr x0 x1 x2) := site_of_wf _
theorem vsra (x0) (x1) (x2) : Statement (.vsra x0 x1 x2) := site_of_wf _
theorem vimin (x0) (x1) (x2) : Statement (.vimin x0 x1 x2) := site_of_wf _
theorem vimax (x0) (x1) (x2) : Statement (.vimax x0 x1 x2) := site_of_wf _
theorem vcvtF2i (x0) (x1) (x2) : Statement (.vcvtF2i x0 x1 x2) := site_of_wf _
theorem vcvtI2f (x0) (x1) (x2) : Statement (.vcvtI2f x0 x1 x2) := site_of_wf _
theorem vunpk (x0) (x1) (x2) : Statement (.vunpk x0 x1 x2) := site_of_wf _
theorem ocvt (x0) (x1) (x2) : Statement (.ocvt x0 x1 x2) := site_of_wf _
theorem vcmpEq (x0) (x1) (x2) : Statement (.vcmpEq x0 x1 x2) := site_of_wf _
theorem vcmpLt (x0) (x1) (x2) : Statement (.vcmpLt x0 x1 x2) := site_of_wf _
theorem vcmpLe (x0) (x1) (x2) : Statement (.vcmpLe x0 x1 x2) := site_of_wf _
theorem vcmpUn (x0) (x1) (x2) : Statement (.vcmpUn x0 x1 x2) := site_of_wf _
theorem vicmpEq (x0) (x1) (x2) : Statement (.vicmpEq x0 x1 x2) := site_of_wf _
theorem vicmpLt (x0) (x1) (x2) : Statement (.vicmpLt x0 x1 x2) := site_of_wf _
theorem vicmpLtu (x0) (x1) (x2) : Statement (.vicmpLtu x0 x1 x2) := site_of_wf _
theorem vmand (x0) (x1) (x2) : Statement (.vmand x0 x1 x2) := site_of_wf _
theorem vmor (x0) (x1) (x2) : Statement (.vmor x0 x1 x2) := site_of_wf _
theorem vmxor (x0) (x1) (x2) : Statement (.vmxor x0 x1 x2) := site_of_wf _
theorem vrsum (x0) (x1) (x2) : Statement (.vrsum x0 x1 x2) := site_of_wf _
theorem vrmax (x0) (x1) (x2) : Statement (.vrmax x0 x1 x2) := site_of_wf _
theorem vrmin (x0) (x1) (x2) : Statement (.vrmin x0 x1 x2) := site_of_wf _
theorem vrargmax (x0) (x1) (x2) : Statement (.vrargmax x0 x1 x2) := site_of_wf _
theorem vlut (x0) (x1) (x2) : Statement (.vlut x0 x1 x2) := site_of_wf _
theorem sample (x0) (x1) (x2) : Statement (.sample x0 x1 x2) := site_of_wf _
theorem vext (x0) (x1) (x2) : Statement (.vext x0 x1 x2) := site_of_wf _
theorem vfrd (x0) (x1) (x2) : Statement (.vfrd x0 x1 x2) := site_of_wf _
theorem vfclr (x0) (x1) (x2) (x3) : Statement (.vfclr x0 x1 x2 x3) := site_of_wf _
theorem vldq (x0) (x1) (x2) : Statement (.vldq x0 x1 x2) := site_of_wf _
theorem vldqP (x0) (x1) (x2) : Statement (.vldqP x0 x1 x2) := site_of_wf _
theorem vstq (x0) (x1) (x2) : Statement (.vstq x0 x1 x2) := site_of_wf _
theorem vstqP (x0) (x1) (x2) : Statement (.vstqP x0 x1 x2) := site_of_wf _
theorem vldb (x0) (x1) (x2) : Statement (.vldb x0 x1 x2) := site_of_wf _
theorem vldbX (x0) (x1) (x2) : Statement (.vldbX x0 x1 x2) := site_of_wf _
theorem vldh (x0) (x1) (x2) : Statement (.vldh x0 x1 x2) := site_of_wf _
theorem sld (x0) (x1) (x2) : Statement (.sld x0 x1 x2) := site_of_wf _
theorem sst (x0) (x1) (x2) : Statement (.sst x0 x1 x2) := site_of_wf _
theorem steeringCycle (x0) (x1) (x2) : Statement (.steeringCycle x0 x1 x2) := site_of_wf _
theorem messageRelease (x0) (x1) (x2) : Statement (.messageRelease x0 x1 x2) := site_of_wf _
theorem pondSpill (x0) (x1) (x2) : Statement (.pondSpill x0 x1 x2) := site_of_wf _
theorem pondRefill (x0) (x1) (x2) (x3) : Statement (.pondRefill x0 x1 x2 x3) := site_of_wf _
theorem pondRefillDone (x0) (x1) (x2) : Statement (.pondRefillDone x0 x1 x2) := site_of_wf _
theorem sluiceWriteArrival (x0) (x1) (x2) (x3) : Statement (.sluiceWriteArrival x0 x1 x2 x3) := site_of_wf _
theorem sluiceWriteLand (x0) (x1) (x2) : Statement (.sluiceWriteLand x0 x1 x2) := site_of_wf _
theorem sluiceAnswerArrival (x0) (x1) (x2) : Statement (.sluiceAnswerArrival x0 x1 x2) := site_of_wf _
theorem batchFill (x0) : Statement (.batchFill x0) := site_of_wf _
theorem batchHeaderWrite (x0) : Statement (.batchHeaderWrite x0) := site_of_wf _
theorem inputWindowReadDone (x0) (x1) : Statement (.inputWindowReadDone x0 x1) := site_of_wf _
theorem streamEntryFetchDone (x0) (x1) : Statement (.streamEntryFetchDone x0 x1) := site_of_wf _
theorem pointerBlockArrival (x0) (x1) (x2) : Statement (.pointerBlockArrival x0 x1 x2) := site_of_wf _
theorem headraceSkip (x0) (x1) : Statement (.headraceSkip x0 x1) := site_of_wf _
theorem unknownCommand (x0) (x1) : Statement (.unknownCommand x0 x1) := site_of_wf _
theorem planLoad (x0) (x1) (x2) (x3) (x4) (x5) (x6) : Statement (.planLoad x0 x1 x2 x3 x4 x5 x6) := site_of_wf _
theorem planLoadDone (x0) : Statement (.planLoadDone x0) := site_of_wf _
theorem planUnload (x0) : Statement (.planUnload x0) := site_of_wf _
theorem planUnloadDone (x0) : Statement (.planUnloadDone x0) := site_of_wf _
theorem ctxAssign (x0) (x1) : Statement (.ctxAssign x0 x1) := site_of_wf _
theorem cfgStageRemap (x0) (x1) (x2) : Statement (.cfgStageRemap x0 x1 x2) := site_of_wf _
theorem cfgStageReefRange (x0) (x1) (x2) (x3) : Statement (.cfgStageReefRange x0 x1 x2 x3) := site_of_wf _
theorem cfgStageVouch (x0) (x1) (x2) : Statement (.cfgStageVouch x0 x1 x2) := site_of_wf _
theorem cfgStageAudit (x0) (x1) (x2) (x3) : Statement (.cfgStageAudit x0 x1 x2 x3) := site_of_wf _
theorem cfgStageGeometry (x0) (x1) (x2) (x3) (x4) : Statement (.cfgStageGeometry x0 x1 x2 x3 x4) := site_of_wf _
theorem cfgCommit (x0) (x1) (x2) : Statement (.cfgCommit x0 x1 x2) := site_of_wf _
theorem weightDigest (x0) (x1) : Statement (.weightDigest x0 x1) := site_of_wf _
theorem digestPassStart : Statement (.digestPassStart) := site_of_wf _
theorem digestRegionDone (x0) (x1) (x2) : Statement (.digestRegionDone x0 x1 x2) := site_of_wf _
theorem ctxAbort (x0) : Statement (.ctxAbort x0) := site_of_wf _
theorem ctxAbortDone (x0) : Statement (.ctxAbortDone x0) := site_of_wf _
theorem ctxQuery (x0) : Statement (.ctxQuery x0) := site_of_wf _
theorem ctxStart (x0) : Statement (.ctxStart x0) := site_of_wf _
theorem ctxPause (x0) : Statement (.ctxPause x0) := site_of_wf _
theorem ctxResume (x0) : Statement (.ctxResume x0) := site_of_wf _
theorem ctxDrain (x0) (x1) : Statement (.ctxDrain x0 x1) := site_of_wf _
theorem streamOpen (x0) (x1) (x2) (x3) (x4) (x5) (x6) : Statement (.streamOpen x0 x1 x2 x3 x4 x5 x6) := site_of_wf _
theorem streamStep (x0) (x1) (x2) (x3) (x4) (x5) (x6) (x7) (x8) : Statement (.streamStep x0 x1 x2 x3 x4 x5 x6 x7 x8) := site_of_wf _
theorem streamCancel (x0) (x1) (x2) : Statement (.streamCancel x0 x1 x2) := site_of_wf _
theorem streamTruncate (x0) (x1) (x2) (x3) : Statement (.streamTruncate x0 x1 x2 x3) := site_of_wf _
theorem streamEvict (x0) (x1) (x2) : Statement (.streamEvict x0 x1 x2) := site_of_wf _
theorem streamEvictDone (x0) : Statement (.streamEvictDone x0) := site_of_wf _
theorem streamRestore (x0) (x1) (x2) : Statement (.streamRestore x0 x1 x2) := site_of_wf _
theorem streamRestoreDone (x0) (x1) : Statement (.streamRestoreDone x0 x1) := site_of_wf _
theorem streamClose (x0) (x1) (x2) : Statement (.streamClose x0 x1 x2) := site_of_wf _
theorem streamQuery (x0) (x1) : Statement (.streamQuery x0 x1) := site_of_wf _
theorem ringEnable (x0) (x1) (x2) : Statement (.ringEnable x0 x1 x2) := site_of_wf _
theorem ringDisable (x0) (x1) (x2) : Statement (.ringDisable x0 x1 x2) := site_of_wf _
theorem hostAllowanceWrite (x0) : Statement (.hostAllowanceWrite x0) := site_of_wf _
theorem resetReqQuadFast (x0) (x1) : Statement (.resetReqQuadFast x0 x1) := site_of_wf _
theorem resetReqQuadFull (x0) (x1) : Statement (.resetReqQuadFull x0 x1) := site_of_wf _
theorem resetReqChip (x0) : Statement (.resetReqChip x0) := site_of_wf _
theorem fwStage (x0) : Statement (.fwStage x0) := site_of_wf _
theorem ownerSet (x0) : Statement (.ownerSet x0) := site_of_wf _
theorem fwUpdateDone (x0) : Statement (.fwUpdateDone x0) := site_of_wf _
theorem registerWrite (x0) (x1) (x2) (x3) : Statement (.registerWrite x0 x1 x2 x3) := site_of_wf _
theorem bar2Read (x0) (x1) (x2) : Statement (.bar2Read x0 x1 x2) := site_of_wf _
theorem bar2Write (x0) (x1) (x2) (x3) : Statement (.bar2Write x0 x1 x2 x3) := site_of_wf _
theorem pfFlr : Statement (.pfFlr) := site_of_wf _
theorem vfFlr (x0) : Statement (.vfFlr x0) := site_of_wf _
theorem hotReset : Statement (.hotReset) := site_of_wf _
theorem pcieLinkDown : Statement (.pcieLinkDown) := site_of_wf _
theorem d3hotToD0 (x0) : Statement (.d3hotToD0 x0) := site_of_wf _
theorem perstNRise : Statement (.perstNRise) := site_of_wf _
theorem perstNFall : Statement (.perstNFall) := site_of_wf _
theorem pwrEnRise (x0) : Statement (.pwrEnRise x0) := site_of_wf _
theorem powerUpComplete : Statement (.powerUpComplete) := site_of_wf _
theorem powerSeqTimeout : Statement (.powerSeqTimeout) := site_of_wf _
theorem pwrEnFall : Statement (.pwrEnFall) := site_of_wf _
theorem thermtrip (x0) : Statement (.thermtrip x0) := site_of_wf _
theorem slotIdChange (x0) : Statement (.slotIdChange x0) := site_of_wf _
theorem memoryModuleInsert (x0) (x1) : Statement (.memoryModuleInsert x0 x1) := site_of_wf _
theorem osfpCableInsert (x0) (x1) : Statement (.osfpCableInsert x0 x1) := site_of_wf _
theorem osfpCableRemove (x0) : Statement (.osfpCableRemove x0) := site_of_wf _
theorem chipControllerStart (x0) : Statement (.chipControllerStart x0) := site_of_wf _
theorem ddrTrainingDone (x0) (x1) : Statement (.ddrTrainingDone x0 x1) := site_of_wf _
theorem zeroingDone (x0) : Statement (.zeroingDone x0) := site_of_wf _
theorem fullDressingDone (x0) (x1) : Statement (.fullDressingDone x0 x1) := site_of_wf _
theorem eFloorMeasured (x0) : Statement (.eFloorMeasured x0) := site_of_wf _
theorem readinessDecision (x0) (x1) : Statement (.readinessDecision x0 x1) := site_of_wf _
theorem tempSample (x0) : Statement (.tempSample x0) := site_of_wf _
theorem brakePtrPoll (x0) (x1) (x2) : Statement (.brakePtrPoll x0 x1 x2) := site_of_wf _
theorem brakeRecordTimeout : Statement (.brakeRecordTimeout) := site_of_wf _
theorem trayAllowanceSet (x0) : Statement (.trayAllowanceSet x0) := site_of_wf _
theorem pldmOwnerKey (x0) : Statement (.pldmOwnerKey x0) := site_of_wf _
theorem pldmFwUpdate (x0) : Statement (.pldmFwUpdate x0) := site_of_wf _
theorem romRecoveryUpdate (x0) : Statement (.romRecoveryUpdate x0) := site_of_wf _
theorem fabricManifestReceive (x0) : Statement (.fabricManifestReceive x0) := site_of_wf _
theorem manifestApply : Statement (.manifestApply) := site_of_wf _
theorem returnNonce : Statement (.returnNonce) := site_of_wf _
theorem returnNonceExpire : Statement (.returnNonceExpire) := site_of_wf _
theorem returnUnlock (x0) : Statement (.returnUnlock x0) := site_of_wf _
theorem getVersion (x0) : Statement (.getVersion x0) := site_of_wf _
theorem getCapabilities (x0) : Statement (.getCapabilities x0) := site_of_wf _
theorem negotiateAlgorithms (x0) (x1) (x2) : Statement (.negotiateAlgorithms x0 x1 x2) := site_of_wf _
theorem getDigests (x0) : Statement (.getDigests x0) := site_of_wf _
theorem getCertificate (x0) (x1) (x2) (x3) : Statement (.getCertificate x0 x1 x2 x3) := site_of_wf _
theorem challenge (x0) (x1) (x2) : Statement (.challenge x0 x1 x2) := site_of_wf _
theorem getMeasurements (x0) (x1) (x2) (x3) : Statement (.getMeasurements x0 x1 x2 x3) := site_of_wf _
theorem doeAbort : Statement (.doeAbort) := site_of_wf _
theorem trngHealthFail : Statement (.trngHealthFail) := site_of_wf _
theorem avdinWritePacket (x0) (x1) : Statement (.avdinWritePacket x0 x1) := site_of_wf _
theorem avdinAnswerPacket (x0) (x1) : Statement (.avdinAnswerPacket x0 x1) := site_of_wf _
theorem avdinControlPacket (x0) (x1) : Statement (.avdinControlPacket x0 x1) := site_of_wf _
theorem avdinMgmtPacket (x0) (x1) : Statement (.avdinMgmtPacket x0 x1) := site_of_wf _
theorem brakeFlitReceive (x0) : Statement (.brakeFlitReceive x0) := site_of_wf _
theorem linkRetryTimeout (x0) : Statement (.linkRetryTimeout x0) := site_of_wf _
theorem codewordLockLoss (x0) : Statement (.codewordLockLoss x0) := site_of_wf _
theorem linkTrainingDone (x0) (x1) : Statement (.linkTrainingDone x0 x1) := site_of_wf _
theorem portRetryTimer (x0) : Statement (.portRetryTimer x0) := site_of_wf _
theorem berWindowEnd (x0) (x1) (x2) : Statement (.berWindowEnd x0 x1 x2) := site_of_wf _
theorem scrubRead (x0) (x1) : Statement (.scrubRead x0 x1) := site_of_wf _
theorem moduleTempRead (x0) (x1) : Statement (.moduleTempRead x0 x1) := site_of_wf _
theorem deadlinePassed (x0) (x1) (x2) : Statement (.deadlinePassed x0 x1 x2) := site_of_wf _
theorem snapshotSiteCapture (x0) : Statement (.snapshotSiteCapture x0) := site_of_wf _
theorem engineResetDone (x0) (x1) : Statement (.engineResetDone x0 x1) := site_of_wf _
theorem replayEnd (x0) : Statement (.replayEnd x0) := site_of_wf _
theorem lateResume (x0) : Statement (.lateResume x0) := site_of_wf _
theorem hwCheckWatchEnd (x0) : Statement (.hwCheckWatchEnd x0) := site_of_wf _
theorem dressWatchEnd (x0) (x1) : Statement (.dressWatchEnd x0 x1) := site_of_wf _
theorem diagnosisEnd (x0) : Statement (.diagnosisEnd x0) := site_of_wf _
theorem replacementCopyDone (x0) (x1) (x2) : Statement (.replacementCopyDone x0 x1 x2) := site_of_wf _
theorem quadResetDone (x0) (x1) (x2) : Statement (.quadResetDone x0 x1 x2) := site_of_wf _
theorem resetEscalate (x0) (x1) : Statement (.resetEscalate x0 x1) := site_of_wf _
theorem qcHeartbeatMiss (x0) : Statement (.qcHeartbeatMiss x0) := site_of_wf _
theorem hubWatchdogExpire : Statement (.hubWatchdogExpire) := site_of_wf _
theorem cycleReqTimeout : Statement (.cycleReqTimeout) := site_of_wf _
theorem broadcastReceipt (x0) (x1) (x2) : Statement (.broadcastReceipt x0 x1 x2) := site_of_wf _
theorem broadcastActivate (x0) : Statement (.broadcastActivate x0) := site_of_wf _
theorem wearDayEnd : Statement (.wearDayEnd) := site_of_wf _
theorem wearLogWrite : Statement (.wearLogWrite) := site_of_wf _
theorem d3hotEntry (x0) : Statement (.d3hotEntry x0) := site_of_wf _
theorem marchPassDone (x0) (x1) : Statement (.marchPassDone x0 x1) := site_of_wf _
theorem hubLockstep : Statement (.hubLockstep) := site_of_wf _

end Sys2Proof.Laws.WellFormed
end

