-- ==== Sys2Proof/Laws/Results.lean ====
section
/-! SUPPORT. Bundles whose one result lands in a register: what the site holds then (R120, R126). -/

namespace Sys2Proof.Machine

/-- One result in flight from a lone bundle that goes on in sequence: what the module is after the bundle. -/
theorem State.issueAt_later (s : State) (i lat rank : Nat) (b : Bundle) (res : Result) (hr : s.canIssue i = true)
    (hs : ((s.site i).clocked (s.issueCycle i)).stalls (s.issueCycle i) b.exch = false)
    (hb : ((s.site i).clocked (s.issueCycle i)).slots5 (s.issueCycle i) b Checks.clean =
      (((((s.site i).clocked (s.issueCycle i)).later (s.issueCycle i + lat) rank res).finish (s.issueCycle i) .fall).clocked
        (s.issueCycle i + 1), [])) :
    Moved s (s.issueAt i b Checks.clean) i ∧
      (s.issueAt i b Checks.clean).site i =
        { s.site i with seq := { (s.site i).seq with
            clock := s.issueCycle i + 1, pc := (s.site i).seq.pc + 1, next := s.issueCycle i + 1
            landings := [{ at_ := s.issueCycle i + lat, rank := rank, res := res }] } } := by
  obtain ⟨h1, h2, h3, h4, h5⟩ := (s.canIssue_iff i).mp hr
  obtain ⟨hl, hf, hw, hre, hlo⟩ := (s.site i).idle_iff.mp h5
  have hfin := Site.finish_fall (((s.site i).clocked (s.issueCycle i)).later (s.issueCycle i + lat) rank res)
    (s.issueCycle i) h1 hlo
  rw [hfin] at hb
  have hiss := (s.site i).issue_idle s.turn.geom.work b Checks.clean h1 h2 h3 h4 h5 hs
  rw [State.issueCycle] at hb
  rw [hb] at hiss
  obtain ⟨hx, ho⟩ := s.issueAt_lone i b _ hiss rfl rfl rfl
  have e : (s.issueAt i b Checks.clean).site i =
        { s.site i with seq := { (s.site i).seq with
            clock := s.issueCycle i + 1, pc := (s.site i).seq.pc + 1, next := s.issueCycle i + 1
            landings := [{ at_ := s.issueCycle i + lat, rank := rank, res := res }] } } := by
    rw [hx]
    simp [Site.clocked, Site.later, hl, State.issueCycle]
  refine ⟨⟨ho, ?_, ?_, ?_⟩, e⟩
  · rw [e]
  · rw [e]
  · rw [e]; exact h1

/-- The site as the result of such a bundle lands. -/
theorem State.seen_later (s t : State) (i lat rank : Nat) (res : Result) (hr : s.canIssue i = true) (hlat : 1 ≤ lat)
    (hrank : rank < 5)
    (ht : t.site i = { s.site i with seq := { (s.site i).seq with
            clock := s.issueCycle i + 1, pc := (s.site i).seq.pc + 1, next := s.issueCycle i + 1
            landings := [{ at_ := s.issueCycle i + lat, rank := rank, res := res }] } }) :
    t.seen i (s.issueCycle i + lat) =
      (({ s.site i with seq := { (s.site i).seq with
            clock := s.issueCycle i + lat, pc := (s.site i).seq.pc + 1, next := s.issueCycle i + 1
            landings := [{ at_ := s.issueCycle i + lat, rank := rank, res := res }] } } : Site).apply
        res).landed := by
  obtain ⟨h1, h2, h3, h4, h5⟩ := (s.canIssue_iff i).mp hr
  obtain ⟨hl, hf, hw, hre, hlo⟩ := (s.site i).idle_iff.mp h5
  unfold State.seen
  rw [Site.seen_one (t.site i) (s.issueCycle i + lat) { at_ := s.issueCycle i + lat, rank := rank, res := res }
    (by rw [ht]) (by rw [ht]; exact hf) (by rw [ht]; exact hw) (by rw [ht]; exact hre) (by rw [ht]; simp only; omega) rfl hrank]
  have hset : ∀ a : Site, ({ at_ := s.issueCycle i + lat, rank := rank, res := res } : Landing).settled a
      [{ at_ := s.issueCycle i + lat, rank := rank, res := res }] = res := by
    intro a
    cases res <;> simp [Landing.settled]
  rw [hset, ht]
  rfl

theorem Site.sreg_setS (a : Site) (r q : Nat) (v : Word) : (a.setS r v).sreg q = if q = r then v else a.sreg q := by
  by_cases h : q = r
  · subst h; simp [Site.sreg, Site.setS, alook_aset_self]
  · simp [Site.sreg, Site.setS, h, alook_aset_ne _ _ _ _ h]; rfl

theorem Site.preg_setP (a : Site) (r q : Nat) (v : Bool) :
    (a.setP r v).preg q = if q = 0 then true else if q = r then v else a.preg q := by
  by_cases h0 : r = 0
  · subst h0
    by_cases hq : q = 0
    · simp [Site.preg, hq]
    · simp [Site.setP, hq]
  · by_cases h : q = r
    · subst h; simp [Site.preg, Site.setP, h0, alook_aset_self]
    · by_cases hq : q = 0
      · simp [Site.preg, hq]
      · simp [Site.preg, Site.setP, h0, h, hq, alook_aset_ne _ _ _ _ h]

theorem Site.setP_rest (a : Site) (r : Nat) (v : Bool) :
    (a.setP r v).landed = { a with seq := (a.setP r v).landed.seq } := by
  simp only [Site.setP]; split <;> rfl

/-- A lone operation whose result is a scalar register. -/
theorem State.writesS (s : State) (i r lat rank : Nat) (c : Instr) (b : Bundle) (v : Word)
    (he : exec c s = .next (s.issueAt i b Checks.clean)) (hr : s.canIssue i = true) (hlat : 1 ≤ lat) (hrank : rank < 5)
    (hs : ((s.site i).clocked (s.issueCycle i)).stalls (s.issueCycle i) b.exch = false)
    (hb : ((s.site i).clocked (s.issueCycle i)).slots5 (s.issueCycle i) b Checks.clean =
      (((((s.site i).clocked (s.issueCycle i)).later (s.issueCycle i + lat) rank (.s r v)).finish (s.issueCycle i)
        .fall).clocked (s.issueCycle i + 1), [])) : WritesS s i c r lat v := by
  obtain ⟨hm, ht⟩ := s.issueAt_later i lat rank b _ hr hs hb
  have h5 := ((s.canIssue_iff i).mp hr).2.2.2.2
  obtain ⟨hl, -⟩ := (s.site i).idle_iff.mp h5
  refine ⟨_, he, hm, ?_⟩
  have hseen := s.seen_later _ i lat rank (.s r v) hr hlat hrank ht
  simp only [hseen]
  refine ⟨?_, ?_, ?_, ?_, ?_⟩
  · exact (Site.sreg_setS _ r r v).trans (if_pos rfl)
  · intro q hq; exact (Site.sreg_setS _ r q v).trans (if_neg hq)
  · intro q; rfl
  · intro q; rfl
  · rfl

/-- A lone operation whose result is a predicate. -/
theorem State.writesP (s : State) (i r rank : Nat) (c : Instr) (b : Bundle) (v : Bool)
    (he : exec c s = .next (s.issueAt i b Checks.clean)) (hr : s.canIssue i = true) (hrank : rank < 5)
    (hs : ((s.site i).clocked (s.issueCycle i)).stalls (s.issueCycle i) b.exch = false)
    (hb : ((s.site i).clocked (s.issueCycle i)).slots5 (s.issueCycle i) b Checks.clean =
      (((((s.site i).clocked (s.issueCycle i)).later (s.issueCycle i + 1) rank (.p r v)).finish (s.issueCycle i)
        .fall).clocked (s.issueCycle i + 1), [])) : WritesP s i c r v := by
  obtain ⟨hm, ht⟩ := s.issueAt_later i 1 rank b _ hr hs hb
  refine ⟨_, he, hm, ?_⟩
  have hseen := s.seen_later _ i 1 rank (.p r v) hr (Nat.le_refl 1) hrank ht
  simp only [hseen]
  refine ⟨?_, ?_, ?_, ?_, ?_⟩
  · refine (Site.preg_setP _ r r v).trans ?_
    by_cases h : r = 0 <;> simp [h]
  · intro q hq
    refine (Site.preg_setP _ r q v).trans ?_
    by_cases h : q = 0
    · simp [h, Site.preg]
    · simp [h, hq]; rfl
  · intro q; show Site.sreg (Site.setP _ r v).landed q = _
    simp only [Site.setP]; split <;> rfl
  · intro q; show Site.kreg (Site.setP _ r v).landed q = _
    simp only [Site.setP]; split <;> rfl
  · exact Site.setP_rest _ r v

end Sys2Proof.Machine
end

