-- ==== Sys2Proof/Tests/Slice0.lean ====
section
/-! SUPPORT. Tests of single commands, and for each statement a state and operands that meet its premises. The expected
results are worked out from the spec's tables and rules. -/

open Sys2Proof Sys2Proof.Machine

namespace Sys2Proof.Tests

set_option Elab.async false

/-! ### States that the tests start from -/

/-- A device in cycle 4000 of the work window of turn 100. -/
def base : State := { State.reset with turn := { Turn.reset with running := true, window := .work, no := 100, cycle := 4000 } }

/-- Tile 5 of quadrant 0 about to issue bundle 3 in work cycle 20, every bank powered and NARROW but banks 2 and 3, WIDE. -/
def tile (f : Site → Site) : State :=
  base.modSite 5 (fun a => f { a with
    role := .live, ctx := some 0, gtile := 5
    seq := { a.seq with status := .running, pc := 3, clock := 20, next := 20, s := [(1, 7), (2, 0xFFFFFFFE), (5, 0x10040)],
                        k := [(1, 2)], p := [(2, true)] }
    bank := { a.bank with own := 0xAAAAAAAAAAAAAA5A, old := 0xAAAAAAAAAAAAAA5A, mask := 0xFFFFFFFF } })

/-- The state that a command answers with. -/
def after (c : Instr) (s : State) : State :=
  match exec c s with
  | .next t => t
  | _ => s

/-- Sixty-four lanes that hold `f`. -/
def lanes (f : Nat → Word) : List Lane := (List.range 64).map (fun l => ⟨f l, false⟩)

/-- A mask field that leaves every lane active. -/
def allLanes : VMask := { mask := 0, minv := 0 }

/-- The tile with V1 holding 1.0 in every lane, V2 holding 2.0, and V3 its lane number, poisoned in lane 9. -/
def vecs : State := tile (fun a => { a with vec := { a.vec with v :=
  [(1, lanes (fun _ => 0x3F800000)), (2, lanes (fun _ => 0x40000000)),
   (3, (List.range 64).map (fun l => ⟨BitVec.ofNat 32 l, l == 9⟩))], vm := [(1, 0x0F)] } })

/-! ### Decoding and well-formedness -/

/-- Table 4.3: SUB is 0x02 in bits 55 to 48, with GUARD, SD, SA and SB below it. -/
theorem test_decode_sub : decodeScalar (0x02 * 2 ^ 48 + 5 * 2 ^ 44 + 31 * 2 ^ 39 + 1 * 2 ^ 34 + 2 * 2 ^ 29) =
    some (.alu .sub { g := 5, sd := 31, sa := 1, sb := 2 }) := by decide

/-- Table 4.3: opcode 0 is NOP, and its other bits must be 0 (R118). -/
theorem test_decode_nop : decodeScalar 0 = some .nop ∧ decodeScalar 1 = none := by decide

/-- The wide word of a bundle that holds only NOPs is 0 (R118). -/
theorem test_decode_nops : decodeBundle 0 = some Bundle.nops ∧ encodeBundle Bundle.nops = 0 := by decide

/-- The five slots stand at the bits of Table 4.1. -/
theorem test_slot_places : decodeBundle (0x01#256 <<< 48) = some { Bundle.nops with scal := .alu .add { g := 0, sd := 0, sa := 0, sb := 0 } } := by
  decide

/-- A site beyond the 2,304, a fifth quadrant, a function beyond 4 and a reserved format code are not well-formed. -/
theorem test_wf_refuses : (Instr.nop 2304 .vector .clean).wf = false ∧ (Instr.snapshotSiteCapture 4).wf = false ∧
    (Instr.d3hotEntry 5).wf = false ∧ (Instr.mldw 0 { g := 0, wb := 0, fmt := 7, sa := 0 } .clean).wf = false ∧
    (Instr.ownr 0 { g := 0, first := 31, count := 2, code := 1 } .clean).wf = false := by decide

theorem test_wf_accepts : (Instr.nop 2303 .vector .clean).wf = true ∧ (Instr.snapshotSiteCapture 3).wf = true ∧
    (Instr.d3hotEntry 4).wf = true ∧ (Instr.mldw 0 { g := 0, wb := 0, fmt := 6, sa := 0 } .clean).wf = true ∧
    (Instr.ownr 0 { g := 0, first := 31, count := 1, code := 1 } .clean).wf = true := by decide

/-! ### The scalar and control slot -/

/-- The premises of the statements about one slot operation. -/
theorem test_witness_issue : (tile id).canIssue 5 = true ∧ ((tile id).site 5).guard 0 = true ∧ ((tile id).site 5).guard 4 = true ∧
    ((tile id).site 5).guard 5 = false ∧ ((tile id).site 5).guard 1 = false := by decide

theorem test_add_wraps : ((after (.sAdd 5 { g := 0, sd := 3, sa := 1, sb := 2 } .clean) (tile id)).seen 5 21).sreg 3 = 5 := by decide

theorem test_mulhu_latency :
    let t := after (.sMulhu 5 { g := 0, sd := 1, sa := 1, sb := 2 } .clean) (tile id)
    (t.seen 5 21).sreg 1 = 7 ∧ (t.seen 5 22).sreg 1 = 6 := by decide

theorem test_sra_uses_low_bits :
    ((after (.sSra 5 { g := 0, sd := 3, sa := 2, sb := 1 } .clean) (tile id)).seen 5 21).sreg 3 = 0xFFFFFFFF := by decide

theorem test_cmp_signed_and_unsigned :
    ((after (.cmpLt 5 { g := 0, pd := 1, sa := 2, sb := 1 } .clean) (tile id)).seen 5 21).preg 1 = true ∧
    ((after (.cmpLtu 5 { g := 0, pd := 1, sa := 2, sb := 1 } .clean) (tile id)).seen 5 21).preg 1 = false := by decide

theorem test_p0_keeps_true :
    ((after (.cmpEq 5 { g := 0, pd := 0, sa := 2, sb := 1 } .clean) (tile id)).seen 5 21).preg 0 = true := by decide

theorem test_shift_immediate_premise : (31 : Word).toNat < 32 ∧ (0 : Word).toNat < 32 := by decide

/-- CALL at bundle 3 puts 4 into S31 (R127). -/
theorem test_call : let t := after (.call 5 { g := 0, target := 900 } .clean) (tile id)
    (t.site 5).seq.pc = 900 ∧ (t.seen 5 21).sreg 31 = 4 := by decide

theorem test_loop_zero_skips : ((after (.loopi 5 { g := 0, kn := 1, count := 0, end_ := 9 } .clean) (tile id)).site 5).seq.pc = 10 := by
  decide

/-- A NOP at the END bundle of a loop with counter 2 begins it again with 1 (R129). -/
theorem test_loop_repeats :
    let s := tile (fun a => { a with seq := { a.seq with loops := [{ kn := 1, start := 2, end_ := 3 }] } })
    let t := after (.nop 5 .scalar .clean) s
    (t.site 5).seq.pc = 2 ∧ (t.seen 5 21).kreg 1 = 1 := by decide

/-- The premises of the loop statements: a NOP at an END bundle; a stack of eight; a counter in use. -/
theorem test_witness_loops :
    ((tile id).site 5).seq.pc = (LoopEntry.mk 1 2 3).end_ ∧ ((tile id).site 5).sreg 1 ≠ 0 ∧
    8 ≤ ((List.range 8).map (fun k => LoopEntry.mk (k + 2) 2 9)).length ∧ (LoopEntry.mk 1 2 9).kn = (1 : BitVec 4).toNat := by decide

/-- A ninth entry stops the site with LOOP_STACK, detail 8 (Table 4.9). -/
theorem test_loop_stack_full :
    let s := tile (fun a => { a with seq := { a.seq with loops := (List.range 8).map (fun k => LoopEntry.mk (k + 2) 2 9) } })
    let t := after (.loopi 5 { g := 0, kn := 1, count := 3, end_ := 9 } .clean) s
    (t.site 5).seq.status = .stopped 20 ∧ (t.site 5).faults.map (fun e => (e.cause, e.detail, e.pc)) = [(.bankClash, 8, 3)] := by
  decide

theorem test_idle_waits : ((after (.idle 5 { g := 0, n := 3 } .clean) (tile id)).site 5).seq.next = 24 := by decide

/-- WAITC at or before the next cycle issues at once (R137). -/
theorem test_waitc_past : ((after (.waitc 5 { g := 0, n := 21 } .clean) (tile id)).site 5).seq.status = .running := by decide

theorem test_endwork : ((after (.endwork 5 0 .clean) (tile id)).site 5).seq.status = .ended 20 := by decide

/-- The premises of the statement about a false guard, for each slot that has one. -/
theorem test_witness_false_guard :
    let b := fun (c : Instr) => c.bundle?.getD Bundle.nops
    let off := fun (g : Guard) => ((tile id).site 5).guard g
    (Instr.endwork 5 1 .clean).site? = some 5 ∧ off (scalarGuard (b (.endwork 5 1 .clean)).scal) = false ∧
    off (exchGuard (b (.tpush 5 { g := 1, tq := 0, sa := 0 } .clean)).exch) = false ∧
    off (matGuard (b (.mmul 5 { g := 1, wb := 0, mode := 0, row0 := 0 } .clean)).mat) = false ∧
    off (lsGuard (b (.sld 5 { g := 1, sd := 0, sa := 0, off := 0 } .clean)).ls) = false ∧
    (b (.endwork 5 1 .clean)).vec = .nop := by decide

theorem test_false_guard_is_nop : ((after (.endwork 5 1 .clean) (tile id)).site 5).seq.status = .running := by decide

/-- The premises of BUNDLE_FETCH and WAIT_EXPIRE: the fetched bundle is one that a plan may hold. -/
theorem test_witness_fetch : decodeBundle ((tile id).site 5).fetched = some Bundle.nops ∧ Bundle.nops.legal = true ∧
    ((tile (fun a => { a with seq := { a.seq with status := .waiting 20 } })).site 5).seq.status = .waiting 20 := by decide

theorem test_fetch_uncorrectable :
    let t := after (.bundleFetch 5 { Checks.clean with ecc := .uncorrectable }) (tile id)
    (t.site 5).seq.status = .stopped 20 ∧ (t.site 5).faults.map (fun e => e.cause) = [.eccUe] := by decide

/-- Premises of SWITCH: a slot still loading, a held skid item, and neither; of OWNR: a bank OFF, and none. -/
theorem test_witness_slots_and_owners :
    let loading := (tile (fun a => { a with slots := [(1, { CfgSlot.empty with readyAt := 100 })] })).site 5
    let held := (tile (fun a => { a with ex := { a.ex with skids := [(0, { data := [.word 1], ctrl := [] })] } })).site 5
    let calm := fun (b : Site) => (({ b with seq := { b.seq with clock := 20 } } : Site).steerCycle 20).site.skidsEmpty
    20 < (loading.cfg 1).readyAt ∧ calm held = false ∧ (held.cfg 1).readyAt ≤ 20 ∧
    (((tile id).site 5).cfg 1).readyAt ≤ 20 ∧ calm ((tile id).site 5) = true ∧
    ((tile (fun a => { a with bank := { a.bank with mask := 0xFFFFFFF0 } })).site 5).bank.mask.toNat.testBit 3 = false ∧
    ((tile id).site 5).bank.from_ ≤ 20 ∧ (∀ k, k < 32 → ((tile id).site 5).bank.mask.toNat.testBit k = true) := by decide

theorem test_ownr : let t := after (.ownr 5 { g := 0, first := 4, count := 2, code := 3 } .clean) (tile id)
    (t.site 5).owner 4 20 = 2 ∧ (t.site 5).owner 4 21 = 3 ∧ (t.site 5).owner 5 21 = 3 ∧ (t.site 5).owner 6 21 = 2 := by decide

theorem test_switch : let t := after (.switchSlot 5 { g := 0, slot := 2, entry := 700 } .clean) (tile id)
    (t.site 5).seq.pc = 700 ∧ (t.site 5).slotAt 20 = 0 ∧ (t.site 5).slotAt 21 = 2 := by decide

/-- The premises of RELOAD: bank 2 WIDE, the trailer's bank NARROW, and slot 0 in execution. -/
theorem test_witness_reload : ((tile id).site 5).slotAt 20 = 0 ∧ ((tile id).site 5).owner 2 20 = ownWide ∧
    ((tile id).site 5).owner (bankOf (4 * 1024)) 20 = ownNarrow ∧ ((tile id).site 5).bank.from_ = 0 := by decide

theorem test_reload_busy : ((after (.reload 5 { g := 0, slot := 0, bank := 2, trailer := 4 } .clean) (tile id)).site 5).faults.map
    (fun e => e.detail) = [4] := by decide

/-- The owners that RELOAD and MLDW need hold in every later cycle. -/
theorem test_witness_owners_stay : ∀ c, 20 ≤ c →
    ((tile id).site 5).owner 2 c = ownWide ∧ ((tile id).site 5).owner 0 c = ownNarrow := by
  intro c _
  have h : ((tile id).site 5).bank.from_ = 0 := by decide
  simp only [Site.owner, h, Nat.not_lt_zero, if_false]
  decide

/-! ### The vector slot -/

/-- The premises of the vector statements; a mask field that is neither "all" nor "none". -/
theorem test_witness_vector : vecs.canIssue 5 = true ∧ (vecs.site 5).active { mask := 1, minv := 1 } 3 = false ∧
    (vecs.site 5).active { mask := 1, minv := 1 } 4 = true ∧ ElemFmt.ofCode 4 = some .e5m2 := by decide

/-- 1.0 + 2.0 = 3.0 in lane 63, readable four cycles after issue. -/
theorem test_vadd :
    let t := after (.vadd 5 { m := allLanes, vd := 4, va := 1, vb := 2, vc := 0, bs := 0, cs := 0 } .clean) vecs
    (laneAt ((t.seen 5 24).vreg 4) 63) = ⟨0x40400000, false⟩ ∧ (laneAt ((t.seen 5 23).vreg 4) 63) = laneAt ((vecs.site 5).vreg 4) 63 := by
  decide

/-- An inactive lane keeps its content, and poison goes with the lane that carries it (R149, R108). -/
theorem test_vmov_mask_poison :
    let t := after (.vmov 5 { m := { mask := 1, minv := 0 }, vd := 1, va := 3, vb := 0, vc := 0, bs := 0, cs := 0 } .clean) vecs
    laneAt ((t.seen 5 24).vreg 1) 3 = ⟨3, false⟩ ∧ laneAt ((t.seen 5 24).vreg 1) 4 = ⟨0x3F800000, false⟩ := by decide

theorem test_vmov_keeps_poison :
    (laneAt (((after (.vmov 5 { m := allLanes, vd := 1, va := 3, vb := 0, vc := 0, bs := 0, cs := 0 } .clean) vecs).seen 5 24).vreg 1) 9).poison =
      true := by decide

/-- 2^31 multiplies to 0 modulo 2^32 with an even factor (Table 5.6). -/
theorem test_vimul : (laneAt (((after (.vimul 5 { m := allLanes, vd := 4, va := 2, vb := 3, vc := 0, bs := 0, cs := 0 } .clean) vecs).seen 5 24).vreg 4) 4).bits =
    0 := by decide

/-- The least subnormal of FP8 E5M2 is 2^−16 (Table 6.1). -/
theorem test_unpack : (unpack .e5m2 1).1 = 0x37800000 := by decide

/-- 1/0 is +Inf (Table 5.7); the square root of a negative number is the canonical NaN with NV. -/
theorem test_functions : (frcp 0).1 = 0x7F800000 ∧ (fsqrt 0xC0800000) = (0x7FC00000, 16) ∧ (fsqrt 0x40800000).1 = 0x40000000 ∧
    (flog2 0x3F800000) = (0, 0) := by decide +kernel

/-- Philox4x32-10 with counter and key 0 (the generator's published first word). -/
theorem test_philox : philox 0 0 0 0 0 0 0 = 0x6627e8d5 := by decide +kernel

theorem test_witness_ocvt : ElemFmt.ofCode 3 = some .e4m3 ∧ ((2 : BitVec 2).toNat % 2 = 0) ∧
    (∀ l, l < 64 → (laneAt ((vecs.site 5).vreg 1) l).poison = false) := by decide

/-- FP8 E4M3 of 2.0 × 1.0 + 0 is 0x40 (Table 6.1). -/
theorem test_ocvt : let t := after (.ocvt 5 ⟨allLanes, 6, 0, 2, 1, 0, 0, 3, 1, 0, 0, 1, 1, 0⟩ .clean) vecs
    (laneAt ((t.seen 5 24).vreg 6) 16).bits = 0x40404040 := by decide +kernel

theorem test_witness_masks :
    (∀ l, l < 64 → (laneAt ((vecs.site 5).vreg 1) l).poison = false ∧ (laneAt ((vecs.site 5).vreg 2) l).poison = false) ∧
    (vecs.site 5).active allLanes 9 = true ∧ (laneAt ((vecs.site 5).vreg 3) 9).poison = true ∧ allLanes = ⟨0, 0⟩ := by decide

theorem test_vcmp : ((after (.vcmpLt 5 { m := { mask := 1, minv := 0 }, vmd := 2, va := 1, vb := 2, bs := 0 } .clean) vecs).seen 5 24).vmreg 2 =
    0x0F := by decide

theorem test_vcmp_poison_stops : ((after (.vicmpEq 5 { m := allLanes, vmd := 2, va := 3, vb := 1, bs := 0 } .clean) vecs).site 5).faults.map
    (fun e => e.cause) = [.poison] := by decide

theorem test_vmxor : ((after (.vmxor 5 { m := allLanes, vmd := 2, vma := 1, na := 1, vmb := 0, nb := 0 } .clean) vecs).seen 5 24).vmreg 2 =
    0x0F := by decide

/-- The premises of the reductions, and of VRARGMAX with a number, with a NaN, and with no active lane. -/
theorem test_witness_reductions :
    let m : VMask := { mask := 1, minv := 0 }
    let none_ : VMask := { mask := 2, minv := 0 }
    let s := tile (fun a => { a with vec := { a.vec with v := [(1, lanes (fun l => if l = 2 then 0x7FC00000 else 0x3F800000))],
                                                         vm := [(1, 0x0F), (2, 0)] } })
    let a := fun (l : Nat) => laneAt ((s.site 5).vreg 1) l
    ¬ (m.mask = 0 ∧ m.minv = 1) ∧ (∀ l, l < 64 → (a l).poison = false) ∧ (s.site 5).active m 2 = true ∧ (dec32 (a 2).bits).isNan = true ∧
    (dec32 (a 0).bits).isNan = false ∧ (dec32 (a 1).bits).isNan = false ∧ (∀ l, l < 64 → (s.site 5).active none_ l = false) ∧
    maxLess (a 0).bits (a 1).bits = false ∧ (∀ l, l < 64 → (s.site 5).active m l = true → l < 4) := by decide

theorem test_vrargmax : let t := after (.vrargmax 5 { m := allLanes, vd := 4, va := 2 } .clean) vecs
    (laneAt ((t.seen 5 24).vreg 4) 0).bits = 0x40000000 ∧ (laneAt ((t.seen 5 24).vreg 4) 1).bits = 0 := by decide +kernel

/-- The premises of VEXT with a clean lane, a poisoned one, and an inactive one. -/
theorem test_witness_vext : (vecs.site 5).active allLanes 63 = true ∧ (laneAt ((vecs.site 5).vreg 3) 63).poison = false ∧
    (laneAt ((vecs.site 5).vreg 3) 9).poison = true ∧ (vecs.site 5).active { mask := 1, minv := 0 } 63 = false := by decide

theorem test_vext : ((after (.vext 5 { m := allLanes, sd := 9, va := 3, lane := 63 } .clean) vecs).seen 5 24).sreg 9 = 63 := by decide

theorem test_vfclr : let s := tile (fun a => { a with vec := { a.vec with flags := [(0, 3), (7, 16)], vm := [(1, 1)] } })
    let t := (after (.vfclr 5 { mask := 1, minv := 0 } 0 .clean) s).seen 5 24
    t.laneFlags 0 = 0 ∧ t.laneFlags 7 = 16 := by decide

/-! ### The load/store slot -/

/-- The tile with a scratchpad word at 0x10040 of bank 2's neighbour: S5 names it, in a NARROW or a WIDE bank, clean or poisoned. -/
def words (poisoned : List Nat) (own : DWord) : State := tile (fun a => { a with
  scr := { cells := [(0x10040, 0x80), (0x10041, 1)], poisoned := poisoned }, bank := { a.bank with own := own } })

/-- The premises of the loads and stores: a NARROW bank, a clean and a poisoned word, and a bank that is not NARROW. -/
theorem test_witness_accesses :
    let a := fun (s : State) => (s.site 5).vecAddr 5 0
    let own := fun (s : State) => (s.site 5).owner (bankOf (a s)) 20
    let s := words [0x401] 0xAAAAAAAAAAAAAAAA
    a s = 0x10040 ∧ (s.site 5).scalarAddr 5 0 = 0x10040 ∧ own s = ownNarrow ∧ (s.site 5).scr.poison64 0x10040 = true ∧
    ((words [] 0xAAAAAAAAAAAAAAAA).site 5).scr.poison64 0x10040 = false ∧ own (words [] 0xAAAAAAAAAAAAAA9A) ≠ ownNarrow := by decide

theorem test_sld : ((after (.sld 5 { g := 0, sd := 8, sa := 5, off := 0 } .clean) (words [] 0xAAAAAAAAAAAAAAAA)).seen 5 26).sreg 8 =
    0x180 := by decide

theorem test_vldb_sign : (laneAt (((after (.vldbX 5 { g := 0, vd := 8, q := 0, sa := 5, off := 0 } .clean) (words [] 0xAAAAAAAAAAAAAAAA)).seen 5 26).vreg 8) 0).bits =
    0xFFFFFF80 := by decide

theorem test_load_owner : ((after (.sld 5 { g := 0, sd := 8, sa := 5, off := 0 } .clean) (words [] 0xAAAAAAAAAAAAAA9A)).site 5).faults.map
    (fun e => (e.cause, e.detail)) = [(.bankClash, 1)] := by decide

theorem test_sst : let t := after (.sst 5 { g := 0, sd := 2, sa := 5, off := 1 } .clean) (words [] 0xAAAAAAAAAAAAAAAA)
    (t.site 5).scr.byte 0x10044 = 0xFE ∧ (t.site 5).scr.byte 0x10047 = 0xFF ∧ (t.site 5).scr.byte 0x10040 = 0x80 ∧
    (t.site 5).scr.byte 0x10048 = 0 ∧ (t.site 5).scr.wf = true := by decide

/-- The post-increment adds S[SB] after the access (Table 5.10). -/
theorem test_post_increment :
    let t := (after (.vldqP 5 { g := 0, vd := 8, q := 0, sa := 5, sb := 1 } .clean) (words [] 0xAAAAAAAAAAAAAAAA)).seen 5 26
    t.sreg 5 = 0x10047 ∧ (laneAt (t.vreg 8) 0).bits = 0x180 := by decide

/-! ### The matrix slot -/

theorem test_witness_weight_load :
    let s := tile (fun a => { a with mat := { a.mat with wb1 := { block := none, readable := 30 } } })
    ElemFmt.ofCode 5 = some .int8 ∧ (s.site 5).mat.lastWide ≤ 20 ∧ 20 < ((s.site 5).mat.wb 1).readable ∧
    ((s.site 5).mat.wb 0).readable ≤ 20 ∧ (s.site 5).groupAddr 5 = 0x10000 ∧ bankOf 0x10000 = 2 ∧ bankOf 0x10300 = 2 := by decide

theorem test_mldw_busy : let s := tile (fun a => { a with mat := { a.mat with wb1 := { block := none, readable := 30 } } })
    ((after (.mldw 5 { g := 0, wb := 1, fmt := 5, sa := 5 } .clean) s).site 5).faults.map (fun e => e.detail) = [12] := by decide

theorem test_witness_stream : ElemFmt.ofCode 2 = some .bf16 ∧ ((tile id).site 5).owner (bankOf 0x10000) 20 = ownWide ∧
    ((words [] 0xAAAAAAAAAAAAAAAA).site 5).owner (bankOf 0x10000) 20 ≠ ownWide := by decide

/-- The premises of FEED_TIMING: a fetched stream whose MMUL did not come by the ninth cycle. -/
def lone : Feed :=
  { start := 12, fmt := .int8, rows := 1, addr := 0x10000, stride := 256, mmul := none
    groups := [{ bytes := List.replicate 256 1, poison := false, ok := true }] }

theorem test_witness_feed_timing :
    let s := tile (fun a => { a with seq := { a.seq with next := 21 }, mat := { a.mat with feeds := [lone] } })
    lone.mmul = none ∧ lone.groups.length = lone.groupCount ∧ (s.site 5).seq.landings = [] ∧ (s.site 5).mat.loads = [] ∧
    (s.site 5).reload = none ∧ (s.site 5).seq.status = .running ∧ (s.site 5).seq.clock ≤ lone.start + 9 ∧
    lone.start + 9 ≤ s.issueCycle 5 := by decide

theorem test_mmul_without_stream : ((after (.mmul 5 { g := 0, wb := 0, mode := 0, row0 := 0 } .clean) (tile id)).site 5).faults.map
    (fun e => e.detail) = [13] := by decide

/-- A tile whose stream of one INT8 row of ones meets a block of ones. -/
def product : State := tile (fun a => { a with mat := { a.mat with
  feeds := [lone], wb0 := { block := some { fmt := .int8, bytes := List.replicate 1024 1, poison := false }, readable := 20 } } })

theorem test_witness_multiply :
    product.atIssue 5 = true ∧ (product.site 5).seq.clock = product.issueCycle 5 ∧ lone.start + 8 = product.issueCycle 5 ∧
    lone.rows ≤ rowsPerGroup lone.fmt ∧ 0 < lone.rows ∧ ((product.site 5).mat.wb 0).readable ≤ 20 ∧ paired .int8 lone.fmt = true ∧
    ((product.site 5).accRow 511).pLo = false := by decide

/-- MMUL takes the stream armed eight cycles before it, and one row's dot product of ones is 32 (R155, R192). -/
theorem test_mmul : let t := after (.mmul 5 { g := 0, wb := 0, mode := 0, row0 := 511 } .clean) product
    (t.site 5).seq.status = .running ∧ (t.site 5).mat.feeds.map (fun x => x.mmul.map (fun m => (m.at_, m.row0))) = [some (20, 511)] ∧
    ((List.range 32).map (fun k => (byteAt (List.replicate 32 1) k).toInt *
      (Block.mk .int8 (List.replicate 1024 1) false).weightInt k 31)).sum = 32 := by decide +kernel

/-! ### The exchange slot, steering, messages -/

/-- A plan with one tile, tile 5, one DDR region and one sluice of that tile. -/
def hdr1 : PlanHeader :=
  { imageId := 0x4758504C, major := 1, minor := 0, bytes := 512, units := 0, quads := 1, gearings := 1, devices := 1, stage := 0
    tiles := 1, mMin := 64, mMax := 1024, closeMin := 0, flags := 2, reefMap := [0, 0, 0, 0], gearPeriod := 1, batchOffset := 0
    sections := 0, sectionOff := 0, shape := [], digest := []
    descs := [{ activeTiles := 1, batch := 4, stageTurns := 1, interval := 1, crossings := 0, bankMask := 0xFFFFFFFF, eFull := 0,
                eIdle := 0, ddrUnits := 0, avdinBytes := 0, workCycles := 0, sectionMask := 0 }] }

def tile5 : PlanTile :=
  { tile := 5, slots := [], image := [], folds := [], descBase := 0, ponds := [], entries := [{ gearing := 0, slot := 2, bundle := 40 }]
    groups := [{ gearing := 0, no := 3, members := [5] }] }

def sluice9 : SluiceDecl := { planQuad := 0, no := 9, owner := 5, base := 0x8000, bytes := 256, sources := 3, stageRef := 0, cls := .turnLocal }

def batch1 : BatchDecl :=
  { rx := [5], inputSpan := 4, outTile := 5, outOffset := 0, returnTurns := 1, kvRegion := 0, kvPosBytes := 256, kvBytes := 4096 }

def plan1 : Plan :=
  { hdr := hdr1, manifest := [{ offset := 0, bytes := 0, fmt := 0, digest := [] }]
    body := { tiles := [tile5], regions := [{ tile := none, base := 0x200000000, bytes := 4096, cls := some .append, use := .plain, pair := none }]
              sluices := [sluice9], batches := [batch1], crossings := [], links := [], tileRates := [], shapes := []
              stageSum := [], workTargets := [], pairs := [] } }

/-- Context 0 RUNNING with that plan on quadrant 0. -/
def ctx0 : Ctx := { Ctx.reset with
  state := .running, plan := some plan1, quads := [0], usable := [0], reefMap := [0, 0, 0, 0], gen := 1, home := 0 }

/-- The issuing tile in a context that runs. -/
def run (f : Site → Site) : State := { tile f with ctxs := [(0, ctx0)] }

theorem test_witness_sends : (run id).canIssue 5 = true ∧ ((run id).site 5).ctx = some 0 ∧ ((run id).site 5).injHeld 20 + 8 ≤ 64 ∧
    64 < ((run (fun a => { a with ex := { a.ex with injUnits := 64, injAt := 20 } })).site 5).injHeld 20 + 1 ∧
    (run id).members 5 (.group 3) = [5] ∧ (run id).siteOfTile ctx0 5 = some 5 ∧ (run id).siteOfTile ctx0 511 = some 511 := by decide

/-- No quadrant of the test's states is in reset. -/
theorem test_witness_quads : ∀ q, ((run id).quad q).recState = .normal := fun _ => rfl

/-- SEND.S to tile 7 of the sender's quadrant: one unit, 48 cycles later (R52, R139). -/
theorem test_send : let t := after (.sendS 5 { g := 0, dq := 0, dtile := 7, hop := 1, ssrc := 0, tag := 9 } .clean) (run id)
    (t.site 7).ex.pad.map (fun f => (f.toTile, f.hop, f.msg.tag, f.msg.pinned, f.msg.units.map (fun u => leAt u.bytes 4 4))) =
      [(7, 1, 9, 68, [7])] := by decide

/-- A message of two units at the head of hopper 1, the first clean or poisoned. -/
def mail (p : Bool) : Message :=
  { units := [⟨List.replicate 64 1, p⟩, ⟨List.replicate 64 2, false⟩], tag := 4, source := .tile 0, visible := 20, pinned := 20 }

def mailed (p : Bool) : State := run (fun a => a.setHopper 1 { Hopper.empty with msgs := [mail p] })

theorem test_witness_receive : ((mailed false).site 5).hopper 1 = { Hopper.empty with msgs := [mail false] } ∧ (mail false).visible ≤ 20 ∧
    (mail false).units.length ≤ 8 ∧ 1 ≤ (mail false).units.length ∧ ((run id).site 5).hopper 0 = Hopper.empty ∧
    Hopper.empty.head 20 = none ∧ ((mail true).units.head?.map (fun u => u.poison)) = some true ∧
    ((mail false).units.head?.map (fun u => u.poison)) = some false ∧ (mailed false).canIssue 5 = true := by decide

theorem test_recv : let t := after (.recvV 5 { g := 0, d := 30, sst := 3, hop := 1 } .clean) (mailed false)
    (t.seen 5 22).sreg 3 = 0x402 ∧ (laneAt ((t.seen 5 22).vreg 30) 16).bits = 0x02020202 := by decide

theorem test_recv_stalls : let t := after (.recvV 5 { g := 0, d := 0, sst := 3, hop := 0 } .clean) (run id)
    (t.site 5).seq.pc = 3 ∧ (t.site 5).seq.stalls = 1 ∧ (t.quad 0).recvStalls = 1 := by decide

/-- Token queue 1 with one visible word, queue 2 full, queue 3 with a word that is not visible yet, and 64 descriptors. -/
def queued : State := run (fun a => { a with ex := { a.ex with
  tq := [(1, [⟨77, 20⟩]), (2, List.replicate 16 ⟨0, 0⟩), (3, [⟨5, 21⟩])]
  dmaq := List.replicate 64 { desc := 0, sa := 0, sb := 0, cycle := 0 } } })

theorem test_witness_queues : (queued.site 5).tokens 1 = [⟨77, 20⟩] ∧ 16 ≤ ((queued.site 5).tokens 2).length ∧
    ((queued.site 5).tokens 0).length < 16 ∧ ((queued.site 5).tokens 3).head? = some ⟨5, 21⟩ ∧ 64 ≤ (queued.site 5).dmaHeld ∧
    ((run id).site 5).dmaHeld < 64 ∧ queued.canIssue 5 = true := by decide

theorem test_tpop : let t := after (.tpop 5 { g := 0, sd := 8, tq := 1 } .clean) queued
    (t.site 5).tokens 1 = [] ∧ (t.seen 5 22).sreg 8 = 77 := by decide

theorem test_tpop_empty : ((after (.tpop 5 { g := 0, sd := 8, tq := 3 } .clean) queued).site 5).faults.map (fun e => e.detail) = [9] := by
  decide

/-- A steering entry that moves the words of queue 1 to queue 0. -/
def mover : SteerEntry :=
  { dsrc := .tq 1, csrc := none, shift := 0, act0 := .a, act1 := .drop, act2 := .drop, act3 := .drop, outA := .tq 0, payA := 0
    outB := .none, payB := 0, tag := 0, const := 0 }

def steering : State := run (fun a => { a with
  seq := { a.seq with next := 21 }
  slots := [(0, { CfgSlot.empty with steer := [(0, BitVec.ofNat 128 (encodeSteer mover))] })]
  ex := { a.ex with tq := [(1, [⟨77, 20⟩])] } })

theorem test_witness_steering : steering.turn.window = .work ∧ (steering.site 5).issuedPast 20 = true ∧
    (steering.site 5).steerEntries 20 = [(0, mover)] ∧ (steering.site 5).seq.status ≠ .off ∧
    (steering.site 5).ex.steer ≤ 20 ∧ 20 < steering.turn.geom.work ∧ (steering.site 5).ex.steerOff = false ∧
    steerAction mover mover.const = .a ∧ (steering.site 5).skid 0 = Skid.empty ∧ (steering.site 5).tokens 1 = [⟨77, 20⟩] ∧
    ((steering.site 5).tokens 0).length < 15 := by decide +kernel

theorem test_steering : ((after (.steeringCycle 5 20 none) steering).site 5).tokens 0 = [⟨77, 21⟩] := by decide +kernel

/-- A message in the pad buffer, a hopper with a waiting message, a full pond, a spilled message and a refill under way. -/
def flying : Flight := { toTile := 5, hop := 1, order := 0, msg := mail false }

/-- A later message of another sender, which may be released before it (R225), and one of the same sender, which may not (R54). -/
def other (g : Nat) : Flight := { flying with order := 7, msg := { mail false with source := .tile g, pinned := 25 } }

def padded : State := run (fun a => { a with ex := { a.ex with pad := [flying] } })

def spilled : PondEntry := { pos := 0, len := 2, tag := 4, source := .tile 0, poison := [false, false], skip := false, spillEnd := 19 }

def pond : Hopper := { Hopper.empty with pondBase := 0x10000, pondUnits := 8, waiting := [mail false] }

theorem test_witness_ponds :
    nextFlight (padded.site 5).ex.pad 1 0 = some flying ∧ nextFlight [flying, other 3] 1 1 = some (other 3) ∧
    nextFlight [flying, other 0] 1 1 = none ∧ ((padded.site 5).hopper 1).failed = false ∧
    (padded.site 5).padRoom 2 = true ∧ Hopper.empty.inOrder 20 0 = true ∧
    ({ Hopper.empty with relAt := 21, relOrder := 1 } : Hopper).inOrder 20 0 = false ∧
    pond.tidy 20 = pond ∧ pond.wpos < pond.pondUnits ∧ pond.wpos + 2 ≤ pond.pondUnits ∧ pond.pondFree 20 pond.wpos 2 = true ∧
    pond.entries 20 < 1024 ∧ pond.pondBase % 64 = 0 ∧ (∀ u ∈ (mail false).units, u.bytes.length = 64) ∧
    ({ pond with index := [{ spilled with len := 8 }] } : Hopper).spillAt 20 2 = none ∧
    ({ pond with index := [spilled], waiting := [] } : Hopper).room 20 spilled.len = true ∧ spilled.spillEnd < 20 := by decide

/-- No refill or spill on the port; a spill in progress; a refill in progress; and one that has become visible. -/
theorem test_witness_pond_ports :
    let s := fun (h : Hopper) => (run (fun a => a.setHopper 1 h)).site 5
    let r : Refill := { msg := mail false, start := 10, lastRead := 11, pos := 0, len := 2 }
    (s pond).refillEnd ≤ 20 ∧ (s pond).spillEnd ≤ 20 ∧ 18 < (s { pond with index := [spilled] }).spillEnd ∧
    11 < (s { pond with refills := [r] }).refillEnd ∧ ((s { pond with refills := [r] }).hopper 1).refills = [r] ∧
    r.lastRead + 7 ≤ 18 := by decide

theorem test_release : ((after (.messageRelease 5 1 0) padded).site 5).hopper 1 =
    { Hopper.empty with msgs := [mail false], relAt := 21, relOrder := 0 } := by decide

/-- A late message that the pond takes counts once, when its spill begins (R230). -/
theorem test_late_spill : let t := after (.pondSpill 5 1 21) (run (fun a => a.setHopper 1 pond))
    (t.quad 0).padLate = 1 ∧ (t.site 5).ex.late = true := by decide +kernel

theorem test_spill : let t := after (.pondSpill 5 1 20) (run (fun a => a.setHopper 1 pond))
    (t.site 5).scr.byte 0x10000 = 1 ∧ (t.site 5).scr.byte 0x10040 = 2 ∧ (t.site 5).scr.byte 0x10080 = 0 ∧
    ((t.site 5).hopper 1).waiting = [] ∧ ((t.site 5).hopper 1).index.map (fun e => (e.pos, e.len, e.spillEnd)) = [(0, 2, 21)] := by decide +kernel

/-! ### DMA engines and sluices -/

/-- The descriptor of a read of 256 bytes from the plan's DDR region into scratchpad address 0x10000, in bytes (Table 4.7). -/
def descBytes (op : Byte) : List Byte :=
  [op, 1, 7, 0] ++ leBytes 4 0x10000 ++ leBytes 4 256 ++ leBytes 2 1 ++ leBytes 2 0 ++ leBytes 8 0 ++ leBytes 4 256 ++ leBytes 4 0

/-- The tile with that descriptor as the oldest of its queue. -/
def asked (op : Byte) : State := run (fun a => { a with
  seq := { a.seq with next := 21 }
  scr := a.scr.write 0 (descBytes op), ex := { a.ex with dmaq := [{ desc := 0, sa := 0, sb := 0, cycle := 20 }] } })

theorem test_witness_descriptor :
    let at_ := fun (op : Byte) => (((asked op).upToCycle 5 20).site 5).touch 20 0
    let d := fun (op : Byte) => (at_ op).desc 0
    (asked 1).turn.window = .work ∧ (asked 1).dmaServed 5 20 = true ∧ (asked 1).dmaServed 5 30 = false ∧
    (at_ 1).ex.dmaq = [{ desc := 0, sa := 0, sb := 0, cycle := 20 }] ∧ (at_ 1).ctx = some 0 ∧ (d 1).op = 1 ∧ (d 1).ok plan1 0 (d 1).scratch (d 1).farBase = true ∧ (d 0).ok plan1 0 (d 0).scratch (d 0).farBase = false ∧
    ((asked 1).ctx 0).plan = some plan1 ∧ ((asked 1).site 5).ctx = some 0 := by decide +kernel

/-- A transfer from that descriptor, and one of a sluice write to sluice 9. -/
def xfer1 : Transfer :=
  { id := 0, quadGen := 0, ctxGen := 1, desc := 0
    d := { op := 1, hopper := 1, tag := 7, scratch := 0x10000, rowBytes := 256, rows := 1, farRegion := 0, farBase := 0, stride := 256, dest := 0 }
    scratch := 0x10000, far := 0, cls := .ddr, turn := 100, pkt := 0, word := 0, sent := 0, answered := 0, status := 0, bytes := 0
    nackOff := 0, nackClosed := 0, nackReset := 0, violation := none, silent := false, tokenSent := false }

def xfer2 : Transfer := { xfer1 with id := 1, d := { xfer1.d with op := 3, farRegion := 9, dest := 5 }, cls := .sameQuad }

def entry9 : SluiceEntry :=
  { ctx := 0, ctxGen := 1, quadGen := 0, sources := 3, srcPos := 0, pipeline := 0, planQuad := 0, owner := 5, no := 9, bytes := 256
    base := 0x8000, admitted := 0, nackClosed := 0, nackViolation := 0, nackBankOff := 0 }

/-- The tile with both transfers, its banks WIDE but bank 1 REMOTE, and the sluice armed. -/
def moving : State :=
  { run (fun a => { a with seq := { a.seq with next := 31 }, bank := { a.bank with own := 0x555555555555555D }, ex := { a.ex with xfers := [xfer1, xfer2] } }) with
    quads := [(0, { Quad.reset with sluices := [(4, entry9)] })] }

theorem test_witness_ddr_transfer :
    let a := (moving.upToCycle 5 30).site 5
    moving.dmaServed 5 30 = true ∧ (moving.site 5).turnTo 0 = true ∧ a.xfer 0 = some xfer1 ∧ a.ctx = some 0 ∧ plan1.body.regions[xfer1.d.farRegion]? = plan1.body.regions.head? ∧ xfer1.scratch % 128 = 0 ∧
    xfer1.d.rowBytes % 128 = 0 ∧ xfer1.d.total / 128 = 2 ∧
    (∀ k, k < 2 → moving.dmaAccess 5 a (xfer1.scratch + 128 * k) 30 = .ok ∧
      (moving.eccOf 0 ((0x200000000 + 128 * k) / 128) []).lost = false) := by
  decide +kernel

/-- The sluice admits the word, in intake's map of the sluice table's entry 4; beyond its 256 bytes it is a violation. -/
theorem test_witness_sluice :
    let j := fun (off : Nat) => moving.judge 0 0 5 9 off 30 .same (.inl 0)
    (moving.site 5).xfer 1 = some xfer2 ∧ xfer2.word < xfer2.d.words ∧ moving.dmaAccess 5 (moving.site 5) xfer2.scratch 30 = .ok ∧
    (moving.site 5).turnTo 1 = true ∧ moving.dmaServed 5 30 = true ∧ moving.writeWaits 0 0 9 0 (.inl 0) = false ∧
    (moving.ctx 0).quads[xfer2.d.dest % 2048 / 512]? = some 0 ∧ xfer2.quadGen = (moving.quad 0).gen ∧ xfer2.ctxGen = (moving.ctx 0).gen ∧
    j 0 = .allow 4 ∧ (j 256).answer.isSome = true ∧ (moving.quad 0).sluices.find? (fun z => z.1 == 4) = some (4, entry9) := by
  decide +kernel

theorem test_sluice_arrival : let t := after (.sluiceWriteArrival 5 1 30 none) moving
    (t.site 5).ex.writes.map (fun w => (w.addr, w.fromSite, w.poison)) = [(0x8000, 5, false)] ∧
    ((t.site 5).xfer 1).map (fun x => (x.word, x.sent)) = some (1, 1) := by decide +kernel

/-- An admitted write, and the answer to one. -/
def write9 : SluiceWrite := { addr := 0x8000, bytes := List.replicate 64 3, poison := false, fromSite := 5, entry := 4, xfer := 1 }

def landing : State := run (fun a => { a with
  seq := { a.seq with next := 31 }
  bank := { a.bank with draining := [1] }
  ex := { a.ex with xfers := [xfer2], writes := [write9], answers := [{ xfer := 1, status := 1, cond := 4, off := 256 }] } })

theorem test_witness_landing :
    (landing.site 5).ex.writes.find? (fun z => bankOf z.addr == 1) = some write9 ∧ write9.addr % 64 = 0 ∧ write9.bytes.length = 64 ∧
    write9.fromSite < fromPort ∧ (landing.site 5).ex.answers.find? (fun z => z.xfer == 1) = some { xfer := 1, status := 1, cond := 4, off := 256 } ∧
    (landing.site 5).xfer 1 = some xfer2 ∧ xfer2.status = 0 ∧
    (let u := landing.upToCycle 5 30; u.portWrites (u.site 5) 1 30 = true ∧ u.portWrites (u.site 5) 1 31 = false) := by decide

theorem test_land : let t := after (.sluiceWriteLand 5 1 30) landing
    (t.site 5).scr.byte 0x803F = 3 ∧ (t.site 5).scr.byte 0x8040 = 0 ∧ (t.site 5).ex.writes = [] := by decide +kernel

theorem test_answer_violation : let t := after (.sluiceAnswerArrival 5 1 30) landing
    (t.site 5).faults.map (fun e => e.cause) = [.sluiceViolation] ∧ (t.site 5).seq.status = .running := by decide +kernel

/-- A transfer to another device with words sent and not answered; a bank that drains, with a write and without one. -/
theorem test_witness_deadline :
    let z : Transfer := { xfer2 with cls := .otherDevice, sent := 4 }
    let s := run (fun a => { a with bank := { a.bank with draining := [1] }, ex := { a.ex with xfers := [z] } })
    let c : State := { s with turn := { base.turn with window := .close } }
    s.turn.window ≠ .close ∧ c.turn.window = .close ∧ (s.site 5).xfer 1 = some z ∧ z.tokenSent = false ∧ z.silent = false ∧ 0 < z.sent ∧
    (s.site 5).bank.draining.contains 1 = true ∧ (s.site 5).ex.writes.any (fun w => bankOf w.addr == 1) = false ∧
    (landing.site 5).ex.writes.any (fun w => bankOf w.addr == 1) = true := by decide

theorem test_drain_timeout : let t := after (.bankDrainTimeout 5 1) landing
    (t.site 5).ex.writes = [] ∧ t.reef.bankOffDrops = 1 ∧ (t.site 5).ex.answers.length = 2 := by decide

/-! ### The turn -/

/-- A turn in its close window, and the same after a step. -/
def ends : State := { base with turn := { base.turn with window := .close } }

def steps : State := { base with turn := { base.turn with window := .close, stepTurn := true, stepTo := some 500 } }

/-- A turn that ends, one after a step, one in intake, and one in the work window. -/
theorem test_witness_turn :
    let intake : State := { base with turn := { base.turn with window := .intake } }
    ends.turn.running = true ∧ ends.turn.window = .close ∧ ends.turn.stepTurn = false ∧ steps.turn.stepTurn = true ∧
    steps.turn.window = .close ∧ intake.turn.window = .intake ∧ base.turn.running = true ∧ base.turn.window = .work ∧ State.reset.turn.running = false := by decide

theorem test_boundary : let t := after (.turnBoundary 9 48000) ends
    t.turn.no = 101 ∧ t.turn.window = .intake ∧ t.turn.cycle = 0 ∧ t.reef.eMeas = 9 ∧ t.mod.vinMv = 48000 := by decide +kernel

theorem test_step : let t := after (.turnStep 9 48000) steps
    t.turn.no = 500 ∧ t.turn.stepCount = 1 := by decide +kernel

/-- The premises about a tile that starts, and about one that overruns. -/
theorem test_witness_windows :
    let s : State := { run id with turn := { base.turn with window := .intake } }
    let u : State := { run id with ctxs := [(0, { ctx0 with ran := true })] }
    s.turn.running = true ∧ s.turn.window = .intake ∧ u.turn.window = .work ∧ s.runs 0 = true ∧ (s.ctx 0).plan = some plan1 ∧ plan1.body.tiles = [tile5] ∧ s.siteOfTile (s.ctx 0) 5 = some 5 ∧
    (s.site 5).role = .live ∧ (tile5.entries.find? (fun z => z.gearing == (s.ctx 0).gearing)).isSome = true ∧
    (∀ k, k < 16 → k ≠ 0 → s.runs k = false) ∧ u.ctxSites 0 = [5] ∧ (u.ctx 0).ran = true ∧ (u.site 5).seq.status = .running := by
  decide +kernel

/-- A context that the state does not list does not run. -/
theorem test_witness_others_idle : ∀ k, k ≠ 0 → (run id).ctx k = Ctx.reset := by
  intro k hk
  have : (run id).ctxs = [(0, ctx0)] := by decide
  simp [State.ctx, this, aget, Ne.symm hk]

theorem test_work_start : let t := after .workWindowStart { run id with turn := { base.turn with window := .intake } }
    (t.site 5).seq.pc = 40 ∧ (t.site 5).seq.slot = 2 ∧ t.turn.cycle = 2048 ∧ (t.ctx 0).ran = true := by decide +kernel

theorem test_overrun : let t := after .dressingWindowStart { run id with ctxs := [(0, { ctx0 with ran := true })] }
    (t.site 5).faults.map (fun e => e.cause) = [.turnOverrun] ∧ t.turn.window = .dressing ∧ t.turn.overrunTurns = 1 := by decide +kernel

/-- Marks on an up port: of another geometry, too far, in step, out of step; holdover; and a master's key that is old. -/
def mark1 : Mark :=
  { turnLow := 100, geometry := base.turn.geom.word, priority := 3, pos := 9, hops := 96, offset := 0, aligned := true }

def linked : State := { base with avdin := { base.avdin with ports := [(0, { Port.reset with state := .up })] } }

theorem test_witness_marks :
    let late : State := { base with turn := { base.turn with locked := true, sinceMark := 8 } }
    let old : State := { base with turn := { base.turn with best := some (0, mark1), sinceKey := 64, ownPrio := 2 } }
    linked.carries 0 = true ∧ linked.turn.running = true ∧ mark1.hops ≤ 96 ∧ 96 < ({ mark1 with hops := 97 } : Mark).hops ∧
    0 < mark1.priority ∧ linked.turn.ownPrio = 0 ∧ linked.turn.best = none ∧ mark1.turnLow = linked.turn.no % 65536 ∧
    (0 : BitVec 32) ≠ linked.turn.geom.word ∧ linked.turn.stepTurn = false ∧ ({ mark1 with turnLow := 7 } : Mark).turnLow ≠ linked.turn.no % 65536 ∧
    late.turn.locked = true ∧ late.turn.isMaster = false ∧ 8 ≤ late.turn.sinceMark ∧ old.turn.best.isSome = true ∧
    64 ≤ old.turn.sinceKey ∧ 0 < old.turn.ownPrio := by decide +kernel

theorem test_mark_adopted : let t := after (.turnMarkReceive 0 mark1) linked
    t.turn.locked = true ∧ t.turn.best = some (0, mark1) ∧ t.turn.masterHops = 96 := by decide +kernel

/-- A marked geometry that is not the device's own ends a pending step, and a mark whose TURN_NO differs calls for one (R33, R32). -/
theorem test_marks_and_steps :
    let t := after (.turnMarkReceive 0 { mark1 with turnLow := 7 }) linked
    let u := after (.turnMarkReceive 0 { mark1 with geometry := 0 }) t
    t.turn.stepPending = true ∧ t.turn.locked = false ∧ t.turn.stepTo = some 8 ∧ u.turn.stepPending = false ∧ u.turn.mismatch = true := by
  decide +kernel

/-! ### Change sets and the close -/

def set1 : ChangeSet :=
  { changes := [.vouch 0 false], state := .opened, held := false, lost := false, age := 0, commit := 0 }

/-- A set OPEN; STAGED 4,096 turns ago; COMMITTED for this boundary, held or not; and a governor's switch, held up or not. -/
theorem test_witness_sets :
    let with_ := fun (z : ChangeSet) => ({ run id with sets := [(7, z)], turn := { base.turn with window := .intake, cycle := 0, no := 5000 } } : State)
    let old : ChangeSet := { set1 with state := .staged, age := 4096 }
    let now : ChangeSet := { set1 with state := .committed, commit := 5000, held := true }
    let x : State := { run id with ctxs := [(0, { ctx0 with target := 1 })] }
    alook (with_ set1).sets 7 = some set1 ∧ set1.held = false ∧ 4096 ≤ old.age ∧ (run id).turn.running = true ∧ (run id).turn.window = .work ∧
    now.commit = (with_ now).turn.no ∧ now.lost = false ∧ set1.changes = [.vouch 0 false] ∧ (with_ now).turn.window = .intake ∧ (with_ now).turn.cycle = 0 ∧
    (now.changes.all (fun ch => !(with_ now).needsDrain 7 ch)) = true ∧ ((with_ now).applyAll now.changes).isSome = true ∧
    (run id).needsDrain 7 (.geometry { m := 200, d := 12, c := 32 }) = true ∧ ((run id).applyAll [.remap 9 [5]]).isNone = true ∧
    (x.ctx 0).active = true ∧ (x.ctx 0).target ≠ (x.ctx 0).gearing ∧ alook x.sets 65536 = none ∧ x.ctxBraked 0 = false ∧
    x.heldElsewhere 65536 (.gearing 0 1) = false ∧
    ({ x with sets := [(7, { set1 with changes := [.remap 0 [5]] })] } : State).heldElsewhere 65536 (.gearing 0 1) = true := by
  decide +kernel

theorem test_set_applied :
    let s : State := { run id with sets := [(7, { set1 with state := .committed, commit := 100, held := true })]
                                   turn := { base.turn with window := .intake, cycle := 0 } }
    let t := after (.changeSetApply 7) s
    (t.ctx 0).vouchOn = false ∧ t.sets = [] ∧ t.turn.applied = 1 := by decide +kernel

/-- A reef range applied at its boundary, and a geometry change that needs a drain by then. -/
theorem test_set_kinds :
    let s := fun (ch : Change) => ({ run id with sets := [(7, { set1 with changes := [ch], state := .committed, commit := 100, held := true })]
                                                 turn := { base.turn with window := .intake, cycle := 0 } } : State)
    let t := after (.changeSetApply 7) (s (.reefRange 0 1 2))
    let u := after (.changeSetApply 7) (s (.geometry { m := 200, d := 12, c := 32 }))
    (t.ctx 0).rangeMin = 1 ∧ (t.ctx 0).rangeMax = 2 ∧ u.turn.geom = base.turn.geom ∧ u.turn.discarded = 1 ∧ u.sets = [] := by decide +kernel

/-- The premises of a close without findings, with a clean context and with one whose site raised a plan fault. -/
def closing (f : List SiteFault) : State :=
  { run (fun a => { a with faults := f }) with ctxs := [(0, { ctx0 with ran := true })], turn := { base.turn with window := .dressing } }

def clash1 : SiteFault := { cause := .bankClash, detail := 1, cycle := 30, pc := 4, slot := 0, data := [], service := false }

theorem test_witness_close :
    (closing []).live = true ∧ (closing []).turn.window = .dressing ∧ ((closing []).ctx 0).ran = true ∧ (closing []).digestBad 0 = none ∧
    (closing []).twinCompare 0 = (false, false) ∧ (closing [clash1]).twinCompare 0 = (false, false) ∧
    (closing []).faultsOf 0 = [] ∧ (closing [clash1]).faultsOf 0 = [(5, clash1)] ∧ clash1.cause.isPlan = true ∧
    ((closing [clash1]).ctx 0).state = .running := by decide +kernel

theorem test_close_vouches : let t := after (.closeWindowStart CloseFacts.clean) (closing [])
    (t.ctx 0).turn = 1 ∧ (t.ctx 0).lastVouched = 100 ∧ (t.ctx 0).state = .running := by decide +kernel

theorem test_close_faults : let t := after (.closeWindowStart CloseFacts.clean) (closing [clash1])
    (t.ctx 0).turn = 0 ∧ (t.ctx 0).state = .faulted ∧ t.check.withheld = 1 := by decide +kernel

/-- A watch that ends, with and without a second firing, and a diagnosis that ends. -/
def watch1 (again : Bool) : HwWatch := { site := 5, ctx := 0, cause := .lockstep, event := 1, since := 96, firings := 1, again := again, fabric := false }

def diag1 : Diagnosis := { event := 1, cause := .auditMismatch, started := 96, suspects := [5], auditor := none, firstSuspect := 0, data := [] }

def doubtful (again : Bool) : State :=
  { base with check := { base.check with watches := [watch1 again] }, ctxs := [(0, { ctx0 with diag := some diag1 })] }

theorem test_witness_doubt : (doubtful true).live = true ∧ (doubtful true).check.watch 5 = some (watch1 true) ∧
    (doubtful false).check.watch 5 = some (watch1 false) ∧ (doubtful true).turn.closed (96 + 3) = true ∧
    ((doubtful true).ctx 0).diag = some diag1 ∧ 0 ∈ (doubtful true).mod.order.quads := by decide +kernel

theorem test_hub_lockstep : let t := after .hubLockstep base
    t.check.chipBraked = true ∧ t.mod.dev = .braked ∧ t.mod.brakeN = false := by decide +kernel

/-! ### Commands of the rings -/

/-- A READY device in intake whose PF has a management ring and context 0's ring ACTIVE with four records to read. -/
def ring4 : Ring := { Ring.reset with state := .active, hrLog := 6, trLog := 6, hrProd := 4 }

def host (f : Ctx → Ctx) : State :=
  { run id with
    mod := { Mod.reset with phase := .up, dev := .ready, pgood := true, pwrEn := true, zeroed := true, linkUp := true }
    turn := { base.turn with window := .intake, cycle := 40 }
    fns := [(0, { Fn.reset with ptrBlock := 4096, devBlock := 8192, busMaster := true, polled := some true, rings := [(0, ring4), (1, ring4)] })]
    ctxs := [(0, f ctx0)], ddr := { Ddr.reset with sets := [(0, [0])], cap := [(0, 1)] } }

/-- A record's header in the management ring, and in the ring of context 0. -/
def head (r units : Nat) : CmdHead := { fn := 0, ring := r, units := units, tag := 1, deadline := 0, ctx := 0, rsvd := false, readOk := true }

/-- The shared premises of the commands that are read and not refused. -/
theorem test_witness_reads :
    let s := host id
    s.frame 0 0 2 true = .read ∧ s.frame 0 1 2 true = .read ∧
    (∀ opc, opc ∈ [1, 2, 4, 6, 7, 8] → s.refusal (head 0 2) opc .management true false true = none) ∧
    s.refusal (head 0 2) 5 .management false false true = none ∧ s.refusal (head 0 2) 3 .pfManagement true false true = none ∧
    (∀ opc, opc ∈ [0x10, 0x11, 0x12, 0x13, 0x20, 0x21, 0x22, 0x23, 0x24, 0x25, 0x26, 0x27] →
      s.refusal (head 1 1) opc .context true false true = none) := by decide +kernel

theorem test_witness_contexts :
    let at_ := fun (c : CtxState) => host (fun x => { x with state := c })
    let none_ : Ctx := (host id).ctx 0
    none_.starved = false ∧ (host id).lacksSite 0 = false ∧ none_.marked = false ∧ none_.trans = none ∧
    ((at_ .loaded).ctx 0).state = .loaded ∧ ((host (fun x => { x with starved := true })).ctx 0).starved = true ∧
    ((host (fun _ => Ctx.reset)).ctx 0).state = .empty ∧ (1 ∈ (host id).functions) ∧
    (({ host (fun _ => Ctx.reset) with fns := [(0, { ((host id).fn 0) with rings := [(0, ring4)] })] } : State).ring 0 1).state = .disabled ∧
    (∀ k ∈ [Cause.skewOverflow, .pondFull, .turnOverrun], k = .skewOverflow ∨ k = .pondFull ∨ k = .turnOverrun) ∧
    ((host (fun x => { x with state := .faulted, late := true, causes := [.pondFull] })).ctx 0).lateTried = false := by decide +kernel

theorem test_ctx_start : let s := host (fun x => { x with state := .loaded })
    let t := after (.ctxStart (head 1 1)) s
    (t.ctx 0).trans = some .start ∧ (t.ctx 0).state = .loaded ∧ t.cmds.map (fun c => (c.opc, c.deadline)) = [(0x10, 4096)] ∧
    (t.ring 0 1).hrCons = 1 := by decide +kernel

theorem test_ctx_start_wrong_state : let t := after (.ctxStart (head 1 1)) (host id)
    t.cmds = [] ∧ (t.ring 0 1).wrongState = 1 ∧ (t.ring 0 1).due.map (fun r => r.type) = [1] := by decide +kernel

theorem test_late_resume :
    let s := host (fun x => { x with state := .faulted, prior := .running, late := true, causes := [.pondFull] })
    let t := after (.lateResume 0) s
    (t.ctx 0).state = .running ∧ (t.ctx 0).redo = true ∧ (t.ctx 0).lateTried = true := by decide +kernel

/-- Loads that end well and badly, an unload, an abort of a running and of a loading context, and their ends. -/
theorem test_witness_plans :
    let w : LoadWork := { fn := 0, ring := 0, tag := 1, failed := 0, status := 0 }
    let s := host (fun x => { x with state := .loading, load := some w })
    let going : State := { s with quads := [(0, { Quad.reset with load := { Quad.reset.load with kind := 2, bad := [5] } })] }
    (∃ q ∈ (going.ctx 0).quads, (going.quad q).load.kind = 2 ∧ (going.quad q).load.bad ≠ []) ∧
    (∀ q ∈ (s.ctx 0).quads, (s.quad q).load.kind ≠ 2 ∨ (s.quad q).load.bad = []) ∧
    (s.ctx 0).load = some w ∧ (s.ctx 0).state = .loading ∧ (s.ctx 0).plan = some plan1 ∧
    plan1.body.tiles.filter (fun z => s.siteOfTile (s.ctx 0) z.tile == some 5) = [tile5] ∧
    (host id).imageReadable 0 = false ∧ ((host (fun x => { x with state := .loaded })).ctx 0).unloading = false ∧
    ((host (fun x => { x with unloading := true })).ctx 0).unloading = true ∧
    ((host (fun x => { x with state := .loaded, aborting := true })).ctx 0).aborting = true := by decide +kernel

theorem test_abort : let t := after (.ctxAbort (head 0 1)) (host id)
    (t.ctx 0).state = .loaded ∧ (t.ctx 0).gen = 2 ∧ (t.ctx 0).aborting = true ∧ (t.site 5).seq.status = .off := by decide +kernel

/-- The five kinds of CFG_STAGE that Table 1.5 lists, a unit that another set holds, four open sets, and a drain. -/
theorem test_witness_stage :
    let s := host id
    let four : State := { s with sets := (List.range 4).map (fun k => (k, { set1 with changes := [.vouch (k + 1) true] })) }
    (plan1.tile 5).isSome = true ∧ ((s.ctx 0).state = .running) ∧ (plan1.hdr.flags % 2 = 0 ∧ plan1.hdr.flags / 2 % 2 = 1) ∧
    Geometry.valid { m := 170, d := 12, c := 32 } = true ∧ 0 ∈ s.mod.order.quads ∧
    s.heldElsewhere 7 (.audit 0 3) = false ∧ s.needsDrain 7 (.audit 0 3) = false ∧ s.hostSets < 4 ∧ 4 ≤ four.hostSets ∧
    s.needsDrain 7 (.geometry { m := 170, d := 12, c := 32 }) = true ∧
    ({ s with sets := [(9, { set1 with changes := [.audit 0 1] })] } : State).heldElsewhere 7 (.audit 0 3) = true ∧
    alook s.sets 7 = none ∧ alook four.sets 3 = some { set1 with changes := [.vouch 4 true] } ∧
    four.heldElsewhere 3 (.audit 0 3) = false := by decide +kernel

theorem test_stage_and_commit :
    let t := after (.cfgStageAudit (head 0 1) 7 0 3) (host id)
    let u := after (.cfgCommit (head 0 1) 7 102) t
    (alook t.sets 7).map (fun z => (z.changes, z.state)) = some ([.audit 0 3], .opened) ∧
    (alook u.sets 7).map (fun z => (z.state, z.commit)) = some (.committed, 102) := by decide +kernel

/-- N + 2 and N + 65,536 are in the range of CFG_COMMIT, N + 1 is not (R40). -/
theorem test_witness_commit : let n := (host id).turn.no
    (n + 2 ≤ 102 ∧ 102 ≤ n + 65536) ∧ (n + 2 ≤ 65636 ∧ 65636 ≤ n + 65536) ∧ ¬ (n + 2 ≤ 101 ∧ 101 ≤ n + 65536) ∧
    alook (host id).sets 7 = none ∧ set1.state = .opened := by decide

/-! ### Streams -/

def entry1 : StreamEntry := { StreamEntry.free with
  state := .idle, ctx := 0, gen := 4, needInput := true, kvBase := 0, kvLimit := 16, kvLength := 2, hasLast := true, lastToken := 55 }

def cached (pinned reading : Bool) : CacheSlot :=
  { stream := 3, window := [], toRead := if reading then 2 else 0, reading := reading, pinned := pinned, used := 0 }

/-- The host's device with stream 3 as given in the stream cache. -/
def streaming (e : StreamEntry) : State :=
  { host id with streams := { Streams.reset with table := [(3, e)], cache := [(3, cached (e.state == .active) false)] } }

theorem test_witness_stream_entries :
    let s := streaming entry1
    let away : State := { s with streams := { s.streams with cache := [] } }
    let coming : State := { s with streams := { s.streams with cache := [], fetching := [3] } }
    let spoilt : State := { s with streams := { s.streams with cache := [], fetched := [(3, true)] } }
    s.atHand 3 = true ∧ alook s.streams.fetched 3 ≠ some true ∧ away.atHand 3 = false ∧ 3 ∉ away.streams.fetching ∧
    3 ∈ coming.streams.fetching ∧ (s.quad 0).recState ≠ .full ∧ alook spoilt.streams.fetched 3 = some true ∧
    (s.stream 3).state = .idle ∧ (s.stream 3).ctx = 0 ∧ (s.stream 4).state = .free ∧ s.check.suspect = false ∧
    (s.ctx 0).privileged = false ∧ (s.ctx 0).kvFits 0 16 = true ∧ (s.stream 3).position = 3 ∧ 3 < 2 ^ 24 := by decide +kernel

/-- The stream table's unit of stream 3, at 384 of QD0: readable and poisoned; the table within reach and away (R323). -/
theorem test_witness_stream_table :
    let s := streaming entry1
    let coming : State := { s with streams := { s.streams with cache := [], fetching := [3] } }
    let lost : State := { coming with ddr := { coming.ddr with mem := [(0, { cells := [], poisoned := [3] })] } }
    let open_ : State := { host (fun _ => Ctx.reset) with streams := { Streams.reset with cache := [(4, { cached false false with stream := 4 })] } }
    let c := fun (opc : Nat) => ({ fn := 0, ring := 1, opc := opc, ctx := 0, tag := 1, arg := 3, deadline := 4096, elapsed := 0 } : Cmd)
    (s.unwait (head 1 1) 3).frame 0 1 1 true = .read ∧ coming.tableAway = false ∧ 3 ∉ coming.streams.dirty ∧
    coming.unitPoison 0 384 = false ∧ lost.unitPoison 0 384 = true ∧ ({ s with ddr := { s.ddr with refresh := [0] } } : State).tableAway = true ∧
    ({ s with cmds := [c 0x24] } : State).cmds.any (fun y => y.opc == 0x24 && y.arg == 3) = true ∧ s.isRetired 0 384 = false ∧
    ({ s with cmds := [c 0x25] } : State).cmds.any (fun y => y.opc == 0x25 && y.arg == 3) = true ∧
    open_.atHand 4 = true ∧ (open_.ctx 0).state = .empty ∧ (open_.ctx 0).plan = none ∧ (open_.stream 4).state = .free := by
  decide +kernel

/-- An evicted stream's entry lies in its 128 bytes of the stream table, and the restore reads it from there (R317). -/
theorem test_evict_and_restore :
    let c := fun (opc : Nat) => ({ fn := 0, ring := 1, opc := opc, ctx := 0, tag := 1, arg := 3, deadline := 4096, elapsed := 0 } : Cmd)
    let s : State := { streaming { entry1 with state := .evicted } with cmds := [c 0x24, c 0x25] }
    let t := after (.streamEvictDone 3) { s with streams := { s.streams with cache := [], dirty := [3] } }
    let u := after (.streamRestoreDone 3 EccFind.clean) { t with streams := { t.streams with table := [] } , cmds := [c 0x25] }
    t.ddrBytes 0 384 128 = { entry1 with state := .evicted }.bytes ∧ t.cmds = [c 0x25] ∧ t.streams.dirty = [] ∧
    (u.stream 3).state ≠ .damaged ∧ u.cmds.length ≤ 1 := by decide +kernel

theorem test_stream_query : let t := after (.streamQuery (head 1 1) 3) (streaming entry1)
    (t.ring 0 1).due.map (fun r => (r.type, r.units)) = [(1, 1)] ∧ (t.stream 3).state = .idle := by decide +kernel

theorem test_stream_truncate : let t := after (.streamTruncate (head 1 1) 3 4 1) (streaming entry1)
    (t.stream 3).kvLength = 1 ∧ (t.stream 3).hasLast = false ∧ (t.stream 3).needInput = true := by decide +kernel

theorem test_stream_miss : let s := streaming entry1
    let t := after (.streamQuery (head 1 1) 3) { s with streams := { s.streams with cache := [] } }
    t.streams.fetching = [3] ∧ t.streams.misses = 1 ∧ (t.ring 0 1).hrCons = 0 := by decide +kernel

theorem test_witness_stream_steps :
    let busy := streaming { entry1 with state := .active }
    let full := streaming { entry1 with kvLength := 16 }
    let p : Position := { pos := 0, stream := 3, index := 2, token := 0, input := true, sample := false, filled := 0 }
    let placed : State := { busy with ctxs := [(0, { ctx0 with positions := [p] })] }
    (alook busy.streams.cache 3).isSome = true ∧ (busy.stream 3).state = .active ∧ (full.stream 3).kvLength = (full.stream 3).kvLimit ∧
    2 + 10 ≤ 16 * (head 1 1).units ∧ (streaming entry1).inPlanMemory 0x100000000 8 = true ∧
    (∃ q ∈ (placed.ctx 0).positions, q.stream = 3) ∧ (∀ q ∈ (busy.ctx 0).positions, q.stream ≠ 3) ∧
    ((streaming { entry1 with state := .evicted }).stream 3).state = .evicted ∧
    (∃ q ∈ ((placed.ctx 0).unfill 3).positions, q.stream = 3) ∧ (∀ q ∈ ((busy.ctx 0).unfill 3).positions, q.stream ≠ 3) ∧
    0 < ({ busy with ddr := { busy.ddr with chan := [(0, { Channel.reset with state := .inService })] } } : State).trainedChannels 0 := by
  decide +kernel

theorem test_stream_step : let t := after (.streamStep (head 1 1) 3 4 0 2 5 0 0 [7, 8]) (streaming entry1)
    (t.stream 3).state = .active ∧ (t.slot 3).window = [7, 8] ∧ (t.slot 3).pinned = true ∧
    t.cmds.map (fun c => (c.opc, c.arg)) = [(0x21, 3)] := by decide +kernel

theorem test_stream_evict : let t := after (.streamEvict (head 1 1) 3 4) (streaming entry1)
    (t.stream 3).state = .evicted ∧ t.streams.cache = [] := by decide +kernel

/-- A batch that fills with one privileged stream of one input, one that writes its header, and an input read. -/
def filling1 : Filling := { priv := 1, bulk := 0, gearing := 0, open_ := true, written := false }

def batching (x : Ctx) : State :=
  { host (fun _ => x) with streams := { Streams.reset with
      table := [(3, { entry1 with state := .active, priv := true, inputAddr := 0x100000000, indirect := true, pendingInput := 2 })]
      cache := [(3, { cached true true with window := [9] })] } }

theorem test_witness_batches :
    let s := batching { ctx0 with privSnap := [3] }
    let u := batching { ctx0 with filling := some filling1 }
    s.turn.window = .intake ∧ (s.ctx 0).filling = none ∧ s.runs 0 = true ∧ s.fills 0 = true ∧ (s.ctx 0).bulkSnap = [] ∧
    (s.ctx 0).gear = some (plan1.gear 0, batch1) ∧ (s.stream 3).priv = true ∧ (u.ctx 0).filling = some filling1 ∧
    batch1.rx = [5] ∧ u.siteOfTile (u.ctx 0) 5 = some 5 ∧ (s.stream 3).state = .active ∧ (s.slot 3).reading = true ∧
    s.turn.running = true ∧ (∀ k ∈ (s.ctx 0).privRing ++ (s.ctx 0).bulkRing, k = 3) ∧ filling1.open_ = true ∧
    ((batching ctx0).ctx 0).privSnap = [] ∧ ((batching ctx0).ctx 0).privRing = [] ∧ base.turn.window ≠ .intake ∧
    s.unitPoison 0 ((s.stream 3).inputAddr % 2 ^ 43) = false ∧
    ({ s with ddr := { s.ddr with mem := [(0, { cells := [], poisoned := [0x2000000] })] } } : State).unitPoison 0 0x100000000 = true := by
  decide +kernel

theorem test_batch_fill : let t := after (.batchFill 0) (batching { ctx0 with privSnap := [3] })
    (t.ctx 0).positions.map (fun p => (p.pos, p.stream, p.index, p.token)) = [(0, 3, 2, 55), (1, 3, 3, 9)] := by decide +kernel

theorem test_batch_header : let t := after (.batchHeaderWrite 0) (batching { ctx0 with filling := some filling1 })
    (t.site 5).scr.read 0 7 = [1, 0, 0, 0, 4, 0, 0] := by decide +kernel

/-! ### Rings and registers -/

theorem test_witness_rings :
    let s := host id
    let bare : State := { s with fns := [(0, { (s.fn 0) with rings := [] })] }
    let gone : State := { s with check := { s.check with chipBraked := true } }
    let p : PtrIndex := { ring := 1, hrProd := 9, trCons := 0 }
    s.takes 0 = true ∧ gone.takes 0 = false ∧ (bare.ring 0 0).state = .disabled ∧ bare.mayEnable 0 0 (0x606 ||| 2 ^ 31) = true ∧
    bare.mayEnable 0 0 (0x505 ||| 2 ^ 31) = false ∧ (s.ring 0 1).state = .active ∧ s.mayDisable 0 1 = false ∧
    (host (fun _ => Ctx.reset)).mayDisable 0 1 = true ∧ s.serves 0 = true ∧ idxSub p.hrProd 0 ≤ 2 ^ 6 ∧ idxSub p.trCons 0 ≤ idxSub 0 0 ∧
    2 ^ 6 < idxSub 65 0 ∧ idxSub 0 0 < idxSub 1 0 := by decide +kernel

theorem test_witness_all_rings : ∀ m, ((host id).ring 0 m).held = [] ∧ ((host id).ring 0 m).state ≠ .full := by
  intro m
  have h : ((host id).fn 0).rings = [(0, ring4), (1, ring4)] := by decide
  have hr : (host id).ring 0 m = aget Ring.reset [(0, ring4), (1, ring4)] m := by rw [← h]; rfl
  rw [hr]
  by_cases h0 : m = 0
  · subst h0; decide
  · by_cases h1 : m = 1
    · subst h1; decide
    · simp [aget, Ne.symm h0, Ne.symm h1, Ring.reset]

theorem test_ring_enable :
    let s := host id
    let t := after (.ringEnable 0 2 0x606) { s with ctxs := [] }
    (t.ring 0 2).state = .active ∧ (t.ring 0 2).hrLog = 6 ∧ (t.ring 0 2).trLog = 6 := by decide +kernel

/-- The device before the turn's pointer block (R286). -/
def unpolled : State := { host id with fns := [(0, { (host id).fn 0 with polled := none })] }

/-- A failed read of the block leaves every record (R314); a second block in a turn changes nothing. -/
theorem test_pointer_fails : let t := after (.pointerBlockArrival 0 false []) unpolled
    (t.fn 0).polled = some false ∧ (t.fn 0).aer = [.pointerBlock] ∧ t.frame 0 1 2 true = .leave ∧ unpolled.serves 0 = true ∧
    (unpolled.fn 0).polled = none ∧ after (.pointerBlockArrival 0 true []) (host id) = host id := by decide +kernel

theorem test_pointer_halts : let t := after (.pointerBlockArrival 0 true [{ ring := 1, hrProd := 65, trCons := 0 }]) unpolled
    (t.ring 0 1).state = .halted ∧ (t.ring 0 1).haltCause = 3 := by decide +kernel

/-- Records that are left, that cannot be framed, that are refused, and that a context's state refuses; SKIPs right and wrong. -/
theorem test_witness_records :
    let s := host id
    let notReady : State := { s with mod := { s.mod with dev := .notReady } }
    let late : State := { s with fns := [(0, { (s.fn 0) with rings := [(1, { ring4 with hrCons := 60, hrProd := 64 })] })] }
    s.frame 0 1 4 true = .read ∧ s.frame 0 1 2 false = .halt 4 ∧ s.frame 0 1 5 true = .halt 1 ∧ s.frame 0 2 1 true = .leave ∧
    notReady.refusal (head 0 1) 2 .management true false true = some .noResource ∧
    s.refusal (head 0 1) 0x10 .context true false true = some .badCommand ∧ (s.ctx 0).state ∉ [CtxState.loaded] ∧
    late.frame 0 1 1 true = .read ∧ (late.ring 0 1).hrCons % 64 + 4 = 64 ∧ 4 ≤ idxSub (late.ring 0 1).hrProd (late.ring 0 1).hrCons ∧
    (s.ring 0 1).hrCons % 64 + 4 ≠ 64 := by decide +kernel

theorem test_unframed_halts : let t := after (.ctxPause (head 1 5)) (host id)
    (t.ring 0 1).state = .halted ∧ (t.ring 0 1).haltCause = 1 ∧ (t.ring 0 1).hrCons = 0 := by decide +kernel

theorem test_unknown : let t := after (.unknownCommand (head 1 1) 0x7F) (host id)
    (t.ring 0 1).due.length = 1 ∧ (t.ring 0 1).hrCons = 1 ∧ t.cmds = [] := by decide +kernel

/-- A command whose deadline has passed in the close, and a brake whose record waits on another function. -/
def braking1 : State :=
  let r : Rec := { type := 6, units := 1, seq := 1, turn := 100, body := [] }
  let s := host id
  { s with
    check := { s.check with chipBraked := true, braking := some 3 }
    fns := [(0, { Fn.reset with ptrBlock := 4096, busMaster := true, rings := [(1, ring4)] }),
            (1, { Fn.reset with rings := [(0, { ring4 with held := [r] })] })] }

theorem test_witness_deadlines :
    let s : State := { host id with
      cmds := [{ fn := 0, ring := 1, opc := 0x11, ctx := 0, tag := 1, arg := 0, deadline := 7, elapsed := 7 }]
      turn := { base.turn with window := .close } }
    (s.cmds.find? (fun y => y.fn == 0 && y.ring == 1 && y.tag == 1 && decide (y.deadline ≤ y.elapsed))).isSome = true ∧
    s.live = true ∧ s.turn.window = .close ∧ (s.ring 0 1).state = .active ∧ braking1.check.braking = some 3 ∧ braking1.brakeWaits = true ∧
    (braking1.fn 0).devBlock = 0 ∧ (braking1.fn 0).busMaster = true ∧ (braking1.ring 0 1).state ≠ .disabled ∧
    (braking1.ring 0 1).held = [] := by decide +kernel

theorem test_brake_timeout : let t := after .brakeRecordTimeout braking1
    t.check.braking = none ∧ (t.fn 0).busMaster = false ∧ t.check.brakeMsgs = [] := by decide +kernel

/-- BAR2 offsets that reach plan memory, QD0's system region, the snapshot slots, and nothing; registers that take writes. -/
theorem test_witness_registers :
    let s := host id
    let plan : State := { s with mod := { s.mod with aperture := 0 }, ddr := { s.ddr with cap := [(0, 4)] } }
    plan.bar2Target 0x100000000 128 = .plan 0 0x100000000 ∧ plan.bar2Target 0 8 = .zero ∧
    plan.bar2Target 0x80000000 8 = .snap 0x80000000 ∧ plan.bar2Target (2 ^ 36) 8 = .none ∧ s.mod.dev.inStart = false ∧
    s.sideband = true ∧ base.sideband = false ∧ s.answers = true ∧ base.answers = false ∧ 0 ∈ s.functions ∧ s.takes 0 = true ∧ base.takes 0 = false ∧ (0x34 : Nat) ≠ 0x38 := by decide +kernel

theorem test_witness_channels : ∀ c, ((host id).chan c).state ≠ .retired := fun _ => by
  have h : (host id).ddr.chan = [] := by decide
  simp [State.chan, h, aget, Channel.reset]

theorem test_host_allowance : (after (.registerWrite 0 0x30004 4 0x1FFFF) (host id)).reef.hostW = 0xFFFF := by decide +kernel

/-- The size of BAR2 through Resizable BAR, and an access to a quadrant that trains its DDR again (R277). -/
theorem test_config_and_training :
    let s := host id
    let trains : State := { s with quads := [(0, { Quad.reset with recState := .full })], ddr := { s.ddr with cap := [(0, 4)], refresh := [0] } }
    (after (.registerWrite 256 8 4 1024) s).mod.bar2Gib = 1024 ∧ ((after (.registerWrite 256 0 4 0) s).fn 0).busMaster = false ∧
    trains.bar2Target 0x100000000 8 = .none ∧ ((after (.bar2Read 0x100000000 8 []) trains).fn 0).aer = [.unsupported] := by decide +kernel

/-- A poisoned unit of plan memory: its read is recorded (R280). -/
theorem test_poisoned_read :
    let s := host id
    let p : State := { s with ddr := { s.ddr with cap := [(0, 4)], mem := [(0, { cells := [], poisoned := [0x2000000] })] } }
    p.bar2Target 0x100000000 8 = .plan 0 0x100000000 ∧ p.rangePoison 0 0x100000000 8 = true ∧ s.rangePoison 0 0x100000000 8 = false ∧
    ((after (.bar2Read 0x100000000 8 []) p).fn 0).aer = [.poisonedRead] := by decide +kernel

theorem test_bar2_read_zero : (after (.bar2Read 0 2 []) (host id)).out = [.bar2 [0, 0] false false] := by decide +kernel

theorem test_bar2_write : let t := after (.bar2Write 0x100000000 [1, 2] false []) (host id)
    (t.ddr.memory 0).byte 0x100000001 = 2 ∧ (t.ddr.memory 0).wf = true := by decide +kernel

/-! ### Resets and power -/

/-- The host's device with quadrant 0 in a recovery state. -/
def recovering (r : RecState) (h : Bool) : State := { host (fun _ => Ctx.reset) with quads := [(0, { Quad.reset with recState := r, hostReset := h })] }

theorem test_witness_resets :
    let s := host id
    s.answers = true ∧ s.resetBusy = false ∧ base.answers = false ∧ (recovering .full true).resetBusy = true ∧ maskQuads 1 = [0] ∧
    maskQuads 0 = [] ∧ 0 ∈ s.mod.order.quads ∧ (s.ctx 0).boundTo 0 = true ∧ (recovering .fast true).ctxsOn 0 = [] ∧
    ((recovering .fast true).quad 0).recState.resetting = true ∧ ((recovering .fast true).quad 0).hostReset = true ∧
    (aget [] (recovering .fast true).heal.defects 0 = []) ∧ ((recovering .engineReset false).quad 0).recState = .engineReset ∧
    (recovering .full false).mod.phase.running = true := by decide +kernel

theorem test_reset_request : let t := after (.resetReqQuadFast 0xA5C3 1) (host id)
    (t.quad 0).recState = .fast ∧ (t.quad 0).hostReset = true ∧ t.mod.resetSeq = 1 ∧ (t.site 5).seq.status = .off := by decide +kernel

/-- A request while a reset is under way is answered RESETTING and is no accepted request (Table 10.25). -/
theorem test_reset_ignored : let t := after (.resetReqChip 0xA5C3) (recovering .full true)
    t.mod.resetStatus = 5 ∧ t.mod.resetSeq = 0 ∧ t.mod.dev = .ready := by decide +kernel

theorem test_reset_wrong_key : (after (.resetReqChip 0xA5C2) (host id)).mod = (host id).mod := by decide +kernel

theorem test_chip_reset : let t := after (.resetReqChip 0xA5C3) (host id)
    t.mod.dev = .resetting ∧ t.sites = [] ∧ (t.ctx 0).state = .empty ∧ (t.ctx 0).gen = 2 ∧ (t.fn 0).busMaster = true := by decide +kernel

theorem test_quad_reset_done : let t := after (.quadResetDone 0 [] []) (recovering .fast true)
    (t.quad 0).recState = .normal ∧ (t.quad 0).gen = 1 ∧ (t.quad 0).fastResets = 1 := by decide +kernel

theorem test_witness_functions :
    let s := host id
    let d : State := { s with fns := [(0, { Fn.reset with d3hot := true }), (1, { Fn.reset with d3hot := true })] }
    s.answers = true ∧ s.mod.linkUp = true ∧ s.mod.phase.running = true ∧ base.mod.linkUp = false ∧ base.answers = false ∧
    (d.fn 0).d3hot = true ∧ (d.fn 1).d3hot = true ∧ d.answers = true ∧ 1 ∈ s.functions := by decide +kernel

theorem test_vf_flr : let t := after (.vfFlr 0) { host (fun x => { x with owner := 1 }) with cmds := [] }
    (t.ctx 0).owner = 0 ∧ (t.ctx 0).state = .empty ∧ t.mod.dev = .ready := by decide +kernel

/-- Power on and off, and a module that is inserted; a choice of a slot needs a valid image, which no one can show of a signature. -/
theorem test_witness_power :
    let up : State := { State.reset with mod := { Mod.reset with pwrEn := true, phase := .powering } }
    State.reset.mod.pwrEn = false ∧ up.mod.phase = .powering ∧ up.sec.choose = none ∧ (host id).mod.pwrEn = true ∧ (host id).mod.pgood = true ∧
    (State.reset.chan 0).module = none ∧ 0 ∈ State.reset.mod.order.channels 0 ∧ (State.reset.port 7).cable = false ∧
    7 ∈ State.reset.mod.order.ports ∧
    ({ host id with mod := { (host id).mod with perstN := true } } : State).mod.perstN = true := by decide +kernel

theorem test_witness_choice (x : Security) (h : x.recordB.seq < x.recordA.seq) (g : x.recordA.trial = false)
    (a : x.recordA.preferred = 0) (v : x.valid x.slotA = true) : x.choose = some 0 := by
  simp [Security.choose, Security.boot, Security.image, Nat.not_lt.mpr (Nat.le_of_lt h), g, a, v]

theorem test_power_up : let t := after (.pwrEnRise 250) State.reset
    t.mod.pwrEn = true ∧ t.mod.phase = .powering := by decide +kernel

theorem test_power_too_short : exec (.pwrEnRise 249) State.reset = .fault (.powerCycleTooShort 249) := by
  show execPwrEnRise 249 State.reset = _
  simp [execPwrEnRise]; decide +kernel

theorem test_cable : (after (.osfpCableInsert 7 3001) State.reset = State.reset) ∧ ((after (.osfpCableInsert 7 3000) State.reset).port 7).cable = true := by
  decide +kernel

theorem test_witness_start :
    let at_ := fun (p : Phase) => ({ State.reset with mod := { Mod.reset with phase := p } } : State)
    (at_ .bootRom).mod.phase = .bootRom ∧ (at_ .starting).mod.trained = false ∧
    ({ at_ .starting with ddr := { Ddr.reset with zeroing := true } } : State).ddr.zeroing = true ∧
    ({ at_ .starting with mod := { (at_ .starting).mod with floorDone := true } } : State).portsReady = true ∧
    State.reset.check.chipBraked = false ∧
    (∀ i, i < 9 → [104, 105, 106, 0, 0, 0, 0, 0, 0].getD i 0 < 110) ∧ 110 ≤ [110, 0].getD 0 0 ∧ 0 / 2 ∈ State.reset.mod.order.quads := by
  decide +kernel

/-- PWR_EN falls in step 11 (R470): flash keeps its counts; and in step 10 after every fuse of step 10 (R491). -/
theorem test_cut_starts :
    let s : State := { State.reset with mod := { Mod.reset with phase := .starting, floorDone := true } }
    (after (.readinessDecision 9 .cutFlash) s).mod.starts = 0 ∧ (after (.readinessDecision 9 .cutFlash) s).mod.phase = .off ∧
    (after (.readinessDecision 9 (.done 1)) s).mod.starts = 1 := by decide +kernel

theorem test_temperature : (after (.tempSample [105, 104, 0, 0, 0, 0, 0, 0, 0]) (host id)).reef.hot.take 2 = [true, false] := by decide +kernel

/-! ### Security -/

/-- No statement about a valid image can show one: the signature check is a free function. Its premises are met by whatever
image that check accepts. -/
theorem test_witness_firmware (img : List Byte) (_ : (host id).sec.valid img = true) :
    (host id).sideband = true ∧ (host id).sec.updating = none ∧ (host id).sec.ownerFree = true ∧ (host id).sec.valid [] = false ∧
    (host id).mod.dev.inStart = false ∧ (host id).sec.mboxBusy = false ∧ (host id).sec.recordA.seq = (host id).sec.recordB.seq + 1 ∧
    ({ host id with sec := { (host id).sec with updating := some (1, img, true) } } : State).sec.updating = some (1, img, true) ∧
    ({ host id with sec := { (host id).sec with mboxAddr := 0x100000000 } } : State).mboxData 0 = some [] := by
  refine ⟨?_, ?_, ?_, ?_, ?_, ?_, ?_, rfl, ?_⟩ <;> decide +kernel

theorem test_witness_owner_key : ({ host id with sec := { (host id).sec with mboxAddr := 0x100000000 } } : State).mboxData 2592 =
    some (List.replicate 2592 0) := by decide +kernel

theorem test_witness_return (r : UnlockRecord) (n : r.nonce = [1])
    (v : ({ (host id).sec with nonce := some [1] } : Security).unlocks r = true) :
    (host id).sideband = true ∧ ({ (host id).sec with nonce := some [1] } : Security).unlocks r = true ∧ (host id).sec.trngFail = false ∧
    (host id).sec.nonce ≠ some r.nonce := by
  refine ⟨by decide +kernel, v, by decide +kernel, ?_⟩
  rw [n]; decide +kernel

theorem test_owner_digest : (after (.pldmOwnerKey (List.replicate 64 7)) (host id)).sec.ownerPending = some (List.replicate 64 7) := by
  decide +kernel

theorem test_witness_spdm :
    let s : State := { host id with sec := { (host id).sec with aliasReady := true } }
    let busy : State := { s with sec := { s.sec with doe := some .capabilities } }
    s.serving .doe = true ∧ s.serving .mctp = true ∧ s.sec.trngFail = false ∧ s.sec.rmaUnlocked = false ∧
    (host id).sec.aliasReady = false ∧ busy.doeReachable = true ∧ busy.sec.doe.isSome = true := by decide +kernel

theorem test_version : (after (.getVersion .mctp) { host id with sec := { (host id).sec with aliasReady := true } }).out =
    [.spdm .mctp (.version 1 4)] := by decide +kernel

theorem test_doe_waits : (after (.getVersion .doe) { host id with sec := { (host id).sec with aliasReady := true } }).sec.doe =
    some (.version 1 4) := by decide +kernel

/-! ### The fabric -/

def packet1 : Packet :=
  { kind := .write, vc := 0, seq := 0, ack := 0, retryReq := false, ackValid := false, credits := [0, 0, 0, 0], dest := 0, src := 4096
    cls := false, detoured := false, pipeline := 6, sluice := 9, hops := 0, destTile := 5, srcTile := 0, offset := 0
    words := [List.replicate 64 7], nwords := 1, inst := 0, pktNo := 0, srcCtx := 0, srcQuad := 0, gens := (0, 0, 0), status := 0
    desc := 0, tag := 0, counts := [], poison := [], crcOk := true, delayNs := none, fullTurn := none }

def manifest1 : FabricManifest :=
  { crcOk := true, layoutOk := true, seq := 5, position := 0, spare := false, applyTurn := 102, dx := 4, dy := 1, dz := 1, priority := 2
    allowMissing := 0, groupId := 0
    ports := (List.range 8).map (fun n => { role := n + 1, peerPort := 1, required := false, peerPos := 0 }), detours := [] }

/-- A device at position 0 of a ring of four with ports 0 (+X) and 1 (−X) up, context 0 in pipeline 6 fed from the device at
position 4096, and a packet of its own that waits for its answer. -/
def fabric : State :=
  let s := host (fun x => { x with
    plan := some { plan1 with body := { plan1.body with sluices := [{ sluice9 with sources := 7 }] } }
    pipeline := 6, prevPos := 4096, crossIn := [{ planQuad := 0, sluice := 9, next := 0, map0 := [], map1 := [] }]
    outPackets := [{ packet := { packet1 with dest := 4096, src := 0 }, from_ := 0x10000, site := 5, xfer := 1, inst := 0, released := 100, sentTurn := 100
                     answered := false, refused := false }] })
  { s with
    turn := base.turn
    avdin := { s.avdin with inForce := some manifest1, ports := [(0, { Port.reset with state := .up }), (1, { Port.reset with state := .up })] }
    sites := (s.modSite 5 (fun a => { a with bank := { a.bank with own := 0xAAAAAAAAAAAAAA5E } })).sites
    quads := [(0, { Quad.reset with sluices := [(4, { entry9 with sources := 7, srcPos := 4096, pipeline := 6 })] })] }

theorem test_witness_packets :
    let route1 := fabric.route packet1 (fabric.portDim 1)
    let on_ := fabric.route { packet1 with dest := 4096 } (fabric.portDim 1)
    let answer : Packet := { packet1 with kind := .answer, src := 4096, gens := fabric.gensOf 0 0, counts := [1, 0, 0, 0, 0] }
    (fabric.port 1).state = .up ∧ (fabric.port 1).kept = [] ∧ (fabric.port 1).inFlight = 0 ∧ packet1.seq = (fabric.port 1).rxSeq ∧
    ((fabric.port 1).lately fabric.turn.now).length ≤ 64 ∧ (fabric.quad 0).recState = .normal ∧ packet1.nwords = 1 ∧ packet1.inst = 0 ∧
    route1 = .here ∧ on_ = .out 0 false false ∧ packet1.flits ≤ (fabric.port 0).credits.getD 0 0 ∧
    fabric.pipelineCtx 6 = some 0 ∧ ((fabric.ctx 0).plan.bind (fun l => l.tile 5)).isSome = true ∧
    fabric.judge 0 0 5 9 0 fabric.portCycle (.device 4096) (.inr 6) = .allow 4 ∧
    ((fabric.ctx 0).crossIn.find? (fun z => z.planQuad == 0 && z.sluice == 9)).isSome = true ∧ fabric.mod.dev ≠ .resetting ∧
    answer.gens = fabric.gensOf 0 0 ∧ ((fabric.ctx 0).outPackets.find? (fun z => z.packet.dest == answer.src && z.packet.sluice == 9)).isSome = true := by
  decide +kernel

theorem test_packet_forwarded : let t := after (.avdinWritePacket 1 { packet1 with dest := 4096 }) fabric
    (t.port 1).rxSeq = 1 ∧ t.out.length = 2 ∧ (t.port 0).inFlight = 1 := by decide +kernel

/-- A packet that was taken before is acknowledged again; one that skips a sequence number is not (log 92). -/
theorem test_packet_old :
    ((0 + 4096 - ({ packet1 with seq := 4088 } : Packet).seq) % 4096 = 8 ∧ (0 + 4096 - ({ packet1 with seq := 4087 } : Packet).seq) % 4096 = 9) ∧
    (after (.avdinWritePacket 1 { packet1 with seq := 4088 }) fabric).out.length = 1 ∧
    (after (.avdinWritePacket 1 { packet1 with seq := 4087 }) fabric).out.length = 0 := by decide +kernel

theorem test_packet_delivered : let t := after (.avdinWritePacket 1 packet1) fabric
    (t.site 5).ex.writes.map (fun w => (w.addr, w.fromSite)) = [(0x8000, 4096)] ∧
    t.avdin.arrivals.map (fun r => (r.id, r.left, r.counts)) = [(0, 1, [1, 0, 0, 0, 0])] ∧ t.out.length = 1 := by decide +kernel

theorem test_witness_links :
    let up := fun (x : Port) => ({ fabric with avdin := { fabric.avdin with ports := [(0, x)] } } : State)
    let k : Packet := { packet1 with kind := .control, ack := 0, ackValid := true }
    let m : State := { fabric with turn := { fabric.turn with best := some (1, mark1) } }
    let asked : State := { m with turn := { m.turn with stepPending := true, stepTo := some 7 } }
    let often := up { Port.reset with state := .up, kept := [packet1], inFlight := 1, recent := List.replicate 64 4000 }
    let due : State := { host id with avdin := { Avdin.reset with waiting := some manifest1 }
                                      turn := { (host id).turn with no := 102, cycle := 0 } }
    ((up { Port.reset with state := .up, kept := [packet1], inFlight := 1 }).port 0).kept = [packet1] ∧ k.ack = packet1.seq ∧
    (up { Port.reset with state := .degraded, kept := [packet1], inFlight := 1 }).carries 0 = true ∧
    ((up { Port.reset with state := .training, failures := 2 }).port 0).failures = 2 ∧
    ((up { Port.reset with state := .down }).port 0).state = .down ∧ m.turn.best = some (1, mark1) ∧ m.turn.stepPending = false ∧
    m.turn.stepTurn = false ∧ asked.turn.stepPending = true ∧ fabric.turn.fullNo.isSome = true ∧
    98 + 1 < m.turn.no ∧ m.turn.no + 1 < 102 ∧ 99 ≤ m.turn.no + 1 ∧ m.turn.no ≤ 99 + 1 ∧ often.carries 0 = true ∧
    64 ≤ ((often.port 0).lately often.turn.now).length ∧ ((m.port 1).lately m.turn.now).length < 64 ∧
    (host id).rejects manifest1 = none ∧ manifest1.applyTurn ≠ 0 ∧ (host id).rejects { manifest1 with crcOk := false } = some 1 ∧
    (host id).answers = true ∧ (host id).mod.watchdog = false ∧ due.avdin.waiting = some manifest1 ∧ due.turn.window = .intake ∧
    due.turn.cycle = 0 ∧ due.turn.running = true ∧ manifest1.applyTurn ≤ due.turn.no ∧ (host id).turn.no < manifest1.applyTurn := by
  decide +kernel

/-- The 65th retry within 1 ms trains the port again; the master's TURN_NO that differs by more than a boundary calls for a step. -/
theorem test_retries_and_turn_no :
    let often : State := { fabric with avdin := { fabric.avdin with ports :=
      [(0, { Port.reset with state := .up, kept := [packet1], inFlight := 1, recent := List.replicate 64 4000 })] } }
    let m : State := { fabric with turn := { fabric.turn with best := some (1, mark1) } }
    let told := fun (n : Nat) => after (.avdinMgmtPacket 1 { packet1 with kind := .mgmt, fullTurn := some n }) m
    ((after (.linkRetryTimeout 0) often).port 0).state = .training ∧ (told 102).turn.stepTo = some 103 ∧ (told 102).turn.locked = false ∧
    (told 101).turn.stepPending = false ∧ (told 101).turn.masterNo = some 101 := by decide +kernel

theorem test_third_training_failure :
    let s : State := { fabric with avdin := { fabric.avdin with ports := [(0, { Port.reset with state := .training, failures := 2 })] } }
    ((after (.linkTrainingDone 0 .failed) s).port 0).state = .down := by decide +kernel

theorem test_manifest : let t := after (.fabricManifestReceive manifest1) (host id)
    t.avdin.manState = .pending ∧ t.avdin.waiting = some manifest1 ∧ t.out = [.pldm 0] := by decide +kernel

/-! ### Memory checks, dressing, wear, recovery -/

theorem test_witness_checks :
    let s := host id
    let asks : State := { s with check := { s.check with requested := [(0, 0, 0)] } }
    let due : State := { s with check := { s.check with passDue := true } }
    due.check.passDue = true ∧ due.check.pass = none ∧ s.check.passDue = false ∧
    (s.ctx 0).digested = true ∧ 0 < (s.ctx 0).manifest.length ∧ s.live = true ∧ s.mod.order.digest = true ∧ s.check.period ≠ 0 ∧
    s.passRegions = [(0, 0, 0)] ∧ (host (fun _ => Ctx.reset)).passRegions = [] ∧ (0, 0, 0) ∈ asks.check.requested ∧
    ((asks.ctx 0).manifest[0]?).isSome = true := by decide +kernel

/-- A channel with a module that scrubs, a site under a dressing watch, a SPARE site, and a re-placement that copies. -/
def repairing : State :=
  let s := host id
  let m : MemModule := { cap := 1, rate := 2, supported := true }
  { s with
    ddr := { s.ddr with chan := [(0, { Channel.reset with state := .inService, module := some m, scrub := 3 })] }
    check := { s.check with dressWatches := [{ site := 9, item := 2, rounds := 0 }] }
    sites := (s.modSite 520 (fun a => { a with role := .spare })).sites
    heal := { s.heal with readySpares := [521], replacing := [{ quad := 0, tile := 5, old := 5, site := 521, copied := false }] } }

theorem test_witness_repairs :
    repairing.scrubs 0 = true ∧ repairing.scrubs 1 = false ∧ repairing.ddr.unitOf 0 0 3 = some 384 ∧ repairing.unitPoison 0 384 = false ∧
    repairing.ddr.locate 0 384 = some (0, 3 * 128) ∧ (repairing.chan 0).module.isSome = true ∧
    (∃ w ∈ repairing.check.dressWatches, w.site = 9 ∧ w.item = 2 ∧ w.rounds = 0) ∧ (repairing.site 520).role = .spare ∧
    (∀ r ∈ repairing.heal.replacing, r.site ≠ 520) ∧
    (repairing.heal.replacing.find? (fun z => z.quad == 0 && z.tile == 5 && !z.copied)).isSome = true ∧ 521 ∈ repairing.heal.readySpares := by
  decide +kernel

/-- What the devices deliver wrong: one device in every beat, and three devices in the first beat. -/
def oneDevice : EccFind := { errors := [(3, 0xFFFFFFFFFFFFFFFF)] }

def threeDevices : EccFind := { errors := [(0, 1), (1, 2), (2, 4)] }

theorem test_witness_corrected : repairing.eccAt 0 384 oneDevice = .corrected [3] (List.replicate 128 0) := by decide +kernel

theorem test_witness_uncorrectable : repairing.eccAt 0 384 threeDevices = .uncorrectable := by decide +kernel

/-- The check symbols of a data word of zeros are zero, and each codeword has the roots 1, α, α² and α³ (R343). -/
theorem test_codeword : rsCheck (List.replicate 16 0) = [0, 0, 0, 0] ∧
    syndromes (codeword ((List.range 128).map (fun k => BitVec.ofNat 8 (7 * k + 3))) false 2) = [0, 0, 0, 0] := by decide +kernel

theorem test_scrub : ((after (.scrubRead 0 threeDevices) repairing).ddr.memory 0).isPoisoned 3 = true ∧
    ((after (.scrubRead 0 EccFind.clean) repairing).chan 0).scrub = 4 := by decide +kernel

theorem test_witness_march : repairing.dresses 520 = true ∧ repairing.turn.window = .intake ∧
    ({ repairing with turn := { repairing.turn with window := .dressing } } : State).dresses 520 = true := by decide +kernel

/-- A SPARE's wrong answer that its repeat gives again is a confirmed defect; one that it does not is watched (R416, R417). -/
theorem test_march_fails :
    let s : State := { repairing with turn := { repairing.turn with window := .dressing } }
    (after (.marchPassDone 520 (.failed true)) s).heal.fenceDue = [520] ∧
    (after (.marchPassDone 520 (.failed false)) s).check.dressWatches.length = 2 ∧
    (after (.marchPassDone 520 .clean) s).heal.readySpares.contains 520 = true := by decide +kernel

theorem test_wear_day : (after .wearDayEnd (host id)).heal.poweredHours = 24 := by decide +kernel

/-- An engine under reset, a replay that ends with one and without a guilty context, and a snapshot in progress. -/
def replaying (left : Nat) (todo guilty : List Nat) (st : RecState) : State :=
  let r : Replay := { engine := 1, suspects := [0], todo := todo, left := left, guilty := guilty }
  { host id with quads := [(0, { Quad.reset with recState := st, replay := some r })] }

theorem test_witness_recovery :
    ((replaying 0 [0] [] .engineReset).ctx 0).replays = true ∧ ((replaying 0 [0] [0] .replay).quad 0).recState = .replay ∧
    ((replaying 0 [0] [0] .replay).quad 0).replay.map (fun r => (r.left, r.todo, r.guilty)) = some (0, [0], [0]) ∧
    ({ Quad.reset with snap := { Quad.reset.snap with pending := true } } : Quad).snap.pending = true ∧ (host id).turn.window ≠ .close ∧
    (replaying 0 [] [] .replay).turn.window = .intake ∧ ([0] : List Nat).drop 1 = [] ∧ base.turn.window ≠ .intake ∧
    ((replaying 0 [] [] .engineReset).quad 0).replay.map (fun r => r.todo) = some [] ∧
    ({ host id with turn := { base.turn with window := .close } } : State).live = true ∧
    (host id).live = true ∧ (host id).mod.watchdog = false ∧ ((host id).quad 0).load.kind = 0 ∧ ((host id).quad 0).recState = .normal ∧
    (∀ i ∈ [7], i / 576 = 0 ∧ ((host id).site i).role ≠ .fenced) := by decide +kernel

theorem test_engine_reset_done : let t := after (.engineResetDone 0 1) (replaying 0 [0] [] .engineReset)
    (t.quad 0).recState = .replay ∧ ((t.quad 0).replay.map (fun r => r.left)) = some 64 := by decide +kernel

theorem test_quarantine : let t := after (.replayEnd 0) (replaying 0 [0] [0] .replay)
    (t.ctx 0).state = .quarantined ∧ (t.quad 0).quarantines = 1 := by decide +kernel

theorem test_broadcast : let t := after (.broadcastReceipt 0 true [7]) (host id)
    (t.quad 0).load.round = 1 ∧ (t.quad 0).load.incomplete = 1 := by decide +kernel

theorem test_witness_activation :
    let s := fun (r : List Nat) => ({ host id with
      turn := { base.turn with window := .intake, cycle := 0 }, heal := { (host id).heal with readySpares := r }
      sites := (7, { (host id).site 7 with role := .live }) ::
        (List.range 64).map (fun k => (512 + k, { (host id).site 512 with role := .spare }))
      quads := [(0, { Quad.reset with
        staging := some [1], load := { Quad.reset.load with kind := 1, activate := 100, bad := [] } })] } : State)
    ((s []).quad 0).load.kind = 1 ∧ ((s []).quad 0).load.valid = false ∧ ((s []).quad 0).load.activate ≤ (s []).turn.no ∧
    (s []).turn.window = .intake ∧ (s []).turn.cycle = 0 ∧ (s [520]).fenceTooLarge 0 [7] = false ∧ (s []).fenceTooLarge 0 [7] = true ∧
    ((after (.broadcastActivate { quad := 0, missed := [7] }) (s [520])).site 7).role = .fenced ∧
    ((after (.broadcastActivate { quad := 0, missed := [7] }) (s [520])).quad 0).store = [1] ∧
    ((after (.broadcastActivate { quad := 0, missed := [7] }) (s [])).quad 0).load.result = 2 := by decide +kernel

/-! ### The queue, and what every step keeps -/

/-- An empty queue with the turns running, and one before they start (log 10). -/
theorem test_witness_tick : base.pending = [] ∧ base.turn.running = true ∧ State.reset.pending = [] ∧
    (match step base with | .next t => t.turn.cycle | _ => 0) = 4001 := by decide +kernel

theorem test_queue_order : step { base with pending := [.masterKeyDiscard, .holdoverEnter] } =
    exec .masterKeyDiscard { base with pending := [.holdoverEnter] } := rfl

/-- Canonical memories: none listed, and one with a byte. -/
theorem test_witness_canonical : Memory.cleared.wf = true ∧ ({ cells := [(7, 1)], poisoned := [2] } : Memory).wf = true ∧
    ({ cells := [(7, 0)], poisoned := [] } : Memory).wf = false ∧ ({ cells := [(7, 1), (3, 1)], poisoned := [] } : Memory).wf = false := by decide


/-! ### A plan image that loads -/

/-- The bytes that are not 0 of a plan header at address 1_0000_0000 with one gearing and no sections (Table 2.6): IMAGE_ID,
version 1, 512 bytes, one quadrant, gearing, device and tile, M 64 to 1,024, a gear period of 1, the batch descriptor at 0x4000. -/
def headBytes : List Host.Cell :=
  [(4294967296, 76), (4294967297, 80), (4294967298, 88), (4294967299, 71), (4294967300, 1), (4294967305, 2),
   (4294967316, 1), (4294967317, 1), (4294967318, 1), (4294967322, 1), (4294967324, 64), (4294967327, 4), (4294967340, 1),
   (4294967345, 64)]

/-- Its IMAGE_DIGEST: the SHA3-512 of the image with that field zero. -/
def digestBytes : List Host.Cell :=
  [(4294967424, 127), (4294967425, 107), (4294967426, 91), (4294967427, 40), (4294967428, 171), (4294967429, 35),
   (4294967430, 171), (4294967431, 87), (4294967432, 17), (4294967433, 154), (4294967434, 157), (4294967435, 127),
   (4294967436, 220), (4294967437, 209), (4294967438, 73), (4294967439, 194), (4294967440, 156), (4294967441, 40),
   (4294967442, 164), (4294967443, 242), (4294967444, 234), (4294967445, 220), (4294967446, 253), (4294967447, 45),
   (4294967448, 104), (4294967449, 228), (4294967450, 160), (4294967451, 203), (4294967452, 201), (4294967453, 131),
   (4294967454, 52), (4294967455, 206), (4294967456, 213), (4294967457, 95), (4294967458, 5), (4294967459, 192),
   (4294967460, 57), (4294967461, 36), (4294967462, 48), (4294967463, 160), (4294967464, 18), (4294967465, 211),
   (4294967466, 140), (4294967467, 194), (4294967468, 197), (4294967469, 224), (4294967470, 124), (4294967471, 45),
   (4294967472, 124), (4294967473, 222), (4294967474, 34), (4294967475, 175), (4294967476, 55), (4294967477, 200),
   (4294967478, 32), (4294967479, 211), (4294967480, 200), (4294967481, 164), (4294967482, 41), (4294967483, 147),
   (4294967484, 155), (4294967485, 57), (4294967486, 179), (4294967487, 199)]

/-- Its gearing (Table 2.7): one tile, one position, a turn a step, every bank powered. -/
def gearBytes : List Host.Cell :=
  [(4294967488, 1), (4294967490, 1), (4294967492, 1), (4294967493, 1), (4294967496, 255), (4294967497, 255),
   (4294967498, 255), (4294967499, 255)]

/-- The image in the plan memory of quadrant 0. -/
def imaged : State :=
  let s := host (fun _ => Ctx.reset)
  { s with ddr := { s.ddr with cap := [(0, 8)], mem := [(0, { Memory.cleared with cells := headBytes ++ digestBytes ++ gearBytes })] } }

def batch2 : BatchDecl := { batch1 with inputSpan := 1, outOffset := 0x8000 }
def body2 : PlanBody :=
  { tiles := [tile5], regions := [], sluices := [], batches := [batch2], crossings := [], links := [], tileRates := []
    shapes := [List.replicate 64 0], stageSum := [], workTargets := [], pairs := [] }

theorem test_witness_load_readable : imaged.imageReadable 0x100000000 = true ∧
    imaged.reads (head 0 2) 0x01 .management true ∧ (imaged.ctx 0).state = .empty := by
  unfold State.reads
  decide +kernel

/-- DDR that holds no image: its zeros fail check 1. -/
def unimaged : State := let s := host (fun _ => Ctx.reset)
  { s with ddr := { s.ddr with cap := [(0, 8)] } }

theorem test_witness_load_fails :
    unimaged.imageReadable 0x100000000 = true ∧
    (match unimaged.loadVerdict 0 0x100000000 0 0 body2 with
     | .fails n st => decide (n = 1 ∧ st.code = 1)
     | .loads _ => false) = true := by decide +kernel

theorem loads_of (v : LoadVerdict) (h : (match v with
    | .fails _ _ => false
    | .loads l => l.quads == [0]) = true) : ∃ l, v = .loads l := by
  cases v with
  | loads l => exact ⟨l, rfl⟩
  | fails n st => simp at h

theorem test_witness_load : ∃ l, imaged.loadVerdict 0 0x100000000 0 0 body2 = .loads l :=
  loads_of _ (by decide +kernel)

end Sys2Proof.Tests
end

section
/-! SUPPORT. A command of a host ring that is read: what taking its record, refusing it and accepting it do (R286, R294, R516). -/

namespace Sys2Proof.Machine

/-! ### Rings -/

theorem State.ring_modRing_ne (s : State) (n r m k : Nat) (g : Ring → Ring) (h : m ≠ n ∨ k ≠ r) :
    (s.modRing n r g).ring m k = s.ring m k := by
  by_cases hm : m = n
  · subst hm
    have hk : k ≠ r := h.resolve_left (· rfl)
    simp [State.ring, State.modRing, Fn.ring, aget_aset_ne _ _ _ _ _ hk]
  · simp [State.ring, State.modRing, State.modFn, State.fn, aget_aset_ne _ _ _ _ _ hm]

/-- Records are read from an active ring only (R286). -/
theorem State.active_of_frame_read {s : State} {f r units : Nat} {ok : Bool} (h : s.frame f r units ok = .read) :
    (s.ring f r).state = .active := by
  unfold State.frame at h
  dsimp only at h
  split at h
  · simp at h
  · rename_i hleave
    simp only [Bool.or_eq_true, decide_eq_true_eq, not_or] at hleave
    tauto

/-- Reading a record changes its own ring: HR_CONS, and the units read in the turn (R286). -/
theorem State.ring_consume (s : State) (f r units cost : Nat) :
    (s.consume f r units cost).ring = (s.modRing f r
      (fun x => { x with hrCons := (x.hrCons + units) % idxMod, readNow := x.readNow + cost })).ring := rfl

@[simp] theorem State.ring_consume_self (s : State) (f r units cost : Nat) :
    (s.consume f r units cost).ring f r =
      { s.ring f r with hrCons := ((s.ring f r).hrCons + units) % idxMod, readNow := (s.ring f r).readNow + cost } := by
  rw [State.ring_consume, State.ring_modRing_self]

theorem State.ring_consume_ne (s : State) (f r units cost m k : Nat) (h : m ≠ f ∨ k ≠ r) :
    (s.consume f r units cost).ring m k = s.ring m k := by
  rw [State.ring_consume, State.ring_modRing_ne _ _ _ _ _ _ h]

/-- The state once the record of a command is read (R286). -/
def State.afterRecord (s : State) (h : CmdHead) : State := s.consume h.fn h.ring h.units h.units

@[simp] theorem State.turn_afterRecord (s : State) (h : CmdHead) : (s.afterRecord h).turn = s.turn := rfl
@[simp] theorem State.sets_afterRecord (s : State) (h : CmdHead) : (s.afterRecord h).sets = s.sets := rfl

@[simp] theorem State.ring_afterRecord_self (s : State) (h : CmdHead) :
    (s.afterRecord h).ring h.fn h.ring = { s.ring h.fn h.ring with
      hrCons := ((s.ring h.fn h.ring).hrCons + h.units) % idxMod, readNow := (s.ring h.fn h.ring).readNow + h.units } :=
  s.ring_consume_self h.fn h.ring h.units h.units

theorem State.taken_afterRecord (s : State) (h : CmdHead) : Taken s (s.afterRecord h) h :=
  ⟨by simp [idxMod], rfl, fun m k hne => s.ring_consume_ne _ _ _ _ m k hne⟩

theorem State.due_afterRecord (s : State) (h : CmdHead) :
    ((s.afterRecord h).ring h.fn h.ring).due = (s.ring h.fn h.ring).due := by
  simp

theorem State.onlyRings_afterRecord (s : State) (h : CmdHead) : OnlyRings s (s.afterRecord h) := rfl

/-- A change to the command's own ring that leaves HR_CONS alone keeps the record taken. -/
theorem Taken.modRing {s t : State} {h : CmdHead} (ht : Taken s t h) (g : Ring → Ring) (hg : ∀ x, (g x).hrCons = x.hrCons) :
    Taken s (t.modRing h.fn h.ring g) h := by
  obtain ⟨hcons, hunits, hother⟩ := ht
  refine ⟨by rw [State.ring_modRing_self, hg, hcons], hunits, fun m k hne => ?_⟩
  rw [State.ring_modRing_ne _ _ _ _ _ _ hne, hother m k hne]

theorem OnlyRings.modRing {s t : State} (ht : OnlyRings s t) (f r : Nat) (g : Ring → Ring) : OnlyRings s (t.modRing f r g) := by
  unfold OnlyRings at ht ⊢
  rw [ht]
  rfl

/-! ### Refusal -/

/-- On an active ring a completion is the next record due (R290, R294). -/
theorem State.complete_of_active {s : State} {c : CmdRef} (h : (s.ring c.fn c.ring).state = .active) (st : Status)
    (res : List Byte) :
    s.complete c st res = s.modRing c.fn c.ring
      (fun x => x.add s.turn.no 1 (if c.opc = 0x06 then 2 else 1) (completionBody c st res)) := by
  simp [State.complete, State.post, h]

/-- A completion on an active ring, after the record is taken. -/
theorem State.completes_complete {s : State} {h : CmdHead} (ha : (s.ring h.fn h.ring).state = .active) (opc : Nat) (st : Status)
    (res : List Byte) :
    Completes s ((s.afterRecord h).complete (headRef h opc) st res) h opc st res ∧
      OnlyRings s ((s.afterRecord h).complete (headRef h opc) st res) := by
  have hact : ((s.afterRecord h).ring (headRef h opc).fn (headRef h opc).ring).state = .active := by
    simpa [headRef] using ha
  rw [State.complete_of_active hact]
  refine ⟨⟨(s.taken_afterRecord h).modRing _ fun x => rfl, rfl, ?_⟩, (s.onlyRings_afterRecord h).modRing _ _ _⟩
  simp only [headRef, State.ring_modRing_self, State.ring_afterRecord_self, State.turn_afterRecord, Ring.add]
  rfl

/-- A count on the command's own ring keeps its completion. -/
theorem Completes.modRing {s t : State} {h : CmdHead} {opc : Nat} {st : Status} {res : List Byte} (hc : Completes s t h opc st res)
    (g : Ring → Ring) (hcons : ∀ x, (g x).hrCons = x.hrCons) (hdue : ∀ x, (g x).due = x.due) :
    Completes s (t.modRing h.fn h.ring g) h opc st res := by
  obtain ⟨htaken, hcmds, hrec⟩ := hc
  exact ⟨htaken.modRing g hcons, hcmds, by rw [State.ring_modRing_self, hdue, hrec]⟩

/-- A command refused completes at once, and only its ring shows it (R298, R299). -/
theorem State.completes_refuse {s : State} {h : CmdHead} (ha : (s.ring h.fn h.ring).state = .active) (opc : Nat) (st : Status)
    (res : List Byte) :
    Completes s ((s.afterRecord h).refuse (headRef h opc) st res) h opc st res ∧
      OnlyRings s ((s.afterRecord h).refuse (headRef h opc) st res) := by
  obtain ⟨hc, ho⟩ := State.completes_complete ha opc st res
  unfold State.refuse
  dsimp only
  split
  · exact ⟨hc.modRing _ (fun x => rfl) (fun x => rfl), ho.modRing _ _ _⟩
  · exact ⟨hc, ho⟩

/-! ### Acceptance -/

theorem State.accepts_accept (s : State) (h : CmdHead) (opc arg default_ : Nat) :
    Accepts s ((s.afterRecord h).accept h opc arg default_) h (outstanding h opc arg default_) :=
  ⟨s.taken_afterRecord h, rfl, s.due_afterRecord h⟩

/-! ### Evaluation -/

theorem State.reads.active {s : State} {h : CmdHead} {opc : Nat} {k : RingKind} {named : Bool} (hr : s.reads h opc k named) :
    (s.ring h.fn h.ring).state = .active :=
  State.active_of_frame_read hr.1

/-- Where no shared refusal applies, a command is refused for its own ranges first, then for the state (R516). -/
theorem State.reads.refusal {s : State} {h : CmdHead} {opc : Nat} {k : RingKind} {named : Bool} (hr : s.reads h opc k named)
    (bad legal : Bool) :
    s.refusal h opc k named bad legal =
      if bad then some .badCommand else if legal then none else some .wrongState := by
  obtain ⟨-, hnone⟩ := hr
  unfold State.refusal at hnone ⊢
  dsimp only at hnone ⊢
  split at hnone
  · simp at hnone
  rename_i hready
  split at hnone
  · simp at hnone
  rename_i hbrake
  split at hnone
  · simp at hnone
  rename_i hwell
  split at hnone
  · simp at hnone
  rename_i hreset
  rw [if_neg hready, if_neg hbrake, if_neg hreset]
  cases bad
  · rw [if_neg hwell]
    cases legal <;> rfl
  · simp

/-- A command that is read and that no shared refusal stops: refused for its own ranges, then for the state, else run. -/
theorem State.reads.command {s : State} {h : CmdHead} {opc : Nat} {k : RingKind} {named : Bool} (hr : s.reads h opc k named)
    (bad legal : Bool) (res : List Byte) (run : State → State) :
    s.command h opc k named bad legal res run =
      if bad then (s.afterRecord h).refuse (headRef h opc) .badCommand res
      else if legal then run (s.afterRecord h)
      else (s.afterRecord h).refuse (headRef h opc) .wrongState res := by
  unfold State.command
  rw [hr.1, hr.refusal bad legal]
  cases bad <;> cases legal <;> rfl

end Sys2Proof.Machine
end

section
/-! SUPPORT and PROOF. CFG_COMMIT (R40). -/

namespace Sys2Proof.Machine

/-! ### The sets after a commit -/

/-- A table with the values under one key changed shows the change under that key. -/
theorem alook_map_key_self {α : Type} (l : List (Nat × α)) (i : Nat) (f : α → α) :
    alook (l.map (fun e => if e.1 = i then (i, f e.2) else e)) i = (alook l i).map f := by
  induction l with
  | nil => rfl
  | cons e t ih =>
    by_cases h : e.1 = i
    · simp [alook, h]
    · simp [alook, h, ih]

theorem alook_map_key_ne {α : Type} (l : List (Nat × α)) (i j : Nat) (f : α → α) (hj : j ≠ i) :
    alook (l.map (fun e => if e.1 = i then (i, f e.2) else e)) j = alook l j := by
  induction l with
  | nil => rfl
  | cons e t ih =>
    by_cases h : e.1 = i
    · simp [alook, h, hj.symm, ih]
    · simp [alook, h, ih]

/-- A change set committed for the boundary before a turn (R40). -/
def ChangeSet.commitFor (turn : Nat) (z : ChangeSet) : ChangeSet := { z with state := .committed, commit := turn }

/-- A change set that CFG_COMMIT takes: OPEN or STAGED (R40). -/
def State.committable (s : State) (id : Nat) : Prop := ∃ z, alook s.sets id = some z ∧ (z.state = .opened ∨ z.state = .staged)

/-- The state after CFG_COMMIT is accepted. -/
def State.committed (s : State) (h : CmdHead) (id turn : Nat) : State :=
  { (s.afterRecord h).accept h 0x05 id (turn - s.turn.no + 2) with
    sets := s.sets.map (fun e => if e.1 = id then (id, e.2.commitFor turn) else e) }

theorem State.committed_accepts (s : State) (h : CmdHead) (id turn : Nat) :
    Accepts s (s.committed h id turn) h (outstanding h 0x05 id (turn - s.turn.no + 2)) :=
  s.accepts_accept h 0x05 id (turn - s.turn.no + 2)

theorem State.committed_frame (s : State) (h : CmdHead) (id turn : Nat) :
    let t := s.committed h id turn
    t = { s with fns := t.fns, cmds := t.cmds, readUnits := t.readUnits, sets := t.sets } := rfl

/-! ### The three outcomes -/

theorem exec_cfgCommit_out_of_range {s : State} {h : CmdHead} {id turn : Nat} (hr : s.reads h 0x05 .management false)
    (hout : turn < s.turn.no + 2 ∨ s.turn.no + 65536 < turn) :
    exec (.cfgCommit h id turn) s = .next ((s.afterRecord h).refuse (headRef h 0x05) .badCommand []) := by
  simp [execCfgCommit, hr.command, hout]

theorem exec_cfgCommit_not_committable {s : State} {h : CmdHead} {id turn : Nat} (hr : s.reads h 0x05 .management false)
    (hin : ¬(turn < s.turn.no + 2 ∨ s.turn.no + 65536 < turn)) (hset : ¬s.committable id) :
    exec (.cfgCommit h id turn) s = .next ((s.afterRecord h).refuse (headRef h 0x05) .wrongState []) := by
  cases hz : alook s.sets id with
  | none => simp [execCfgCommit, hr.command, hin, hz]
  | some z =>
    have hstate : ¬(z.state = .opened ∨ z.state = .staged) := fun hlive => hset ⟨z, hz, hlive⟩
    simp [execCfgCommit, hr.command, hin, hz, hstate]

theorem exec_cfgCommit_committable {s : State} {h : CmdHead} {id turn : Nat} (hr : s.reads h 0x05 .management false)
    (hin : ¬(turn < s.turn.no + 2 ∨ s.turn.no + 65536 < turn)) (hset : s.committable id) :
    exec (.cfgCommit h id turn) s = .next (s.committed h id turn) := by
  obtain ⟨z, hz, hstate⟩ := hset
  simp [execCfgCommit, hr.command, hin, hz, hstate, State.committed, State.accept, ChangeSet.commitFor]

end Sys2Proof.Machine

open Sys2Proof Sys2Proof.Machine

/-- Settles O42: CFG_COMMIT is taken whatever its CONTEXT byte says (log 34, DEDUCED); the command's own range (R40) is
judged before the state of its set, and an accepted commit rewrites only the entries under its CHANGE_ID. -/
theorem changesCommitted : Obligations.ChangesCommitted := by
  intro s h id turn hr
  have refused (st : Status) := State.completes_refuse (s := s) (h := h) hr.active 0x05 st []
  refine ⟨fun hout => ?_, fun hin hdead => ?_, fun z hin hz hstate => ?_⟩
  · exact ⟨_, exec_cfgCommit_out_of_range hr (by omega), refused .badCommand⟩
  · have hset : ¬s.committable id := fun ⟨z, hz, hlive⟩ => hlive.elim (hdead z hz).1 (hdead z hz).2
    exact ⟨_, exec_cfgCommit_not_committable hr (by omega) hset, refused .wrongState⟩
  · refine ⟨_, exec_cfgCommit_committable hr (by omega) ⟨z, hz, hstate⟩, s.committed_accepts h id turn, ?_, fun k hk => ?_,
      s.committed_frame h id turn⟩
    · exact (alook_map_key_self s.sets id (ChangeSet.commitFor turn)).trans (congrArg _ hz)
    · exact alook_map_key_ne s.sets id k (ChangeSet.commitFor turn) hk

end

section
/-! SUPPORT and PROOF. The register, immediate, compare, predicate and move operations of the scalar slot (R126). -/

namespace Sys2Proof.Machine

/-! ### A lone scalar operation with one result -/

/-- Site `i` of `s` can issue, and the guard `g` of the operation holds there. -/
structure State.Issues (s : State) (i : Nat) (g : Guard) : Prop where
  can : s.canIssue i = true
  guard : (s.site i).guard g = true

/-- The site as its bundle finds it: its clock is at the issue cycle. -/
def State.atClock (s : State) (i : Nat) : Site := (s.site i).clocked (s.issueCycle i)

/-- What the bundle of a scalar operation does when its guard holds and its body puts one result in flight (R119, R120). -/
theorem State.slots5_scalar_later {s : State} {i at_ : Nat} {op : ScalarOp} {res : Result} (h : s.Issues i (scalarGuard op))
    (hbody : ∀ busy, (s.atClock i).scalarBody (s.issueCycle i) busy op = ((s.atClock i).later at_ rankScalar res, .fall)) :
    (s.atClock i).slots5 (s.issueCycle i) (loneScalar op) Checks.clean =
      ((((s.atClock i).later at_ rankScalar res).finish (s.issueCycle i) .fall).clocked (s.issueCycle i + 1), []) := by
  obtain ⟨-, -, -, -, hidle⟩ := (s.canIssue_iff i).mp h.can
  obtain ⟨-, hfeeds, hloads, hreload, -⟩ := (s.site i).idle_iff.mp hidle
  have hguard : (s.atClock i).guard (scalarGuard op) = true := h.guard
  have hwide : ((s.atClock i).later at_ rankScalar res).wide (s.issueCycle i) = (s.atClock i).later at_ rankScalar res :=
    Site.wide_none _ _ hfeeds hloads hreload
  simp only [Site.slots5_scalar, Site.issueScalar, if_pos hguard, hbody, hwide]

theorem State.writesS_scalar {s : State} {i r lat : Nat} {c : Instr} {op : ScalarOp} {v : Word}
    (h : s.Issues i (scalarGuard op)) (hlat : 1 ≤ lat) (he : exec c s = .next (s.issueAt i (loneScalar op) Checks.clean))
    (hbody : ∀ busy, (s.atClock i).scalarBody (s.issueCycle i) busy op =
      ((s.atClock i).later (s.issueCycle i + lat) rankScalar (.s r v), .fall)) : WritesS s i c r lat v :=
  s.writesS i r lat rankScalar c _ v he h.can hlat (by decide) rfl (State.slots5_scalar_later h hbody)

theorem State.writesP_scalar {s : State} {i r : Nat} {c : Instr} {op : ScalarOp} {v : Bool}
    (h : s.Issues i (scalarGuard op)) (he : exec c s = .next (s.issueAt i (loneScalar op) Checks.clean))
    (hbody : ∀ busy, (s.atClock i).scalarBody (s.issueCycle i) busy op =
      ((s.atClock i).later (s.issueCycle i + 1) rankScalar (.p r v), .fall)) : WritesP s i c r v :=
  s.writesP i r rankScalar c _ v he h.can (by decide) rfl (State.slots5_scalar_later h hbody)

/-! ### One rule per form of Table 4.3 -/

theorem one_le_aluLatency (op : AluOp) : 1 ≤ aluLatency op := by cases op <;> decide

theorem State.writesS_alu {s : State} {i : Nat} {c : Instr} {f : FmtSR} (h : s.Issues i f.g) (op : AluOp) {v : Word}
    (he : exec c s = .next (s.issueAt i (loneScalar (.alu op f)) Checks.clean))
    (hv : aluFn op ((s.site i).sreg f.sa.toNat) ((s.site i).sreg f.sb.toNat) = v) :
    WritesS s i c f.sd.toNat (aluLatency op) v := by
  subst hv
  exact State.writesS_scalar (op := .alu op f) h (one_le_aluLatency op) he (fun _ => rfl)

theorem State.writesS_alui {s : State} {i : Nat} {c : Instr} {f : FmtSI} (h : s.Issues i f.g) (op : AluImmOp) {v : Word}
    (he : exec c s = .next (s.issueAt i (loneScalar (.alui op f)) Checks.clean))
    (hv : aluFn (aluImmOp op) ((s.site i).sreg f.sa.toNat) f.imm = v) :
    WritesS s i c f.sd.toNat (aluLatency (aluImmOp op)) v := by
  subst hv
  exact State.writesS_scalar (op := .alui op f) h (one_le_aluLatency _) he (fun _ => rfl)

theorem State.writesP_cmp {s : State} {i : Nat} {c : Instr} {f : FmtPC} (h : s.Issues i f.g) (rel : Rel) {v : Bool}
    (he : exec c s = .next (s.issueAt i (loneScalar (.cmp rel f)) Checks.clean))
    (hv : relFn rel ((s.site i).sreg f.sa.toNat) ((s.site i).sreg f.sb.toNat) = v) : WritesP s i c f.pd.toNat v := by
  subst hv
  exact State.writesP_scalar (op := .cmp rel f) h he (fun _ => rfl)

theorem State.writesP_cmpi {s : State} {i : Nat} {c : Instr} {f : FmtPCI} (h : s.Issues i f.g) (rel : Rel) {v : Bool}
    (he : exec c s = .next (s.issueAt i (loneScalar (.cmpi rel f)) Checks.clean))
    (hv : relFn rel ((s.site i).sreg f.sa.toNat) f.imm = v) : WritesP s i c f.pd.toNat v := by
  subst hv
  exact State.writesP_scalar (op := .cmpi rel f) h he (fun _ => rfl)

theorem State.writesP_plog {s : State} {i : Nat} {c : Instr} {f : FmtPL} (h : s.Issues i f.g) (op : LogicOp)
    (he : exec c s = .next (s.issueAt i (loneScalar (.plog op f)) Checks.clean)) :
    WritesP s i c f.pd.toNat
      (logicFn op ((s.site i).preg f.pa.toNat ^^ (f.na == 1)) ((s.site i).preg f.pb.toNat ^^ (f.nb == 1))) :=
  State.writesP_scalar (op := .plog op f) h he (fun _ => rfl)

/-! ### The values of Table 4.3 -/

theorem toNat_and_31 (b : Word) : (b &&& 31).toNat = b.toNat % 32 := Nat.and_two_pow_sub_one_eq_mod b.toNat 5

/-- The product of two words fits 64 bits, so that its high half is no truncation. -/
theorem aluFn_mulhu (a b : Word) : aluFn .mulhu a b = ((a.setWidth 64 * b.setWidth 64) >>> 32).setWidth 32 := by
  have hfits : a.toNat * b.toNat < 2 ^ 32 * 2 ^ 32 := Nat.mul_lt_mul'' a.isLt b.isLt
  have hmod : a.toNat * b.toNat % 18446744073709551616 = a.toNat * b.toNat := Nat.mod_eq_of_lt hfits
  apply BitVec.eq_of_toNat_eq
  simp [aluFn, Nat.shiftRight_eq_div_pow, hmod]

theorem aluFn_shl (a b : Word) : aluFn .shl a b = a <<< (b &&& 31) := by
  rw [BitVec.shiftLeft_eq', toNat_and_31]; rfl

theorem aluFn_shr (a b : Word) : aluFn .shr a b = a >>> (b &&& 31) := by
  rw [BitVec.ushiftRight_eq', toNat_and_31]; rfl

theorem aluFn_sra (a b : Word) : aluFn .sra a b = a.sshiftRight (b &&& 31).toNat := by
  rw [toNat_and_31]; rfl

theorem aluFn_shl_of_lt (a : Word) {b : Word} (hb : b.toNat < 32) : aluFn .shl a b = a <<< b.toNat :=
  congrArg (a <<< ·) (Nat.mod_eq_of_lt hb)

theorem aluFn_shr_of_lt (a : Word) {b : Word} (hb : b.toNat < 32) : aluFn .shr a b = a >>> b.toNat :=
  congrArg (a >>> ·) (Nat.mod_eq_of_lt hb)

theorem aluFn_sra_of_lt (a : Word) {b : Word} (hb : b.toNat < 32) : aluFn .sra a b = a.sshiftRight b.toNat :=
  congrArg a.sshiftRight (Nat.mod_eq_of_lt hb)

/-- A choice by a strict comparison is the choice by the weak one where equal keys mean equal results. -/
theorem ite_lt_eq_ite_le {κ α : Type} [LinearOrder κ] {p q : κ} {x y : α} (h : p = q → x = y) :
    (if p < q then x else y) = if p ≤ q then x else y := by
  rcases lt_trichotomy p q with hlt | heq | hgt
  · rw [if_pos hlt, if_pos hlt.le]
  · rw [h heq, ite_self, ite_self]
  · rw [if_neg hgt.not_gt, if_neg hgt.not_ge]

theorem aluFn_min (a b : Word) : aluFn .min a b = if a.toInt ≤ b.toInt then a else b := by
  simp only [aluFn, BitVec.slt_iff_toInt_lt]
  exact ite_lt_eq_ite_le BitVec.eq_of_toInt_eq

theorem aluFn_max (a b : Word) : aluFn .max a b = if a.toInt ≤ b.toInt then b else a := by
  simp only [aluFn, BitVec.slt_iff_toInt_lt]
  exact ite_lt_eq_ite_le fun h => (BitVec.eq_of_toInt_eq h).symm

theorem aluFn_minu (a b : Word) : aluFn .minu a b = if a.toNat ≤ b.toNat then a else b := by
  simp only [aluFn, BitVec.lt_def]
  exact ite_lt_eq_ite_le BitVec.eq_of_toNat_eq

theorem aluFn_maxu (a b : Word) : aluFn .maxu a b = if a.toNat ≤ b.toNat then b else a := by
  simp only [aluFn, BitVec.lt_def]
  exact ite_lt_eq_ite_le fun h => (BitVec.eq_of_toNat_eq h).symm

theorem relFn_ne (a b : Word) : relFn .ne a b = decide (a ≠ b) := by
  rw [decide_not]; rfl

end Sys2Proof.Machine

open Sys2Proof Sys2Proof.Machine

/-- Settles O5: each operation is the lone scalar operation of its form, whose one result lands after the latency of Table
4.3; what remains is the value that the operation computes (R126). -/
theorem scalarOperations : Obligations.ScalarOperations := by
  refine ⟨fun s i f hcan hg => ?registers, fun s i f hcan hg => ?immediates, fun s i f e hcan hf he => ?compares,
    fun s i f k sd hcan hf hk => ?predicates⟩
  case registers =>
    have alu := @State.writesS_alu s i
    have h : s.Issues i f.g := ⟨hcan, hg⟩
    exact ⟨alu h .add rfl rfl, alu h .sub rfl rfl, alu h .mul rfl rfl, alu h .mulhu rfl (aluFn_mulhu _ _),
      alu h .and rfl rfl, alu h .or rfl rfl, alu h .xor rfl rfl, alu h .shl rfl (aluFn_shl _ _),
      alu h .shr rfl (aluFn_shr _ _), alu h .sra rfl (aluFn_sra _ _), alu h .min rfl (aluFn_min _ _),
      alu h .max rfl (aluFn_max _ _), alu h .minu rfl (aluFn_minu _ _), alu h .maxu rfl (aluFn_maxu _ _)⟩
  case immediates =>
    have alui := @State.writesS_alui s i
    have h : s.Issues i f.g := ⟨hcan, hg⟩
    refine ⟨alui h .add rfl rfl, alui h .mul rfl rfl, alui h .and rfl rfl, alui h .or rfl rfl, alui h .xor rfl rfl,
      State.writesS_scalar (op := .movi f.g f.sd f.imm) h le_rfl rfl (fun _ => rfl), fun hamount => ?_⟩
    exact ⟨alui h .shl rfl (aluFn_shl_of_lt _ hamount), alui h .shr rfl (aluFn_shr_of_lt _ hamount),
      alui h .sra rfl (aluFn_sra_of_lt _ hamount)⟩
  case compares =>
    have cmp := @State.writesP_cmp s i
    have cmpi := @State.writesP_cmpi s i
    have h : s.Issues i f.g := ⟨hcan, hf⟩
    have h' : s.Issues i e.g := ⟨hcan, he⟩
    exact ⟨cmp h .eq rfl rfl, cmp h .ne rfl (relFn_ne _ _), cmp h .lt rfl rfl, cmp h .le rfl rfl, cmp h .ltu rfl rfl,
      cmp h .leu rfl rfl, cmpi h' .eq rfl rfl, cmpi h' .ne rfl (relFn_ne _ _), cmpi h' .lt rfl rfl, cmpi h' .le rfl rfl,
      cmpi h' .ltu rfl rfl, cmpi h' .leu rfl rfl⟩
  case predicates =>
    have h : s.Issues i f.g := ⟨hcan, hf⟩
    have h' : s.Issues i k.g := ⟨hcan, hk⟩
    exact ⟨State.writesP_plog h .and rfl, State.writesP_plog h .or rfl, State.writesP_plog h .xor rfl,
      State.writesS_scalar (op := .movk k) h' le_rfl rfl (fun _ => rfl),
      State.writesS_scalar (op := .rdid f.g sd) h le_rfl rfl (fun _ => rfl)⟩

end

section
/-! SUPPORT. A lone vector operation whose results all land in one cycle, or that stops the site (R101, R120, R150). -/

namespace Sys2Proof.Machine

/-! ### Several results that land together -/

/-- A scalar register's result: the only kind whose landing depends on what else lands with it. -/
def Result.isScalar : Result → Bool
  | .s _ _ => true
  | _ => false

/-- Results of one slot that land in cycle `c`. -/
def landingsAt (c rank : Nat) (rs : List Result) : List Landing := rs.map fun r => { at_ := c, rank := rank, res := r }

/-- The site with the results `rs` of one slot put in flight together. -/
def Site.laters (a : Site) (c rank : Nat) (rs : List Result) : Site :=
  { a with seq := { a.seq with landings := a.seq.landings ++ landingsAt c rank rs } }

theorem Site.laters_nil (a : Site) (c rank : Nat) : a.laters c rank [] = a := by
  simp [Site.laters, landingsAt]

theorem Site.later_later (a : Site) (c rank : Nat) (r q : Result) :
    (a.later c rank r).later c rank q = a.laters c rank [r, q] := by
  simp [Site.later, Site.laters, landingsAt]

theorem Landing.settled_of_not_scalar (a : Site) (due : List Landing) {e : Landing} (h : e.res.isScalar = false) :
    e.settled a due = e.res := by
  obtain ⟨at_, rank, res⟩ := e
  cases res with
  | s r v => simp [Result.isScalar] at h
  | _ => rfl

theorem Site.foldl_apply_landings (rs : List Result) (a : Site) : (rs.foldl Site.apply a).seq.landings = a.seq.landings := by
  induction rs generalizing a with
  | nil => rfl
  | cons r t ih => rw [List.foldl_cons, ih, Site.apply_landings]

theorem Site.foldl_apply_feeds (rs : List Result) (a : Site) : (rs.foldl Site.apply a).mat.feeds = a.mat.feeds := by
  induction rs generalizing a with
  | nil => rfl
  | cons r t ih => rw [List.foldl_cons, ih, Site.apply_feeds]

/-- Results of one slot do not prevail over one another (R123). -/
theorem beaten_landingsAt {c rank : Nat} {rs : List Result} {e : Landing} (he : e ∈ landingsAt c rank rs) :
    e.beaten (landingsAt c rank rs) = false := by
  obtain ⟨r, -, rfl⟩ := List.mem_map.mp he
  simp only [Landing.beaten]
  split
  · rfl
  · simp [landingsAt]

/-- The slot's turn in the order of R123 takes all its results, and every other turn none. -/
theorem filter_rank_landingsAt (c rank k : Nat) (rs : List Result) :
    (landingsAt c rank rs).filter (fun e => e.rank == k && !e.beaten (landingsAt c rank rs)) =
      if rank = k then landingsAt c rank rs else [] := by
  have hrank : ∀ e ∈ landingsAt c rank rs, e.rank = rank := by simp [landingsAt]
  split
  case isTrue h =>
    rw [List.filter_eq_self]
    intro e he
    simp [hrank e he, ← h, beaten_landingsAt he]
  case isFalse h =>
    rw [List.filter_eq_nil_iff]
    intro e he
    simp [hrank e he, h]

/-- Results that land together take effect in the order in which they were put in flight. -/
theorem Site.land_laters {a : Site} {c rank : Nat} {rs : List Result} (hl : a.seq.landings = landingsAt c rank rs)
    (hrank : rank < 5) (hrs : ∀ r ∈ rs, r.isScalar = false) : a.land c = (rs.foldl Site.apply a).landed := by
  have hat : ∀ e ∈ landingsAt c rank rs, e.at_ = c := by simp [landingsAt]
  have hdue : (landingsAt c rank rs).filter (fun e => e.at_ == c) = landingsAt c rank rs :=
    List.filter_eq_self.mpr fun e he => by simp [hat e he]
  have hrest : (landingsAt c rank rs).filter (fun e => e.at_ != c) = [] :=
    List.filter_eq_nil_iff.mpr fun e he => by simp [hat e he]
  have hordered : (List.range 5).flatMap (fun k => if rank = k then landingsAt c rank rs else []) = landingsAt c rank rs := by
    obtain rfl | rfl | rfl | rfl | rfl : rank = 0 ∨ rank = 1 ∨ rank = 2 ∨ rank = 3 ∨ rank = 4 := by omega
    all_goals simp [show List.range 5 = [0, 1, 2, 3, 4] from rfl]
  have hfold : (landingsAt c rank rs).foldl (fun t e => t.apply (e.settled a (landingsAt c rank rs))) a =
      rs.foldl Site.apply a := by
    unfold landingsAt
    rw [List.foldl_map]
    exact List.foldl_ext _ _ _ fun t r hr => congrArg t.apply (Landing.settled_of_not_scalar _ _ (hrs r hr))
  simp only [Site.land, hl, hdue, filter_rank_landingsAt, hordered, hfold, Site.foldl_apply_landings, hrest, Site.landed]

/-! ### The bundle of a vector operation -/

/-- The next bundle in sequence outside every loop, also where the site has stopped (R101, R127). -/
theorem Site.finish_fall_of_no_loops (a : Site) (n : Nat) (hl : a.seq.loops = []) :
    a.finish n .fall = { a with seq := { a.seq with pc := a.seq.pc + 1, next := n + 1 } } := by
  simp only [Site.finish, Site.inSequence, hl, evalLoops, List.foldl_nil]

/-- A lone vector operation issues on the site as it stands; the bundle then ends in sequence. -/
theorem State.issue_vec {s : State} {i : Nat} (hcan : s.canIssue i = true) (op : VecOp) {a : Site}
    (hvec : (s.atClock i).issueVec (s.issueCycle i) op = a) (hmat : a.mat = (s.site i).mat)
    (hreload : a.reload = (s.site i).reload) (hloops : a.seq.loops = (s.site i).seq.loops) :
    (s.site i).issue s.turn.geom.work (loneVec op) Checks.clean =
      ({ a with seq := { a.seq with pc := a.seq.pc + 1, next := s.issueCycle i + 1, clock := s.issueCycle i + 1 } }, []) := by
  obtain ⟨hrun, hpc, hnext, hclock, hidle⟩ := (s.canIssue_iff i).mp hcan
  obtain ⟨-, hfeeds, hloads, hnone, hnoloop⟩ := (s.site i).idle_iff.mp hidle
  have hwide : a.wide (s.issueCycle i) = a :=
    a.wide_none _ (by rw [hmat, hfeeds]) (by rw [hmat, hloads]) (hreload.trans hnone)
  rw [Site.issue_idle _ _ _ _ hrun hpc hnext hclock hidle rfl]
  change (s.atClock i).slots5 (s.issueCycle i) (loneVec op) Checks.clean = _
  rw [Site.slots5_vec, hvec, hwide, a.finish_fall_of_no_loops _ (hloops.trans hnoloop)]
  rfl

/-- The site once a lone bundle has issued and put the results `rs` in flight. -/
def State.inFlight (s : State) (i c rank : Nat) (rs : List Result) : Site :=
  { s.site i with seq := { (s.site i).seq with
      clock := s.issueCycle i + 1, pc := (s.site i).seq.pc + 1, next := s.issueCycle i + 1, landings := landingsAt c rank rs } }

theorem State.issueAt_vec {s : State} {i : Nat} (hcan : s.canIssue i = true) (op : VecOp) {rs : List Result} {c : Nat}
    (hvec : (s.atClock i).issueVec (s.issueCycle i) op = (s.atClock i).laters c rankVector rs) :
    (s.issueAt i (loneVec op) Checks.clean).site i = s.inFlight i c rankVector rs ∧
      Moved s (s.issueAt i (loneVec op) Checks.clean) i := by
  obtain ⟨hrun, -, -, -, hidle⟩ := (s.canIssue_iff i).mp hcan
  obtain ⟨hempty, -⟩ := (s.site i).idle_iff.mp hidle
  have hissue := State.issue_vec hcan op hvec rfl rfl rfl
  obtain ⟨hsite, honly⟩ := s.issueAt_lone i _ _ hissue rfl rfl rfl
  have hflight : (s.issueAt i (loneVec op) Checks.clean).site i = s.inFlight i c rankVector rs := by
    rw [hsite]
    simp [Site.laters, State.atClock, Site.clocked, State.inFlight, hempty]
  refine ⟨hflight, honly, ?_, ?_, ?_⟩ <;> rw [hflight]
  · rfl
  · rfl
  · exact hrun

/-- The site as such a bundle's results land, with its clock in that cycle. -/
theorem State.seen_inFlight {s t : State} {i c rank : Nat} {rs : List Result} (hcan : s.canIssue i = true)
    (hc : s.issueCycle i + 1 ≤ c) (hrank : rank < 5) (hrs : ∀ r ∈ rs, r.isScalar = false)
    (ht : t.site i = s.inFlight i c rank rs) :
    t.seen i c = (rs.foldl Site.apply ((s.inFlight i c rank rs).clocked c)).landed := by
  obtain ⟨-, -, -, -, hidle⟩ := (s.canIssue_iff i).mp hcan
  obtain ⟨-, hfeeds, hloads, hreload, -⟩ := (s.site i).idle_iff.mp hidle
  have hlast : ∀ e ∈ landingsAt c rank rs, c ≤ e.at_ := by simp [landingsAt]
  have hfed : (rs.foldl Site.apply ((s.inFlight i c rank rs).clocked c)).landed.mat.feeds = [] :=
    (Site.foldl_apply_feeds rs _).trans hfeeds
  rw [State.seen, ht, (s.inFlight i c rank rs).settle_hold c ((Nat.le_refl _).trans hc) hlast hfeeds hloads hreload, Site.arrive, Site.land_laters rfl hrank hrs,
    Site.landRows_none _ _ hfed, Site.feedCheck_none _ _ hfed]

/-! ### A bundle that stops its site -/

/-- The causes that the check page counts (Table 13.17). -/
def Cause.isCounted (c : Cause) : Bool := c == .lockstep || c == .residue || c == .eccUe

/-- An update that leaves its own quadrant as it was changes no quadrant. -/
theorem State.quad_modQuad_of_fixed (s : State) (q r : Nat) (f : Quad → Quad) (h : r = q → f (s.quad r) = s.quad r) :
    (s.modQuad q f).quad r = s.quad r := by
  rw [State.quad_modQuad]
  split
  case isTrue hr => rw [← hr, h hr]
  case isFalse => rfl

/-- Without a stall nothing is counted (R121, R211). -/
theorem State.quad_countSite_of_no_stall (s : State) (i q : Nat) (old : Site) (hfit : (s.quad q).countersFit = true)
    (hrecv : (s.site i).seq.stalls = old.seq.stalls) (hsteer : (s.site i).seq.steerStalls = old.seq.steerStalls) :
    (s.countSite i old 0).quad q = s.quad q := by
  obtain ⟨h1, h2, h3, -⟩ := (s.quad q).countersFit_iff.mp hfit
  refine s.quad_modQuad_of_fixed _ q _ fun _ => ?_
  simp only [hrecv, hsteer, Nat.sub_self, bump32_zero _ h1, bump32_zero _ h2, bump32_zero _ h3]

/-- A fault that is no hardware check is not counted (Table 13.17). -/
theorem State.quad_countChecks_of_uncounted (s : State) (i q : Nat) (old : Site) (hfit : (s.quad q).countersFit = true)
    (hfresh : ∀ f ∈ (s.site i).faults.drop old.faults.length, f.cause.isCounted = false) :
    (s.countChecks i old).quad q = s.quad q := by
  obtain ⟨-, -, -, h4, h5, h6, -⟩ := (s.quad q).countersFit_iff.mp hfit
  have hnone : ∀ k : Cause, k.isCounted = true →
      ((s.site i).faults.drop old.faults.length).filter (fun f => f.cause == k) = [] := fun k hk => by
    rw [List.filter_eq_nil_iff]
    intro f hf hfk
    rw [← eq_of_beq hfk, hfresh f hf] at hk
    exact absurd hk (by decide)
  refine s.quad_modQuad_of_fixed _ q _ fun _ => ?_
  simp only [hnone .lockstep rfl, hnone .residue rfl, hnone .eccUe rfl, List.length_nil, bump16_zero _ h4, bump16_zero _ h5,
    bump16_zero _ h6]

/-- A lone bundle that raises a fault of a plan or of its data changes its own site alone. -/
theorem State.issueAt_raised {s : State} {i : Nat} {b : Bundle} {x : Site}
    (h : (s.site i).issue s.turn.geom.work b Checks.clean = (x, []))
    (hrecv : x.seq.stalls = (s.site i).seq.stalls) (hsteer : x.seq.steerStalls = (s.site i).seq.steerStalls)
    (hfresh : ∀ f ∈ x.faults.drop (s.site i).faults.length, f.cause.isCounted = false) :
    (s.issueAt i b Checks.clean).site i = x ∧ OnlySite s (s.issueAt i b Checks.clean) i := by
  have hstep : s.issueAt i b Checks.clean = ((s.setSite i x).countSite i (s.site i) 0).countChecks i (s.site i) := by
    change (((s.setSite i ((s.site i).issue _ b Checks.clean).1).dispatch i ((s.site i).issue _ b Checks.clean).2).countSite i
      (s.site i) 0).countChecks i (s.site i) = _
    rw [h]
    rfl
  have hsite : (s.issueAt i b Checks.clean).site i = x := by
    rw [hstep]
    exact State.site_setSite_self s i x
  refine ⟨hsite, ?_, fun j hj => ?_, fun q hq => ?_⟩ <;> rw [hstep]
  · rfl
  · exact State.site_setSite_ne s i j x hj
  · have hfaults : ∀ f ∈ (((s.setSite i x).countSite i (s.site i) 0).site i).faults.drop (s.site i).faults.length,
        f.cause.isCounted = false := by
      change ∀ f ∈ ((s.setSite i x).site i).faults.drop _, _
      rwa [State.site_setSite_self]
    have hcount : ((s.setSite i x).countSite i (s.site i) 0).quad q = s.quad q :=
      (s.setSite i x).quad_countSite_of_no_stall i q (s.site i) hq (by rwa [State.site_setSite_self])
        (by rwa [State.site_setSite_self])
    rw [State.quad_countChecks_of_uncounted _ _ _ _ (by rwa [hcount]) hfaults, hcount]

/-- With nothing in flight cycles pass without a trace but the clock's. -/
theorem Site.settle_of_idle (a : Site) (c : Nat) (h : a.idle = true) : ∃ k, a.settle c = a.clocked k := by
  rcases Nat.le_total a.seq.clock c with hle | hle
  · exact ⟨c, a.settle_idle c h hle⟩
  · refine ⟨max a.seq.clock c, ?_⟩
    rw [Site.settle, Nat.sub_eq_zero_of_le hle]
    rfl

theorem State.seen_sameRegs_of_idle {t : State} {i : Nat} (h : (t.site i).idle = true) (c : Nat) :
    (t.seen i c).sameRegs (t.site i) := by
  obtain ⟨k, hk⟩ := (t.site i).settle_of_idle c h
  rw [State.seen, hk, Site.arrive_idle _ _ (Site.idle_clocked _ _ h)]
  exact ⟨fun _ => rfl, fun _ => rfl, fun _ => rfl, fun _ => rfl, fun _ => rfl⟩

/-- A vector operation that raises a fault leaves the registers, and the site has stopped (R101). -/
theorem State.stopsWith_vec {s : State} {i : Nat} {c : Instr} {op : VecOp} {cause : Cause} {detail : Nat} {data : List Byte}
    (he : exec c s = .next (s.issueAt i (loneVec op) Checks.clean)) (hcan : s.canIssue i = true)
    (hcause : cause.isCounted = false)
    (hvec : (s.atClock i).issueVec (s.issueCycle i) op = (s.atClock i).raise cause detail (s.issueCycle i) data) :
    StopsWith s i c cause detail := by
  obtain ⟨hrun, -, -, -, hidle⟩ := (s.canIssue_iff i).mp hcan
  have hissue := State.issue_vec hcan op hvec rfl rfl rfl
  obtain ⟨hsite, honly⟩ := State.issueAt_raised hissue rfl rfl (by
    simpa [Site.raise, State.atClock, Site.clocked] using hcause)
  have hstill : ((s.issueAt i (loneVec op) Checks.clean).site i).idle = true := by rw [hsite]; exact hidle
  have hseen := fun n => State.seen_sameRegs_of_idle hstill n
  rw [hsite] at hseen
  refine ⟨_, he, honly, ?_, Or.inr ?_, ?_, ?_, hseen⟩ <;> rw [hsite]
  · simp [Site.raise, State.atClock, Site.clocked, hrun]
  · rfl
  · simp [Site.raise, State.atClock, Site.clocked]
  · rfl

end Sys2Proof.Machine
end

section
/-! SUPPORT and PROOF. The vector compares and mask logic (R163). -/

namespace Sys2Proof.Machine

/-! ### What a landing does to a mask and to the lanes' flags -/

theorem Site.vmreg_setVM (a : Site) (r q : Nat) (bits which : DWord) :
    (a.setVM r bits which).vmreg q =
      if q = 0 then BitVec.allOnes 64 else if q = r then (a.vmreg r &&& ~~~which) ||| (bits &&& which) else a.vmreg q := by
  by_cases hq : q = 0
  · simp [Site.vmreg, hq]
  by_cases hr : r = 0
  · simp [Site.setVM, hr, hq]
  by_cases hqr : q = r
  · subst hqr
    simp [Site.vmreg, Site.setVM, hq, alook_aset_self]
  · simp [Site.vmreg, Site.setVM, hq, hr, hqr, alook_aset_ne _ _ _ _ hqr]

/-- A mask's landing touches the vector unit's masks alone. -/
theorem Site.setVM_eq (a : Site) (r : Nat) (bits which : DWord) :
    a.setVM r bits which = { a with vec := { a.vec with vm := (a.setVM r bits which).vec.vm } } := by
  unfold Site.setVM
  split <;> rfl

theorem Site.orLane_eq (a : Site) (l : Nat) (f : Flags) :
    a.orLane l f = { a with vec := { a.vec with flags := (a.orLane l f).vec.flags } } := by
  unfold Site.orLane
  split <;> rfl

theorem Site.laneFlags_orLane (a : Site) (l k : Nat) (f : Flags) :
    (a.orLane l f).laneFlags k = if k = l then a.laneFlags k ||| f else a.laneFlags k := by
  unfold Site.orLane
  split
  case isTrue hf => simp [hf]
  case isFalse =>
    by_cases hk : k = l
    · subst hk
      simp [Site.laneFlags]
    · simp [hk, Site.laneFlags, aget_aset_ne _ _ _ _ _ hk]

/-- Flags ORed into some lanes, one after the other. -/
def Site.orLanes (a : Site) (ls : List Nat) (fs : Nat → Flags) : Site := ls.foldl (fun s l => s.orLane l (fs l)) a

theorem Site.orLanes_eq (ls : List Nat) (fs : Nat → Flags) (a : Site) :
    a.orLanes ls fs = { a with vec := { a.vec with flags := (a.orLanes ls fs).vec.flags } } := by
  induction ls generalizing a with
  | nil => rfl
  | cons l t ih =>
    rw [Site.orLanes, List.foldl_cons, ← Site.orLanes, ih, Site.orLane_eq]

theorem Site.laneFlags_orLanes (ls : List Nat) (fs : Nat → Flags) (a : Site) (k : Nat) :
    (a.orLanes ls fs).laneFlags k = if k ∈ ls then a.laneFlags k ||| fs k else a.laneFlags k := by
  induction ls generalizing a with
  | nil => rfl
  | cons l t ih =>
    rw [Site.orLanes, List.foldl_cons, ← Site.orLanes, ih, Site.laneFlags_orLane]
    by_cases hkl : k = l <;> by_cases hkt : k ∈ t <;> simp [hkl, hkt, BitVec.or_assoc]

/-! ### Masks as sets of lanes -/

/-- The mask of the lanes in a list that satisfy `p`, put on top of `w`. -/
theorem getLsbD_foldl_twoPow (p : Nat → Bool) (ls : List Nat) (w : DWord) {k : Nat} (hk : k < 64) :
    (ls.foldl (fun w l => if p l then w ||| BitVec.twoPow 64 l else w) w).getLsbD k = (w.getLsbD k || (decide (k ∈ ls) && p k)) := by
  induction ls generalizing w with
  | nil => simp
  | cons l t ih =>
    rw [List.foldl_cons, ih]
    by_cases hkl : k = l
    · subst hkl
      cases p k <;> simp [hk]
    · have hlk : ¬l = k := fun h => hkl h.symm
      cases hp : p l <;> simp [BitVec.getLsbD_twoPow, hkl, hlk]

/-- Bits of `old` kept outside a set of lanes, and taken from the lanes that satisfy `p` inside it. -/
theorem merge_masks (old : DWord) (act p : Nat → Bool) :
    (old &&& ~~~((laneNos.filter act).foldl (fun w l => w ||| BitVec.twoPow 64 l) 0)) |||
        ((laneNos.filter act).foldl (fun w l => if p l then w ||| BitVec.twoPow 64 l else w) 0 &&&
          (laneNos.filter act).foldl (fun w l => w ||| BitVec.twoPow 64 l) 0) =
      BitVec.ofFnLE (fun l : Fin 64 => if act l then p l else old.getLsbD l) := by
  apply BitVec.eq_of_getLsbD_eq
  intro k hk
  have hwhich := getLsbD_foldl_twoPow (fun _ => true) (laneNos.filter act) 0 hk
  have hbits := getLsbD_foldl_twoPow p (laneNos.filter act) 0 hk
  simp only [if_true] at hwhich
  simp only [BitVec.getLsbD_or, BitVec.getLsbD_and, BitVec.getLsbD_not, hwhich, hbits, BitVec.getLsbD_ofFnLE, hk]
  cases hact : act k <;> simp [laneNos, hk, hact]

/-! ### A site with one mask written -/

/-- Site `a` is site `b` with `v` in mask VM`r` and `fl` ORed into the lanes' flags, whatever its sequencer does. -/
structure Site.MaskWritten (b a : Site) (r : Nat) (v : DWord) (fl : Nat → Flags) : Prop where
  written : a.vmreg r = if r = 0 then BitVec.allOnes 64 else v
  others : ∀ q, q ≠ r → a.vmreg q = b.vmreg q
  flags : ∀ l, l < 64 → a.laneFlags l = b.laneFlags l ||| fl l
  vregs : ∀ q, a.vreg q = b.vreg q
  sregs : ∀ q, a.sreg q = b.sreg q
  pregs : ∀ q, a.preg q = b.preg q
  kregs : ∀ q, a.kreg q = b.kreg q
  rest : a = { b with seq := a.seq, vec := a.vec }

namespace Site.MaskWritten

variable {b a : Site} {r : Nat} {v : DWord} {fl : Nat → Flags}

/-- What changes masks and flags alone is judged by its masks and flags. -/
theorem update (h : b.MaskWritten a r v fl) {x : Site} {w : DWord} {gl : Nat → Flags}
    (hx : ∃ vm fs, x = { a with vec := { a.vec with vm := vm, flags := fs } })
    (hwritten : x.vmreg r = if r = 0 then BitVec.allOnes 64 else w) (hothers : ∀ q, q ≠ r → x.vmreg q = a.vmreg q)
    (hflags : ∀ l, l < 64 → x.laneFlags l = b.laneFlags l ||| gl l) : b.MaskWritten x r w gl := by
  obtain ⟨vm, fs, rfl⟩ := hx
  refine ⟨hwritten, fun q hq => (hothers q hq).trans (h.others q hq), hflags, h.vregs, h.sregs, h.pregs, h.kregs, ?_⟩
  conv_lhs => rw [h.rest]

theorem landed (h : b.MaskWritten a r v fl) : b.MaskWritten a.landed r v fl := by
  refine ⟨h.written, h.others, h.flags, h.vregs, h.sregs, h.pregs, h.kregs, ?_⟩
  unfold Site.landed
  conv_lhs => rw [h.rest]

theorem apply_vm (h : b.MaskWritten a r v fl) (bits which : DWord) :
    b.MaskWritten (a.apply (.vm r bits which)) r ((v &&& ~~~which) ||| (bits &&& which)) fl := by
  refine h.update ⟨_, _, a.setVM_eq r bits which⟩ ?_ (fun q hq => ?_) (fun l hl => ?_)
  · refine (a.vmreg_setVM r r bits which).trans ?_
    rw [h.written]
    by_cases hr : r = 0 <;> simp [hr]
  · refine (a.vmreg_setVM r q bits which).trans ?_
    by_cases hq0 : q = 0
    · simp [hq0, Site.vmreg]
    · simp [hq0, hq]
  · rw [← h.flags l hl]
    change (a.setVM r bits which).laneFlags l = _
    rw [Site.setVM_eq]
    rfl

theorem apply_flags (h : b.MaskWritten a r v fl) (dst : Nat × Nat) (gl : Nat → Flags) :
    b.MaskWritten (a.apply (.flags dst (laneNos.map gl))) r v (fun l => fl l ||| gl l) := by
  have horlanes : a.apply (.flags dst (laneNos.map gl)) = a.orLanes laneNos ((laneNos.map gl).getD · 0) := rfl
  rw [horlanes]
  refine h.update ⟨_, _, Site.orLanes_eq _ _ a⟩ ?_ (fun q hq => ?_) (fun l hl => ?_)
  · rw [Site.orLanes_eq, ← h.written]
    rfl
  · rw [Site.orLanes_eq]
    rfl
  · rw [Site.laneFlags_orLanes, h.flags l hl]
    simp [laneNos, hl, BitVec.or_assoc]

theorem congr (h : b.MaskWritten a r v fl) {w : DWord} {gl : Nat → Flags} (hv : v = w) (hfl : ∀ l, l < 64 → fl l = gl l) :
    b.MaskWritten a r w gl :=
  { h with written := hv ▸ h.written, flags := fun l hl => hfl l hl ▸ h.flags l hl }

end Site.MaskWritten

/-- A bundle with results in flight has written nothing yet. -/
theorem State.maskWritten_inFlight (s : State) (i c rank : Nat) (rs : List Result) (r : Nat) :
    (s.site i).MaskWritten ((s.inFlight i c rank rs).clocked c) r ((s.site i).vmreg r) (fun _ => 0) where
  written := by
    change (s.site i).vmreg r = _
    split
    case isTrue hr => rw [hr, Site.vmreg, if_pos rfl]
    case isFalse => rfl
  others _ _ := rfl
  flags _ _ := BitVec.or_zero.symm
  vregs _ := rfl
  sregs _ := rfl
  pregs _ := rfl
  kregs _ := rfl
  rest := rfl

/-- A lone vector operation whose results write one mask and some lanes' flags. -/
theorem State.writesVM_vec {s : State} {i : Nat} {c : Instr} {op : VecOp} {rs : List Result} {r : Nat} {v : DWord}
    {fl : Nat → Flags} (he : exec c s = .next (s.issueAt i (loneVec op) Checks.clean)) (hcan : s.canIssue i = true)
    (hvec : (s.atClock i).issueVec (s.issueCycle i) op = (s.atClock i).laters (s.issueCycle i + latVector) rankVector rs)
    (hrs : ∀ r ∈ rs, r.isScalar = false)
    (hland : ∀ a, (s.site i).MaskWritten a r ((s.site i).vmreg r) (fun _ => 0) →
      (s.site i).MaskWritten (rs.foldl Site.apply a) r v fl) : WritesVM s i c r v fl := by
  obtain ⟨hflight, hmoved⟩ := State.issueAt_vec hcan op hvec
  have hseen : (s.issueAt i (loneVec op) Checks.clean).seen i (s.issueCycle i + 4) = _ :=
    State.seen_inFlight hcan (Nat.add_le_add_left (by decide) _) (by decide) hrs hflight
  obtain ⟨hwritten, hothers, hflags, hvregs, hsregs, hpregs, hkregs, hrest⟩ := (hland _ (s.maskWritten_inFlight i _ _ _ r)).landed
  refine ⟨_, he, hmoved, ?_⟩
  simp only [hseen]
  exact ⟨hwritten, hothers, hflags, hvregs, hsregs, hpregs, hkregs, hrest⟩

/-! ### The lanes that a vector operation uses -/

theorem Site.issueVec_of_lanes (a : Site) (n : Nat) {op : VecOp} (h : noLanes (vecMask op) = false) :
    a.issueVec n op = a.vecBody n op := by
  simp [Site.issueVec, h]

theorem Site.active_of_noLanes (a : Site) {m : VMask} (h : noLanes m = true) {l : Nat} (hl : l < 64) : a.active m l = false := by
  simp only [noLanes, Bool.and_eq_true, beq_iff_eq] at h
  obtain ⟨hmask, hminv⟩ := h
  have hvm0 : a.vmreg m.mask.toNat = BitVec.allOnes 64 := by rw [hmask]; rfl
  rw [Site.active, hvm0, BitVec.getLsbD_allOnes]
  simp [hminv, hl]

/-- Lane `l` of V`r`, or of S`r` broadcast (R159). -/
def Site.broadcastLane (a : Site) (r : BitVec 5) (broadcast : BitVec 1) (l : Nat) : Lane :=
  if broadcast = 1 then ⟨a.sreg r.toNat, false⟩ else laneAt (a.vreg r.toNat) l

theorem Site.laneAt_vecOrScalar (a : Site) (r : BitVec 5) (broadcast : BitVec 1) {l : Nat} (hl : l < 64) :
    laneAt (a.vecOrScalar r broadcast) l = a.broadcastLane r broadcast l := by
  unfold Site.vecOrScalar Site.broadcastLane
  split
  · rw [laneAt, List.getD_replicate _ hl]
  · rfl

/-! ### Mask logic -/

/-- The operations of mask logic, on all 64 bits (R163). -/
def maskLogic : LogicOp → DWord → DWord → DWord
  | .and, a, b => a &&& b
  | .or, a, b => a ||| b
  | .xor, a, b => a ^^^ b

/-- An input of mask logic, inverted or not (R163). -/
def Site.maskInput (a : Site) (vm : BitVec 3) (neg : BitVec 1) : DWord :=
  if neg = 1 then ~~~(a.vmreg vm.toNat) else a.vmreg vm.toNat

theorem Site.issueMLog_eq (a : Site) (n : Nat) (op : LogicOp) (f : FmtML) :
    a.issueMLog n op f = a.later (n + latVector) rankVector
      (.vm f.vmd.toNat (maskLogic op (a.maskInput f.vma f.na) (a.maskInput f.vmb f.nb)) (BitVec.allOnes 64)) := by
  cases op <;> rfl

theorem State.writesVM_mlog {s : State} {i : Nat} {c : Instr} {f : FmtML} (hcan : s.canIssue i = true) (hm : f.m = ⟨0, 0⟩)
    (op : LogicOp) (he : exec c s = .next (s.issueAt i (loneVec (.mlog op f)) Checks.clean)) :
    WritesVM s i c f.vmd.toNat
      (maskLogic op ((s.site i).maskInput f.vma f.na) ((s.site i).maskInput f.vmb f.nb)) (fun _ => 0) := by
  have hlanes : noLanes (vecMask (.mlog op f)) = false := by
    change noLanes f.m = false
    rw [hm]
    rfl
  refine State.writesVM_vec he hcan (rs := [_])
    ((Site.issueVec_of_lanes _ _ hlanes).trans (Site.issueMLog_eq _ _ op f)) (by simp [Result.isScalar]) fun a ha => ?_
  exact (ha.apply_vm _ _).congr (by rw [BitVec.not_allOnes, BitVec.and_zero, BitVec.zero_or, BitVec.and_allOnes]; rfl) fun _ _ => rfl

/-! ### Compares -/

/-- An active lane of a compare carries poison. -/
def Site.vcmpPoisoned (a : Site) (f : FmtVC) : Prop :=
  ∃ l, l < 64 ∧ a.active f.m l = true ∧
    ((laneAt (a.vreg f.va.toNat) l).poison = true ∨ (a.broadcastLane f.vb f.bs l).poison = true)

/-- What a compare gives for lane `l`. -/
def Site.vcmpLane (a : Site) (op : VCmpOp) (f : FmtVC) (l : Nat) : Bool × Flags :=
  vcmpFn op (laneAt (a.vecOperand f.va) l).bits (laneAt (a.vecOrScalar f.vb f.bs) l).bits

theorem Site.vcmpLane_eq (a : Site) (op : VCmpOp) (f : FmtVC) {l : Nat} (hl : l < 64) :
    a.vcmpLane op f l = vcmpFn op (laneAt (a.vreg f.va.toNat) l).bits (a.broadcastLane f.vb f.bs l).bits := by
  rw [Site.vcmpLane, a.laneAt_vecOrScalar _ _ hl]
  rfl

/-- The search for a poisoned lane finds one exactly where there is one. -/
theorem Site.find?_vcmpPoisoned (a : Site) (f : FmtVC) :
    laneNos.find? (fun l => a.active f.m l && ((laneAt (a.vecOperand f.va) l).poison ||
      (laneAt (a.vecOrScalar f.vb f.bs) l).poison)) = none ↔ ¬a.vcmpPoisoned f := by
  simp only [List.find?_eq_none, Site.vcmpPoisoned, laneNos, List.mem_range, not_exists, not_and, Bool.and_eq_true, Bool.or_eq_true]
  refine forall₂_congr fun l hl => ?_
  rw [a.laneAt_vecOrScalar _ _ hl]
  rfl

/-- The results of a compare with no poisoned lane: the active lanes' bits of the mask, and the active lanes' flags. -/
def Site.vcmpResults (a : Site) (op : VCmpOp) (f : FmtVC) : List Result :=
  let act := laneNos.filter (a.active f.m)
  [.vm f.vmd.toNat (act.foldl (fun w l => if (a.vcmpLane op f l).1 then w ||| BitVec.twoPow 64 l else w) 0)
      (act.foldl (fun w l => w ||| BitVec.twoPow 64 l) 0),
    .flags (4, f.vmd.toNat) (laneNos.map fun l => if a.active f.m l then (a.vcmpLane op f l).2 else 0)]

theorem Site.issueVCmp_clean (a : Site) (n : Nat) (op : VCmpOp) {f : FmtVC} (h : ¬a.vcmpPoisoned f) :
    a.issueVCmp n op f = a.laters (n + latVector) rankVector (a.vcmpResults op f) := by
  unfold Site.issueVCmp
  dsimp only
  rw [(a.find?_vcmpPoisoned f).mpr h]
  exact a.later_later _ _ _ _

theorem Site.issueVCmp_poisoned (a : Site) (n : Nat) (op : VCmpOp) {f : FmtVC} (h : a.vcmpPoisoned f) :
    ∃ data, a.issueVCmp n op f = a.raise .poison 0 n data := by
  unfold Site.issueVCmp
  dsimp only
  split
  case h_1 => exact ⟨_, rfl⟩
  case h_2 hnone => exact absurd h ((a.find?_vcmpPoisoned f).mp hnone)

/-- A compare's landing, on any site whose mask VM[VMD] is still the one of its issue. -/
theorem Site.MaskWritten.vcmpResults {b a : Site} {f : FmtVC} (h : b.MaskWritten a f.vmd.toNat (b.vmreg f.vmd.toNat) (fun _ => 0))
    (op : VCmpOp) : b.MaskWritten ((b.vcmpResults op f).foldl Site.apply a) f.vmd.toNat
      (BitVec.ofFnLE (fun l : Fin 64 => if b.active f.m l then (b.vcmpLane op f l).1 else (b.vmreg f.vmd.toNat).getLsbD l))
      (fun l => if b.active f.m l then (b.vcmpLane op f l).2 else 0) := by
  simp only [Site.vcmpResults, List.foldl_cons, List.foldl_nil]
  have hmask := merge_masks (b.vmreg f.vmd.toNat) (b.active f.m) fun l => (b.vcmpLane op f l).1
  exact ((h.apply_vm _ _).apply_flags _ _).congr hmask fun _ _ => BitVec.zero_or

/-- A compare in which no active lane carries poison. -/
theorem State.writesVM_vcmp {s : State} {i : Nat} {c : Instr} {f : FmtVC} {op : VCmpOp} (hcan : s.canIssue i = true)
    (he : exec c s = .next (s.issueAt i (loneVec (.cmp op f)) Checks.clean)) {g : Nat → Bool} {fl : Nat → Flags}
    (hfn : ∀ l, l < 64 → (s.site i).vcmpLane op f l = (g l, fl l)) (hclean : ¬(s.site i).vcmpPoisoned f) :
    WritesVM s i c f.vmd.toNat
      (BitVec.ofFnLE (fun l : Fin 64 => if (s.site i).active f.m l then g l else ((s.site i).vmreg f.vmd.toNat).getLsbD l))
      (fun l => if (s.site i).active f.m l then fl l else 0) := by
  cases hlanes : noLanes f.m with
  | true =>
    refine State.writesVM_vec (rs := []) he hcan ?_ (by simp) fun a ha => ha.congr ?_ fun l hl => ?_
    · rw [Site.laters_nil, Site.issueVec]
      exact if_pos hlanes
    · refine BitVec.eq_of_getLsbD_eq fun l hl => ?_
      simp [hl, (s.site i).active_of_noLanes hlanes hl]
    · simp [(s.site i).active_of_noLanes hlanes hl]
  | false =>
    refine State.writesVM_vec (rs := (s.site i).vcmpResults op f) he hcan ?_ (by simp [Site.vcmpResults, Result.isScalar])
      fun a ha => (ha.vcmpResults op).congr ?_ fun l hl => ?_
    · exact (Site.issueVec_of_lanes _ _ (op := .cmp op f) hlanes).trans ((s.atClock i).issueVCmp_clean _ op hclean)
    · congr 1
      funext l
      rw [hfn l l.isLt]
    · rw [hfn l hl]

/-- A compare in which an active lane carries poison. -/
theorem State.stopsWith_vcmp {s : State} {i : Nat} {c : Instr} {f : FmtVC} {op : VCmpOp} (hcan : s.canIssue i = true)
    (he : exec c s = .next (s.issueAt i (loneVec (.cmp op f)) Checks.clean)) (hpoison : (s.site i).vcmpPoisoned f) :
    StopsWith s i c .poison 0 := by
  have hlanes : noLanes f.m = false := by
    obtain ⟨l, hl, hactive, -⟩ := hpoison
    by_contra hnone
    rw [(s.site i).active_of_noLanes (eq_true_of_ne_false hnone) hl] at hactive
    exact absurd hactive (by decide)
  obtain ⟨data, hdata⟩ := (s.atClock i).issueVCmp_poisoned (s.issueCycle i) op hpoison
  exact State.stopsWith_vec he hcan rfl ((Site.issueVec_of_lanes _ _ (op := .cmp op f) hlanes).trans hdata)

/-- Both outcomes of a compare whose function of its operands is known. -/
theorem State.vcmp_outcome {s : State} {i : Nat} {f : FmtVC} (hcan : s.canIssue i = true) (op : VCmpOp) {c : Instr}
    (he : exec c s = .next (s.issueAt i (loneVec (.cmp op f)) Checks.clean)) {g : Nat → Bool} {fl : Nat → Flags}
    (hfn : ∀ l, vcmpFn op (laneAt ((s.site i).vreg f.va.toNat) l).bits ((s.site i).broadcastLane f.vb f.bs l).bits = (g l, fl l)) :
    (¬(s.site i).vcmpPoisoned f → WritesVM s i c f.vmd.toNat
      (BitVec.ofFnLE (fun l : Fin 64 => if (s.site i).active f.m l then g l else ((s.site i).vmreg f.vmd.toNat).getLsbD l))
      (fun l => if (s.site i).active f.m l then fl l else 0)) ∧
    ((s.site i).vcmpPoisoned f → StopsWith s i c .poison 0) :=
  ⟨State.writesVM_vcmp hcan he fun l hl => ((s.site i).vcmpLane_eq op f hl).trans (hfn l), State.stopsWith_vcmp hcan he⟩

/-! ### The order of values -/

theorem Fp.eqv_eq (x y : Fp) : x.eqv y = (!(x.isNan || y.isNan) && x.eqv y) := by
  cases x <;> cases y <;> rfl

theorem Fp.lt_eq (x y : Fp) : x.lt y = (!(x.isNan || y.isNan) && x.lt y) := by
  cases x <;> cases y <;> rfl

/-- Values that are no NaN are ordered totally, so that less or equal is not greater. -/
theorem Fp.lt_or_eqv (x y : Fp) : (x.lt y || x.eqv y) = (!(x.isNan || y.isNan) && !y.lt x) := by
  cases x with
  | nan s => rfl
  | inf n =>
    cases y with
    | nan t => rfl
    | inf m => cases n <;> cases m <;> rfl
    | fin m y f => cases n <;> rfl
  | fin n x e =>
    cases y with
    | nan t => rfl
    | inf m => cases m <;> rfl
    | fin m y f =>
      simp only [Fp.lt, Fp.eqv, Fp.isNan, Int.min_comm f e, Bool.or_false, Bool.not_false, Bool.true_and, ← Bool.decide_or,
        ← decide_not, decide_eq_decide]
      omega

/-! ### What each compare gives for a lane -/

theorem vcmpFn_eq (a b : Word) : vcmpFn .eq a b =
    (!((dec32 a).isNan || (dec32 b).isNan) && (dec32 a).eqv (dec32 b), (dec32 a).sigFlag ||| (dec32 b).sigFlag) :=
  Prod.ext (Fp.eqv_eq _ _) rfl

theorem vcmpFn_lt (a b : Word) : vcmpFn .lt a b =
    (!((dec32 a).isNan || (dec32 b).isNan) && (dec32 a).lt (dec32 b), (dec32 a).sigFlag ||| (dec32 b).sigFlag) :=
  Prod.ext (Fp.lt_eq _ _) rfl

theorem vcmpFn_le (a b : Word) : vcmpFn .le a b =
    (!((dec32 a).isNan || (dec32 b).isNan) && !(dec32 b).lt (dec32 a), (dec32 a).sigFlag ||| (dec32 b).sigFlag) :=
  Prod.ext (Fp.lt_or_eqv _ _) rfl

theorem vcmpFn_un (a b : Word) : vcmpFn .un a b =
    ((dec32 a).isNan || (dec32 b).isNan, (dec32 a).sigFlag ||| (dec32 b).sigFlag) := rfl

theorem vcmpFn_ieq (a b : Word) : vcmpFn .ieq a b = (decide (a = b), 0) := rfl

theorem vcmpFn_ilt (a b : Word) : vcmpFn .ilt a b = (decide (a.toInt < b.toInt), 0) := rfl

theorem vcmpFn_iltu (a b : Word) : vcmpFn .iltu a b = (decide (a.toNat < b.toNat), 0) := rfl

end Sys2Proof.Machine

open Sys2Proof Sys2Proof.Machine

/-- Settles O16: a compare puts two results in flight, the bits of VM[VMD] and the lanes' flags, and mask logic one; a
compare with a poisoned active lane raises POISON instead, and one without active lanes is a NOP that writes back what VM[VMD]
held. -/
theorem vectorMasks : Obligations.VectorMasks := by
  refine ⟨fun s i f hcan => ?compares, fun s i f hcan hm => ?logic⟩
  case compares =>
    have outcome := @State.vcmp_outcome s i f hcan
    exact ⟨(outcome .eq (c := .vcmpEq i f .clean) rfl fun l => vcmpFn_eq _ _ :),
      (outcome .lt (c := .vcmpLt i f .clean) rfl fun l => vcmpFn_lt _ _ :),
      (outcome .le (c := .vcmpLe i f .clean) rfl fun l => vcmpFn_le _ _ :),
      (outcome .un (c := .vcmpUn i f .clean) rfl fun l => vcmpFn_un _ _ :),
      (outcome .ieq (c := .vicmpEq i f .clean) rfl fun l => vcmpFn_ieq _ _ :),
      (outcome .ilt (c := .vicmpLt i f .clean) rfl fun l => vcmpFn_ilt _ _ :),
      (outcome .iltu (c := .vicmpLtu i f .clean) rfl fun l => vcmpFn_iltu _ _ :)⟩
  case logic =>
    exact ⟨State.writesVM_mlog hcan hm .and rfl, State.writesVM_mlog hcan hm .or rfl, State.writesVM_mlog hcan hm .xor rfl⟩

end

section
/-! Proofs about the step itself, the written-out words and the reset state (O1, O4, O60). -/

open Sys2Proof Sys2Proof.Machine

/-- Settles O1: it is how `step` is defined for a queue with a front. -/
theorem stepRunsFrontCommand : Obligations.StepRunsFrontCommand := by
  unfold Obligations.StepRunsFrontCommand
  intro c l s
  rfl

/-- Settles O4, by evaluating the decoder on the six words. -/
theorem writtenWordsDecode : Obligations.WrittenWordsDecode := by
  unfold Obligations.WrittenWordsDecode
  decide

/-- Settles O60: the tables of the reset state are empty, so every read gives its default. -/
theorem resetState : Obligations.ResetState := by
  unfold Obligations.ResetState
  refine ⟨⟨?_, ?_⟩, rfl, rfl, rfl, rfl, rfl, rfl, rfl, rfl, rfl, rfl, rfl, rfl, rfl, rfl,
    fun _ => ⟨rfl, rfl⟩, fun _ _ => ?_, fun _ => ⟨rfl, rfl⟩, fun _ => ⟨rfl, rfl⟩, fun _ => ⟨rfl, rfl⟩⟩
  · exact fun _ => Memory.wf_cleared
  · exact fun _ => Memory.wf_empty
  · rfl
end

section
/-! Proofs about every step: the memories of a device stay in canonical form (O59). -/

namespace Sys2Proof.Machine

/-! ### What every function of the model leaves unchanged: the table of sites, and the DDR or its memories -/

theorem foldl_fixes {α β γ : Type} (p : β → γ) (f : β → α → β) (h : ∀ b a, p (f b a) = p b) (l : List α) (b : β) :
    p (l.foldl f b) = p b := by
  induction l generalizing b with
  | nil => rfl
  | cons a t ih => rw [List.foldl_cons, ih, h]

@[simp] theorem State.sites_foldl {α : Type} (f : State → α → State) (h : ∀ t x, (f t x).sites = t.sites) (l : List α) (s : State) :
    (l.foldl f s).sites = s.sites := foldl_fixes State.sites f h l s

@[simp] theorem State.ddr_foldl {α : Type} (f : State → α → State) (h : ∀ t x, (f t x).ddr = t.ddr) (l : List α) (s : State) :
    (l.foldl f s).ddr = s.ddr := foldl_fixes State.ddr f h l s

@[simp] theorem State.mem_foldl {α : Type} (f : State → α → State) (h : ∀ t x, (f t x).ddr.mem = t.ddr.mem) (l : List α) (s : State) :
    (l.foldl f s).ddr.mem = s.ddr.mem := foldl_fixes (fun s => s.ddr.mem) f h l s

@[simp] theorem State.sites_ite (p : Prop) [Decidable p] (a b : State) :
    (if p then a else b).sites = if p then a.sites else b.sites :=
  apply_ite State.sites p a b

@[simp] theorem State.ddr_ite (p : Prop) [Decidable p] (a b : State) : (if p then a else b).ddr = if p then a.ddr else b.ddr :=
  apply_ite State.ddr p a b

@[simp] theorem State.sites_tick (s : State) : (s.tick).sites = s.sites := by
  simp only [State.tick]; split <;> simp -implicitDefEqProofs

@[simp] theorem State.ddr_tick (s : State) : (s.tick).ddr = s.ddr := by
  simp only [State.tick]; split <;> simp -implicitDefEqProofs

@[simp] theorem State.sites_closeDdr (s : State) : (s.closeDdr).sites = s.sites := rfl

@[simp] theorem State.mem_closeDdr (s : State) : (s.closeDdr).ddr.mem = s.ddr.mem := rfl

@[simp] theorem State.ddr_emptyCtx (s : State) (c : Nat) : (s.emptyCtx c).ddr = s.ddr := by
  simp -implicitDefEqProofs [State.emptyCtx]

@[simp] theorem State.sites_cpbChanged (s : State) : (s.cpbChanged).sites = s.sites := rfl

@[simp] theorem State.ddr_cpbChanged (s : State) : (s.cpbChanged).ddr = s.ddr := rfl

@[simp] theorem State.sites_cpbSettle (s : State) : (s.cpbSettle).sites = s.sites := by
  simp only [State.cpbSettle]; split <;> simp -implicitDefEqProofs

@[simp] theorem State.ddr_cpbSettle (s : State) : (s.cpbSettle).ddr = s.ddr := by
  simp only [State.cpbSettle]; split <;> simp -implicitDefEqProofs

@[simp] theorem State.ddr_moveTile (s : State) (q : Nat) (t : Nat) (new : Nat) (replaced : Bool) (bad : List Nat) :
    (s.moveTile q t new replaced bad).ddr = s.ddr := rfl

@[simp] theorem State.ddr_setRole (s : State) (i : Nat) (r : Role) : (s.setRole i r).ddr = s.ddr := by
  simp -implicitDefEqProofs [State.setRole]

@[simp] theorem State.ddr_rebalance (s : State) (q : Nat) : (s.rebalance q).ddr = s.ddr := by
  simp -implicitDefEqProofs [State.rebalance]

@[simp] theorem State.ddr_replaceLoading (s : State) (q : Nat) (i : Nat) : (s.replaceLoading q i).ddr = s.ddr := by
  simp only [State.replaceLoading]; split <;> simp -implicitDefEqProofs

@[simp] theorem State.ddr_replaceAll (s : State) : (s.replaceAll).ddr = s.ddr := by
  simp -implicitDefEqProofs [State.replaceAll]

@[simp] theorem State.ddr_setGear (s : State) (c : Nat) (g : Nat) : (s.setGear c g).ddr = s.ddr := by
  simp only [State.setGear]; split <;> simp -implicitDefEqProofs

@[simp] theorem State.ddr_enterGear (s : State) (c : Nat) : (s.enterGear c).ddr = s.ddr := by
  simp only [State.enterGear]; split <;> simp -implicitDefEqProofs

@[simp] theorem State.ddr_transition (s : State) (c : Nat) : (s.transition c).ddr = s.ddr := by
  simp only [State.transition]; (repeat' split) <;> simp -implicitDefEqProofs

@[simp] theorem State.sites_setWait (s : State) (c : Nat) : (s.setWait c).sites = s.sites := by
  simp only [State.setWait]; (repeat' split) <;> simp -implicitDefEqProofs

@[simp] theorem State.ddr_setWait (s : State) (c : Nat) : (s.setWait c).ddr = s.ddr := by
  simp only [State.setWait]; (repeat' split) <;> simp -implicitDefEqProofs

@[simp] theorem State.ddr_drivenModes (s : State) : (s.drivenModes).ddr = s.ddr := rfl

@[simp] theorem State.sites_callPass (s : State) : (s.callPass).sites = s.sites := by
  simp -implicitDefEqProofs [State.callPass]

@[simp] theorem State.ddr_callPass (s : State) : (s.callPass).ddr = s.ddr := by
  simp -implicitDefEqProofs [State.callPass]

@[simp] theorem State.sites_countDeadlines (s : State) : (s.countDeadlines).sites = s.sites := rfl

@[simp] theorem State.ddr_countDeadlines (s : State) : (s.countDeadlines).ddr = s.ddr := rfl

@[simp] theorem State.sites_sendMark (s : State) (except : Option Nat) (m : Mark) : (s.sendMark except m).sites = s.sites := by
  simp -implicitDefEqProofs [State.sendMark]

@[simp] theorem State.ddr_sendMark (s : State) (except : Option Nat) (m : Mark) : (s.sendMark except m).ddr = s.ddr := by
  simp -implicitDefEqProofs [State.sendMark]

@[simp] theorem State.sites_showIndex (s : State) (f : Nat) : (s.showIndex f).sites = s.sites := by
  simp -implicitDefEqProofs [State.showIndex]

@[simp] theorem State.ddr_showIndex (s : State) (f : Nat) : (s.showIndex f).ddr = s.ddr := by
  simp -implicitDefEqProofs [State.showIndex]

@[simp] theorem State.sites_message (s : State) (f : Nat) (v : Nat) : (s.message f v).sites = s.sites := by
  simp -implicitDefEqProofs [State.message]

@[simp] theorem State.ddr_message (s : State) (f : Nat) (v : Nat) : (s.message f v).ddr = s.ddr := by
  simp -implicitDefEqProofs [State.message]

@[simp] theorem State.sites_firePending (s : State) (f : Nat) : (s.firePending f).sites = s.sites := by
  simp only [State.firePending]; (repeat' split) <;> simp -implicitDefEqProofs

@[simp] theorem State.ddr_firePending (s : State) (f : Nat) : (s.firePending f).ddr = s.ddr := by
  simp only [State.firePending]; (repeat' split) <;> simp -implicitDefEqProofs

@[simp] theorem State.sites_showFn (s : State) (f : Nat) : (s.showFn f).sites = s.sites := by
  simp only [State.showFn]; (repeat' split) <;> simp -implicitDefEqProofs

@[simp] theorem State.ddr_showFn (s : State) (f : Nat) : (s.showFn f).ddr = s.ddr := by
  simp only [State.showFn]; (repeat' split) <;> simp -implicitDefEqProofs

@[simp] theorem State.sites_flushRing (s : State) (f : Nat) (r : Nat) : (s.flushRing f r).sites = s.sites := by
  simp -implicitDefEqProofs [State.flushRing]

@[simp] theorem State.ddr_flushRing (s : State) (f : Nat) (r : Nat) : (s.flushRing f r).ddr = s.ddr := by
  simp -implicitDefEqProofs [State.flushRing]

@[simp] theorem State.sites_flushAll (s : State) : (s.flushAll).sites = s.sites := by
  simp -implicitDefEqProofs [State.flushAll]

@[simp] theorem State.ddr_flushAll (s : State) : (s.flushAll).ddr = s.ddr := by
  simp -implicitDefEqProofs [State.flushAll]

@[simp] theorem State.sites_ddrLogAdd (s : State) (kind : Nat) (ch : Nat) (devices : List Nat) (src : DdrSource) (unit : Nat) :
    (s.ddrLogAdd kind ch devices src unit).sites = s.sites := rfl

@[simp] theorem State.mem_ddrLogAdd (s : State) (kind : Nat) (ch : Nat) (devices : List Nat) (src : DdrSource) (unit : Nat) :
    (s.ddrLogAdd kind ch devices src unit).ddr.mem = s.ddr.mem := rfl

@[simp] theorem State.mem_modChan (s : State) (n : Nat) (g : Channel → Channel) : (s.modChan n g).ddr.mem = s.ddr.mem := rfl

@[simp] theorem State.sites_touchRetired (s : State) (q : Nat) (l : Nat) (src : DdrSource) :
    (s.touchRetired q l src).sites = s.sites := by
  simp only [State.touchRetired]; split <;> simp -implicitDefEqProofs

@[simp] theorem State.mem_touchRetired (s : State) (q : Nat) (l : Nat) (src : DdrSource) :
    (s.touchRetired q l src).ddr.mem = s.ddr.mem := by
  simp only [State.touchRetired]; (repeat' split) <;> simp -implicitDefEqProofs

@[simp] theorem State.sites_ddrWriteUnit (s : State) (q : Nat) (l : Nat) (bs : List Byte) (poison : Bool) (src : DdrSource) :
    (s.ddrWriteUnit q l bs poison src).sites = s.sites := by
  simp only [State.ddrWriteUnit]; (repeat' split) <;> simp -implicitDefEqProofs

@[simp] theorem State.sites_settleTargets (s : State) : (s.settleTargets).sites = s.sites := rfl

@[simp] theorem State.ddr_settleTargets (s : State) : (s.settleTargets).ddr = s.ddr := rfl

@[simp] theorem State.sites_engineIssue (s : State) (q : Nat) (e : Nat) (c : Nat) : (s.engineIssue q e c).sites = s.sites := rfl

@[simp] theorem State.ddr_engineIssue (s : State) (q : Nat) (e : Nat) (c : Nat) : (s.engineIssue q e c).ddr = s.ddr := rfl

@[simp] theorem State.ddr_endWork (s : State) (c : Nat) : (s.endWork c).ddr = s.ddr := by
  simp -implicitDefEqProofs [State.endWork]

@[simp] theorem State.sites_listDefect (s : State) (q : Nat) (d : Defect) : (s.listDefect q d).sites = s.sites := by
  simp only [State.listDefect]; (repeat' split) <;> simp -implicitDefEqProofs

@[simp] theorem State.ddr_listDefect (s : State) (q : Nat) (d : Defect) : (s.listDefect q d).ddr = s.ddr := by
  simp only [State.listDefect]; (repeat' split) <;> simp -implicitDefEqProofs

@[simp] theorem State.sites_addDefect (s : State) (q : Nat) (d : Defect) : (s.addDefect q d).sites = s.sites := by
  simp -implicitDefEqProofs [State.addDefect]

@[simp] theorem State.ddr_addDefect (s : State) (q : Nat) (d : Defect) : (s.addDefect q d).ddr = s.ddr := by
  simp -implicitDefEqProofs [State.addDefect]

@[simp] theorem State.sites_newEvent (s : State) : (s.newEvent).1.sites = s.sites := rfl

@[simp] theorem State.ddr_newEvent (s : State) : (s.newEvent).1.ddr = s.ddr := rfl

@[simp] theorem State.sites_post (s : State) (f : Nat) (r : Nat) (type : Nat) (units : Nat) (body : List Byte) :
    (s.post f r type units body).sites = s.sites := by
  simp only [State.post]; split <;> simp -implicitDefEqProofs

@[simp] theorem State.ddr_post (s : State) (f : Nat) (r : Nat) (type : Nat) (units : Nat) (body : List Byte) :
    (s.post f r type units body).ddr = s.ddr := by
  simp only [State.post]; split <;> simp -implicitDefEqProofs

@[simp] theorem State.sites_faultCtx (s : State) (c : Nat) (x : FaultRec) : (s.faultCtx c x).sites = s.sites := by
  simp -implicitDefEqProofs [State.faultCtx]

@[simp] theorem State.ddr_faultCtx (s : State) (c : Nat) (x : FaultRec) : (s.faultCtx c x).ddr = s.ddr := by
  simp -implicitDefEqProofs [State.faultCtx]

@[simp] theorem State.sites_killRouter (s : State) (i : Nat) : (s.killRouter i).sites = s.sites := by
  simp -implicitDefEqProofs [State.killRouter]

@[simp] theorem State.ddr_killRouter (s : State) (i : Nat) : (s.killRouter i).ddr = s.ddr := by
  simp -implicitDefEqProofs [State.killRouter]

@[simp] theorem State.sites_confirm (s : State) (i : Nat) (item : Nat) (index : Nat) :
    (s.confirm i item index).sites = s.sites := by
  simp -implicitDefEqProofs [State.confirm]

@[simp] theorem State.ddr_confirm (s : State) (i : Nat) (item : Nat) (index : Nat) : (s.confirm i item index).ddr = s.ddr := by
  simp -implicitDefEqProofs [State.confirm]

@[simp] theorem State.sites_watchItem (s : State) (i : Nat) (item : Nat) : (s.watchItem i item).sites = s.sites := rfl

@[simp] theorem State.ddr_watchItem (s : State) (i : Nat) (item : Nat) : (s.watchItem i item).ddr = s.ddr := rfl

@[simp] theorem State.sites_targetRounds (s : State) : (s.targetRounds).sites = s.sites := rfl

@[simp] theorem State.ddr_targetRounds (s : State) : (s.targetRounds).ddr = s.ddr := rfl

@[simp] theorem State.ddr_dress (s : State) (f : CloseFacts) : (s.dress f).ddr = s.ddr := by
  simp -implicitDefEqProofs [State.dress]

@[simp] theorem State.sites_explainWatch (s : State) (w : HwWatch) : (s.explainWatch w).sites = s.sites := by
  simp -implicitDefEqProofs [State.explainWatch]

@[simp] theorem State.ddr_explainWatch (s : State) (w : HwWatch) : (s.explainWatch w).ddr = s.ddr := by
  simp -implicitDefEqProofs [State.explainWatch]

@[simp] theorem State.sites_countClosed (s : State) (q : Nat) (n : Nat) : (s.countClosed q n).sites = s.sites := rfl

@[simp] theorem State.ddr_countClosed (s : State) (q : Nat) (n : Nat) : (s.countClosed q n).ddr = s.ddr := rfl

@[simp] theorem State.sites_modEntry (s : State) (q : Nat) (k : Nat) (f : SluiceEntry → SluiceEntry) :
    (s.modEntry q k f).sites = s.sites := rfl

@[simp] theorem State.ddr_modEntry (s : State) (q : Nat) (k : Nat) (f : SluiceEntry → SluiceEntry) :
    (s.modEntry q k f).ddr = s.ddr := rfl

@[simp] theorem State.sites_engineRetire (s : State) (q : Nat) (e : Nat) : (s.engineRetire q e).sites = s.sites := rfl

@[simp] theorem State.ddr_engineRetire (s : State) (q : Nat) (e : Nat) : (s.engineRetire q e).ddr = s.ddr := rfl

@[simp] theorem State.ddr_takeAnswer (s : State) (p : Packet) : (s.takeAnswer p).ddr = s.ddr := by
  simp only [State.takeAnswer]; (repeat' split) <;> simp -implicitDefEqProofs

@[simp] theorem State.sites_pumpPort (s : State) (n : Nat) : (s.pumpPort n).sites = s.sites := rfl

@[simp] theorem State.ddr_pumpPort (s : State) (n : Nat) : (s.pumpPort n).ddr = s.ddr := rfl

@[simp] theorem State.sites_queueOn (s : State) (n : Nat) (p : Packet) : (s.queueOn n p).sites = s.sites := rfl

@[simp] theorem State.ddr_queueOn (s : State) (n : Nat) (p : Packet) : (s.queueOn n p).ddr = s.ddr := rfl

@[simp] theorem State.ddr_sendAnswer (s : State) (p : Packet) : (s.sendAnswer p).ddr = s.ddr := by
  simp only [State.sendAnswer]; split <;> simp -implicitDefEqProofs

@[simp] theorem State.sites_target (s : State) (i : Nat) : (s.target i).sites = s.sites := rfl

@[simp] theorem State.ddr_target (s : State) (i : Nat) : (s.target i).ddr = s.ddr := rfl

@[simp] theorem State.sites_watchSite (s : State) (c : Nat) (i : Nat) (event : Nat) (cause : Cause) (fabric : Bool) :
    (s.watchSite c i event cause fabric).sites = s.sites := by
  simp only [State.watchSite]; split <;> simp -implicitDefEqProofs

@[simp] theorem State.ddr_watchSite (s : State) (c : Nat) (i : Nat) (event : Nat) (cause : Cause) (fabric : Bool) :
    (s.watchSite c i event cause fabric).ddr = s.ddr := by
  simp only [State.watchSite]; split <;> simp -implicitDefEqProofs

@[simp] theorem State.sites_checkAuditors (s : State) (q : Nat) (l : List (Nat × AuditOut)) :
    (s.checkAuditors q l).sites = s.sites := by
  unfold State.checkAuditors; rw [State.sites_foldl]; intro t x; dsimp only; (repeat' split) <;> simp -implicitDefEqProofs

@[simp] theorem State.ddr_checkAuditors (s : State) (q : Nat) (l : List (Nat × AuditOut)) :
    (s.checkAuditors q l).ddr = s.ddr := by
  unfold State.checkAuditors; rw [State.ddr_foldl]; intro t x; dsimp only; (repeat' split) <;> simp -implicitDefEqProofs

@[simp] theorem State.sites_countPairs (s : State) (f : CloseFacts) : (s.countPairs f).sites = s.sites := rfl

@[simp] theorem State.ddr_countPairs (s : State) (f : CloseFacts) : (s.countPairs f).ddr = s.ddr := rfl

@[simp] theorem State.sites_setStream (s : State) (id : Nat) (e : StreamEntry) : (s.setStream id e).sites = s.sites := rfl

@[simp] theorem State.ddr_setStream (s : State) (id : Nat) (e : StreamEntry) : (s.setStream id e).ddr = s.ddr := rfl

@[simp] theorem State.sites_modStream (s : State) (id : Nat) (f : StreamEntry → StreamEntry) :
    (s.modStream id f).sites = s.sites := rfl

@[simp] theorem State.ddr_modStream (s : State) (id : Nat) (f : StreamEntry → StreamEntry) : (s.modStream id f).ddr = s.ddr := rfl

@[simp] theorem State.sites_complete (s : State) (c : CmdRef) (st : Status) (res : List Byte) :
    (s.complete c st res).sites = s.sites := by
  simp -implicitDefEqProofs [State.complete]

@[simp] theorem State.ddr_complete (s : State) (c : CmdRef) (st : Status) (res : List Byte) :
    (s.complete c st res).ddr = s.ddr := by
  simp -implicitDefEqProofs [State.complete]

@[simp] theorem State.sites_finish (s : State) (p : Cmd → Bool) (st : Status) (res : Cmd → List Byte) :
    (s.finish p st res).sites = s.sites := by
  simp -implicitDefEqProofs [State.finish]

@[simp] theorem State.ddr_finish (s : State) (p : Cmd → Bool) (st : Status) (res : Cmd → List Byte) :
    (s.finish p st res).ddr = s.ddr := by
  simp -implicitDefEqProofs [State.finish]

@[simp] theorem State.sites_modSlot (s : State) (id : Nat) (f : CacheSlot → CacheSlot) : (s.modSlot id f).sites = s.sites := by
  simp only [State.modSlot]; split <;> simp -implicitDefEqProofs

@[simp] theorem State.ddr_modSlot (s : State) (id : Nat) (f : CacheSlot → CacheSlot) : (s.modSlot id f).ddr = s.ddr := by
  simp only [State.modSlot]; split <;> simp -implicitDefEqProofs

@[simp] theorem State.sites_release (s : State) (id : Nat) : (s.release id).sites = s.sites := by
  simp -implicitDefEqProofs [State.release]

@[simp] theorem State.ddr_release (s : State) (id : Nat) : (s.release id).ddr = s.ddr := by
  simp -implicitDefEqProofs [State.release]

@[simp] theorem State.sites_endStep (s : State) (id : Nat) (st : Status) (reason : Nat) (fin : StreamState) :
    (s.endStep id st reason fin).sites = s.sites := by
  simp -implicitDefEqProofs [State.endStep]

@[simp] theorem State.ddr_endStep (s : State) (id : Nat) (st : Status) (reason : Nat) (fin : StreamState) :
    (s.endStep id st reason fin).ddr = s.ddr := by
  simp -implicitDefEqProofs [State.endStep]

@[simp] theorem State.sites_commitOne (s : State) (c : Nat) (b : BatchDecl) (p : Position) :
    (s.commitOne c b p).sites = s.sites := by
  simp only [State.commitOne]; (repeat' split) <;> simp -implicitDefEqProofs

@[simp] theorem State.ddr_commitOne (s : State) (c : Nat) (b : BatchDecl) (p : Position) : (s.commitOne c b p).ddr = s.ddr := by
  simp only [State.commitOne]; (repeat' split) <;> simp -implicitDefEqProofs

@[simp] theorem State.sites_checkFault (s : State) (c : Nat) (l : List (Nat × SiteFault)) :
    (s.checkFault c l).sites = s.sites := by
  simp only [State.checkFault]; (repeat' split) <;> simp -implicitDefEqProofs

@[simp] theorem State.ddr_checkFault (s : State) (c : Nat) (l : List (Nat × SiteFault)) : (s.checkFault c l).ddr = s.ddr := by
  simp only [State.checkFault]; (repeat' split) <;> simp -implicitDefEqProofs

@[simp] theorem State.sites_countPoison (s : State) (l : List (Nat × SiteFault)) : (s.countPoison l).sites = s.sites := rfl

@[simp] theorem State.ddr_countPoison (s : State) (l : List (Nat × SiteFault)) : (s.countPoison l).ddr = s.ddr := rfl

@[simp] theorem State.sites_planFault (s : State) (c : Nat) (l : List (Nat × SiteFault)) : (s.planFault c l).sites = s.sites := by
  simp only [State.planFault]; split <;> simp -implicitDefEqProofs

@[simp] theorem State.ddr_planFault (s : State) (c : Nat) (l : List (Nat × SiteFault)) : (s.planFault c l).ddr = s.ddr := by
  simp only [State.planFault]; split <;> simp -implicitDefEqProofs

@[simp] theorem State.sites_diagnose (s : State) (c : Nat) (l : List Mismatch) : (s.diagnose c l).sites = s.sites := by
  simp only [State.diagnose]; split <;> simp -implicitDefEqProofs

@[simp] theorem State.ddr_diagnose (s : State) (c : Nat) (l : List Mismatch) : (s.diagnose c l).ddr = s.ddr := by
  simp only [State.diagnose]; split <;> simp -implicitDefEqProofs

@[simp] theorem State.sites_closeCmds (s : State) (c : Nat) : (s.closeCmds c).sites = s.sites := by
  simp -implicitDefEqProofs [State.closeCmds]

@[simp] theorem State.ddr_closeCmds (s : State) (c : Nat) : (s.closeCmds c).ddr = s.ddr := by
  simp -implicitDefEqProofs [State.closeCmds]

@[simp] theorem State.ddr_judgeFaults (s : State) (c : Nat) : (s.judgeFaults c).ddr = s.ddr := by
  simp -implicitDefEqProofs [State.judgeFaults]

@[simp] theorem State.sites_rewear (s : State) : (s.rewear).sites = s.sites := rfl

@[simp] theorem State.ddr_rewear (s : State) : (s.rewear).ddr = s.ddr := rfl

@[simp] theorem State.sites_rearm (s : State) (c : Nat) : (s.rearm c).sites = s.sites := rfl

@[simp] theorem State.ddr_rearm (s : State) (c : Nat) : (s.rearm c).ddr = s.ddr := rfl

@[simp] theorem State.ddr_revoke (s : State) (q : Nat) (e : Nat) (c : Nat) : (s.revoke q e c).ddr = s.ddr := by
  simp -implicitDefEqProofs [State.revoke]

@[simp] theorem State.sites_loseShadow (s : State) (touches : Change → Bool) : (s.loseShadow touches).sites = s.sites := rfl

@[simp] theorem State.ddr_loseShadow (s : State) (touches : Change → Bool) : (s.loseShadow touches).ddr = s.ddr := rfl

@[simp] theorem State.sites_wearCorrected (s : State) (q : Nat) (n : Nat) : (s.wearCorrected q n).sites = s.sites := by
  simp -implicitDefEqProofs [State.wearCorrected]

@[simp] theorem State.ddr_wearCorrected (s : State) (q : Nat) (n : Nat) : (s.wearCorrected q n).ddr = s.ddr := by
  simp -implicitDefEqProofs [State.wearCorrected]

@[simp] theorem State.sites_closeQuads (s : State) (f : CloseFacts) : (s.closeQuads f).sites = s.sites := by
  simp -implicitDefEqProofs [State.closeQuads]

@[simp] theorem State.ddr_closeQuads (s : State) (f : CloseFacts) : (s.closeQuads f).ddr = s.ddr := by
  simp -implicitDefEqProofs [State.closeQuads]

@[simp] theorem State.sites_restage (s : State) (old : List (Nat × ChangeSet)) : (s.restage old).sites = s.sites := by
  simp -implicitDefEqProofs [State.restage]

@[simp] theorem State.ddr_restage (s : State) (old : List (Nat × ChangeSet)) : (s.restage old).ddr = s.ddr := by
  simp -implicitDefEqProofs [State.restage]

@[simp] theorem State.sites_dropSwitch (s : State) (c : Nat) : (s.dropSwitch c).sites = s.sites := rfl

@[simp] theorem State.ddr_dropSwitch (s : State) (c : Nat) : (s.dropSwitch c).ddr = s.ddr := rfl

@[simp] theorem State.sites_discardSet (s : State) (key : Nat) (st : Status) : (s.discardSet key st).sites = s.sites := by
  simp only [State.discardSet]; split <;> simp -implicitDefEqProofs

@[simp] theorem State.ddr_discardSet (s : State) (key : Nat) (st : Status) : (s.discardSet key st).ddr = s.ddr := by
  simp only [State.discardSet]; split <;> simp -implicitDefEqProofs

@[simp] theorem State.sites_ownGrid (s : State) : (s.ownGrid).sites = s.sites := rfl

@[simp] theorem State.ddr_ownGrid (s : State) : (s.ownGrid).ddr = s.ddr := rfl

@[simp] theorem State.sites_adopt (s : State) (port : Nat) (m : Mark) : (s.adopt port m).sites = s.sites := by
  simp -implicitDefEqProofs [State.adopt]

@[simp] theorem State.ddr_adopt (s : State) (port : Nat) (m : Mark) : (s.adopt port m).ddr = s.ddr := by
  simp -implicitDefEqProofs [State.adopt]

@[simp] theorem State.sites_reevaluate (s : State) (c : Nat) : (s.reevaluate c).sites = s.sites := by
  simp only [State.reevaluate]; split <;> simp -implicitDefEqProofs

@[simp] theorem State.ddr_reevaluate (s : State) (c : Nat) : (s.reevaluate c).ddr = s.ddr := by
  simp only [State.reevaluate]; split <;> simp -implicitDefEqProofs

@[simp] theorem State.ddr_packetWord (s : State) (id : Nat) (dropped : Bool) : (s.packetWord id dropped).ddr = s.ddr := by
  simp only [State.packetWord]; split <;> simp -implicitDefEqProofs

@[simp] theorem State.ddr_answer (s : State) (site : Nat) (xfer : Nat) (status : Nat) (cond : Nat) (off : Nat) :
    (s.answer site xfer status cond off).ddr = s.ddr := rfl

@[simp] theorem State.ddr_settleWrite (s : State) (w : SluiceWrite) (dropped : Bool) : (s.settleWrite w dropped).ddr = s.ddr := by
  simp -implicitDefEqProofs [State.settleWrite]

@[simp] theorem State.sites_countChecks (s : State) (i : Nat) (old : Site) : (s.countChecks i old).sites = s.sites := rfl

@[simp] theorem State.ddr_countChecks (s : State) (i : Nat) (old : Site) : (s.countChecks i old).ddr = s.ddr := rfl

@[simp] theorem State.sites_countSite (s : State) (i : Nat) (old : Site) (corrected : Nat) :
    (s.countSite i old corrected).sites = s.sites := by
  simp -implicitDefEqProofs [State.countSite]

@[simp] theorem State.ddr_countSite (s : State) (i : Nat) (old : Site) (corrected : Nat) :
    (s.countSite i old corrected).ddr = s.ddr := by
  simp -implicitDefEqProofs [State.countSite]

@[simp] theorem State.ddr_dispatchTo (s : State) (src : Nat) (m : OutMsg) (g : Nat) : (s.dispatchTo src m g).ddr = s.ddr := by
  simp only [State.dispatchTo]; (repeat' split) <;> simp -implicitDefEqProofs

@[simp] theorem State.ddr_dispatch (s : State) (src : Nat) (ms : List OutMsg) : (s.dispatch src ms).ddr = s.ddr := by
  simp -implicitDefEqProofs [State.dispatch]

@[simp] theorem State.ddr_issueAt (s : State) (i : Nat) (b : Bundle) (k : Checks) : (s.issueAt i b k).ddr = s.ddr := by
  simp -implicitDefEqProofs [State.issueAt]

@[simp] theorem State.ddr_upToCycle (s : State) (i : Nat) (cycle : Nat) : (s.upToCycle i cycle).ddr = s.ddr := by
  simp -implicitDefEqProofs [State.upToCycle]

@[simp] theorem State.ddr_touchDma (s : State) (i : Nat) (c : Nat) (b : Nat) : (s.touchDma i c b).ddr = s.ddr := by
  simp -implicitDefEqProofs [State.touchDma]

@[simp] theorem State.sites_remod (s : State) (n : Nat) : (s.remod n).sites = s.sites := by
  simp -implicitDefEqProofs [State.remod]

@[simp] theorem State.ddr_remod (s : State) (n : Nat) : (s.remod n).ddr = s.ddr := by
  simp -implicitDefEqProofs [State.remod]

@[simp] theorem State.sites_corrected (s : State) (ch : Nat) (unit : Nat) (devices : List Nat) (src : DdrSource) :
    (s.corrected ch unit devices src).sites = s.sites := by
  simp only [State.corrected]; split <;> simp -implicitDefEqProofs

@[simp] theorem State.mem_corrected (s : State) (ch : Nat) (unit : Nat) (devices : List Nat) (src : DdrSource) :
    (s.corrected ch unit devices src).ddr.mem = s.ddr.mem := by
  simp only [State.corrected]; split <;> simp -implicitDefEqProofs

@[simp] theorem State.sites_uncorrected (s : State) (ch : Nat) (unit : Nat) (src : DdrSource) :
    (s.uncorrected ch unit src).sites = s.sites := by
  simp -implicitDefEqProofs [State.uncorrected]

@[simp] theorem State.mem_uncorrected (s : State) (ch : Nat) (unit : Nat) (src : DdrSource) :
    (s.uncorrected ch unit src).ddr.mem = s.ddr.mem := by
  simp -implicitDefEqProofs [State.uncorrected]

@[simp] theorem State.sites_ddrFound (s : State) (q : Nat) (l : Nat) (f : EccFind) (src : DdrSource) :
    (s.ddrFound q l f src).sites = s.sites := by
  simp only [State.ddrFound]; (repeat' split) <;> simp -implicitDefEqProofs

@[simp] theorem State.sites_ddrFinds (s : State) (q : Nat) (l : Nat) (n : Nat) (found : List (Nat × EccFind)) (src : DdrSource) :
    (s.ddrFinds q l n found src).sites = s.sites := by
  simp -implicitDefEqProofs [State.ddrFinds]

@[simp] theorem State.sites_countLate (s : State) (q : Nat) (late : Bool) : (s.countLate q late).sites = s.sites := rfl

@[simp] theorem State.ddr_countLate (s : State) (q : Nat) (late : Bool) : (s.countLate q late).ddr = s.ddr := rfl

@[simp] theorem State.sites_takeIndex (s : State) (f : Nat) (p : PtrIndex) : (s.takeIndex f p).sites = s.sites := by
  simp -implicitDefEqProofs [State.takeIndex]

@[simp] theorem State.ddr_takeIndex (s : State) (f : Nat) (p : PtrIndex) : (s.takeIndex f p).ddr = s.ddr := by
  simp -implicitDefEqProofs [State.takeIndex]

@[simp] theorem State.sites_writeHeld (s : State) (f : Nat) (r : Nat) : (s.writeHeld f r).sites = s.sites := by
  simp -implicitDefEqProofs [State.writeHeld]

@[simp] theorem State.ddr_writeHeld (s : State) (f : Nat) (r : Nat) : (s.writeHeld f r).ddr = s.ddr := by
  simp -implicitDefEqProofs [State.writeHeld]

@[simp] theorem State.sites_consume (s : State) (f : Nat) (r : Nat) (units : Nat) (cost : Nat) :
    (s.consume f r units cost).sites = s.sites := rfl

@[simp] theorem State.ddr_consume (s : State) (f : Nat) (r : Nat) (units : Nat) (cost : Nat) :
    (s.consume f r units cost).ddr = s.ddr := rfl

@[simp] theorem State.sites_refuse (s : State) (c : CmdRef) (st : Status) (res : List Byte) :
    (s.refuse c st res).sites = s.sites := by
  simp -implicitDefEqProofs [State.refuse]

@[simp] theorem State.ddr_refuse (s : State) (c : CmdRef) (st : Status) (res : List Byte) : (s.refuse c st res).ddr = s.ddr := by
  simp -implicitDefEqProofs [State.refuse]

@[simp] theorem State.sites_accept (s : State) (h : CmdHead) (opc : Nat) (arg : Nat) (default_ : Nat) :
    (s.accept h opc arg default_).sites = s.sites := rfl

@[simp] theorem State.ddr_accept (s : State) (h : CmdHead) (opc : Nat) (arg : Nat) (default_ : Nat) :
    (s.accept h opc arg default_).ddr = s.ddr := rfl

@[simp] theorem State.sites_disarm (s : State) (c : Nat) : (s.disarm c).sites = s.sites := rfl

@[simp] theorem State.ddr_disarm (s : State) (c : Nat) : (s.disarm c).ddr = s.ddr := rfl

@[simp] theorem State.sites_dropLoad (s : State) (c : Nat) : (s.dropLoad c).sites = s.sites := rfl

@[simp] theorem State.ddr_dropLoad (s : State) (c : Nat) : (s.dropLoad c).ddr = s.ddr := rfl

@[simp] theorem State.sites_armOne (s : State) (c : Nat) (d : SluiceDecl) : (s.armOne c d).sites = s.sites := by
  simp only [State.armOne]; (repeat' split) <;> simp -implicitDefEqProofs

@[simp] theorem State.ddr_armOne (s : State) (c : Nat) (d : SluiceDecl) : (s.armOne c d).ddr = s.ddr := by
  simp only [State.armOne]; (repeat' split) <;> simp -implicitDefEqProofs

@[simp] theorem State.sites_arm (s : State) (c : Nat) : (s.arm c).sites = s.sites := by
  simp only [State.arm]; split <;> simp -implicitDefEqProofs

@[simp] theorem State.ddr_arm (s : State) (c : Nat) : (s.arm c).ddr = s.ddr := by
  simp only [State.arm]; split <;> simp -implicitDefEqProofs

@[simp] theorem State.sites_endSteps (s : State) (c : Nat) (st : Status) : (s.endSteps c st).sites = s.sites := by
  simp -implicitDefEqProofs [State.endSteps]

@[simp] theorem State.ddr_endSteps (s : State) (c : Nat) (st : Status) : (s.endSteps c st).ddr = s.ddr := by
  simp -implicitDefEqProofs [State.endSteps]

@[simp] theorem State.ddr_stopCtx (s : State) (c : Nat) : (s.stopCtx c).ddr = s.ddr := by
  simp -implicitDefEqProofs [State.stopCtx]

@[simp] theorem State.sites_stage (s : State) (h : CmdHead) (id : Nat) (ch : Change) : (s.stage h id ch).sites = s.sites := by
  simp only [State.stage]; (repeat' split) <;> simp -implicitDefEqProofs

@[simp] theorem State.ddr_stage (s : State) (h : CmdHead) (id : Nat) (ch : Change) : (s.stage h id ch).ddr = s.ddr := by
  simp only [State.stage]; (repeat' split) <;> simp -implicitDefEqProofs

@[simp] theorem State.sites_endPass (s : State) : (s.endPass).sites = s.sites := by
  simp -implicitDefEqProofs [State.endPass]

@[simp] theorem State.ddr_endPass (s : State) : (s.endPass).ddr = s.ddr := by
  simp -implicitDefEqProofs [State.endPass]

@[simp] theorem State.sites_logDigest (s : State) (l : DigestLog) : (s.logDigest l).sites = s.sites := rfl

@[simp] theorem State.ddr_logDigest (s : State) (l : DigestLog) : (s.logDigest l).ddr = s.ddr := rfl

@[simp] theorem State.ddr_abortCtx (s : State) (c : Nat) (fin : CtxState) : (s.abortCtx c fin).ddr = s.ddr := by
  simp -implicitDefEqProofs [State.abortCtx]

@[simp] theorem State.sites_unwait (s : State) (h : CmdHead) (id : Nat) : (s.unwait h id).sites = s.sites := rfl

@[simp] theorem State.ddr_unwait (s : State) (h : CmdHead) (id : Nat) : (s.unwait h id).ddr = s.ddr := rfl

@[simp] theorem State.sites_cacheIn (s : State) (id : Nat) : (s.cacheIn id).sites = s.sites := rfl

@[simp] theorem State.ddr_cacheIn (s : State) (id : Nat) : (s.cacheIn id).ddr = s.ddr := rfl

@[simp] theorem State.sites_lateFill (s : State) : (s.lateFill).sites = s.sites := rfl

@[simp] theorem State.ddr_lateFill (s : State) : (s.lateFill).ddr = s.ddr := rfl

@[simp] theorem State.sites_writeCfg (s : State) (f : Nat) (r : Nat) (v : Nat) : (s.writeCfg f r v).sites = s.sites := by
  simp -implicitDefEqProofs [State.writeCfg]

@[simp] theorem State.ddr_writeCfg (s : State) (f : Nat) (r : Nat) (v : Nat) : (s.writeCfg f r v).ddr = s.ddr := by
  simp -implicitDefEqProofs [State.writeCfg]

@[simp] theorem State.sites_writeAllowance (s : State) (v : Nat) : (s.writeAllowance v).sites = s.sites := rfl

@[simp] theorem State.ddr_writeAllowance (s : State) (v : Nat) : (s.writeAllowance v).ddr = s.ddr := rfl

@[simp] theorem State.sites_resetIgnored (s : State) : (s.resetIgnored).sites = s.sites := rfl

@[simp] theorem State.ddr_resetIgnored (s : State) : (s.resetIgnored).ddr = s.ddr := rfl

@[simp] theorem State.sites_resetAnswer (s : State) (status : Nat) (level : Nat) :
    (s.resetAnswer status level).sites = s.sites := rfl

@[simp] theorem State.ddr_resetAnswer (s : State) (status : Nat) (level : Nat) : (s.resetAnswer status level).ddr = s.ddr := rfl

@[simp] theorem State.ddr_haltForReset (s : State) (c : Nat) : (s.haltForReset c).ddr = s.ddr := by
  simp -implicitDefEqProofs [State.haltForReset]

@[simp] theorem State.sites_cpbHold (s : State) : (s.cpbHold).sites = s.sites := by
  simp -implicitDefEqProofs [State.cpbHold]

@[simp] theorem State.ddr_cpbHold (s : State) : (s.cpbHold).ddr = s.ddr := by
  simp -implicitDefEqProofs [State.cpbHold]

@[simp] theorem State.sites_setDev (s : State) (d : DevCode) (braked : List Nat) : (s.setDev d braked).sites = s.sites := by
  simp -implicitDefEqProofs [State.setDev]

@[simp] theorem State.ddr_setDev (s : State) (d : DevCode) (braked : List Nat) : (s.setDev d braked).ddr = s.ddr := by
  simp -implicitDefEqProofs [State.setDev]

@[simp] theorem State.sites_mbox (s : State) (opc : Nat) (result : Option Status) : (s.mbox opc result).sites = s.sites := rfl

@[simp] theorem State.ddr_mbox (s : State) (opc : Nat) (result : Option Status) : (s.mbox opc result).ddr = s.ddr := rfl

@[simp] theorem State.sites_fwStage (s : State) : (s.fwStage).sites = s.sites := by
  simp only [State.fwStage]; (repeat' split) <;> simp -implicitDefEqProofs

@[simp] theorem State.ddr_fwStage (s : State) : (s.fwStage).ddr = s.ddr := by
  simp only [State.fwStage]; (repeat' split) <;> simp -implicitDefEqProofs

@[simp] theorem State.sites_ownerSet (s : State) : (s.ownerSet).sites = s.sites := by
  simp only [State.ownerSet]; (repeat' split) <;> simp -implicitDefEqProofs

@[simp] theorem State.ddr_ownerSet (s : State) : (s.ownerSet).ddr = s.ddr := by
  simp only [State.ownerSet]; (repeat' split) <;> simp -implicitDefEqProofs

@[simp] theorem State.sites_mboxReq (s : State) (key : Nat) (opc : Nat) : (s.mboxReq key opc).sites = s.sites := by
  simp -implicitDefEqProofs [State.mboxReq]

@[simp] theorem State.ddr_mboxReq (s : State) (key : Nat) (opc : Nat) : (s.mboxReq key opc).ddr = s.ddr := by
  simp -implicitDefEqProofs [State.mboxReq]

@[simp] theorem State.sites_writeConfig (s : State) (f : Nat) (o : Nat) (v : Nat) : (s.writeConfig f o v).sites = s.sites := by
  simp -implicitDefEqProofs [State.writeConfig]

@[simp] theorem State.ddr_writeConfig (s : State) (f : Nat) (o : Nat) (v : Nat) : (s.writeConfig f o v).ddr = s.ddr := by
  simp -implicitDefEqProofs [State.writeConfig]

@[simp] theorem State.sites_writeRing (s : State) (f : Nat) (o : Nat) (v : Nat) : (s.writeRing f o v).sites = s.sites := by
  simp -implicitDefEqProofs [State.writeRing]

@[simp] theorem State.ddr_writeRing (s : State) (f : Nat) (o : Nat) (v : Nat) : (s.writeRing f o v).ddr = s.ddr := by
  simp -implicitDefEqProofs [State.writeRing]

@[simp] theorem State.sites_writeMsix (s : State) (f : Nat) (i : Nat) (v : Nat) : (s.writeMsix f i v).sites = s.sites := by
  simp -implicitDefEqProofs [State.writeMsix]

@[simp] theorem State.ddr_writeMsix (s : State) (f : Nat) (i : Nat) (v : Nat) : (s.writeMsix f i v).ddr = s.ddr := by
  simp -implicitDefEqProofs [State.writeMsix]

@[simp] theorem State.sites_writePf (s : State) (o : Nat) (v : Nat) : (s.writePf o v).sites = s.sites := by
  simp -implicitDefEqProofs [State.writePf]

@[simp] theorem State.ddr_writePf (s : State) (o : Nat) (v : Nat) : (s.writePf o v).ddr = s.ddr := by
  simp -implicitDefEqProofs [State.writePf]

@[simp] theorem State.sites_aerNote (s : State) (e : AerError) : (s.aerNote e).sites = s.sites := rfl

@[simp] theorem State.ddr_aerNote (s : State) (e : AerError) : (s.aerNote e).ddr = s.ddr := rfl

@[simp] theorem State.sites_bar2Lost (s : State) (o : Nat) : (s.bar2Lost o).sites = s.sites := by
  simp -implicitDefEqProofs [State.bar2Lost]

@[simp] theorem State.ddr_bar2Lost (s : State) (o : Nat) : (s.bar2Lost o).ddr = s.ddr := by
  simp -implicitDefEqProofs [State.bar2Lost]

@[simp] theorem State.sites_bar2Answer (s : State) (bs : List Byte) (poison : Bool) :
    (s.bar2Answer bs poison).sites = s.sites := by
  simp -implicitDefEqProofs [State.bar2Answer]

@[simp] theorem State.ddr_bar2Answer (s : State) (bs : List Byte) (poison : Bool) : (s.bar2Answer bs poison).ddr = s.ddr := by
  simp -implicitDefEqProofs [State.bar2Answer]

@[simp] theorem State.ddr_tripped (s : State) : (s.tripped).ddr = s.ddr := rfl

@[simp] theorem State.sites_readFlash (s : State) : (s.readFlash).sites = s.sites := by
  simp only [State.readFlash]; split <;> simp -implicitDefEqProofs

@[simp] theorem State.ddr_readFlash (s : State) : (s.readFlash).ddr = s.ddr := by
  simp only [State.readFlash]; split <;> simp -implicitDefEqProofs

@[simp] theorem State.sites_incompleteSite (s : State) (starts : Nat) (i : Nat) :
    (s.incompleteSite starts i).sites = s.sites := by
  simp -implicitDefEqProofs [State.incompleteSite]

@[simp] theorem State.ddr_incompleteSite (s : State) (starts : Nat) (i : Nat) : (s.incompleteSite starts i).ddr = s.ddr := by
  simp -implicitDefEqProofs [State.incompleteSite]

@[simp] theorem State.sites_startSite (s : State) (i : Nat) : (s.startSite i).sites = s.sites := by
  simp -implicitDefEqProofs [State.startSite]

@[simp] theorem State.ddr_startSite (s : State) (i : Nat) : (s.startSite i).ddr = s.ddr := by
  simp -implicitDefEqProofs [State.startSite]

@[simp] theorem State.ddr_rebuild (s : State) (q : Nat) (fences : List Nat) : (s.rebuild q fences).ddr = s.ddr := by
  simp -implicitDefEqProofs [State.rebuild]

@[simp] theorem State.ddr_startQuad (s : State) (bad : List Nat) (q : Nat) : (s.startQuad bad q).ddr = s.ddr := by
  simp -implicitDefEqProofs [State.startQuad]

@[simp] theorem State.sites_trainDdr (s : State) (failed : List Nat) : (s.trainDdr failed).sites = s.sites := by
  simp -implicitDefEqProofs [State.trainDdr]

@[simp] theorem State.mem_trainDdr (s : State) (failed : List Nat) : (s.trainDdr failed).ddr.mem = s.ddr.mem := by
  simp -implicitDefEqProofs [State.trainDdr]

@[simp] theorem State.ddr_applyDefects (s : State) (q : Nat) (full : Bool) : (s.applyDefects q full).ddr = s.ddr := by
  simp -implicitDefEqProofs [State.applyDefects]

@[simp] theorem State.ddr_softRepair (s : State) (found : List DefectFact) (q : Nat) : (s.softRepair found q).ddr = s.ddr := by
  simp -implicitDefEqProofs [State.softRepair]

@[simp] theorem State.sites_cpbStarted (s : State) : (s.cpbStarted).sites = s.sites := by
  simp -implicitDefEqProofs [State.cpbStarted]

@[simp] theorem State.ddr_cpbStarted (s : State) : (s.cpbStarted).ddr = s.ddr := by
  simp -implicitDefEqProofs [State.cpbStarted]

@[simp] theorem State.sites_commitStart (s : State) (totalMs : Nat) (fuseMs : Nat) :
    (s.commitStart totalMs fuseMs).sites = s.sites := rfl

@[simp] theorem State.mem_commitStart (s : State) (totalMs : Nat) (fuseMs : Nat) :
    (s.commitStart totalMs fuseMs).ddr.mem = s.ddr.mem := rfl

@[simp] theorem State.sites_decide9 (s : State) : (s.decide9).sites = s.sites := by
  simp -implicitDefEqProofs [State.decide9]

@[simp] theorem State.ddr_decide9 (s : State) : (s.decide9).ddr = s.ddr := by
  simp -implicitDefEqProofs [State.decide9]

@[simp] theorem State.sites_brakeRing (s : State) (chip : Bool) (quads : Nat) (cause : Nat) (fault : Option FaultRec)
    (seqs : List ((Nat × Nat) × Nat)) (p : Nat × Nat) :
    (s.brakeRing chip quads cause fault seqs p).sites = s.sites := by
  simp only [State.brakeRing]; (repeat' split) <;> simp -implicitDefEqProofs

@[simp] theorem State.ddr_brakeRing (s : State) (chip : Bool) (quads : Nat) (cause : Nat) (fault : Option FaultRec)
    (seqs : List ((Nat × Nat) × Nat)) (p : Nat × Nat) :
    (s.brakeRing chip quads cause fault seqs p).ddr = s.ddr := by
  simp only [State.brakeRing]; (repeat' split) <;> simp -implicitDefEqProofs

@[simp] theorem State.sites_abandonPlacements (s : State) (quads : List Nat) (old : List (Nat × ChangeSet)) :
    (s.abandonPlacements quads old).sites = s.sites := by
  simp -implicitDefEqProofs [State.abandonPlacements]

@[simp] theorem State.ddr_abandonPlacements (s : State) (quads : List Nat) (old : List (Nat × ChangeSet)) :
    (s.abandonPlacements quads old).ddr = s.ddr := by
  simp -implicitDefEqProofs [State.abandonPlacements]

@[simp] theorem State.sites_discardAll (s : State) (st : Status) : (s.discardAll st).sites = s.sites := by
  simp -implicitDefEqProofs [State.discardAll]

@[simp] theorem State.ddr_discardAll (s : State) (st : Status) : (s.discardAll st).ddr = s.ddr := by
  simp -implicitDefEqProofs [State.discardAll]

@[simp] theorem State.sites_brakeMessage (s : State) (f : Nat) : (s.brakeMessage f).sites = s.sites := by
  simp only [State.brakeMessage]; split <;> simp -implicitDefEqProofs

@[simp] theorem State.ddr_brakeMessage (s : State) (f : Nat) : (s.brakeMessage f).ddr = s.ddr := by
  simp only [State.brakeMessage]; split <;> simp -implicitDefEqProofs

@[simp] theorem State.sites_brakeAt (s : State) (chip : Bool) (quads : List Nat) (cause : Nat) (fault : Option FaultRec)
    (seqs : List ((Nat × Nat) × Nat)) :
    (s.brakeAt chip quads cause fault seqs).sites = s.sites := by
  simp -implicitDefEqProofs [State.brakeAt]

@[simp] theorem State.mem_brakeAt (s : State) (chip : Bool) (quads : List Nat) (cause : Nat) (fault : Option FaultRec)
    (seqs : List ((Nat × Nat) × Nat)) :
    (s.brakeAt chip quads cause fault seqs).ddr.mem = s.ddr.mem := by
  simp -implicitDefEqProofs [State.brakeAt]

@[simp] theorem State.sites_brake (s : State) (quads : List Nat) (hub : Bool) (cause : Cause) (fault : Option FaultRec)
    (seqs : List ((Nat × Nat) × Nat)) :
    (s.brake quads hub cause fault seqs).sites = s.sites := by
  simp -implicitDefEqProofs [State.brake]

@[simp] theorem State.mem_brake (s : State) (quads : List Nat) (hub : Bool) (cause : Cause) (fault : Option FaultRec)
    (seqs : List ((Nat × Nat) × Nat)) :
    (s.brake quads hub cause fault seqs).ddr.mem = s.ddr.mem := by
  simp only [State.brake]; split <;> simp -implicitDefEqProofs

@[simp] theorem State.sites_heatBrake (s : State) (die : Nat) (temp : Nat) : (s.heatBrake die temp).sites = s.sites := by
  simp only [State.heatBrake]; split <;> simp -implicitDefEqProofs

@[simp] theorem State.mem_heatBrake (s : State) (die : Nat) (temp : Nat) : (s.heatBrake die temp).ddr.mem = s.ddr.mem := by
  simp only [State.heatBrake]; (repeat' split) <;> simp -implicitDefEqProofs

@[simp] theorem State.sites_brakeDone (s : State) : (s.brakeDone).sites = s.sites := by
  simp -implicitDefEqProofs [State.brakeDone]

@[simp] theorem State.ddr_brakeDone (s : State) : (s.brakeDone).ddr = s.ddr := by
  simp -implicitDefEqProofs [State.brakeDone]

@[simp] theorem State.sites_reelect (s : State) : (s.reelect).sites = s.sites := by
  simp -implicitDefEqProofs [State.reelect]

@[simp] theorem State.ddr_reelect (s : State) : (s.reelect).ddr = s.ddr := by
  simp -implicitDefEqProofs [State.reelect]

@[simp] theorem State.sites_applyManifest (s : State) (m : FabricManifest) : (s.applyManifest m).sites = s.sites := by
  simp -implicitDefEqProofs [State.applyManifest]

@[simp] theorem State.ddr_applyManifest (s : State) (m : FabricManifest) : (s.applyManifest m).ddr = s.ddr := by
  simp -implicitDefEqProofs [State.applyManifest]

@[simp] theorem State.sites_relink (s : State) : (s.relink).sites = s.sites := by
  simp -implicitDefEqProofs [State.relink]

@[simp] theorem State.ddr_relink (s : State) : (s.relink).ddr = s.ddr := by
  simp -implicitDefEqProofs [State.relink]

@[simp] theorem State.sites_draw (s : State) : (s.draw).1.sites = s.sites := rfl

@[simp] theorem State.ddr_draw (s : State) : (s.draw).1.ddr = s.ddr := rfl

@[simp] theorem State.sites_spdm (s : State) (t : Transport) (a : SpdmAnswer) : (s.spdm t a).sites = s.sites := by
  simp only [State.spdm]; split <;> simp -implicitDefEqProofs

@[simp] theorem State.ddr_spdm (s : State) (t : Transport) (a : SpdmAnswer) : (s.spdm t a).ddr = s.ddr := by
  simp only [State.spdm]; split <;> simp -implicitDefEqProofs

@[simp] theorem State.sites_resendPort (s : State) (n : Nat) : (s.resendPort n).sites = s.sites := rfl

@[simp] theorem State.ddr_resendPort (s : State) (n : Nat) : (s.resendPort n).ddr = s.ddr := rfl

@[simp] theorem State.sites_takeAck (s : State) (n : Nat) (p : Packet) : (s.takeAck n p).sites = s.sites := by
  simp -implicitDefEqProofs [State.takeAck]

@[simp] theorem State.ddr_takeAck (s : State) (n : Nat) (p : Packet) : (s.takeAck n p).ddr = s.ddr := by
  simp -implicitDefEqProofs [State.takeAck]

@[simp] theorem State.sites_receive (s : State) (n : Nat) (p : Packet) : (s.receive n p).1.sites = s.sites := by
  simp only [State.receive]; (repeat' split) <;> simp -implicitDefEqProofs

@[simp] theorem State.ddr_receive (s : State) (n : Nat) (p : Packet) : (s.receive n p).1.ddr = s.ddr := by
  simp only [State.receive]; (repeat' split) <;> simp -implicitDefEqProofs

@[simp] theorem State.sites_learnTurn (s : State) (no : Nat) : (s.learnTurn no).sites = s.sites := rfl

@[simp] theorem State.ddr_learnTurn (s : State) (no : Nat) : (s.learnTurn no).ddr = s.ddr := rfl

@[simp] theorem State.sites_portUp (s : State) (n : Nat) (peerPos : Nat) (peerPort : Nat) :
    (s.portUp n peerPos peerPort).sites = s.sites := rfl

@[simp] theorem State.ddr_portUp (s : State) (n : Nat) (peerPos : Nat) (peerPort : Nat) :
    (s.portUp n peerPos peerPort).ddr = s.ddr := rfl

@[simp] theorem State.sites_scrubFound (s : State) (n : Nat) (f : EccFind) : (s.scrubFound n f).sites = s.sites := by
  simp only [State.scrubFound]; (repeat' split) <;> simp -implicitDefEqProofs

@[simp] theorem State.sites_abandon (s : State) (x : Cmd) : (s.abandon x).sites = s.sites := by
  simp -implicitDefEqProofs [State.abandon]

@[simp] theorem State.ddr_abandon (s : State) (x : Cmd) : (s.abandon x).ddr = s.ddr := by
  simp -implicitDefEqProofs [State.abandon]

@[simp] theorem State.sites_timeOut (s : State) (x : Cmd) : (s.timeOut x).sites = s.sites := by
  simp -implicitDefEqProofs [State.timeOut]

@[simp] theorem State.ddr_timeOut (s : State) (x : Cmd) : (s.timeOut x).ddr = s.ddr := by
  simp -implicitDefEqProofs [State.timeOut]

@[simp] theorem State.sites_capture (s : State) (quad : Nat) (z : Snapshot) : (s.capture quad z).sites = s.sites := rfl

@[simp] theorem State.mem_capture (s : State) (quad : Nat) (z : Snapshot) : (s.capture quad z).ddr.mem = s.ddr.mem := rfl

@[simp] theorem State.sites_nextReplay (s : State) (q : Nat) (r : Replay) : (s.nextReplay q r).sites = s.sites := by
  simp only [State.nextReplay]; split <;> simp -implicitDefEqProofs

@[simp] theorem State.ddr_nextReplay (s : State) (q : Nat) (r : Replay) : (s.nextReplay q r).ddr = s.ddr := by
  simp only [State.nextReplay]; split <;> simp -implicitDefEqProofs

@[simp] theorem State.sites_becomeSuspect (s : State) : (s.becomeSuspect).sites = s.sites := by
  simp -implicitDefEqProofs [State.becomeSuspect]

@[simp] theorem State.ddr_becomeSuspect (s : State) : (s.becomeSuspect).ddr = s.ddr := by
  simp -implicitDefEqProofs [State.becomeSuspect]

@[simp] theorem State.sites_idlePorts (s : State) (cause : Cause) : (s.idlePorts cause).sites = s.sites := by
  simp -implicitDefEqProofs [State.idlePorts]

@[simp] theorem State.ddr_idlePorts (s : State) (cause : Cause) : (s.idlePorts cause).ddr = s.ddr := by
  simp -implicitDefEqProofs [State.idlePorts]

@[simp] theorem State.sites_clearFor (s : State) (ch : Change) : (s.clearFor ch).sites = s.sites := by
  simp -implicitDefEqProofs [State.clearFor]

@[simp] theorem State.ddr_clearFor (s : State) (ch : Change) : (s.clearFor ch).ddr = s.ddr := by
  simp -implicitDefEqProofs [State.clearFor]

@[simp] theorem State.sites_stagePlacement (s : State) (q : Nat) (tile : Nat) (site : Nat) :
    (s.stagePlacement q tile site).sites = s.sites := by
  simp -implicitDefEqProofs [State.stagePlacement]

@[simp] theorem State.ddr_stagePlacement (s : State) (q : Nat) (tile : Nat) (site : Nat) :
    (s.stagePlacement q tile site).ddr = s.ddr := by
  simp -implicitDefEqProofs [State.stagePlacement]

@[simp] theorem State.sites_retire (s : State) (q : Nat) (failed : List Nat) : (s.retire q failed).sites = s.sites := by
  simp -implicitDefEqProofs [State.retire]

@[simp] theorem State.sites_unbrake (s : State) (q : Nat) : (s.unbrake q).sites = s.sites := by
  simp -implicitDefEqProofs [State.unbrake]

@[simp] theorem State.ddr_unbrake (s : State) (q : Nat) : (s.unbrake q).ddr = s.ddr := by
  simp -implicitDefEqProofs [State.unbrake]

@[simp] theorem State.sites_armMissing (s : State) (c : Nat) : (s.armMissing c).sites = s.sites := by
  simp only [State.armMissing]; split <;> simp -implicitDefEqProofs

@[simp] theorem State.ddr_armMissing (s : State) (c : Nat) : (s.armMissing c).ddr = s.ddr := by
  simp only [State.armMissing]; split <;> simp -implicitDefEqProofs

@[simp] theorem State.sites_degradedToday (s : State) : (s.degradedToday).sites = s.sites := by
  simp -implicitDefEqProofs [State.degradedToday]

@[simp] theorem State.ddr_degradedToday (s : State) : (s.degradedToday).ddr = s.ddr := by
  simp -implicitDefEqProofs [State.degradedToday]

@[simp] theorem State.sites_setHolds (s : State)  : (s.setHolds).sites = s.sites :=
  State.sites_foldl _ (fun t x => by dsimp only; split <;> rfl) _ _

@[simp] theorem State.ddr_setHolds (s : State)  : (s.setHolds).ddr = s.ddr :=
  State.ddr_foldl _ (fun t x => by dsimp only; split <;> rfl) _ _

@[simp] theorem State.sites_postRanges (s : State) (c type turn seq fuel : Nat) (l) :
    (s.postRanges c type turn seq fuel l).sites = s.sites := by
  fun_induction State.postRanges <;> simp_all

@[simp] theorem State.ddr_postRanges (s : State) (c type turn seq fuel : Nat) (l) :
    (s.postRanges c type turn seq fuel l).ddr = s.ddr := by
  fun_induction State.postRanges <;> simp_all

@[simp] theorem State.sites_suspectRanges (s : State) (c first : Nat) : (s.suspectRanges c first).sites = s.sites := by
  simp [State.suspectRanges]

@[simp] theorem State.ddr_suspectRanges (s : State) (c first : Nat) : (s.suspectRanges c first).ddr = s.ddr := by
  simp [State.suspectRanges]

@[simp] theorem State.sites_explainDiag (s : State) (c : Nat) (d l) : (s.explainDiag c d l).sites = s.sites := by
  simp [State.explainDiag]

@[simp] theorem State.ddr_explainDiag (s : State) (c : Nat) (d l) : (s.explainDiag c d l).ddr = s.ddr := by
  simp [State.explainDiag]

@[simp] theorem State.sites_explain (s : State) (l) : (s.explain l).sites = s.sites := by
  unfold State.explain
  rw [State.sites_foldl]
  · simp -implicitDefEqProofs
  · intro t x; split <;> simp

@[simp] theorem State.ddr_explain (s : State) (l) : (s.explain l).ddr = s.ddr := by
  unfold State.explain
  rw [State.ddr_foldl]
  · simp -implicitDefEqProofs
  · intro t x; split <;> simp

@[simp] theorem State.sites_countVerdict (s : State) (q v) :
    (s.countVerdict q v).sites = s.sites := by cases v <;> simp [State.countVerdict]

@[simp] theorem State.ddr_countVerdict (s : State) (q v) :
    (s.countVerdict q v).ddr = s.ddr := by cases v <;> simp [State.countVerdict]

@[simp] theorem State.sites_countAudits (s : State) (q l) : (s.countAudits q l).sites = s.sites := by
  unfold State.countAudits
  dsimp only
  rw [State.sites_foldl]
  · simp 
  · intro t x; split <;> simp

@[simp] theorem State.ddr_countAudits (s : State) (q l) : (s.countAudits q l).ddr = s.ddr := by
  unfold State.countAudits
  dsimp only
  rw [State.ddr_foldl]
  · simp 
  · intro t x; split <;> simp

@[simp] theorem State.sites_lapseLate (s : State) : (s.lapseLate).sites = s.sites := 
  State.sites_foldl _ (fun t x => by split <;> rfl) _ _

@[simp] theorem State.ddr_lapseLate (s : State) : (s.lapseLate).ddr = s.ddr := 
  State.ddr_foldl _ (fun t x => by split <;> rfl) _ _

@[simp] theorem State.sites_intakeWatch (s : State) : (s.intakeWatch).sites = s.sites := by
  unfold State.intakeWatch
  dsimp only
  split <;> simp -implicitDefEqProofs

@[simp] theorem State.ddr_intakeWatch (s : State) : (s.intakeWatch).ddr = s.ddr := by
  unfold State.intakeWatch
  dsimp only
  split <;> simp -implicitDefEqProofs

@[simp] theorem State.ddr_takeWord (s : State) (q id p acc i) : (s.takeWord q id p acc i).1.ddr = s.ddr := by
  unfold State.takeWord
  dsimp only
  (repeat' split) <;> simp

theorem State.ddr_startCtx (s : State) (c) : (s.startCtx c).ddr = s.ddr := by
  unfold State.startCtx
  dsimp only
  split
  · rfl
  · rw [State.ddr_modCtx, State.ddr_foldl]
    intro t x; split <;> simp

@[simp] theorem State.sites_damagedRecs (s : State) (c : Nat) (l : List (Nat × Nat)) : (s.damagedRecs c l).sites = s.sites := by
  simp -implicitDefEqProofs [State.damagedRecs]

@[simp] theorem State.ddr_damagedRecs (s : State) (c : Nat) (l : List (Nat × Nat)) : (s.damagedRecs c l).ddr = s.ddr := by
  simp -implicitDefEqProofs [State.damagedRecs]

@[simp] theorem State.sites_damage (s : State) (c : Nat) (origin : Nat) (addr : Nat) (l : List (Nat × Nat)) :
    (s.damage c origin addr l).sites = s.sites := by
  simp only [State.damage]; split <;> simp -implicitDefEqProofs

@[simp] theorem State.ddr_damage (s : State) (c : Nat) (origin : Nat) (addr : Nat) (l : List (Nat × Nat)) :
    (s.damage c origin addr l).ddr = s.ddr := by
  simp only [State.damage]; split <;> simp -implicitDefEqProofs

@[simp] theorem State.sites_commit (s : State) (c : Nat) : (s.commit c).sites = s.sites := by
  simp only [State.commit]; (repeat' split) <;> simp -implicitDefEqProofs

@[simp] theorem State.ddr_commit (s : State) (c : Nat) : (s.commit c).ddr = s.ddr := by
  simp only [State.commit]; (repeat' split) <;> simp -implicitDefEqProofs

@[simp] theorem State.sites_dressRecord (s : State) (c : Nat) (i : Nat) (item : Nat) (index : Nat) (ran : Bool) :
    (s.dressRecord c i item index ran).sites = s.sites := by
  simp -implicitDefEqProofs [State.dressRecord]

@[simp] theorem State.ddr_dressRecord (s : State) (c : Nat) (i : Nat) (item : Nat) (index : Nat) (ran : Bool) :
    (s.dressRecord c i item index ran).ddr = s.ddr := by
  simp -implicitDefEqProofs [State.dressRecord]

@[simp] theorem State.sites_digestFault (s : State) (c : Nat) (d : DigestLog) (ran : Bool) :
    (s.digestFault c d ran).sites = s.sites := by
  simp -implicitDefEqProofs [State.digestFault]

@[simp] theorem State.ddr_digestFault (s : State) (c : Nat) (d : DigestLog) (ran : Bool) :
    (s.digestFault c d ran).ddr = s.ddr := by
  simp -implicitDefEqProofs [State.digestFault]

@[simp] theorem State.sites_rewriteEntry (s : State) (c : Nat) (id : Nat) : (s.rewriteEntry c id).sites = s.sites := by
  simp -implicitDefEqProofs [State.rewriteEntry]

@[simp] theorem State.ddr_rewriteEntry (s : State) (c : Nat) (id : Nat) : (s.rewriteEntry c id).ddr = s.ddr := by
  simp -implicitDefEqProofs [State.rewriteEntry]

@[simp] theorem State.sites_spoilt (s : State) (h : CmdHead) (opc : Nat) (id : Nat) : (s.spoilt h opc id).sites = s.sites := by
  simp -implicitDefEqProofs [State.spoilt]

@[simp] theorem State.ddr_spoilt (s : State) (h : CmdHead) (opc : Nat) (id : Nat) : (s.spoilt h opc id).ddr = s.ddr := by
  simp -implicitDefEqProofs [State.spoilt]

@[simp] theorem State.sites_doubt (s : State) (c : Nat) (cause : Cause) (lines : List SiteLine) (event : Nat) (first : Nat)
    (data : List Byte) (quads : List Nat) (fabric : Bool) :
    (s.doubt c cause lines event first data quads fabric).sites = s.sites := by
  simp -implicitDefEqProofs [State.doubt]

@[simp] theorem State.mem_doubt (s : State) (c : Nat) (cause : Cause) (lines : List SiteLine) (event : Nat) (first : Nat)
    (data : List Byte) (quads : List Nat) (fabric : Bool) :
    (s.doubt c cause lines event first data quads fabric).ddr.mem = s.ddr.mem := by
  simp -implicitDefEqProofs [State.doubt]

@[simp] theorem State.sites_repaired (s : State) (q : Nat) (service : Bool) (bad : List Nat) :
    (s.repaired q service bad).sites = s.sites := by
  simp -implicitDefEqProofs [State.repaired]

@[simp] theorem State.ddr_repaired (s : State) (q : Nat) (service : Bool) (bad : List Nat) :
    (s.repaired q service bad).ddr = s.ddr := by
  simp -implicitDefEqProofs [State.repaired]

@[simp] theorem State.sites_setTargets (s : State)  : (s.setTargets).sites = s.sites :=
  State.sites_foldl _ (fun t x => by split <;> rfl) _ _

@[simp] theorem State.ddr_setTargets (s : State)  : (s.setTargets).ddr = s.ddr :=
  State.ddr_foldl _ (fun t x => by split <;> rfl) _ _

@[simp] theorem State.sites_ddrWrite (s : State) (q poison src fuel l bs) :
    (s.ddrWrite q poison src fuel l bs).sites = s.sites := by
  fun_induction State.ddrWrite <;> simp_all

@[simp] theorem State.ddr_takeWords (s : State) (q id : Nat) (p : Packet) : (s.takeWords q id p).1.ddr = s.ddr :=
  foldl_fixes (fun r : State × List Nat => r.1.ddr) _ (fun r i => State.ddr_takeWord r.1 q id p r.2 i) _ _

@[simp] theorem State.ddr_eachTile (s : State) (c f) : (s.eachTile c f).ddr = s.ddr := by
  unfold State.eachTile
  split
  · rfl
  · exact State.ddr_foldl _ (fun t x => by split <;> rfl) _ _

@[simp] theorem State.ddr_writeRx (s : State) (c off bs) : (s.writeRx c off bs).ddr = s.ddr := by
  unfold State.writeRx
  dsimp only
  split
  · exact State.ddr_foldl _ (fun t x => by split <;> rfl) _ _
  · rfl

@[simp] theorem State.ddr_place (s : State) (c id) : (s.place c id).ddr = s.ddr := by
  unfold State.place
  dsimp only
  split
  · split
    · rfl
    · rw [State.ddr_foldl _ (fun t x => by split <;> simp)]
      simp
  · rfl

@[simp] theorem State.ddr_replaceSite (s : State) (o t) : (s.replaceSite o t).ddr = s.ddr := by
  unfold State.replaceSite
  dsimp only
  split
  · rfl
  · split <;> simp

@[simp] theorem State.ddr_applyPlacements (s : State) (q) : (s.applyPlacements q).ddr = s.ddr := by
  unfold State.applyPlacements
  simp -implicitDefEqProofs

@[simp] theorem State.ddr_engineReset (s : State) (q e) : (s.engineReset q e).ddr = s.ddr := by
  unfold State.engineReset
  simp -implicitDefEqProofs

@[simp] theorem State.ddr_unload (s : State) (c) : (s.unload c).ddr = s.ddr := by
  unfold State.unload
  simp -implicitDefEqProofs

@[simp] theorem State.ddr_fenceSite (s : State) (i : Nat) : (s.fenceSite i).ddr = s.ddr := by
  simp only [State.fenceSite]; (repeat' split) <;> simp -implicitDefEqProofs

@[simp] theorem State.ddr_fenceAll (s : State) : (s.fenceAll).ddr = s.ddr := by
  simp -implicitDefEqProofs [State.fenceAll]

@[simp] theorem State.sites_ddrPut (s : State) (q : Nat) (l : Nat) (bs : List Byte) (poison : Bool) (src : DdrSource) :
    (s.ddrPut q l bs poison src).sites = s.sites := by
  simp -implicitDefEqProofs [State.ddrPut]

@[simp] theorem State.sites_govern (s0 : State) (eMeas : Nat) : (s0.govern eMeas).sites = s0.sites := by
  simp -implicitDefEqProofs [State.govern]

@[simp] theorem State.ddr_govern (s0 : State) (eMeas : Nat) : (s0.govern eMeas).ddr = s0.ddr := by
  simp -implicitDefEqProofs [State.govern]

@[simp] theorem State.ddr_judgePacket (s : State) (c : Nat) (q : Nat) (d : Nat) (p : Packet) :
    (s.judgePacket c q d p).1.ddr = s.ddr := by
  simp only [State.judgePacket]; split <;> simp -implicitDefEqProofs

@[simp] theorem State.ddr_takeWrite (s : State) (p : Packet) : (s.takeWrite p).1.ddr = s.ddr := by
  simp only [State.takeWrite]; (repeat' split) <;> simp -implicitDefEqProofs

@[simp] theorem State.ddr_forward (s : State) (p : Packet) (inDim : Option Nat) : (s.forward p inDim).ddr = s.ddr := by
  simp only [State.forward]; (repeat' split) <;> simp -implicitDefEqProofs

@[simp] theorem State.ddr_resendCtx (s : State) (c : Nat) : (s.resendCtx c).ddr = s.ddr := by
  simp -implicitDefEqProofs [State.resendCtx]

@[simp] theorem State.ddr_releaseXfer (s : State) (site : Nat) (c : Nat) (t : Transfer) :
    (s.releaseXfer site c t).ddr = s.ddr := by
  simp -implicitDefEqProofs [State.releaseXfer]

@[simp] theorem State.ddr_releaseCtx (s : State) (c : Nat) : (s.releaseCtx c).ddr = s.ddr := by
  simp -implicitDefEqProofs [State.releaseCtx]

@[simp] theorem State.ddr_vouch (s : State) (c : Nat) : (s.vouch c).ddr = s.ddr := by
  simp -implicitDefEqProofs [State.vouch]

@[simp] theorem State.ddr_withhold (s : State) (c : Nat) : (s.withhold c).ddr = s.ddr := by
  simp -implicitDefEqProofs [State.withhold]

@[simp] theorem State.ddr_closeCtx (s : State) (c : Nat) (k : CtxFacts) : (s.closeCtx c k).ddr = s.ddr := by
  simp only [State.closeCtx]; (repeat' split) <;> simp -implicitDefEqProofs

@[simp] theorem State.sites_snapWrite (s : State) (slot : Nat) (off : Nat) (bs : List Byte) :
    (s.snapWrite slot off bs).sites = s.sites := by
  simp -implicitDefEqProofs [State.snapWrite]

@[simp] theorem State.ddr_placePlan (s : State) (c : Nat) : (s.placePlan c).ddr = s.ddr := by
  simp -implicitDefEqProofs [State.placePlan]

@[simp] theorem State.ddr_flrCtx (s : State) (c : Nat) : (s.flrCtx c).ddr = s.ddr := by
  simp -implicitDefEqProofs [State.flrCtx]

@[simp] theorem State.ddr_vfReset (s : State) (q : Nat) : (s.vfReset q).ddr = s.ddr := by
  simp -implicitDefEqProofs [State.vfReset]

@[simp] theorem State.ddr_restoreCtx (s : State) (c : Nat) (cause : Option FaultRec) : (s.restoreCtx c cause).ddr = s.ddr := by
  simp only [State.restoreCtx]; (repeat' split) <;> simp -implicitDefEqProofs

/-! ### The scratchpad under the functions of a site -/

@[simp] theorem Site.scr_foldl {α : Type} (f : Site → α → Site) (h : ∀ t x, (f t x).scr = t.scr) (l : List α) (s : Site) :
    (l.foldl f s).scr = s.scr := foldl_fixes Site.scr f h l s

@[simp] theorem Site.scr_ite (p : Prop) [Decidable p] (a b : Site) : (if p then a else b).scr = if p then a.scr else b.scr :=
  apply_ite Site.scr p a b

@[simp] theorem Site.scr_emptied (a : Site) : (a.emptied).1.scr = a.scr := rfl

@[simp] theorem Site.scr_raise (s : Site) (cause : Cause) (detail : Nat) (c : Nat) (data : List Byte) :
    (s.raise cause detail c data).scr = s.scr := rfl

@[simp] theorem Site.scr_overrun (a : Site) (g : Geometry) : (a.overrun g).scr = a.scr := rfl

@[simp] theorem Site.scr_clash (s : Site) (d : Clash) (c : Nat) : (s.clash d c).scr = s.scr := rfl

@[simp] theorem Site.scr_weightAccess (s : Site) (held : Bool) (c : Nat) : (s.weightAccess held c).scr = s.scr := by
  simp only [Site.weightAccess]; (repeat' split) <;> simp -implicitDefEqProofs

@[simp] theorem Site.scr_putGroup (s : Site) (k : Nat) (c : Nat) (g : Group) : (s.putGroup k c g).scr = s.scr := rfl

@[simp] theorem Site.scr_fetchAccess (s : Site) (held : Bool) (c : Nat) : (s.fetchAccess held c).scr = s.scr := by
  simp only [Site.fetchAccess]; split <;> simp -implicitDefEqProofs

@[simp] theorem Site.scr_reloadAccess (s : Site) (c : Nat) : (s.reloadAccess c).scr = s.scr := by
  simp only [Site.reloadAccess]; split <;> simp -implicitDefEqProofs

@[simp] theorem Site.scr_wide (s : Site) (c : Nat) : (s.wide c).scr = s.scr := by
  simp -implicitDefEqProofs [Site.wide]

@[simp] theorem Site.scr_feedCheck (s : Site) (c : Nat) : (s.feedCheck c).scr = s.scr := by
  simp -implicitDefEqProofs [Site.feedCheck]

@[simp] theorem Site.scr_orCol (s : Site) (c : Nat) (f : Flags) : (s.orCol c f).scr = s.scr := by
  simp -implicitDefEqProofs [Site.orCol]

@[simp] theorem Site.scr_landRow (s : Site) (c : Nat) (f : Feed) (m : Multiply) (i : Nat) : (s.landRow c f m i).scr = s.scr := by
  simp only [Site.landRow]; split <;> simp -implicitDefEqProofs

@[simp] theorem Site.scr_setS (s : Site) (r : Nat) (v : Word) : (s.setS r v).scr = s.scr := rfl

@[simp] theorem Site.scr_setP (s : Site) (r : Nat) (v : Bool) : (s.setP r v).scr = s.scr := by
  simp -implicitDefEqProofs [Site.setP]

@[simp] theorem Site.scr_setK (s : Site) (r : Nat) (v : Word) : (s.setK r v).scr = s.scr := rfl

@[simp] theorem Site.scr_setV (s : Site) (r : Nat) (w : List (Word × Word × Bool)) : (s.setV r w).scr = s.scr := rfl

@[simp] theorem Site.scr_setVM (s : Site) (r : Nat) (bits : DWord) (which : DWord) : (s.setVM r bits which).scr = s.scr := by
  simp -implicitDefEqProofs [Site.setVM]

@[simp] theorem Site.scr_orLane (s : Site) (l : Nat) (f : Flags) : (s.orLane l f).scr = s.scr := by
  simp -implicitDefEqProofs [Site.orLane]

@[simp] theorem Site.scr_dropDma (a : Site) (turn : Nat) : (a.dropDma turn).scr = a.scr := rfl

@[simp] theorem Site.scr_modXfer (a : Site) (id : Nat) (f : Transfer → Transfer) : (a.modXfer id f).scr = a.scr := rfl

@[simp] theorem Site.scr_violate (a : Site) (t : Transfer) (cond : Nat) (off : Nat) (cycle : Nat) :
    (a.violate t cond off cycle).scr = a.scr := rfl

@[simp] theorem Site.scr_discardUnsent (a : Site) : (a.discardUnsent).scr = a.scr := rfl

@[simp] theorem Site.scr_ownToken (s : Site) (at_ : Nat) (hop : Nat) (tag : Nat) (u : MsgUnit) :
    (s.ownToken at_ hop tag u).scr = s.scr := rfl

@[simp] theorem Site.scr_deliverToken (a : Site) (t : Transfer) (c : Nat) (status : Nat) (unanswered : Nat) :
    (a.deliverToken t c status unanswered).scr = a.scr := by
  simp -implicitDefEqProofs [Site.deliverToken]

@[simp] theorem Site.scr_early (s : Site) (n : Nat) (b : Bundle) : (s.early n b).scr = s.scr := by
  simp -implicitDefEqProofs [Site.early]

@[simp] theorem Site.scr_inject (s : Site) (c : Nat) (k : Nat) : (s.inject c k).scr = s.scr := rfl

@[simp] theorem Site.scr_send (s : Site) (n : Nat) (m : OutMsg) : (s.send n m).1.scr = s.scr := by
  simp only [Site.send]; split <;> simp -implicitDefEqProofs

@[simp] theorem Site.scr_later (s : Site) (at_ : Nat) (rank : Nat) (r : Result) : (s.later at_ rank r).scr = s.scr := rfl

@[simp] theorem Site.scr_recvV (s : Site) (n : Nat) (f : FmtRV) : (s.recvV n f).scr = s.scr := by
  simp only [Site.recvV]; split <;> simp -implicitDefEqProofs

@[simp] theorem Site.scr_recvS (s : Site) (n : Nat) (f : FmtRV) : (s.recvS n f).scr = s.scr := by
  simp only [Site.recvS]; split <;> simp -implicitDefEqProofs

@[simp] theorem Site.scr_tpush (s : Site) (n : Nat) (q : Nat) (v : Word) : (s.tpush n q v).scr = s.scr := by
  simp -implicitDefEqProofs [Site.tpush]

@[simp] theorem Site.scr_tpop (s : Site) (n : Nat) (f : FmtTO) : (s.tpop n f).scr = s.scr := by
  simp only [Site.tpop]; split <;> simp -implicitDefEqProofs

@[simp] theorem Site.scr_issueDma (s : Site) (n : Nat) (f : FmtDM) : (s.issueDma n f).scr = s.scr := by
  simp -implicitDefEqProofs [Site.issueDma]

@[simp] theorem Site.scr_setSkid (s : Site) (n : Nat) (k : Skid) : (s.setSkid n k).scr = s.scr := rfl

@[simp] theorem Site.scr_dropHead (s : Site) (d : DataSrc) (c : Nat) : (s.dropHead d c).scr = s.scr := by
  simp only [Site.dropHead]; split <;> simp -implicitDefEqProofs

@[simp] theorem Site.scr_startLoop (s : Site) (n : Nat) (kn : BitVec 4) (c : Nat) (end_ : BitVec 10) :
    (s.startLoop n kn c end_).1.scr = s.scr := by
  simp only [Site.startLoop]; (repeat' split) <;> simp -implicitDefEqProofs

@[simp] theorem Site.scr_issueSwitch (s : Site) (n : Nat) (busy : Bool) (f : FmtSW) : (s.issueSwitch n busy f).1.scr = s.scr := by
  simp only [Site.issueSwitch]; (repeat' split) <;> simp -implicitDefEqProofs

@[simp] theorem Site.scr_issueReload (s : Site) (n : Nat) (f : FmtRL) : (s.issueReload n f).1.scr = s.scr := by
  simp only [Site.issueReload]; split <;> simp -implicitDefEqProofs

@[simp] theorem Site.scr_issueOwnr (s : Site) (n : Nat) (f : FmtOW) : (s.issueOwnr n f).1.scr = s.scr := by
  simp only [Site.issueOwnr]; (repeat' split) <;> simp -implicitDefEqProofs

@[simp] theorem Site.scr_postIncrement (s : Site) (n : Nat) (sa : BitVec 5) (sb : BitVec 5) :
    (s.postIncrement n sa sb).scr = s.scr := rfl

@[simp] theorem Site.scr_laneResult (s : Site) (n : Nat) (m : VMask) (vd : BitVec 5) (poison : Nat → Bool)
    (f : Nat → LaneResult) :
    (s.laneResult n m vd poison f).scr = s.scr := rfl

@[simp] theorem Site.scr_issueV3 (s : Site) (n : Nat) (op : V3Op) (f : FmtV3) : (s.issueV3 n op f).scr = s.scr := rfl

@[simp] theorem Site.scr_issueVI (s : Site) (n : Nat) (op : VIOp) (f : FmtVI) : (s.issueVI n op f).scr = s.scr := by
  simp only [Site.issueVI]; split <;> simp -implicitDefEqProofs

@[simp] theorem Site.scr_issueVA (s : Site) (n : Nat) (op : VAOp) (f : FmtVA) : (s.issueVA n op f).scr = s.scr := by
  simp only [Site.issueVA]; split <;> simp -implicitDefEqProofs

@[simp] theorem Site.scr_issueUnpk (s : Site) (n : Nat) (f : FmtVU) : (s.issueUnpk n f).scr = s.scr := rfl

@[simp] theorem Site.scr_issueOcvt (s : Site) (n : Nat) (f : FmtOC) : (s.issueOcvt n f).scr = s.scr := rfl

@[simp] theorem Site.scr_consumeLane (s : Site) (n : Nat) (lane : Nat) (reg : Nat) : (s.consumeLane n lane reg).scr = s.scr := rfl

@[simp] theorem Site.scr_issueVCmp (s : Site) (n : Nat) (op : VCmpOp) (f : FmtVC) : (s.issueVCmp n op f).scr = s.scr := by
  simp only [Site.issueVCmp]; split <;> simp -implicitDefEqProofs

@[simp] theorem Site.scr_issueMLog (s : Site) (n : Nat) (op : LogicOp) (f : FmtML) : (s.issueMLog n op f).scr = s.scr := rfl

@[simp] theorem Site.scr_issueRed (s : Site) (n : Nat) (op : RedOp) (f : FmtRD) : (s.issueRed n op f).scr = s.scr := rfl

@[simp] theorem Site.scr_issueLut (s : Site) (n : Nat) (f : FmtLU) : (s.issueLut n f).scr = s.scr := rfl

@[simp] theorem Site.scr_issueSample (s : Site) (n : Nat) (f : FmtSM) : (s.issueSample n f).scr = s.scr := rfl

@[simp] theorem Site.scr_issueExt (s : Site) (n : Nat) (f : FmtEX) : (s.issueExt n f).scr = s.scr := by
  simp -implicitDefEqProofs [Site.issueExt]

@[simp] theorem Site.scr_issueFrd (s : Site) (n : Nat) (f : FmtFL) : (s.issueFrd n f).scr = s.scr := rfl

@[simp] theorem Site.scr_issueFclr (s : Site) (n : Nat) (m : VMask) (sel : BitVec 1) : (s.issueFclr n m sel).scr = s.scr := by
  simp -implicitDefEqProofs [Site.issueFclr]

@[simp] theorem Site.scr_vecBody (s : Site) (n : Nat) (op : VecOp) : (s.vecBody n op).scr = s.scr := by
  simp only [Site.vecBody]; split <;> simp -implicitDefEqProofs

@[simp] theorem Site.scr_issueVec (s : Site) (n : Nat) (op : VecOp) : (s.issueVec n op).scr = s.scr := by
  simp -implicitDefEqProofs [Site.issueVec]

@[simp] theorem Site.scr_issueMldw (s : Site) (n : Nat) (f : FmtMW) : (s.issueMldw n f).scr = s.scr := by
  simp -implicitDefEqProofs [Site.issueMldw]

@[simp] theorem Site.scr_issueMfeed (s : Site) (n : Nat) (f : FmtMF) : (s.issueMfeed n f).scr = s.scr := rfl

@[simp] theorem Site.scr_disarmFeed (s : Site) (n : Nat) : (s.disarmFeed n).scr = s.scr := rfl

@[simp] theorem Site.scr_issueMmul (s : Site) (n : Nat) (f : FmtMM) : (s.issueMmul n f).scr = s.scr := by
  simp only [Site.issueMmul]; split <;> simp -implicitDefEqProofs

@[simp] theorem Site.scr_issueMat (s : Site) (n : Nat) (op : MatOp) : (s.issueMat n op).scr = s.scr := by
  simp only [Site.issueMat]; (repeat' split) <;> simp -implicitDefEqProofs

@[simp] theorem Site.scr_residueFails (s : Site) (n : Nat) (b : Bundle) (unit : Nat) (i : Nat) :
    (s.residueFails n b unit i).scr = s.scr := by
  simp -implicitDefEqProofs [Site.residueFails]

@[simp] theorem Site.scr_checks (s : Site) (n : Nat) (b : Bundle) (k : Checks) : (s.checks n b k).scr = s.scr := by
  simp only [Site.checks]; split <;> simp -implicitDefEqProofs

@[simp] theorem Site.scr_inSequence (s : Site) (n : Nat) : (s.inSequence n).scr = s.scr := by
  simp -implicitDefEqProofs [Site.inSequence]

@[simp] theorem Site.scr_finish (s : Site) (n : Nat) (f : Flow) : (s.finish n f).scr = s.scr := by
  simp only [Site.finish]; split <;> simp -implicitDefEqProofs

@[simp] theorem Site.scr_endWait (s : Site) : (s.endWait).scr = s.scr := by
  simp only [Site.endWait]; split <;> simp -implicitDefEqProofs

@[simp] theorem Site.scr_dropXfer (a : Site) (id : Nat) : (a.dropXfer id).scr = a.scr := rfl

@[simp] theorem Site.scr_pondOverflow (a : Site) (hop : Nat) (c : Nat) (m : Message) : (a.pondOverflow hop c m).scr = a.scr := rfl

@[simp] theorem Site.scr_holdSpills (a : Site) (c : Nat) (n : Nat) : (a.holdSpills c n).scr = a.scr := rfl

@[simp] theorem Site.scr_landRows (s : Site) (c : Nat) : (s.landRows c).scr = s.scr :=
  Site.scr_foldl _ (fun t f => by split <;> simp) _ _

@[simp] theorem Site.scr_apply (s : Site) (r : Result) : (s.apply r).scr = s.scr := by
  cases r with
  | flags _ fs => exact Site.scr_foldl _ (fun t l => by simp) _ _
  | _ => simp [Site.apply]

@[simp] theorem Site.scr_land (s : Site) (c : Nat) : (s.land c).scr = s.scr :=
  Site.scr_foldl _ (fun t _ => t.scr_apply _) _ _

@[simp] theorem Site.scr_arrive (s : Site) (c : Nat) : (s.arrive c).scr = s.scr := by simp [Site.arrive]

@[simp] theorem Site.scr_pass (s : Site) (c : Nat) : (s.pass c).scr = s.scr := by simp [Site.pass]

@[simp] theorem Site.scr_runTo (n c : Nat) (s : Site) : (Site.runTo n c s).scr = s.scr := by
  fun_induction Site.runTo <;> simp_all

@[simp] theorem Site.scr_settle (s : Site) (c : Nat) : (s.settle c).scr = s.scr := by simp [Site.settle]

@[simp] theorem Site.scr_drain (s : Site) : s.drain.scr = s.scr := by simp [Site.drain]

@[simp] theorem Site.scr_upTo (s : Site) (c : Nat) : (s.upTo c).scr = s.scr := by simp [Site.upTo]

@[simp] theorem Site.scr_feedTiming (s : Site) : s.feedTiming.scr = s.scr := by
  simp only [Site.feedTiming]; split <;> simp

@[simp] theorem Site.scr_exchBody (s : Site) (n : Nat) (op : ExchOp) : (s.exchBody n op).1.scr = s.scr := by
  cases op <;> simp [Site.exchBody]

@[simp] theorem Site.scr_issueExch (s : Site) (n : Nat) (op : ExchOp) : (s.issueExch n op).1.scr = s.scr := by
  simp only [Site.issueExch]; split <;> simp

@[simp] theorem Site.scr_scalarBody (s : Site) (n : Nat) (busy : Bool) (op : ScalarOp) :
    (s.scalarBody n busy op).1.scr = s.scr := by
  cases op <;> simp [Site.scalarBody]

@[simp] theorem Site.scr_issueScalar (s : Site) (n : Nat) (busy : Bool) (op : ScalarOp) :
    (s.issueScalar n busy op).1.scr = s.scr := by
  simp only [Site.issueScalar]; split <;> simp

@[simp] theorem Site.scr_fetchFails (s : Site) : s.fetchFails.scr = s.scr := by simp [Site.fetchFails]

theorem Site.wf_narrow {s : Site} (a n : Nat) (f : Site → Site) (hf : ∀ t : Site, t.scr.wf = true → (f t).scr.wf = true)
    (h : s.scr.wf = true) : (s.narrow a n f).scr.wf = true := by
  unfold Site.narrow
  split
  · simpa using h
  · exact hf _ h

theorem Site.wf_storeQuarter {s : Site} (n a : Nat) (vd : BitVec 5) (q : Nat) (h : s.scr.wf = true) :
    (s.storeQuarter n a vd q).scr.wf = true :=
  Site.wf_narrow _ _ _ (fun _ ht => Memory.wf_setWord64 _ _ _ _ ht) h

theorem Site.wf_loadQuarter {s : Site} (n a : Nat) (vd : BitVec 5) (q : Nat) (h : s.scr.wf = true) :
    (s.loadQuarter n a vd q).scr.wf = true :=
  Site.wf_narrow _ _ _ (fun _ ht => by simpa using ht) h

theorem Site.wf_loadLanes {s : Site} (n a : Nat) (vd : BitVec 5) (lo count size : Nat) (ext : Nat → Word) (h : s.scr.wf = true) :
    (s.loadLanes n a vd lo count size ext).scr.wf = true :=
  Site.wf_narrow _ _ _ (fun _ ht => by simpa using ht) h

/-- The load/store slot keeps the scratchpad canonical. -/
theorem Site.wf_lsBody {s : Site} (n : Nat) (op : LsOp) (h : s.scr.wf = true) : (s.lsBody n op).scr.wf = true := by
  cases op with
  | nop => exact h
  | vldq f => exact Site.wf_loadQuarter _ _ _ _ h
  | vldqP f =>
    simp only [Site.lsBody]
    split
    · simpa using h
    · simpa using Site.wf_loadQuarter n _ f.vd _ h
  | vstq f => exact Site.wf_storeQuarter _ _ _ _ h
  | vstqP f =>
    simp only [Site.lsBody]
    split
    · simpa using h
    · simpa using Site.wf_storeQuarter n _ f.vd _ h
  | vldb f => exact Site.wf_loadLanes _ _ _ _ _ _ _ h
  | vldbX f => exact Site.wf_loadLanes _ _ _ _ _ _ _ h
  | vldh f => exact Site.wf_loadLanes _ _ _ _ _ _ _ h
  | sld f => exact Site.wf_narrow _ _ _ (fun t ht => by split <;> simpa using ht) h
  | sst f => exact Site.wf_narrow _ _ _ (fun t ht => Memory.wf_write _ _ _ ht) h

theorem Site.wf_issueLs {s : Site} (n : Nat) (op : LsOp) (h : s.scr.wf = true) : (s.issueLs n op).scr.wf = true := by
  unfold Site.issueLs
  split
  · exact Site.wf_lsBody n op h
  · exact h

theorem Site.wf_slots5 {s : Site} (n : Nat) (b : Bundle) (k : Checks) (h : s.scr.wf = true) :
    (s.slots5 n b k).1.scr.wf = true := by
  simpa [Site.slots5] using Site.wf_issueLs n b.ls (by simpa using h)

/-- A bundle keeps the scratchpad canonical. -/
theorem Site.wf_issue {s : Site} (limit : Nat) (b : Bundle) (k : Checks) (h : s.scr.wf = true) :
    (s.issue limit b k).1.scr.wf = true := by
  unfold Site.issue
  dsimp only
  repeat' split
  · exact h
  · simpa using h
  · simpa using h
  · exact Site.wf_slots5 _ _ _ (by simpa using h)

theorem Site.wf_upset {s : Site} (l : List Upset) (h : s.scr.wf = true) : (s.upset l).scr.wf = true := by
  unfold Site.upset
  induction l generalizing s with
  | nil => exact h
  | cons u t ih =>
    refine ih ?_
    cases u with
    | scratch w => exact Memory.wf_mark _ _ _ h
    | _ => simpa [Site.upsetAt] using h

theorem Site.wf_vacate (a : Site) : a.vacate.scr.wf = true := rfl

theorem Site.wf_gearBanks {a : Site} (mask : BitVec 32) (h : a.scr.wf = true) : (a.gearBanks mask).1.scr.wf = true :=
  Memory.wf_clearWhere _ _ h

theorem Site.wf_powerDown {a : Site} (bank : Nat) (h : a.scr.wf = true) : (a.powerDown bank).scr.wf = true :=
  Memory.wf_clearWhere _ _ h

theorem foldl_keeps {α β : Type} (P : β → Prop) (f : β → α → β) (hf : ∀ b a, P b → P (f b a)) (l : List α) {b : β} (h : P b) :
    P (l.foldl f b) := by
  induction l generalizing b with
  | nil => exact h
  | cons a t ih => exact ih (hf _ _ h)

theorem Site.wf_spill {a : Site} (hop c : Nat) (m : Message) (pos : Nat) (skip : Option Nat) (h : a.scr.wf = true) :
    (a.spill hop c m pos skip).scr.wf = true := by
  unfold Site.spill
  refine foldl_keeps (fun m : Memory => m.wf = true) _ (fun t i ht => ?_) _ ?_
  · split
    · exact Memory.wf_setWord64 _ _ _ _ ht
    · exact ht
  · split
    · exact h
    · exact Memory.wf_setWord64 _ _ _ _ h

theorem wf_planTileMemory (t : PlanTile) : t.memory.wf = true :=
  foldl_keeps (fun m : Memory => m.wf = true) _ (fun _ _ hm => Memory.wf_write _ _ _ hm) _ Memory.wf_empty

theorem wf_planTileLoad (t : PlanTile) (c : Nat) (a : Site) : (t.load c a).scr.wf = true := wf_planTileMemory t

theorem wf_carried (b : PlanBody) (t : PlanTile) (old : Memory) (bad : List Nat) : (carried b t old bad).wf = true :=
  foldl_keeps (fun m : Memory => m.wf = true) _
    (fun _ _ hm => foldl_keeps (fun m : Memory => m.wf = true) _ (fun _ _ hz => Memory.wf_mark _ _ _ hz) _ (Memory.wf_write _ _ _ hm))
    _ (wf_planTileMemory t)

/-! ### Canonical memories: the predicate on the two tables -/

/-- Every scratchpad that a table of sites lists is canonical. -/
def SitesCanonical (l : List (Nat × Site)) : Prop := ∀ i x, alook l i = some x → x.scr.wf = true

/-- Every memory that a table of DDR memories lists is canonical. -/
def MemsCanonical (l : List (Nat × Memory)) : Prop := ∀ q m, alook l q = some m → m.wf = true

theorem sitesCanonical_iff (s : State) : SitesCanonical s.sites ↔ ∀ i, (s.site i).scr.wf = true := by
  constructor
  · intro h i
    unfold State.site
    split
    · exact h _ _ ‹_›
    · exact Memory.wf_cleared
  · intro h i x hx
    simpa [State.site, hx] using h i

theorem memsCanonical_iff (d : Ddr) : MemsCanonical d.mem ↔ ∀ q, (d.memory q).wf = true := by
  constructor
  · intro h q
    unfold Ddr.memory
    rw [aget_eq]
    cases hm : alook d.mem q with
    | none => exact Memory.wf_cleared
    | some m => exact h q m hm
  · intro h q m hm
    simpa [Ddr.memory, aget_eq, hm] using h q

theorem memoriesCanonical_iff (s : State) : MemoriesCanonical s ↔ SitesCanonical s.sites ∧ MemsCanonical s.ddr.mem := by
  rw [sitesCanonical_iff, memsCanonical_iff]; rfl

theorem SitesCanonical.site {s : State} (h : SitesCanonical s.sites) (i : Nat) : (s.site i).scr.wf = true :=
  (sitesCanonical_iff s).mp h i

theorem SitesCanonical.setSite {s : State} (h : SitesCanonical s.sites) (i : Nat) {x : Site} (hx : x.scr.wf = true) :
    SitesCanonical (s.setSite i x).sites := by
  intro j y hy
  by_cases hj : j = i
  · subst hj
    rw [State.setSite, alook_aset_self] at hy
    exact Option.some.inj hy ▸ hx
  · rw [State.setSite, alook_aset_ne _ _ _ _ hj] at hy
    exact h j y hy

theorem SitesCanonical.modSite {s : State} (h : SitesCanonical s.sites) (i : Nat) {g : Site → Site}
    (hg : ∀ a : Site, a.scr.wf = true → (g a).scr.wf = true) : SitesCanonical (s.modSite i g).sites :=
  h.setSite i (hg _ (h.site i))

theorem SitesCanonical.modSite_of_scr {s : State} (h : SitesCanonical s.sites) (i : Nat) {g : Site → Site}
    (hg : ∀ a : Site, (g a).scr = a.scr) : SitesCanonical (s.modSite i g).sites :=
  h.modSite i (fun a ha => by rw [hg]; exact ha)

theorem SitesCanonical.foldl {α : Type} {f : State → α → State} {s : State} (h : SitesCanonical s.sites)
    (hf : ∀ (t : State) x, SitesCanonical t.sites → SitesCanonical (f t x).sites) (l : List α) :
    SitesCanonical (l.foldl f s).sites :=
  foldl_keeps (fun t : State => SitesCanonical t.sites) f hf l h

theorem sitesCanonical_nil : SitesCanonical [] := fun i x hx => by simp [alook] at hx

theorem memsCanonical_nil : MemsCanonical [] := fun i x hx => by simp [alook] at hx

theorem alook_map_snd {α β : Type} (l : List (Nat × α)) (f : Nat × α → β) (i : Nat) :
    alook (l.map (fun e => (e.1, f e))) i = (alook l i).map (fun x => f (i, x)) := by
  induction l with
  | nil => rfl
  | cons e t ih =>
    obtain ⟨k, v⟩ := e
    by_cases hk : k = i
    · simp [alook, hk]
    · simp [alook, hk, ih]

theorem alook_filter_key {α : Type} (l : List (Nat × α)) (p : Nat → Bool) (i : Nat) :
    alook (l.filter (fun e => p e.1)) i = if p i then alook l i else none := by
  induction l with
  | nil => simp [alook]
  | cons e t ih =>
    obtain ⟨k, v⟩ := e
    by_cases hk : k = i
    · subst hk
      by_cases hp : p k
      · simp [alook, hp]
      · simp [hp] at ih
        simp [hp, ih]
    · by_cases hp : p k
      · simp [alook, hp, hk, ih]
      · simp [alook, hp, hk, ih]

theorem SitesCanonical.map {l : List (Nat × Site)} (h : SitesCanonical l) {f : Nat × Site → Site} (hf : ∀ e, (f e).scr = e.2.scr) :
    SitesCanonical (l.map (fun e => (e.1, f e))) := by
  intro i x hx
  rw [alook_map_snd] at hx
  obtain ⟨y, hy, rfl⟩ := Option.map_eq_some_iff.mp hx
  rw [hf]; exact h i y hy

theorem SitesCanonical.filter {l : List (Nat × Site)} (h : SitesCanonical l) (p : Nat → Bool) :
    SitesCanonical (l.filter (fun e => p e.1)) := by
  intro i x hx
  rw [alook_filter_key] at hx
  split at hx
  · exact h i x hx
  · simp at hx

theorem MemsCanonical.modMem {s : State} (h : MemsCanonical s.ddr.mem) (q : Nat) {g : Memory → Memory}
    (hg : ∀ m : Memory, m.wf = true → (g m).wf = true) : MemsCanonical (s.modMem q g).ddr.mem := by
  intro r m hm
  by_cases hr : r = q
  · subst hr
    simp only [State.modMem, alook_aset_self, Option.some.injEq] at hm
    exact hm ▸ hg _ ((memsCanonical_iff s.ddr).mp h r)
  · simp only [State.modMem, alook_aset_ne _ _ _ _ hr] at hm
    exact h r m hm

theorem MemsCanonical.foldl {α : Type} {f : State → α → State} {s : State} (h : MemsCanonical s.ddr.mem)
    (hf : ∀ (t : State) x, MemsCanonical t.ddr.mem → MemsCanonical (f t x).ddr.mem) (l : List α) :
    MemsCanonical (l.foldl f s).ddr.mem :=
  foldl_keeps (fun t : State => MemsCanonical t.ddr.mem) f hf l h

theorem MemoriesCanonical.of_tables {s : State} (hs : SitesCanonical s.sites) (hm : MemsCanonical s.ddr.mem) :
    MemoriesCanonical s := (memoriesCanonical_iff s).mpr ⟨hs, hm⟩

theorem MemoriesCanonical.sites {s : State} (h : MemoriesCanonical s) : SitesCanonical s.sites :=
  ((memoriesCanonical_iff s).mp h).1

theorem MemoriesCanonical.mems {s : State} (h : MemoriesCanonical s) : MemsCanonical s.ddr.mem :=
  ((memoriesCanonical_iff s).mp h).2

/-- Only the tables of sites and of DDR memories count. -/
theorem MemoriesCanonical.congr {s t : State} (h : MemoriesCanonical s) (hs : t.sites = s.sites) (hm : t.ddr.mem = s.ddr.mem) :
    MemoriesCanonical t := .of_tables (hs ▸ h.sites) (hm ▸ h.mems)

theorem MemoriesCanonical.foldl {α : Type} {f : State → α → State} (hf : ∀ t x, MemoriesCanonical t → MemoriesCanonical (f t x))
    (l : List α) {s : State} (h : MemoriesCanonical s) : MemoriesCanonical (l.foldl f s) :=
  foldl_keeps MemoriesCanonical f hf l h

theorem MemoriesCanonical.ite {p : Prop} [Decidable p] {a b : State} (ha : MemoriesCanonical a) (hb : MemoriesCanonical b) :
    MemoriesCanonical (if p then a else b) := by split; exacts [ha, hb]

section
variable {s : State} (h : MemoriesCanonical s)
include h

theorem MemoriesCanonical.setSite (i : Nat) {x : Site} (hx : x.scr.wf = true) : MemoriesCanonical (s.setSite i x) :=
  .of_tables (h.sites.setSite i hx) h.mems

theorem MemoriesCanonical.modSite (i : Nat) {g : Site → Site} (hg : ∀ a : Site, a.scr.wf = true → (g a).scr.wf = true) :
    MemoriesCanonical (s.modSite i g) := h.setSite i (hg _ (h.1 i))

theorem MemoriesCanonical.modSite_of_scr (i : Nat) {g : Site → Site} (hg : ∀ a : Site, (g a).scr = a.scr) :
    MemoriesCanonical (s.modSite i g) := h.modSite i (fun a ha => by rw [hg]; exact ha)

theorem MemoriesCanonical.modMem (q : Nat) {g : Memory → Memory} (hg : ∀ m : Memory, m.wf = true → (g m).wf = true) :
    MemoriesCanonical (s.modMem q g) := .of_tables h.sites (h.mems.modMem q hg)

theorem MemoriesCanonical.mapSites {f : Nat × Site → Site} (hf : ∀ e, (f e).scr = e.2.scr) :
    MemoriesCanonical { s with sites := s.sites.map (fun e => (e.1, f e)) } := .of_tables (h.sites.map hf) h.mems

theorem MemoriesCanonical.filterSites (p : Nat → Bool) : MemoriesCanonical { s with sites := s.sites.filter (fun e => p e.1) } :=
  .of_tables (h.sites.filter p) h.mems

theorem MemoriesCanonical.noSites {t : State} (ht : t.sites = []) (hm : t.ddr.mem = s.ddr.mem) : MemoriesCanonical t :=
  .of_tables (ht ▸ sitesCanonical_nil) (hm ▸ h.mems)
end

/-- Tables with no entry are canonical. -/
theorem MemoriesCanonical.of_nil {t : State} (ht : t.sites = []) (hm : t.ddr.mem = []) : MemoriesCanonical t :=
  .of_tables (ht ▸ sitesCanonical_nil) (hm ▸ memsCanonical_nil)

/-! ### Canonical memories under the functions of the state -/

section
variable {s : State} (h : MemoriesCanonical s)
include h

theorem MemoriesCanonical.modQuad (q : Nat) (g : Quad → Quad) : MemoriesCanonical (s.modQuad q g) := h

theorem MemoriesCanonical.modCtx (c : Nat) (g : Ctx → Ctx) : MemoriesCanonical (s.modCtx c g) := h

theorem MemoriesCanonical.setHolds : MemoriesCanonical s.setHolds := h.congr (by simp) (by simp)

theorem MemoriesCanonical.emptyCtx (c : Nat) : MemoriesCanonical (s.emptyCtx c) := by
  refine MemoriesCanonical.foldl (fun t i ht => ?_) _ h
  exact MemoriesCanonical.modQuad (ht.setSite i (by rw [Site.scr_emptied]; exact ht.1 i)) _ _

theorem MemoriesCanonical.moveTile (q t new : Nat) (replaced : Bool) (bad : List Nat) :
    MemoriesCanonical (s.moveTile q t new replaced bad) := by
  unfold State.moveTile
  dsimp only
  refine MemoriesCanonical.mapSites (s := State.modSite _ _ _) ?_ (fun _ => rfl)
  refine MemoriesCanonical.modSite ?_ _ (fun a _ => Site.wf_vacate a)
  refine h.setSite new ?_
  dsimp only
  split
  · exact wf_carried _ _ _ _
  · exact Site.wf_vacate _

theorem MemoriesCanonical.setRole (i : Nat) (r : Role) : MemoriesCanonical (s.setRole i r) := by
  unfold State.setRole
  split
  · exact h
  · exact h.modSite_of_scr i (fun _ => rfl)

theorem MemoriesCanonical.rebalance (q : Nat) : MemoriesCanonical (s.rebalance q) := by
  unfold State.rebalance
  refine MemoriesCanonical.foldl (fun _ i ht => ht.setRole i .spare) _ ?_
  exact MemoriesCanonical.foldl (fun _ i ht => ht.setRole i .auditor) _ h

theorem MemoriesCanonical.replaceLoading (q i : Nat) : MemoriesCanonical (s.replaceLoading q i) := by
  unfold State.replaceLoading
  split
  · refine MemoriesCanonical.rebalance ?_ _
    exact MemoriesCanonical.modQuad ((h.moveTile _ _ _ _ _).setRole _ _) _ _
  · exact h

theorem MemoriesCanonical.replaceAll : MemoriesCanonical s.replaceAll := by
  refine MemoriesCanonical.foldl (fun t q ht => ?_) _ h
  dsimp only
  split
  · exact MemoriesCanonical.foldl (fun _ i hv => hv.replaceLoading q i) _ ht
  · exact ht

theorem MemoriesCanonical.replaceSite (o t : Nat) : MemoriesCanonical (s.replaceSite o t) := by
  unfold State.replaceSite
  dsimp only
  split
  · exact h
  · split <;> exact h

theorem MemoriesCanonical.fenceSite (i : Nat) : MemoriesCanonical (s.fenceSite i) := by
  have hf : MemoriesCanonical (s.modSite i (fun x => { x with role := .fenced })) := h.modSite_of_scr i (fun _ => rfl)
  unfold State.fenceSite
  dsimp only
  split
  · exact h
  · split
    · split
      · exact hf
      · exact MemoriesCanonical.replaceSite (by exact hf) _ _
    · exact MemoriesCanonical.rebalance (by exact hf) _

theorem MemoriesCanonical.fenceAll : MemoriesCanonical s.fenceAll := by
  unfold State.fenceAll
  dsimp only
  refine MemoriesCanonical.foldl (s := List.foldl _ s _) (fun t r ht => ?_) _ (.foldl (fun _ i ht => ht.fenceSite i) _ h)
  split
  · exact ht.setRole _ _
  · exact ht

theorem MemoriesCanonical.setGear (c g : Nat) : MemoriesCanonical (s.setGear c g) := by
  unfold State.setGear
  split
  · exact h
  · refine MemoriesCanonical.modCtx (.foldl (fun u i ht => ?_) _ h) _ _
    exact ht.setSite i (Site.wf_gearBanks _ (ht.1 i))

theorem MemoriesCanonical.enterGear (c : Nat) : MemoriesCanonical (s.enterGear c) := by
  unfold State.enterGear
  dsimp only
  have hg : MemoriesCanonical (if (s.ctx c).target_ s.reef.level = (s.ctx c).gearing then s
      else s.setGear c ((s.ctx c).target_ s.reef.level)) := .ite h (h.setGear _ _)
  split
  · exact .ite hg hg
  · exact hg

theorem MemoriesCanonical.transition (c : Nat) : MemoriesCanonical (s.transition c) := by
  unfold State.transition
  dsimp only
  split
  · exact h
  · split
    · exact .ite (h.setGear _ _) h
    · split
      · exact MemoriesCanonical.enterGear (by exact h) c
      · exact h
    · exact .ite h h
    · exact h

theorem MemoriesCanonical.drivenModes : MemoriesCanonical s.drivenModes := h.mapSites (fun _ => rfl)

omit h in
theorem PlanTile_scr_start (t : PlanTile) (g epoch : Nat) (a : Site) : (PlanTile_start t g epoch a).scr = a.scr := by
  unfold PlanTile_start
  split <;> rfl

theorem MemoriesCanonical.startCtx (c : Nat) : MemoriesCanonical (s.startCtx c) := by
  unfold State.startCtx
  dsimp only
  split
  · exact h
  · refine MemoriesCanonical.modCtx (.foldl (fun t d ht => ?_) _ h) _ _
    split
    · exact .ite (ht.modSite_of_scr _ (fun a => PlanTile_scr_start _ _ _ a)) ht
    · exact ht

theorem MemoriesCanonical.endWork (c : Nat) : MemoriesCanonical (s.endWork c) := by
  have hd : MemoriesCanonical ((s.ctxSites c).foldl (fun u i => u.modSite i (fun a =>
      if a.seq.status.overrun then a.overrun u.turn.geom else a.drain)) s) :=
    .foldl (fun u i ht => ht.modSite_of_scr i (fun a => by split <;> simp)) _ h
  unfold State.endWork
  dsimp only
  split
  · exact hd
  · exact .foldl (fun u i ht => ht.modSite_of_scr i (fun a => by simp)) _ hd

theorem MemoriesCanonical.closeDdr : MemoriesCanonical s.closeDdr := h

/-- The boundary's bookkeeping between the emptied queues and the transitions moves no memory. -/
theorem MemoriesCanonical.cpbSettle : MemoriesCanonical s.cpbSettle := h.congr (by simp) (by simp)

theorem MemoriesCanonical.setWait (c : Nat) : MemoriesCanonical (s.setWait c) := h.congr (by simp) (by simp)

theorem MemoriesCanonical.sendMark (inPort : Option Nat) (m : Mark) : MemoriesCanonical (s.sendMark inPort m) :=
  h.congr (by simp) (by simp)

theorem MemoriesCanonical.boundary (no : Nat) : MemoriesCanonical (s.boundary no) := by
  unfold State.boundary
  extract_lets s0 keep s1 t step newRing newFn newQuad newPort newSet reef avdin streams s2 s3 s4 s5
  have h1 : MemoriesCanonical s1 := .foldl (s := s0) (fun u c hu => .ite (hu.emptyCtx c) hu) _ h
  clear_value s1
  have h2 : MemoriesCanonical s2 := h1.congr rfl rfl
  clear_value s2
  have h3 : MemoriesCanonical s3 := (MemoriesCanonical.foldl (fun u c hu => hu.transition c) _ h2).fenceAll.replaceAll.cpbSettle
  have h4 : MemoriesCanonical s4 := .foldl (fun u c hu => (hu.setWait c).modCtx c _) _ h3
  have h5 : MemoriesCanonical s5 :=
    (h4.congr (t := s4.setHolds.countDeadlines.callPass) (by simp) (by simp)).drivenModes
  exact .ite (h5.sendMark _ _) h5

theorem MemoriesCanonical.targetRounds : MemoriesCanonical s.targetRounds := h.congr (by simp) (by simp)

theorem MemoriesCanonical.dress (f : CloseFacts) : MemoriesCanonical (s.dress f) := by
  have hc : MemoriesCanonical (((f.dress.filter (fun e => s.dresses e.site)).filter dressConfirmed).foldl
      (fun u e => u.confirm e.site e.item e.index) s) := .foldl (fun t e ht => ht.congr (by simp) (by simp)) _ h
  have hw : ∀ (l : List DressFact) (u : State), MemoriesCanonical u →
      MemoriesCanonical (l.foldl (fun u e => u.watchItem e.site e.item) u) :=
    fun l u hu => .foldl (fun t e ht => ht.congr (by simp) (by simp)) l hu
  unfold State.dress
  dsimp only
  refine (hw _ _ ?_).targetRounds
  refine MemoriesCanonical.foldl (s := List.foldl _ s _) (fun t e ht => ?_) _ hc
  exact ht.modSite _ (fun x hx => Memory.wf_mark _ _ _ hx)
end

section
variable {s : State} (h : MemoriesCanonical s)
include h

theorem MemoriesCanonical.takeWord (q id : Nat) (p : Packet) (acc : List Nat) (i : Nat) :
    MemoriesCanonical (s.takeWord q id p acc i).1 := by
  have hc : ∀ v, MemoriesCanonical (s.countVerdict q v) := fun v => h.congr (by simp) (by simp)
  unfold State.takeWord
  dsimp only
  split
  · split
    · exact hc _
    · exact MemoriesCanonical.modSite_of_scr (hc _) _ (fun _ => rfl)
  · exact hc _
  · exact hc _
  · exact hc _

theorem MemoriesCanonical.takeWords (q id : Nat) (p : Packet) : MemoriesCanonical (s.takeWords q id p).1 :=
  foldl_keeps (fun r : State × List Nat => MemoriesCanonical r.1) _ (fun _ i hr => hr.takeWord q id p _ i) _ h

theorem MemoriesCanonical.judgePacket (c q d : Nat) (p : Packet) : MemoriesCanonical (s.judgePacket c q d p).1 := by
  unfold State.judgePacket
  dsimp only
  split <;> exact h.takeWords _ _ _

theorem MemoriesCanonical.takeWrite (p : Packet) : MemoriesCanonical (s.takeWrite p).1 := by
  unfold State.takeWrite
  dsimp only
  split
  · exact h
  split
  · exact h.congr (by simp) (by simp)
  split
  · split
    · exact h
    split
    · exact h.congr (by simp) (by simp)
    split
    · exact h.judgePacket _ _ _ _
    split <;> exact h
  · exact h

theorem MemoriesCanonical.engineRetire (q e : Nat) : MemoriesCanonical (s.engineRetire q e) :=
  h.congr (by simp) (by simp)

theorem MemoriesCanonical.takeAnswer (p : Packet) : MemoriesCanonical (s.takeAnswer p) := by
  unfold State.takeAnswer
  extract_lets c mine
  split
  · exact h
  split
  · exact h
  · extract_lets found s1 note s2
    have h1 : MemoriesCanonical s1 := MemoriesCanonical.engineRetire (by exact h) _ _
    have h2 : MemoriesCanonical s2 := .ite h1 (h1.modSite_of_scr _ (fun _ => by simp))
    clear_value s1 s2
    split
    · split
      · exact h2.modSite_of_scr _ (fun _ => by simp)
      · exact h2
    · exact h2

theorem MemoriesCanonical.queueOn (n : Nat) (p : Packet) : MemoriesCanonical (s.queueOn n p) := h.congr (by simp) (by simp)

theorem MemoriesCanonical.sendAnswer (p : Packet) : MemoriesCanonical (s.sendAnswer p) := by
  unfold State.sendAnswer
  split
  · exact h.takeAnswer p
  · exact h.queueOn _ _
  · exact h

theorem MemoriesCanonical.forward (p : Packet) (inDim : Option Nat) : MemoriesCanonical (s.forward p inDim) := by
  unfold State.forward
  dsimp only
  split
  · split
    · split
      · exact (h.takeWrite p).sendAnswer _
      · exact h.takeWrite p
    · exact h.takeAnswer p
  · exact h.queueOn _ _
  · split
    · exact .ite (MemoriesCanonical.takeAnswer (by exact h) _) (MemoriesCanonical.sendAnswer (by exact h) _)
    · exact h

theorem MemoriesCanonical.releaseXfer (site c : Nat) (t : Transfer) : MemoriesCanonical (s.releaseXfer site c t) := by
  refine .foldl (fun u r hu => ?_) _ h
  refine MemoriesCanonical.forward ?_ _ _
  exact (hu.modCtx c _).modSite_of_scr site (fun _ => by simp)

theorem MemoriesCanonical.releaseCtx (c : Nat) : MemoriesCanonical (s.releaseCtx c) :=
  .foldl (fun _ i hu => .foldl (fun _ t hv => hv.releaseXfer i c t) _ hu) _ h

theorem MemoriesCanonical.resendCtx (c : Nat) : MemoriesCanonical (s.resendCtx c) := by
  refine .foldl (fun u o hu => ?_) _ h
  split
  · exact MemoriesCanonical.forward (by exact hu) _ _
  · exact hu

theorem MemoriesCanonical.eachTile (c : Nat) {f : PlanTile → Site → Site} (hf : ∀ t a, a.scr.wf = true → (f t a).scr.wf = true) :
    MemoriesCanonical (s.eachTile c f) := by
  unfold State.eachTile
  split
  · exact h
  · refine .foldl (fun u t hu => ?_) _ h
    split
    · exact hu.modSite _ (hf t)
    · exact hu

theorem MemoriesCanonical.withhold (c : Nat) : MemoriesCanonical (s.withhold c) := by
  have ha : MemoriesCanonical ((s.ctxSites c).foldl (fun u i => u.modSite i Site.discardUnsent) s) :=
    .foldl (fun u i hu => hu.modSite_of_scr i (fun a => by simp)) _ h
  unfold State.withhold
  extract_lets cut a b
  have hb : MemoriesCanonical b := .ite (ha.eachTile c (fun _ _ hx => hx)) ha
  clear_value b
  exact hb

theorem MemoriesCanonical.commit (c : Nat) : MemoriesCanonical (s.commit c) := h.congr (by simp) (by simp)

theorem MemoriesCanonical.vouch (c : Nat) : MemoriesCanonical (s.vouch c) := by
  have ha : MemoriesCanonical (if (s.ctx c).vouchOn then (s.commit c).releaseCtx c else s.commit c) :=
    .ite ((h.commit c).releaseCtx c) (h.commit c)
  unfold State.vouch
  exact .ite ha ha

theorem MemoriesCanonical.closeCtx (c : Nat) (k : CtxFacts) : MemoriesCanonical (s.closeCtx c k) := by
  unfold State.closeCtx
  extract_lets x bad clean a b d e
  clear_value bad
  have ha : MemoriesCanonical a := .ite (h.withhold c) (.ite h h)
  have hb : MemoriesCanonical b := .ite ha (.ite (ha.congr (by simp) (by simp)) (ha.congr (by simp) (by simp)))
  have hd : MemoriesCanonical d := hb.congr (by simp [d]) (by simp [d])
  have he : MemoriesCanonical e := .foldl (fun u z hu => hu.congr (by simp) (by simp)) _ hd
  refine .ite (h.vouch c) ?_
  split
  · exact he.congr (by simp) (by simp)
  · exact he

theorem MemoriesCanonical.judgeFaults (c : Nat) : MemoriesCanonical (s.judgeFaults c) := by
  unfold State.judgeFaults
  refine .ite (.foldl (fun _ i hu => ?_) _ h) h
  exact hu.modSite_of_scr i (fun _ => rfl)

theorem MemoriesCanonical.revoke (q e c : Nat) : MemoriesCanonical (s.revoke q e c) := by
  unfold State.revoke
  extract_lets t u fresh
  have ht : MemoriesCanonical t := h.modCtx c _
  clear_value t
  have hu : MemoriesCanonical u := by
    refine .foldl (fun v i hv => ?_) _ ht
    split
    · exact hv.modSite_of_scr i (fun _ => rfl)
    · exact hv
  clear_value u
  exact hu.congr (by simp) (by simp)

theorem MemoriesCanonical.engineReset (q e : Nat) : MemoriesCanonical (s.engineReset q e) := by
  unfold State.engineReset
  refine MemoriesCanonical.setHolds (MemoriesCanonical.modQuad (.foldl (fun _ c ht => ht.revoke q e c) _ ?_) _ _)
  exact h.congr (by simp) (by simp)

theorem MemoriesCanonical.applyPlacements (q : Nat) : MemoriesCanonical (s.applyPlacements q) := by
  unfold State.applyPlacements
  extract_lets l t heal u
  have ht : MemoriesCanonical t := .foldl (fun u r hu => (hu.moveTile _ _ _ _ _).modQuad _ _) _ h
  have hu : MemoriesCanonical u := by clear_value t; exact ht
  exact MemoriesCanonical.congr (MemoriesCanonical.setHolds (hu.rebalance q)) (by simp) (by simp)

theorem MemoriesCanonical.answer (site xfer status cond off : Nat) : MemoriesCanonical (s.answer site xfer status cond off) :=
  h.modSite_of_scr _ (fun _ => rfl)

theorem MemoriesCanonical.packetWord (id : Nat) (dropped : Bool) : MemoriesCanonical (s.packetWord id dropped) := by
  unfold State.packetWord
  dsimp only
  split
  · exact h
  · refine .ite (MemoriesCanonical.sendAnswer ?_ _) ?_ <;> exact h

theorem MemoriesCanonical.settleWrite (w : SluiceWrite) (dropped : Bool) : MemoriesCanonical (s.settleWrite w dropped) := by
  unfold State.settleWrite
  split
  · exact h.packetWord _ _
  · exact h.answer _ _ _ _ _

theorem MemoriesCanonical.dispatchTo (src : Nat) (m : OutMsg) (g : Nat) : MemoriesCanonical (s.dispatchTo src m g) := by
  unfold State.dispatchTo
  dsimp only
  split
  · exact h
  split
  · exact h
  split
  · exact h
  · exact h.modSite_of_scr _ (fun _ => rfl)

theorem MemoriesCanonical.dispatch (src : Nat) (ms : List OutMsg) : MemoriesCanonical (s.dispatch src ms) :=
  .foldl (fun _ m ht => .foldl (fun _ g hu => hu.dispatchTo src m g) _ ht) _ h

/-- A bundle keeps every scratchpad canonical. -/
theorem MemoriesCanonical.issueAt (i : Nat) (b : Bundle) (k : Checks) : MemoriesCanonical (s.issueAt i b k) := by
  have hu := Site.wf_upset k.upsets (h.1 i)
  unfold State.issueAt
  extract_lets old a r
  suffices hr : r.1.scr.wf = true from
    ((h.setSite i hr).dispatch i r.2).congr (by simp) (by simp)
  unfold r
  split
  · simpa using hu
  · exact Site.wf_issue _ b k hu

theorem MemoriesCanonical.upToCycle (i c : Nat) : MemoriesCanonical (s.upToCycle i c) := by
  unfold State.upToCycle
  exact .ite (h.modSite_of_scr i (fun _ => by simp)) h

theorem MemoriesCanonical.touchDma (i c b : Nat) : MemoriesCanonical (s.touchDma i c b) := by
  unfold State.touchDma
  exact .ite (h.modSite_of_scr i (fun _ => rfl)) h
end

section
variable {s : State} (h : MemoriesCanonical s)
include h

theorem MemoriesCanonical.touchRetired (q l : Nat) (src : DdrSource) : MemoriesCanonical (s.touchRetired q l src) :=
  h.congr (by simp) (by simp)

theorem MemoriesCanonical.ddrLogAdd (kind ch : Nat) (devices : List Nat) (src : DdrSource) (unit : Nat) :
    MemoriesCanonical (s.ddrLogAdd kind ch devices src unit) := h.congr (by simp) (by simp)

theorem MemoriesCanonical.corrected (ch unit : Nat) (devices : List Nat) (src : DdrSource) :
    MemoriesCanonical (s.corrected ch unit devices src) := h.congr (by simp) (by simp)

theorem MemoriesCanonical.uncorrected (ch unit : Nat) (src : DdrSource) :
    MemoriesCanonical (s.uncorrected ch unit src) := h.congr (by simp) (by simp)

theorem MemoriesCanonical.ddrWriteUnit (q l : Nat) (bs : List Byte) (poison : Bool) (src : DdrSource) :
    MemoriesCanonical (s.ddrWriteUnit q l bs poison src) := by
  unfold State.ddrWriteUnit
  extract_lets was mark s1
  have h1 : MemoriesCanonical s1 := h.modMem q (fun m hm => Memory.wf_mark _ _ _ (Memory.wf_write _ _ _ hm))
  clear_value s1
  split
  · exact h.touchRetired q l src
  split
  · split
    · exact h1.ddrLogAdd _ _ _ _ _
    · exact h1
  · exact h1

omit h in
theorem MemoriesCanonical.ddrWrite (q : Nat) (poison : Bool) (src : DdrSource) (fuel l : Nat) (bs : List Byte) :
    ∀ {s : State}, MemoriesCanonical s → MemoriesCanonical (s.ddrWrite q poison src fuel l bs) := by
  induction fuel generalizing l bs with
  | zero => exact fun h => by rw [State.ddrWrite]; exact h
  | succ n ih =>
    intro s h
    cases bs with
    | nil => rw [State.ddrWrite]; exact h; simp
    | cons b bs => rw [State.ddrWrite]; exact ih _ _ (h.ddrWriteUnit _ _ _ _ _)

theorem MemoriesCanonical.ddrPut (q l : Nat) (bs : List Byte) (poison : Bool) (src : DdrSource) :
    MemoriesCanonical (s.ddrPut q l bs poison src) := MemoriesCanonical.ddrWrite _ _ _ _ _ _ h

theorem MemoriesCanonical.writeEntry (id : Nat) : MemoriesCanonical (s.writeEntry id) := by
  unfold State.writeEntry
  exact MemoriesCanonical.ddrPut (by exact h) _ _ _ _ _

theorem MemoriesCanonical.writeThrough : MemoriesCanonical s.writeThrough :=
  .ite h (.foldl (fun _ id hu => hu.writeEntry id) _ h)

theorem MemoriesCanonical.endClose (energy vin : Nat) : MemoriesCanonical (s.endClose energy vin) := by
  unfold State.endClose
  extract_lets t u
  have ht : MemoriesCanonical t := .ite h (h.writeThrough.congr (by simp) (by simp))
  exact ht.congr (by simp [u]) (by simp [u])

theorem MemoriesCanonical.snapWrite (slot off : Nat) (bs : List Byte) : MemoriesCanonical (s.snapWrite slot off bs) :=
  h.ddrPut _ _ _ _ _

theorem MemoriesCanonical.snapQuad (q slot : Nat) : MemoriesCanonical (s.snapQuad q slot) := by
  have hf : ∀ (l : List Nat) (off : Nat → Nat) (bs : Nat → List Byte) (u : State), MemoriesCanonical u →
      MemoriesCanonical (l.foldl (fun v n => v.snapWrite slot (off n) (bs n)) u) :=
    fun l off bs u hu => .foldl (fun _ n hv => hv.snapWrite _ _ _) l hu
  unfold State.snapQuad
  exact hf _ _ _ _ (hf _ _ _ _ h)

theorem MemoriesCanonical.setMod (m : Mod) : MemoriesCanonical { s with mod := m } := h

theorem MemoriesCanonical.snapshot (q trigger engine : Nat) (suspects ctxs : List Nat) (cmd : Option Cmd) :
    MemoriesCanonical (s.snapshot q trigger engine suspects ctxs cmd) := by
  unfold State.snapshot
  extract_lets z slot seq a m b
  have ha : MemoriesCanonical a := (h.snapWrite _ _ _).snapQuad _ _
  have hb : MemoriesCanonical b := ha.setMod _
  exact .ite (h.modQuad q _).setHolds (hb.modQuad q _).setHolds

theorem MemoriesCanonical.trip (q e : Nat) : MemoriesCanonical (s.trip q e) := by
  unfold State.trip
  dsimp only
  split
  · exact (h.snapshot _ _ _ _ _ _).engineReset _ _
  · exact .ite ((h.snapshot _ _ _ _ _ _).engineReset _ _) h
  · exact h

theorem MemoriesCanonical.watchEngines : MemoriesCanonical s.watchEngines := by
  refine .foldl (fun u q hu => .ite hu (.foldl (fun v e hv => ?_) _ hu)) _ h
  exact .ite ((hv.modQuad q _).trip q e) hv

theorem MemoriesCanonical.ddrFound (q l : Nat) (f : EccFind) (src : DdrSource) : MemoriesCanonical (s.ddrFound q l f src) := by
  unfold State.ddrFound
  split
  · exact h
  · split
    · exact (h.corrected _ _ _ _).modMem q (fun m hm => Memory.wf_write _ _ _ hm)
    · exact h.uncorrected _ _ _
    · exact h

theorem MemoriesCanonical.ddrFinds (q l n : Nat) (found : List (Nat × EccFind)) (src : DdrSource) :
    MemoriesCanonical (s.ddrFinds q l n found src) := .foldl (fun _ _ hu => hu.ddrFound q _ _ src) _ h

theorem MemoriesCanonical.scrubFound (n : Nat) (f : EccFind) : MemoriesCanonical (s.scrubFound n f) := by
  unfold State.scrubFound
  extract_lets q
  split
  · refine .ite ?_ (h.ddrFound _ _ _ _)
    exact (h.ddrFound _ _ _ _).modMem q (fun m hm => Memory.wf_mark _ _ _ hm)
  · split
    · exact h.corrected _ _ _ _
    · exact h.uncorrected _ _ _
    · exact h

theorem MemoriesCanonical.entryRead (id : Nat) (found : EccFind) : MemoriesCanonical (s.entryRead id found).1 := by
  unfold State.entryRead
  extract_lets t u
  have ht : MemoriesCanonical t := MemoriesCanonical.touchRetired (.ite (h.writeEntry id) h) _ _ _
  have hu : MemoriesCanonical u := ht.ddrFound _ _ _ _
  clear_value u
  split
  · exact hu
  split <;> exact hu

theorem MemoriesCanonical.moveUnit (site q : Nat) (t : Transfer) (ddrAt cycle : Nat) (found : List (Nat × EccFind)) (i : Nat) :
    MemoriesCanonical (s.moveUnit site q t ddrAt cycle found i) := by
  unfold State.moveUnit
  dsimp only
  split
  · exact h.modSite_of_scr _ (fun _ => rfl)
  · exact h.modSite_of_scr _ (fun _ => by simp)
  · split
    · refine MemoriesCanonical.modSite ((h.touchRetired _ _ _).ddrFinds _ _ _ _ _) _ (fun x hx => ?_)
      exact Memory.wf_setWord64 _ _ _ _ (Memory.wf_setWord64 _ _ _ _ hx)
    · exact MemoriesCanonical.modSite_of_scr (h.ddrPut _ _ _ _ _) _ (fun _ => rfl)

theorem MemoriesCanonical.moveAll (site : Nat) (t : Transfer) (cycle : Nat) (found : List (Nat × EccFind)) :
    MemoriesCanonical (s.moveAll site t cycle found) := by
  unfold State.moveAll
  extract_lets a q n
  split
  · exact h
  extract_lets x
  split
  · exact h
  · extract_lets s1
    have h1 : MemoriesCanonical s1 := .foldl (fun _ i hu => (hu.moveUnit _ _ _ _ _ _ i).touchDma _ _ _) _ h
    clear_value s1
    exact h1

theorem MemoriesCanonical.writeRx (c off : Nat) (bs : List Byte) : MemoriesCanonical (s.writeRx c off bs) := by
  unfold State.writeRx
  dsimp only
  split
  · refine .foldl (fun u g hu => ?_) _ h
    split
    · exact hu
    · exact hu.modSite _ (fun _ ha => Memory.wf_mark _ _ _ (Memory.wf_write _ _ _ ha))
  · exact h

theorem MemoriesCanonical.place (c id : Nat) : MemoriesCanonical (s.place c id) := by
  unfold State.place
  extract_lets x
  split
  · extract_lets w n start ps s1
    have h1 : MemoriesCanonical s1 := h.modCtx c _
    clear_value s1
    refine .ite h (.foldl (fun u k hu => ?_) _ h1)
    split
    · exact hu.writeRx _ _ _
    · exact hu
  · exact h

theorem MemoriesCanonical.endSteps (c : Nat) (st : Status) : MemoriesCanonical (s.endSteps c st) :=
  h.congr (by simp) (by simp)

theorem MemoriesCanonical.finish (p : Cmd → Bool) (st : Status) (res : Cmd → List Byte) : MemoriesCanonical (s.finish p st res) :=
  h.congr (by simp) (by simp)

theorem MemoriesCanonical.loseShadow (p : Change → Bool) : MemoriesCanonical (s.loseShadow p) := h.congr (by simp) (by simp)

theorem MemoriesCanonical.rearm (c : Nat) : MemoriesCanonical (s.rearm c) := h.congr (by simp) (by simp)

theorem MemoriesCanonical.disarm (c : Nat) : MemoriesCanonical (s.disarm c) := h.congr (by simp) (by simp)

theorem MemoriesCanonical.stopCtx (c : Nat) : MemoriesCanonical (s.stopCtx c) := by
  unfold State.stopCtx
  extract_lets seq hopper t u
  have ht : MemoriesCanonical t := by
    refine .foldl (fun _ i hu => ?_) _ h
    exact hu.modSite_of_scr i (fun _ => rfl)
  clear_value t
  exact ht

theorem MemoriesCanonical.unload (c : Nat) : MemoriesCanonical (s.unload c) := by
  unfold State.unload
  extract_lets a b d free e
  have ha : MemoriesCanonical a := (h.endSteps c .resetting).finish _ _ _
  have hb : MemoriesCanonical b := (ha.stopCtx c).disarm c
  clear_value b
  have hd : MemoriesCanonical d := .foldl (fun _ i hu => hu.modSite i (fun a _ => Site.wf_vacate a)) _ hb
  clear_value d
  have he : MemoriesCanonical e := .foldl (fun _ p hu => hu.congr (by simp) (by simp)) _ hd
  exact (he.loseShadow _).modCtx c _

theorem MemoriesCanonical.abortCtx (c : Nat) (fin : CtxState) : MemoriesCanonical (s.abortCtx c fin) := by
  unfold State.abortCtx
  extract_lets x a b d
  have ha : MemoriesCanonical a := (h.endSteps c .resetting).finish _ _ _
  clear_value a
  have hb : MemoriesCanonical b := (ha.stopCtx c).modCtx c _
  clear_value b
  have hd : MemoriesCanonical d := (hb.rearm c).loseShadow _
  exact .foldl (fun _ q hu => hu.modQuad q _) _ hd

theorem MemoriesCanonical.dropLoad (c : Nat) : MemoriesCanonical (s.dropLoad c) := (h.disarm c).modCtx c _

theorem MemoriesCanonical.haltForReset (c : Nat) : MemoriesCanonical (s.haltForReset c) := by
  unfold State.haltForReset
  extract_lets x ends
  exact .ite h (.ite ((h.finish _ _ _).dropLoad c) ((h.finish _ _ _).stopCtx c))

theorem MemoriesCanonical.inQuad (q : Nat) : MemoriesCanonical (s.loseShadow (s.inQuad q)) := h.loseShadow _

theorem MemoriesCanonical.quadReset (q : Nat) (full host : Bool) : MemoriesCanonical (s.quadReset q full host) := by
  unfold State.quadReset
  extract_lets z path a busy b ddr avdin
  have ha : MemoriesCanonical a := .foldl (fun _ c ht => ht.haltForReset c) _ (h.loseShadow _)
  clear_value a
  have hb : MemoriesCanonical b := ha.modQuad q _
  clear_value b
  exact MemoriesCanonical.setHolds (by exact hb)

theorem MemoriesCanonical.resetIgnored : MemoriesCanonical s.resetIgnored := h.congr (by simp) (by simp)

theorem MemoriesCanonical.resetAnswer (st level : Nat) : MemoriesCanonical (s.resetAnswer st level) := h.congr (by simp) (by simp)

theorem MemoriesCanonical.resetQuads (key quads : Nat) (full : Bool) : MemoriesCanonical (s.resetQuads key quads full) := by
  unfold State.resetQuads
  extract_lets l deep m t
  have ht : MemoriesCanonical t := h
  exact .ite h (.ite h.resetIgnored (.ite (h.resetAnswer _ _) (.foldl (fun _ q hu => hu.quadReset q full true) _ ht)))

theorem MemoriesCanonical.bootStep : MemoriesCanonical s.bootStep := by
  unfold State.bootStep
  extract_lets sec x lost y ddr t
  have ht : MemoriesCanonical t := .ite (.of_nil rfl rfl) h
  clear_value t y
  split <;> exact ht

theorem MemoriesCanonical.setDev (d : DevCode) (l : List Nat) : MemoriesCanonical (s.setDev d l) := h.congr (by simp) (by simp)

theorem MemoriesCanonical.chipReset (config : Bool) : MemoriesCanonical (s.chipReset config) := by
  unfold State.chipReset
  extract_lets turn reef check heal ddr a
  have ha : MemoriesCanonical a := h.noSites rfl rfl
  clear_value a
  exact .ite h (ha.setDev _ _).bootStep

theorem MemoriesCanonical.resetDevice (key : Nat) : MemoriesCanonical (s.resetDevice key) := by
  unfold State.resetDevice
  extract_lets m t
  have ht : MemoriesCanonical t := h
  exact .ite h (.ite h.resetIgnored (ht.chipReset false))

omit h in
theorem memoriesCanonical_powerOff : MemoriesCanonical s.powerOff := .of_nil rfl rfl

theorem MemoriesCanonical.tripped : MemoriesCanonical s.tripped := h.noSites rfl rfl

omit h in
theorem memoriesCanonical_cutStart (cut : FuseEnd) : MemoriesCanonical (s.cutStart cut) := by
  unfold State.cutStart
  extract_lets f room
  split <;> exact memoriesCanonical_powerOff

theorem MemoriesCanonical.flrCtx (c : Nat) : MemoriesCanonical (s.flrCtx c) := by
  unfold State.flrCtx
  extract_lets x t
  have ht : MemoriesCanonical t := .ite h (.ite ((h.dropLoad c).modCtx c _) ((h.abortCtx c .loaded).unload c))
  exact ht.modCtx c _

theorem MemoriesCanonical.vfReset (q : Nat) : MemoriesCanonical (s.vfReset q) := by
  unfold State.vfReset
  extract_lets f t u
  have ht : MemoriesCanonical t := h
  have hu : MemoriesCanonical u := .foldl (fun _ c hv => hv.flrCtx c) _ ht
  exact hu.congr (by simp) (by simp)

theorem MemoriesCanonical.portDown (n : Nat) (st : PortState) (brake : Bool) : MemoriesCanonical (s.portDown n st brake) := by
  unfold State.portDown
  extract_lets x held t
  have ht : MemoriesCanonical t := h.congr (by simp [t]) (by simp [t])
  refine .foldl (fun u p hu => ?_) _ ht
  split
  · exact hu.forward p none
  · exact hu.forward p none
  · exact hu

theorem MemoriesCanonical.modPort (n : Nat) (g : Port → Port) : MemoriesCanonical (s.modPort n g) := h.congr (by simp) (by simp)

theorem MemoriesCanonical.rewear : MemoriesCanonical s.rewear := h.congr (by simp) (by simp)

theorem MemoriesCanonical.train (n : Nat) : MemoriesCanonical (s.train n) := by
  unfold State.train
  extract_lets x t
  have ht : MemoriesCanonical t := (h.portDown n .training false).modPort n _
  clear_value t
  exact .ite (MemoriesCanonical.rewear (by exact ht)) ht

theorem MemoriesCanonical.startPorts : MemoriesCanonical s.startPorts := .foldl (fun _ n ht => ht.train n) _ h

theorem MemoriesCanonical.calm (n : Nat) : MemoriesCanonical (s.calm n) := by
  unfold State.calm
  exact .ite ((h.modPort n _).train n) h

theorem MemoriesCanonical.receive (n : Nat) (p : Packet) : MemoriesCanonical (s.receive n p).1 := h.congr (by simp) (by simp)

theorem MemoriesCanonical.packetIn (n : Nat) (p : Packet) : MemoriesCanonical (s.packetIn n p) := by
  unfold State.packetIn
  exact MemoriesCanonical.calm (.ite ((h.receive n p).forward _ _) (h.receive n p)) n

theorem MemoriesCanonical.rebuild (q : Nat) (fences : List Nat) : MemoriesCanonical (s.rebuild q fences) := by
  unfold State.rebuild
  extract_lets base good live lost s1 s2 s3 map
  have h1 : MemoriesCanonical s1 := h.filterSites (fun i => i / Config.sitesPerQuad != q)
  have h2 : MemoriesCanonical s2 := .foldl (fun _ i ht => ht.setSite i rfl) _ h1
  have h3 : MemoriesCanonical s3 := .foldl (fun _ t hu => .ite hu (hu.setSite _ rfl)) _ h2
  exact .ite ((h2.modQuad q _).rebalance q) ((h3.modQuad q _).rebalance q)

theorem MemoriesCanonical.startQuad (bad : List Nat) (q : Nat) : MemoriesCanonical (s.startQuad bad q) := by
  unfold State.startQuad
  extract_lets mine a fused b
  have ha : MemoriesCanonical a := .foldl (fun _ i hu => hu.congr (by simp) (by simp)) _ h
  exact (ha.rebuild q _).modQuad q _

theorem MemoriesCanonical.applyDefects (q : Nat) (full : Bool) : MemoriesCanonical (s.applyDefects q full) := by
  unfold State.applyDefects
  extract_lets l fences heal t u
  have ht : MemoriesCanonical t := h
  have hu : MemoriesCanonical u := ht.modQuad q _
  exact hu.rebuild q fences

theorem MemoriesCanonical.softRepair (found : List DefectFact) (q : Nat) : MemoriesCanonical (s.softRepair found q) := by
  unfold State.softRepair
  extract_lets mine bad names fresh l heal a b d rows
  have ha : MemoriesCanonical a := h
  have hb : MemoriesCanonical b := .foldl (fun _ f hu => hu.congr (by simp) (by simp)) _ ha
  have hd : MemoriesCanonical d := (hb.applyDefects q true).modQuad q _
  clear_value d
  exact hd

theorem MemoriesCanonical.activate (q : Nat) (missed : List Nat) : MemoriesCanonical (s.activate q missed) := by
  unfold State.activate
  extract_lets t
  have ht : MemoriesCanonical t := by
    refine .foldl (fun u i hu => MemoriesCanonical.fenceSite ?_ i) _ h
    exact hu.congr (by simp) (by simp)
  exact (ht.modQuad q _).setHolds.rewear

theorem MemoriesCanonical.endReplay (q : Nat) (r : Replay) : MemoriesCanonical (s.endReplay q r) := by
  unfold State.endReplay
  extract_lets t
  have ht : MemoriesCanonical t := h.modQuad q _
  split
  · exact ht.modQuad q _
  · exact (ht.abortCtx _ _).modQuad q _
  · exact .ite (ht.chipReset false) (ht.quadReset q true false)

theorem MemoriesCanonical.replayOver (q : Nat) (r : Replay) : MemoriesCanonical (s.replayOver q r) := by
  unfold State.replayOver
  extract_lets t
  have ht : MemoriesCanonical t := h.congr (by simp [t]) (by simp [t])
  split
  · split
    · exact ht.endReplay q _
    · exact (ht.transition _).setWait _
  · exact ht

theorem MemoriesCanonical.classify (c : Nat) : MemoriesCanonical (s.classify c) := by
  unfold State.classify
  extract_lets x
  split
  · exact h
  split
  · exact h.trip _ _
  · exact .ite (h.abortCtx c .loaded) h

theorem MemoriesCanonical.placePlan (c : Nat) : MemoriesCanonical (s.placePlan c) :=
  h.eachTile c (fun t a _ => wf_planTileLoad t c a)

theorem MemoriesCanonical.armMissing (c : Nat) : MemoriesCanonical (s.armMissing c) := h.congr (by simp) (by simp)

theorem MemoriesCanonical.restoreCtx (c : Nat) (cause : Option FaultRec) : MemoriesCanonical (s.restoreCtx c cause) := by
  unfold State.restoreCtx
  extract_lets x a b e1 d short e2
  have ha : MemoriesCanonical a := (h.endSteps c .resetting).modCtx c _
  have hb : MemoriesCanonical b := ((ha.placePlan c).rearm c).armMissing c
  clear_value b
  split
  · exact h.modCtx c _
  have hd : MemoriesCanonical d := by
    unfold d
    split
    · exact hb.congr (by simp [e1]) (by simp [e1])
    · exact hb
  clear_value d short
  split
  · exact MemoriesCanonical.modCtx (hd.congr (by simp [e2]) (by simp [e2])) c _
  · exact hd.modCtx c _

theorem MemoriesCanonical.writeReset (v : Nat) : MemoriesCanonical (s.writeReset v) := by
  unfold State.writeReset
  dsimp only
  repeat' split
  · exact h.resetDevice _
  · exact h.resetQuads _ _ _
  · exact h

theorem MemoriesCanonical.writeWord (f o v : Nat) : MemoriesCanonical (s.writeWord f o v) := by
  unfold State.writeWord
  split
  · exact h.writeReset v
  · split
    · exact h
    · split
      · exact h.congr (by simp) (by simp)
      split
      · exact h.congr (by simp) (by simp)
      split
      · exact h
      split
      · exact h.congr (by simp) (by simp)
      split
      · exact h.congr (by simp) (by simp)
      · exact h

theorem MemoriesCanonical.refuse (r : CmdRef) (st : Status) (res : List Byte) : MemoriesCanonical (s.refuse r st res) :=
  h.congr (by simp) (by simp)

theorem MemoriesCanonical.consume (f r units n : Nat) : MemoriesCanonical (s.consume f r units n) := h.congr (by simp) (by simp)

theorem MemoriesCanonical.command (hd : CmdHead) (opc : Nat) (k : RingKind) (namesCtx bad legal : Bool) (res : List Byte)
    {run : State → State} (hrun : ∀ {t : State}, MemoriesCanonical t → MemoriesCanonical (run t)) :
    MemoriesCanonical (s.command hd opc k namesCtx bad legal res run) := by
  unfold State.command
  split
  · exact h
  · exact h.congr (by simp) (by simp)
  · dsimp only
    split
    · exact MemoriesCanonical.refuse (h.consume _ _ _ _) _ _ _
    · exact hrun (h.consume _ _ _ _)

theorem MemoriesCanonical.streamCommand (hd : CmdHead) (opc id : Nat) (gen : Option Nat) (bad : Bool) (cl : List CtxState)
    (sl : List StreamState) {run : State → State} (hrun : ∀ {t : State}, MemoriesCanonical t → MemoriesCanonical (run t)) :
    MemoriesCanonical (s.streamCommand hd opc id gen bad cl sl run) := by
  unfold State.streamCommand
  extract_lets e foreign legal go u
  have hg : ∀ t : State, MemoriesCanonical t → MemoriesCanonical (go t) := fun t ht => ht.command _ _ _ _ _ _ _ hrun
  have hu : MemoriesCanonical u := h.congr (by simp [u]) (by simp [u])
  clear_value go u
  split
  · exact .ite h (hg s h)
  split
  · exact hg s h
  split
  · split
    · exact hu.congr (by simp) (by simp)
    · exact hg _ (MemoriesCanonical.congr hu (by simp) (by simp))
  split <;> exact h
end

theorem scr_emit (c n : Nat) (e : SteerEntry) (o : SteerOutcome) (out : SteerOut) (i : Item) :
    (emit c n e o out i).site.scr = o.site.scr := by
  unfold emit
  repeat' split
  all_goals rfl

theorem scr_intakeCtrl (c : Nat) (o : SteerOutcome) (n : Nat) (e : SteerEntry) : (intakeCtrl c o n e).site.scr = o.site.scr := by
  unfold intakeCtrl
  dsimp only
  repeat' split
  all_goals simp

theorem scr_intakeData (c : Nat) (o : SteerOutcome) (n : Nat) (e : SteerEntry) : (intakeData c o n e).site.scr = o.site.scr := by
  unfold intakeData
  dsimp only
  repeat' split
  all_goals simp

theorem scr_fireEntry (c : Nat) (base : Site) (es : List (Nat × SteerEntry)) (o : SteerOutcome) (x : Nat × SteerEntry) :
    (fireEntry c base es o x).site.scr = o.site.scr := by
  unfold fireEntry
  extract_lets n e k
  split
  · extract_lets act useA useB pay popped afterA
    have hp : popped.site.scr = o.site.scr := by simp [popped]
    have ha : afterA.site.scr = o.site.scr := by
      unfold afterA
      split
      · rw [scr_emit, hp]
      · exact hp
    split
    · split
      · rw [scr_emit, ha]
      · exact ha
    · rfl
  · rfl

theorem scr_skewFault (c n input : Nat) (o : SteerOutcome) : (skewFault c n input o).site.scr = o.site.scr := by
  simp [skewFault]

theorem scr_settleCtrl (c : Nat) (late : Bool) (o : SteerOutcome) (n : Nat) (e : SteerEntry) :
    (settleCtrl c late o n e).site.scr = o.site.scr := by
  unfold settleCtrl
  dsimp only
  repeat' split
  all_goals simp [scr_intakeCtrl, scr_skewFault]

theorem scr_settleData (c : Nat) (late : Bool) (o : SteerOutcome) (n : Nat) (e : SteerEntry) :
    (settleData c late o n e).site.scr = o.site.scr := by
  unfold settleData
  dsimp only
  repeat' split
  all_goals simp [scr_intakeData, scr_skewFault]

/-- A steering cycle reads and writes queues, not the scratchpad. -/
theorem Site.scr_steerCycle (s : Site) (c : Nat) : (s.steerCycle c).site.scr = s.scr := by
  have hf : ∀ {α : Type} (f : SteerOutcome → α → SteerOutcome) (hf : ∀ o x, (f o x).site.scr = o.site.scr) (l : List α)
      (o : SteerOutcome), (l.foldl f o).site.scr = o.site.scr :=
    fun f hf l o => foldl_fixes (fun o : SteerOutcome => o.site.scr) f hf l o
  unfold Site.steerCycle
  extract_lets o0 es full o1 o2
  split
  · rfl
  · rw [hf _ (fun o x => by rw [scr_settleCtrl, scr_settleData]), hf _ (fun o x => scr_fireEntry _ _ _ _ _),
      hf _ (fun o x => by rw [scr_intakeCtrl, scr_intakeData])]

section
variable {s : State} (h : MemoriesCanonical s)
include h

theorem MemoriesCanonical.discardSet (key : Nat) (st : Status) : MemoriesCanonical (s.discardSet key st) :=
  h.congr (by simp) (by simp)

theorem MemoriesCanonical.cpbChanged {g : Geometry} :
    MemoriesCanonical (({ s with turn := { s.turn with geom := g } } : State).cpbChanged) := h.congr (by simp) (by simp)

theorem MemoriesCanonical.remap (c : Nat) (tiles : List Nat) {t : State} (e : s.applyChange (.remap c tiles) = some t) :
    MemoriesCanonical t := by
  suffices hk : ∀ u, s.applyChange (.remap c tiles) = some u → MemoriesCanonical u from hk t e
  unfold State.applyChange
  refine foldl_keeps (fun o : Option State => ∀ u, o = some u → MemoriesCanonical u) _ (fun o g ho u hu => ?_) tiles ?_
  · repeat' split at hu
    all_goals cases hu
    exact ((ho _ rfl).moveTile _ _ _ _ _).rebalance _
  · intro u hu
    cases hu
    exact h

theorem MemoriesCanonical.applyChange (ch : Change) {t : State} (e : s.applyChange ch = some t) : MemoriesCanonical t := by
  cases ch with
  | remap c tiles => exact h.remap c tiles e
  | reefRange c lo hi =>
    unfold State.applyChange at e
    cases e
    refine .ite (MemoriesCanonical.discardSet ?_ _ _) ?_ <;> exact h
  | vouch c on => cases e; exact h
  | audit q r => cases e; exact (h.modQuad q _).rebalance q
  | geometry g =>
    rw [State.applyChange, Option.some_inj] at e
    subst e
    refine .foldl (fun u c hu => hu.congr (by simp) (by simp)) _ (.foldl (fun u q hu => hu.modQuad q _) _ ?_)
    exact MemoriesCanonical.cpbChanged h
  | gearing c g =>
    rw [State.applyChange, Option.some_inj] at e
    subst e
    exact MemoriesCanonical.modCtx (h.setGear c g) c (fun x => { x with switchTurn := x.turn % 2 ^ 32 })
  | placement => cases e; exact h

theorem MemoriesCanonical.applyAll (l : List Change) {t : State} (e : s.applyAll l = some t) : MemoriesCanonical t := by
  refine foldl_keeps (fun o : Option State => ∀ u, o = some u → MemoriesCanonical u)
    (fun (acc : Option State) ch => acc.bind (fun u => u.applyChange ch)) (fun o ch ho u hu => ?_) l ?_ t e
  · obtain ⟨v, hv, hvu⟩ := Option.bind_eq_some_iff.mp hu
    exact (ho v hv).applyChange ch hvu
  · intro u hu
    cases hu
    exact h
end

/-! ### Canonical memories under every command -/

/-- The state that an outcome leaves, if it leaves one, has canonical memories. -/
def Keeps : Result3 → Prop
  | .next t => MemoriesCanonical t
  | _ => True
section
variable {s : State} (h : MemoriesCanonical s)
include h

theorem MemoriesCanonical.intakeWatch : MemoriesCanonical s.intakeWatch := h.congr (by simp) (by simp)

theorem MemoriesCanonical.countChecks (i : Nat) (a : Site) : MemoriesCanonical (s.countChecks i a) := h.congr (by simp) (by simp)

theorem MemoriesCanonical.countSite (i : Nat) (a : Site) (n : Nat) : MemoriesCanonical (s.countSite i a n) :=
  h.congr (by simp) (by simp)

theorem MemoriesCanonical.countLate (q : Nat) (b : Bool) : MemoriesCanonical (s.countLate q b) := h.congr (by simp) (by simp)

theorem MemoriesCanonical.complete (r : CmdRef) (st : Status) (res : List Byte) : MemoriesCanonical (s.complete r st res) :=
  h.congr (by simp) (by simp)

theorem MemoriesCanonical.accept (hd : CmdHead) (opc arg n : Nat) : MemoriesCanonical (s.accept hd opc arg n) :=
  h.congr (by simp) (by simp)

theorem MemoriesCanonical.stage (hd : CmdHead) (id : Nat) (ch : Change) : MemoriesCanonical (s.stage hd id ch) :=
  h.congr (by simp) (by simp)

theorem MemoriesCanonical.setStream (id : Nat) (e : StreamEntry) : MemoriesCanonical (s.setStream id e) :=
  h.congr (by simp) (by simp)

theorem MemoriesCanonical.modStream (id : Nat) (g : StreamEntry → StreamEntry) : MemoriesCanonical (s.modStream id g) :=
  h.congr (by simp) (by simp)

theorem MemoriesCanonical.readFlash : MemoriesCanonical s.readFlash := h.congr (by simp) (by simp)

theorem MemoriesCanonical.spdm (t : Transport) (a : SpdmAnswer) : MemoriesCanonical (s.spdm t a) := h.congr (by simp) (by simp)

theorem MemoriesCanonical.stagePlacement (q tile site : Nat) : MemoriesCanonical (s.stagePlacement q tile site) :=
  h.congr (by simp) (by simp)

theorem MemoriesCanonical.watchItem (i item : Nat) : MemoriesCanonical (s.watchItem i item) := h.congr (by simp) (by simp)

theorem MemoriesCanonical.confirm (i item index : Nat) : MemoriesCanonical (s.confirm i item index) :=
  h.congr (by simp) (by simp)

theorem MemoriesCanonical.bar2Answer (bs : List Byte) (poison : Bool) : MemoriesCanonical (s.bar2Answer bs poison) :=
  h.congr (by simp) (by simp)

theorem MemoriesCanonical.explain (l : List Nat) : MemoriesCanonical (s.explain l) := h.congr (by simp) (by simp)

theorem MemoriesCanonical.closeCmds (c : Nat) : MemoriesCanonical (s.closeCmds c) := h.congr (by simp) (by simp)

theorem MemoriesCanonical.addDefect (q : Nat) (d : Defect) : MemoriesCanonical (s.addDefect q d) := h.congr (by simp) (by simp)

theorem MemoriesCanonical.engineIssue (q e c : Nat) : MemoriesCanonical (s.engineIssue q e c) := h.congr (by simp) (by simp)

theorem MemoriesCanonical.modChan (n : Nat) (g : Channel → Channel) : MemoriesCanonical (s.modChan n g) :=
  h.congr (by simp) (by simp)

theorem MemoriesCanonical.retire (q : Nat) (failed : List Nat) : MemoriesCanonical (s.retire q failed) := by
  refine .foldl (fun u n hu => ?_) _ h
  split
  · exact hu.modChan n _
  · exact hu

theorem Keeps.fetchAt (i : Nat) (k : Checks) : Keeps (s.fetchAt i k) := by
  unfold State.fetchAt
  dsimp only
  split
  · exact h.issueAt i _ k
  split
  · split
    · exact h.issueAt i _ k
    · trivial
  · trivial

theorem Keeps.turnBoundary (energy vin : Nat) : Keeps (execTurnBoundary energy vin s) := by
  unfold execTurnBoundary
  exact .ite ((h.endClose _ _).boundary _) h

theorem Keeps.workWindowStart  : Keeps (execWorkWindowStart s) := by
  unfold execWorkWindowStart
  extract_lets t turn u
  have ht : MemoriesCanonical t := h.intakeWatch
  clear_value t
  have hu : MemoriesCanonical u := ht
  clear_value u
  have hf : MemoriesCanonical (allCtxs.foldl (fun v c => if v.runs c then v.startCtx c else v) u) :=
    .foldl (fun v c hv => .ite (hv.startCtx c) hv) _ hu
  exact .ite (MemoriesCanonical.drivenModes (hf.congr (State.sites_lapseLate _) (by rw [State.ddr_lapseLate]))) h

theorem Keeps.dressingWindowStart  : Keeps (execDressingWindowStart s) := by
  unfold execDressingWindowStart
  dsimp only
  refine .ite (MemoriesCanonical.drivenModes (.foldl (fun u c hu => hu.endWork c) _ ?_)) h
  exact h

theorem Keeps.closeWindowStart (facts : CloseFacts) : Keeps (execCloseWindowStart facts s) := by
  unfold execCloseWindowStart
  extract_lets turn s0 qs audits found pairs real routine sites of_ s1 s2 s3 s4
  have h0 : MemoriesCanonical s0 := h
  have h1 : MemoriesCanonical s1 := by
    refine MemoriesCanonical.dress (MemoriesCanonical.explain (.foldl (fun u c hu => .ite hu (hu.resendCtx c)) _ h0) sites) facts
  have h2 : MemoriesCanonical s2 := by
    refine .foldl (fun u e hu => hu.congr (by simp) (by simp)) _ (MemoriesCanonical.congr h1 ?_ ?_) <;> simp
  have h3 : MemoriesCanonical s3 := .foldl (fun u c hu => hu.closeCtx c _) _ h2
  have h4 : MemoriesCanonical s4 := .foldl (fun u c hu => MemoriesCanonical.closeCmds (hu.judgeFaults c) c) _ h3
  clear_value s4
  refine .ite (MemoriesCanonical.drivenModes ?_) (.ite (MemoriesCanonical.drivenModes ?_) h)
  · exact (MemoriesCanonical.watchEngines (h4.congr (by simp) (by simp))).rewear
  · exact h

theorem Keeps.dmaTokenCloseDeadline (site xfer : Nat) : Keeps (execDmaTokenCloseDeadline site xfer s) := by
  unfold execDmaTokenCloseDeadline
  dsimp only
  split
  · exact h
  · refine .ite h (h.setSite site ?_)
    simpa using h.1 site

theorem Keeps.turnStep (energy vin : Nat) : Keeps (execTurnStep energy vin s) := by
  unfold execTurnStep
  extract_lets sets a ea ta b
  have ha : MemoriesCanonical a :=
    MemoriesCanonical.congr (.foldl (fun u e hu => hu.discardSet e.1 .stageIncomplete) sets h) (by simp [a]) (by simp [a])
  clear_value a
  have hb : MemoriesCanonical b := (ha.endClose energy vin).congr rfl rfl
  clear_value b
  refine .ite (MemoriesCanonical.boundary ?_ _) h
  exact hb

theorem Keeps.holdoverEnter  : Keeps (execHoldoverEnter s) := by
  unfold execHoldoverEnter
  exact h.congr (by simp) (by simp)

theorem Keeps.masterKeyDiscard  : Keeps (execMasterKeyDiscard s) := by
  unfold execMasterKeyDiscard
  exact h.congr (by simp) (by simp)

theorem Keeps.turnMarkReceive (port : Nat) (m : Mark) : Keeps (execTurnMarkReceive port m s) := by
  unfold execTurnMarkReceive
  exact h.congr (by simp) (by simp)

theorem Keeps.changeSetStaged (key : Nat) : Keeps (execChangeSetStaged key s) := by
  unfold execChangeSetStaged
  split
  · exact h
  · exact h.congr (by simp) (by simp)

theorem Keeps.changeSetApply (key : Nat) : Keeps (execChangeSetApply key s) := by
  unfold execChangeSetApply
  split
  · exact h
  · next z _ =>
    extract_lets p
    have hp : MemoriesCanonical p := h.applyPlacements (key - 65552)
    have hd := h.discardSet key .stageIncomplete
    clear_value p
    refine .ite h (.ite (h.congr (by simp) (by simp)) (.ite (hd.congr (by simp) (by simp)) (.ite ?_ ?_)))
    · exact hp
    · split
      · exact hd
      · next t ht =>
        extract_lets u f
        have hu : MemoriesCanonical u := MemoriesCanonical.applyAll (t := t) h _ ht
        have hf : MemoriesCanonical f := hu.finish _ _ _
        clear_value u f
        refine .ite ?_ (hu.congr (by simp) (by simp))
        exact hf

theorem Keeps.changeSetExpire (key : Nat) : Keeps (execChangeSetExpire key s) := by
  unfold execChangeSetExpire
  split
  · exact .ite (h.discardSet _ _) h
  · exact h

theorem Keeps.governorStage (ctx : Nat) : Keeps (execGovernorStage ctx s) := by
  unfold execGovernorStage
  exact h.congr (by simp) (by simp)

theorem Keeps.bankDrainDone (site bank : Nat) : Keeps (execBankDrainDone site bank s) := by
  unfold execBankDrainDone
  dsimp only
  exact .ite (h.setSite site (Site.wf_powerDown bank (h.1 site))) h

theorem Keeps.bankDrainTimeout (site bank : Nat) : Keeps (execBankDrainTimeout site bank s) := by
  unfold execBankDrainTimeout
  dsimp only
  refine .ite ?_ h
  exact MemoriesCanonical.foldl (fun u w hu => hu.settleWrite w true) _
    (h.setSite site (Site.wf_powerDown bank (h.1 site)))

theorem Keeps.bundleFetch (site : Nat) (k : Checks) : Keeps (execBundleFetch site k s) := by
  unfold execBundleFetch
  exact Keeps.fetchAt h site k

theorem Keeps.nop (site : Nat) (_slot : SlotName) (k : Checks) : Keeps (execNop site _slot k s) := by
  unfold execNop
  exact h.issueAt _ _ _

theorem Keeps.waitExpire (site : Nat) (k : Checks) : Keeps (execWaitExpire site k s) := by
  unfold execWaitExpire
  split
  · exact Keeps.fetchAt (h.modSite_of_scr site (fun a => by simp)) site k
  · exact h

theorem Keeps.dmaDescriptorFetch (site cycle : Nat) : Keeps (execDmaDescriptorFetch site cycle s) := by
  unfold execDmaDescriptorFetch
  extract_lets s0 a q ex
  have h0 : MemoriesCanonical s0 := h.upToCycle site cycle
  have ha : a.scr.wf = true := h0.1 site
  clear_value s0 a
  refine .ite h ?_
  split
  · extract_lets x d scratch far away k t b good bex s1 s2
    have h1 : MemoriesCanonical s1 := MemoriesCanonical.engineIssue (h0.setSite site (by exact ha)) _ _ _
    clear_value s1
    have h2 : MemoriesCanonical s2 := h1.modCtx _ _
    refine .ite (.ite (.ite h2 (h2.releaseXfer _ _ _)) h1) (h0.setSite site ?_)
    simpa [b] using ha
  · exact h

theorem Keeps.dmaTransferDone (site xfer cycle : Nat) (found : List (Nat × EccFind)) :
    Keeps (execDmaTransferDone site xfer cycle found s) := by
  unfold execDmaTransferDone
  have hm : ∀ {u : State}, MemoriesCanonical u → ∀ i g, (∀ a : Site, (g a).scr = a.scr) → MemoriesCanonical (u.modSite i g) :=
    fun hu i g hg => hu.modSite_of_scr i hg
  extract_lets q
  split
  · exact h
  split
  · refine .ite h ?_
    extract_lets s1
    have h1 : MemoriesCanonical s1 := (h.upToCycle site cycle).moveAll _ _ _ _
    clear_value s1
    split
    · exact h1
    · exact MemoriesCanonical.engineRetire (hm h1 site _ (fun a => by simp)) _ _
  · refine .ite h ?_
    have h1 := fun e => h.engineRetire q e
    refine .ite ?_ ?_
    · exact hm (h1 _) site _ (fun a => by simp)
    · exact hm (h1 _) site _ (fun a => by simp)

theorem Keeps.feedTiming (site : Nat) : Keeps (execFeedTiming site s) := by
  unfold execFeedTiming
  split
  · exact h.modSite_of_scr site (fun a => by simp)
  · exact h

theorem Keeps.steeringCycle (site cycle : Nat) (bad : Option Nat) : Keeps (execSteeringCycle site cycle bad s) := by
  unfold execSteeringCycle
  dsimp only
  split
  · exact h
  split
  · exact MemoriesCanonical.countChecks (h.setSite site (by simpa using h.1 site)) _ _
  · refine MemoriesCanonical.modQuad (MemoriesCanonical.countSite (MemoriesCanonical.dispatch (h.setSite site ?_) _ _) _ _ _) _ _
    simpa [Site.scr_steerCycle] using h.1 site

theorem Keeps.messageRelease (site slot late : Nat) : Keeps (execMessageRelease site slot late s) := by
  unfold execMessageRelease
  dsimp only
  split
  · exact h
  · refine .ite h (.ite (MemoriesCanonical.modQuad (MemoriesCanonical.countLate ?_ _ _) _ _)
      (.ite (MemoriesCanonical.countLate ?_ _ _) ?_))
    all_goals exact h.setSite site (h.1 site)

theorem Keeps.pondSpill (site hop cycle : Nat) : Keeps (execPondSpill site hop cycle s) := by
  unfold execPondSpill
  dsimp only
  split
  · exact h
  · refine .ite h ?_
    split
    · refine MemoriesCanonical.modQuad (MemoriesCanonical.countLate (h.setSite site ?_) _ _) _ _
      exact Site.wf_spill _ _ _ _ _ (h.1 site)
    · exact MemoriesCanonical.modQuad (h.setSite site (by simpa using h.1 site)) _ _

theorem Keeps.pondRefill (site hop cycle : Nat) (bad : Option Nat) : Keeps (execPondRefill site hop cycle bad s) := by
  unfold execPondRefill
  dsimp only
  split
  · exact h
  · refine .ite h ?_
    split
    · exact MemoriesCanonical.countChecks (h.setSite site (by simpa using h.1 site)) _ _
    · exact h.setSite site (by simpa using h.1 site)

theorem Keeps.pondRefillDone (site hop cycle : Nat) : Keeps (execPondRefillDone site hop cycle s) := by
  unfold execPondRefillDone
  dsimp only
  split
  · exact h
  · exact .ite h (h.setSite site (h.1 site))

theorem Keeps.sluiceWriteArrival (site xfer cycle : Nat) (bad : Option Nat) :
    Keeps (execSluiceWriteArrival site xfer cycle bad s) := by
  unfold execSluiceWriteArrival
  have hm : ∀ {u : State}, MemoriesCanonical u → ∀ i g, (∀ a : Site, (g a).scr = a.scr) → MemoriesCanonical (u.modSite i g) :=
    fun hu i g hg => hu.modSite_of_scr i hg
  extract_lets a q s1
  split
  · extract_lets off sc tile pq held
    have h1 : MemoriesCanonical s1 := hm (h.upToCycle site cycle) site _ (fun x => by simp)
    clear_value s1
    refine .ite h (.ite h ?_)
    split
    · exact hm h1 site _ (fun x => by simp)
    · exact hm h1 site _ (fun x => by simp)
    · split
      · exact h1
      · next dq _ =>
        extract_lets v o s2 s3
        have hv : MemoriesCanonical (s1.countVerdict dq v) := h1.congr (by simp) (by simp)
        have h2 : MemoriesCanonical s2 := by
          unfold s2
          split
          · exact MemoriesCanonical.countChecks (hm hv o _ (fun y => by simp)) _ _
          · exact hv
        have h3 : MemoriesCanonical s3 := h2.touchDma _ _ _
        clear_value s3 v
        split
        · split
          · exact h3
          · exact hm h3 _ _ (fun x => rfl)
        · split
          · exact h3.answer _ _ _ _ _
          · exact h3
  · exact h

theorem Keeps.sluiceWriteLand (site bank cycle : Nat) : Keeps (execSluiceWriteLand site bank cycle s) := by
  unfold execSluiceWriteLand
  dsimp only
  have hu := h.upToCycle site cycle
  split
  · exact h
  · refine .ite h (MemoriesCanonical.settleWrite (hu.setSite site ?_) _ _)
    exact Memory.wf_setWord64 _ _ _ _ (hu.1 site)

theorem Keeps.sluiceAnswerArrival (site xfer cycle : Nat) : Keeps (execSluiceAnswerArrival site xfer cycle s) := by
  unfold execSluiceAnswerArrival
  dsimp only
  split
  · exact h
  · split
    · refine MemoriesCanonical.modQuad ?_ _ _
      exact h.setSite site (h.1 site)
    · refine h.setSite site ?_
      split <;> simpa using h.1 site

theorem Keeps.batchFill (ctx : Nat) : Keeps (execBatchFill ctx s) := by
  unfold execBatchFill
  dsimp only
  refine .ite (.foldl (fun u id hu => hu.place ctx id) _ ?_) h
  exact h

theorem Keeps.batchHeaderWrite (ctx : Nat) : Keeps (execBatchHeaderWrite ctx s) := by
  unfold execBatchHeaderWrite
  dsimp only
  split
  · exact .ite ((h.writeRx _ _ _).modCtx _ _) h
  · exact h

theorem Keeps.inputWindowReadDone (stream : Nat) (found : EccFind) : Keeps (execInputWindowReadDone stream found s) := by
  unfold execInputWindowReadDone
  dsimp only
  have ht := (h.touchRetired ((s.stream stream).inputAddr / 2 ^ 43) ((s.stream stream).inputAddr % 2 ^ 43) .intake).ddrFound
    ((s.stream stream).inputAddr / 2 ^ 43) ((s.stream stream).inputAddr % 2 ^ 43) found .intake
  exact .ite h (.ite (ht.congr (by simp) (by simp)) (ht.congr (by simp) (by simp)))

theorem Keeps.streamEntryFetchDone (stream : Nat) (found : EccFind) : Keeps (execStreamEntryFetchDone stream found s) := by
  unfold execStreamEntryFetchDone
  dsimp only
  have hr := h.entryRead stream found
  exact .ite (hr.congr rfl rfl) h

theorem Keeps.pointerBlockArrival (fn : Nat) (ok : Bool) (idx : List PtrIndex) : Keeps (execPointerBlockArrival fn ok idx s) := by
  unfold execPointerBlockArrival
  exact h.congr (by simp) (by simp)

theorem Keeps.headraceSkip (hd : CmdHead) (span : Nat) : Keeps (execHeadraceSkip hd span s) := by
  unfold execHeadraceSkip
  dsimp only
  split
  · exact h
  · exact h.congr (by simp) (by simp)
  · exact .ite (h.congr (by simp) (by simp)) (.ite h (h.consume _ _ _ _))

theorem Keeps.unknownCommand (hd : CmdHead) (opc : Nat) : Keeps (execUnknownCommand hd opc s) := by
  unfold execUnknownCommand
  dsimp only
  split
  · exact h
  · exact h.congr (by simp) (by simp)
  · exact MemoriesCanonical.refuse (h.consume _ _ _ _) _ _ _

theorem Keeps.planLoad (hd : CmdHead) (image home quads pipeline prevPos : Nat) (body : PlanBody) :
    Keeps (execPlanLoad hd image home quads pipeline prevPos body s) := by
  unfold execPlanLoad
  dsimp only
  refine h.command _ _ _ _ _ _ _ (fun {t} ht => ?_)
  refine .ite (ht.complete _ _ _) ?_
  split
  · exact (ht.accept _ _ _ _).modCtx _ _
  · exact .foldl (fun u q hu => hu.modQuad q _) _ ((ht.accept _ _ _ _).modCtx _ _)

theorem Keeps.planLoadDone (ctx : Nat) : Keeps (execPlanLoadDone ctx s) := by
  unfold execPlanLoadDone
  dsimp only
  split
  · exact h
  · refine .ite h (.ite ((h.finish _ _ _).dropLoad _) (MemoriesCanonical.finish (.foldl (fun u q hu => hu.modQuad q _) _ ?_) _ _ _))
    exact MemoriesCanonical.modCtx ((h.placePlan ctx).congr (by simp) (by simp)) _ _

theorem Keeps.planUnload (hd : CmdHead) : Keeps (execPlanUnload hd s) := by
  unfold execPlanUnload
  dsimp only
  exact h.command _ _ _ _ _ _ _ (fun ht => (ht.accept _ _ _ _).modCtx _ _)

theorem Keeps.planUnloadDone (ctx : Nat) : Keeps (execPlanUnloadDone ctx s) := by
  unfold execPlanUnloadDone
  exact .ite ((h.unload ctx).finish _ _ _) h

theorem Keeps.ctxAssign (hd : CmdHead) (function : Nat) : Keeps (execCtxAssign hd function s) := by
  unfold execCtxAssign
  dsimp only
  exact h.command _ _ _ _ _ _ _ (fun ht => (ht.modCtx _ _).complete _ _ _)

theorem Keeps.cfgStageRemap (hd : CmdHead) (id : Nat) (tiles : List Nat) : Keeps (execCfgStageRemap hd id tiles s) := by
  unfold execCfgStageRemap
  dsimp only
  exact h.command _ _ _ _ _ _ _ (fun ht => ht.stage _ _ _)

theorem Keeps.cfgStageReefRange (hd : CmdHead) (id lo hi : Nat) : Keeps (execCfgStageReefRange hd id lo hi s) := by
  unfold execCfgStageReefRange
  exact h.command _ _ _ _ _ _ _ (fun ht => ht.stage _ _ _)

theorem Keeps.cfgStageVouch (hd : CmdHead) (id mode : Nat) : Keeps (execCfgStageVouch hd id mode s) := by
  unfold execCfgStageVouch
  dsimp only
  exact h.command _ _ _ _ _ _ _ (fun ht => ht.stage _ _ _)

theorem Keeps.cfgStageAudit (hd : CmdHead) (id quad reserve : Nat) : Keeps (execCfgStageAudit hd id quad reserve s) := by
  unfold execCfgStageAudit
  exact h.command _ _ _ _ _ _ _ (fun ht => ht.stage _ _ _)

theorem Keeps.cfgStageGeometry (hd : CmdHead) (id m d c : Nat) : Keeps (execCfgStageGeometry hd id m d c s) := by
  unfold execCfgStageGeometry
  dsimp only
  exact h.command _ _ _ _ _ _ _ (fun ht => ht.stage _ _ _)

theorem Keeps.cfgCommit (hd : CmdHead) (id turn : Nat) : Keeps (execCfgCommit hd id turn s) := by
  unfold execCfgCommit
  dsimp only
  refine h.command _ _ _ _ _ _ _ (fun {t} ht => ?_)
  exact ht.accept hd 0x05 id (turn - s.turn.no + 2)

theorem Keeps.weightDigest (hd : CmdHead) (region : Nat) : Keeps (execWeightDigest hd region s) := by
  unfold execWeightDigest
  dsimp only
  refine h.command _ _ _ _ _ _ _ (fun {t} ht => ?_)
  exact ht.accept hd 0x06 region 4096

theorem Keeps.digestPassStart  : Keeps (execDigestPassStart s) := by
  unfold execDigestPassStart
  exact h.congr (by simp) (by simp)

theorem Keeps.digestRegionDone (ctx quad region : Nat) : Keeps (execDigestRegionDone ctx quad region s) := by
  unfold execDigestRegionDone
  dsimp only
  exact h.congr (by (repeat' split) <;> simp) (by (repeat' split) <;> simp)

theorem Keeps.ctxAbort (hd : CmdHead) : Keeps (execCtxAbort hd s) := by
  unfold execCtxAbort
  dsimp only
  refine h.command _ _ _ _ _ _ _ (fun {t} ht => ?_)
  have hu := ht.accept hd 0x07 0 4096
  exact .ite (((hu.finish _ _ _).dropLoad _).modCtx _ _) (hu.abortCtx _ _)

theorem Keeps.ctxAbortDone (ctx : Nat) : Keeps (execCtxAbortDone ctx s) := by
  unfold execCtxAbortDone
  dsimp only
  exact .ite (MemoriesCanonical.finish (MemoriesCanonical.modCtx (.ite h (h.placePlan ctx)) _ _) _ _ _) h

theorem Keeps.ctxQuery (hd : CmdHead) : Keeps (execCtxQuery hd s) := by
  unfold execCtxQuery
  dsimp only
  exact h.command _ _ _ _ _ _ _ (fun ht => ht.complete _ _ _)

theorem Keeps.ctxStart (hd : CmdHead) : Keeps (execCtxStart hd s) := by
  unfold execCtxStart
  dsimp only
  exact h.command _ _ _ _ _ _ _ (fun ht => .ite (ht.complete _ _ _) ((ht.accept _ _ _ _).modCtx _ _))

theorem Keeps.ctxPause (hd : CmdHead) : Keeps (execCtxPause hd s) := by
  unfold execCtxPause
  dsimp only
  exact h.command _ _ _ _ _ _ _ (fun ht => (ht.accept _ _ _ _).modCtx _ _)

theorem Keeps.ctxResume (hd : CmdHead) : Keeps (execCtxResume hd s) := by
  unfold execCtxResume
  dsimp only
  exact h.command _ _ _ _ _ _ _ (fun ht => .ite (ht.complete _ _ _) ((ht.accept _ _ _ _).modCtx _ _))

theorem Keeps.ctxDrain (hd : CmdHead) (flags : Nat) : Keeps (execCtxDrain hd flags s) := by
  unfold execCtxDrain
  dsimp only
  exact h.command _ _ _ _ _ _ _ (fun ht => (ht.accept _ _ _ _).modCtx _ _)

theorem Keeps.streamOpen (hd : CmdHead) (id adapter priv : Nat) (seed : DWord) (kvBase kvLimit : Nat) :
    Keeps (execStreamOpen hd id adapter priv seed kvBase kvLimit s) := by
  unfold execStreamOpen
  dsimp only
  exact h.streamCommand _ _ _ _ _ _ _ (fun ht => .ite (ht.complete _ _ _) ((ht.setStream _ _).complete _ _ _))

theorem Keeps.streamStep (hd : CmdHead) (id gen flags inputCount newTokens : Nat) (stop : Word) (inputAddr : Nat)
    (inputs : List Word) :
    Keeps (execStreamStep hd id gen flags inputCount newTokens stop inputAddr inputs s) := by
  unfold execStreamStep
  extract_lets indirect bad
  refine h.streamCommand _ _ _ _ _ _ _ (fun {t} ht => ?_)
  extract_lets e x u0 streams u v w o
  have hu : MemoriesCanonical u := (ht.accept _ _ _ _).setStream _ _
  have hv : MemoriesCanonical v := hu.congr (by simp [v]) (by simp [v])
  have hw : MemoriesCanonical w := hv.modCtx _ _
  clear_value w
  have hl : MemoriesCanonical w.lateFill := hw.congr (by simp) (by simp)
  have ho : MemoriesCanonical o := .ite hl hw
  refine .ite (ht.complete _ _ _) (.ite (ht.complete _ _ _) (.ite (ht.complete _ _ _) ?_))
  split
  · exact .ite (.ite (ho.place _ _) ho) hl
  · exact .ite hl ho

theorem Keeps.streamCancel (hd : CmdHead) (id gen : Nat) : Keeps (execStreamCancel hd id gen s) := by
  unfold execStreamCancel
  dsimp only
  refine h.streamCommand _ _ _ _ _ _ _ (fun {t} ht => ?_)
  have hu := MemoriesCanonical.modCtx ((ht.accept hd 0x22 id 4096).modStream id (fun e => { e with cancelled := true })) hd.ctx
    (fun x => x.unfill id)
  exact .ite hu (hu.congr (by simp) (by simp))

theorem Keeps.streamTruncate (hd : CmdHead) (id gen position : Nat) : Keeps (execStreamTruncate hd id gen position s) := by
  unfold execStreamTruncate
  dsimp only
  exact h.streamCommand _ _ _ _ _ _ _ (fun ht => .ite (ht.complete _ _ _) ((ht.setStream _ _).complete _ _ _))

theorem Keeps.streamEvict (hd : CmdHead) (id gen : Nat) : Keeps (execStreamEvict hd id gen s) := by
  unfold execStreamEvict
  dsimp only
  refine h.streamCommand _ _ _ _ _ _ _ (fun {t} ht => ?_)
  exact (ht.accept hd 0x24 id 4096).modStream id (fun e => { e with state := .evicted })

theorem Keeps.streamEvictDone (stream : Nat) : Keeps (execStreamEvictDone stream s) := by
  unfold execStreamEvictDone
  exact .ite h ((h.writeEntry stream).finish _ _ _)

theorem Keeps.streamRestore (hd : CmdHead) (id gen : Nat) : Keeps (execStreamRestore hd id gen s) := by
  unfold execStreamRestore
  dsimp only
  refine h.command _ _ _ _ _ _ _ (fun {t} ht => ?_)
  exact ht.accept hd 0x25 id 4096

theorem Keeps.streamRestoreDone (stream : Nat) (found : EccFind) : Keeps (execStreamRestoreDone stream found s) := by
  unfold execStreamRestoreDone
  dsimp only
  have hr := h.entryRead stream found
  have hf : ∀ (st : Status), MemoriesCanonical ((s.entryRead stream found).1.finish (fun y => y.opc == 0x25 && y.arg == stream) st
      (fun _ => [])) := fun st => hr.finish _ _ _
  split
  · exact h
  · refine .ite h (.ite (h.finish _ _ _) (.ite ?_ ?_))
    · exact (hf .poisoned).congr (by simp) (by simp)
    · exact (hf .ok).congr (by simp) (by simp)

theorem Keeps.streamClose (hd : CmdHead) (id gen : Nat) : Keeps (execStreamClose hd id gen s) := by
  unfold execStreamClose
  dsimp only
  exact h.streamCommand _ _ _ _ _ _ _ (fun ht => (ht.setStream _ _).complete _ _ _)

theorem Keeps.streamQuery (hd : CmdHead) (id : Nat) : Keeps (execStreamQuery hd id s) := by
  unfold execStreamQuery
  dsimp only
  exact h.streamCommand _ _ _ _ _ _ _ (fun ht => ht.complete _ _ _)

theorem Keeps.ringEnable (fn ring : Nat) (cfg : Word) : Keeps (execRingEnable fn ring cfg s) := by
  unfold execRingEnable
  exact .ite (h.congr (by simp) (by simp)) h

theorem Keeps.ringDisable (fn ring : Nat) (cfg : Word) : Keeps (execRingDisable fn ring cfg s) := by
  unfold execRingDisable
  exact .ite (h.congr (by simp) (by simp)) h

theorem Keeps.hostAllowanceWrite (value : Word) : Keeps (execHostAllowanceWrite value s) := by
  unfold execHostAllowanceWrite
  exact .ite (h.congr (by simp) (by simp)) h

theorem Keeps.resetReqQuadFast (key quads : Nat) : Keeps (execResetReqQuadFast key quads s) := by
  unfold execResetReqQuadFast
  exact h.resetQuads _ _ _

theorem Keeps.resetReqQuadFull (key quads : Nat) : Keeps (execResetReqQuadFull key quads s) := by
  unfold execResetReqQuadFull
  exact h.resetQuads _ _ _

theorem Keeps.resetReqChip (key : Nat) : Keeps (execResetReqChip key s) := by
  unfold execResetReqChip
  exact h.resetDevice _

theorem Keeps.fwStage (key : Nat) : Keeps (execFwStage key s) := by
  unfold execFwStage
  exact .ite (h.congr (by simp) (by simp)) h

theorem Keeps.ownerSet (key : Nat) : Keeps (execOwnerSet key s) := by
  unfold execOwnerSet
  exact .ite (h.congr (by simp) (by simp)) h

theorem Keeps.fwUpdateDone (readBackOk : Bool) : Keeps (execFwUpdateDone readBackOk s) := by
  unfold execFwUpdateDone
  split
  · exact h
  · exact h.congr (by simp) (by simp)

theorem Keeps.registerWrite (fn offset size : Nat) (value : DWord) : Keeps (execRegisterWrite fn offset size value s) := by
  unfold execRegisterWrite
  dsimp only
  exact .ite (h.congr (by simp) (by simp)) (.ite (h.writeWord _ _ _) (.ite ((h.writeWord _ _ _).writeWord _ _ _) h))

theorem Keeps.bar2Read (offset bytes : Nat) (found : List (Nat × EccFind)) : Keeps (execBar2Read offset bytes found s) := by
  unfold execBar2Read
  dsimp only
  split
  · exact h.congr (by simp) (by simp)
  · exact h.congr (by simp) (by simp)
  · exact MemoriesCanonical.bar2Answer (h.ddrFinds _ _ _ _ _) _ _
  · exact MemoriesCanonical.bar2Answer ((h.touchRetired _ _ _).ddrFinds _ _ _ _ _) _ _

theorem Keeps.bar2Write (offset : Nat) (data : List Byte) (poison : Bool) (found : List (Nat × EccFind)) :
    Keeps (execBar2Write offset data poison found s) := by
  unfold execBar2Write
  dsimp only
  split
  · exact h.congr (by simp) (by simp)
  · exact h
  · exact h
  · next q l _ =>
    refine .foldl (fun u e hu => ?_) _ ((h.ddrFinds _ _ _ _ _).ddrPut _ _ _ _ _)
    have hv : MemoriesCanonical (u.modMem q (fun m => m.mark e.1 true)) := hu.modMem q (fun m hm => Memory.wf_mark _ _ _ hm)
    split
    · exact hv.ddrLogAdd _ _ _ _ _
    · exact hv

theorem Keeps.pfFlr  : Keeps (execPfFlr s) := by
  unfold execPfFlr
  exact .ite (h.chipReset true) h

theorem Keeps.vfFlr (quad : Nat) : Keeps (execVfFlr quad s) := by
  unfold execVfFlr
  exact .ite (h.vfReset quad) h

theorem Keeps.hotReset  : Keeps (execHotReset s) := by
  unfold execHotReset
  exact .ite (h.chipReset true) h

theorem Keeps.pcieLinkDown  : Keeps (execPcieLinkDown s) := by
  unfold execPcieLinkDown
  exact .ite (h.chipReset true) h

theorem Keeps.d3hotToD0 (fn : Nat) : Keeps (execD3hotToD0 fn s) := by
  unfold execD3hotToD0
  exact .ite (.ite (h.chipReset true) (h.vfReset _)) h

theorem Keeps.perstNRise  : Keeps (execPerstNRise s) := by
  unfold execPerstNRise
  exact h

theorem Keeps.perstNFall  : Keeps (execPerstNFall s) := by
  unfold execPerstNFall
  dsimp only
  exact .ite (MemoriesCanonical.chipReset (by exact h) true) (by exact h)

theorem Keeps.pwrEnRise (lowMs : Nat) : Keeps (execPwrEnRise lowMs s) := by
  unfold execPwrEnRise
  dsimp only
  split
  · exact h
  split
  · trivial
  · exact h

theorem Keeps.powerUpComplete  : Keeps (execPowerUpComplete s) := by
  unfold execPowerUpComplete
  dsimp only
  exact .ite (MemoriesCanonical.bootStep (by exact h)) h

theorem Keeps.powerSeqTimeout  : Keeps (execPowerSeqTimeout s) := by
  unfold execPowerSeqTimeout
  exact h.congr (by simp) (by simp)

theorem Keeps.pwrEnFall  : Keeps (execPwrEnFall s) := by
  unfold execPwrEnFall
  exact .ite memoriesCanonical_powerOff h

theorem Keeps.thermtrip (die : Nat) : Keeps (execThermtrip die s) := by
  unfold execThermtrip
  exact .ite h.tripped h

theorem Keeps.slotIdChange (value : BitVec 6) : Keeps (execSlotIdChange value s) := by
  unfold execSlotIdChange
  exact h

theorem Keeps.memoryModuleInsert (channel : Nat) (module : MemModule) : Keeps (execMemoryModuleInsert channel module s) := by
  unfold execMemoryModuleInsert
  exact .ite (h.congr (by simp) (by simp)) h

theorem Keeps.osfpCableInsert (port milliwatts : Nat) : Keeps (execOsfpCableInsert port milliwatts s) := by
  unfold execOsfpCableInsert
  dsimp only
  exact .ite h (.ite h (.ite ((h.modPort _ _).train _) (h.modPort _ _)))

theorem Keeps.osfpCableRemove (port : Nat) : Keeps (execOsfpCableRemove port s) := by
  unfold execOsfpCableRemove
  exact .ite ((h.portDown _ _ _).modPort _ _) h

theorem Keeps.chipControllerStart (incomplete : List Nat) : Keeps (execChipControllerStart incomplete s) := by
  unfold execChipControllerStart
  dsimp only
  refine .ite h (MemoriesCanonical.startPorts (.foldl (fun u q hu => hu.startQuad _ q) _ ?_))
  exact MemoriesCanonical.readFlash h

theorem Keeps.ddrTrainingDone (failed : List Nat) (ms : Nat) : Keeps (execDdrTrainingDone failed ms s) := by
  unfold execDdrTrainingDone
  split
  · exact h
  · exact h.congr (by simp) (by simp)

theorem Keeps.zeroingDone (ms : Nat) : Keeps (execZeroingDone ms s) := by
  unfold execZeroingDone
  dsimp only
  exact .ite (.of_tables h.sites memsCanonical_nil) h

theorem Keeps.fullDressingDone (found : List DefectFact) (ms : Nat) : Keeps (execFullDressingDone found ms s) := by
  unfold execFullDressingDone
  dsimp only
  refine .ite h ?_
  have ha : MemoriesCanonical (s.mod.order.quads.foldl (fun u q => u.softRepair found q) s) :=
    .foldl (fun u q hu => hu.softRepair found q) _ h
  exact ha.congr (by simp) (by simp)

theorem Keeps.eFloorMeasured (floor : Nat) : Keeps (execEFloorMeasured floor s) := by
  unfold execEFloorMeasured
  exact h.congr (by simp) (by simp)

theorem Keeps.readinessDecision (totalMs : Nat) (fuse : FuseEnd) : Keeps (execReadinessDecision totalMs fuse s) := by
  unfold execReadinessDecision
  dsimp only
  refine .ite h ?_
  split
  · exact h.congr (by simp) (by simp)
  · exact memoriesCanonical_cutStart _

theorem Keeps.tempSample (all : List Nat) : Keeps (execTempSample all s) := by
  unfold execTempSample
  dsimp only
  refine .ite h (.foldl (fun u i hu => .ite (hu.congr (by simp) (by simp)) hu) _ ?_)
  exact h

theorem Keeps.brakePtrPoll (fn : Nat) (ok : Bool) (idx : List PtrIndex) : Keeps (execBrakePtrPoll fn ok idx s) := by
  unfold execBrakePtrPoll
  split
  · exact h
  · exact h.congr (by simp) (by simp)

theorem Keeps.brakeRecordTimeout  : Keeps (execBrakeRecordTimeout s) := by
  unfold execBrakeRecordTimeout
  split
  · exact h
  · exact h.congr (by simp) (by simp)

theorem Keeps.trayAllowanceSet (watts : Nat) : Keeps (execTrayAllowanceSet watts s) := by
  unfold execTrayAllowanceSet
  exact h.congr (by simp) (by simp)

theorem Keeps.pldmOwnerKey (digest : List Byte) : Keeps (execPldmOwnerKey digest s) := by
  unfold execPldmOwnerKey
  exact h.congr (by simp) (by simp)

theorem Keeps.pldmFwUpdate (image : List Byte) : Keeps (execPldmFwUpdate image s) := by
  unfold execPldmFwUpdate
  refine .ite h (.ite (h.congr (by simp) (by simp)) (.ite (h.congr (by simp) (by simp)) ?_))
  exact h

theorem Keeps.romRecoveryUpdate (image : List Byte) : Keeps (execRomRecoveryUpdate image s) := by
  unfold execRomRecoveryUpdate
  dsimp only
  exact .ite h (.ite (h.congr (by simp) (by simp)) (MemoriesCanonical.bootStep (h.congr (by simp) (by simp))))

theorem Keeps.fabricManifestReceive (m : FabricManifest) : Keeps (execFabricManifestReceive m s) := by
  unfold execFabricManifestReceive
  dsimp only
  exact h.congr (by (repeat' split) <;> simp) (by (repeat' split) <;> simp)

theorem Keeps.manifestApply  : Keeps (execManifestApply s) := by
  unfold execManifestApply
  split
  · exact .ite (h.congr (by simp) (by simp)) h
  · exact h

theorem Keeps.returnNonce  : Keeps (execReturnNonce s) := by
  unfold execReturnNonce
  exact h.congr (by simp) (by simp)

theorem Keeps.returnNonceExpire  : Keeps (execReturnNonceExpire s) := by
  unfold execReturnNonceExpire
  exact h

theorem Keeps.returnUnlock (record : UnlockRecord) : Keeps (execReturnUnlock record s) := by
  unfold execReturnUnlock
  dsimp only
  refine .ite h (.ite (MemoriesCanonical.chipReset ?_ false) (h.congr (by simp) (by simp)))
  exact h

theorem Keeps.getVersion (t : Transport) : Keeps (execGetVersion t s) := by
  unfold execGetVersion
  exact h.spdm _ _

theorem Keeps.getCapabilities (t : Transport) : Keeps (execGetCapabilities t s) := by
  unfold execGetCapabilities
  exact h.spdm _ _

theorem Keeps.negotiateAlgorithms (t : Transport) (mldsa87 sha3 : Bool) : Keeps (execNegotiateAlgorithms t mldsa87 sha3 s) := by
  unfold execNegotiateAlgorithms
  exact h.spdm _ _

theorem Keeps.getDigests (t : Transport) : Keeps (execGetDigests t s) := by
  unfold execGetDigests
  exact h.spdm _ _

theorem Keeps.getCertificate (t : Transport) (slot offset length : Nat) : Keeps (execGetCertificate t slot offset length s) := by
  unfold execGetCertificate
  exact h.congr (by simp) (by simp)

theorem Keeps.challenge (t : Transport) (slot : Nat) (nonce : List Byte) : Keeps (execChallenge t slot nonce s) := by
  unfold execChallenge
  exact h.congr (by simp) (by simp)

theorem Keeps.getMeasurements (t : Transport) (index : Nat) (signed : Bool) (nonce : List Byte) :
    Keeps (execGetMeasurements t index signed nonce s) := by
  unfold execGetMeasurements
  dsimp only
  exact h.congr (by (repeat' split) <;> simp) (by (repeat' split) <;> simp)

theorem Keeps.doeAbort  : Keeps (execDoeAbort s) := by
  unfold execDoeAbort
  exact h

theorem Keeps.trngHealthFail  : Keeps (execTrngHealthFail s) := by
  unfold execTrngHealthFail
  exact h.congr (by simp) (by simp)

theorem Keeps.avdinWritePacket (port : Nat) (p : Packet) : Keeps (execAvdinWritePacket port p s) := by
  unfold execAvdinWritePacket
  exact .ite (h.packetIn _ _) h

theorem Keeps.avdinAnswerPacket (port : Nat) (p : Packet) : Keeps (execAvdinAnswerPacket port p s) := by
  unfold execAvdinAnswerPacket
  exact .ite (h.packetIn _ _) h

theorem Keeps.avdinControlPacket (port : Nat) (p : Packet) : Keeps (execAvdinControlPacket port p s) := by
  unfold execAvdinControlPacket
  exact .ite ((h.receive _ _).calm _) h

theorem Keeps.avdinMgmtPacket (port : Nat) (p : Packet) : Keeps (execAvdinMgmtPacket port p s) := by
  unfold execAvdinMgmtPacket
  extract_lets r t mine
  have hr : MemoriesCanonical r.1 := h.receive port p
  have ht : MemoriesCanonical t := by
    unfold t
    split
    · exact hr.modPort port _
    · exact hr
  clear_value t mine
  refine .ite h (.ite (hr.calm _) ?_)
  split
  · exact .ite (ht.congr (by simp) (by simp)) ht
  · exact .ite (ht.congr (by simp) (by simp)) ht
  · exact ht

theorem Keeps.brakeFlitReceive (port : Nat) : Keeps (execBrakeFlitReceive port s) := by
  unfold execBrakeFlitReceive
  exact .ite (h.portDown _ _ _) h

theorem Keeps.linkRetryTimeout (port : Nat) : Keeps (execLinkRetryTimeout port s) := by
  unfold execLinkRetryTimeout
  exact .ite (MemoriesCanonical.calm (h.congr (by simp) (by simp)) _) h

theorem Keeps.codewordLockLoss (port : Nat) : Keeps (execCodewordLockLoss port s) := by
  unfold execCodewordLockLoss
  dsimp only
  exact .ite ((h.modPort _ _).train _) h

theorem Keeps.linkTrainingDone (port : Nat) (result : TrainEnd) : Keeps (execLinkTrainingDone port result s) := by
  unfold execLinkTrainingDone
  dsimp only
  refine .ite h ?_
  split
  · exact h.congr (by simp) (by simp)
  · exact .ite ((h.modPort _ _).portDown _ _ _) ((h.modPort _ _).train _)

theorem Keeps.portRetryTimer (port : Nat) : Keeps (execPortRetryTimer port s) := by
  unfold execPortRetryTimer
  exact .ite (h.train _) h

theorem Keeps.berWindowEnd (port corrBits uncorrected : Nat) : Keeps (execBerWindowEnd port corrBits uncorrected s) := by
  unfold execBerWindowEnd
  exact h.congr (by simp) (by simp)

theorem Keeps.scrubRead (channel : Nat) (found : EccFind) : Keeps (execScrubRead channel found s) := by
  unfold execScrubRead
  dsimp only
  refine .ite h ?_
  exact (h.scrubFound channel found).congr rfl (by simp)

theorem Keeps.moduleTempRead (channel temp : Nat) : Keeps (execModuleTempRead channel temp s) := by
  unfold execModuleTempRead
  exact .ite (h.congr (by simp) (by simp)) h

theorem Keeps.deadlinePassed (fn ring tag : Nat) : Keeps (execDeadlinePassed fn ring tag s) := by
  unfold execDeadlinePassed
  split
  · exact h
  · refine .ite ?_ h
    extract_lets c q shown t
    have hs : MemoriesCanonical shown := h.snapshot _ _ _ _ _ _
    have ht : MemoriesCanonical t := MemoriesCanonical.modQuad (hs.congr (by simp) (by simp)) _ _
    clear_value t c
    split
    · exact ht.classify _
    · exact ht

theorem Keeps.snapshotSiteCapture (quad : Nat) : Keeps (execSnapshotSiteCapture quad s) := by
  unfold execSnapshotSiteCapture
  dsimp only
  refine .ite (MemoriesCanonical.drivenModes (MemoriesCanonical.setHolds (.foldl (fun u c hu => hu.emptyCtx c) _ ?_))) h
  exact h

theorem Keeps.engineResetDone (quad engine : Nat) : Keeps (execEngineResetDone quad engine s) := by
  unfold execEngineResetDone
  dsimp only
  exact h.congr (by (repeat' split) <;> simp) (by (repeat' split) <;> simp)

theorem Keeps.replayEnd (quad : Nat) : Keeps (execReplayEnd quad s) := by
  unfold execReplayEnd
  dsimp only
  split
  · exact .ite (h.replayOver _ _).setHolds h
  · exact h

theorem Keeps.lateResume (ctx : Nat) : Keeps (execLateResume ctx s) := by
  unfold execLateResume
  exact h.congr (by simp) (by simp)

theorem Keeps.hwCheckWatchEnd (site : Nat) : Keeps (execHwCheckWatchEnd site s) := by
  unfold execHwCheckWatchEnd
  dsimp only
  exact h.congr (by (repeat' split) <;> simp) (by (repeat' split) <;> simp)

theorem Keeps.dressWatchEnd (site item : Nat) : Keeps (execDressWatchEnd site item s) := by
  unfold execDressWatchEnd
  exact h.congr (by simp) (by simp)

theorem Keeps.diagnosisEnd (ctx : Nat) : Keeps (execDiagnosisEnd ctx s) := by
  unfold execDiagnosisEnd
  dsimp only
  split
  · exact h
  · exact .ite h (h.congr (by simp) (by simp))

theorem Keeps.replacementCopyDone (quad tile : Nat) (poisoned : List Nat) :
    Keeps (execReplacementCopyDone quad tile poisoned s) := by
  unfold execReplacementCopyDone
  split
  · exact h
  · next r _ =>
    extract_lets bad t done
    have hb : bad.wf = true :=
      foldl_keeps (fun m : Memory => m.wf = true) _ (fun m w hm => Memory.wf_mark _ _ _ hm) _ Memory.wf_cleared
    have ht : MemoriesCanonical t := h.modSite r.site (fun _ _ => hb)
    refine .ite h (MemoriesCanonical.stagePlacement ?_ _ _ _)
    clear_value t
    exact ht

theorem Keeps.quadResetDone (quad : Nat) (failed : List Nat) (found : List DefectFact) :
    Keeps (execQuadResetDone quad failed found s) := by
  unfold execQuadResetDone
  extract_lets z full bound listed a b d ddr e f fmod g fault cause hh hmod i
  have hl : MemoriesCanonical listed := .ite (.foldl (fun u x hu => hu.addDefect _ _) _ h) h
  have ha : MemoriesCanonical a := hl.applyDefects quad full
  have hb : MemoriesCanonical b := .ite (ha.retire _ _) ha
  have hd : MemoriesCanonical d := hb.modQuad _ _
  have he : MemoriesCanonical e := .ite hd hd
  have hf : MemoriesCanonical f := .ite (he.congr (by simp) (by simp)) he
  have hg : MemoriesCanonical g := hf.setMod _
  have hhh : MemoriesCanonical hh := .foldl (fun u c hu => hu.restoreCtx c _) _ hg
  have hi : MemoriesCanonical i := .ite (hhh.setMod _) hhh
  exact .ite h hi.setHolds.rewear

theorem Keeps.resetEscalate (level quad : Nat) : Keeps (execResetEscalate level quad s) := by
  unfold execResetEscalate
  dsimp only
  exact .ite h (.ite (.ite (h.quadReset _ _ _) h) (.ite (.ite (h.chipReset _) h) h))

theorem Keeps.qcHeartbeatMiss (quad : Nat) : Keeps (execQcHeartbeatMiss quad s) := by
  unfold execQcHeartbeatMiss
  dsimp only
  exact .ite ((MemoriesCanonical.snapshot (h.modQuad _ _) _ _ _ _ _ _).quadReset _ _ _) h

theorem Keeps.hubWatchdogExpire  : Keeps (execHubWatchdogExpire s) := by
  unfold execHubWatchdogExpire
  split
  · exact h.congr (by simp) (by simp)
  · exact h

theorem Keeps.cycleReqTimeout  : Keeps (execCycleReqTimeout s) := by
  unfold execCycleReqTimeout
  exact h.congr (by simp) (by simp)

theorem Keeps.broadcastReceipt (quad : Nat) (service : Bool) (incomplete : List Nat) :
    Keeps (execBroadcastReceipt quad service incomplete s) := by
  unfold execBroadcastReceipt
  exact h.congr (by simp) (by simp)

theorem Keeps.broadcastActivate (quad : Activation) : Keeps (execBroadcastActivate quad s) := by
  unfold execBroadcastActivate
  dsimp only
  exact .ite (.ite (h.modQuad _ _) (h.activate _ _)) h

theorem Keeps.wearDayEnd  : Keeps (execWearDayEnd s) := by
  unfold execWearDayEnd
  exact .ite (h.congr (by simp) (by simp)) h

theorem Keeps.wearLogWrite  : Keeps (execWearLogWrite s) := by
  unfold execWearLogWrite
  exact h

theorem Keeps.d3hotEntry (fn : Nat) : Keeps (execD3hotEntry fn s) := by
  unfold execD3hotEntry
  exact .ite (h.congr (by simp) (by simp)) h

theorem Keeps.marchPassDone (site : Nat) (ok : MarchEnd) : Keeps (execMarchPassDone site ok s) := by
  unfold execMarchPassDone
  dsimp only
  refine .ite h ?_
  split
  · exact h
  · exact MemoriesCanonical.watchItem (by exact h) _ _
  · have hc := h.confirm site 14 0
    split
    · exact hc
    · exact MemoriesCanonical.replaceSite (by exact hc) _ _

theorem Keeps.hubLockstep  : Keeps (execHubLockstep s) := by
  unfold execHubLockstep
  split
  · exact h.congr (by simp) (by simp)
  · exact h

/-- Every command keeps the memories canonical: the bundle commands through `MemoriesCanonical.issueAt`, every other one by
the lemma about it. -/
theorem keeps_exec (c : Instr) : Keeps (exec c s) := by
  cases c
  case turnBoundary => exact Keeps.turnBoundary h _ _
  case workWindowStart => exact Keeps.workWindowStart h
  case dressingWindowStart => exact Keeps.dressingWindowStart h
  case closeWindowStart => exact Keeps.closeWindowStart h _
  case dmaTokenCloseDeadline => exact Keeps.dmaTokenCloseDeadline h _ _
  case turnStep => exact Keeps.turnStep h _ _
  case holdoverEnter => exact Keeps.holdoverEnter h
  case masterKeyDiscard => exact Keeps.masterKeyDiscard h
  case turnMarkReceive => exact Keeps.turnMarkReceive h _ _
  case changeSetStaged => exact Keeps.changeSetStaged h _
  case changeSetApply => exact Keeps.changeSetApply h _
  case changeSetExpire => exact Keeps.changeSetExpire h _
  case governorStage => exact Keeps.governorStage h _
  case bankDrainDone => exact Keeps.bankDrainDone h _ _
  case bankDrainTimeout => exact Keeps.bankDrainTimeout h _ _
  case bundleFetch => exact Keeps.bundleFetch h _ _
  case waitExpire => exact Keeps.waitExpire h _ _
  case dmaDescriptorFetch => exact Keeps.dmaDescriptorFetch h _ _
  case dmaTransferDone => exact Keeps.dmaTransferDone h _ _ _ _
  case feedTiming => exact Keeps.feedTiming h _
  case steeringCycle => exact Keeps.steeringCycle h _ _ _
  case messageRelease => exact Keeps.messageRelease h _ _ _
  case pondSpill => exact Keeps.pondSpill h _ _ _
  case pondRefill => exact Keeps.pondRefill h _ _ _ _
  case pondRefillDone => exact Keeps.pondRefillDone h _ _ _
  case sluiceWriteArrival => exact Keeps.sluiceWriteArrival h _ _ _ _
  case sluiceWriteLand => exact Keeps.sluiceWriteLand h _ _ _
  case sluiceAnswerArrival => exact Keeps.sluiceAnswerArrival h _ _ _
  case batchFill => exact Keeps.batchFill h _
  case batchHeaderWrite => exact Keeps.batchHeaderWrite h _
  case inputWindowReadDone => exact Keeps.inputWindowReadDone h _ _
  case streamEntryFetchDone => exact Keeps.streamEntryFetchDone h _ _
  case pointerBlockArrival => exact Keeps.pointerBlockArrival h _ _ _
  case headraceSkip => exact Keeps.headraceSkip h _ _
  case unknownCommand => exact Keeps.unknownCommand h _ _
  case planLoad => rw [exec_planLoad]; exact Keeps.planLoad h _ _ _ _ _ _ _
  case planLoadDone => exact Keeps.planLoadDone h _
  case planUnload => exact Keeps.planUnload h _
  case planUnloadDone => exact Keeps.planUnloadDone h _
  case ctxAssign => exact Keeps.ctxAssign h _ _
  case cfgStageRemap => exact Keeps.cfgStageRemap h _ _ _
  case cfgStageReefRange => exact Keeps.cfgStageReefRange h _ _ _ _
  case cfgStageVouch => exact Keeps.cfgStageVouch h _ _ _
  case cfgStageAudit => exact Keeps.cfgStageAudit h _ _ _ _
  case cfgStageGeometry => exact Keeps.cfgStageGeometry h _ _ _ _ _
  case cfgCommit => exact Keeps.cfgCommit h _ _ _
  case weightDigest => exact Keeps.weightDigest h _ _
  case digestPassStart => exact Keeps.digestPassStart h
  case digestRegionDone => exact Keeps.digestRegionDone h _ _ _
  case ctxAbort => exact Keeps.ctxAbort h _
  case ctxAbortDone => exact Keeps.ctxAbortDone h _
  case ctxQuery => exact Keeps.ctxQuery h _
  case ctxStart => exact Keeps.ctxStart h _
  case ctxPause => exact Keeps.ctxPause h _
  case ctxResume => exact Keeps.ctxResume h _
  case ctxDrain => exact Keeps.ctxDrain h _ _
  case streamOpen => exact Keeps.streamOpen h _ _ _ _ _ _ _
  case streamStep => exact Keeps.streamStep h _ _ _ _ _ _ _ _ _
  case streamCancel => exact Keeps.streamCancel h _ _ _
  case streamTruncate => exact Keeps.streamTruncate h _ _ _ _
  case streamEvict => exact Keeps.streamEvict h _ _ _
  case streamEvictDone => exact Keeps.streamEvictDone h _
  case streamRestore => exact Keeps.streamRestore h _ _ _
  case streamRestoreDone => exact Keeps.streamRestoreDone h _ _
  case streamClose => exact Keeps.streamClose h _ _ _
  case streamQuery => exact Keeps.streamQuery h _ _
  case ringEnable => exact Keeps.ringEnable h _ _ _
  case ringDisable => exact Keeps.ringDisable h _ _ _
  case hostAllowanceWrite => exact Keeps.hostAllowanceWrite h _
  case resetReqQuadFast => exact Keeps.resetReqQuadFast h _ _
  case resetReqQuadFull => exact Keeps.resetReqQuadFull h _ _
  case resetReqChip => exact Keeps.resetReqChip h _
  case fwStage => exact Keeps.fwStage h _
  case ownerSet => exact Keeps.ownerSet h _
  case fwUpdateDone => exact Keeps.fwUpdateDone h _
  case registerWrite => exact Keeps.registerWrite h _ _ _ _
  case bar2Read => exact Keeps.bar2Read h _ _ _
  case bar2Write => exact Keeps.bar2Write h _ _ _ _
  case pfFlr => exact Keeps.pfFlr h
  case vfFlr => exact Keeps.vfFlr h _
  case hotReset => exact Keeps.hotReset h
  case pcieLinkDown => exact Keeps.pcieLinkDown h
  case d3hotToD0 => exact Keeps.d3hotToD0 h _
  case perstNRise => exact Keeps.perstNRise h
  case perstNFall => exact Keeps.perstNFall h
  case pwrEnRise => exact Keeps.pwrEnRise h _
  case powerUpComplete => exact Keeps.powerUpComplete h
  case powerSeqTimeout => exact Keeps.powerSeqTimeout h
  case pwrEnFall => exact Keeps.pwrEnFall h
  case thermtrip => exact Keeps.thermtrip h _
  case slotIdChange => exact Keeps.slotIdChange h _
  case memoryModuleInsert => exact Keeps.memoryModuleInsert h _ _
  case osfpCableInsert => exact Keeps.osfpCableInsert h _ _
  case osfpCableRemove => exact Keeps.osfpCableRemove h _
  case chipControllerStart => exact Keeps.chipControllerStart h _
  case ddrTrainingDone => exact Keeps.ddrTrainingDone h _ _
  case zeroingDone => exact Keeps.zeroingDone h _
  case fullDressingDone => exact Keeps.fullDressingDone h _ _
  case eFloorMeasured => exact Keeps.eFloorMeasured h _
  case readinessDecision => exact Keeps.readinessDecision h _ _
  case tempSample => exact Keeps.tempSample h _
  case brakePtrPoll => exact Keeps.brakePtrPoll h _ _ _
  case brakeRecordTimeout => exact Keeps.brakeRecordTimeout h
  case trayAllowanceSet => exact Keeps.trayAllowanceSet h _
  case pldmOwnerKey => exact Keeps.pldmOwnerKey h _
  case pldmFwUpdate => exact Keeps.pldmFwUpdate h _
  case romRecoveryUpdate => exact Keeps.romRecoveryUpdate h _
  case fabricManifestReceive => exact Keeps.fabricManifestReceive h _
  case manifestApply => exact Keeps.manifestApply h
  case returnNonce => exact Keeps.returnNonce h
  case returnNonceExpire => exact Keeps.returnNonceExpire h
  case returnUnlock => exact Keeps.returnUnlock h _
  case getVersion => exact Keeps.getVersion h _
  case getCapabilities => exact Keeps.getCapabilities h _
  case negotiateAlgorithms => exact Keeps.negotiateAlgorithms h _ _ _
  case getDigests => exact Keeps.getDigests h _
  case getCertificate => exact Keeps.getCertificate h _ _ _ _
  case challenge => exact Keeps.challenge h _ _ _
  case getMeasurements => exact Keeps.getMeasurements h _ _ _ _
  case doeAbort => exact Keeps.doeAbort h
  case trngHealthFail => exact Keeps.trngHealthFail h
  case avdinWritePacket => exact Keeps.avdinWritePacket h _ _
  case avdinAnswerPacket => exact Keeps.avdinAnswerPacket h _ _
  case avdinControlPacket => exact Keeps.avdinControlPacket h _ _
  case avdinMgmtPacket => exact Keeps.avdinMgmtPacket h _ _
  case brakeFlitReceive => exact Keeps.brakeFlitReceive h _
  case linkRetryTimeout => exact Keeps.linkRetryTimeout h _
  case codewordLockLoss => exact Keeps.codewordLockLoss h _
  case linkTrainingDone => exact Keeps.linkTrainingDone h _ _
  case portRetryTimer => exact Keeps.portRetryTimer h _
  case berWindowEnd => exact Keeps.berWindowEnd h _ _ _
  case scrubRead => exact Keeps.scrubRead h _ _
  case moduleTempRead => exact Keeps.moduleTempRead h _ _
  case deadlinePassed => exact Keeps.deadlinePassed h _ _ _
  case snapshotSiteCapture => exact Keeps.snapshotSiteCapture h _
  case engineResetDone => exact Keeps.engineResetDone h _ _
  case replayEnd => exact Keeps.replayEnd h _
  case lateResume => exact Keeps.lateResume h _
  case hwCheckWatchEnd => exact Keeps.hwCheckWatchEnd h _
  case dressWatchEnd => exact Keeps.dressWatchEnd h _ _
  case diagnosisEnd => exact Keeps.diagnosisEnd h _
  case replacementCopyDone => exact Keeps.replacementCopyDone h _ _ _
  case quadResetDone => exact Keeps.quadResetDone h _ _ _
  case resetEscalate => exact Keeps.resetEscalate h _ _
  case qcHeartbeatMiss => exact Keeps.qcHeartbeatMiss h _
  case hubWatchdogExpire => exact Keeps.hubWatchdogExpire h
  case cycleReqTimeout => exact Keeps.cycleReqTimeout h
  case broadcastReceipt => exact Keeps.broadcastReceipt h _ _ _
  case broadcastActivate => exact Keeps.broadcastActivate h _
  case wearDayEnd => exact Keeps.wearDayEnd h
  case wearLogWrite => exact Keeps.wearLogWrite h
  case d3hotEntry => exact Keeps.d3hotEntry h _
  case marchPassDone => exact Keeps.marchPassDone h _ _
  case hubLockstep => exact Keeps.hubLockstep h
  all_goals exact h.issueAt _ _ _
end

theorem keeps_step {s : State} (h : MemoriesCanonical s) : Keeps (step s) := by
  unfold step
  split
  · exact h.congr (by simp) (by simp)
  · exact keeps_exec (by exact h) _

end Sys2Proof.Machine

open Sys2Proof Sys2Proof.Machine

/-- Settles O59: `keeps_step`, read for the outcome `.next t`. -/
theorem stepsKeepMemoriesCanonical : Obligations.StepsKeepMemoriesCanonical := by
  unfold Obligations.StepsKeepMemoriesCanonical
  intro s t h e
  have hk := keeps_step h
  rw [e] at hk
  exact hk
end

section
/-! Proofs about where commands complete (O2). -/

namespace Sys2Proof.Machine

/-- A fetch issues a bundle, unless the bundle at the program counter is none that a plan may hold. -/
theorem State.fetchAt_completes (s : State) (i : Nat) (k : Checks) :
    (∃ t, s.fetchAt i k = .next t) ∨
      (s.fetchAt i k = .fault (.undefinedBundle i (s.site i).seq.pc) ∧
        ∀ b, decodeBundle (s.site i).fetched = some b → b.legal = false) := by
  unfold State.fetchAt
  dsimp only
  split
  · exact .inl ⟨_, rfl⟩
  · cases hb : decodeBundle (s.site i).fetched with
    | none => exact .inr ⟨rfl, fun b h => by cases h⟩
    | some b =>
      cases hl : b.legal with
      | true => exact .inl ⟨s.issueAt i b k, by simp [hl]⟩
      | false => exact .inr ⟨by simp [hl], fun b' h => by cases h; exact hl⟩

/-- Where a command completes, or what keeps it from completing. -/
def Completing (c : Instr) (s : State) : Prop :=
  (∃ t, exec c s = .next t) ∨
    (∃ i k, (c = .bundleFetch i k ∨ c = .waitExpire i k) ∧ exec c s = .fault (.undefinedBundle i (s.site i).seq.pc) ∧
      ∀ b, decodeBundle (s.site i).fetched = some b → b.legal = false) ∨
    ∃ ms, c = .pwrEnRise ms ∧ ms < 250 ∧ exec c s = .fault (.powerCycleTooShort ms)

theorem Completing.bundleFetch (i : Nat) (k : Checks) (s : State) : Completing (.bundleFetch i k) s := by
  rcases s.fetchAt_completes i k with h | h
  · exact .inl h
  · exact .inr (.inl ⟨i, k, .inl rfl, h⟩)

theorem Completing.waitExpire (i : Nat) (k : Checks) (s : State) : Completing (.waitExpire i k) s := by
  cases hw : (s.site i).seq.status with
  | waiting n =>
    have he : exec (.waitExpire i k) s = (s.modSite i Site.endWait).fetchAt i k := by simp [execWaitExpire, hw]
    have hs : (s.site i).endWait = { s.site i with seq := { (s.site i).seq with status := .running } } := by
      simp [Site.endWait, hw]
    have h := (s.modSite i Site.endWait).fetchAt_completes i k
    rw [← he, State.modSite, State.site_setSite_self, hs] at h
    rcases h with h | h
    · exact .inl h
    · exact .inr (.inl ⟨i, k, .inr rfl, h⟩)
  | _ => exact .inl ⟨s, by simp [execWaitExpire, hw]⟩

theorem Completing.pwrEnRise (ms : Nat) (s : State) : Completing (.pwrEnRise ms) s := by
  rw [Completing, exec_pwrEnRise]
  unfold execPwrEnRise
  split
  · exact .inl ⟨_, rfl⟩
  split
  · exact .inr (.inr ⟨ms, rfl, ‹_›, rfl⟩)
  · exact .inl ⟨_, rfl⟩

theorem Completing.steeringCycle (i c : Nat) (bad : Option Nat) (s : State) : Completing (.steeringCycle i c bad) s := by
  rw [Completing, exec_steeringCycle]
  unfold execSteeringCycle
  dsimp only
  split
  · exact .inl ⟨_, rfl⟩
  split <;> exact .inl ⟨_, rfl⟩

theorem Completing.all (c : Instr) (s : State) : Completing c s := by
  cases c
  case bundleFetch i k => exact .bundleFetch i k s
  case waitExpire i k => exact .waitExpire i k s
  case pwrEnRise ms => exact .pwrEnRise ms s
  case steeringCycle i c bad => exact .steeringCycle i c bad s
  all_goals exact .inl ⟨_, rfl⟩

/-- A tick moves the cycle on within its window and answers a DOE exchange; nothing else changes. -/
theorem State.tick_frame (s : State) :
    s.tick.turn.cycle = (if s.turn.running && decide (s.turn.cycle + 1 < s.turn.geom.windowEnd s.turn.window) then s.turn.cycle + 1
      else s.turn.cycle) ∧
    s.tick.turn.window = s.turn.window ∧ s.tick.turn.no = s.turn.no ∧ s.tick.sites = s.sites ∧ s.tick.ctxs = s.ctxs ∧
    s.tick.quads = s.quads ∧ s.tick.ddr = s.ddr ∧ s.tick.fns = s.fns := by
  unfold State.tick
  extract_lets g last sec t turn
  have ht : t = { s with out := t.out, sec := t.sec } := by
    unfold t
    split <;> rfl
  have hl : last = s.turn.geom.windowEnd s.turn.window := rfl
  clear_value t last
  subst hl
  generalize t.out = o, t.sec = x at ht
  subst ht
  by_cases hc : (s.turn.running && decide (s.turn.cycle + 1 < s.turn.geom.windowEnd s.turn.window)) = true
  · simp only [turn, if_pos hc, and_self]
  · simp only [if_neg hc, and_self]

end Sys2Proof.Machine

open Sys2Proof Sys2Proof.Machine

/-- Settles O2: `Completing.all` says where a command completes, `State.tick_frame` what the empty queue does. -/
theorem commandsComplete : Obligations.CommandsComplete := by
  unfold Obligations.CommandsComplete
  exact ⟨Completing.all, fun s hs => ⟨s.tick, by simp [step, hs], s.tick_frame⟩⟩

end

section
/-! Proofs about the encodings of the bundle slots (O3). A format is a list of fields; a slot value decodes to a format
exactly when its low bits spell the format's fields. -/

namespace Sys2Proof.Machine

/-! ### Lists of fields -/

/-- A field of an encoding: its width and its bits. -/
abbrev Field := (n : Nat) × BitVec n

/-- The width of a field list. -/
def packWidth : List Field → Nat
  | [] => 0
  | e :: t => e.1 + packWidth t

/-- The number that a field list, highest field first, spells. -/
def pack : List Field → Nat
  | [] => 0
  | e :: t => e.2.toNat * 2 ^ packWidth t + pack t

/-- A number holds a field list in its low bits, field by field. -/
def Holds (w : Nat) : List Field → Prop
  | [] => True
  | e :: t => w / 2 ^ packWidth t % 2 ^ e.1 = e.2.toNat ∧ Holds w t

theorem pack_lt (l : List Field) : pack l < 2 ^ packWidth l := by
  induction l with
  | nil => simp [pack, packWidth]
  | cons e t ih =>
    have := Nat.mul_le_mul_right (2 ^ packWidth t) e.2.isLt
    simp only [pack, packWidth, Nat.pow_add]
    linarith

/-- The low bits of a number spell a field list exactly when the number holds it. -/
theorem mod_eq_pack_iff (w : Nat) (l : List Field) : w % 2 ^ packWidth l = pack l ↔ Holds w l := by
  induction l with
  | nil => simp [pack, packWidth, Holds, Nat.mod_one]
  | cons e t ih =>
    have ht := pack_lt t
    rw [Holds, ← ih, packWidth, Nat.add_comm, Nat.pow_add, Nat.mod_mul, pack]
    generalize w / 2 ^ packWidth t % 2 ^ e.1 = a
    generalize 2 ^ packWidth t = k at *
    constructor
    · intro e1
      have h1 : (w % k + k * a) % k = (e.2.toNat * k + pack t) % k := by rw [e1]
      rw [Nat.add_mul_mod_self_left, Nat.mod_mod, Nat.add_comm, Nat.add_mul_mod_self_right, Nat.mod_eq_of_lt ht] at h1
      refine ⟨?_, h1⟩
      rw [h1, Nat.add_comm, Nat.add_right_cancel_iff, Nat.mul_comm] at e1
      exact Nat.eq_of_mul_eq_mul_right (by omega) e1
    · rintro ⟨h1, h2⟩
      rw [h1, h2, Nat.mul_comm, Nat.add_comm]

theorem bitsAt_eq_iff (w lo n : Nat) (b : BitVec n) : bitsAt w lo n = b ↔ w / 2 ^ lo % 2 ^ n = b.toNat := by
  rw [← BitVec.toNat_inj, bitsAt, BitVec.toNat_ofNat]

theorem zeroAt_iff (w lo n : Nat) : zeroAt w lo n = true ↔ w / 2 ^ lo % 2 ^ n = 0 := by
  simp [zeroAt, fld]

theorem maskAt_eq_iff (w : Nat) (m : VMask) :
    maskAt w = m ↔ w / 2 ^ 53 % 2 ^ 3 = m.mask.toNat ∧ w / 2 ^ 52 % 2 ^ 1 = m.minv.toNat := by
  cases m
  rw [maskAt, VMask.mk.injEq, bitsAt_eq_iff, bitsAt_eq_iff]

/-- A format of `k` bits: an encoder of its fields, and a decoder that reads them back and no others. -/
structure IsFormat {α : Type} (dec : Nat → Option α) (enc : α → Nat) (k : Nat) : Prop where
  enc_lt : ∀ f, enc f < 2 ^ k
  dec_iff : ∀ w f, dec w = some f ↔ w % 2 ^ k = enc f

/-- A decoder and an encoder of one field list make a format. -/
theorem isFormat_of_fields {α : Type} {dec : Nat → Option α} {enc : α → Nat} {k : Nat} (l : α → List Field)
    (hk : ∀ f, packWidth (l f) = k) (he : ∀ f, enc f = pack (l f)) (hd : ∀ w f, dec w = some f ↔ Holds w (l f)) :
    IsFormat dec enc k where
  enc_lt f := by rw [he, ← hk f]; exact pack_lt _
  dec_iff w f := by rw [hd, he, ← hk f, mod_eq_pack_iff]

section
variable {α : Type} {dec : Nat → Option α} {enc : α → Nat} {k : Nat} (h : IsFormat dec enc k)
include h

/-- What a format encodes under an opcode is read back. -/
theorem IsFormat.dec_op (n : Nat) (f : α) : dec (n * 2 ^ k + enc f) = some f := by
  rw [h.dec_iff, Nat.mul_comm, Nat.mul_add_mod, Nat.mod_eq_of_lt (h.enc_lt f)]

/-- The opcode over a format is read back. -/
theorem IsFormat.fld_op (n : Nat) (f : α) (hn : n < 2 ^ 8) : fld (n * 2 ^ k + enc f) k 8 = n := by
  rw [fld, Nat.mul_comm, Nat.mul_add_div (Nat.two_pow_pos k), Nat.div_eq_of_lt (h.enc_lt f), Nat.add_zero, Nat.mod_eq_of_lt hn]

theorem IsFormat.op_lt (n : Nat) (f : α) (hn : n < 2 ^ 8) : n * 2 ^ k + enc f < 2 ^ (k + 8) := by
  have := h.enc_lt f
  have := Nat.mul_le_mul_right (2 ^ k) (Nat.succ_le_of_lt hn)
  rw [Nat.pow_add]
  linarith

/-- A slot value is its opcode over the format that it decodes to. -/
theorem IsFormat.eq_of_dec {w : Nat} {f : α} (hw : w < 2 ^ (k + 8)) (hd : dec w = some f) : fld w k 8 * 2 ^ k + enc f = w := by
  have hq : w / 2 ^ k < 2 ^ 8 := Nat.div_lt_of_lt_mul (by rwa [← Nat.pow_add])
  rw [← (h.dec_iff w f).mp hd, fld, Nat.mod_eq_of_lt hq, Nat.div_add_mod']
end

/-! ### The formats: each is read exactly from its own fields -/

/-- The fields of format SR, reserved ones included. -/
def fieldsSR (f : FmtSR) : List Field :=
  [⟨4, f.g⟩, ⟨5, f.sd⟩, ⟨5, f.sa⟩, ⟨5, f.sb⟩, ⟨29, 0#29⟩]

theorem isFormat_SR : IsFormat decFmtSR encFmtSR 48 := by
  refine isFormat_of_fields fieldsSR (fun f => ?_) (fun f => ?_) (fun w f => ?_)
  · simp only [fieldsSR, packWidth, Nat.reduceAdd]
  · simp only [encFmtSR, fieldsSR, pack, packWidth, Nat.reduceAdd, BitVec.toNat_ofNat, Nat.zero_mod, 
      Nat.add_zero, Nat.pow_zero, Nat.mul_one, Nat.add_assoc]
  · cases f
    simp only [fieldsSR, Holds, packWidth, Nat.reduceAdd, BitVec.toNat_ofNat, Nat.zero_mod, decFmtSR, Option.ite_none_right_eq_some,
      Option.some_inj, FmtSR.mk.injEq, bitsAt_eq_iff, zeroAt_iff]
    tauto

/-- The fields of format SI, reserved ones included. -/
def fieldsSI (f : FmtSI) : List Field :=
  [⟨4, f.g⟩, ⟨5, f.sd⟩, ⟨5, f.sa⟩, ⟨2, 0#2⟩, ⟨32, f.imm⟩]

theorem isFormat_SI : IsFormat decFmtSI encFmtSI 48 := by
  refine isFormat_of_fields fieldsSI (fun f => ?_) (fun f => ?_) (fun w f => ?_)
  · simp only [fieldsSI, packWidth, Nat.reduceAdd]
  · simp only [encFmtSI, fieldsSI, pack, packWidth, Nat.reduceAdd, BitVec.toNat_ofNat, Nat.zero_mod, Nat.zero_mul,
      Nat.add_zero, Nat.zero_add, Nat.pow_zero, Nat.mul_one, Nat.add_assoc]
  · cases f
    simp only [fieldsSI, Holds, packWidth, Nat.reduceAdd, BitVec.toNat_ofNat, Nat.zero_mod, decFmtSI, Option.ite_none_right_eq_some,
      Option.some_inj, FmtSI.mk.injEq, bitsAt_eq_iff, zeroAt_iff]
    tauto

/-- The fields of format PC, reserved ones included. -/
def fieldsPC (f : FmtPC) : List Field :=
  [⟨4, f.g⟩, ⟨2, 0#2⟩, ⟨3, f.pd⟩, ⟨5, f.sa⟩, ⟨5, f.sb⟩, ⟨29, 0#29⟩]

theorem isFormat_PC : IsFormat decFmtPC encFmtPC 48 := by
  refine isFormat_of_fields fieldsPC (fun f => ?_) (fun f => ?_) (fun w f => ?_)
  · simp only [fieldsPC, packWidth, Nat.reduceAdd]
  · simp only [encFmtPC, fieldsPC, pack, packWidth, Nat.reduceAdd, BitVec.toNat_ofNat, Nat.zero_mod, Nat.zero_mul,
      Nat.add_zero, Nat.zero_add, Nat.pow_zero, Nat.mul_one, Nat.add_assoc]
  · cases f
    simp only [fieldsPC, Holds, packWidth, Nat.reduceAdd, BitVec.toNat_ofNat, Nat.zero_mod, decFmtPC, Option.ite_none_right_eq_some,
      Option.some_inj, FmtPC.mk.injEq, bitsAt_eq_iff, zeroAt_iff, Bool.and_eq_true]
    tauto

/-- The fields of format PCI, reserved ones included. -/
def fieldsPCI (f : FmtPCI) : List Field :=
  [⟨4, f.g⟩, ⟨2, 0#2⟩, ⟨3, f.pd⟩, ⟨5, f.sa⟩, ⟨2, 0#2⟩, ⟨32, f.imm⟩]

theorem isFormat_PCI : IsFormat decFmtPCI encFmtPCI 48 := by
  refine isFormat_of_fields fieldsPCI (fun f => ?_) (fun f => ?_) (fun w f => ?_)
  · simp only [fieldsPCI, packWidth, Nat.reduceAdd]
  · simp only [encFmtPCI, fieldsPCI, pack, packWidth, Nat.reduceAdd, BitVec.toNat_ofNat, Nat.zero_mod, Nat.zero_mul,
      Nat.add_zero, Nat.zero_add, Nat.pow_zero, Nat.mul_one, Nat.add_assoc]
  · cases f
    simp only [fieldsPCI, Holds, packWidth, Nat.reduceAdd, BitVec.toNat_ofNat, Nat.zero_mod, decFmtPCI, Option.ite_none_right_eq_some,
      Option.some_inj, FmtPCI.mk.injEq, bitsAt_eq_iff, zeroAt_iff, Bool.and_eq_true]
    tauto

/-- The fields of format PL, reserved ones included. -/
def fieldsPL (f : FmtPL) : List Field :=
  [⟨4, f.g⟩, ⟨2, 0#2⟩, ⟨3, f.pd⟩, ⟨2, 0#2⟩, ⟨3, f.pa⟩, ⟨1, f.na⟩, ⟨3, f.pb⟩, ⟨1, f.nb⟩, ⟨29, 0#29⟩]

theorem isFormat_PL : IsFormat decFmtPL encFmtPL 48 := by
  refine isFormat_of_fields fieldsPL (fun f => ?_) (fun f => ?_) (fun w f => ?_)
  · simp only [fieldsPL, packWidth, Nat.reduceAdd]
  · simp only [encFmtPL, fieldsPL, pack, packWidth, Nat.reduceAdd, BitVec.toNat_ofNat, Nat.zero_mod, Nat.zero_mul,
      Nat.add_zero, Nat.zero_add, Nat.pow_zero, Nat.mul_one, Nat.add_assoc]
  · cases f
    simp only [fieldsPL, Holds, packWidth, Nat.reduceAdd, BitVec.toNat_ofNat, Nat.zero_mod, decFmtPL, Option.ite_none_right_eq_some,
      Option.some_inj, FmtPL.mk.injEq, bitsAt_eq_iff, zeroAt_iff, Bool.and_eq_true]
    tauto

/-- The fields of format MK, reserved ones included. -/
def fieldsMK (f : FmtMK) : List Field :=
  [⟨4, f.g⟩, ⟨5, f.sd⟩, ⟨1, 0#1⟩, ⟨4, f.kn⟩, ⟨34, 0#34⟩]

theorem isFormat_MK : IsFormat decFmtMK encFmtMK 48 := by
  refine isFormat_of_fields fieldsMK (fun f => ?_) (fun f => ?_) (fun w f => ?_)
  · simp only [fieldsMK, packWidth, Nat.reduceAdd]
  · simp only [encFmtMK, fieldsMK, pack, packWidth, Nat.reduceAdd, BitVec.toNat_ofNat, Nat.zero_mod, Nat.zero_mul,
      Nat.add_zero, Nat.zero_add, Nat.pow_zero, Nat.mul_one, Nat.add_assoc]
  · cases f
    simp only [fieldsMK, Holds, packWidth, Nat.reduceAdd, BitVec.toNat_ofNat, Nat.zero_mod, decFmtMK, Option.ite_none_right_eq_some,
      Option.some_inj, FmtMK.mk.injEq, bitsAt_eq_iff, zeroAt_iff, Bool.and_eq_true]
    tauto

/-- The fields of format BR, reserved ones included. -/
def fieldsBR (f : FmtBR) : List Field :=
  [⟨4, f.g⟩, ⟨34, 0#34⟩, ⟨10, f.target⟩]

theorem isFormat_BR : IsFormat decFmtBR encFmtBR 48 := by
  refine isFormat_of_fields fieldsBR (fun f => ?_) (fun f => ?_) (fun w f => ?_)
  · simp only [fieldsBR, packWidth, Nat.reduceAdd]
  · simp only [encFmtBR, fieldsBR, pack, packWidth, Nat.reduceAdd, BitVec.toNat_ofNat, Nat.zero_mod, Nat.zero_mul,
      Nat.add_zero, Nat.zero_add, Nat.pow_zero, Nat.mul_one]
  · cases f
    simp only [fieldsBR, Holds, packWidth, Nat.reduceAdd, BitVec.toNat_ofNat, Nat.zero_mod, decFmtBR, Option.ite_none_right_eq_some,
      Option.some_inj, FmtBR.mk.injEq, bitsAt_eq_iff, zeroAt_iff]
    tauto

/-- The fields of format JR, reserved ones included. -/
def fieldsJR (f : FmtJR) : List Field :=
  [⟨4, f.g⟩, ⟨5, 0#5⟩, ⟨5, f.sa⟩, ⟨34, 0#34⟩]

theorem isFormat_JR : IsFormat decFmtJR encFmtJR 48 := by
  refine isFormat_of_fields fieldsJR (fun f => ?_) (fun f => ?_) (fun w f => ?_)
  · simp only [fieldsJR, packWidth, Nat.reduceAdd]
  · simp only [encFmtJR, fieldsJR, pack, packWidth, Nat.reduceAdd, BitVec.toNat_ofNat, Nat.zero_mod, Nat.zero_mul,
      Nat.add_zero, Nat.zero_add, Nat.pow_zero, Nat.mul_one]
  · cases f
    simp only [fieldsJR, Holds, packWidth, Nat.reduceAdd, BitVec.toNat_ofNat, Nat.zero_mod, decFmtJR, Option.ite_none_right_eq_some,
      Option.some_inj, FmtJR.mk.injEq, bitsAt_eq_iff, zeroAt_iff, Bool.and_eq_true]
    tauto

/-- The fields of format LP, reserved ones included. -/
def fieldsLP (f : FmtLP) : List Field :=
  [⟨4, f.g⟩, ⟨4, f.kn⟩, ⟨1, 0#1⟩, ⟨5, f.sa⟩, ⟨24, 0#24⟩, ⟨10, f.end_⟩]

theorem isFormat_LP : IsFormat decFmtLP encFmtLP 48 := by
  refine isFormat_of_fields fieldsLP (fun f => ?_) (fun f => ?_) (fun w f => ?_)
  · simp only [fieldsLP, packWidth, Nat.reduceAdd]
  · simp only [encFmtLP, fieldsLP, pack, packWidth, Nat.reduceAdd, BitVec.toNat_ofNat, Nat.zero_mod, Nat.zero_mul,
      Nat.add_zero, Nat.zero_add, Nat.pow_zero, Nat.mul_one, Nat.add_assoc]
  · cases f
    simp only [fieldsLP, Holds, packWidth, Nat.reduceAdd, BitVec.toNat_ofNat, Nat.zero_mod, decFmtLP, Option.ite_none_right_eq_some,
      Option.some_inj, FmtLP.mk.injEq, bitsAt_eq_iff, zeroAt_iff, Bool.and_eq_true]
    tauto

/-- The fields of format LI, reserved ones included. -/
def fieldsLI (f : FmtLI) : List Field :=
  [⟨4, f.g⟩, ⟨4, f.kn⟩, ⟨6, 0#6⟩, ⟨20, f.count⟩, ⟨4, 0#4⟩, ⟨10, f.end_⟩]

theorem isFormat_LI : IsFormat decFmtLI encFmtLI 48 := by
  refine isFormat_of_fields fieldsLI (fun f => ?_) (fun f => ?_) (fun w f => ?_)
  · simp only [fieldsLI, packWidth, Nat.reduceAdd]
  · simp only [encFmtLI, fieldsLI, pack, packWidth, Nat.reduceAdd, BitVec.toNat_ofNat, Nat.zero_mod, Nat.zero_mul,
      Nat.add_zero, Nat.zero_add, Nat.pow_zero, Nat.mul_one, Nat.add_assoc]
  · cases f
    simp only [fieldsLI, Holds, packWidth, Nat.reduceAdd, BitVec.toNat_ofNat, Nat.zero_mod, decFmtLI, Option.ite_none_right_eq_some,
      Option.some_inj, FmtLI.mk.injEq, bitsAt_eq_iff, zeroAt_iff, Bool.and_eq_true]
    tauto

/-- The fields of format SW, reserved ones included. -/
def fieldsSW (f : FmtSW) : List Field :=
  [⟨4, f.g⟩, ⟨2, f.slot⟩, ⟨32, 0#32⟩, ⟨10, f.entry⟩]

theorem isFormat_SW : IsFormat decFmtSW encFmtSW 48 := by
  refine isFormat_of_fields fieldsSW (fun f => ?_) (fun f => ?_) (fun w f => ?_)
  · simp only [fieldsSW, packWidth, Nat.reduceAdd]
  · simp only [encFmtSW, fieldsSW, pack, packWidth, Nat.reduceAdd, BitVec.toNat_ofNat, Nat.zero_mod, Nat.zero_mul,
      Nat.add_zero, Nat.zero_add, Nat.pow_zero, Nat.mul_one, Nat.add_assoc]
  · cases f
    simp only [fieldsSW, Holds, packWidth, Nat.reduceAdd, BitVec.toNat_ofNat, Nat.zero_mod, decFmtSW, Option.ite_none_right_eq_some,
      Option.some_inj, FmtSW.mk.injEq, bitsAt_eq_iff, zeroAt_iff]
    tauto

/-- The fields of format RL, reserved ones included. -/
def fieldsRL (f : FmtRL) : List Field :=
  [⟨4, f.g⟩, ⟨2, f.slot⟩, ⟨5, f.bank⟩, ⟨10, f.trailer⟩, ⟨27, 0#27⟩]

theorem isFormat_RL : IsFormat decFmtRL encFmtRL 48 := by
  refine isFormat_of_fields fieldsRL (fun f => ?_) (fun f => ?_) (fun w f => ?_)
  · simp only [fieldsRL, packWidth, Nat.reduceAdd]
  · simp only [encFmtRL, fieldsRL, pack, packWidth, Nat.reduceAdd, BitVec.toNat_ofNat, Nat.zero_mod, 
      Nat.add_zero, Nat.pow_zero, Nat.mul_one, Nat.add_assoc]
  · cases f
    simp only [fieldsRL, Holds, packWidth, Nat.reduceAdd, BitVec.toNat_ofNat, Nat.zero_mod, decFmtRL, Option.ite_none_right_eq_some,
      Option.some_inj, FmtRL.mk.injEq, bitsAt_eq_iff, zeroAt_iff]
    tauto

/-- The fields of format OW, reserved ones included. -/
def fieldsOW (f : FmtOW) : List Field :=
  [⟨4, f.g⟩, ⟨23, 0#23⟩, ⟨5, f.first⟩, ⟨2, 0#2⟩, ⟨6, f.count⟩, ⟨6, 0#6⟩, ⟨2, f.code⟩]

theorem isFormat_OW : IsFormat decFmtOW encFmtOW 48 := by
  refine isFormat_of_fields fieldsOW (fun f => ?_) (fun f => ?_) (fun w f => ?_)
  · simp only [fieldsOW, packWidth, Nat.reduceAdd]
  · simp only [encFmtOW, fieldsOW, pack, packWidth, Nat.reduceAdd, BitVec.toNat_ofNat, Nat.zero_mod, Nat.zero_mul,
      Nat.add_zero, Nat.zero_add, Nat.pow_zero, Nat.mul_one, Nat.add_assoc]
  · cases f
    simp only [fieldsOW, Holds, packWidth, Nat.reduceAdd, BitVec.toNat_ofNat, Nat.zero_mod, decFmtOW, Option.ite_none_right_eq_some,
      Option.some_inj, FmtOW.mk.injEq, bitsAt_eq_iff, zeroAt_iff, Bool.and_eq_true]
    tauto

/-- The fields of format CY, reserved ones included. -/
def fieldsCY (f : FmtCY) : List Field :=
  [⟨4, f.g⟩, ⟨24, 0#24⟩, ⟨20, f.n⟩]

theorem isFormat_CY : IsFormat decFmtCY encFmtCY 48 := by
  refine isFormat_of_fields fieldsCY (fun f => ?_) (fun f => ?_) (fun w f => ?_)
  · simp only [fieldsCY, packWidth, Nat.reduceAdd]
  · simp only [encFmtCY, fieldsCY, pack, packWidth, Nat.reduceAdd, BitVec.toNat_ofNat, Nat.zero_mod, Nat.zero_mul,
      Nat.add_zero, Nat.zero_add, Nat.pow_zero, Nat.mul_one]
  · cases f
    simp only [fieldsCY, Holds, packWidth, Nat.reduceAdd, BitVec.toNat_ofNat, Nat.zero_mod, decFmtCY, Option.ite_none_right_eq_some,
      Option.some_inj, FmtCY.mk.injEq, bitsAt_eq_iff, zeroAt_iff]
    tauto

/-- The fields of format SV, reserved ones included. -/
def fieldsSV (f : FmtSV) : List Field :=
  [⟨4, f.g⟩, ⟨2, f.dq⟩, ⟨9, f.dtile⟩, ⟨2, f.hop⟩, ⟨3, f.len⟩, ⟨5, f.vsrc⟩, ⟨8, f.tag⟩, ⟨15, 0#15⟩]

theorem isFormat_SV : IsFormat decFmtSV encFmtSV 48 := by
  refine isFormat_of_fields fieldsSV (fun f => ?_) (fun f => ?_) (fun w f => ?_)
  · simp only [fieldsSV, packWidth, Nat.reduceAdd]
  · simp only [encFmtSV, fieldsSV, pack, packWidth, Nat.reduceAdd, BitVec.toNat_ofNat, Nat.zero_mod, 
      Nat.add_zero, Nat.pow_zero, Nat.mul_one, Nat.add_assoc]
  · cases f
    simp only [fieldsSV, Holds, packWidth, Nat.reduceAdd, BitVec.toNat_ofNat, Nat.zero_mod, decFmtSV, Option.ite_none_right_eq_some,
      Option.some_inj, FmtSV.mk.injEq, bitsAt_eq_iff, zeroAt_iff]
    tauto

/-- The fields of format SS, reserved ones included. -/
def fieldsSS (f : FmtSS) : List Field :=
  [⟨4, f.g⟩, ⟨2, f.dq⟩, ⟨9, f.dtile⟩, ⟨2, f.hop⟩, ⟨3, 0#3⟩, ⟨5, f.ssrc⟩, ⟨8, f.tag⟩, ⟨15, 0#15⟩]

theorem isFormat_SS : IsFormat decFmtSS encFmtSS 48 := by
  refine isFormat_of_fields fieldsSS (fun f => ?_) (fun f => ?_) (fun w f => ?_)
  · simp only [fieldsSS, packWidth, Nat.reduceAdd]
  · simp only [encFmtSS, fieldsSS, pack, packWidth, Nat.reduceAdd, BitVec.toNat_ofNat, Nat.zero_mod, Nat.zero_mul,
      Nat.add_zero, Nat.zero_add, Nat.pow_zero, Nat.mul_one, Nat.add_assoc]
  · cases f
    simp only [fieldsSS, Holds, packWidth, Nat.reduceAdd, BitVec.toNat_ofNat, Nat.zero_mod, decFmtSS, Option.ite_none_right_eq_some,
      Option.some_inj, FmtSS.mk.injEq, bitsAt_eq_iff, zeroAt_iff, Bool.and_eq_true]
    tauto

/-- The fields of format MV, reserved ones included. -/
def fieldsMV (f : FmtMV) : List Field :=
  [⟨4, f.g⟩, ⟨6, f.group⟩, ⟨5, 0#5⟩, ⟨2, f.hop⟩, ⟨3, f.len⟩, ⟨5, f.vsrc⟩, ⟨8, f.tag⟩, ⟨15, 0#15⟩]

theorem isFormat_MV : IsFormat decFmtMV encFmtMV 48 := by
  refine isFormat_of_fields fieldsMV (fun f => ?_) (fun f => ?_) (fun w f => ?_)
  · simp only [fieldsMV, packWidth, Nat.reduceAdd]
  · simp only [encFmtMV, fieldsMV, pack, packWidth, Nat.reduceAdd, BitVec.toNat_ofNat, Nat.zero_mod, Nat.zero_mul,
      Nat.add_zero, Nat.zero_add, Nat.pow_zero, Nat.mul_one, Nat.add_assoc]
  · cases f
    simp only [fieldsMV, Holds, packWidth, Nat.reduceAdd, BitVec.toNat_ofNat, Nat.zero_mod, decFmtMV, Option.ite_none_right_eq_some,
      Option.some_inj, FmtMV.mk.injEq, bitsAt_eq_iff, zeroAt_iff, Bool.and_eq_true]
    tauto

/-- The fields of format RV, reserved ones included. -/
def fieldsRV (f : FmtRV) : List Field :=
  [⟨4, f.g⟩, ⟨5, f.d⟩, ⟨5, f.sst⟩, ⟨2, f.hop⟩, ⟨32, 0#32⟩]

theorem isFormat_RV : IsFormat decFmtRV encFmtRV 48 := by
  refine isFormat_of_fields fieldsRV (fun f => ?_) (fun f => ?_) (fun w f => ?_)
  · simp only [fieldsRV, packWidth, Nat.reduceAdd]
  · simp only [encFmtRV, fieldsRV, pack, packWidth, Nat.reduceAdd, BitVec.toNat_ofNat, Nat.zero_mod, 
      Nat.add_zero, Nat.pow_zero, Nat.mul_one, Nat.add_assoc]
  · cases f
    simp only [fieldsRV, Holds, packWidth, Nat.reduceAdd, BitVec.toNat_ofNat, Nat.zero_mod, decFmtRV, Option.ite_none_right_eq_some,
      Option.some_inj, FmtRV.mk.injEq, bitsAt_eq_iff, zeroAt_iff]
    tauto

/-- The fields of format TP, reserved ones included. -/
def fieldsTP (f : FmtTP) : List Field :=
  [⟨4, f.g⟩, ⟨2, f.tq⟩, ⟨3, 0#3⟩, ⟨5, f.sa⟩, ⟨34, 0#34⟩]

theorem isFormat_TP : IsFormat decFmtTP encFmtTP 48 := by
  refine isFormat_of_fields fieldsTP (fun f => ?_) (fun f => ?_) (fun w f => ?_)
  · simp only [fieldsTP, packWidth, Nat.reduceAdd]
  · simp only [encFmtTP, fieldsTP, pack, packWidth, Nat.reduceAdd, BitVec.toNat_ofNat, Nat.zero_mod, Nat.zero_mul,
      Nat.add_zero, Nat.zero_add, Nat.pow_zero, Nat.mul_one, Nat.add_assoc]
  · cases f
    simp only [fieldsTP, Holds, packWidth, Nat.reduceAdd, BitVec.toNat_ofNat, Nat.zero_mod, decFmtTP, Option.ite_none_right_eq_some,
      Option.some_inj, FmtTP.mk.injEq, bitsAt_eq_iff, zeroAt_iff, Bool.and_eq_true]
    tauto

/-- The fields of format TI, reserved ones included. -/
def fieldsTI (f : FmtTI) : List Field :=
  [⟨4, f.g⟩, ⟨2, f.tq⟩, ⟨10, 0#10⟩, ⟨32, f.imm⟩]

theorem isFormat_TI : IsFormat decFmtTI encFmtTI 48 := by
  refine isFormat_of_fields fieldsTI (fun f => ?_) (fun f => ?_) (fun w f => ?_)
  · simp only [fieldsTI, packWidth, Nat.reduceAdd]
  · simp only [encFmtTI, fieldsTI, pack, packWidth, Nat.reduceAdd, BitVec.toNat_ofNat, Nat.zero_mod, Nat.zero_mul,
      Nat.add_zero, Nat.zero_add, Nat.pow_zero, Nat.mul_one, Nat.add_assoc]
  · cases f
    simp only [fieldsTI, Holds, packWidth, Nat.reduceAdd, BitVec.toNat_ofNat, Nat.zero_mod, decFmtTI, Option.ite_none_right_eq_some,
      Option.some_inj, FmtTI.mk.injEq, bitsAt_eq_iff, zeroAt_iff]
    tauto

/-- The fields of format TO, reserved ones included. -/
def fieldsTO (f : FmtTO) : List Field :=
  [⟨4, f.g⟩, ⟨5, f.sd⟩, ⟨5, 0#5⟩, ⟨2, f.tq⟩, ⟨32, 0#32⟩]

theorem isFormat_TO : IsFormat decFmtTO encFmtTO 48 := by
  refine isFormat_of_fields fieldsTO (fun f => ?_) (fun f => ?_) (fun w f => ?_)
  · simp only [fieldsTO, packWidth, Nat.reduceAdd]
  · simp only [encFmtTO, fieldsTO, pack, packWidth, Nat.reduceAdd, BitVec.toNat_ofNat, Nat.zero_mod, Nat.zero_mul,
      Nat.add_zero, Nat.zero_add, Nat.pow_zero, Nat.mul_one, Nat.add_assoc]
  · cases f
    simp only [fieldsTO, Holds, packWidth, Nat.reduceAdd, BitVec.toNat_ofNat, Nat.zero_mod, decFmtTO, Option.ite_none_right_eq_some,
      Option.some_inj, FmtTO.mk.injEq, bitsAt_eq_iff, zeroAt_iff, Bool.and_eq_true]
    tauto

/-- The fields of format DM, reserved ones included. -/
def fieldsDM (f : FmtDM) : List Field :=
  [⟨4, f.g⟩, ⟨8, f.desc⟩, ⟨5, f.sa⟩, ⟨5, f.sb⟩, ⟨26, 0#26⟩]

theorem isFormat_DM : IsFormat decFmtDM encFmtDM 48 := by
  refine isFormat_of_fields fieldsDM (fun f => ?_) (fun f => ?_) (fun w f => ?_)
  · simp only [fieldsDM, packWidth, Nat.reduceAdd]
  · simp only [encFmtDM, fieldsDM, pack, packWidth, Nat.reduceAdd, BitVec.toNat_ofNat, Nat.zero_mod, 
      Nat.add_zero, Nat.pow_zero, Nat.mul_one, Nat.add_assoc]
  · cases f
    simp only [fieldsDM, Holds, packWidth, Nat.reduceAdd, BitVec.toNat_ofNat, Nat.zero_mod, decFmtDM, Option.ite_none_right_eq_some,
      Option.some_inj, FmtDM.mk.injEq, bitsAt_eq_iff, zeroAt_iff]
    tauto

/-- The fields of format MW, reserved ones included. -/
def fieldsMW (f : FmtMW) : List Field :=
  [⟨4, f.g⟩, ⟨1, f.wb⟩, ⟨3, f.fmt⟩, ⟨5, f.sa⟩, ⟨19, 0#19⟩]

theorem isFormat_MW : IsFormat decFmtMW encFmtMW 32 := by
  refine isFormat_of_fields fieldsMW (fun f => ?_) (fun f => ?_) (fun w f => ?_)
  · simp only [fieldsMW, packWidth, Nat.reduceAdd]
  · simp only [encFmtMW, fieldsMW, pack, packWidth, Nat.reduceAdd, BitVec.toNat_ofNat, Nat.zero_mod, 
      Nat.add_zero, Nat.pow_zero, Nat.mul_one, Nat.add_assoc]
  · cases f
    simp only [fieldsMW, Holds, packWidth, Nat.reduceAdd, BitVec.toNat_ofNat, Nat.zero_mod, decFmtMW, Option.ite_none_right_eq_some,
      Option.some_inj, FmtMW.mk.injEq, bitsAt_eq_iff, zeroAt_iff]
    tauto

/-- The fields of format MF, reserved ones included. -/
def fieldsMF (f : FmtMF) : List Field :=
  [⟨4, f.g⟩, ⟨1, 0#1⟩, ⟨3, f.fmt⟩, ⟨5, f.sa⟩, ⟨5, f.sb⟩, ⟨9, f.n⟩, ⟨5, 0#5⟩]

theorem isFormat_MF : IsFormat decFmtMF encFmtMF 32 := by
  refine isFormat_of_fields fieldsMF (fun f => ?_) (fun f => ?_) (fun w f => ?_)
  · simp only [fieldsMF, packWidth, Nat.reduceAdd]
  · simp only [encFmtMF, fieldsMF, pack, packWidth, Nat.reduceAdd, BitVec.toNat_ofNat, Nat.zero_mod, Nat.zero_mul,
      Nat.add_zero, Nat.zero_add, Nat.pow_zero, Nat.mul_one, Nat.add_assoc]
  · cases f
    simp only [fieldsMF, Holds, packWidth, Nat.reduceAdd, BitVec.toNat_ofNat, Nat.zero_mod, decFmtMF, Option.ite_none_right_eq_some,
      Option.some_inj, FmtMF.mk.injEq, bitsAt_eq_iff, zeroAt_iff, Bool.and_eq_true]
    tauto

/-- The fields of format MM, reserved ones included. -/
def fieldsMM (f : FmtMM) : List Field :=
  [⟨4, f.g⟩, ⟨1, f.wb⟩, ⟨1, f.mode⟩, ⟨2, 0#2⟩, ⟨9, f.row0⟩, ⟨15, 0#15⟩]

theorem isFormat_MM : IsFormat decFmtMM encFmtMM 32 := by
  refine isFormat_of_fields fieldsMM (fun f => ?_) (fun f => ?_) (fun w f => ?_)
  · simp only [fieldsMM, packWidth, Nat.reduceAdd]
  · simp only [encFmtMM, fieldsMM, pack, packWidth, Nat.reduceAdd, BitVec.toNat_ofNat, Nat.zero_mod, Nat.zero_mul,
      Nat.add_zero, Nat.zero_add, Nat.pow_zero, Nat.mul_one, Nat.add_assoc]
  · cases f
    simp only [fieldsMM, Holds, packWidth, Nat.reduceAdd, BitVec.toNat_ofNat, Nat.zero_mod, decFmtMM, Option.ite_none_right_eq_some,
      Option.some_inj, FmtMM.mk.injEq, bitsAt_eq_iff, zeroAt_iff, Bool.and_eq_true]
    tauto

/-- The fields of format V3, reserved ones included. -/
def fieldsV3 (f : FmtV3) : List Field :=
  [⟨3, f.m.mask⟩, ⟨1, f.m.minv⟩, ⟨5, f.vd⟩, ⟨5, f.va⟩, ⟨5, f.vb⟩, ⟨5, f.vc⟩, ⟨1, f.bs⟩, ⟨1, f.cs⟩, ⟨30, 0#30⟩]

theorem isFormat_V3 : IsFormat decFmtV3 encFmtV3 56 := by
  refine isFormat_of_fields fieldsV3 (fun f => ?_) (fun f => ?_) (fun w f => ?_)
  · simp only [fieldsV3, packWidth, Nat.reduceAdd]
  · simp only [encFmtV3, encMask, fieldsV3, pack, packWidth, Nat.reduceAdd, BitVec.toNat_ofNat, Nat.zero_mod, 
      Nat.add_zero, Nat.pow_zero, Nat.mul_one, Nat.add_assoc]
  · cases f
    simp only [fieldsV3, Holds, packWidth, Nat.reduceAdd, BitVec.toNat_ofNat, Nat.zero_mod, decFmtV3, Option.ite_none_right_eq_some,
      Option.some_inj, FmtV3.mk.injEq, bitsAt_eq_iff, zeroAt_iff, maskAt_eq_iff]
    tauto

/-- The fields of format VI, reserved ones included. -/
def fieldsVI (f : FmtVI) : List Field :=
  [⟨3, f.m.mask⟩, ⟨1, f.m.minv⟩, ⟨5, f.vd⟩, ⟨5, f.va⟩, ⟨10, 0#10⟩, ⟨32, f.imm⟩]

theorem isFormat_VI : IsFormat decFmtVI encFmtVI 56 := by
  refine isFormat_of_fields fieldsVI (fun f => ?_) (fun f => ?_) (fun w f => ?_)
  · simp only [fieldsVI, packWidth, Nat.reduceAdd]
  · simp only [encFmtVI, encMask, fieldsVI, pack, packWidth, Nat.reduceAdd, BitVec.toNat_ofNat, Nat.zero_mod, Nat.zero_mul,
      Nat.add_zero, Nat.zero_add, Nat.pow_zero, Nat.mul_one, Nat.add_assoc]
  · cases f
    simp only [fieldsVI, Holds, packWidth, Nat.reduceAdd, BitVec.toNat_ofNat, Nat.zero_mod, decFmtVI, Option.ite_none_right_eq_some,
      Option.some_inj, FmtVI.mk.injEq, bitsAt_eq_iff, zeroAt_iff, maskAt_eq_iff]
    tauto

/-- The fields of format VA, reserved ones included. -/
def fieldsVA (f : FmtVA) : List Field :=
  [⟨3, f.m.mask⟩, ⟨1, f.m.minv⟩, ⟨5, f.vd⟩, ⟨9, f.row⟩, ⟨5, f.vb⟩, ⟨5, f.vc⟩, ⟨1, f.bs⟩, ⟨1, f.cs⟩, ⟨26, 0#26⟩]

theorem isFormat_VA : IsFormat decFmtVA encFmtVA 56 := by
  refine isFormat_of_fields fieldsVA (fun f => ?_) (fun f => ?_) (fun w f => ?_)
  · simp only [fieldsVA, packWidth, Nat.reduceAdd]
  · simp only [encFmtVA, encMask, fieldsVA, pack, packWidth, Nat.reduceAdd, BitVec.toNat_ofNat, Nat.zero_mod, 
      Nat.add_zero, Nat.pow_zero, Nat.mul_one, Nat.add_assoc]
  · cases f
    simp only [fieldsVA, Holds, packWidth, Nat.reduceAdd, BitVec.toNat_ofNat, Nat.zero_mod, decFmtVA, Option.ite_none_right_eq_some,
      Option.some_inj, FmtVA.mk.injEq, bitsAt_eq_iff, zeroAt_iff, maskAt_eq_iff]
    tauto

/-- The fields of format VU, reserved ones included. -/
def fieldsVU (f : FmtVU) : List Field :=
  [⟨3, f.m.mask⟩, ⟨1, f.m.minv⟩, ⟨5, f.vd⟩, ⟨5, f.va⟩, ⟨2, 0#2⟩, ⟨3, f.fmt⟩, ⟨37, 0#37⟩]

theorem isFormat_VU : IsFormat decFmtVU encFmtVU 56 := by
  refine isFormat_of_fields fieldsVU (fun f => ?_) (fun f => ?_) (fun w f => ?_)
  · simp only [fieldsVU, packWidth, Nat.reduceAdd]
  · simp only [encFmtVU, encMask, fieldsVU, pack, packWidth, Nat.reduceAdd, BitVec.toNat_ofNat, Nat.zero_mod, Nat.zero_mul,
      Nat.add_zero, Nat.zero_add, Nat.pow_zero, Nat.mul_one, Nat.add_assoc]
  · cases f
    simp only [fieldsVU, Holds, packWidth, Nat.reduceAdd, BitVec.toNat_ofNat, Nat.zero_mod, decFmtVU, Option.ite_none_right_eq_some,
      Option.some_inj, FmtVU.mk.injEq, bitsAt_eq_iff, zeroAt_iff, maskAt_eq_iff, Bool.and_eq_true]
    tauto

/-- The fields of format OC, reserved ones included. -/
def fieldsOC (f : FmtOC) : List Field :=
  [⟨3, f.m.mask⟩, ⟨1, f.m.minv⟩, ⟨5, f.vd⟩, ⟨1, f.as⟩, ⟨9, f.src⟩, ⟨5, f.vsc⟩, ⟨5, f.vbi⟩, ⟨5, f.scl⟩, ⟨3, f.fmt⟩,
    ⟨1, f.sat⟩, ⟨1, f.clip⟩, ⟨1, f.ssc⟩, ⟨1, f.sbi⟩, ⟨2, f.qsel⟩, ⟨1, f.itype⟩, ⟨12, 0#12⟩]

theorem isFormat_OC : IsFormat decFmtOC encFmtOC 56 := by
  refine isFormat_of_fields fieldsOC (fun f => ?_) (fun f => ?_) (fun w f => ?_)
  · simp only [fieldsOC, packWidth, Nat.reduceAdd]
  · simp only [encFmtOC, encMask, fieldsOC, pack, packWidth, Nat.reduceAdd, BitVec.toNat_ofNat, Nat.zero_mod, 
      Nat.add_zero, Nat.pow_zero, Nat.mul_one, Nat.add_assoc]
  · cases f
    simp only [fieldsOC, Holds, packWidth, Nat.reduceAdd, BitVec.toNat_ofNat, Nat.zero_mod, decFmtOC, Option.ite_none_right_eq_some,
      Option.some_inj, FmtOC.mk.injEq, bitsAt_eq_iff, zeroAt_iff, maskAt_eq_iff]
    tauto

/-- The fields of format VC, reserved ones included. -/
def fieldsVC (f : FmtVC) : List Field :=
  [⟨3, f.m.mask⟩, ⟨1, f.m.minv⟩, ⟨3, f.vmd⟩, ⟨2, 0#2⟩, ⟨5, f.va⟩, ⟨5, f.vb⟩, ⟨5, 0#5⟩, ⟨1, f.bs⟩, ⟨31, 0#31⟩]

theorem isFormat_VC : IsFormat decFmtVC encFmtVC 56 := by
  refine isFormat_of_fields fieldsVC (fun f => ?_) (fun f => ?_) (fun w f => ?_)
  · simp only [fieldsVC, packWidth, Nat.reduceAdd]
  · simp only [encFmtVC, encMask, fieldsVC, pack, packWidth, Nat.reduceAdd, BitVec.toNat_ofNat, Nat.zero_mod, Nat.zero_mul,
      Nat.add_zero, Nat.zero_add, Nat.pow_zero, Nat.mul_one, Nat.add_assoc]
  · cases f
    simp only [fieldsVC, Holds, packWidth, Nat.reduceAdd, BitVec.toNat_ofNat, Nat.zero_mod, decFmtVC, Option.ite_none_right_eq_some,
      Option.some_inj, FmtVC.mk.injEq, bitsAt_eq_iff, zeroAt_iff, maskAt_eq_iff, Bool.and_eq_true]
    tauto

/-- The fields of format ML, reserved ones included. -/
def fieldsML (f : FmtML) : List Field :=
  [⟨3, f.m.mask⟩, ⟨1, f.m.minv⟩, ⟨3, f.vmd⟩, ⟨2, 0#2⟩, ⟨3, f.vma⟩, ⟨1, f.na⟩, ⟨3, f.vmb⟩, ⟨1, f.nb⟩, ⟨39, 0#39⟩]

theorem isFormat_ML : IsFormat decFmtML encFmtML 56 := by
  refine isFormat_of_fields fieldsML (fun f => ?_) (fun f => ?_) (fun w f => ?_)
  · simp only [fieldsML, packWidth, Nat.reduceAdd]
  · simp only [encFmtML, encMask, fieldsML, pack, packWidth, Nat.reduceAdd, BitVec.toNat_ofNat, Nat.zero_mod, Nat.zero_mul,
      Nat.add_zero, Nat.zero_add, Nat.pow_zero, Nat.mul_one, Nat.add_assoc]
  · cases f
    simp only [fieldsML, Holds, packWidth, Nat.reduceAdd, BitVec.toNat_ofNat, Nat.zero_mod, decFmtML, Option.ite_none_right_eq_some,
      Option.some_inj, FmtML.mk.injEq, bitsAt_eq_iff, zeroAt_iff, maskAt_eq_iff, Bool.and_eq_true]
    tauto

/-- The fields of format RD, reserved ones included. -/
def fieldsRD (f : FmtRD) : List Field :=
  [⟨3, f.m.mask⟩, ⟨1, f.m.minv⟩, ⟨5, f.vd⟩, ⟨5, f.va⟩, ⟨42, 0#42⟩]

theorem isFormat_RD : IsFormat decFmtRD encFmtRD 56 := by
  refine isFormat_of_fields fieldsRD (fun f => ?_) (fun f => ?_) (fun w f => ?_)
  · simp only [fieldsRD, packWidth, Nat.reduceAdd]
  · simp only [encFmtRD, encMask, fieldsRD, pack, packWidth, Nat.reduceAdd, BitVec.toNat_ofNat, Nat.zero_mod, 
      Nat.add_zero, Nat.pow_zero, Nat.mul_one, Nat.add_assoc]
  · cases f
    simp only [fieldsRD, Holds, packWidth, Nat.reduceAdd, BitVec.toNat_ofNat, Nat.zero_mod, decFmtRD, Option.ite_none_right_eq_some,
      Option.some_inj, FmtRD.mk.injEq, bitsAt_eq_iff, zeroAt_iff, maskAt_eq_iff]
    tauto

/-- The fields of format LU, reserved ones included. -/
def fieldsLU (f : FmtLU) : List Field :=
  [⟨3, f.m.mask⟩, ⟨1, f.m.minv⟩, ⟨5, f.vd⟩, ⟨5, f.va⟩, ⟨5, f.vt⟩, ⟨37, 0#37⟩]

theorem isFormat_LU : IsFormat decFmtLU encFmtLU 56 := by
  refine isFormat_of_fields fieldsLU (fun f => ?_) (fun f => ?_) (fun w f => ?_)
  · simp only [fieldsLU, packWidth, Nat.reduceAdd]
  · simp only [encFmtLU, encMask, fieldsLU, pack, packWidth, Nat.reduceAdd, BitVec.toNat_ofNat, Nat.zero_mod, 
      Nat.add_zero, Nat.pow_zero, Nat.mul_one, Nat.add_assoc]
  · cases f
    simp only [fieldsLU, Holds, packWidth, Nat.reduceAdd, BitVec.toNat_ofNat, Nat.zero_mod, decFmtLU, Option.ite_none_right_eq_some,
      Option.some_inj, FmtLU.mk.injEq, bitsAt_eq_iff, zeroAt_iff, maskAt_eq_iff]
    tauto

/-- The fields of format SM, reserved ones included. -/
def fieldsSM (f : FmtSM) : List Field :=
  [⟨3, f.m.mask⟩, ⟨1, f.m.minv⟩, ⟨5, f.vd⟩, ⟨5, f.sk⟩, ⟨5, f.st⟩, ⟨5, f.sdr⟩, ⟨8, f.purp⟩, ⟨1, f.u⟩, ⟨23, 0#23⟩]

theorem isFormat_SM : IsFormat decFmtSM encFmtSM 56 := by
  refine isFormat_of_fields fieldsSM (fun f => ?_) (fun f => ?_) (fun w f => ?_)
  · simp only [fieldsSM, packWidth, Nat.reduceAdd]
  · simp only [encFmtSM, encMask, fieldsSM, pack, packWidth, Nat.reduceAdd, BitVec.toNat_ofNat, Nat.zero_mod, 
      Nat.add_zero, Nat.pow_zero, Nat.mul_one, Nat.add_assoc]
  · cases f
    simp only [fieldsSM, Holds, packWidth, Nat.reduceAdd, BitVec.toNat_ofNat, Nat.zero_mod, decFmtSM, Option.ite_none_right_eq_some,
      Option.some_inj, FmtSM.mk.injEq, bitsAt_eq_iff, zeroAt_iff, maskAt_eq_iff]
    tauto

/-- The fields of format EX, reserved ones included. -/
def fieldsEX (f : FmtEX) : List Field :=
  [⟨3, f.m.mask⟩, ⟨1, f.m.minv⟩, ⟨5, f.sd⟩, ⟨5, f.va⟩, ⟨6, f.lane⟩, ⟨36, 0#36⟩]

theorem isFormat_EX : IsFormat decFmtEX encFmtEX 56 := by
  refine isFormat_of_fields fieldsEX (fun f => ?_) (fun f => ?_) (fun w f => ?_)
  · simp only [fieldsEX, packWidth, Nat.reduceAdd]
  · simp only [encFmtEX, encMask, fieldsEX, pack, packWidth, Nat.reduceAdd, BitVec.toNat_ofNat, Nat.zero_mod, 
      Nat.add_zero, Nat.pow_zero, Nat.mul_one, Nat.add_assoc]
  · cases f
    simp only [fieldsEX, Holds, packWidth, Nat.reduceAdd, BitVec.toNat_ofNat, Nat.zero_mod, decFmtEX, Option.ite_none_right_eq_some,
      Option.some_inj, FmtEX.mk.injEq, bitsAt_eq_iff, zeroAt_iff, maskAt_eq_iff]
    tauto

/-- The fields of format FL, reserved ones included. -/
def fieldsFL (f : FmtFL) : List Field :=
  [⟨3, f.m.mask⟩, ⟨1, f.m.minv⟩, ⟨5, f.vd⟩, ⟨1, f.sel⟩, ⟨46, 0#46⟩]

theorem isFormat_FL : IsFormat decFmtFL encFmtFL 56 := by
  refine isFormat_of_fields fieldsFL (fun f => ?_) (fun f => ?_) (fun w f => ?_)
  · simp only [fieldsFL, packWidth, Nat.reduceAdd]
  · simp only [encFmtFL, encMask, fieldsFL, pack, packWidth, Nat.reduceAdd, BitVec.toNat_ofNat, Nat.zero_mod, 
      Nat.add_zero, Nat.pow_zero, Nat.mul_one, Nat.add_assoc]
  · cases f
    simp only [fieldsFL, Holds, packWidth, Nat.reduceAdd, BitVec.toNat_ofNat, Nat.zero_mod, decFmtFL, Option.ite_none_right_eq_some,
      Option.some_inj, FmtFL.mk.injEq, bitsAt_eq_iff, zeroAt_iff, maskAt_eq_iff]
    tauto

/-- The fields of format LQ, reserved ones included. -/
def fieldsLQ (f : FmtLQ) : List Field :=
  [⟨4, f.g⟩, ⟨5, f.vd⟩, ⟨2, f.q⟩, ⟨5, f.sa⟩, ⟨2, 0#2⟩, ⟨14, f.off⟩]

theorem isFormat_LQ : IsFormat decFmtLQ encFmtLQ 32 := by
  refine isFormat_of_fields fieldsLQ (fun f => ?_) (fun f => ?_) (fun w f => ?_)
  · simp only [fieldsLQ, packWidth, Nat.reduceAdd]
  · simp only [encFmtLQ, fieldsLQ, pack, packWidth, Nat.reduceAdd, BitVec.toNat_ofNat, Nat.zero_mod, Nat.zero_mul,
      Nat.add_zero, Nat.zero_add, Nat.pow_zero, Nat.mul_one, Nat.add_assoc]
  · cases f
    simp only [fieldsLQ, Holds, packWidth, Nat.reduceAdd, BitVec.toNat_ofNat, Nat.zero_mod, decFmtLQ, Option.ite_none_right_eq_some,
      Option.some_inj, FmtLQ.mk.injEq, bitsAt_eq_iff, zeroAt_iff]
    tauto

/-- The fields of format LPI, reserved ones included. -/
def fieldsLPI (f : FmtLPI) : List Field :=
  [⟨4, f.g⟩, ⟨5, f.vd⟩, ⟨2, f.q⟩, ⟨5, f.sa⟩, ⟨5, f.sb⟩, ⟨11, 0#11⟩]

theorem isFormat_LPI : IsFormat decFmtLPI encFmtLPI 32 := by
  refine isFormat_of_fields fieldsLPI (fun f => ?_) (fun f => ?_) (fun w f => ?_)
  · simp only [fieldsLPI, packWidth, Nat.reduceAdd]
  · simp only [encFmtLPI, fieldsLPI, pack, packWidth, Nat.reduceAdd, BitVec.toNat_ofNat, Nat.zero_mod, 
      Nat.add_zero, Nat.pow_zero, Nat.mul_one, Nat.add_assoc]
  · cases f
    simp only [fieldsLPI, Holds, packWidth, Nat.reduceAdd, BitVec.toNat_ofNat, Nat.zero_mod, decFmtLPI, Option.ite_none_right_eq_some,
      Option.some_inj, FmtLPI.mk.injEq, bitsAt_eq_iff, zeroAt_iff]
    tauto

/-- The fields of format LS, reserved ones included. -/
def fieldsLS (f : FmtLS) : List Field :=
  [⟨4, f.g⟩, ⟨5, f.sd⟩, ⟨2, 0#2⟩, ⟨5, f.sa⟩, ⟨2, 0#2⟩, ⟨14, f.off⟩]

theorem isFormat_LS : IsFormat decFmtLS encFmtLS 32 := by
  refine isFormat_of_fields fieldsLS (fun f => ?_) (fun f => ?_) (fun w f => ?_)
  · simp only [fieldsLS, packWidth, Nat.reduceAdd]
  · simp only [encFmtLS, fieldsLS, pack, packWidth, Nat.reduceAdd, BitVec.toNat_ofNat, Nat.zero_mod, Nat.zero_mul,
      Nat.add_zero, Nat.zero_add, Nat.pow_zero, Nat.mul_one, Nat.add_assoc]
  · cases f
    simp only [fieldsLS, Holds, packWidth, Nat.reduceAdd, BitVec.toNat_ofNat, Nat.zero_mod, decFmtLS, Option.ite_none_right_eq_some,
      Option.some_inj, FmtLS.mk.injEq, bitsAt_eq_iff, zeroAt_iff, Bool.and_eq_true]
    tauto

end Sys2Proof.Machine
end

section
/-! The slots of a bundle and the bundle (O3). -/

namespace Sys2Proof.Machine

/-! ### Lists of opcodes -/

theorem opcodeOf_of_opAt {α : Type} [DecidableEq α] {l : List (Nat × α)} (hl : (l.map Prod.snd).Nodup) {n : Nat} {x : α}
    (h : opAt l n = some x) : opcodeOf l x = n ∧ x ∈ l.map Prod.snd := by
  induction l with
  | nil => cases h
  | cons e t ih =>
    obtain ⟨k, v⟩ := e
    rw [List.map_cons, List.nodup_cons] at hl
    unfold opAt at h
    split at h
    · next hk => cases h; simp [opcodeOf, hk]
    · obtain ⟨h1, h2⟩ := ih hl.2 h
      have hv : v ≠ x := fun e => hl.1 (e ▸ h2)
      exact ⟨by rw [opcodeOf, if_neg hv, h1], List.mem_cons_of_mem _ h2⟩

/-- To decode an opcode over a format it is enough to decode every value with that opcode and those fields. -/
theorem IsFormat.decode_op {α β : Type} {dec : Nat → Option α} {enc : α → Nat} {k : Nat} (h : IsFormat dec enc k)
    {D : Nat → Option β} {x : β} (n : Nat) (f : α) (hn : n < 2 ^ 8)
    (hD : ∀ w, fld w k 8 = n → dec w = some f → D w = some x) : D (n * 2 ^ k + enc f) = some x :=
  hD _ (h.fld_op n f hn) (h.dec_op n f)

/-! ### The slots: each decodes its encodings, and encodes what it decodes -/

theorem decodeScalar_encodeScalar (op : ScalarOp) (h : op.legal = true) : decodeScalar (encodeScalar op) = some op := by
  cases op with
  | nop => rfl
  | alu op f =>
    cases op <;> exact isFormat_SR.decode_op _ f (by decide) fun w ho hd => by
      simp [decodeScalar, ho, hd, opAt, opcodeOf, aluOps]
  | alui op f =>
    have h' : immOk op f.imm = true := h
    cases op <;> exact isFormat_SI.decode_op _ f (by decide) fun w ho hd => by
      simp [decodeScalar, ho, hd, opAt, opcodeOf, aluImmOps, h']
  | movi g sd imm => exact isFormat_SI.decode_op 0x1F _ (by decide) fun w ho hd => by simp [decodeScalar, ho, hd]
  | cmp r f =>
    cases r <;> exact isFormat_PC.decode_op _ f (by decide) fun w ho hd => by
      simp [decodeScalar, ho, hd, opAt, opcodeOf, relOps]
  | cmpi r f =>
    cases r <;> exact isFormat_PCI.decode_op _ f (by decide) fun w ho hd => by
      simp [decodeScalar, ho, hd, opAt, opcodeOf, relOps]
  | plog op f =>
    cases op <;> exact isFormat_PL.decode_op _ f (by decide) fun w ho hd => by
      simp [decodeScalar, ho, hd, opAt, opcodeOf, logicOps]
  | movk f => exact isFormat_MK.decode_op 0x38 f (by decide) fun w ho hd => by simp [decodeScalar, ho, hd]
  | rdid g sd => exact isFormat_SR.decode_op 0x39 _ (by decide) fun w ho hd => by simp [decodeScalar, ho, hd]
  | br f => exact isFormat_BR.decode_op 0x40 f (by decide) fun w ho hd => by simp [decodeScalar, ho, hd]
  | call f => exact isFormat_BR.decode_op 0x41 f (by decide) fun w ho hd => by simp [decodeScalar, ho, hd]
  | jr f => exact isFormat_JR.decode_op 0x42 f (by decide) fun w ho hd => by simp [decodeScalar, ho, hd]
  | loop f => exact isFormat_LP.decode_op 0x44 f (by decide) fun w ho hd => by simp [decodeScalar, ho, hd]
  | loopi f => exact isFormat_LI.decode_op 0x45 f (by decide) fun w ho hd => by simp [decodeScalar, ho, hd]
  | switch f => exact isFormat_SW.decode_op 0x48 f (by decide) fun w ho hd => by simp [decodeScalar, ho, hd]
  | reload f => exact isFormat_RL.decode_op 0x49 f (by decide) fun w ho hd => by simp [decodeScalar, ho, hd]
  | ownr f => exact isFormat_OW.decode_op 0x4C f (by decide) fun w ho hd => by simp [decodeScalar, ho, hd]
  | idle f => exact isFormat_CY.decode_op 0x50 f (by decide) fun w ho hd => by simp [decodeScalar, ho, hd]
  | waitc f => exact isFormat_CY.decode_op 0x51 f (by decide) fun w ho hd => by simp [decodeScalar, ho, hd]
  | endwork g =>
    have hg := g.isLt
    have hf : fld (0x52 * 2 ^ 48 + g.toNat * 2 ^ 44) 48 8 = 0x52 := by unfold fld; omega
    have hz : zeroAt (0x52 * 2 ^ 48 + g.toNat * 2 ^ 44) 0 44 = true := by rw [zeroAt_iff]; omega
    have hb : bitsAt (0x52 * 2 ^ 48 + g.toNat * 2 ^ 44) 44 4 = g := by rw [bitsAt_eq_iff]; omega
    rw [encodeScalar, op56, decodeScalar, hf, hz, hb]
    rfl

/-- A value decoded from a format is encoded by the opcode over the format's fields. -/
theorem IsFormat.enc_of_bind {α β : Type} {dec : Nat → Option α} {enc : α → Nat} {k : Nat} (hF : IsFormat dec enc k)
    {E : β → Nat} {g : α → Option β} {w n : Nat} {x : β} (hw : w < 2 ^ (k + 8)) (hn : fld w k 8 = n)
    (h : (dec w).bind g = some x) (hc : ∀ f, g f = some x → E x = n * 2 ^ k + enc f) : E x = w := by
  obtain ⟨f, hf, hg⟩ := Option.bind_eq_some_iff.mp h
  rw [hc f hg, ← hn]
  exact hF.eq_of_dec hw hf

theorem IsFormat.enc_of_map {α β : Type} {dec : Nat → Option α} {enc : α → Nat} {k : Nat} (hF : IsFormat dec enc k)
    {E : β → Nat} {c : α → β} {w n : Nat} {x : β} (hw : w < 2 ^ (k + 8)) (hn : fld w k 8 = n)
    (h : (dec w).map c = some x) (hc : ∀ f, E (c f) = n * 2 ^ k + enc f) : E x = w :=
  hF.enc_of_bind (g := fun f => some (c f)) hw hn (by rw [← h, Option.map_eq_bind]; rfl) fun f hg => by
    cases hg
    exact hc f

theorem encodeScalar_of_decodeScalar {w : Nat} (hw : w < 2 ^ 56) {op : ScalarOp} (h : decodeScalar w = some op) :
    encodeScalar op = w := by
  unfold decodeScalar at h
  extract_lets opc at h
  obtain ⟨hn, h⟩ | ⟨-, h⟩ := ite_eq_iff.mp h
  · obtain ⟨h0, h⟩ | ⟨-, h⟩ := ite_eq_iff.mp h <;> cases h
    exact h0.symm
  obtain ⟨hn, h⟩ | ⟨-, h⟩ := ite_eq_iff.mp h
  · obtain ⟨o, ho, h⟩ := Option.bind_eq_some_iff.mp h
    exact isFormat_SR.enc_of_map hw (opcodeOf_of_opAt (by decide) ho).1.symm h fun _ => rfl
  obtain ⟨hn, h⟩ | ⟨-, h⟩ := ite_eq_iff.mp h
  · refine isFormat_SI.enc_of_bind hw hn h fun f hf => ?_
    obtain ⟨h0, hf⟩ | ⟨-, hf⟩ := ite_eq_iff.mp hf <;> cases hf
    rw [encodeScalar, ← h0, op56]
  obtain ⟨hn, h⟩ | ⟨-, h⟩ := ite_eq_iff.mp h
  · obtain ⟨o, ho, h⟩ := Option.bind_eq_some_iff.mp h
    refine isFormat_SI.enc_of_bind hw (opcodeOf_of_opAt (by decide) ho).1.symm h fun f hf => ?_
    obtain ⟨-, hf⟩ | ⟨-, hf⟩ := ite_eq_iff.mp hf <;> cases hf
    rfl
  obtain ⟨hn, h⟩ | ⟨-, h⟩ := ite_eq_iff.mp h
  · obtain ⟨o, ho, h⟩ := Option.bind_eq_some_iff.mp h
    exact isFormat_PC.enc_of_map hw (opcodeOf_of_opAt (by decide) ho).1.symm h fun _ => rfl
  obtain ⟨hn, h⟩ | ⟨-, h⟩ := ite_eq_iff.mp h
  · obtain ⟨o, ho, h⟩ := Option.bind_eq_some_iff.mp h
    exact isFormat_PCI.enc_of_map hw (opcodeOf_of_opAt (by decide) ho).1.symm h fun _ => rfl
  obtain ⟨hn, h⟩ | ⟨-, h⟩ := ite_eq_iff.mp h
  · obtain ⟨o, ho, h⟩ := Option.bind_eq_some_iff.mp h
    exact isFormat_PL.enc_of_map hw (opcodeOf_of_opAt (by decide) ho).1.symm h fun _ => rfl
  obtain ⟨hn, h⟩ | ⟨-, h⟩ := ite_eq_iff.mp h
  · exact isFormat_MK.enc_of_map hw hn h fun _ => rfl
  obtain ⟨hn, h⟩ | ⟨-, h⟩ := ite_eq_iff.mp h
  · refine isFormat_SR.enc_of_bind hw hn h fun f hf => ?_
    obtain ⟨⟨ha, hb⟩, hf⟩ | ⟨-, hf⟩ := ite_eq_iff.mp hf <;> cases hf
    have hf : f = ⟨f.g, f.sd, 0, 0⟩ := by cases f; cases ha; cases hb; rfl
    rw [encodeScalar, ← hf, op56]
  obtain ⟨hn, h⟩ | ⟨-, h⟩ := ite_eq_iff.mp h
  · exact isFormat_BR.enc_of_map hw hn h fun _ => rfl
  obtain ⟨hn, h⟩ | ⟨-, h⟩ := ite_eq_iff.mp h
  · exact isFormat_BR.enc_of_map hw hn h fun _ => rfl
  obtain ⟨hn, h⟩ | ⟨-, h⟩ := ite_eq_iff.mp h
  · exact isFormat_JR.enc_of_map hw hn h fun _ => rfl
  obtain ⟨hn, h⟩ | ⟨-, h⟩ := ite_eq_iff.mp h
  · exact isFormat_LP.enc_of_map hw hn h fun _ => rfl
  obtain ⟨hn, h⟩ | ⟨-, h⟩ := ite_eq_iff.mp h
  · exact isFormat_LI.enc_of_map hw hn h fun _ => rfl
  obtain ⟨hn, h⟩ | ⟨-, h⟩ := ite_eq_iff.mp h
  · exact isFormat_SW.enc_of_map hw hn h fun _ => rfl
  obtain ⟨hn, h⟩ | ⟨-, h⟩ := ite_eq_iff.mp h
  · exact isFormat_RL.enc_of_map hw hn h fun _ => rfl
  obtain ⟨hn, h⟩ | ⟨-, h⟩ := ite_eq_iff.mp h
  · exact isFormat_OW.enc_of_map hw hn h fun _ => rfl
  obtain ⟨hn, h⟩ | ⟨-, h⟩ := ite_eq_iff.mp h
  · exact isFormat_CY.enc_of_map hw hn h fun _ => rfl
  obtain ⟨hn, h⟩ | ⟨-, h⟩ := ite_eq_iff.mp h
  · exact isFormat_CY.enc_of_map hw hn h fun _ => rfl
  obtain ⟨hn, h⟩ | ⟨-, h⟩ := ite_eq_iff.mp h
  · obtain ⟨hz, h⟩ | ⟨-, h⟩ := ite_eq_iff.mp h <;> cases h
    have h1 : w / 2 ^ 48 % 2 ^ 8 = 0x52 := hn
    rw [zeroAt_iff] at hz
    have h2 : (bitsAt w 44 4).toNat = w / 2 ^ 44 % 2 ^ 4 := by simp [bitsAt]
    rw [encodeScalar, op56, h2]
    omega
  cases h

theorem decodeExch_encodeExch (op : ExchOp) : decodeExch (encodeExch op) = some op := by
  cases op with
  | nop => rfl
  | sendV f => exact isFormat_SV.decode_op 1 f (by decide) fun w ho hd => by simp [decodeExch, ho, hd]
  | sendS f => exact isFormat_SS.decode_op 2 f (by decide) fun w ho hd => by simp [decodeExch, ho, hd]
  | msendV f => exact isFormat_MV.decode_op 3 f (by decide) fun w ho hd => by simp [decodeExch, ho, hd]
  | recvV f => exact isFormat_RV.decode_op 8 f (by decide) fun w ho hd => by simp [decodeExch, ho, hd]
  | recvS f => exact isFormat_RV.decode_op 9 f (by decide) fun w ho hd => by simp [decodeExch, ho, hd]
  | tpush f => exact isFormat_TP.decode_op 16 f (by decide) fun w ho hd => by simp [decodeExch, ho, hd]
  | tpushi f => exact isFormat_TI.decode_op 17 f (by decide) fun w ho hd => by simp [decodeExch, ho, hd]
  | tpop f => exact isFormat_TO.decode_op 18 f (by decide) fun w ho hd => by simp [decodeExch, ho, hd]
  | dma f => exact isFormat_DM.decode_op 24 f (by decide) fun w ho hd => by simp [decodeExch, ho, hd]

theorem encodeExch_of_decodeExch {w : Nat} (hw : w < 2 ^ 56) {op : ExchOp} (h : decodeExch w = some op) :
    encodeExch op = w := by
  unfold decodeExch at h
  extract_lets opc at h
  obtain ⟨hn, h⟩ | ⟨-, h⟩ := ite_eq_iff.mp h
  · obtain ⟨h0, h⟩ | ⟨-, h⟩ := ite_eq_iff.mp h <;> cases h
    exact h0.symm
  obtain ⟨hn, h⟩ | ⟨-, h⟩ := ite_eq_iff.mp h
  · exact isFormat_SV.enc_of_map hw hn h fun _ => rfl
  obtain ⟨hn, h⟩ | ⟨-, h⟩ := ite_eq_iff.mp h
  · exact isFormat_SS.enc_of_map hw hn h fun _ => rfl
  obtain ⟨hn, h⟩ | ⟨-, h⟩ := ite_eq_iff.mp h
  · exact isFormat_MV.enc_of_map hw hn h fun _ => rfl
  obtain ⟨hn, h⟩ | ⟨-, h⟩ := ite_eq_iff.mp h
  · exact isFormat_RV.enc_of_map hw hn h fun _ => rfl
  obtain ⟨hn, h⟩ | ⟨-, h⟩ := ite_eq_iff.mp h
  · exact isFormat_RV.enc_of_map hw hn h fun _ => rfl
  obtain ⟨hn, h⟩ | ⟨-, h⟩ := ite_eq_iff.mp h
  · exact isFormat_TP.enc_of_map hw hn h fun _ => rfl
  obtain ⟨hn, h⟩ | ⟨-, h⟩ := ite_eq_iff.mp h
  · exact isFormat_TI.enc_of_map hw hn h fun _ => rfl
  obtain ⟨hn, h⟩ | ⟨-, h⟩ := ite_eq_iff.mp h
  · exact isFormat_TO.enc_of_map hw hn h fun _ => rfl
  obtain ⟨hn, h⟩ | ⟨-, h⟩ := ite_eq_iff.mp h
  · exact isFormat_DM.enc_of_map hw hn h fun _ => rfl
  cases h

theorem decodeMat_encodeMat (op : MatOp) : decodeMat (encodeMat op) = some op := by
  cases op with
  | nop => rfl
  | mldw f => exact isFormat_MW.decode_op 1 f (by decide) fun w ho hd => by simp [decodeMat, ho, hd]
  | mfeed f => exact isFormat_MF.decode_op 2 f (by decide) fun w ho hd => by simp [decodeMat, ho, hd]
  | mmul f => exact isFormat_MM.decode_op 3 f (by decide) fun w ho hd => by simp [decodeMat, ho, hd]

theorem encodeMat_of_decodeMat {w : Nat} (hw : w < 2 ^ 40) {op : MatOp} (h : decodeMat w = some op) :
    encodeMat op = w := by
  unfold decodeMat at h
  extract_lets opc at h
  obtain ⟨hn, h⟩ | ⟨-, h⟩ := ite_eq_iff.mp h
  · obtain ⟨h0, h⟩ | ⟨-, h⟩ := ite_eq_iff.mp h <;> cases h
    exact h0.symm
  obtain ⟨hn, h⟩ | ⟨-, h⟩ := ite_eq_iff.mp h
  · exact isFormat_MW.enc_of_map hw hn h fun _ => rfl
  obtain ⟨hn, h⟩ | ⟨-, h⟩ := ite_eq_iff.mp h
  · exact isFormat_MF.enc_of_map hw hn h fun _ => rfl
  obtain ⟨hn, h⟩ | ⟨-, h⟩ := ite_eq_iff.mp h
  · exact isFormat_MM.enc_of_map hw hn h fun _ => rfl
  cases h

theorem decodeLs_encodeLs (op : LsOp) (h : op.legal = true) : decodeLs (encodeLs op) = some op := by
  cases op with
  | nop => rfl
  | vldq f => exact isFormat_LQ.decode_op 1 f (by decide) fun w ho hd => by simp [decodeLs, ho, hd]
  | vldqP f => exact isFormat_LPI.decode_op 2 f (by decide) fun w ho hd => by simp [decodeLs, ho, hd]
  | vstq f => exact isFormat_LQ.decode_op 3 f (by decide) fun w ho hd => by simp [decodeLs, ho, hd]
  | vstqP f => exact isFormat_LPI.decode_op 4 f (by decide) fun w ho hd => by simp [decodeLs, ho, hd]
  | vldb f =>
    have hq : f.q = 0 := by simpa [LsOp.legal, Nat.lt_succ_iff] using h
    exact isFormat_LQ.decode_op 5 f (by decide) fun w ho hd => by simp [decodeLs, ho, hd, hq]
  | vldbX f =>
    have hq : f.q = 0 := by simpa [LsOp.legal, Nat.lt_succ_iff] using h
    exact isFormat_LQ.decode_op 6 f (by decide) fun w ho hd => by simp [decodeLs, ho, hd, hq]
  | vldh f =>
    have hq : f.q.toNat ≤ 1 := by simpa [LsOp.legal, Nat.lt_succ_iff] using h
    exact isFormat_LQ.decode_op 7 f (by decide) fun w ho hd => by simp [decodeLs, ho, hd, hq]
  | sld f => exact isFormat_LS.decode_op 8 f (by decide) fun w ho hd => by simp [decodeLs, ho, hd]
  | sst f => exact isFormat_LS.decode_op 9 f (by decide) fun w ho hd => by simp [decodeLs, ho, hd]

theorem encodeLs_of_decodeLs {w : Nat} (hw : w < 2 ^ 40) {op : LsOp} (h : decodeLs w = some op) :
    encodeLs op = w := by
  unfold decodeLs at h
  extract_lets opc at h
  obtain ⟨hn, h⟩ | ⟨-, h⟩ := ite_eq_iff.mp h
  · obtain ⟨h0, h⟩ | ⟨-, h⟩ := ite_eq_iff.mp h <;> cases h
    exact h0.symm
  obtain ⟨hn, h⟩ | ⟨-, h⟩ := ite_eq_iff.mp h
  · exact isFormat_LQ.enc_of_map hw hn h fun _ => rfl
  obtain ⟨hn, h⟩ | ⟨-, h⟩ := ite_eq_iff.mp h
  · exact isFormat_LPI.enc_of_map hw hn h fun _ => rfl
  obtain ⟨hn, h⟩ | ⟨-, h⟩ := ite_eq_iff.mp h
  · exact isFormat_LQ.enc_of_map hw hn h fun _ => rfl
  obtain ⟨hn, h⟩ | ⟨-, h⟩ := ite_eq_iff.mp h
  · exact isFormat_LPI.enc_of_map hw hn h fun _ => rfl
  obtain ⟨hn, h⟩ | ⟨-, h⟩ := ite_eq_iff.mp h
  · refine isFormat_LQ.enc_of_bind hw hn h fun f hf => ?_
    obtain ⟨-, hf⟩ | ⟨-, hf⟩ := ite_eq_iff.mp hf <;> cases hf
    rfl
  obtain ⟨hn, h⟩ | ⟨-, h⟩ := ite_eq_iff.mp h
  · refine isFormat_LQ.enc_of_bind hw hn h fun f hf => ?_
    obtain ⟨-, hf⟩ | ⟨-, hf⟩ := ite_eq_iff.mp hf <;> cases hf
    rfl
  obtain ⟨hn, h⟩ | ⟨-, h⟩ := ite_eq_iff.mp h
  · refine isFormat_LQ.enc_of_bind hw hn h fun f hf => ?_
    obtain ⟨-, hf⟩ | ⟨-, hf⟩ := ite_eq_iff.mp hf <;> cases hf
    rfl
  obtain ⟨hn, h⟩ | ⟨-, h⟩ := ite_eq_iff.mp h
  · exact isFormat_LS.enc_of_map hw hn h fun _ => rfl
  obtain ⟨hn, h⟩ | ⟨-, h⟩ := ite_eq_iff.mp h
  · exact isFormat_LS.enc_of_map hw hn h fun _ => rfl
  cases h

theorem decodeVec_encodeVec (op : VecOp) (h : op.legal = true) : decodeVec (encodeVec op) = some op := by
  cases op with
  | nop => rfl
  | v3 op f =>
    have hok : v3Ok op f = true := h
    cases op <;> exact isFormat_V3.decode_op _ f (by decide) fun w ho hd => by
      simp [decodeVec, ho, hd, opAt, opcodeOf, v3Ops, hok]
  | vi op f =>
    have hok : viOk op f = true := h
    cases op <;> exact isFormat_VI.decode_op _ f (by decide) fun w ho hd => by
      simp [decodeVec, ho, hd, opAt, opcodeOf, v3Ops, viOps, hok]
  | va op f =>
    have hok : vaOk op f = true := h
    cases op <;> exact isFormat_VA.decode_op _ f (by decide) fun w ho hd => by
      simp [decodeVec, ho, hd, opAt, opcodeOf, v3Ops, viOps, vaOps, hok]
  | cmp op f =>
    cases op <;> exact isFormat_VC.decode_op _ f (by decide) fun w ho hd => by
      simp [decodeVec, ho, hd, opAt, opcodeOf, v3Ops, viOps, vaOps, vcmpOps]
  | mlog op f =>
    have hok : mlOk f = true := h
    cases op <;> exact isFormat_ML.decode_op _ f (by decide) fun w ho hd => by
      simp [decodeVec, ho, hd, opAt, opcodeOf, v3Ops, viOps, vaOps, vcmpOps, logicOps, hok]
  | red op f =>
    cases op <;> exact isFormat_RD.decode_op _ f (by decide) fun w ho hd => by
      simp [decodeVec, ho, hd, opAt, opcodeOf, v3Ops, viOps, vaOps, vcmpOps, logicOps, redOps]
  | unpk f =>
    exact isFormat_VU.decode_op 58 f (by decide) fun w ho hd => by
      simp [decodeVec, ho, hd, opAt, v3Ops, viOps, vaOps, vcmpOps, logicOps, redOps]
  | lut f =>
    exact isFormat_LU.decode_op 88 f (by decide) fun w ho hd => by
      simp [decodeVec, ho, hd, opAt, v3Ops, viOps, vaOps, vcmpOps, logicOps, redOps]
  | sample f =>
    exact isFormat_SM.decode_op 96 f (by decide) fun w ho hd => by
      simp [decodeVec, ho, hd, opAt, v3Ops, viOps, vaOps, vcmpOps, logicOps, redOps]
  | ext f =>
    exact isFormat_EX.decode_op 104 f (by decide) fun w ho hd => by
      simp [decodeVec, ho, hd, opAt, v3Ops, viOps, vaOps, vcmpOps, logicOps, redOps]
  | frd f =>
    exact isFormat_FL.decode_op 105 f (by decide) fun w ho hd => by
      simp [decodeVec, ho, hd, opAt, v3Ops, viOps, vaOps, vcmpOps, logicOps, redOps]
  | ocvt f =>
    have hok : ocOk f = true := (Bool.and_eq_true_iff.mp (Bool.and_eq_true_iff.mp h).1).1
    exact isFormat_OC.decode_op 0x3B f (by decide) fun w ho hd => by
      simp [decodeVec, ho, hd, opAt, v3Ops, viOps, vaOps, vcmpOps, logicOps, redOps, hok]
  | fclr m sel =>
    exact isFormat_FL.decode_op 0x6A _ (by decide) fun w ho hd => by
      simp [decodeVec, ho, hd, opAt, v3Ops, viOps, vaOps, vcmpOps, logicOps, redOps]

theorem encodeVec_of_decodeVec {w : Nat} (hw : w < 2 ^ 64) {op : VecOp} (h : decodeVec w = some op) :
    encodeVec op = w := by
  unfold decodeVec at h
  extract_lets opc at h
  obtain ⟨hn, h⟩ | ⟨-, h⟩ := ite_eq_iff.mp h
  · obtain ⟨h0, h⟩ | ⟨-, h⟩ := ite_eq_iff.mp h <;> cases h
    exact h0.symm
  split at h
  · next o ho =>
    refine isFormat_V3.enc_of_bind hw (opcodeOf_of_opAt (by decide) ho).1.symm h fun f hf => ?_
    obtain ⟨-, hf⟩ | ⟨-, hf⟩ := ite_eq_iff.mp hf <;> cases hf
    rfl
  split at h
  · next o ho =>
    refine isFormat_VI.enc_of_bind hw (opcodeOf_of_opAt (by decide) ho).1.symm h fun f hf => ?_
    obtain ⟨-, hf⟩ | ⟨-, hf⟩ := ite_eq_iff.mp hf <;> cases hf
    rfl
  split at h
  · next o ho =>
    refine isFormat_VA.enc_of_bind hw (opcodeOf_of_opAt (by decide) ho).1.symm h fun f hf => ?_
    obtain ⟨-, hf⟩ | ⟨-, hf⟩ := ite_eq_iff.mp hf <;> cases hf
    rfl
  split at h
  · next o ho => exact isFormat_VC.enc_of_map hw (opcodeOf_of_opAt (by decide) ho).1.symm h fun _ => rfl
  split at h
  · next o ho =>
    refine isFormat_ML.enc_of_bind hw (opcodeOf_of_opAt (by decide) ho).1.symm h fun f hf => ?_
    obtain ⟨-, hf⟩ | ⟨-, hf⟩ := ite_eq_iff.mp hf <;> cases hf
    rfl
  split at h
  · next o ho => exact isFormat_RD.enc_of_map hw (opcodeOf_of_opAt (by decide) ho).1.symm h fun _ => rfl
  obtain ⟨hn, h⟩ | ⟨-, h⟩ := ite_eq_iff.mp h
  · exact isFormat_VU.enc_of_map hw hn h fun _ => rfl
  obtain ⟨hn, h⟩ | ⟨-, h⟩ := ite_eq_iff.mp h
  · refine isFormat_OC.enc_of_bind hw hn h fun f hf => ?_
    obtain ⟨-, hf⟩ | ⟨-, hf⟩ := ite_eq_iff.mp hf <;> cases hf
    rfl
  obtain ⟨hn, h⟩ | ⟨-, h⟩ := ite_eq_iff.mp h
  · exact isFormat_LU.enc_of_map hw hn h fun _ => rfl
  obtain ⟨hn, h⟩ | ⟨-, h⟩ := ite_eq_iff.mp h
  · exact isFormat_SM.enc_of_map hw hn h fun _ => rfl
  obtain ⟨hn, h⟩ | ⟨-, h⟩ := ite_eq_iff.mp h
  · exact isFormat_EX.enc_of_map hw hn h fun _ => rfl
  obtain ⟨hn, h⟩ | ⟨-, h⟩ := ite_eq_iff.mp h
  · exact isFormat_FL.enc_of_map hw hn h fun _ => rfl
  obtain ⟨hn, h⟩ | ⟨-, h⟩ := ite_eq_iff.mp h
  · refine isFormat_FL.enc_of_bind hw hn h fun f hf => ?_
    obtain ⟨h0, hf⟩ | ⟨-, hf⟩ := ite_eq_iff.mp hf <;> cases hf
    rw [encodeVec, ← h0, op64]
  cases h

theorem encodeExch_lt (op : ExchOp) : encodeExch op < 2 ^ 56 := by
  cases op with
  | nop => exact Nat.two_pow_pos 56
  | sendV f => exact isFormat_SV.op_lt _ _ (by decide)
  | sendS f => exact isFormat_SS.op_lt _ _ (by decide)
  | msendV f => exact isFormat_MV.op_lt _ _ (by decide)
  | recvV f => exact isFormat_RV.op_lt _ _ (by decide)
  | recvS f => exact isFormat_RV.op_lt _ _ (by decide)
  | tpush f => exact isFormat_TP.op_lt _ _ (by decide)
  | tpushi f => exact isFormat_TI.op_lt _ _ (by decide)
  | tpop f => exact isFormat_TO.op_lt _ _ (by decide)
  | dma f => exact isFormat_DM.op_lt _ _ (by decide)

theorem encodeMat_lt (op : MatOp) : encodeMat op < 2 ^ 40 := by
  cases op with
  | nop => exact Nat.two_pow_pos 40
  | mldw f => exact isFormat_MW.op_lt _ _ (by decide)
  | mfeed f => exact isFormat_MF.op_lt _ _ (by decide)
  | mmul f => exact isFormat_MM.op_lt _ _ (by decide)

theorem encodeLs_lt (op : LsOp) : encodeLs op < 2 ^ 40 := by
  cases op with
  | nop => exact Nat.two_pow_pos 40
  | vldq f => exact isFormat_LQ.op_lt _ _ (by decide)
  | vldqP f => exact isFormat_LPI.op_lt _ _ (by decide)
  | vstq f => exact isFormat_LQ.op_lt _ _ (by decide)
  | vstqP f => exact isFormat_LPI.op_lt _ _ (by decide)
  | vldb f => exact isFormat_LQ.op_lt _ _ (by decide)
  | vldbX f => exact isFormat_LQ.op_lt _ _ (by decide)
  | vldh f => exact isFormat_LQ.op_lt _ _ (by decide)
  | sld f => exact isFormat_LS.op_lt _ _ (by decide)
  | sst f => exact isFormat_LS.op_lt _ _ (by decide)

theorem encodeVec_lt (op : VecOp) : encodeVec op < 2 ^ 64 := by
  cases op with
  | nop => exact Nat.two_pow_pos 64
  | v3 op f => exact isFormat_V3.op_lt _ _ (by cases op <;> decide)
  | vi op f => exact isFormat_VI.op_lt _ _ (by cases op <;> decide)
  | va op f => exact isFormat_VA.op_lt _ _ (by cases op <;> decide)
  | cmp op f => exact isFormat_VC.op_lt _ _ (by cases op <;> decide)
  | mlog op f => exact isFormat_ML.op_lt _ _ (by cases op <;> decide)
  | red op f => exact isFormat_RD.op_lt _ _ (by cases op <;> decide)
  | unpk f => exact isFormat_VU.op_lt _ _ (by decide)
  | ocvt f => exact isFormat_OC.op_lt _ _ (by decide)
  | lut f => exact isFormat_LU.op_lt _ _ (by decide)
  | sample f => exact isFormat_SM.op_lt _ _ (by decide)
  | ext f => exact isFormat_EX.op_lt _ _ (by decide)
  | frd f => exact isFormat_FL.op_lt _ _ (by decide)
  | fclr m sel => exact isFormat_FL.op_lt _ _ (by decide)

theorem encodeScalar_lt (op : ScalarOp) : encodeScalar op < 2 ^ 56 := by
  cases op with
  | nop => exact Nat.two_pow_pos 56
  | alu op f => exact isFormat_SR.op_lt _ _ (by cases op <;> decide)
  | alui op f => exact isFormat_SI.op_lt _ _ (by cases op <;> decide)
  | movi g sd imm => exact isFormat_SI.op_lt _ _ (by decide)
  | cmp op f => exact isFormat_PC.op_lt _ _ (by cases op <;> decide)
  | cmpi op f => exact isFormat_PCI.op_lt _ _ (by cases op <;> decide)
  | plog op f => exact isFormat_PL.op_lt _ _ (by cases op <;> decide)
  | movk f => exact isFormat_MK.op_lt _ _ (by decide)
  | rdid g sd => exact isFormat_SR.op_lt _ _ (by decide)
  | br f => exact isFormat_BR.op_lt _ _ (by decide)
  | call f => exact isFormat_BR.op_lt _ _ (by decide)
  | jr f => exact isFormat_JR.op_lt _ _ (by decide)
  | loop f => exact isFormat_LP.op_lt _ _ (by decide)
  | loopi f => exact isFormat_LI.op_lt _ _ (by decide)
  | switch f => exact isFormat_SW.op_lt _ _ (by decide)
  | reload f => exact isFormat_RL.op_lt _ _ (by decide)
  | ownr f => exact isFormat_OW.op_lt _ _ (by decide)
  | idle f => exact isFormat_CY.op_lt _ _ (by decide)
  | waitc f => exact isFormat_CY.op_lt _ _ (by decide)
  | endwork g =>
    have hg := g.isLt
    simp only [encodeScalar, op56]
    omega

/-! ### The bundle -/

theorem encodeBundle_toNat (b : Bundle) : (encodeBundle b).toNat =
    encodeVec b.vec * 2 ^ 192 + encodeMat b.mat * 2 ^ 152 + encodeLs b.ls * 2 ^ 112 + encodeExch b.exch * 2 ^ 56 +
      encodeScalar b.scal := by
  have := encodeVec_lt b.vec
  have := encodeMat_lt b.mat
  have := encodeLs_lt b.ls
  have := encodeExch_lt b.exch
  have := encodeScalar_lt b.scal
  rw [encodeBundle, BitVec.toNat_ofNat, Nat.mod_eq_of_lt (by omega)]

theorem decodeBundle_encodeBundle (b : Bundle) (h : b.legal = true) : decodeBundle (encodeBundle b) = some b := by
  have hv := encodeVec_lt b.vec
  have hm := encodeMat_lt b.mat
  have hl := encodeLs_lt b.ls
  have he := encodeExch_lt b.exch
  have hs := encodeScalar_lt b.scal
  have fv : fld (encodeBundle b).toNat 192 64 = encodeVec b.vec := by rw [encodeBundle_toNat, fld]; omega
  have fm : fld (encodeBundle b).toNat 152 40 = encodeMat b.mat := by rw [encodeBundle_toNat, fld]; omega
  have fl : fld (encodeBundle b).toNat 112 40 = encodeLs b.ls := by rw [encodeBundle_toNat, fld]; omega
  have fe : fld (encodeBundle b).toNat 56 56 = encodeExch b.exch := by rw [encodeBundle_toNat, fld]; omega
  have fs : fld (encodeBundle b).toNat 0 56 = encodeScalar b.scal := by rw [encodeBundle_toNat, fld]; omega
  simp only [Bundle.legal, Bool.and_eq_true] at h
  obtain ⟨⟨⟨⟨lv, -⟩, ll⟩, -⟩, ls⟩ := h
  rw [decodeBundle, fv, fm, fl, fe, fs, decodeVec_encodeVec _ lv, decodeMat_encodeMat, decodeLs_encodeLs _ ll,
    decodeExch_encodeExch, decodeScalar_encodeScalar _ ls]

theorem encodeBundle_of_decodeBundle {w : BitVec 256} {b : Bundle} (h : decodeBundle w = some b) : encodeBundle b = w := by
  unfold decodeBundle at h
  split at h
  case h_2 => cases h
  case h_1 v m l e s hv hm hl he hs =>
    cases h
    apply BitVec.eq_of_toNat_eq
    rw [encodeBundle_toNat, encodeVec_of_decodeVec (Nat.mod_lt _ (by decide)) hv,
      encodeMat_of_decodeMat (Nat.mod_lt _ (by decide)) hm, encodeLs_of_decodeLs (Nat.mod_lt _ (by decide)) hl,
      encodeExch_of_decodeExch (Nat.mod_lt _ (by decide)) he, encodeScalar_of_decodeScalar (Nat.mod_lt _ (by decide)) hs]
    have := w.isLt
    omega

end Sys2Proof.Machine

open Sys2Proof Sys2Proof.Machine

/-- Settles O3: slot by slot, an opcode over a format whose field list spells every bit of the slot. -/
theorem bundleRoundTrip : Obligations.BundleRoundTrip :=
  ⟨decodeBundle_encodeBundle, fun _ _ => encodeBundle_of_decodeBundle⟩
end

section
/-! Proofs about the vector operations that write lanes of a register (O11, O12, O13, O14). -/

namespace Sys2Proof.Machine

/-! ### What a landing does to the lanes of a register -/

/-- A lane of a register with the bits of one result written over it: word, which bits, poison. -/
def Lane.merge (old : Lane) (e : Word × Word × Bool) : Lane :=
  if e.2.1 = 0 then old
  else { bits := (old.bits &&& ~~~e.2.1) ||| (e.1 &&& e.2.1)
         poison := if e.2.1 = BitVec.allOnes 32 then e.2.2 else old.poison || e.2.2 }

@[simp] theorem Lane.merge_none (old : Lane) (w : Word) (p : Bool) : old.merge (w, 0, p) = old := if_pos rfl

@[simp] theorem Lane.merge_all (old : Lane) (w : Word) (p : Bool) : old.merge (w, BitVec.allOnes 32, p) = ⟨w, p⟩ := by
  rw [Lane.merge, if_neg (by decide : ¬BitVec.allOnes 32 = 0), BitVec.not_allOnes, BitVec.and_zero, BitVec.zero_or,
    BitVec.and_allOnes, if_pos rfl]

theorem laneAt_laneNos_map (f : Nat → Lane) {l : Nat} (hl : l < 64) : laneAt (laneNos.map f) l = f l := by
  simp [laneAt, laneNos, hl]

theorem Site.laneAt_setV_self (a : Site) (r : Nat) (w : List (Word × Word × Bool)) {l : Nat} (hl : l < 64) :
    laneAt ((a.setV r w).vreg r) l = (laneAt (a.vreg r) l).merge (w.getD l (0, 0, false)) := by
  have hreg : (a.setV r w).vreg r = laneNos.map fun l => (laneAt (a.vreg r) l).merge (w.getD l (0, 0, false)) := by
    rw [Site.vreg, Site.setV, alook_aset_self]
    rfl
  rw [hreg, laneAt_laneNos_map _ hl]

theorem Site.vreg_setV_ne (a : Site) (r q : Nat) (w : List (Word × Word × Bool)) (h : q ≠ r) : (a.setV r w).vreg q = a.vreg q := by
  rw [Site.vreg, Site.setV, alook_aset_ne _ _ _ _ h]
  rfl

/-! ### A site with one register written -/

/-- Site `a` is site `b` with lane `l` of V`r` holding `new l` and `fl l` ORed into its flags, for every lane. -/
structure Site.LanesWritten (b a : Site) (r : Nat) (new : Nat → Lane) (fl : Nat → Flags) : Prop where
  lanes : ∀ l, l < 64 → laneAt (a.vreg r) l = new l
  flags : ∀ l, l < 64 → a.laneFlags l = b.laneFlags l ||| fl l
  others : ∀ q, q ≠ r → a.vreg q = b.vreg q
  vmregs : ∀ q, a.vmreg q = b.vmreg q
  sregs : ∀ q, a.sreg q = b.sreg q
  pregs : ∀ q, a.preg q = b.preg q
  kregs : ∀ q, a.kreg q = b.kreg q
  rest : a = { b with seq := a.seq, vec := a.vec }

namespace Site.LanesWritten

variable {b a : Site} {r : Nat} {new : Nat → Lane} {fl : Nat → Flags}

theorem landed (h : b.LanesWritten a r new fl) : b.LanesWritten a.landed r new fl := by
  refine ⟨h.lanes, h.flags, h.others, h.vmregs, h.sregs, h.pregs, h.kregs, ?_⟩
  unfold Site.landed
  conv_lhs => rw [h.rest]

/-- What changes registers and flags of the vector unit alone is judged by them. -/
theorem update (h : b.LanesWritten a r new fl) {x : Site} {w : Nat → Lane} {gl : Nat → Flags}
    (hx : ∃ v fs, x = { a with vec := { a.vec with v := v, flags := fs } }) (hlanes : ∀ l, l < 64 → laneAt (x.vreg r) l = w l)
    (hothers : ∀ q, q ≠ r → x.vreg q = a.vreg q) (hflags : ∀ l, l < 64 → x.laneFlags l = b.laneFlags l ||| gl l) :
    b.LanesWritten x r w gl := by
  obtain ⟨v, fs, rfl⟩ := hx
  refine ⟨hlanes, hflags, fun q hq => (hothers q hq).trans (h.others q hq), h.vmregs, h.sregs, h.pregs, h.kregs, ?_⟩
  conv_lhs => rw [h.rest]

theorem apply_v (h : b.LanesWritten a r new fl) (w : List (Word × Word × Bool)) :
    b.LanesWritten (a.apply (.v r w)) r (fun l => (new l).merge (w.getD l (0, 0, false))) fl :=
  h.update (x := a.setV r w) ⟨_, a.vec.flags, rfl⟩ (fun l hl => by rw [a.laneAt_setV_self r w hl, h.lanes l hl])
    (fun q hq => a.vreg_setV_ne r q w hq) h.flags

theorem apply_flags (h : b.LanesWritten a r new fl) (dst : Nat × Nat) (gl : Nat → Flags) :
    b.LanesWritten (a.apply (.flags dst (laneNos.map gl))) r new (fun l => fl l ||| gl l) := by
  have horlanes : a.apply (.flags dst (laneNos.map gl)) = a.orLanes laneNos ((laneNos.map gl).getD · 0) := rfl
  rw [horlanes]
  refine h.update ⟨a.vec.v, _, Site.orLanes_eq _ _ a⟩ (fun l hl => ?_) (fun q hq => ?_) fun l hl => ?_
  · rw [Site.orLanes_eq, ← h.lanes l hl]
    rfl
  · rw [Site.orLanes_eq]
    rfl
  · rw [Site.laneFlags_orLanes, h.flags l hl]
    simp [laneNos, hl, BitVec.or_assoc]

theorem congr (h : b.LanesWritten a r new fl) {w : Nat → Lane} {gl : Nat → Flags} (hw : ∀ l, l < 64 → new l = w l)
    (hfl : ∀ l, l < 64 → fl l = gl l) : b.LanesWritten a r w gl :=
  { h with lanes := fun l hl => hw l hl ▸ h.lanes l hl, flags := fun l hl => hfl l hl ▸ h.flags l hl }

end Site.LanesWritten

/-- A bundle with results in flight has written nothing yet. -/
theorem State.lanesWritten_inFlight (s : State) (i c rank : Nat) (rs : List Result) (r : Nat) :
    (s.site i).LanesWritten ((s.inFlight i c rank rs).clocked c) r (laneAt ((s.site i).vreg r)) (fun _ => 0) where
  lanes _ _ := rfl
  flags _ _ := BitVec.or_zero.symm
  others _ _ := rfl
  vmregs _ := rfl
  sregs _ := rfl
  pregs _ := rfl
  kregs _ := rfl
  rest := rfl

/-- A lone vector operation whose results write the lanes of one register and some lanes' flags. -/
theorem State.changesV_vec {s : State} {i : Nat} {c : Instr} {op : VecOp} {rs : List Result} {r : Nat} {new : Nat → Lane}
    {fl : Nat → Flags} (he : exec c s = .next (s.issueAt i (loneVec op) Checks.clean)) (hcan : s.canIssue i = true)
    (hvec : (s.atClock i).issueVec (s.issueCycle i) op = (s.atClock i).laters (s.issueCycle i + latVector) rankVector rs)
    (hrs : ∀ r ∈ rs, r.isScalar = false)
    (hland : ∀ a, (s.site i).LanesWritten a r (laneAt ((s.site i).vreg r)) (fun _ => 0) →
      (s.site i).LanesWritten (rs.foldl Site.apply a) r new fl) : ChangesV s i c 4 r new fl := by
  obtain ⟨hflight, hmoved⟩ := State.issueAt_vec hcan op hvec
  have hseen : (s.issueAt i (loneVec op) Checks.clean).seen i (s.issueCycle i + 4) = _ :=
    State.seen_inFlight hcan (Nat.add_le_add_left (by decide) _) (by decide) hrs hflight
  obtain ⟨hlanes, hflags, hothers, hvmregs, hsregs, hpregs, hkregs, hrest⟩ :=
    (hland _ (s.lanesWritten_inFlight i _ _ _ r)).landed
  refine ⟨_, he, hmoved, ?_⟩
  simp only [hseen]
  exact ⟨fun l hl => ⟨hlanes l hl, hflags l hl⟩, hothers, hvmregs, hsregs, hpregs, hkregs, hrest⟩

/-! ### Lane-wise results -/

/-- The two results of a lane-wise operation: the active lanes' words and their flags (R149, R195). -/
def Site.laneResults (a : Site) (n : Nat) (m : VMask) (vd : BitVec 5) (poison : Nat → Bool) (f : Nat → LaneResult) : List Result :=
  [.v vd.toNat (laneNos.map fun l => if a.active m l then
      (if poison l then Config.poisonedBits a.seq.epoch n l else (f l).1, BitVec.allOnes 32, poison l) else (0, 0, false)),
    .flags (3, vd.toNat) (laneNos.map fun l => if a.active m l && !poison l then (f l).2 else 0)]

theorem Site.laneResult_eq (a : Site) (n : Nat) (m : VMask) (vd : BitVec 5) (poison : Nat → Bool) (f : Nat → LaneResult) :
    a.laneResult n m vd poison f = a.laters (n + latVector) rankVector (a.laneResults n m vd poison f) :=
  a.later_later _ _ _ _

theorem getD_laneNos_map {α : Type} (f : Nat → α) (d : α) {l : Nat} (hl : l < 64) : (laneNos.map f).getD l d = f l := by
  simp [laneNos, hl]

/-- The landing of a lane-wise operation. -/
theorem Site.LanesWritten.laneResults {b a : Site} {vd : BitVec 5} {old : Nat → Lane}
    (h : b.LanesWritten a vd.toNat old (fun _ => 0)) (n : Nat) (m : VMask) (p : Nat → Bool) (f : Nat → LaneResult) :
    b.LanesWritten ((b.laneResults n m vd p f).foldl Site.apply a) vd.toNat
      (fun l => if b.active m l then ⟨if p l then Config.poisonedBits b.seq.epoch n l else (f l).1, p l⟩ else old l)
      (fun l => if b.active m l && !p l then (f l).2 else 0) := by
  simp only [Site.laneResults, List.foldl_cons, List.foldl_nil]
  refine ((h.apply_v _).apply_flags _ _).congr (fun l hl => ?_) fun _ _ => BitVec.zero_or
  rw [getD_laneNos_map _ _ hl]
  split
  · exact Lane.merge_all _ _ _
  · exact Lane.merge_none _ _ _

/-- A lane-wise operation writes its active lanes, whatever its results are (R149, R195). -/
theorem State.writesV_lanes {s : State} {i : Nat} {c : Instr} {op : VecOp} {vd : BitVec 5} {p : Nat → Bool} {f : Nat → LaneResult}
    {F : LaneFn} (hcan : s.canIssue i = true) (he : exec c s = .next (s.issueAt i (loneVec op) Checks.clean))
    (hbody : (s.atClock i).vecBody (s.issueCycle i) op = (s.atClock i).laneResult (s.issueCycle i) (vecMask op) vd p f)
    (hF : ∀ l, l < 64 → F l = ((f l).1, (f l).2, p l)) : WritesV s i c (vecMask op) vd.toNat F := by
  cases hlanes : noLanes (vecMask op) with
  | true =>
    refine State.changesV_vec (rs := []) he hcan ?_ (by simp) fun a ha => ha.congr (fun l hl => ?_) fun l hl => ?_
    · rw [Site.laters_nil, Site.issueVec, if_pos hlanes]
    · simp [(s.site i).active_of_noLanes hlanes hl]
    · simp [(s.site i).active_of_noLanes hlanes hl]
  | false =>
    refine State.changesV_vec (rs := (s.site i).laneResults (s.issueCycle i) (vecMask op) vd p f) he hcan ?_
      (by simp [Site.laneResults, Result.isScalar]) fun a ha =>
        (ha.laneResults _ _ _ _).congr (fun l hl => ?_) fun l hl => ?_
    · rw [Site.issueVec_of_lanes _ _ hlanes, hbody, Site.laneResult_eq]
      rfl
    · rw [hF l hl]
    · rw [hF l hl]

/-! ### The formats -/

/-- Format V3: an operation on the lanes of V[VA], and of V[VB] and V[VC] or a broadcast register each. -/
theorem State.writesV_v3 {s : State} {i : Nat} {c : Instr} {f : FmtV3} (hcan : s.canIssue i = true) (op : V3Op)
    (he : exec c s = .next (s.issueAt i (loneVec (.v3 op f)) Checks.clean)) {F : LaneFn}
    (hF : ∀ l, F l =
      let x := laneAt ((s.site i).vreg f.va.toNat) l
      let y := (s.site i).broadcastLane f.vb f.bs l
      let z := (s.site i).broadcastLane f.vc f.cs l
      ((v3Fn op x.bits y.bits z.bits).1, (v3Fn op x.bits y.bits z.bits).2,
        x.poison || (decide (2 ≤ v3Uses op) && y.poison) || (decide (3 ≤ v3Uses op) && z.poison))) :
    WritesV s i c f.m f.vd.toNat F :=
  State.writesV_lanes (op := .v3 op f) hcan he rfl fun l hl => by
    rw [hF l, ← (s.site i).laneAt_vecOrScalar _ _ hl, ← (s.site i).laneAt_vecOrScalar _ _ hl]
    rfl

/-- An operation of one operand. -/
theorem State.writesV_v3_one {s : State} {i : Nat} {c : Instr} {f : FmtV3} (hcan : s.canIssue i = true) (op : V3Op)
    (he : exec c s = .next (s.issueAt i (loneVec (.v3 op f)) Checks.clean)) (huse : v3Uses op = 1) {g : Word → LaneResult}
    (hg : ∀ x y z, v3Fn op x y z = g x) :
    WritesV s i c f.m f.vd.toNat fun l =>
      ((g (laneAt ((s.site i).vreg f.va.toNat) l).bits).1, (g (laneAt ((s.site i).vreg f.va.toNat) l).bits).2,
        (laneAt ((s.site i).vreg f.va.toNat) l).poison) :=
  State.writesV_v3 hcan op he fun l => by simp [hg, huse]

/-- An operation of two operands. -/
theorem State.writesV_v3_two {s : State} {i : Nat} {c : Instr} {f : FmtV3} (hcan : s.canIssue i = true) (op : V3Op)
    (he : exec c s = .next (s.issueAt i (loneVec (.v3 op f)) Checks.clean)) (huse : v3Uses op = 2) {g : Word → Word → LaneResult}
    (hg : ∀ x y z, v3Fn op x y z = g x y) :
    WritesV s i c f.m f.vd.toNat fun l =>
      let x := laneAt ((s.site i).vreg f.va.toNat) l
      let y := (s.site i).broadcastLane f.vb f.bs l
      ((g x.bits y.bits).1, (g x.bits y.bits).2, x.poison || y.poison) :=
  State.writesV_v3 hcan op he fun l => by simp [hg, huse]

/-- An operation of three operands. -/
theorem State.writesV_v3_three {s : State} {i : Nat} {c : Instr} {f : FmtV3} (hcan : s.canIssue i = true) (op : V3Op)
    (he : exec c s = .next (s.issueAt i (loneVec (.v3 op f)) Checks.clean)) (huse : v3Uses op = 3) :
    WritesV s i c f.m f.vd.toNat fun l =>
      let x := laneAt ((s.site i).vreg f.va.toNat) l
      let y := (s.site i).broadcastLane f.vb f.bs l
      let z := (s.site i).broadcastLane f.vc f.cs l
      ((v3Fn op x.bits y.bits z.bits).1, (v3Fn op x.bits y.bits z.bits).2, x.poison || y.poison || z.poison) :=
  State.writesV_v3 hcan op he fun l => by simp [huse]

theorem Site.laneAt_accOperand (a : Site) (row : Nat) {l : Nat} (hl : l < 64) :
    laneAt (a.accOperand row) l =
      { bits := (a.accRow ((row + l / 32) % 512)).cols.getD (l % 32) 0
        poison := if l % 32 < 16 then (a.accRow ((row + l / 32) % 512)).pLo else (a.accRow ((row + l / 32) % 512)).pHi } :=
  laneAt_laneNos_map _ hl

/-- Two codes of one magnitude and opposite signs name opposite values. -/
theorem FloatFmt.decode_negate (f : FloatFmt) {u v : Nat} (hsign : u.testBit f.sign = !v.testBit f.sign)
    (hmag : u % 2 ^ f.sign = v % 2 ^ f.sign) : f.decode u = (f.decode v).negate := by
  unfold FloatFmt.decode
  rw [hsign, hmag]
  dsimp only
  split
  · split
    · split <;> rfl
    · rfl
  · split <;> rfl

/-- A subtraction adds the operand with its sign turned (R160). -/
theorem fsub_eq (u v : Word) : fsub u v = fadd u (v ^^^ 0x80000000) := by
  have hneg : (v ^^^ 0x80000000).toNat.testBit 31 = !v.toNat.testBit 31 := by
    rw [BitVec.testBit_toNat, BitVec.testBit_toNat]
    simp
  have hmag : (v ^^^ 0x80000000).toNat % 2 ^ 31 = v.toNat % 2 ^ 31 := by
    rw [BitVec.toNat_xor, Nat.xor_mod_two_pow]
    simp
  rw [fsub, fadd, dec32, dec32, dec32, fmtFP32.decode_negate hneg hmag]

end Sys2Proof.Machine

open Sys2Proof Sys2Proof.Machine

/-- Settles O11: each operation is a lane-wise function of one, two or three operands (R160, R161). -/
theorem vectorFloat : Obligations.VectorFloat := by
  intro s i f hcan
  have one := @State.writesV_v3_one s i
  have two := @State.writesV_v3_two s i
  have three := @State.writesV_v3_three s i
  exact ⟨two hcan .add rfl rfl fun _ _ _ => rfl, two hcan .sub rfl rfl fun u v _ => fsub_eq u v,
    two hcan .mul rfl rfl fun _ _ _ => rfl, three hcan .fma rfl rfl, three hcan .fms rfl rfl, three hcan .fnma rfl rfl,
    two hcan .min rfl rfl fun _ _ _ => rfl, two hcan .max rfl rfl fun _ _ _ => rfl,
    one hcan .abs rfl rfl fun _ _ _ => rfl, one hcan .neg rfl rfl fun _ _ _ => rfl, one hcan .mov rfl rfl fun _ _ _ => rfl,
    one hcan .rcp rfl rfl fun _ _ _ => rfl, one hcan .rsqrt rfl rfl fun _ _ _ => rfl, one hcan .sqrt rfl rfl fun _ _ _ => rfl,
    one hcan .exp2 rfl rfl fun _ _ _ => rfl, one hcan .log2 rfl rfl fun _ _ _ => rfl⟩

/-- Settles O12: lane-wise operations whose operand is an immediate or a lane of the ACC port (R159). -/
theorem vectorImmediateAndAcc : Obligations.VectorImmediateAndAcc := by
  intro s i f g hcan
  have imm := fun (c : Instr) (op : VIOp) => @State.writesV_lanes s i c (.vi op f) f.vd
  have acc := fun (c : Instr) (op : VAOp) => @State.writesV_lanes s i c (.va op g) g.vd
  have port (l : Nat) (hl : l < 64) : laneAt ((s.atClock i).accOperand g.row.toNat) l = _ :=
    (s.site i).laneAt_accOperand g.row.toNat hl
  have lane (r : BitVec 5) (k : BitVec 1) (l : Nat) (hl : l < 64) :
      laneAt ((s.atClock i).vecOrScalar r k) l = (s.site i).broadcastLane r k l := (s.site i).laneAt_vecOrScalar r k hl
  refine ⟨imm _ .addi hcan rfl rfl fun _ _ => rfl, imm _ .muli hcan rfl rfl fun _ _ => rfl, imm _ .movi hcan rfl rfl fun _ _ => rfl,
    acc _ .rda hcan rfl rfl fun l hl => ?_, acc _ .add hcan rfl rfl fun l hl => ?_, acc _ .mul hcan rfl rfl fun l hl => ?_,
    acc _ .fma hcan rfl rfl fun l hl => ?_⟩
  · simp only [port l hl]
  · simp only [port l hl, lane _ _ l hl]
    rfl
  · simp only [port l hl, lane _ _ l hl]
    rfl
  · simp only [port l hl, lane _ _ l hl]
    rfl

/-- Settles O13: lane-wise functions of two operands without flags, and the conversions (R162). -/
theorem vectorIntegers : Obligations.VectorIntegers := by
  intro s i f hcan
  have one := @State.writesV_v3_one s i
  have two := @State.writesV_v3_two s i
  have int {c : Instr} (op : V3Op) (he) (huse) {g : Word → Word → Word} (hg : ∀ x y z, v3Fn op x y z = (g x y, 0)) :=
    two (c := c) (f := f) hcan op he huse (g := fun x y => (g x y, 0)) hg
  exact ⟨int .iadd rfl rfl fun _ _ _ => rfl, int .isub rfl rfl fun _ _ _ => rfl, int .imul rfl rfl fun _ _ _ => rfl,
    int .and rfl rfl fun _ _ _ => rfl, int .or rfl rfl fun _ _ _ => rfl, int .xor rfl rfl fun _ _ _ => rfl,
    int .shl rfl rfl fun u v _ => congrArg (·, 0) (aluFn_shl u v), int .shr rfl rfl fun u v _ => congrArg (·, 0) (aluFn_shr u v),
    int .sra rfl rfl fun u v _ => congrArg (·, 0) (aluFn_sra u v), int .imin rfl rfl fun u v _ => congrArg (·, 0) (aluFn_min u v),
    int .imax rfl rfl fun u v _ => congrArg (·, 0) (aluFn_max u v),
    one hcan .cvtF2I rfl rfl fun _ _ _ => rfl, one hcan .cvtI2F rfl rfl fun _ _ _ => rfl⟩

/-- Settles O14: lane-wise operations that read a lane, a table or the counters of Philox (R162, R165, R167). -/
theorem vectorTables : Obligations.VectorTables := by
  intro s i u t m k hcan hk
  refine ⟨State.writesV_lanes (op := .unpk u) hcan rfl rfl fun l hl => ?_,
    State.writesV_lanes (op := .lut t) hcan rfl rfl fun l hl => rfl,
    State.writesV_lanes (op := .sample m) hcan rfl rfl fun l hl => ?_⟩
  · simp only [hk, Option.getD_some]
    rfl
  · by_cases hu : m.u = 1
    · simp only [hu, if_true]
      rfl
    · simp only [hu, if_false]
      rfl

end

section
/-! Proofs about the reductions (O17). -/

namespace Sys2Proof.Machine

/-! ### The tree -/

/-- Two neighbours of a tree combined (R164). -/
def combine (g : Word → Word → LaneResult) (a b : LaneResult) : LaneResult := ((g a.1 b.1).1, (g a.1 b.1).2 ||| a.2 ||| b.2)

theorem redLevel_range (g : Word → Word → LaneResult) (n : Nat) (leaf : Nat → LaneResult) :
    redLevel g ((List.range (2 * n)).map leaf) = (List.range n).map fun p => combine g (leaf (2 * p)) (leaf (2 * p + 1)) := by
  induction n generalizing leaf with
  | zero => rfl
  | succ n ih =>
    have htwo : (List.range (2 * (n + 1))).map leaf = leaf 0 :: leaf 1 :: (List.range (2 * n)).map (fun p => leaf (p + 2)) := by
      simp [Nat.mul_add, List.range_succ_eq_map, Function.comp_def]
    rw [htwo, redLevel, ih, List.range_succ_eq_map, List.map_cons, List.map_map]
    rfl

/-- The leaves combined in pairs are the leaves of a tree with one level less. -/
theorem treeValue_succ (g : Word → Word → LaneResult) (leaf : Nat → LaneResult) (k p : Nat) :
    treeValue g leaf (k + 1) p = treeValue g (fun p => combine g (leaf (2 * p)) (leaf (2 * p + 1))) k p := by
  induction k generalizing p with
  | zero => rfl
  | succ k ih => rw [treeValue, ih, ih, treeValue]

theorem redTree_range (g : Word → Word → LaneResult) (k : Nat) (leaf : Nat → LaneResult) :
    redTree g k ((List.range (2 ^ k)).map leaf) = treeValue g leaf k 0 := by
  induction k generalizing leaf with
  | zero => rfl
  | succ k ih => rw [redTree, Nat.pow_succ', redLevel_range, ih, treeValue_succ]

/-! ### The largest lane -/

/-- A strictly rising list whose least upper element in VMAX's order is `k` is reduced to `k`. -/
theorem foldl_best {below : Nat → Nat → Bool} {k : Nat} (xs : List Nat) (b : Nat) (hsorted : (b :: xs).Pairwise (· < ·))
    (hk : k ∈ b :: xs) (hmax : ∀ l ∈ b :: xs, below k l = false) (hfirst : ∀ l ∈ b :: xs, l < k → below l k = true) :
    xs.foldl (fun b l => if below b l then l else b) b = k := by
  induction xs generalizing b with
  | nil => exact (List.mem_singleton.mp hk).symm
  | cons x t ih =>
    have hbx : b < x := (List.pairwise_cons.mp hsorted).1 x (List.mem_cons_self ..)
    have hxt : (x :: t).Pairwise (· < ·) := (List.pairwise_cons.mp hsorted).2
    have hbt : (b :: t).Pairwise (· < ·) := hsorted.sublist (List.Sublist.cons_cons b (List.sublist_cons_self x t))
    have subx : ∀ l ∈ x :: t, l ∈ b :: x :: t := fun l hl => List.mem_cons_of_mem _ hl
    have subb : ∀ l ∈ b :: t, l ∈ b :: x :: t := fun l hl => by
      rcases List.mem_cons.mp hl with rfl | hl
      · exact List.mem_cons_self ..
      · exact List.mem_cons_of_mem _ (List.mem_cons_of_mem _ hl)
    rw [List.foldl_cons]
    split
    case isTrue hlt =>
      have hkb : k ≠ b := fun e => by
        rw [← e, hmax x (subx x (List.mem_cons_self ..))] at hlt
        cases hlt
      exact ih x hxt ((List.mem_cons.mp hk).resolve_left hkb) (fun l hl => hmax l (subx l hl)) fun l hl => hfirst l (subx l hl)
    case isFalse hge =>
      have hkx : k ≠ x := fun e => hge (e ▸ hfirst b (List.mem_cons_self ..) (e ▸ hbx))
      refine ih b hbt ?_ (fun l hl => hmax l (subb l hl)) fun l hl => hfirst l (subb l hl)
      rcases List.mem_cons.mp hk with rfl | hk
      · exact List.mem_cons_self ..
      · exact List.mem_cons_of_mem _ ((List.mem_cons.mp hk).resolve_left hkx)

/-! ### What a reduction writes -/

/-- The two results of a reduction: lane 0, with lane 1 for VRARGMAX, and lane 0's flags. -/
def Site.redResults (a : Site) (n : Nat) (vd : BitVec 5) (poison two : Bool) (r : Word × Nat × Flags) : List Result :=
  [.v vd.toNat (laneNos.map fun l =>
      if l = 0 then (if poison then Config.poisonedBits a.seq.epoch n 0 else r.1, BitVec.allOnes 32, poison)
      else if l = 1 && two then
        (if poison then Config.poisonedBits a.seq.epoch n 1 else BitVec.ofNat 32 r.2.1, BitVec.allOnes 32, poison)
      else (0, 0, false)),
    .flags (3, vd.toNat) (laneNos.map fun l => if l = 0 && !poison then r.2.2 else 0)]

theorem Site.LanesWritten.redResults {b a : Site} {vd : BitVec 5} {old : Nat → Lane}
    (h : b.LanesWritten a vd.toNat old (fun _ => 0)) (n : Nat) (poison two : Bool) (r : Word × Nat × Flags) :
    b.LanesWritten ((b.redResults n vd poison two r).foldl Site.apply a) vd.toNat
      (fun l => if l = 0 then ⟨if poison then Config.poisonedBits b.seq.epoch n 0 else r.1, poison⟩
        else if l = 1 && two then ⟨if poison then Config.poisonedBits b.seq.epoch n 1 else BitVec.ofNat 32 r.2.1, poison⟩
        else old l)
      (fun l => if l = 0 && !poison then r.2.2 else 0) := by
  simp only [Site.redResults, List.foldl_cons, List.foldl_nil]
  refine ((h.apply_v _).apply_flags _ _).congr (fun l hl => ?_) fun _ _ => BitVec.zero_or
  rw [getD_laneNos_map _ _ hl]
  split
  · exact Lane.merge_all _ _ _
  · split
    · exact Lane.merge_all _ _ _
    · exact Lane.merge_none _ _ _

/-- An active lane of the operand carries poison (R164). -/
def Site.redPoison (a : Site) (f : FmtRD) : Bool :=
  laneNos.any fun l => a.active f.m l && (laneAt (a.vreg f.va.toNat) l).poison

/-- What a reduction gives: the value, the lane and the flags (R164). -/
def Site.redValue (a : Site) (op : RedOp) (f : FmtRD) : Word × Nat × Flags :=
  let leaf := fun (unit : Word) (l : Nat) => (if a.active f.m l then (laneAt (a.vreg f.va.toNat) l).bits else unit, (0 : Flags))
  let tree := fun (g : Word → Word → LaneResult) (unit : Word) => treeValue g (leaf unit) 6 0
  match op with
  | .sum => ((tree fadd 0x80000000).1, 0, (tree fadd 0x80000000).2)
  | .max => ((tree fmax (inf32 true)).1, 0, (tree fmax (inf32 true)).2)
  | .min => ((tree fmin (inf32 false)).1, 0, (tree fmin (inf32 false)).2)
  | .argmax => argMax (a.vreg f.va.toNat) (laneNos.filter (a.active f.m))

theorem Site.issueRed_eq (a : Site) (n : Nat) (op : RedOp) (f : FmtRD) :
    a.issueRed n op f =
      a.laters (n + latVector) rankVector (a.redResults n f.vd (a.redPoison f) (decide (op = .argmax)) (a.redValue op f)) := by
  unfold Site.issueRed
  extract_lets v act poison tree sum max min r two w fl
  have hpoison : poison = a.redPoison f := List.any_filter
  have htree (g : Word → Word → LaneResult) (unit : Word) : tree g unit = treeValue g _ 6 0 := redTree_range g 6 _
  have hvalue : r = a.redValue op f := by
    cases op
    case argmax => rfl
    all_goals
      simp only [r]
      rfl
  rw [a.later_later, Site.redResults, ← hpoison, ← hvalue]

theorem State.changesV_red {s : State} {i : Nat} {c : Instr} {f : FmtRD} (hcan : s.canIssue i = true) (op : RedOp)
    (hm : ¬(f.m.mask = 0 ∧ f.m.minv = 1)) (he : exec c s = .next (s.issueAt i (loneVec (.red op f)) Checks.clean))
    {new : Nat → Lane} {fl : Nat → Flags} :
    let p := (s.site i).redPoison f
    let r := (s.site i).redValue op f
    (∀ l, l < 64 → new l =
      if l = 0 then ⟨if p then Config.poisonedBits (s.site i).seq.epoch (s.issueCycle i) 0 else r.1, p⟩
      else if l = 1 && decide (op = .argmax) then
        ⟨if p then Config.poisonedBits (s.site i).seq.epoch (s.issueCycle i) 1 else BitVec.ofNat 32 r.2.1, p⟩
      else laneAt ((s.site i).vreg f.vd.toNat) l) →
    (∀ l, l < 64 → fl l = if l = 0 && !p then r.2.2 else 0) → ChangesV s i c 4 f.vd.toNat new fl := by
  intro p r hnew hfl
  have hlanes : noLanes (vecMask (.red op f)) = false := by
    simpa [noLanes, vecMask] using fun h => not_and.mp hm h
  refine State.changesV_vec (rs := (s.site i).redResults (s.issueCycle i) f.vd p (decide (op = .argmax)) r) he hcan ?_
    (by simp [Site.redResults, Result.isScalar]) fun a ha => (ha.redResults _ _ _ _).congr (fun l hl => (hnew l hl).symm)
      fun l hl => (hfl l hl).symm
  exact (Site.issueVec_of_lanes _ _ hlanes).trans ((s.atClock i).issueRed_eq _ op f)

/-! ### VRARGMAX -/

theorem pairwise_lt_active (p : Nat → Bool) : (laneNos.filter p).Pairwise (· < ·) := List.pairwise_lt_range.filter _

theorem mem_active {p : Nat → Bool} {l : Nat} : l ∈ laneNos.filter p ↔ l < 64 ∧ p l = true := by
  simp [laneNos]

/-- The signalling flags of the active lanes (R164). -/
def sigOf (v : Lanes) (p : Nat → Bool) : Flags :=
  (laneNos.filter p).foldl (fun f l => f ||| (dec32 (laneAt v l).bits).sigFlag) 0

theorem sigOf_eq (v : Lanes) (p : Nat → Bool) :
    sigOf v p =
      (List.range 64).foldl (fun f l => if decide (l < 64) && p l then f ||| (dec32 (laneAt v l).bits).sigFlag else f) 0 := by
  rw [sigOf, List.foldl_filter]
  refine List.foldl_ext _ _ _ fun f l hl => ?_
  simp [List.mem_range.mp hl]

theorem argMax_none {v : Lanes} {p : Nat → Bool} (h : ∀ l, l < 64 → p l = false) :
    argMax v (laneNos.filter p) = (inf32 true, 64, sigOf v p) := by
  have hnone : laneNos.filter p = [] := List.filter_eq_nil_iff.mpr fun l hl => by
    simp [h l (List.mem_range.mp hl)]
  rw [sigOf, hnone]
  rfl

/-- With an active NaN the lowest of them counts. -/
theorem argMax_nan {v : Lanes} {p : Nat → Bool} {k : Nat} (hk : k < 64) (hp : p k = true)
    (hnan : (dec32 (laneAt v k).bits).isNan = true)
    (hlow : ∀ l, l < k → p l = true → (dec32 (laneAt v l).bits).isNan = false) :
    argMax v (laneNos.filter p) = (nan32, k, sigOf v p) := by
  have hfind : (laneNos.filter p).find? (fun l => (dec32 (laneAt v l).bits).isNan) = some k := by
    rw [List.find?_filter, laneNos, List.find?_range_eq_some]
    refine ⟨by simp [hp, hnan], List.mem_range.mpr hk, fun l hl => ?_⟩
    cases hpl : p l with
    | false => simp
    | true => simp [hlow l hl hpl]
  unfold argMax
  rw [hfind]
  rfl

/-- Without an active NaN the first of the largest active lanes counts. -/
theorem argMax_best {v : Lanes} {p : Nat → Bool} {k : Nat} (hk : k < 64) (hp : p k = true)
    (hnan : ∀ l, l < 64 → p l = true → (dec32 (laneAt v l).bits).isNan = false)
    (hmax : ∀ l, l < 64 → p l = true → maxLess (laneAt v k).bits (laneAt v l).bits = false)
    (hfirst : ∀ l, l < 64 → p l = true → l < k → maxLess (laneAt v l).bits (laneAt v k).bits = true) :
    argMax v (laneNos.filter p) = ((laneAt v k).bits, k, sigOf v p) := by
  have hnone : (laneNos.filter p).find? (fun l => (dec32 (laneAt v l).bits).isNan) = none :=
    List.find?_eq_none.mpr fun l hl => by simp [hnan l (mem_active.mp hl).1 (mem_active.mp hl).2]
  unfold argMax
  rw [hnone]
  dsimp only
  split
  case h_1 hempty => exact absurd (mem_active.mpr ⟨hk, hp⟩) (by simp [hempty])
  case h_2 b t hact =>
    have hmem : ∀ l, l ∈ b :: t ↔ l < 64 ∧ p l = true := fun l => hact ▸ mem_active
    have hbest := foldl_best (below := fun b l => maxLess (laneAt v b).bits (laneAt v l).bits) t b
      (hact ▸ pairwise_lt_active p) ((hmem k).mpr ⟨hk, hp⟩) (fun l hl => hmax l ((hmem l).mp hl).1 ((hmem l).mp hl).2)
      fun l hl => hfirst l ((hmem l).mp hl).1 ((hmem l).mp hl).2
    rw [hbest]
    rfl

end Sys2Proof.Machine

open Sys2Proof Sys2Proof.Machine

/-- Settles O17: the model's list of neighbours is the fixed tree of R164, and its search is the first largest lane. -/
theorem reductions : Obligations.Reductions := by
  refine ⟨fun s i f hcan hm => ?trees, fun s i f k v hcan hm => ?largest⟩
  case trees =>
    have red (c : Instr) (op : RedOp) := @State.changesV_red s i c f hcan op hm
    refine ⟨red _ .sum rfl (fun l _ => ?_) fun l _ => ?_, red _ .max rfl (fun l _ => ?_) fun l _ => ?_,
      red _ .min rfl (fun l _ => ?_) fun l _ => ?_⟩
    all_goals simp [Site.redPoison, laneNos, Site.redValue, inf32]
  case largest =>
    intro b a act nan sig below hclean hcases
    have hact : ∀ l, l < 64 → act l = b.active f.m l := fun l hl => by simp [act, hl]
    have hlt : ∀ l, act l = true → l < 64 := fun l hl => by simp_all [act]
    have hpoison : (s.site i).redPoison f = false := List.any_eq_false.mpr fun l hl => by
      have hl := List.mem_range.mp hl
      rw [Bool.and_eq_true, not_and, Bool.not_eq_true]
      exact fun hp => hclean l ((hact l hl).trans hp)
    have hvalue : (s.site i).redValue .argmax f = (v, k, sig) := by
      have hsig : sigOf (b.vreg f.va.toNat) (b.active f.m) = sig := sigOf_eq _ _
      rw [← hsig]
      rcases hcases with ⟨hnone, rfl, rfl⟩ | ⟨hk, hnan, hlow, rfl⟩ | ⟨hk, hbest, rfl⟩
      · exact argMax_none fun l hl => (hact l hl).symm.trans (hnone l)
      · exact argMax_nan (hlt k hk) ((hact k (hlt k hk)).symm.trans hk) hnan fun l hl hp =>
          hlow l hl ((hact l (hl.trans (hlt k hk))).trans hp)
      · have best (l : Nat) (hl : l < 64) (hp : b.active f.m l = true) := hbest l ((hact l hl).trans hp)
        exact argMax_best (hlt k hk) ((hact k (hlt k hk)).symm.trans hk) (fun l hl hp => (best l hl hp).1)
          (fun l hl hp => (best l hl hp).2.1) fun l hl hp => (best l hl hp).2.2
    refine State.changesV_red hcan .argmax hm rfl (fun l _ => ?_) fun l _ => ?_
    · simp [hpoison, hvalue, b]
    · simp [hpoison, hvalue]

end

section
/-! Proofs about lane extraction and the flags (O18). -/

namespace Sys2Proof.Machine

/-- A lone vector operation that puts one result in flight. -/
theorem State.slots5_vec_later {s : State} {i at_ rank : Nat} {op : VecOp} {res : Result} (hcan : s.canIssue i = true)
    (hvec : (s.atClock i).issueVec (s.issueCycle i) op = (s.atClock i).later at_ rank res) :
    (s.atClock i).slots5 (s.issueCycle i) (loneVec op) Checks.clean =
      ((((s.atClock i).later at_ rank res).finish (s.issueCycle i) .fall).clocked (s.issueCycle i + 1), []) := by
  obtain ⟨-, -, -, -, hidle⟩ := (s.canIssue_iff i).mp hcan
  obtain ⟨-, hfeeds, hloads, hreload, -⟩ := (s.site i).idle_iff.mp hidle
  rw [Site.slots5_vec, hvec, Site.wide_none ((s.atClock i).later at_ rank res) _ hfeeds hloads hreload]

/-- What lane `l` of a mask that has every lane of some set says. -/
theorem getLsbD_lanes (p : Nat → Bool) {l : Nat} (hl : l < 64) :
    (laneNos.foldl (fun w l => if p l then w ||| BitVec.twoPow 64 l else w) (0 : DWord)).getLsbD l = p l := by
  rw [getLsbD_foldl_twoPow p laneNos 0 hl]
  simp [laneNos, hl]

theorem Site.laneFlags_clrLanes (a : Site) (w : DWord) (l : Nat) :
    (a.apply (.clrLanes w)).laneFlags l = if w.getLsbD l then 0 else a.laneFlags l := by
  change aget 0 (a.vec.flags.filter fun e => !w.getLsbD e.1) l = if w.getLsbD l then 0 else aget 0 a.vec.flags l
  rw [aget_eq, aget_eq, alook_filter_key _ (fun k => !w.getLsbD k)]
  cases w.getLsbD l <;> rfl

/-- An operation that puts nothing in flight goes on to the next bundle and changes nothing else. -/
theorem State.passes_vec {s : State} {i : Nat} {op : VecOp} (hcan : s.canIssue i = true)
    (hvec : (s.atClock i).issueVec (s.issueCycle i) op = s.atClock i) :
    let t := s.issueAt i (loneVec op) Checks.clean
    Moved s t i ∧ t.site i = { s.site i with seq := (t.site i).seq } ∧ (∀ n, (t.seen i n).sameRegs (s.site i)) ∧
      ∀ n, ∃ k, t.seen i n = (t.site i).clocked k := by
  intro t
  obtain ⟨hflight, hmoved⟩ := State.issueAt_vec hcan op (rs := []) (c := 0) (hvec.trans (Site.laters_nil _ _ _).symm)
  obtain ⟨-, -, -, -, hidle⟩ := (s.canIssue_iff i).mp hcan
  obtain ⟨-, hrest⟩ := (s.site i).idle_iff.mp hidle
  have hstill : (t.site i).idle = true := by
    rw [hflight, Site.idle_iff]
    exact ⟨rfl, hrest⟩
  refine ⟨hmoved, by rw [hflight]; rfl, fun n => ?_, fun n => ?_⟩
  · have hsame := State.seen_sameRegs_of_idle hstill n
    rw [hflight] at hsame
    exact hsame
  · obtain ⟨k, hk⟩ := (t.site i).settle_of_idle n hstill
    exact ⟨k, by rw [State.seen, hk, Site.arrive_idle _ _ (Site.idle_clocked _ _ hstill)]⟩

/-- A mask whose lane is active names some lane. -/
theorem Site.noLanes_of_active {a : Site} {m : VMask} {l : Nat} (hl : l < 64) (h : a.active m l = true) : noLanes m = false := by
  by_contra hnone
  rw [a.active_of_noLanes (eq_true_of_ne_false hnone) hl] at h
  cases h

/-! ### VEXT -/

theorem State.vext_outcome {s : State} {i : Nat} {f : FmtEX} (hcan : s.canIssue i = true) :
    let x := laneAt ((s.site i).vreg f.va.toNat) f.lane.toNat
    let on := (s.site i).active f.m f.lane.toNat
    (on = true → x.poison = false → WritesS s i (.vext i f .clean) f.sd.toNat 4 x.bits) ∧
    (on = true → x.poison = true → StopsWith s i (.vext i f .clean) .poison 0) ∧
    (on = false → ∃ t, exec (.vext i f .clean) s = .next t ∧ Moved s t i ∧
      t.site i = { s.site i with seq := (t.site i).seq } ∧ ∀ n, (t.seen i n).sameRegs (s.site i)) := by
  intro x on
  have he : exec (.vext i f .clean) s = .next (s.issueAt i (loneVec (.ext f)) Checks.clean) := rfl
  have hactive : (s.atClock i).active f.m f.lane.toNat = on := rfl
  have hlane : laneAt ((s.atClock i).vreg f.va.toNat) f.lane.toNat = x := rfl
  have hext : (s.atClock i).issueExt (s.issueCycle i) f =
      if !on then s.atClock i
      else if x.poison then (s.atClock i).consumeLane (s.issueCycle i) f.lane.toNat f.va.toNat
      else (s.atClock i).later (s.issueCycle i + latVector) rankVector (.s f.sd.toNat x.bits) := rfl
  have hbody (hon : on = true) : (s.atClock i).issueVec (s.issueCycle i) (.ext f) = (s.atClock i).issueExt (s.issueCycle i) f :=
    Site.issueVec_of_lanes _ _ (op := .ext f) (Site.noLanes_of_active (a := s.site i) f.lane.isLt hon)
  refine ⟨fun hon hclean => ?_, fun hon hpoison => ?_, fun hoff => ?_⟩
  · exact s.writesS i _ 4 rankVector _ _ _ he hcan (by decide) (by decide) rfl
      (State.slots5_vec_later hcan ((hbody hon).trans (hext.trans (by simp [hon, hclean, latVector]))))
  · exact State.stopsWith_vec he hcan rfl ((hbody hon).trans (hext.trans (by simp [hon, hpoison]; rfl)))
  · have hnop : (s.atClock i).issueVec (s.issueCycle i) (.ext f) = s.atClock i := by
      have hid : (s.atClock i).vecBody (s.issueCycle i) (.ext f) = s.atClock i := hext.trans (by simp [hoff])
      rw [Site.issueVec, hid, ite_self]
    obtain ⟨hmoved, hsite, hregs, -⟩ := State.passes_vec hcan hnop
    exact ⟨_, he, hmoved, hsite, hregs⟩

/-! ### VFCLR -/

theorem State.vfclr_lanes {s : State} {i : Nat} (m : VMask) (hcan : s.canIssue i = true) :
    ∃ t, exec (.vfclr i m 0 .clean) s = .next t ∧ Moved s t i ∧
      (let a := t.seen i (s.issueCycle i + 4)
       a.sameRegs (s.site i) ∧ a.mat = (s.site i).mat ∧ a.scr = (s.site i).scr ∧
       ∀ l, l < 64 → a.laneFlags l = if (s.site i).active m l then 0 else (s.site i).laneFlags l) := by
  refine ⟨s.issueAt i (loneVec (.fclr m 0)) Checks.clean, rfl, ?_⟩
  cases hlanes : noLanes m with
  | true =>
    obtain ⟨hmoved, hsite, hregs, hseen⟩ := State.passes_vec (op := .fclr m 0) hcan (if_pos hlanes)
    obtain ⟨k, hk⟩ := hseen (s.issueCycle i + 4)
    refine ⟨hmoved, hregs _, ?_, ?_, fun l hl => ?_⟩ <;> rw [hk, hsite]
    · rfl
    · rfl
    · rw [(s.site i).active_of_noLanes hlanes hl]
      rfl
  | false =>
    have hvec : (s.atClock i).issueVec (s.issueCycle i) (.fclr m 0) = (s.atClock i).later (s.issueCycle i + 4) 0 (.clrLanes _) :=
      Site.issueVec_of_lanes _ _ (op := .fclr m 0) hlanes
    obtain ⟨hmoved, hsite⟩ := s.issueAt_later i 4 0 _ _ hcan rfl (State.slots5_vec_later hcan hvec)
    refine ⟨hmoved, ?_⟩
    simp only [s.seen_later _ i 4 0 _ hcan (by decide) (by decide) hsite]
    refine ⟨⟨fun _ => rfl, fun _ => rfl, fun _ => rfl, fun _ => rfl, fun _ => rfl⟩, rfl, rfl, fun l hl => ?_⟩
    exact (Site.laneFlags_clrLanes _ _ l).trans (by rw [getLsbD_lanes _ hl]; rfl)

theorem State.vfclr_cols {s : State} {i : Nat} {m : VMask} (hcan : s.canIssue i = true) (hlanes : noLanes m = false) :
    ∃ t, exec (.vfclr i m 1 .clean) s = .next t ∧ Moved s t i ∧
      (let a := t.seen i (s.issueCycle i + 4)
       a.sameRegs (s.site i) ∧ a.scr = (s.site i).scr ∧ (∀ l, a.laneFlags l = (s.site i).laneFlags l) ∧
       ∀ c, a.colFlags c = 0) := by
  have hvec : (s.atClock i).issueVec (s.issueCycle i) (.fclr m 1) = (s.atClock i).later (s.issueCycle i + 4) 0 .clrCols :=
    Site.issueVec_of_lanes _ _ (op := .fclr m 1) hlanes
  obtain ⟨hmoved, hsite⟩ := s.issueAt_later i 4 0 _ _ hcan rfl (State.slots5_vec_later hcan hvec)
  refine ⟨s.issueAt i (loneVec (.fclr m 1)) Checks.clean, rfl, hmoved, ?_⟩
  simp only [s.seen_later _ i 4 0 _ hcan (by decide) (by decide) hsite]
  exact ⟨⟨fun _ => rfl, fun _ => rfl, fun _ => rfl, fun _ => rfl, fun _ => rfl⟩, rfl, fun _ => rfl, fun _ => rfl⟩

end Sys2Proof.Machine

open Sys2Proof Sys2Proof.Machine

/-- Settles O18: VEXT puts one scalar result in flight, or none, or stops the site; VFRD is lane-wise; VFCLR puts one clear in
flight (R168, R169). -/
theorem laneExtractAndFlags : Obligations.LaneExtractAndFlags := by
  refine ⟨fun s i f hcan => State.vext_outcome hcan, fun s i f m hcan => ⟨fun hsel => ?_, fun hsel => ?_,
    State.vfclr_lanes m hcan, fun hm => State.vfclr_cols hcan (by simpa [noLanes] using fun h => not_and.mp hm h)⟩⟩
  · exact State.writesV_lanes (op := .frd f) hcan rfl rfl fun l _ => by
      simp only [hsel, if_true]
      rfl
  · exact State.writesV_lanes (op := .frd f) hcan rfl rfl fun l _ => by
      simp only [hsel, show ¬(1 : BitVec 1) = 0 by decide, if_false]
      rfl

end

section
/-! Proofs about NaNs (O19). -/

namespace Sys2Proof.Machine

/-- A word that is no NaN but the canonical one (R183). -/
def NanCanonical (w : Word) : Prop := (dec32 w).isNan = true → w = nan32

theorem nanCanonical_of_not_nan {w : Word} (h : (dec32 w).isNan = false) : NanCanonical w := fun hn => by
  rw [h] at hn
  cases hn

theorem nanCanonical_nan32 : NanCanonical nan32 := fun _ => rfl

theorem nanCanonical_inf32 (n : Bool) : NanCanonical (inf32 n) := nanCanonical_of_not_nan (by cases n <;> decide)

theorem nanCanonical_zero32 (n : Bool) : NanCanonical (zero32 n) := nanCanonical_of_not_nan (by cases n <;> decide)

/-- A code of a finite magnitude is no NaN. -/
theorem FloatFmt.isNan_decode_of_finite (f : FloatFmt) {code : Nat} (h : code % 2 ^ f.sign ≤ f.maxFin) :
    (f.decode code).isNan = false := by
  unfold FloatFmt.decode
  dsimp only
  rw [if_neg (Nat.not_lt.mpr h)]
  split <;> rfl

theorem nanCanonical_round32 (n : Bool) (m : Nat) (e : Int) (sticky : Bool) : NanCanonical (round32 n m e sticky).1 := by
  unfold round32
  split
  next mag inexact tiny hmag =>
    split
    · exact nanCanonical_inf32 n
    · next hfin =>
      refine nanCanonical_of_not_nan (fmtFP32.isNan_decode_of_finite ?_)
      have hle : mag ≤ 2139095039 := Nat.not_lt.mp hfin
      have hcode : (BitVec.ofNat 32 (fmtFP32.withSign n mag)).toNat % 2 ^ 31 = mag := by
        rw [BitVec.toNat_ofNat]
        cases n
        · change (mag + 0) % 2 ^ 32 % 2 ^ 31 = mag
          omega
        · change (mag + 2 ^ 31) % 2 ^ 32 % 2 ^ 31 = mag
          omega
      exact hcode.le.trans hle

theorem nanCanonical_round (x : FpF) : NanCanonical (Fp.round x).1 := by
  obtain ⟨v, fl⟩ := x
  cases v with
  | nan s => exact nanCanonical_nan32
  | inf n => exact nanCanonical_inf32 n
  | fin n m e =>
    unfold Fp.round
    dsimp only
    split
    · exact nanCanonical_zero32 n
    · exact nanCanonical_round32 n m e false

theorem nanCanonical_exact32 (x : Fp) : NanCanonical x.exact32 := by
  cases x with
  | nan s => exact nanCanonical_nan32
  | inf n => exact nanCanonical_inf32 n
  | fin n m e =>
    unfold Fp.exact32
    dsimp only
    split
    · exact nanCanonical_zero32 n
    · exact nanCanonical_round32 n m e false

/-! ### The operations that do not round a sum or a product -/

theorem nanCanonical_fmin (a b : Word) : NanCanonical (fmin a b).1 := by
  unfold fmin
  dsimp only
  split
  · exact nanCanonical_nan32
  · next h =>
    simp only [Bool.or_eq_true, not_or, Bool.not_eq_true] at h
    split_ifs
    · exact nanCanonical_of_not_nan h.1
    · exact nanCanonical_of_not_nan h.2
    · exact nanCanonical_of_not_nan h.1
    · exact nanCanonical_of_not_nan h.2

theorem nanCanonical_fmax (a b : Word) : NanCanonical (fmax a b).1 := by
  unfold fmax
  dsimp only
  split
  · exact nanCanonical_nan32
  · next h =>
    simp only [Bool.or_eq_true, not_or, Bool.not_eq_true] at h
    split_ifs
    · exact nanCanonical_of_not_nan h.2
    · exact nanCanonical_of_not_nan h.1
    · exact nanCanonical_of_not_nan h.2
    · exact nanCanonical_of_not_nan h.1

theorem nanCanonical_frcp (a : Word) : NanCanonical (frcp a).1 := by
  unfold frcp
  split
  · exact nanCanonical_nan32
  · exact nanCanonical_zero32 _
  · split
    · exact nanCanonical_inf32 _
    · exact nanCanonical_round32 _ _ _ _

theorem nanCanonical_frsqrt (a : Word) : NanCanonical (frsqrt a).1 := by
  unfold frsqrt
  split
  · exact nanCanonical_nan32
  · split
    · exact nanCanonical_nan32
    · exact nanCanonical_zero32 _
  · split
    · exact nanCanonical_inf32 _
    · split
      · exact nanCanonical_nan32
      · exact nanCanonical_round32 _ _ _ _

theorem nanCanonical_fsqrt (a : Word) : NanCanonical (fsqrt a).1 := by
  unfold fsqrt
  split
  · exact nanCanonical_nan32
  · split
    · exact nanCanonical_nan32
    · exact nanCanonical_inf32 _
  · split
    · exact nanCanonical_zero32 _
    · split
      · exact nanCanonical_nan32
      · exact nanCanonical_round32 _ _ _ _

theorem nanCanonical_fexp2 (a : Word) : NanCanonical (fexp2 a).1 := by
  unfold fexp2
  split
  · exact nanCanonical_nan32
  · split
    · exact nanCanonical_zero32 _
    · exact nanCanonical_inf32 _
  · dsimp only
    split_ifs
    · exact nanCanonical_of_not_nan (by decide)
    all_goals exact nanCanonical_round32 _ _ _ _

theorem nanCanonical_flog2 (a : Word) : NanCanonical (flog2 a).1 := by
  unfold flog2
  split
  · exact nanCanonical_nan32
  · split
    · exact nanCanonical_nan32
    · exact nanCanonical_inf32 _
  · dsimp only
    split_ifs
    · exact nanCanonical_inf32 _
    · exact nanCanonical_nan32
    · exact nanCanonical_zero32 false
    all_goals exact nanCanonical_round32 _ _ _ _

theorem nanCanonical_cvtI2F (a : Word) : NanCanonical (cvtI2F a).1 := by
  unfold cvtI2F
  split
  · exact nanCanonical_zero32 false
  · exact nanCanonical_round32 _ _ _ _

theorem nanCanonical_unpack (k : ElemFmt) (a : Word) : NanCanonical (unpack k a).1 := by
  unfold unpack
  split
  · exact nanCanonical_cvtI2F _
  · exact nanCanonical_exact32 _

end Sys2Proof.Machine

open Sys2Proof Sys2Proof.Machine

/-- Settles O19: what is rounded is finite or an infinity, and what is a NaN by case is written as the canonical one (R183). -/
theorem nansAreCanonical : Obligations.NansAreCanonical := fun a b _ k _ _ =>
  ⟨nanCanonical_round _, nanCanonical_round _, nanCanonical_round _, nanCanonical_round _, nanCanonical_fmin a b,
    nanCanonical_fmax a b, nanCanonical_frcp a, nanCanonical_frsqrt a, nanCanonical_fsqrt a, nanCanonical_fexp2 a,
    nanCanonical_flog2 a, nanCanonical_cvtI2F a, nanCanonical_unpack k a⟩

end

section
/-! Proofs about the output conversion (O15). -/

namespace Sys2Proof.Machine

/-! ### Elements packed into lanes -/

/-- Elements of `size` bytes that are written into the lanes of a register: which lanes give one, the byte at which each
starts, its code and its poison. -/
structure Packing where
  on : Nat → Bool
  start : Nat → Nat
  size : Nat
  code : Nat → Nat
  bad : Nat → Bool

/-- What is written into lane `d`: the word, which of its bits, and poison (Table 5.8). -/
def Packing.entry (p : Packing) (d : Nat) : Word × Word × Bool :=
  laneNos.foldl (fun e l =>
    if p.on l && p.start l / 4 == d then
      (e.1 ||| BitVec.ofNat 32 (p.code l * 2 ^ (8 * (p.start l % 4))),
        e.2.1 ||| BitVec.ofNat 32 ((2 ^ (8 * p.size) - 1) * 2 ^ (8 * (p.start l % 4))), e.2.2 || p.bad l)
    else e) (0, 0, false)

/-- Lane `l` gives an element that holds byte `x` of the register. -/
def Packing.Covers (p : Packing) (l x : Nat) : Prop := l < 64 ∧ p.on l = true ∧ p.start l ≤ x ∧ x < p.start l + p.size

/-- Elements aligned to their size, disjoint, and no larger than it. -/
structure Packing.Wf (p : Packing) : Prop where
  size : p.size = 1 ∨ p.size = 2 ∨ p.size = 4
  aligned : ∀ l, p.start l % p.size = 0
  disjoint : ∀ l k x, p.Covers l x → p.Covers k x → l = k
  fits : ∀ l, p.code l < 2 ^ (8 * p.size)
  clean : ∀ l, l < 64 → p.on l = true → p.bad l = false

/-- The bits of words ORed together over a list. -/
theorem getLsbD_foldl_or (c : Nat → Bool) (f : Nat → Word) (ls : List Nat) (w : Word) (j : Nat) :
    (ls.foldl (fun w l => if c l then w ||| f l else w) w).getLsbD j = (w.getLsbD j || ls.any fun l => c l && (f l).getLsbD j) := by
  induction ls generalizing w with
  | nil => simp
  | cons l t ih =>
    rw [List.foldl_cons, ih]
    cases hc : c l <;> simp [hc, Bool.or_assoc]

section
variable {p : Packing}

theorem Packing.entry_word (d j : Nat) : (p.entry d).1.getLsbD j =
    laneNos.any fun l => (p.on l && p.start l / 4 == d) && (BitVec.ofNat 32 (p.code l * 2 ^ (8 * (p.start l % 4)))).getLsbD j := by
  have hfold := getLsbD_foldl_or (fun l => p.on l && p.start l / 4 == d)
    (fun l => BitVec.ofNat 32 (p.code l * 2 ^ (8 * (p.start l % 4)))) laneNos 0 j
  simp only [BitVec.ofNat_eq_ofNat, BitVec.getLsbD_zero, Bool.false_or] at hfold
  rw [← hfold]
  refine congrArg (BitVec.getLsbD · j) (List.foldl_hom (f := Prod.fst) (init := (0, 0, false)) fun e l => ?_).symm
  split <;> rfl

theorem Packing.entry_which (d j : Nat) : (p.entry d).2.1.getLsbD j =
    laneNos.any fun l => (p.on l && p.start l / 4 == d) &&
      (BitVec.ofNat 32 ((2 ^ (8 * p.size) - 1) * 2 ^ (8 * (p.start l % 4)))).getLsbD j := by
  have hfold := getLsbD_foldl_or (fun l => p.on l && p.start l / 4 == d)
    (fun l => BitVec.ofNat 32 ((2 ^ (8 * p.size) - 1) * 2 ^ (8 * (p.start l % 4)))) laneNos 0 j
  simp only [BitVec.ofNat_eq_ofNat, BitVec.getLsbD_zero, Bool.false_or] at hfold
  rw [← hfold]
  refine congrArg (BitVec.getLsbD · j)
    (List.foldl_hom (f := fun e : Word × Word × Bool => e.2.1) (init := (0, 0, false)) fun e l => ?_).symm
  split <;> rfl

theorem foldl_entry_poison (h : p.Wf) (d : Nat) : (p.entry d).2.2 = false := by
  refine List.foldlRecOn (motive := fun e : Word × Word × Bool => e.2.2 = false) laneNos _ rfl fun e he l hl => ?_
  split
  · next hc => rw [he, h.clean l (List.mem_range.mp hl) (Bool.and_eq_true_iff.mp hc).1, Bool.or_false]
  · exact he

/-- A bit of a lane lies in an element exactly where its byte does. -/
theorem Packing.Wf.bit_iff (h : p.Wf) (l d : Nat) {n i : Nat} (hn : n < 4) (hi : i < 8) :
    (p.start l / 4 = d ∧ 8 * (p.start l % 4) ≤ 8 * n + i ∧ 8 * n + i - 8 * (p.start l % 4) < 8 * p.size) ↔
      p.start l ≤ 4 * d + n ∧ 4 * d + n < p.start l + p.size := by
  have ha := h.aligned l
  rcases h.size with hs | hs | hs <;> rw [hs] at ha ⊢ <;> omega

theorem Packing.Wf.which_iff (h : p.Wf) (d : Nat) {n i : Nat} (hn : n < 4) (hi : i < 8) :
    (p.entry d).2.1.getLsbD (8 * n + i) = true ↔ ∃ l, p.Covers l (4 * d + n) := by
  have hword : 8 * n + i < 32 := by omega
  rw [Packing.entry_which, List.any_eq_true]
  refine exists_congr fun l => ?_
  rw [Packing.Covers, ← h.bit_iff l d hn hi]
  simp only [laneNos, List.mem_range, Bool.and_eq_true, beq_iff_eq, BitVec.getLsbD_ofNat, Nat.testBit_mul_two_pow,
    Nat.testBit_two_pow_sub_one, decide_eq_true_eq, hword, true_and]
  tauto

theorem Packing.Wf.word_of_covers (h : p.Wf) {l d n i : Nat} (hn : n < 4) (hi : i < 8) (hl : p.Covers l (4 * d + n)) :
    (p.entry d).1.getLsbD (8 * n + i) = (p.code l).testBit (8 * (4 * d + n - p.start l) + i) := by
  obtain ⟨h64, hon, hrange⟩ := hl
  obtain ⟨hlane, hlow, hhigh⟩ := (h.bit_iff l d hn hi).mpr hrange
  have hpos : 8 * n + i - 8 * (p.start l % 4) = 8 * (4 * d + n - p.start l) + i := by omega
  rw [Packing.entry_word, Bool.eq_iff_iff, List.any_eq_true, ← hpos]
  constructor
  · rintro ⟨k, hk, hbit⟩
    simp only [Bool.and_eq_true, beq_iff_eq, BitVec.getLsbD_ofNat, Nat.testBit_mul_two_pow, decide_eq_true_eq] at hbit
    obtain ⟨⟨hkon, hklane⟩, -, hklow, hkbit⟩ := hbit
    have hkhigh : 8 * n + i - 8 * (p.start k % 4) < 8 * p.size := by
      by_contra hge
      rw [Nat.testBit_lt_two_pow (lt_of_lt_of_le (h.fits k) (Nat.pow_le_pow_right (by decide) (Nat.not_lt.mp hge)))] at hkbit
      cases hkbit
    have hkl : k = l := h.disjoint k l (4 * d + n)
      ⟨List.mem_range.mp hk, hkon, (h.bit_iff k d hn hi).mp ⟨hklane, hklow, hkhigh⟩⟩ ⟨h64, hon, hrange⟩
    exact hkl ▸ hkbit
  · intro hbit
    refine ⟨l, List.mem_range.mpr h64, ?_⟩
    simp only [Bool.and_eq_true, beq_iff_eq, BitVec.getLsbD_ofNat, Nat.testBit_mul_two_pow, decide_eq_true_eq]
    exact ⟨⟨hon, hlane⟩, by omega, hlow, hbit⟩

end

/-! ### The bytes of a lane after the elements are written -/

/-- Byte `n` of a lane. -/
def Lane.byte (u : Lane) (n : Nat) : Nat := u.bits.toNat / 256 ^ n % 256

theorem testBit_byte (x n i : Nat) : (x / 256 ^ n % 256).testBit i = (decide (i < 8) && x.testBit (8 * n + i)) := by
  have h8 : (256 : Nat) ^ n = 2 ^ (8 * n) := by rw [Nat.pow_mul]
  rw [h8, show (256 : Nat) = 2 ^ 8 from rfl, Nat.testBit_mod_two_pow, Nat.testBit_div_two_pow, Nat.add_comm]

theorem Lane.getLsbD_merge (old : Lane) (e : Word × Word × Bool) {j : Nat} (hj : j < 32) :
    (old.merge e).bits.getLsbD j = if e.2.1.getLsbD j then e.1.getLsbD j else old.bits.getLsbD j := by
  unfold Lane.merge
  split
  · next h0 => rw [h0]; simp
  · simp only [BitVec.getLsbD_or, BitVec.getLsbD_and, BitVec.getLsbD_not, hj, decide_true, Bool.true_and]
    cases e.2.1.getLsbD j <;> simp

/-- A byte that an element covers is the element's. -/
theorem Packing.Wf.byte_covered {p : Packing} (h : p.Wf) (old : Lane) {l x : Nat} (hl : p.Covers l x) :
    (old.merge (p.entry (x / 4))).byte (x % 4) = p.code l / 256 ^ (x - p.start l) % 256 := by
  have hn : x % 4 < 4 := Nat.mod_lt _ (by decide)
  have hx : 4 * (x / 4) + x % 4 = x := Nat.div_add_mod x 4
  have hl' : p.Covers l (4 * (x / 4) + x % 4) := hx.symm ▸ hl
  refine Nat.eq_of_testBit_eq fun i => ?_
  rw [Lane.byte, testBit_byte, testBit_byte]
  by_cases hi : i < 8
  · have hbit := old.getLsbD_merge (p.entry (x / 4)) (j := 8 * (x % 4) + i) (by omega)
    rw [(h.which_iff (x / 4) hn hi).mpr ⟨l, hl'⟩, if_pos rfl, h.word_of_covers hn hi hl', hx] at hbit
    rw [BitVec.testBit_toNat, hbit]
  · simp [hi]

/-- A byte that no element covers stays. -/
theorem Packing.Wf.byte_uncovered {p : Packing} (h : p.Wf) (old : Lane) {d n : Nat} (hn : n < 4)
    (hl : ¬∃ l, p.Covers l (4 * d + n)) : (old.merge (p.entry d)).byte n = old.byte n := by
  refine Nat.eq_of_testBit_eq fun i => ?_
  rw [Lane.byte, Lane.byte, testBit_byte, testBit_byte]
  by_cases hi : i < 8
  · have hbit := old.getLsbD_merge (p.entry d) (j := 8 * n + i) (by omega)
    rw [if_neg (mt (h.which_iff d hn hi).mp hl)] at hbit
    rw [BitVec.testBit_toNat, hbit, BitVec.testBit_toNat]
  · simp [hi]

/-- A lane whose bytes are all covered loses its poison (R166). -/
theorem Packing.Wf.poison_covered {p : Packing} (h : p.Wf) (old : Lane) {d : Nat}
    (hl : ∀ n, n < 4 → ∃ l, p.Covers l (4 * d + n)) : (old.merge (p.entry d)).poison = false := by
  have hall : (p.entry d).2.1 = BitVec.allOnes 32 := by
    refine BitVec.eq_of_getLsbD_eq fun j hj => ?_
    have hbit := (h.which_iff d (n := j / 8) (i := j % 8) (by omega) (Nat.mod_lt _ (by decide))).mpr (hl _ (by omega))
    rw [Nat.div_add_mod] at hbit
    rw [hbit, BitVec.getLsbD_allOnes]
    exact (decide_eq_true hj).symm
  unfold Lane.merge
  rw [if_neg (by rw [hall]; decide)]
  dsimp only
  rw [if_pos hall, foldl_entry_poison h d]

/-- A lane with a byte that no element covers keeps its poison. -/
theorem Packing.Wf.poison_uncovered {p : Packing} (h : p.Wf) (old : Lane) {d n : Nat} (hn : n < 4)
    (hl : ¬∃ l, p.Covers l (4 * d + n)) : (old.merge (p.entry d)).poison = old.poison := by
  have hnot : (p.entry d).2.1 ≠ BitVec.allOnes 32 := fun hall => by
    refine hl ((h.which_iff d hn (i := 0) (by decide)).mp ?_)
    rw [hall, BitVec.getLsbD_allOnes]
    exact decide_eq_true (by omega)
  unfold Lane.merge
  split
  · rfl
  · dsimp only
    rw [foldl_entry_poison h d, Bool.or_false]

/-! ### The codes of Table 6.6 -/

/-- A format whose codes fit `8 * size` bits. -/
structure FloatFmt.Fits (g : FloatFmt) (size : Nat) : Prop where
  sign : g.sign + 1 ≤ 8 * size
  finite : g.maxFin < 2 ^ g.sign
  nan : g.nan < 2 ^ (8 * size)
  inf : ∀ i, g.inf = some i → i < 2 ^ g.sign

theorem FloatFmt.Fits.withSign {g : FloatFmt} {size : Nat} (h : g.Fits size) (n : Bool) {mag : Nat} (hm : mag < 2 ^ g.sign) :
    g.withSign n mag < 2 ^ (8 * size) := by
  have htwo : 2 ^ g.sign + 2 ^ g.sign ≤ 2 ^ (8 * size) :=
    (Nat.two_pow_succ g.sign).symm.le.trans (Nat.pow_le_pow_right (by decide) h.sign)
  unfold FloatFmt.withSign
  split <;> omega

theorem ElemFmt.fits {k : ElemFmt} {g : FloatFmt} (h : k.float = some g) : g.Fits k.size := by
  cases k <;> cases h <;>
    exact ⟨by decide, by decide, by decide, fun i hi => by cases hi <;> decide⟩

theorem cvtInt8_lt (y : Word) : (cvtInt8 y).1 < 2 ^ 8 := by
  unfold cvtInt8
  split
  · decide
  · split <;> decide
  · split
    split
    · decide
    · split
      · decide
      · dsimp only
        omega

theorem outConvert_lt (k : ElemFmt) (sat : Bool) (y : Word) : (outConvert k sat y).1 < 2 ^ (8 * k.size) := by
  unfold outConvert
  split
  · next hg =>
    have hk : k.size = 1 := by
      cases k with
      | int8 => rfl
      | _ => cases hg
    rw [hk]
    exact cvtInt8_lt y
  · next g hg =>
    have h := ElemFmt.fits hg
    split
    · exact h.nan
    · split
      · exact h.withSign _ h.finite
      · split
        · next i hi => exact h.withSign _ (h.inf i hi)
        · exact h.nan
    · split
      · next hk =>
        rw [hk]
        exact y.isLt
      · split
        · exact h.withSign _ (Nat.two_pow_pos _)
        · split
          split
          · split
            · exact h.withSign _ h.finite
            · dsimp only
              split
              · next i hi => exact h.withSign _ (h.inf i hi)
              · exact h.nan
          · next hle => exact h.withSign _ (lt_of_le_of_lt (Nat.not_lt.mp hle) h.finite)

/-! ### The output conversion -/

/-- The format of an output conversion. -/
def ocvtFormat (f : FmtOC) : ElemFmt := (ElemFmt.ofCode f.fmt.toNat).getD .fp32

/-- Operand X of an output conversion. -/
def Site.ocvtX (a : Site) (f : FmtOC) (l : Nat) : Lane :=
  if f.as = 1 then laneAt (a.accOperand f.src.toNat) l else laneAt (a.vreg (f.src.toNat % 32)) l

/-- What lane `l` converts to, and its flags (R166). -/
def Site.ocvtOne (a : Site) (f : FmtOC) (l : Nat) : Nat × Flags :=
  let x := if f.as = 1 && f.itype = 1 then cvtI2F (a.ocvtX f l).bits else ((a.ocvtX f l).bits, 0)
  let y := ffma false false x.1 (laneAt (a.vecOrScalar f.vsc f.ssc) l).bits (laneAt (a.vecOrScalar f.vbi f.sbi) l).bits
  let z := if f.clip = 1 then clip y.1 (a.sreg f.scl.toNat) (a.sreg (f.scl.toNat + 1)) else y.1
  let r := outConvert (ocvtFormat f) (f.sat = 1) z
  (r.1, r.2 ||| y.2 ||| x.2)

/-- An operand of lane `l` carries poison. -/
def Site.ocvtBad (a : Site) (f : FmtOC) (l : Nat) : Bool :=
  (a.ocvtX f l).poison || (laneAt (a.vecOrScalar f.vsc f.ssc) l).poison || (laneAt (a.vecOrScalar f.vbi f.sbi) l).poison

/-- The elements that an output conversion writes. -/
def Site.ocvtPacking (a : Site) (n : Nat) (f : FmtOC) : Packing where
  on := a.active f.m
  start := ocvtByte (ocvtFormat f) f.qsel.toNat
  size := (ocvtFormat f).size
  code l := if a.ocvtBad f l then (Config.poisonedBits a.seq.epoch n l).toNat % 2 ^ (8 * (ocvtFormat f).size) else (a.ocvtOne f l).1
  bad := a.ocvtBad f

/-- The two results of an output conversion. -/
def Site.ocvtResults (a : Site) (n : Nat) (f : FmtOC) : List Result :=
  [.v f.vd.toNat (laneNos.map (a.ocvtPacking n f).entry),
    .flags (3, f.vd.toNat) (laneNos.map fun l => if a.active f.m l && !a.ocvtBad f l then (a.ocvtOne f l).2 else 0)]

theorem Site.issueOcvt_eq (a : Site) (n : Nat) (f : FmtOC) :
    a.issueOcvt n f = a.laters (n + latVector) rankVector (a.ocvtResults n f) := by
  have hx (l : Nat) : laneAt (if f.as = 1 then a.accOperand f.src.toNat else a.vreg (f.src.toNat % 32)) l = a.ocvtX f l := by
    unfold Site.ocvtX
    split <;> rfl
  unfold Site.issueOcvt
  simp only [hx]
  rw [a.later_later]
  rfl

/-- The first byte of the elements of quarter `q` (Table 5.8). -/
def ocvtBase (k : ElemFmt) (q : Nat) : Nat :=
  match k.size with
  | 4 => 0
  | 2 => 128 * (q / 2)
  | _ => 64 * q

theorem ocvtByte_eq (k : ElemFmt) (q l : Nat) : ocvtByte k q l = ocvtBase k q + k.size * l := by
  cases k <;> simp only [ocvtByte, ocvtBase, ElemFmt.size] <;> omega

theorem Site.ocvtPacking_wf (a : Site) (n : Nat) (f : FmtOC)
    (hclean : ∀ l, l < 64 → a.active f.m l = true → a.ocvtBad f l = false) : (a.ocvtPacking n f).Wf where
  size := by
    change (ocvtFormat f).size = 1 ∨ (ocvtFormat f).size = 2 ∨ (ocvtFormat f).size = 4
    cases ocvtFormat f <;> decide
  aligned l := by
    change ocvtByte (ocvtFormat f) f.qsel.toNat l % (ocvtFormat f).size = 0
    rw [ocvtByte_eq]
    cases ocvtFormat f <;> simp only [ocvtBase, ElemFmt.size] <;> omega
  disjoint l k x hl hk := by
    obtain ⟨-, -, hl1, hl2⟩ := hl
    obtain ⟨-, -, hk1, hk2⟩ := hk
    simp only [Site.ocvtPacking, ocvtByte_eq] at hl1 hl2 hk1 hk2
    generalize ocvtBase (ocvtFormat f) f.qsel.toNat = base at hl1 hl2 hk1 hk2
    cases hf : ocvtFormat f <;> simp only [hf, ElemFmt.size] at hl1 hl2 hk1 hk2 <;> omega
  fits l := by
    unfold Site.ocvtPacking
    dsimp only
    split
    · exact Nat.mod_lt _ (Nat.two_pow_pos _)
    · exact outConvert_lt _ _ _
  clean := hclean

theorem State.changesV_ocvt {s : State} {i : Nat} {f : FmtOC} (hcan : s.canIssue i = true) :
    ChangesV s i (.ocvt i f .clean) 4 f.vd.toNat
      (fun d => (laneAt ((s.site i).vreg f.vd.toNat) d).merge (((s.site i).ocvtPacking (s.issueCycle i) f).entry d))
      (fun l => if (s.site i).active f.m l && !(s.site i).ocvtBad f l then ((s.site i).ocvtOne f l).2 else 0) := by
  have he : exec (.ocvt i f .clean) s = .next (s.issueAt i (loneVec (.ocvt f)) Checks.clean) := rfl
  cases hlanes : noLanes f.m with
  | true =>
    have hoff := fun l hl => (s.site i).active_of_noLanes hlanes (l := l) hl
    refine State.changesV_vec (rs := []) he hcan ?_ (by simp) fun a ha => ha.congr (fun d hd => ?_) fun l hl => ?_
    · rw [Site.laters_nil, Site.issueVec]
      exact if_pos hlanes
    · have hempty : ((s.site i).ocvtPacking (s.issueCycle i) f).entry d = (0, 0, false) :=
        List.foldlRecOn (motive := fun e : Word × Word × Bool => e = (0, 0, false)) laneNos _ rfl fun e he l hl => by
          rw [if_neg (by simp [Site.ocvtPacking, hoff l (List.mem_range.mp hl)]), he]
      rw [hempty]
      exact (Lane.merge_none _ _ _).symm
    · simp [hoff l hl]
  | false =>
    refine State.changesV_vec (rs := (s.site i).ocvtResults (s.issueCycle i) f) he hcan ?_ (by simp [Site.ocvtResults, Result.isScalar])
      fun a ha => ?_
    · exact (Site.issueVec_of_lanes _ _ (op := .ocvt f) hlanes).trans ((s.atClock i).issueOcvt_eq _ f)
    · simp only [Site.ocvtResults, List.foldl_cons, List.foldl_nil]
      exact ((ha.apply_v _).apply_flags _ _).congr (fun l hl => by rw [getD_laneNos_map _ _ hl]) fun _ _ => BitVec.zero_or

end Sys2Proof.Machine

open Sys2Proof Sys2Proof.Machine

/-- Settles O15: the elements of the active lanes are aligned and disjoint, so that each byte of VD is one element's or stays
(Table 5.8). -/
theorem outputConversion : Obligations.OutputConversion := by
  intro s i f k hcan hk _ _ _ hitype b x sc bi hclean v y z r byte written
  have hfmt : ocvtFormat f = k := by rw [ocvtFormat, hk]; rfl
  have hsc (l : Nat) (hl : l < 64) : laneAt (b.vecOrScalar f.vsc f.ssc) l = sc l := b.laneAt_vecOrScalar _ _ hl
  have hbi (l : Nat) (hl : l < 64) : laneAt (b.vecOrScalar f.vbi f.sbi) l = bi l := b.laneAt_vecOrScalar _ _ hl
  have hbad (l : Nat) (hl : l < 64) (hon : b.active f.m l = true) : b.ocvtBad f l = false := by
    obtain ⟨hx, hs, hb⟩ := hclean l hl hon
    change ((x l).poison || (laneAt (b.vecOrScalar f.vsc f.ssc) l).poison || (laneAt (b.vecOrScalar f.vbi f.sbi) l).poison) = false
    rw [hsc l hl, hbi l hl, hx, hs, hb]
    rfl
  have hint : (f.as = 1 && f.itype = 1) = decide (f.itype = 1) := by
    rcases BitVec.eq_zero_or_eq_one f.as with has | has
    · rw [has, hitype has]
      rfl
    · rw [has]
      rfl
  have hone (l : Nat) (hl : l < 64) : b.ocvtOne f l =
      ((r l).1, (r l).2 ||| (y l).2 ||| (if f.itype = 1 then (cvtI2F (x l).bits).2 else 0)) := by
    have hX : b.ocvtX f l = x l := rfl
    unfold Site.ocvtOne
    simp only [hX, hint, hsc l hl, hbi l hl, hfmt, decide_eq_true_eq]
    by_cases hi : f.itype = 1
    · simp only [hi, if_true, r, z, y, v]
    · simp only [hi, if_false, r, z, y, v]
  let p := b.ocvtPacking (s.issueCycle i) f
  have hp : p.Wf := b.ocvtPacking_wf _ f hbad
  have hcovers (l n : Nat) : p.Covers l n ↔
      l < 64 ∧ b.active f.m l = true ∧ ocvtByte k f.qsel.toNat l ≤ n ∧ n < ocvtByte k f.qsel.toNat l + k.size := by
    rw [← hfmt]
    rfl
  have hcode (l : Nat) (hl : l < 64) (hon : b.active f.m l = true) : p.code l = (r l).1 := by
    change (if b.ocvtBad f l then _ else (b.ocvtOne f l).1) = _
    rw [hbad l hl hon, hone l hl]
    rfl
  have hwritten (n : Nat) : (∃ l, p.Covers l n) ↔ written n := exists_congr fun l => hcovers l n
  obtain ⟨t, he, hmoved, hlanes, hothers⟩ := State.changesV_ocvt (f := f) hcan
  have hlane (d : Nat) (hd : d < 64) : laneAt ((t.seen i (s.issueCycle i + 4)).vreg f.vd.toNat) d =
      (laneAt (b.vreg f.vd.toNat) d).merge (p.entry d) := (hlanes d hd).1
  refine ⟨t, he, hmoved, fun l n hl hn hon => ?_, fun d n hd hn hnot => ?_, fun d hd hall => ?_, fun d n hd hn hnot => ?_,
    fun l hl => ?_, hothers⟩
  · have hcov : p.Covers l (ocvtByte k f.qsel.toNat l + n) := (hcovers l _).mpr ⟨hl, hon, by omega, by omega⟩
    have hend : ocvtByte k f.qsel.toNat l + n < 256 := by
      have hq := f.qsel.isLt
      rw [ocvtByte_eq]
      cases k <;> simp only [ocvtBase, ElemFmt.size] at hn ⊢ <;> omega
    rw [hlane _ (by omega)]
    refine (hp.byte_covered _ hcov).trans ?_
    rw [hcode l hl hon, show p.start l = ocvtByte k f.qsel.toNat l by rw [← hfmt]; rfl, Nat.add_sub_cancel_left]
  · rw [hlane d hd]
    exact hp.byte_uncovered _ hn (mt (hwritten _).mp hnot)
  · rw [hlane d hd]
    exact hp.poison_covered _ fun n hn => (hwritten _).mpr (hall n hn)
  · rw [hlane d hd]
    exact hp.poison_uncovered _ hn (mt (hwritten _).mp hnot)
  · refine (hlanes l hl).2.trans (congrArg (b.laneFlags l ||| ·) ?_)
    change (if b.active f.m l && !b.ocvtBad f l then (b.ocvtOne f l).2 else 0) = _
    cases hon : b.active f.m l with
    | false => rfl
    | true =>
      rw [hbad l hl hon, hone l hl]
      rfl

end

section
/-! Proofs about bundles that issue nothing: a false guard (O7), and a fetch (O8). -/

namespace Sys2Proof.Machine

/-! ### A lone operation whose guard is false -/

/-- The bundle of a command of a slot holds one operation. -/
theorem Instr.bundle?_lone {c : Instr} {b : Bundle} (h : c.bundle? = some b) :
    b = loneScalar b.scal ∨ b = loneExch b.exch ∨ b = loneMat b.mat ∨ b = loneLs b.ls ∨ b = loneVec b.vec := by
  cases c <;> cases h <;> simp [loneScalar, loneExch, loneMat, loneLs, loneVec, Bundle.nops]

/-- A NOP has no guard that could be false. -/
theorem Site.guard_zero (a : Site) : a.guard 0 = true := rfl

theorem Site.stalls_of_guard (a : Site) (n : Nat) {op : ExchOp} (h : a.guard (exchGuard op) = false) : a.stalls n op = false := by
  cases op with
  | recvV f => exact Bool.and_eq_false_iff.mpr (.inl h)
  | recvS f => exact Bool.and_eq_false_iff.mpr (.inl h)
  | _ => rfl

/-- A lone operation whose guard is false does what five NOPs do, and does not stall (R119). -/
theorem Site.slots5_of_guard (a : Site) (n : Nat) {b : Bundle} (hvec : b.vec = .nop)
    (hlone : b = loneScalar b.scal ∨ b = loneExch b.exch ∨ b = loneMat b.mat ∨ b = loneLs b.ls ∨ b = loneVec b.vec)
    (hg : a.guard (scalarGuard b.scal) = false ∨ a.guard (exchGuard b.exch) = false ∨
      a.guard (matGuard b.mat) = false ∨ a.guard (lsGuard b.ls) = false) :
    a.slots5 n b Checks.clean = a.slots5 n (loneScalar .nop) Checks.clean ∧ a.stalls n b.exch = false := by
  have htrue (h : a.guard 0 = false) : False := by
    rw [a.guard_zero] at h
    cases h
  rw [Site.slots5_scalar, Site.issueScalar_nop]
  rcases hlone with hb | hb | hb | hb | hb
  · have hfalse : a.guard (scalarGuard b.scal) = false := by
      rw [hb] at hg ⊢
      exact hg.elim id fun h => (h.elim htrue fun h => h.elim htrue htrue).elim
    rw [hb]
    refine ⟨?_, rfl⟩
    rw [Site.slots5_scalar, Site.issueScalar, if_neg (by simp [hfalse])]
  · have hfalse : a.guard (exchGuard b.exch) = false := by
      rw [hb] at hg ⊢
      exact hg.elim (fun h => (htrue h).elim) fun h => h.elim id fun h => (h.elim htrue htrue).elim
    rw [hb]
    refine ⟨?_, ?_⟩
    · rw [Site.slots5_exch, Site.issueExch, if_neg (by simp [hfalse])]
    · exact a.stalls_of_guard n hfalse
  · have hfalse : a.guard (matGuard b.mat) = false := by
      rw [hb] at hg ⊢
      exact hg.elim (fun h => (htrue h).elim) fun h => h.elim (fun h => (htrue h).elim) fun h => h.elim id fun h => (htrue h).elim
    rw [hb]
    refine ⟨?_, rfl⟩
    rw [Site.slots5_mat]
    unfold Site.issueMat
    rw [if_neg (by simp [hfalse])]
  · have hfalse : a.guard (lsGuard b.ls) = false := by
      rw [hb] at hg ⊢
      exact hg.elim (fun h => (htrue h).elim) fun h => h.elim (fun h => (htrue h).elim) fun h => h.elim (fun h => (htrue h).elim) id
    rw [hb]
    refine ⟨?_, rfl⟩
    rw [Site.slots5_ls, Site.issueLs, if_neg (by simp [hfalse])]
  · rw [hvec] at hb
    rw [hb] at hg
    exact (hg.elim htrue fun h => h.elim htrue fun h => h.elim htrue htrue).elim

/-- A bundle that issues as another does leaves the module as the other does. -/
theorem State.issueAt_congr {s : State} {i : Nat} {b d : Bundle}
    (h : (s.site i).issue s.turn.geom.work b Checks.clean = (s.site i).issue s.turn.geom.work d Checks.clean) :
    s.issueAt i b Checks.clean = s.issueAt i d Checks.clean := by
  change (((s.setSite i ((s.site i).issue _ b Checks.clean).1).dispatch i ((s.site i).issue _ b Checks.clean).2).countSite i
    (s.site i) 0).countChecks i (s.site i) = _
  rw [h]
  rfl

/-! ### A fetch -/

/-- A site that does not run, has left its slot or has used up the work window issues no bundle, whichever it is. -/
theorem Site.issue_of_not_due {a : Site} {limit : Nat} (h : a.seq.status ≠ .running ∨ a.seq.pc > 1023 ∨ limit ≤ a.seq.next)
    (b : Bundle) (k : Checks) : a.issue limit b k = (a, []) := by
  unfold Site.issue
  rw [if_pos (by simpa [or_assoc] using h)]

/-- A fetch without an error issues the bundle at the program counter (R124). -/
theorem State.fetchAt_clean {s : State} {i : Nat} {b : Bundle} (hb : decodeBundle (s.site i).fetched = some b)
    (hlegal : b.legal = true) : s.fetchAt i .clean = .next (s.issueAt i b .clean) := by
  unfold State.fetchAt
  dsimp only
  split
  · next h =>
    have hdue : (s.site i).seq.status ≠ .running ∨ (s.site i).seq.pc > 1023 ∨ s.turn.geom.work ≤ (s.site i).seq.next := by
      simpa [or_assoc, fetchBad, Checks.clean] using h
    rw [State.issueAt_congr ((Site.issue_of_not_due hdue Bundle.nops _).trans (Site.issue_of_not_due hdue b _).symm)]
  · rw [hb]
    dsimp only
    rw [if_pos hlegal]

/-- A fetch with an error that the ECC cannot correct stops the site (R101). -/
theorem State.fetchAt_uncorrectable {s : State} {i : Nat} {k : Checks} (hcan : s.canIssue i = true)
    (hk : k = { Checks.clean with ecc := .uncorrectable }) :
    ∃ t, s.fetchAt i k = .next t ∧ ∃ f : SiteFault, f.cause = .eccUe ∧ f.cycle = s.issueCycle i ∧ f.pc = (s.site i).seq.pc ∧
      t.site i = { s.site i with
        faults := (s.site i).faults ++ [f]
        seq := { (s.site i).seq with status := .stopped (s.issueCycle i), clock := s.issueCycle i, next := s.issueCycle i + 1 } } := by
  obtain ⟨hrun, -, -, hclock, hidle⟩ := (s.canIssue_iff i).mp hcan
  have hfails : ∃ data, (s.site i).fetchFails =
      (let t := ((s.site i).clocked (s.issueCycle i)).raise .eccUe 0 (s.issueCycle i) data
       { t with seq := { t.seq with clock := s.issueCycle i, next := s.issueCycle i + 1 } }) := by
    unfold Site.fetchFails
    rw [if_neg (not_not.mpr hrun)]
    dsimp only
    rw [(s.site i).settle_idle _ hidle hclock, Site.arrive_idle _ _ (Site.idle_clocked _ _ hidle)]
    exact ⟨_, rfl⟩
  obtain ⟨data, hfails⟩ := hfails
  subst hk
  refine ⟨s.issueAt i Bundle.nops _, if_pos (by simp [fetchBad]), ?_⟩
  have hsite : (s.issueAt i Bundle.nops { Checks.clean with ecc := .uncorrectable }).site i = (s.site i).fetchFails := by
    simp [State.issueAt, fetchBad, Checks.clean, Site.upset_nil, State.dispatch, State.countChecks, State.countSite, wordsFixed,
      State.wearCorrected]
  rw [hsite, hfails]
  refine ⟨{ cause := .eccUe, detail := 0, cycle := s.issueCycle i, pc := (s.site i).seq.pc
            slot := ((s.site i).clocked (s.issueCycle i)).slotAt (s.issueCycle i), data := data, service := (s.site i).service },
    rfl, rfl, rfl, ?_⟩
  simp only [Site.raise, Site.clocked, hrun]

end Sys2Proof.Machine

open Sys2Proof Sys2Proof.Machine

/-- Settles O7: a slot whose guard is false hands its site on unchanged, as a NOP does (R119). -/
theorem falseGuardIsNop : Obligations.FalseGuardIsNop := by
  intro s i c b hcan _ hb _ hguard
  obtain ⟨hrun, hpc, hnext, hclock, hidle⟩ := (s.canIssue_iff i).mp hcan
  have hvec : b.vec = .nop := by tauto
  obtain ⟨hslots, hstalls⟩ := Site.slots5_of_guard (s.atClock i) (s.issueCycle i) hvec (Instr.bundle?_lone hb)
    (hguard.imp And.right (Or.imp And.right (Or.imp And.right And.right)))
  refine State.issueAt_congr ?_
  rw [Site.issue_idle _ _ _ _ hrun hpc hnext hclock hidle hstalls, Site.issue_idle _ _ _ _ hrun hpc hnext hclock hidle rfl]
  exact hslots

/-- Settles O8: a clean fetch issues what it decodes; one with an error raises ECC_UE in its cycle (R124, R137). -/
theorem fetchIssuesBundle : Obligations.FetchIssuesBundle := by
  intro s i b k hb hlegal
  refine ⟨State.fetchAt_clean hb hlegal, fun c hc => ?_, fun hcan hk => ?_⟩
  · have he : exec (.waitExpire i .clean) s = (s.modSite i Site.endWait).fetchAt i .clean := by
      simp [execWaitExpire, hc]
    have hend : s.modSite i Site.endWait =
        s.modSite i (fun a => { a with seq := { a.seq with status := .running } }) := by
      simp [State.modSite, Site.endWait, hc]
    rw [he, hend]
    refine State.fetchAt_clean ?_ hlegal
    rw [State.modSite, State.site_setSite_self]
    exact hb
  · obtain ⟨t, ht, f, hcause, hcycle, hpc, hsite⟩ := State.fetchAt_uncorrectable hcan hk
    refine ⟨t, ht, ?_, ?_, ?_, fun q => ?_⟩ <;> rw [hsite]
    · simp [hcause, hcycle, hpc]
    · rfl

end

section
/-! Proofs about the control flow of the scalar slot (O6). -/

namespace Sys2Proof.Machine

/-! ### A site with nothing in flight, loops apart -/

/-- Nothing is in flight at a site; loops may be open. -/
structure Site.AtRest (a : Site) : Prop where
  landings : a.seq.landings = []
  feeds : a.mat.feeds = []
  loads : a.mat.loads = []
  reload : a.reload = none

theorem Site.atRest_of_idle {a : Site} (h : a.idle = true) : a.AtRest := by
  obtain ⟨hlandings, hfeeds, hloads, hreload, -⟩ := a.idle_iff.mp h
  exact ⟨hlandings, hfeeds, hloads, hreload⟩

theorem Site.AtRest.clocked {a : Site} (h : a.AtRest) (c : Nat) : (a.clocked c).AtRest :=
  ⟨h.landings, h.feeds, h.loads, h.reload⟩

theorem Site.settle_atRest {a : Site} {c : Nat} (h : a.AtRest) (hc : a.seq.clock ≤ c) : a.settle c = a.clocked c := by
  exact a.settle_hold c hc (by simp [h.landings]) h.feeds h.loads h.reload

theorem Site.arrive_atRest {a : Site} (c : Nat) (h : a.AtRest) : a.arrive c = a := by
  rw [Site.arrive, a.land_none c h.landings, a.landRows_none c h.feeds, a.feedCheck_none c h.feeds]

theorem Site.early_atRest {a : Site} (c : Nat) (b : Bundle) (h : a.AtRest) : a.early c b = a := by
  exact a.early_none c b h.feeds h.loads h.reload

/-- A site with nothing in flight is seen as it is, whatever its clock. -/
theorem State.seen_of_atRest {t : State} {i : Nat} (h : (t.site i).AtRest) (c : Nat) :
    ∃ k, t.seen i c = (t.site i).clocked k := by
  rcases Nat.le_total (t.site i).seq.clock c with hle | hle
  · exact ⟨c, by rw [State.seen, Site.settle_atRest h hle]; exact Site.arrive_atRest _ (h.clocked c)⟩
  · refine ⟨max (t.site i).seq.clock c, ?_⟩
    have hsettle : (t.site i).settle c = (t.site i).clocked (max (t.site i).seq.clock c) := by
      rw [Site.settle, Nat.sub_eq_zero_of_le hle]
      rfl
    rw [State.seen, hsettle, Site.arrive_atRest _ (h.clocked _)]

/-- A site with one result in flight, seen as it lands. -/
theorem State.seen_landing {t : State} {i c rank : Nat} {res : Result}
    (hland : (t.site i).seq.landings = [{ at_ := c, rank := rank, res := res }]) (hfeeds : (t.site i).mat.feeds = [])
    (hloads : (t.site i).mat.loads = []) (hreload : (t.site i).reload = none) (hclock : (t.site i).seq.clock ≤ c)
    (hrank : rank < 5) : t.seen i c = (((t.site i).clocked c).apply res).landed := by
  rw [State.seen, Site.seen_one _ c _ hland hfeeds hloads hreload hclock rfl hrank]
  congr 2
  cases res <;> simp [Landing.settled]

/-! ### A site that can issue, whatever its loops -/

/-- Site `i` is at an issue cycle with nothing in flight; loops may be open. -/
structure State.Ready (s : State) (i : Nat) : Prop where
  running : (s.site i).seq.status = .running
  inSlot : (s.site i).seq.pc ≤ 1023
  inWindow : (s.site i).seq.next < s.turn.geom.work
  clock : (s.site i).seq.clock ≤ (s.site i).seq.next
  atRest : (s.site i).AtRest

theorem State.ready_of_canIssue {s : State} {i : Nat} (h : s.canIssue i = true) : s.Ready i := by
  obtain ⟨hrun, hpc, hnext, hclock, hidle⟩ := (s.canIssue_iff i).mp h
  exact ⟨hrun, hpc, hnext, hclock, Site.atRest_of_idle hidle⟩

/-- A lone bundle issues on the site as it stands. -/
theorem State.Ready.issue {s : State} {i : Nat} (h : s.Ready i) {b : Bundle} (hstall : (s.atClock i).stalls (s.issueCycle i) b.exch = false) :
    (s.site i).issue s.turn.geom.work b Checks.clean = (s.atClock i).slots5 (s.issueCycle i) b Checks.clean := by
  have hdue : ¬((s.site i).seq.status ≠ .running || (s.site i).seq.pc > 1023 || s.turn.geom.work ≤ (s.site i).seq.next) = true := by
    simp [h.running]
    exact ⟨h.inSlot, h.inWindow⟩
  have hrun : ((s.site i).clocked (s.site i).seq.next).seq.status.isStopped = false := by
    simp [Site.clocked, h.running, SeqStatus.isStopped]
  have hrest := h.atRest.clocked (s.site i).seq.next
  unfold Site.issue
  rw [if_neg hdue]
  simp only [Site.settle_atRest h.atRest h.clock, Site.arrive_atRest _ hrest, Site.early_atRest _ _ hrest, hrun, Bool.false_eq_true,
    if_false]
  exact if_neg (by rw [Bool.not_eq_true]; exact hstall)

/-- The scalar operation's own part of a lone bundle, then its way on (R117, R127). -/
theorem State.Ready.issue_scalar {s : State} {i : Nat} (h : s.Ready i) {op : ScalarOp}
    (hg : (s.site i).guard (scalarGuard op) = true) {a : Site} {flow : Flow}
    (hbody : (s.atClock i).scalarBody (s.issueCycle i)
      ((s.atClock i).switches (loneScalar op) && !((s.atClock i).steerCycle (s.issueCycle i)).site.skidsEmpty) op = (a, flow))
    (hmat : a.mat = (s.site i).mat) (hreload : a.reload = (s.site i).reload) :
    (s.site i).issue s.turn.geom.work (loneScalar op) Checks.clean =
      ((a.finish (s.issueCycle i) flow).clocked (s.issueCycle i + 1), []) := by
  have hguard : (s.atClock i).guard (scalarGuard op) = true := hg
  rw [h.issue rfl, Site.slots5_scalar, Site.issueScalar, if_pos hguard, hbody]
  dsimp only
  rw [Site.wide_none a _ (by rw [hmat, h.atRest.feeds]) (by rw [hmat, h.atRest.loads]) (by rw [hreload, h.atRest.reload])]

/-- A lone scalar operation that stops its site (R101). -/
theorem State.Ready.stopsWith_scalar {s : State} {i : Nat} (h : s.Ready i) {c : Instr} {op : ScalarOp} {cause : Cause} {detail : Nat}
    {data : List Byte} (he : exec c s = .next (s.issueAt i (loneScalar op) Checks.clean))
    (hg : (s.site i).guard (scalarGuard op) = true) (hcause : cause.isCounted = false)
    (hbody : (s.atClock i).scalarBody (s.issueCycle i)
      ((s.atClock i).switches (loneScalar op) && !((s.atClock i).steerCycle (s.issueCycle i)).site.skidsEmpty) op =
        ((s.atClock i).raise cause detail (s.issueCycle i) data, .stop)) : StopsWith s i c cause detail := by
  have hissue := h.issue_scalar hg hbody rfl rfl
  have hstop : (((s.atClock i).raise cause detail (s.issueCycle i) data).finish (s.issueCycle i) .stop).clocked (s.issueCycle i + 1) =
      { s.site i with
        faults := (s.site i).faults ++ [{ cause := cause, detail := detail, cycle := s.issueCycle i, pc := (s.site i).seq.pc
                                          slot := (s.atClock i).slotAt (s.issueCycle i), data := data, service := (s.site i).service }]
        seq := { (s.site i).seq with
          status := .stopped (s.issueCycle i), next := s.issueCycle i + 1, clock := s.issueCycle i + 1 } } := by
    simp only [Site.raise, State.atClock, Site.clocked, Site.finish, h.running]
  rw [hstop] at hissue
  obtain ⟨hsite, honly⟩ := State.issueAt_raised hissue rfl rfl (by simpa using hcause)
  have hstill : ((s.issueAt i (loneScalar op) Checks.clean).site i).AtRest := by
    rw [hsite]
    exact ⟨h.atRest.landings, h.atRest.feeds, h.atRest.loads, h.atRest.reload⟩
  refine ⟨_, he, honly, ?_, Or.inl ?_, ?_, ?_, fun n => ?_⟩
  · rw [hsite]
  · rw [hsite]
  · rw [hsite]
    simp
  · rw [hsite]
  · obtain ⟨k, hk⟩ := State.seen_of_atRest hstill n
    rw [hk, hsite]
    exact ⟨fun _ => rfl, fun _ => rfl, fun _ => rfl, fun _ => rfl, fun _ => rfl⟩

/-- What a lone scalar operation leaves when nothing of it is in flight: its site with another place in the program. -/
theorem State.Ready.issueAt_scalar {s : State} {i : Nat} (h : s.Ready i) {op : ScalarOp}
    (hg : (s.site i).guard (scalarGuard op) = true) {flow : Flow} {a : Site}
    (hbody : (s.atClock i).scalarBody (s.issueCycle i)
      ((s.atClock i).switches (loneScalar op) && !((s.atClock i).steerCycle (s.issueCycle i)).site.skidsEmpty) op = (a, flow))
    {x : Site} (hx : (a.finish (s.issueCycle i) flow).clocked (s.issueCycle i + 1) = x)
    (hmat : a.mat = (s.site i).mat) (hreload : a.reload = (s.site i).reload)
    (hstalls : x.seq.stalls = (s.site i).seq.stalls) (hsteer : x.seq.steerStalls = (s.site i).seq.steerStalls)
    (hfaults : x.faults = (s.site i).faults) :
    (s.issueAt i (loneScalar op) Checks.clean).site i = x ∧ OnlySite s (s.issueAt i (loneScalar op) Checks.clean) i :=
  s.issueAt_lone i _ x (by rw [← hx]; exact h.issue_scalar hg hbody hmat hreload) hstalls hsteer hfaults

/-! ### Branches and calls -/

/-- The site after a lone bundle went to `p`. -/
def State.at_ (s : State) (i p : Nat) : Site :=
  { s.site i with seq := { (s.site i).seq with pc := p, next := s.issueCycle i + 1, clock := s.issueCycle i + 1 } }

/-- A branch without a result. -/
theorem State.went_branch {s : State} {i p : Nat} (hcan : s.canIssue i = true) {op : ScalarOp}
    (hg : (s.site i).guard (scalarGuard op) = true)
    (hbody : ∀ busy, (s.atClock i).scalarBody (s.issueCycle i) busy op = (s.atClock i, .branch p)) :
    let t := s.issueAt i (loneScalar op) Checks.clean
    (∃ l, t.site i = { s.at_ i p with seq := { (s.at_ i p).seq with landings := l } }) ∧ OnlySite s t i ∧ ∀ q, (t.seen i (s.issueCycle i + 1)).sreg q = (s.site i).sreg q := by
  intro t
  obtain ⟨-, -, -, -, hidle⟩ := (s.canIssue_iff i).mp hcan
  obtain ⟨-, -, -, -, hloops⟩ := (s.site i).idle_iff.mp hidle
  have hx : ((s.atClock i).finish (s.issueCycle i) (.branch p)).clocked (s.issueCycle i + 1) = s.at_ i p := by
    simp only [Site.finish, State.atClock, Site.clocked, hloops, popLoops, State.at_]
  have h := State.ready_of_canIssue hcan
  obtain ⟨hsite, honly⟩ := h.issueAt_scalar hg (hbody _) hx rfl rfl rfl rfl rfl
  have hstill : (t.site i).AtRest := by
    rw [hsite]
    exact ⟨h.atRest.landings, h.atRest.feeds, h.atRest.loads, h.atRest.reload⟩
  refine ⟨⟨_, hsite⟩, honly, fun q => ?_⟩
  obtain ⟨k, hk⟩ := State.seen_of_atRest hstill (s.issueCycle i + 1)
  rw [hk, hsite]
  rfl

/-- A result in flight on the way to `p`. -/
theorem State.went_call {s : State} {i p r : Nat} {v : Word} (hcan : s.canIssue i = true) {op : ScalarOp}
    (hg : (s.site i).guard (scalarGuard op) = true)
    (hbody : ∀ busy, (s.atClock i).scalarBody (s.issueCycle i) busy op =
      ((s.atClock i).later (s.issueCycle i + 1) rankScalar (.s r v), .branch p)) :
    let t := s.issueAt i (loneScalar op) Checks.clean
    (∃ l, t.site i = { s.at_ i p with seq := { (s.at_ i p).seq with landings := l } }) ∧ OnlySite s t i ∧
      ∀ q, (t.seen i (s.issueCycle i + 1)).sreg q = if q = r then v else (s.site i).sreg q := by
  intro t
  obtain ⟨-, -, -, -, hidle⟩ := (s.canIssue_iff i).mp hcan
  obtain ⟨-, -, -, -, hloops⟩ := (s.site i).idle_iff.mp hidle
  have h := State.ready_of_canIssue hcan
  have hx : (((s.atClock i).later (s.issueCycle i + 1) rankScalar (.s r v)).finish (s.issueCycle i) (.branch p)).clocked
      (s.issueCycle i + 1) = { s.at_ i p with seq := { (s.at_ i p).seq with
        landings := [{ at_ := s.issueCycle i + 1, rank := rankScalar, res := .s r v }] } } := by
    simp only [Site.finish, Site.later, State.atClock, Site.clocked, hloops, popLoops, State.at_, h.atRest.landings, List.nil_append]
  obtain ⟨hsite, honly⟩ := h.issueAt_scalar hg (hbody _) hx rfl rfl rfl rfl rfl
  refine ⟨⟨_, hsite⟩, honly, fun q => ?_⟩
  rw [State.seen_landing (by rw [hsite]) (by rw [hsite]; exact h.atRest.feeds) (by rw [hsite]; exact h.atRest.loads)
    (by rw [hsite]; exact h.atRest.reload) (by rw [hsite]; exact le_rfl) (by decide), hsite]
  exact Site.sreg_setS _ r q v

/-! ### Loops -/

theorem Site.kreg_setK (a : Site) (r q : Nat) (v : Word) : (a.setK r v).kreg q = if q = r then v else a.kreg q := by
  by_cases h : q = r
  · subst h
    simp [Site.kreg, Site.setK, alook_aset_self]
  · simp [Site.kreg, Site.setK, h, alook_aset_ne _ _ _ _ h]
    rfl

/-- LOOP and LOOPI on a site with no open loop (R129). -/
theorem State.opens_loop {s : State} {i : Nat} {c : Instr} {op : ScalarOp} {count : Nat} {kn : BitVec 4} {end_ : BitVec 10}
    (hcan : s.canIssue i = true) (hg : (s.site i).guard (scalarGuard op) = true)
    (he : exec c s = .next (s.issueAt i (loneScalar op) Checks.clean))
    (hbody : ∀ busy, (s.atClock i).scalarBody (s.issueCycle i) busy op = (s.atClock i).startLoop (s.issueCycle i) kn count end_) :
    let a := s.site i
    let n := s.issueCycle i
    ∃ t, exec c s = .next t ∧ OnlySite s t i ∧ (t.site i).seq.next = n + 1 ∧ (t.site i).seq.status = .running ∧
      t.site i = { a with seq := (t.site i).seq } ∧ (∀ q, (t.seen i (n + 1)).sreg q = a.sreg q) ∧
      (∀ q, (t.seen i (n + 1)).preg q = a.preg q) ∧
      if count = 0 then (t.site i).seq.pc = end_.toNat + 1 ∧ (t.site i).seq.loops = [] ∧
        ∀ q, (t.seen i (n + 1)).kreg q = a.kreg q
      else (t.site i).seq.pc = a.seq.pc + 1 ∧
        (t.site i).seq.loops = [{ kn := kn.toNat, start := a.seq.pc + 1, end_ := end_.toNat }] ∧
        (t.seen i (n + 1)).kreg kn.toNat = BitVec.ofNat 32 count ∧
        ∀ q, q ≠ kn.toNat → (t.seen i (n + 1)).kreg q = a.kreg q := by
  intro a n
  have h := State.ready_of_canIssue hcan
  obtain ⟨-, -, -, -, hidle⟩ := (s.canIssue_iff i).mp hcan
  obtain ⟨-, -, -, -, hloops⟩ := (s.site i).idle_iff.mp hidle
  have hroom : ¬((s.atClock i).seq.loops.length ≥ 8 || (s.atClock i).seq.loops.any (fun e => e.kn == kn.toNat)) = true := by
    have hnone : (s.atClock i).seq.loops = [] := hloops
    simp [hnone]
  refine ⟨_, he, ?_⟩
  by_cases hcount : count = 0
  · have hstart (busy : Bool) : (s.atClock i).scalarBody n busy op = (s.atClock i, .goto (end_.toNat + 1)) := by
      rw [hbody busy, Site.startLoop, if_neg hroom, if_pos hcount]
    have hx : ((s.atClock i).finish n (.goto (end_.toNat + 1))).clocked (n + 1) = s.at_ i (end_.toNat + 1) := by
      simp only [Site.finish, State.atClock, Site.clocked, State.at_, n]
    obtain ⟨hsite, honly⟩ := h.issueAt_scalar hg (hstart _) hx rfl rfl rfl rfl rfl
    have hstill : ((s.issueAt i (loneScalar op) Checks.clean).site i).AtRest := by
      rw [hsite]
      exact ⟨h.atRest.landings, h.atRest.feeds, h.atRest.loads, h.atRest.reload⟩
    obtain ⟨k, hk⟩ := State.seen_of_atRest hstill (n + 1)
    rw [if_pos hcount, hk, hsite]
    exact ⟨honly, rfl, h.running, rfl, fun _ => rfl, fun _ => rfl, rfl, hloops, fun _ => rfl⟩
  · have hstart (busy : Bool) : (s.atClock i).scalarBody n busy op =
        (({ s.atClock i with seq := { (s.atClock i).seq with
            loops := [{ kn := kn.toNat, start := (s.site i).seq.pc + 1, end_ := end_.toNat }] } } : Site).later (n + 1) rankScalar
          (.k kn.toNat (BitVec.ofNat 32 count)), .goto ((s.site i).seq.pc + 1)) := by
      have hnone : (s.atClock i).seq.loops = [] := hloops
      rw [hbody busy, Site.startLoop, if_neg hroom, if_neg hcount, hnone]
      rfl
    have hx : ((({ s.atClock i with seq := { (s.atClock i).seq with
            loops := [{ kn := kn.toNat, start := (s.site i).seq.pc + 1, end_ := end_.toNat }] } } : Site).later (n + 1) rankScalar
          (.k kn.toNat (BitVec.ofNat 32 count))).finish n (.goto ((s.site i).seq.pc + 1))).clocked (n + 1) =
        { s.site i with seq := { (s.site i).seq with
          pc := (s.site i).seq.pc + 1, next := n + 1, clock := n + 1
          loops := [{ kn := kn.toNat, start := (s.site i).seq.pc + 1, end_ := end_.toNat }]
          landings := [{ at_ := n + 1, rank := rankScalar, res := .k kn.toNat (BitVec.ofNat 32 count) }] } } := by
      simp only [Site.finish, Site.later, State.atClock, Site.clocked, h.atRest.landings, List.nil_append]
    obtain ⟨hsite, honly⟩ := h.issueAt_scalar hg (hstart _) hx rfl rfl rfl rfl rfl
    have hseen := State.seen_landing (t := s.issueAt i (loneScalar op) Checks.clean) (i := i) (by rw [hsite])
      (by rw [hsite]; exact h.atRest.feeds) (by rw [hsite]; exact h.atRest.loads) (by rw [hsite]; exact h.atRest.reload)
      (by rw [hsite]) (by decide)
    rw [if_neg hcount, hseen, hsite]
    exact ⟨honly, rfl, h.running, rfl, fun _ => rfl, fun _ => rfl, rfl, rfl,
      (Site.kreg_setK _ _ _ _).trans (if_pos rfl), fun q hq => (Site.kreg_setK _ _ _ _).trans (if_neg hq)⟩

/-- A site that can issue, with loops opened, is still ready. -/
theorem State.ready_withLoops {s : State} {i : Nat} (hcan : s.canIssue i = true) (ls : List LoopEntry) :
    (s.modSite i (fun a => { a with seq := { a.seq with loops := ls } })).Ready i := by
  have h := State.ready_of_canIssue hcan
  have hsite : (s.modSite i (fun a => { a with seq := { a.seq with loops := ls } })).site i =
      { s.site i with seq := { (s.site i).seq with loops := ls } } := State.site_setSite_self s i _
  refine ⟨?_, ?_, ?_, ?_, ?_⟩ <;> rw [hsite]
  · exact h.running
  · exact h.inSlot
  · exact h.inWindow
  · exact h.clock
  · exact ⟨h.atRest.landings, h.atRest.feeds, h.atRest.loads, h.atRest.reload⟩

/-- A site at the END bundle of its one open loop (R129). -/
theorem evalLoops_last (a : Site) (e : LoopEntry) :
    evalLoops a e.end_ [e] [] =
      if 1 < (a.kreg e.kn).toNat then (e.start, [e], [(e.kn, a.kreg e.kn - 1)]) else (e.end_ + 1, [], [(e.kn, 0)]) := by
  simp only [evalLoops, ne_eq, not_true_eq_false, if_false, List.nil_append, gt_iff_lt]

theorem State.loop_end {s : State} {i : Nat} {e : LoopEntry} (hcan : s.canIssue i = true) (hpc : (s.site i).seq.pc = e.end_) :
    let u := s.modSite i (fun a => { a with seq := { a.seq with loops := [e] } })
    let k := (s.site i).kreg e.kn
    ∃ t, exec (.nop i .scalar .clean) u = .next t ∧ OnlySite u t i ∧ (t.site i).seq.next = s.issueCycle i + 1 ∧
      (t.site i).seq.status = .running ∧ t.site i = { s.site i with seq := (t.site i).seq } ∧
      (t.site i).seq.pc = (if 1 < k.toNat then e.start else e.end_ + 1) ∧
      (t.site i).seq.loops = (if 1 < k.toNat then [e] else []) ∧
      (t.seen i (s.issueCycle i + 1)).kreg e.kn = (if 1 < k.toNat then k - 1 else 0) := by
  intro u k
  have h : u.Ready i := State.ready_withLoops hcan [e]
  have hsite : u.site i = { s.site i with seq := { (s.site i).seq with loops := [e] } } := State.site_setSite_self s i _
  have hcycle : u.issueCycle i = s.issueCycle i := by rw [State.issueCycle, hsite]; rfl
  have hat : u.atClock i = { s.site i with seq := { (s.site i).seq with loops := [e], clock := s.issueCycle i } } := by
    rw [State.atClock, hcycle, hsite]
    rfl
  have hkreg : (u.atClock i).kreg e.kn = k := by rw [hat]; rfl
  have hpc' : (u.atClock i).seq.pc = e.end_ := by rw [hat]; exact hpc
  have hloops : (u.atClock i).seq.loops = [e] := by rw [hat]
  have hlandings : (s.site i).seq.landings = [] := (State.ready_of_canIssue hcan).atRest.landings
  have hx : ((u.atClock i).finish (u.issueCycle i) .fall).clocked (u.issueCycle i + 1) =
      { s.site i with seq := { (s.site i).seq with
        pc := if 1 < k.toNat then e.start else e.end_ + 1, loops := if 1 < k.toNat then [e] else []
        next := s.issueCycle i + 1, clock := s.issueCycle i + 1
        landings := [{ at_ := s.issueCycle i + 1, rank := rankScalar, res := .k e.kn (if 1 < k.toNat then k - 1 else 0) }] } } := by
    simp only [Site.finish, Site.inSequence, hpc', hloops, evalLoops_last, hkreg, hcycle]
    by_cases hk : 1 < k.toNat
    · simp only [hk, if_true, List.foldl_cons, List.foldl_nil, Site.later, Site.clocked, hat, hlandings, List.nil_append]
    · simp only [hk, if_false, List.foldl_cons, List.foldl_nil, Site.later, Site.clocked, hat, hlandings, List.nil_append]
  obtain ⟨ht, honly⟩ := h.issueAt_scalar (op := .nop) rfl rfl hx rfl rfl (by rw [hsite]) (by rw [hsite]) (by rw [hsite])
  have hrest := h.atRest
  rw [hsite] at hrest
  have hseen := State.seen_landing (t := u.issueAt i (loneScalar .nop) Checks.clean) (i := i) (by rw [ht])
    (by rw [ht]; exact hrest.feeds) (by rw [ht]; exact hrest.loads) (by rw [ht]; exact hrest.reload) (by rw [ht]) (by decide)
  refine ⟨_, rfl, honly, ?_, ?_, ?_, ?_, ?_, (congrArg (Site.kreg · e.kn) hseen).trans ?_⟩
  · exact congrArg (·.seq.next) ht
  · exact (congrArg (·.seq.status) ht).trans (State.ready_of_canIssue hcan).running
  · exact ht.trans (by rw [show (u.issueAt i Bundle.nops Checks.clean).site i = _ from ht])
  · exact congrArg (·.seq.pc) ht
  · exact congrArg (·.seq.loops) ht
  · exact (Site.kreg_setK _ _ _ _).trans (if_pos rfl)

/-- A loop that finds no place in the stack, or its counter in use (R130, log 25). -/
theorem Site.startLoop_full {a : Site} {n count : Nat} {kn : BitVec 4} {end_ : BitVec 10}
    (h : 8 ≤ a.seq.loops.length ∨ ∃ e ∈ a.seq.loops, e.kn = kn.toNat) :
    a.startLoop n kn count end_ = (a.raise .bankClash Clash.loopStack.code n [], .stop) := by
  unfold Site.startLoop
  exact if_pos (by simpa using h)

/-! ### Waits -/

/-- What a lone scalar operation leaves that goes on in sequence, waits or ends. -/
theorem State.kept_scalar {s : State} {i : Nat} (hcan : s.canIssue i = true) {op : ScalarOp} {flow : Flow} {q : Sequencer}
    (hg : (s.site i).guard (scalarGuard op) = true)
    (hbody : ∀ busy, (s.atClock i).scalarBody (s.issueCycle i) busy op = (s.atClock i, flow))
    (hq : ((s.atClock i).finish (s.issueCycle i) flow).clocked (s.issueCycle i + 1) = { s.site i with seq := q })
    (hregs : q = { (s.site i).seq with status := q.status, pc := q.pc, next := q.next, clock := q.clock }) :
    let t := s.issueAt i (loneScalar op) Checks.clean
    t.site i = { s.site i with seq := q } ∧ OnlySite s t i ∧ t.site i = { s.site i with seq := (t.site i).seq } ∧
      (∀ c q, (t.seen i c).sreg q = (s.site i).sreg q) ∧ (∀ c q, (t.seen i c).preg q = (s.site i).preg q) ∧
      (∀ c q, (t.seen i c).kreg q = (s.site i).kreg q) := by
  intro t
  have h := State.ready_of_canIssue hcan
  obtain ⟨hsite, honly⟩ := h.issueAt_scalar hg (hbody _) hq rfl rfl (by rw [hregs]) (by rw [hregs]) rfl
  have hstill : (t.site i).AtRest := by
    rw [hsite]
    exact ⟨by rw [hregs]; exact h.atRest.landings, h.atRest.feeds, h.atRest.loads, h.atRest.reload⟩
  have hseen (c : Nat) : ∃ k, t.seen i c = ({ s.site i with seq := q } : Site).clocked k := by
    obtain ⟨k, hk⟩ := State.seen_of_atRest hstill c
    exact ⟨k, by rw [hk, hsite]⟩
  refine ⟨hsite, honly, by rw [hsite], fun c r => ?_, fun c r => ?_, fun c r => ?_⟩
  all_goals
    obtain ⟨k, hk⟩ := hseen c
    rw [hk, hregs]
    rfl

/-- A wait of the scalar slot, from the next cycle on (R137). -/
theorem Site.finish_wait {a : Site} {n c : Nat} (hrun : a.seq.status = .running) (hloops : a.seq.loops = []) (hc : n + 1 ≤ c) :
    a.finish n (.wait c) = { a with seq := { a.seq with
      pc := a.seq.pc + 1, next := c, status := if c = n + 1 then .running else .waiting c } } := by
  have heq : (c ≤ n + 1) = (c = n + 1) := propext ⟨fun h => le_antisymm h hc, fun h => h.le⟩
  simp only [Site.finish, Site.inSequence, hloops, evalLoops, List.foldl_nil, hrun, SeqStatus.unlessStopped, heq]

end Sys2Proof.Machine

open Sys2Proof Sys2Proof.Machine

/-- Settles O6: a branch and a call change the place in the program; a loop puts its counter in flight with its entry, at its
start and at its END bundle; a full stack raises BANK_CLASH (log 25); a wait changes the next cycle and the status alone. -/
theorem controlFlow : Obligations.ControlFlow := by
  refine ⟨fun s i f j hcan hf hj => ?branches, fun s i f g hcan hf hg => ?loops, fun s i e hcan hpc => ?loopEnd,
    fun s i f g ls hcan hf hg => ?loopFaults, fun s i f slot hcan hf => ?waits⟩
  case branches =>
    intro a n went
    obtain ⟨hrun, -⟩ := (s.canIssue_iff i).mp hcan
    have hwent {t : State} {p : Nat} (ho : OnlySite s t i)
        (ht : ∃ l, t.site i = { s.at_ i p with seq := { (s.at_ i p).seq with landings := l } }) : went t p := by
      obtain ⟨l, ht⟩ := ht
      refine ⟨ho, ?_, ?_, ?_, ?_⟩ <;> rw [ht]
      · rfl
      · rfl
      · exact hrun
      · rfl
    obtain ⟨hb, hbo, hbs⟩ := State.went_branch hcan (op := .br f) hf fun _ => rfl
    obtain ⟨hc, hco, hcs⟩ := State.went_call hcan (op := .call f) hf fun _ => rfl
    obtain ⟨hr, hro, hrs⟩ := State.went_branch hcan (op := .jr j) hj fun _ => rfl
    exact ⟨⟨_, rfl, hwent hbo hb, hbs⟩,
      ⟨_, rfl, hwent hco hc, (hcs 31).trans (if_pos rfl), fun q hq => (hcs q).trans (if_neg hq)⟩, ⟨_, rfl, hwent hro hr, hrs⟩⟩
  case loops =>
    intro a n opened
    exact ⟨State.opens_loop (op := .loop f) hcan hf rfl fun _ => rfl, State.opens_loop (op := .loopi g) hcan hg rfl fun _ => rfl⟩
  case loopEnd =>
    exact State.loop_end hcan hpc
  case loopFaults =>
    intro u
    have hu : u.Ready i := State.ready_withLoops hcan ls
    have hsite : u.site i = { s.site i with seq := { (s.site i).seq with loops := ls } } := State.site_setSite_self s i _
    have hloops : (u.atClock i).seq.loops = ls := by
      rw [State.atClock, hsite]
      rfl
    have hguard {k : Guard} (hk : (s.site i).guard k = true) : (u.site i).guard k = true := by
      rw [hsite]
      exact hk
    refine ⟨fun h => ?_, fun h => ?_⟩
    · exact hu.stopsWith_scalar (op := .loop f) rfl (hguard hf) rfl (Site.startLoop_full (hloops ▸ h))
    · exact hu.stopsWith_scalar (op := .loopi g) rfl (hguard hg) rfl (Site.startLoop_full (hloops ▸ h))
  case waits =>
    intro a n kept waits
    obtain ⟨hrun, -, -, -, hidle⟩ := (s.canIssue_iff i).mp hcan
    obtain ⟨-, -, -, -, hloops⟩ := (s.site i).idle_iff.mp hidle
    have wait {op : ScalarOp} {c : Nat} (hg : a.guard (scalarGuard op) = true) (hc : n + 1 ≤ c)
        (hbody : ∀ busy, (s.atClock i).scalarBody n busy op = (s.atClock i, .wait c)) :
        kept (s.issueAt i (loneScalar op) Checks.clean) ∧ waits (s.issueAt i (loneScalar op) Checks.clean) c := by
      obtain ⟨hsite, hkept⟩ := State.kept_scalar hcan hg hbody
        (q := { a.seq with pc := a.seq.pc + 1, next := c, clock := n + 1, status := if c = n + 1 then .running else .waiting c })
        (by rw [Site.finish_wait (a := s.atClock i) hrun hloops hc]; rfl) rfl
      refine ⟨hkept, ?_, ?_, ?_⟩ <;> rw [hsite]
    have nop : kept (s.issueAt i (loneScalar .nop) Checks.clean) ∧ waits (s.issueAt i (loneScalar .nop) Checks.clean) (n + 1) := by
      obtain ⟨hsite, hkept⟩ := State.kept_scalar hcan (op := .nop) rfl (fun _ => rfl)
        (q := { a.seq with pc := a.seq.pc + 1, next := n + 1, clock := n + 1 })
        (by rw [Site.finish_fall (s.atClock i) _ hrun hloops]; rfl) rfl
      refine ⟨hkept, ?_, ?_, ?_⟩ <;> rw [hsite]
      exact hrun.trans (if_pos rfl).symm
    have ended : kept (s.issueAt i (loneScalar (.endwork f.g)) Checks.clean) ∧
        ((s.issueAt i (loneScalar (.endwork f.g)) Checks.clean).site i).seq.status = .ended n := by
      obtain ⟨hsite, hkept⟩ := State.kept_scalar hcan (op := .endwork f.g) hf (fun _ => rfl)
        (q := { a.seq with next := n + 1, clock := n + 1, status := .ended n }) rfl rfl
      exact ⟨hkept, by rw [hsite]⟩
    exact ⟨⟨_, rfl, nop⟩, ⟨_, rfl, wait (op := .idle f) hf (by omega) fun _ => rfl⟩,
      ⟨_, rfl, wait (op := .waitc f) hf (le_max_left _ _) fun _ => rfl⟩, ⟨_, rfl, ended⟩⟩
end

section
/-! Proofs about slots and bank owners (O9). -/

namespace Sys2Proof.Machine

/-! ### One owner code of an ownership map -/

/-- A base-4 digit replaced: the digit itself, and each other digit. -/
theorem digit_replaced (n b c k : Nat) (hc : c < 4) :
    (n - n / 4 ^ b % 4 * 4 ^ b + c * 4 ^ b) / 4 ^ k % 4 = if k = b then c else n / 4 ^ k % 4 := by
  have hpos : 0 < 4 ^ b := Nat.pow_pos (by decide)
  have hlo : n % 4 ^ b < 4 ^ b := Nat.mod_lt _ hpos
  have hsplit : n = 4 ^ b * (4 * (n / 4 ^ b / 4) + n / 4 ^ b % 4) + n % 4 ^ b := by
    rw [Nat.div_add_mod, Nat.div_add_mod]
  have hnew : n - n / 4 ^ b % 4 * 4 ^ b + c * 4 ^ b = 4 ^ b * (4 * (n / 4 ^ b / 4) + c) + n % 4 ^ b := by
    conv_lhs => rw [hsplit]
    rw [Nat.mul_add, Nat.mul_add, Nat.mul_comm (4 ^ b) c, Nat.mul_comm (4 ^ b) (n / 4 ^ b % 4)]
    have hdigit : (4 ^ b * (4 * (n / 4 ^ b / 4)) + n / 4 ^ b % 4 * 4 ^ b + n % 4 ^ b) / 4 ^ b % 4 = n / 4 ^ b % 4 := by
      rw [Nat.mul_comm (n / 4 ^ b % 4), ← Nat.mul_add, ← hsplit]
    rw [hdigit]
    omega
  rw [hnew]
  have hd : n / 4 ^ b % 4 < 4 := Nat.mod_lt _ (by decide)
  generalize n / 4 ^ b / 4 = hi at *
  generalize n / 4 ^ b % 4 = d at *
  generalize n % 4 ^ b = lo at *
  rcases lt_trichotomy k b with hk | hk | hk
  · obtain ⟨e, rfl⟩ : ∃ e, b = k + 1 + e := ⟨b - (k + 1), by omega⟩
    have hdig (x : Nat) : (4 ^ (k + 1 + e) * x + lo) / 4 ^ k % 4 = lo / 4 ^ k % 4 := by
      rw [show 4 ^ (k + 1 + e) * x = 4 ^ k * (4 * (4 ^ e * x)) by ring, Nat.mul_add_div (Nat.pow_pos (by decide)), Nat.mul_add_mod]
    rw [if_neg hk.ne, hdig, hsplit, hdig]
  · subst hk
    rw [if_pos rfl, Nat.mul_add_div hpos, Nat.div_eq_of_lt hlo, Nat.add_zero, Nat.mul_add_mod, Nat.mod_eq_of_lt hc]
  · obtain ⟨e, rfl⟩ : ∃ e, k = b + 1 + e := ⟨k - (b + 1), by omega⟩
    have hdig (x : Nat) (hx : x < 4) : (4 ^ b * (4 * hi + x) + lo) / 4 ^ (b + 1 + e) = hi / 4 ^ e := by
      rw [show 4 ^ (b + 1 + e) = 4 ^ b * 4 * 4 ^ e by ring, ← Nat.div_div_eq_div_mul, ← Nat.div_div_eq_div_mul,
        Nat.mul_add_div hpos, Nat.div_eq_of_lt hlo]
      congr 1
      omega
    rw [if_neg hk.ne', hdig c hc, hsplit, hdig d hd]

theorem ownerIn_lt (own : DWord) (k : Nat) : ownerIn own k < 4 := Nat.mod_lt _ (by decide)

theorem ownerIn_setOwner (own : DWord) {b c k : Nat} (hk : k < 32) (hc : c < 4) :
    ownerIn (setOwner own b c) k = if k = b then c else ownerIn own k := by
  have hpow (x : Nat) : 2 ^ (2 * x) = 4 ^ x := by rw [Nat.pow_mul]
  have hwrap (x : Nat) : x % 2 ^ 64 / 4 ^ k % 4 = x / 4 ^ k % 4 := by
    rw [show 2 ^ 64 = 4 ^ k * 4 ^ (32 - k) by rw [← Nat.pow_add, show k + (32 - k) = 32 by omega]; rfl, Nat.mod_mul_right_div_self,
      Nat.mod_mod_of_dvd _ (dvd_pow_self 4 (by omega))]
  simp only [ownerIn, setOwner, BitVec.toNat_ofNat, hpow, hwrap]
  exact digit_replaced _ b c k hc

/-- Codes set for some banks in turn. -/
theorem ownerIn_foldl_setOwner (code : Nat → Nat) (hcode : ∀ b, code b < 4) (ls : List Nat) (own : DWord)
    {k : Nat} (hk : k < 32) :
    ownerIn (ls.foldl (fun m b => setOwner m b (code b)) own) k = if k ∈ ls then code k else ownerIn own k := by
  induction ls generalizing own with
  | nil => rfl
  | cons b t ih =>
    rw [List.foldl_cons, ih, ownerIn_setOwner own hk (hcode b)]
    by_cases hkb : k = b <;> by_cases hkt : k ∈ t <;> simp [hkb, hkt]

/-- A map over the owners in force: a bank that it names OFF keeps its owner (R98). -/
theorem ownerIn_overlay (prev new : DWord) {k : Nat} (hk : k < 32) :
    ownerIn (overlay prev new) k = if ownerIn new k = 0 then ownerIn prev k else ownerIn new k := by
  have hfilter : overlay prev new =
      ((List.range 32).filter (fun b => ownerIn new b = 0)).foldl (fun m b => setOwner m b (ownerIn prev b)) new := by
    rw [List.foldl_filter, overlay]
    simp
  rw [hfilter, ownerIn_foldl_setOwner _ (ownerIn_lt prev) _ _ hk]
  simp [hk]

/-- The owners in force in cycle `c`. -/
def Site.owners (a : Site) (c : Nat) : DWord := if c < a.bank.from_ then a.bank.old else a.bank.own

theorem Site.owner_eq (a : Site) (k c : Nat) :
    a.owner k c = if a.bank.mask.toNat.testBit k then ownerIn (a.owners c) k else 0 := rfl

/-- Owners changed in cycle `n` hold from the next cycle on. -/
theorem Site.owner_changed {a b : Site} {n : Nat} {own : DWord} (ha : a.bank = { b.bank with own := own, old := b.owners n, from_ := n + 1 })
    (k : Nat) : a.owner k n = b.owner k n ∧ a.owner k (n + 1) = if b.bank.mask.toNat.testBit k then ownerIn own k else 0 := by
  have hbefore : a.owners n = b.owners n := by
    rw [Site.owners, ha]
    exact if_pos (Nat.lt_succ_self n)
  have hafter : a.owners (n + 1) = own := by
    rw [Site.owners, ha]
    exact if_neg (Nat.lt_irrefl _)
  have hmask : a.bank.mask = b.bank.mask := by rw [ha]
  rw [Site.owner_eq, Site.owner_eq, Site.owner_eq, hbefore, hafter, hmask]
  exact ⟨rfl, rfl⟩

/-- A site at rest is seen with the registers that it holds. -/
theorem State.seen_sameRegs_of_atRest {t : State} {i : Nat} (h : (t.site i).AtRest) (c : Nat) : (t.seen i c).sameRegs (t.site i) := by
  obtain ⟨k, hk⟩ := State.seen_of_atRest h c
  rw [hk]
  exact ⟨fun _ => rfl, fun _ => rfl, fun _ => rfl, fun _ => rfl, fun _ => rfl⟩

/-- The banks that OWNR names. -/
theorem mem_ownrBanks (f : FmtOW) (k : Nat) :
    k ∈ (List.range f.count.toNat).map (fun i => f.first.toNat + i) ↔ f.first.toNat ≤ k ∧ k < f.first.toNat + f.count.toNat := by
  simp only [List.mem_map, List.mem_range]
  exact ⟨fun ⟨j, hj, hk⟩ => by omega, fun ⟨h1, h2⟩ => ⟨k - f.first.toNat, by omega, by omega⟩⟩

end Sys2Proof.Machine

open Sys2Proof Sys2Proof.Machine

/-- Settles O9: a switch lays the slot's map over the owners in force, and OWNR sets codes one bank at a time; either holds
from the next cycle on (R98). -/
theorem slotsAndOwners : Obligations.SlotsAndOwners := by
  refine ⟨fun s i f hcan hg => ?switches, fun s i f hcan hg hfrom => ?owners⟩
  case switches =>
    intro b n x calm
    have h := State.ready_of_canIssue hcan
    have hbusy : ((s.atClock i).switches (loneScalar (.switch f)) && !((s.atClock i).steerCycle n).site.skidsEmpty) = !calm := by
      have hsw : (s.atClock i).switches (loneScalar (.switch f)) = true := hg
      rw [hsw]
      rfl
    have hbody : (s.atClock i).scalarBody n (!calm) (.switch f) =
        if n < x.readyAt then ((s.atClock i).raise .bankClash Clash.slotNotReady.code n [], .stop)
        else if !calm then ((s.atClock i).raise .bankClash Clash.steerBusy.code n [], .stop)
        else (s.atClock i, .switch f.slot.toNat f.entry.toNat) := rfl
    refine ⟨fun hready => ?_, fun hready hcalm => ?_, fun hready hcalm => ?_⟩
    · exact h.stopsWith_scalar (op := .switch f) rfl hg rfl (by rw [hbusy]; exact hbody.trans (if_pos hready))
    · exact h.stopsWith_scalar (op := .switch f) rfl hg rfl (by
        rw [hbusy, hbody, if_neg (Nat.not_lt.mpr hready), hcalm]
        rfl)
    · have hgo : (s.atClock i).scalarBody n
          ((s.atClock i).switches (loneScalar (.switch f)) && !((s.atClock i).steerCycle n).site.skidsEmpty) (.switch f) =
            (s.atClock i, .switch f.slot.toNat f.entry.toNat) := by
        rw [hbusy, hbody, if_neg (Nat.not_lt.mpr hready), hcalm]
        rfl
      have hx : ((s.atClock i).finish n (.switch f.slot.toNat f.entry.toNat)).clocked (n + 1) = { b with
          seq := { b.seq with
            pc := f.entry.toNat, loops := [], slot := f.slot.toNat, oldSlot := b.slotAt n, slotFrom := n + 1
            next := n + 1, clock := n + 1 }
          bank := { b.bank with own := overlay (b.owners n) (b.mapOf f.slot.toNat), old := b.owners n, from_ := n + 1 } } := rfl
      obtain ⟨hsite, honly⟩ := h.issueAt_scalar (op := .switch f) hg hgo hx rfl rfl rfl rfl rfl
      have hstill : ((s.issueAt i (loneScalar (.switch f)) Checks.clean).site i).AtRest := by
        rw [hsite]
        exact ⟨h.atRest.landings, h.atRest.feeds, h.atRest.loads, h.atRest.reload⟩
      have hregs := State.seen_sameRegs_of_atRest hstill
      refine ⟨_, rfl, honly, ?_, ?_, ?_, ?_, ?_, ?_, fun k hk => ?_, ?_, fun k => ?_⟩
      · rw [hsite]
      · rw [hsite]
      · rw [hsite]
        exact h.running
      · rw [hsite]
      · rw [hsite]
        exact if_pos (Nat.lt_succ_self n)
      · rw [hsite]
        exact if_neg (Nat.lt_irrefl _)
      · have hbank := Site.owner_changed (b := b) (n := n) (congrArg (·.bank) hsite) k
        refine ⟨hbank.1, hbank.2.trans ?_⟩
        rw [ownerIn_overlay _ _ hk, b.owner_eq]
        cases b.bank.mask.toNat.testBit k <;> rfl
      · rw [hsite]
      · have hsame := hregs k
        rw [hsite] at hsame
        exact hsame
  case owners =>
    intro b n named
    have h := State.ready_of_canIssue hcan
    obtain ⟨hrun, -, -, -, hidle⟩ := (s.canIssue_iff i).mp hcan
    obtain ⟨-, -, -, -, hloops⟩ := (s.site i).idle_iff.mp hidle
    let banks := (List.range f.count.toNat).map (fun i => f.first.toNat + i)
    have hnamed (k : Nat) : k ∈ banks ↔ named k = true := (mem_ownrBanks f k).trans decide_eq_true_iff.symm
    have hbody (busy : Bool) : (s.atClock i).scalarBody n busy (.ownr f) =
        if banks.any (fun k => !b.bank.mask.toNat.testBit k) then ((s.atClock i).raise .bankClash Clash.ownerOff.code n [], .stop)
        else if f.code = 0 then (s.atClock i, .fall)
        else ({ s.atClock i with bank := { b.bank with
          own := banks.foldl (fun m k => setOwner m k f.code.toNat) (b.owners n), old := b.owners n, from_ := n + 1 } }, .fall) := rfl
    refine ⟨fun ⟨k, hk, hoff⟩ => ?_, fun hon => ?_⟩
    · refine h.stopsWith_scalar (op := .ownr f) rfl hg rfl ((hbody _).trans (if_pos ?_))
      exact List.any_eq_true.mpr ⟨k, (hnamed k).mpr hk, by rw [hoff]; rfl⟩
    · have hall : ¬banks.any (fun k => !b.bank.mask.toNat.testBit k) = true := by
        rw [List.any_eq_true]
        rintro ⟨k, hk, hoff⟩
        rw [hon k ((hnamed k).mp hk)] at hoff
        cases hoff
      have go {bank : Ownership} (hgo : ∀ busy, (s.atClock i).scalarBody n busy (.ownr f) = ({ s.atClock i with bank := bank }, .fall)) :
          ∃ t, exec (.ownr i f .clean) s = .next t ∧ Moved s t i ∧ (t.site i).bank = bank ∧
            t.site i = { b with seq := (t.site i).seq, bank := (t.site i).bank } ∧ ∀ k, (t.seen i k).sameRegs b := by
        have hx : (({ s.atClock i with bank := bank } : Site).finish n .fall).clocked (n + 1) = { b with
            seq := { b.seq with pc := b.seq.pc + 1, next := n + 1, clock := n + 1 }, bank := bank } := by
          rw [Site.finish_fall { s.atClock i with bank := bank } _ hrun hloops]
          rfl
        obtain ⟨hsite, honly⟩ := h.issueAt_scalar (op := .ownr f) hg (hgo _) hx rfl rfl rfl rfl rfl
        have hstill : ((s.issueAt i (loneScalar (.ownr f)) Checks.clean).site i).AtRest := by
          rw [hsite]
          exact ⟨h.atRest.landings, h.atRest.feeds, h.atRest.loads, h.atRest.reload⟩
        have hregs := State.seen_sameRegs_of_atRest hstill
        refine ⟨_, rfl, ⟨honly, ?_, ?_, ?_⟩, ?_, ?_, fun k => ?_⟩
        · rw [hsite]
        · rw [hsite]
        · rw [hsite]
          exact hrun
        · rw [hsite]
        · rw [hsite]
        · have hsame := hregs k
          rw [hsite] at hsame
          exact hsame
      by_cases hcode : f.code = 0
      · obtain ⟨t, he, hmoved, hbank, hrest, hregs⟩ := go (bank := b.bank) fun busy =>
          (hbody busy).trans ((if_neg hall).trans (if_pos hcode))
        have howner (k c : Nat) : (t.site i).owner k c = b.owner k c := by
          rw [Site.owner_eq, Site.owner_eq, Site.owners, Site.owners, hbank]
        have hsteady (k : Nat) : b.owner k (n + 1) = b.owner k n := by
          rw [Site.owner_eq, Site.owner_eq, Site.owners, Site.owners, if_neg (Nat.not_lt.mpr hfrom),
            if_neg (Nat.not_lt.mpr (Nat.le_succ_of_le hfrom))]
        exact ⟨t, he, hmoved, fun k _ => ⟨howner k n, by simp [howner, hsteady, hcode]⟩, hrest, hregs⟩
      · obtain ⟨t, he, hmoved, hbank, hrest, hregs⟩ := go fun busy => (hbody busy).trans ((if_neg hall).trans (if_neg hcode))
        refine ⟨t, he, hmoved, fun k hk => ?_, hrest, hregs⟩
        obtain ⟨hbefore, hafter⟩ := Site.owner_changed hbank k
        refine ⟨hbefore, hafter.trans ?_⟩
        rw [ownerIn_foldl_setOwner _ (fun _ => f.code.isLt) _ _ hk, b.owner_eq]
        by_cases hkn : named k = true
        · have hset : (named k && decide (f.code ≠ 0)) = true := by rw [hkn, decide_eq_true hcode]; rfl
          rw [if_pos (hon k hkn), if_pos ((hnamed k).mpr hkn), if_pos hset]
        · have hset : ¬(named k && decide (f.code ≠ 0)) = true := fun hset => hkn (Bool.and_eq_true_iff.mp hset).1
          rw [if_neg (mt (hnamed k).mp hkn), if_neg hset]
end

section
/-! Proofs about a reload (O10). -/

namespace Sys2Proof.Machine

/-! ### The accesses of a reload and what they put into the slot -/

/-- Access `i` of a reload (R133): eight bundles, a word of the trailer, and at the last the slot is whole. -/
def CfgSlot.loadAccess (x : CfgSlot) (m : Memory) (bank trailer i : Nat) : CfgSlot :=
  let y := x.putBundles (8 * i) (m.read (bank * 32768 + 256 * i) 256)
  let z := if i < 16 then y.putTrailer i (m.word64 (trailer * 1024 + 64 * i)) else y
  if i = 127 then { z with undef := none } else z

/-- A slot after the first `j` accesses. -/
def CfgSlot.loaded (x : CfgSlot) (m : Memory) (bank trailer : Nat) : Nat → CfgSlot
  | 0 => x
  | j + 1 => (x.loaded m bank trailer j).loadAccess m bank trailer j

/-- Site `a` is site `b` with `j` accesses of the reload `f` of cycle `n` done, and its sequencer at another place. -/
structure Site.ReloadedTo (b a : Site) (n : Nat) (f : FmtRL) (j : Nat) : Prop where
  reload : a.reload = some { slot := f.slot.toNat, bank := f.bank.toNat, trailer := f.trailer.toNat, start := n, done := j }
  slot : a.cfg f.slot.toNat =
    { b.cfg f.slot.toNat with readyAt := n + 128 }.loaded b.scr f.bank.toNat f.trailer.toNat j
  others : ∀ k, k ≠ f.slot.toNat → a.cfg k = b.cfg k
  rest : a = { b with
    seq := { b.seq with pc := a.seq.pc, next := a.seq.next, clock := a.seq.clock }, reload := a.reload, slots := a.slots
    usedAt := a.usedAt, usedBanks := a.usedBanks }

section
variable {b a : Site} {n : Nat} {f : FmtRL} {j : Nat}

theorem Site.ReloadedTo.atRest (h : b.ReloadedTo a n f j) (hb : b.AtRest) :
    a.seq.landings = [] ∧ a.mat.feeds = [] ∧ a.mat.loads = [] := by
  rw [h.rest]
  exact ⟨hb.landings, hb.feeds, hb.loads⟩

/-- A change of the place in the program alone. -/
theorem Site.ReloadedTo.moved (h : b.ReloadedTo a n f j) (pc next clock : Nat) :
    b.ReloadedTo { a with seq := { a.seq with pc := pc, next := next, clock := clock } } n f j := by
  refine ⟨h.reload, h.slot, h.others, ?_⟩
  conv_lhs => rw [h.rest]

/-- A note of an access changes the notes alone. -/
theorem Site.touch_if (p : Prop) [Decidable p] (u : Site) (c k : Nat) :
    ∃ used banks, (if p then u.touch c k else u) = { u with usedAt := used, usedBanks := banks } := by
  split
  · exact ⟨_, _, rfl⟩
  · exact ⟨_, _, rfl⟩

/-- An access that finds its banks' owners (R133). -/
theorem Site.ReloadedTo.access (h : b.ReloadedTo a n f j) (hj : j < 128)
    (hwide : b.owner f.bank.toNat (n + j) = ownWide) (hnarrow : b.owner (bankOf (f.trailer.toNat * 1024)) (n + j) = ownNarrow) :
    b.ReloadedTo (a.reloadAccess (n + j)) n f (j + 1) ∧ (a.reloadAccess (n + j)).mat = a.mat ∧
      (a.reloadAccess (n + j)).seq = a.seq := by
  have howner (k : Nat) : a.owner k (n + j) = b.owner k (n + j) := by rw [h.rest]; rfl
  have htrailer (hi : j < 16) : bankOf (f.trailer.toNat * 1024 + 64 * j) = bankOf (f.trailer.toNat * 1024) := by
    unfold bankOf
    omega
  have hscr : a.scr = b.scr := by rw [h.rest]
  have hok : ¬(a.owner f.bank.toNat (n + j) ≠ ownWide ||
      (j < 16 && a.owner (bankOf (f.trailer.toNat * 1024 + 64 * j)) (n + j) ≠ ownNarrow)) = true := by
    rw [howner, howner, hwide]
    by_cases hi : j < 16
    · simp [htrailer hi, hnarrow]
    · simp [hi]
  have hstep : ∃ used banks, a.reloadAccess (n + j) = { a with
      reload := some { slot := f.slot.toNat, bank := f.bank.toNat, trailer := f.trailer.toNat, start := n, done := j + 1 }
      slots := amod CfgSlot.empty a.slots f.slot.toNat (·.loadAccess b.scr f.bank.toNat f.trailer.toNat j)
      usedAt := used, usedBanks := banks } := by
    unfold Site.reloadAccess
    rw [h.reload]
    dsimp only
    rw [if_neg (Nat.not_le.mpr hj), if_neg (not_not.mpr rfl), if_neg hok, ← hscr]
    obtain ⟨used, banks, htouch⟩ := Site.touch_if (decide (j < 16) = true) (Site.touch _ (n + j) f.bank.toNat) (n + j) _
    simp only [decide_eq_true_eq] at htouch
    exact ⟨used, banks, htouch⟩
  obtain ⟨used, banks, hstep⟩ := hstep
  rw [hstep]
  refine ⟨⟨rfl, ?_, fun k hk => ?_, ?_⟩, rfl, rfl⟩
  · rw [CfgSlot.loaded, ← h.slot]
    exact aget_aset_self _ _ _ _
  · rw [← h.others k hk]
    exact aget_aset_ne _ _ _ _ _ hk
  · conv_lhs => rw [h.rest]

end

/-- With no stream and no weight load the wide port serves a reload alone. -/
theorem Site.wide_reload {a : Site} {c : Nat} (hfeeds : a.mat.feeds = []) (hloads : a.mat.loads = [])
    (hmat : (a.reloadAccess c).mat = a.mat) : a.wide c = a.reloadAccess c := by
  have hfetch (x : Site) (held : Bool) (hx : x.mat = a.mat) : (x.fetchAccess held c).weightAccess held c = x := by
    simp [Site.fetchAccess, Site.fetchDue, Site.weightAccess, hx, hfeeds, hloads]
  exact hfetch _ _ hmat

/-- The cycles of a reload pass one access each. -/
theorem Site.ReloadedTo.runTo {b : Site} {n : Nat} {f : FmtRL} (hb : b.AtRest)
    (hown : ∀ c, n ≤ c → b.owner f.bank.toNat c = ownWide ∧ b.owner (bankOf (f.trailer.toNat * 1024)) c = ownNarrow)
    (k j : Nat) (a : Site) (h : b.ReloadedTo a n f j) (hk : j + k = 128) (hclock : a.seq.clock = n + j) :
    b.ReloadedTo (Site.runTo k (n + 128) a) n f 128 := by
  induction k generalizing j a with
  | zero =>
    have hj : j = 128 := hk
    subst hj
    exact h.moved _ _ _
  | succ k ih =>
    obtain ⟨hlandings, hfeeds, hloads⟩ := h.atRest hb
    have hbusy : ¬a.quiet = true := by
      simp only [Site.quiet, h.reload, Bool.and_eq_true, decide_eq_true_eq, not_and, Nat.not_le]
      omega
    have harrive : a.arrive (n + j) = a := by
      rw [Site.arrive, a.land_none _ hlandings, a.landRows_none _ hfeeds, a.feedCheck_none _ hfeeds]
    obtain ⟨hwide, hnarrow⟩ := hown (n + j) (Nat.le_add_right n j)
    obtain ⟨hnext, hmat, -⟩ := h.access (by omega) hwide hnarrow
    rw [Site.runTo, if_neg (by omega), if_neg hbusy, hclock]
    have hpass : a.pass (n + j) = (a.reloadAccess (n + j)).clocked (n + j + 1) := by
      simp only [Site.pass, harrive, Site.wide_reload hfeeds hloads hmat]
      rfl
    rw [hpass]
    have hclocked : b.ReloadedTo ((a.reloadAccess (n + j)).clocked (n + j + 1)) n f (j + 1) := hnext.moved _ _ _
    exact ih (j + 1) _ hclocked (by omega) rfl

/-! ### What a whole reload leaves in the slot -/

theorem aget_foldl_aset {α : Type} (d : α) (b n : Nat) (v : Nat → α) (l : List (Nat × α)) (k : Nat) :
    aget d ((List.range n).foldl (fun l i => aset l (b + i) (v i)) l) k =
      if b ≤ k ∧ k < b + n then v (k - b) else aget d l k := by
  induction n with
  | zero => rw [if_neg (by omega)]; rfl
  | succ n ih =>
    rw [List.range_succ, List.foldl_append, List.foldl_cons, List.foldl_nil]
    by_cases hk : k = b + n
    · subst hk
      rw [aget_aset_self, if_pos (by omega), Nat.add_sub_cancel_left]
    · rw [aget_aset_ne _ _ _ _ _ hk, ih]
      exact if_congr (by omega) rfl rfl

theorem leAt_read (m : Memory) (a n i w : Nat) (h : i + w ≤ n) : leAt (m.read a n) i w = leNat (m.read (a + i) w) := by
  have hbytes : bytesFrom (m.read a n) i w = m.read (a + i) w := by
    refine List.ext_getElem ?_ fun k hk _ => ?_
    · simp [bytesFrom, Memory.read]
      omega
    · simp [bytesFrom, Memory.read, Nat.add_assoc]
  rw [leAt, hbytes]

section
variable (x : CfgSlot) (m : Memory) (bank trailer : Nat)

theorem CfgSlot.readyAt_loaded (j : Nat) : (x.loaded m bank trailer j).readyAt = x.readyAt := by
  induction j with
  | zero => rfl
  | succ j ih =>
    rw [CfgSlot.loaded, CfgSlot.loadAccess, ← ih]
    unfold CfgSlot.putTrailer
    split_ifs <;> rfl

theorem CfgSlot.bundles_loadAccess (j : Nat) :
    (x.loadAccess m bank trailer j).bundles = (x.putBundles (8 * j) (m.read (bank * 32768 + 256 * j) 256)).bundles := by
  unfold CfgSlot.loadAccess CfgSlot.putTrailer
  dsimp only
  split_ifs <;> rfl

theorem CfgSlot.bundles_loaded (j k : Nat) (hk : k < 8 * j) :
    aget 0 (x.loaded m bank trailer j).bundles k = BitVec.ofNat 256 (leNat (m.read (bank * 32768 + 32 * k) 32)) := by
  induction j with
  | zero => omega
  | succ j ih =>
    rw [CfgSlot.loaded, CfgSlot.bundles_loadAccess, CfgSlot.putBundles, aget_foldl_aset]
    split
    · rw [leAt_read _ _ _ _ _ (by omega), show bank * 32768 + 256 * j + 32 * (k - 8 * j) = bank * 32768 + 32 * k by omega]
    · exact ih (by omega)

/-- The last access of a reload changes the mark of the slot alone. -/
theorem CfgSlot.loadAccess_eq (j : Nat) : ∃ u, x.loadAccess m bank trailer j =
    { if j < 16 then (x.putBundles (8 * j) (m.read (bank * 32768 + 256 * j) 256)).putTrailer j (m.word64 (trailer * 1024 + 64 * j))
      else x.putBundles (8 * j) (m.read (bank * 32768 + 256 * j) 256) with undef := u } := by
  unfold CfgSlot.loadAccess
  dsimp only
  split
  · exact ⟨_, rfl⟩
  · exact ⟨_, rfl⟩

theorem CfgSlot.own_putTrailer (j : Nat) (l : List Byte) :
    (x.putTrailer j l).own = if j = 0 then BitVec.ofNat 64 (leAt l 0 8) else x.own := by
  unfold CfgSlot.putTrailer
  split_ifs <;> rfl

theorem CfgSlot.steer_putTrailer (j : Nat) (l : List Byte) :
    (x.putTrailer j l).steer = if j < 8 then x.steer else
      (List.range 4).foldl (fun t k => aset t (4 * (j - 8) + k) (BitVec.ofNat 128 (leAt l (16 * k) 16))) x.steer := by
  unfold CfgSlot.putTrailer
  by_cases hj : j = 0
  · subst hj
    rfl
  · rw [if_neg hj]
    split <;> rfl

theorem CfgSlot.own_loaded {j : Nat} (hj : 1 ≤ j) :
    (x.loaded m bank trailer j).own = BitVec.ofNat 64 (leNat (m.read (trailer * 1024) 8)) := by
  induction j, hj using Nat.le_induction with
  | base =>
    change BitVec.ofNat 64 (leAt (m.read ((trailer * 1024 + 0) / 64 * 64) 64) 0 8) = _
    rw [leAt_read _ _ _ _ _ (by omega), show (trailer * 1024 + 0) / 64 * 64 + 0 = trailer * 1024 by omega]
  | succ j hj ih =>
    obtain ⟨u, hu⟩ := (x.loaded m bank trailer j).loadAccess_eq m bank trailer j
    rw [CfgSlot.loaded, ← ih, hu]
    dsimp only
    split
    · rw [CfgSlot.own_putTrailer, if_neg (Nat.pos_iff_ne_zero.mp hj)]
      rfl
    · rfl

theorem CfgSlot.steer_loaded (j k : Nat) (hk : 8 + k / 4 < j) (hlast : k < 32) :
    aget 0 (x.loaded m bank trailer j).steer k = BitVec.ofNat 128 (leNat (m.read (trailer * 1024 + 512 + 16 * k) 16)) := by
  induction j with
  | zero => omega
  | succ j ih =>
    have hsteer : (x.loaded m bank trailer (j + 1)).steer = if 8 ≤ j ∧ j < 16 then
        (List.range 4).foldl (fun l i => aset l (4 * (j - 8) + i)
          (BitVec.ofNat 128 (leAt (m.word64 (trailer * 1024 + 64 * j)) (16 * i) 16))) (x.loaded m bank trailer j).steer
        else (x.loaded m bank trailer j).steer := by
      obtain ⟨u, hu⟩ := (x.loaded m bank trailer j).loadAccess_eq m bank trailer j
      rw [CfgSlot.loaded, hu]
      dsimp only
      by_cases hhigh : j < 16
      · rw [if_pos hhigh, CfgSlot.steer_putTrailer]
        by_cases hlow : j < 8
        · rw [if_pos hlow, if_neg (by omega)]
          rfl
        · rw [if_neg hlow, if_pos (by omega)]
          rfl
      · rw [if_neg hhigh, if_neg (by omega)]
        rfl
    rw [hsteer]
    split
    · rw [aget_foldl_aset]
      split
      · rw [Memory.word64, leAt_read _ _ _ _ _ (by omega),
          show (trailer * 1024 + 64 * j) / 64 * 64 + 16 * (k - 4 * (j - 8)) = trailer * 1024 + 512 + 16 * k by omega]
      · exact ih (by omega)
    · exact ih (by omega)

theorem CfgSlot.undef_loaded : (x.loaded m bank trailer 128).undef = none := by
  rw [CfgSlot.loaded, CfgSlot.loadAccess]
  rfl

end

end Sys2Proof.Machine

open Sys2Proof Sys2Proof.Machine

/-- Settles O10: each cycle does one access, and 128 of them write every bundle and every word of the trailer (R133). -/
theorem reloadFillsSlot : Obligations.ReloadFillsSlot := by
  intro s i f hcan hg b n
  have h := State.ready_of_canIssue hcan
  obtain ⟨hrun, -, -, hclock, hidle⟩ := (s.canIssue_iff i).mp hcan
  obtain ⟨-, -, -, -, hloops⟩ := (s.site i).idle_iff.mp hidle
  have hbody (busy : Bool) : (s.atClock i).scalarBody n busy (.reload f) =
      if f.slot.toNat = b.slotAt n || b.reloading n then ((s.atClock i).raise .bankClash Clash.slotBusy.code n [], .stop)
      else ({ s.atClock i with
        reload := some { slot := f.slot.toNat, bank := f.bank.toNat, trailer := f.trailer.toNat, start := n, done := 0 }
        slots := amod CfgSlot.empty b.slots f.slot.toNat (fun c => { c with readyAt := n + 128 }) }, .fall) := rfl
  refine ⟨fun hslot => ?_, fun hslot hown => ?_⟩
  · exact h.stopsWith_scalar (op := .reload f) rfl hg rfl ((hbody _).trans (if_pos (by simp [hslot])))
  · have hfree : ¬(f.slot.toNat = b.slotAt n || b.reloading n) = true := by
      have hnone : b.reloading n = false := by rw [Site.reloading, h.atRest.reload]
      simp [hslot, hnone]
    let a : Site := { s.atClock i with
        reload := some { slot := f.slot.toNat, bank := f.bank.toNat, trailer := f.trailer.toNat, start := n, done := 0 }
        slots := amod CfgSlot.empty b.slots f.slot.toNat (fun c => { c with readyAt := n + 128 }) }
    have hstart : b.ReloadedTo a n f 0 :=
      ⟨rfl, aget_aset_self _ _ _ _, fun k hk => aget_aset_ne _ _ _ _ _ hk, rfl⟩
    obtain ⟨hwide, hnarrow⟩ := hown n le_rfl
    obtain ⟨hone, hmat, hseq⟩ := hstart.access (by decide) hwide hnarrow
    have hissue : b.issue s.turn.geom.work (loneScalar (.reload f)) Checks.clean =
        ({ a.reloadAccess n with seq := { (a.reloadAccess n).seq with pc := b.seq.pc + 1, next := n + 1, clock := n + 1 } }, []) := by
      have hguard : (s.atClock i).guard (scalarGuard (.reload f)) = true := hg
      have hwideport : a.wide n = a.reloadAccess n := Site.wide_reload h.atRest.feeds h.atRest.loads hmat
      have hfall : (a.reloadAccess n).finish n .fall = _ :=
        Site.finish_fall_of_no_loops _ n ((congrArg (·.loops) hseq).trans hloops)
      rw [h.issue rfl, Site.slots5_scalar, Site.issueScalar, if_pos hguard]
      refine congrArg (·, []) ?_
      rw [(hbody _).trans (if_neg hfree)]
      change ((a.wide n).finish n .fall).clocked (n + 1) = _
      rw [hwideport, hfall, show (a.reloadAccess n).seq.pc = b.seq.pc from congrArg (·.pc) hseq]
      rfl
    have hfirst := hone.moved (b.seq.pc + 1) (n + 1) (n + 1)
    change b.ReloadedTo { a.reloadAccess n with seq := { (a.reloadAccess n).seq with pc := b.seq.pc + 1, next := n + 1, clock := n + 1 } }
      n f 1 at hfirst
    have hnote (y : Site) (hy : b.ReloadedTo y n f 1) :
        y.seq.stalls = b.seq.stalls ∧ y.seq.steerStalls = b.seq.steerStalls ∧ y.faults = b.faults ∧ y.seq.status = b.seq.status := by
      rw [hy.rest]
      exact ⟨rfl, rfl, rfl, rfl⟩
    obtain ⟨hstalls, hsteer, hfaults, hstatus⟩ := hnote _ hfirst
    obtain ⟨hsite, honly⟩ := s.issueAt_lone i _ _ hissue hstalls hsteer hfaults
    have hdone := Site.ReloadedTo.runTo h.atRest hown 127 1 _ hfirst rfl rfl
    have hseen : (s.issueAt i (loneScalar (.reload f)) Checks.clean).seen i (n + 128) =
        Site.runTo 127 (n + 128)
          { a.reloadAccess n with seq := { (a.reloadAccess n).seq with pc := b.seq.pc + 1, next := n + 1, clock := n + 1 } } := by
      obtain ⟨hlandings, hfeeds, -⟩ := hdone.atRest h.atRest
      rw [State.seen, hsite, Site.settle, show n + 128 - (n + 1) = 127 by omega, Site.arrive, Site.land_none _ _ hlandings,
        Site.landRows_none _ _ hfeeds, Site.feedCheck_none _ _ hfeeds]
    refine ⟨_, rfl, ⟨honly, ?_, ?_, ?_⟩, ?_⟩
    · rw [hsite]
    · rw [hsite]
    · rw [hsite]
      exact hstatus.trans hrun
    · simp only [hseen]
      generalize Site.runTo 127 (n + 128) _ = y at hdone
      have hslotIs := hdone.slot
      refine ⟨fun k hk => ?_, ?_, fun k hk => ?_, ?_, ?_, ?_, ?_, ?_, ?_, hdone.others⟩
      · rw [hslotIs]
        exact CfgSlot.bundles_loaded _ _ _ _ _ _ (by omega)
      · rw [hslotIs]
        exact CfgSlot.own_loaded _ _ _ _ (by decide)
      · rw [hslotIs]
        exact CfgSlot.steer_loaded _ _ _ _ _ _ (by omega) hk
      · rw [hslotIs]
        exact CfgSlot.undef_loaded _ _ _ _
      · rw [hslotIs]
        exact CfgSlot.readyAt_loaded _ _ _ _ _
      · rw [Site.reloading, hdone.reload]
        simp
      · rw [hdone.rest]
        exact ⟨fun _ => rfl, fun _ => rfl, fun _ => rfl, fun _ => rfl, fun _ => rfl⟩
      · rw [hdone.rest]
      · rw [hdone.rest]
end

section
/-! Proofs about the load/store slot (O20, O21). -/

namespace Sys2Proof.Machine

/-- A site with its notes of the scratchpad's ports replaced. -/
def Site.noted (a : Site) (used : Nat) (banks : List Nat) : Site := { a with usedAt := used, usedBanks := banks }

/-- The load/store operation's own part of a lone bundle (R117). -/
theorem State.Ready.issue_ls {s : State} {i : Nat} (h : s.Ready i) {op : LsOp} (hg : (s.site i).guard (lsGuard op) = true) {a : Site}
    (hbody : (s.atClock i).lsBody (s.issueCycle i) op = a) (hmat : a.mat = (s.site i).mat) (hreload : a.reload = (s.site i).reload)
    (hloops : a.seq.loops = []) :
    (s.site i).issue s.turn.geom.work (loneLs op) Checks.clean =
      ({ a with seq := { a.seq with pc := a.seq.pc + 1, next := s.issueCycle i + 1, clock := s.issueCycle i + 1 } }, []) := by
  have hguard : (s.atClock i).guard (lsGuard op) = true := hg
  rw [h.issue rfl, Site.slots5_ls, Site.issueLs, if_pos hguard, hbody,
    Site.wide_none a _ (by rw [hmat, h.atRest.feeds]) (by rw [hmat, h.atRest.loads]) (by rw [hreload, h.atRest.reload]),
    a.finish_fall_of_no_loops _ hloops]
  rfl

theorem State.loops_of_canIssue {s : State} {i : Nat} (hcan : s.canIssue i = true) : (s.site i).seq.loops = [] := by
  obtain ⟨-, -, -, -, hidle⟩ := (s.canIssue_iff i).mp hcan
  obtain ⟨-, -, -, -, hloops⟩ := (s.site i).idle_iff.mp hidle
  exact hloops

/-- The site that a fault in its issue cycle leaves: beside the fault its port notes and its exchange unit may differ. -/
def State.raised (s : State) (i used : Nat) (banks : List Nat) (e : Exchange) (cause : Cause) (detail : Nat) (data : List Byte) : Site :=
  { (s.site i).noted used banks with
    ex := e
    faults := (s.site i).faults ++ [{ cause := cause, detail := detail, cycle := s.issueCycle i, pc := (s.site i).seq.pc
                                      slot := (s.atClock i).slotAt (s.issueCycle i), data := data, service := (s.site i).service }]
    seq := { (s.site i).seq with
      status := .stopped (s.issueCycle i), pc := (s.site i).seq.pc + 1, next := s.issueCycle i + 1, clock := s.issueCycle i + 1 } }

/-- A fault raised on the running site of a bundle, at the bundle's end. -/
theorem State.Ready.raise_fall {s : State} {i : Nat} (h : s.Ready i) (used : Nat) (banks : List Nat) (e : Exchange) (cause : Cause)
    (detail : Nat) (data : List Byte) {y : Site}
    (hy : y = ({ (s.atClock i).noted used banks with ex := e } : Site).raise cause detail (s.issueCycle i) data) :
    { y with seq := { y.seq with pc := y.seq.pc + 1, next := s.issueCycle i + 1, clock := s.issueCycle i + 1 } } =
      s.raised i used banks e cause detail data := by
  simp only [hy, Site.raise, Site.noted, State.atClock, Site.clocked, h.running]
  rfl

/-- A lone bundle that raises a fault stops its site (R101). -/
theorem State.stopsWith_raised {s : State} {i : Nat} (hcan : s.canIssue i = true) {c : Instr} {b : Bundle} {cause : Cause} {detail : Nat}
    {data : List Byte} {used : Nat} {banks : List Nat} {e : Exchange} (he : exec c s = .next (s.issueAt i b Checks.clean))
    (hissue : (s.site i).issue s.turn.geom.work b Checks.clean = (s.raised i used banks e cause detail data, []))
    (hcause : cause.isCounted = false) : StopsWith s i c cause detail ((s.site i).noted used banks) := by
  have h := State.ready_of_canIssue hcan
  obtain ⟨hsite, honly⟩ := State.issueAt_raised hissue rfl rfl (by simpa [State.raised] using hcause)
  have hstill : ((s.issueAt i b Checks.clean).site i).AtRest := by
    rw [hsite]
    exact ⟨h.atRest.landings, h.atRest.feeds, h.atRest.loads, h.atRest.reload⟩
  have hregs := State.seen_sameRegs_of_atRest hstill
  refine ⟨_, he, honly, ?_, Or.inr ?_, ?_, ?_, fun n => ?_⟩
  · rw [hsite]
    rfl
  · rw [hsite]
    rfl
  · rw [hsite]
    simp [State.raised]
  · rw [hsite]
    rfl
  · have hsame := hregs n
    rw [hsite] at hsame
    exact hsame

/-- A load/store operation that stops its site (R101). -/
theorem State.stopsWith_ls {s : State} {i : Nat} {c : Instr} {op : LsOp} {cause : Cause} {detail : Nat} {data : List Byte}
    {used : Nat} {banks : List Nat} (hcan : s.canIssue i = true) (hg : (s.site i).guard (lsGuard op) = true)
    (he : exec c s = .next (s.issueAt i (loneLs op) Checks.clean)) (hcause : cause.isCounted = false)
    (hbody : (s.atClock i).lsBody (s.issueCycle i) op = ((s.atClock i).noted used banks).raise cause detail (s.issueCycle i) data) :
    StopsWith s i c cause detail ((s.site i).noted used banks) := by
  have h := State.ready_of_canIssue hcan
  have hissue := h.issue_ls hg hbody rfl rfl (State.loops_of_canIssue hcan)
  exact State.stopsWith_raised hcan he
    (hissue.trans (congrArg (·, []) (h.raise_fall used banks (s.site i).ex cause detail data rfl))) hcause

/-- A load/store operation that puts results in flight. -/
theorem State.issueAt_ls {s : State} {i : Nat} {op : LsOp} {used : Nat} {banks : List Nat} {m : Memory} {l : List Landing}
    (hcan : s.canIssue i = true) (hg : (s.site i).guard (lsGuard op) = true)
    (hbody : (s.atClock i).lsBody (s.issueCycle i) op =
      { (s.atClock i).noted used banks with scr := m, seq := { (s.atClock i).seq with landings := l } }) :
    Moved s (s.issueAt i (loneLs op) Checks.clean) i ∧
      (s.issueAt i (loneLs op) Checks.clean).site i = { (s.site i).noted used banks with
        scr := m
        seq := { (s.site i).seq with
          pc := (s.site i).seq.pc + 1, next := s.issueCycle i + 1, clock := s.issueCycle i + 1, landings := l } } := by
  have h := State.ready_of_canIssue hcan
  have hissue := h.issue_ls hg hbody rfl rfl (State.loops_of_canIssue hcan)
  obtain ⟨hsite, honly⟩ := s.issueAt_lone i _ _ hissue rfl rfl rfl
  refine ⟨⟨honly, ?_, ?_, ?_⟩, hsite⟩
  · rw [hsite]
    rfl
  · rw [hsite]
  · rw [hsite]
    exact h.running

/-- The site once a lone load has issued, its result in flight. -/
def State.loading (s : State) (i used : Nat) (banks : List Nat) (res : Result) : Site :=
  { (s.site i).noted used banks with
    seq := { (s.site i).seq with
      pc := (s.site i).seq.pc + 1, next := s.issueCycle i + 1, clock := s.issueCycle i + 1
      landings := [{ at_ := s.issueCycle i + 6, rank := rankLs, res := res }] } }

/-- What a result in flight leaves of the site. -/
theorem State.loading_regs (s : State) (i used : Nat) (banks : List Nat) (res : Result) :
    (s.loading i used banks res).sameRegs (s.site i) :=
  ⟨fun _ => rfl, fun _ => rfl, fun _ => rfl, fun _ => rfl, fun _ => rfl⟩

theorem State.loading_with (s : State) (i used : Nat) (banks : List Nat) (res : Result) (q : Sequencer) (v : VectorUnit) :
    { s.loading i used banks res with seq := q, vec := v } = { (s.site i).noted used banks with seq := q, vec := v } := rfl

/-- What a vector result leaves as it lands. -/
theorem Site.landed_v (x : Site) (c r : Nat) (w : List (Word × Word × Bool)) :
    let a := ((x.clocked c).apply (.v r w)).landed
    (∀ l, l < 64 → laneAt (a.vreg r) l = (laneAt (x.vreg r) l).merge (w.getD l (0, 0, false))) ∧ (∀ l, a.laneFlags l = x.laneFlags l) ∧
      (∀ q, q ≠ r → a.vreg q = x.vreg q) ∧ (∀ q, a.vmreg q = x.vmreg q) ∧ (∀ q, a.sreg q = x.sreg q) ∧ (∀ q, a.preg q = x.preg q) ∧
      (∀ q, a.kreg q = x.kreg q) ∧ a = { x with seq := a.seq, vec := a.vec } :=
  ⟨fun _ hl => Site.laneAt_setV_self _ r w hl, fun _ => rfl, fun q hq => Site.vreg_setV_ne _ r q w hq, fun _ => rfl, fun _ => rfl,
    fun _ => rfl, fun _ => rfl, rfl⟩

/-- What a scalar result leaves as it lands. -/
theorem Site.landed_s (x : Site) (c r : Nat) (v : Word) :
    let a := ((x.clocked c).apply (.s r v)).landed
    (∀ q, a.sreg q = if q = r then v else x.sreg q) ∧ (∀ q, a.preg q = x.preg q) ∧ (∀ q, a.kreg q = x.kreg q) ∧
      a = { x with seq := a.seq } :=
  ⟨fun _ => Site.sreg_setS _ _ _ _, fun _ => rfl, fun _ => rfl, rfl⟩

/-- A lone load: its result is there 6 cycles after issue. -/
theorem State.seen_ls {s : State} {i : Nat} {op : LsOp} {used : Nat} {banks : List Nat} {res : Result}
    (hcan : s.canIssue i = true) (hg : (s.site i).guard (lsGuard op) = true)
    (hbody : (s.atClock i).lsBody (s.issueCycle i) op =
      ((s.atClock i).noted used banks).later (s.issueCycle i + latNarrow) rankLs res) :
    Moved s (s.issueAt i (loneLs op) Checks.clean) i ∧
      (s.issueAt i (loneLs op) Checks.clean).seen i (s.issueCycle i + 6) =
        (((s.loading i used banks res).clocked (s.issueCycle i + 6)).apply res).landed := by
  have h := State.ready_of_canIssue hcan
  have hlater : ((s.atClock i).noted used banks).later (s.issueCycle i + latNarrow) rankLs res =
      { (s.atClock i).noted used banks with
        scr := (s.site i).scr
        seq := { (s.atClock i).seq with landings := [{ at_ := s.issueCycle i + 6, rank := rankLs, res := res }] } } := by
    have hnone : ((s.atClock i).noted used banks).seq.landings = [] := h.atRest.landings
    rw [Site.later, hnone]
    rfl
  obtain ⟨hmoved, hissued⟩ := State.issueAt_ls hcan hg (hbody.trans hlater)
  have hsite : (s.issueAt i (loneLs op) Checks.clean).site i = s.loading i used banks res := hissued
  have hseen := State.seen_landing (t := s.issueAt i (loneLs op) Checks.clean) (i := i) (c := s.issueCycle i + 6)
    (congrArg (·.seq.landings) hsite) (by rw [hsite]; exact h.atRest.feeds) (by rw [hsite]; exact h.atRest.loads)
    (by rw [hsite]; exact h.atRest.reload) (by rw [hsite]; exact Nat.add_le_add_left (by decide) _) (by decide)
  rw [hsite] at hseen
  exact ⟨hmoved, hseen⟩

/-- A lone load into a vector register, readable 6 cycles later. -/
theorem State.changesV_ls {s : State} {i : Nat} {c : Instr} {op : LsOp} {used r : Nat} {banks : List Nat}
    {w : List (Word × Word × Bool)} {new : Nat → Lane} (hcan : s.canIssue i = true) (hg : (s.site i).guard (lsGuard op) = true)
    (he : exec c s = .next (s.issueAt i (loneLs op) Checks.clean))
    (hbody : (s.atClock i).lsBody (s.issueCycle i) op =
      ((s.atClock i).noted used banks).later (s.issueCycle i + latNarrow) rankLs (.v r w))
    (hnew : ∀ l, l < 64 → new l = (laneAt ((s.site i).vreg r) l).merge (w.getD l (0, 0, false))) :
    ChangesV s i c 6 r new (fun _ => 0) ((s.site i).noted used banks) := by
  obtain ⟨hmoved, hseen⟩ := State.seen_ls hcan hg hbody
  refine ⟨_, he, hmoved, ?_⟩
  obtain ⟨hs, hp, hk, hv, hvm⟩ := s.loading_regs i used banks (.v r w)
  obtain ⟨hlane, hflags, hne, hvm', hs', hp', hk', hall⟩ :=
    (s.loading i used banks (.v r w)).landed_v (s.issueCycle i + 6) r w
  rw [hseen]
  refine ⟨fun l hl => ⟨?_, ?_⟩, fun q hq => (hne q hq).trans (hv q), fun q => (hvm' q).trans (hvm q), fun q => (hs' q).trans (hs q),
    fun q => (hp' q).trans (hp q), fun q => (hk' q).trans (hk q), hall.trans (s.loading_with ..)⟩
  · rw [hnew l hl, hlane l hl, hv]
  · exact (hflags l).trans BitVec.or_zero.symm

/-- A lone load into a scalar register, readable 6 cycles later. -/
theorem State.writesS_ls {s : State} {i : Nat} {c : Instr} {op : LsOp} {used r : Nat} {banks : List Nat} {v : Word}
    (hcan : s.canIssue i = true) (hg : (s.site i).guard (lsGuard op) = true)
    (he : exec c s = .next (s.issueAt i (loneLs op) Checks.clean))
    (hbody : (s.atClock i).lsBody (s.issueCycle i) op =
      ((s.atClock i).noted used banks).later (s.issueCycle i + latNarrow) rankLs (.s r v)) :
    WritesS s i c r 6 v ((s.site i).noted used banks) := by
  obtain ⟨hmoved, hseen⟩ := State.seen_ls hcan hg hbody
  refine ⟨_, he, hmoved, ?_⟩
  obtain ⟨hs, hp, hk, hv, hvm⟩ := s.loading_regs i used banks (.s r v)
  obtain ⟨hs', hp', hk', hall⟩ := (s.loading i used banks (.s r v)).landed_s (s.issueCycle i + 6) r v
  rw [hseen]
  exact ⟨(hs' r).trans (if_pos rfl), fun q hq => ((hs' q).trans (if_neg hq)).trans (hs q), fun q => (hp' q).trans (hp q),
    fun q => (hk' q).trans (hk q), hall.trans (s.loading_with ..)⟩

/-! ### The narrow port -/

theorem Site.vecAddr_aligned (a : Site) (sa : BitVec 5) (off : Nat) : a.vecAddr sa off / 64 * 64 = a.vecAddr sa off := by
  unfold Site.vecAddr
  omega

/-- With no reload a narrow access clashes exactly where the bank is not NARROW (R171). -/
theorem Site.narrowClash_eq (a : Site) (x n : Nat) (h : a.reload = none) :
    a.narrowClash x n = if a.owner (bankOf x) n = ownNarrow then none else some .owner := by
  unfold Site.narrowClash
  rw [h]
  simp

/-- The banks noted once site `i` of `s` has accessed bank `k` in its issue cycle. -/
def State.notedBanks (s : State) (i k : Nat) : List Nat :=
  if (s.site i).usedAt = s.issueCycle i then nins (s.site i).usedBanks k else [k]

/-- An access to a NARROW bank is performed, and noted (R171). -/
theorem State.narrowClash_none {s : State} {i x : Nat} (hcan : s.canIssue i = true)
    (hown : (s.site i).owner (bankOf x) (s.issueCycle i) = ownNarrow) : (s.atClock i).narrowClash x (s.issueCycle i) = none :=
  ((s.atClock i).narrowClash_eq x _ (State.ready_of_canIssue hcan).atRest.reload).trans (if_pos hown)

theorem State.narrow_ok {s : State} {i x : Nat} (hcan : s.canIssue i = true)
    (hown : (s.site i).owner (bankOf x) (s.issueCycle i) = ownNarrow) {y : Site} {g : Site → Site}
    (hy : y = (s.atClock i).narrow x (s.issueCycle i) g) : y = g ((s.atClock i).touch (s.issueCycle i) (bankOf x)) := by
  rw [hy, Site.narrow, State.narrowClash_none hcan hown]

/-- An access to another bank is not (R101, R171). -/
theorem State.narrowClash_some {s : State} {i x : Nat} (hcan : s.canIssue i = true)
    (hown : (s.site i).owner (bankOf x) (s.issueCycle i) ≠ ownNarrow) :
    (s.atClock i).narrowClash x (s.issueCycle i) = some .owner :=
  ((s.atClock i).narrowClash_eq x _ (State.ready_of_canIssue hcan).atRest.reload).trans (if_neg hown)

theorem State.narrow_clash {s : State} {i x : Nat} (hcan : s.canIssue i = true)
    (hown : (s.site i).owner (bankOf x) (s.issueCycle i) ≠ ownNarrow) {y : Site} {g : Site → Site}
    (hy : y = (s.atClock i).narrow x (s.issueCycle i) g) :
    y = (s.atClock i).raise .bankClash Clash.owner.code (s.issueCycle i) [] := by
  rw [hy, Site.narrow, State.narrowClash_some hcan hown]
  rfl

/-- The accesses of the operations that are no loads of vector elements. -/
theorem Site.lsBody_sld (a : Site) (n : Nat) (f : FmtLS) : a.lsBody n (.sld f) =
    a.narrow (a.scalarAddr f.sa f.off.toNat) n (fun s =>
      if s.scr.poison64 (a.scalarAddr f.sa f.off.toNat) then
        s.raise .poison 0 n ([1, 0, 0, 0] ++ leBytes 4 (a.scalarAddr f.sa f.off.toNat / 64 * 64) ++ List.replicate 8 0)
      else s.later (n + latNarrow) rankLs (.s f.sd.toNat (BitVec.ofNat 32 (leNat (s.scr.read (a.scalarAddr f.sa f.off.toNat) 4))))) :=
  rfl

theorem Site.lsBody_sst (a : Site) (n : Nat) (f : FmtLS) : a.lsBody n (.sst f) =
    a.narrow (a.scalarAddr f.sa f.off.toNat) n (fun s =>
      { s with scr := s.scr.write (a.scalarAddr f.sa f.off.toNat) (leBytes 4 (s.sreg f.sd.toNat).toNat) }) := rfl

theorem Site.lsBody_vstq (a : Site) (n : Nat) (f : FmtLQ) : a.lsBody n (.vstq f) =
    a.narrow (a.vecAddr f.sa f.off.toNat) n (fun s => { s with
      scr := s.scr.setWord64 (a.vecAddr f.sa f.off.toNat) (quarterBytes (s.vreg f.vd.toNat) f.q.toNat)
        (quarterPoison (s.vreg f.vd.toNat) f.q.toNat) }) := rfl

/-! ### Loads -/

theorem getD_drawnLanes (free : Nat → Word) (lo count : Nat) (p : Bool) (f : Nat → Word) {l : Nat} (hl : l < 64) :
    (drawnLanes free lo count p f).getD l (0, 0, false) =
      if lo ≤ l && l < lo + count then (if p then free (lo + (l - lo)) else f (l - lo), BitVec.allOnes 32, p) else (0, 0, false) := by
  unfold drawnLanes lanesWrite
  exact getD_laneNos_map _ _ hl

/-- The lanes that a load of `count` elements writes, from lane `lo` on (R173). -/
theorem merge_drawnLanes (old : Lane) (free : Nat → Word) (lo count : Nat) (p : Bool) (f : Nat → Word) {l : Nat} (hl : l < 64) :
    old.merge ((drawnLanes free lo count p f).getD l (0, 0, false)) =
      if lo ≤ l ∧ l < lo + count then { bits := if p then free l else f (l - lo), poison := p } else old := by
  rw [getD_drawnLanes _ _ _ _ _ hl]
  by_cases hin : lo ≤ l ∧ l < lo + count
  · rw [if_pos (by simpa using hin), if_pos hin, Lane.merge_all, Nat.add_sub_cancel' hin.1]
  · rw [if_neg (by simpa using hin), if_neg hin, Lane.merge_none]

/-- A load of vector elements from a NARROW bank. -/
theorem State.changesV_load {s : State} {i : Nat} {c : Instr} {op : LsOp} {x lo count size : Nat} {vd : BitVec 5} {ext : Nat → Word}
    {new : Nat → Lane} (hcan : s.canIssue i = true) (hg : (s.site i).guard (lsGuard op) = true)
    (hown : (s.site i).owner (bankOf x) (s.issueCycle i) = ownNarrow)
    (he : exec c s = .next (s.issueAt i (loneLs op) Checks.clean))
    (hbody : (s.atClock i).lsBody (s.issueCycle i) op = (s.atClock i).loadLanes (s.issueCycle i) x vd lo count size ext)
    (hnew : ∀ l, l < 64 → new l =
      if lo ≤ l ∧ l < lo + count then
        { bits := if (s.site i).scr.poison64 x then (s.site i).loadFree (s.issueCycle i) l
                  else ext (leAt ((s.site i).scr.word64 x) ((l - lo) * size) size)
          poison := (s.site i).scr.poison64 x }
      else laneAt ((s.site i).vreg vd.toNat) l) :
    ChangesV s i c 6 vd.toNat new (fun _ => 0) ((s.site i).touch (s.issueCycle i) (bankOf x)) := by
  have hload : (s.atClock i).loadLanes (s.issueCycle i) x vd lo count size ext =
      ((s.atClock i).noted (s.issueCycle i) (s.notedBanks i (bankOf x))).later (s.issueCycle i + latNarrow) rankLs
        (.v vd.toNat (drawnLanes ((s.site i).loadFree (s.issueCycle i)) lo count ((s.site i).scr.poison64 x)
          fun k => ext (leAt ((s.site i).scr.word64 x) (k * size) size))) := State.narrow_ok hcan hown rfl
  exact State.changesV_ls hcan hg he (hbody.trans hload) fun l hl => by rw [hnew l hl, merge_drawnLanes _ _ _ _ _ _ hl]

/-- A quarter of a vector register is a load of 16 words. -/
theorem Site.loadQuarter_eq (a : Site) (n x : Nat) (vd : BitVec 5) (q : Nat) :
    a.loadQuarter n x vd q = a.loadLanes n x vd (16 * q) 16 4 (BitVec.ofNat 32) := by
  unfold Site.loadQuarter Site.loadLanes unitLanes
  simp only [Nat.mul_comm 4]

/-- The address that a load/store operation accesses (Table 5.10). -/
def Site.lsAddr (a : Site) : LsOp → Nat
  | .nop => 0
  | .vldq f | .vstq f | .vldb f | .vldbX f | .vldh f => a.vecAddr f.sa f.off.toNat
  | .vldqP f | .vstqP f => a.vecAddr f.sa 0
  | .sld f | .sst f => a.scalarAddr f.sa f.off.toNat

/-- An operation whose access clashes does nothing else (R101, R171). -/
theorem Site.lsBody_of_clash {a : Site} {n : Nat} {op : LsOp} {d : Clash} (hop : op ≠ .nop)
    (h : a.narrowClash (a.lsAddr op) n = some d) : a.lsBody n op = a.clash d n := by
  cases op with
  | nop => exact absurd rfl hop
  | _ => simp only [Site.lsAddr] at h; simp only [Site.lsBody, Site.loadQuarter, Site.loadLanes, Site.storeQuarter, Site.narrow, h]

/-- An operation on a bank that is not NARROW stops its site. -/
theorem State.stopsWith_owner {s : State} {i : Nat} {c : Instr} {op : LsOp} (hcan : s.canIssue i = true)
    (hg : (s.site i).guard (lsGuard op) = true) (he : exec c s = .next (s.issueAt i (loneLs op) Checks.clean)) (hop : op ≠ .nop)
    (hown : (s.site i).owner (bankOf ((s.site i).lsAddr op)) (s.issueCycle i) ≠ ownNarrow) :
    StopsWith s i c .bankClash Clash.owner.code :=
  State.stopsWith_ls (used := (s.site i).usedAt) (banks := (s.site i).usedBanks) hcan hg he rfl
    (Site.lsBody_of_clash hop (State.narrowClash_some hcan hown))

end Sys2Proof.Machine

open Sys2Proof Sys2Proof.Machine

/-- Settles O20: a load from a NARROW bank puts the word's elements in flight for 6 cycles; on another bank every operation of the
slot does nothing but raise the clash (R101, R171). -/
theorem loads : Obligations.Loads := by
  refine ⟨fun s i f g hcan hf hg => ?loads, fun s i f p g hcan hf hp hg => ?clashes⟩
  case loads =>
    intro b n a e bytes p lane u
    have hword (j w : Nat) (h : j + w ≤ 64) : leAt (b.scr.word64 a) j w = bytes (a + j) w := by
      rw [Memory.word64, b.vecAddr_aligned, leAt_read _ _ _ _ _ h]
    have hbyte (l : Nat) (hl : l < 64) : leAt (b.scr.word64 a) ((l - 0) * 1) 1 = (b.scr.byte (a + l)).toNat := by
      rw [hword _ _ (by omega), Nat.sub_zero, Nat.mul_one]
      simp [bytes, Memory.read, leNat]
    refine ⟨fun hown => ⟨?_, ?_, ?_, ?_⟩, fun hown hclean => ?_, fun hown hpoison => ?_⟩
    · refine State.changesV_load (op := .vldq f) (lo := 16 * f.q.toNat) (count := 16) (size := 4) (ext := BitVec.ofNat 32) hcan hf hown
        rfl ((s.atClock i).loadQuarter_eq _ _ _ _) fun l hl => ?_
      by_cases hq : l / 16 = f.q.toNat
      · rw [if_pos hq, if_pos (by omega), hword _ _ (by omega), show (l - 16 * f.q.toNat) * 4 = 4 * (l % 16) by omega]
      · rw [if_neg hq, if_neg (by omega)]
    · refine State.changesV_load (op := .vldb f) (lo := 0) (count := 64) (size := 1) (ext := BitVec.ofNat 32) hcan hf hown rfl rfl
        fun l hl => ?_
      rw [if_pos (by omega), hbyte l hl, BitVec.ofNat_toNat]
    · refine State.changesV_load (op := .vldbX f) (lo := 0) (count := 64) (size := 1) (ext := fun v => (BitVec.ofNat 8 v).signExtend 32)
        hcan hf hown rfl rfl fun l hl => ?_
      rw [if_pos (by omega), hbyte l hl, BitVec.ofNat_toNat, BitVec.setWidth_eq]
    · refine State.changesV_load (op := .vldh f) (lo := 32 * (f.q.toNat % 2)) (count := 32) (size := 2) (ext := BitVec.ofNat 32) hcan hf
        hown rfl rfl fun l hl => ?_
      by_cases hq : l / 32 = f.q.toNat % 2
      · rw [if_pos hq, if_pos (by omega), hword _ _ (by omega), show (l - 32 * (f.q.toNat % 2)) * 2 = 2 * (l % 32) by omega]
      · rw [if_neg hq, if_neg (by omega)]
    · refine State.writesS_ls (op := .sld g) (used := n) (banks := s.notedBanks i (bankOf e)) hcan hg rfl
        ((State.narrow_ok hcan hown (Site.lsBody_sld ..)).trans ((if_neg ?_).trans rfl))
      exact fun hp => Bool.false_ne_true (hclean.symm.trans hp)
    · exact State.stopsWith_ls (op := .sld g) (used := n) (banks := s.notedBanks i (bankOf e)) hcan hg rfl rfl
        ((State.narrow_ok hcan hown (Site.lsBody_sld ..)).trans ((if_pos hpoison).trans rfl))
  case clashes =>
    intro b n
    have stops {c : Instr} {op : LsOp} := @State.stopsWith_owner s i c op hcan
    simp only [List.forall_mem_cons, List.not_mem_nil, IsEmpty.forall_iff, implies_true, and_true]
    exact ⟨fun hown => ⟨stops (op := .vldq f) hf rfl nofun hown, stops (op := .vldb f) hf rfl nofun hown,
        stops (op := .vldbX f) hf rfl nofun hown, stops (op := .vldh f) hf rfl nofun hown, stops (op := .vstq f) hf rfl nofun hown⟩,
      fun hown => ⟨stops (op := .vldqP p) hp rfl nofun hown, stops (op := .vstqP p) hp rfl nofun hown⟩,
      fun hown => ⟨stops (op := .sld g) hg rfl nofun hown, stops (op := .sst g) hg rfl nofun hown⟩⟩
end

section
/-! Proofs about the stores and the post-increment forms (O21). -/

namespace Sys2Proof.Machine

/-! ### Memory -/

theorem mem_nins (l : List Nat) (i k : Nat) : k ∈ nins l i ↔ k = i ∨ k ∈ l := by
  induction l with
  | nil => simp [nins]
  | cons x t ih =>
    unfold nins
    split
    · simp
    · split
      · next h => simp [h]
      · simp only [List.mem_cons, ih]
        tauto

/-- The poison marks after one is set or cleared. -/
theorem Memory.isPoisoned_mark (m : Memory) (w v : Nat) (p : Bool) :
    (m.mark w p).isPoisoned v = if v = w then p else m.isPoisoned v := by
  unfold Memory.isPoisoned Memory.mark
  rw [Bool.eq_iff_iff]
  cases p <;> by_cases h : v = w <;> simp [ndel, mem_nins, h]

theorem Memory.poisoned_write (l : List Byte) (m : Memory) (a : Nat) : (m.write a l).poisoned = m.poisoned := by
  induction l generalizing m a with
  | nil => rfl
  | cons b t ih => exact (ih _ _).trans rfl

/-- The bytes after a write of `n` bytes that a function gives. -/
theorem Memory.byte_write_map (m : Memory) (a n : Nat) (f : Nat → Byte) (x : Nat) :
    (m.write a ((List.range n).map f)).byte x = if a ≤ x ∧ x < a + n then f (x - a) else m.byte x := by
  split
  · next h =>
    obtain ⟨k, rfl⟩ := Nat.exists_eq_add_of_le h.1
    have hk : k < n := by omega
    rw [Memory.byte_write _ _ _ _ (by simpa using hk), Nat.add_sub_cancel_left]
    simp [hk]
  · next h => exact Memory.byte_write_ne _ _ _ _ (by simp; omega)

theorem leBytes_eq (n v : Nat) : leBytes n v = (List.range n).map fun k => BitVec.ofNat 8 (v / 256 ^ k) := by
  induction n generalizing v with
  | zero => rfl
  | succ n ih =>
    rw [leBytes, ih, List.range_succ_eq_map, List.map_cons, List.map_map]
    simp [Function.comp_def, Nat.pow_succ', Nat.div_div_eq_div_mul]

/-! ### Stores -/

/-- A store to a NARROW bank: the memory that it leaves, and the note of its access. -/
theorem State.stores_ls {s : State} {i : Nat} {c : Instr} {op : LsOp} {a n : Nat} {bytes : Nat → Byte} {p : Bool} {m : Memory}
    (hcan : s.canIssue i = true) (hg : (s.site i).guard (lsGuard op) = true)
    (he : exec c s = .next (s.issueAt i (loneLs op) Checks.clean))
    (hbody : (s.atClock i).lsBody (s.issueCycle i) op = { (s.atClock i).touch (s.issueCycle i) (bankOf a) with scr := m })
    (hbytes : ∀ x, m.byte x = if a ≤ x ∧ x < a + n then bytes (x - a) else (s.site i).scr.byte x)
    (hpoison : ∀ w, m.isPoisoned w = if w = a / 64 then p else (s.site i).scr.isPoisoned w) :
    Stores s i c a n bytes p := by
  have h := State.ready_of_canIssue hcan
  obtain ⟨hmoved, hsite⟩ := State.issueAt_ls (used := s.issueCycle i) (banks := s.notedBanks i (bankOf a)) (m := m)
    (l := (s.site i).seq.landings) hcan hg hbody
  have hstill : ((s.issueAt i (loneLs op) Checks.clean).site i).AtRest := by
    rw [hsite]
    exact ⟨h.atRest.landings, h.atRest.feeds, h.atRest.loads, h.atRest.reload⟩
  have hregs := State.seen_sameRegs_of_atRest hstill
  refine ⟨_, he, hmoved, ?_, ?_, fun k => ?_, ?_⟩
  · rw [hsite]
    exact hbytes
  · rw [hsite]
    exact hpoison
  · have hsame := hregs k
    rw [hsite] at hsame
    exact hsame
  · rw [hsite]
    rfl

theorem setWord64_bytes (m : Memory) {a : Nat} (ha : a / 64 * 64 = a) (v : Lanes) (q : Nat) (p : Bool) (x : Nat) :
    (m.setWord64 a (quarterBytes v q) p).byte x =
      if a ≤ x ∧ x < a + 64 then BitVec.ofNat 8 ((laneAt v (16 * q + (x - a) / 4)).bits.toNat / 256 ^ ((x - a) % 4)) else m.byte x := by
  have htake : (quarterBytes v q).take 64 = quarterBytes v q := List.take_of_length_le (by simp [quarterBytes])
  rw [Memory.setWord64, Memory.byte_mark, htake, ha]
  exact Memory.byte_write_map m a 64 _ x

theorem setWord64_poison (m : Memory) (a : Nat) (l : List Byte) (p : Bool) (w : Nat) :
    (m.setWord64 a l p).isPoisoned w = if w = a / 64 then p else m.isPoisoned w := by
  rw [Memory.setWord64, Memory.isPoisoned_mark, Memory.isPoisoned, Memory.poisoned_write]
  rfl

theorem State.vstq_stores {s : State} {i : Nat} {f : FmtLQ} (hcan : s.canIssue i = true) (hg : (s.site i).guard f.g = true)
    (hown : (s.site i).owner (bankOf ((s.site i).vecAddr f.sa f.off.toNat)) (s.issueCycle i) = ownNarrow) :
    Stores s i (.vstq i f .clean) ((s.site i).vecAddr f.sa f.off.toNat) 64
      (fun k => BitVec.ofNat 8 ((laneAt ((s.site i).vreg f.vd.toNat) (16 * f.q.toNat + k / 4)).bits.toNat / 256 ^ (k % 4)))
      ((List.range 16).any fun k => (laneAt ((s.site i).vreg f.vd.toNat) (16 * f.q.toNat + k)).poison) :=
  State.stores_ls (op := .vstq f) hcan hg rfl (State.narrow_ok hcan hown (Site.lsBody_vstq ..))
    (setWord64_bytes _ (Site.vecAddr_aligned _ _ _) _ _ _) (setWord64_poison _ _ _ _)

theorem State.sst_stores {s : State} {i : Nat} {g : FmtLS} (hcan : s.canIssue i = true) (hg : (s.site i).guard g.g = true)
    (hown : (s.site i).owner (bankOf ((s.site i).scalarAddr g.sa g.off.toNat)) (s.issueCycle i) = ownNarrow) :
    Stores s i (.sst i g .clean) ((s.site i).scalarAddr g.sa g.off.toNat) 4
      (fun k => BitVec.ofNat 8 (((s.site i).sreg g.sd.toNat).toNat / 256 ^ k))
      ((s.site i).scr.poison64 ((s.site i).scalarAddr g.sa g.off.toNat)) := by
  refine State.stores_ls (op := .sst g) hcan hg rfl (State.narrow_ok hcan hown (Site.lsBody_sst ..)) (fun x => ?_) fun w => ?_
  · rw [leBytes_eq]
    exact Memory.byte_write_map _ _ 4 _ x
  · rw [Memory.isPoisoned, Memory.poisoned_write]
    split
    · next hw => rw [hw]; rfl
    · rfl

/-! ### The post-increment (Table 5.10) -/

/-- A site with its results in flight replaced. -/
def Site.flying (a : Site) (l : List Landing) : Site := { a with seq := { a.seq with landings := l } }

theorem Site.sameRegs_flying (a : Site) (l : List Landing) : (a.flying l).sameRegs a :=
  ⟨fun _ => rfl, fun _ => rfl, fun _ => rfl, fun _ => rfl, fun _ => rfl⟩

theorem Site.sameRegs_landed (a : Site) (k : Nat) : (a.clocked k).landed.sameRegs a :=
  ⟨fun _ => rfl, fun _ => rfl, fun _ => rfl, fun _ => rfl, fun _ => rfl⟩

theorem Site.landed_vector (a : Site) (l due : List Landing) (c d q k : Nat) (w : List (Word × Word × Bool)) :
    ((((a.flying l).clocked c).clocked d).apply
      (Landing.settled (((a.flying l).clocked c).clocked d) due { at_ := d, rank := k, res := .v q w })).landed =
      ((a.clocked d).setV q w).landed := rfl

theorem Site.later_empty {a : Site} (h : a.seq.landings = []) (c k : Nat) (r : Result) :
    a.later c k r = a.flying [{ at_ := c, rank := k, res := r }] := by
  rw [Site.later, h]
  rfl

/-- A site with results in flight of which only a scalar one, the last, lands now. -/
theorem Site.arrive_scalar {a : Site} {c r : Nat} {v : Word} {e : Landing} (he : e.at_ ≠ c)
    (hland : a.seq.landings = [e, { at_ := c, rank := rankLs, res := .s r v }]) (hfeeds : a.mat.feeds = []) :
    a.arrive c = (a.setS r v).flying [e] := by
  have hlanded : a.land c = (a.setS r v).flying [e] := by
    unfold Site.land
    simp [hland, he, rankLs, Landing.beaten, Landing.settled, show List.range 5 = [0, 1, 2, 3, 4] from rfl, Site.apply, Site.setS,
      Result.dest, Site.flying]
  have hnone : ((a.setS r v).flying [e]).mat.feeds = [] := hfeeds
  rw [Site.arrive, hlanded, Site.landRows_none _ _ hnone, Site.feedCheck_none _ _ hnone]

/-- The cycle of the scalar result, passed. -/
theorem Site.pass_scalar {a : Site} {c r : Nat} {v : Word} {e : Landing} (he : e.at_ ≠ c)
    (hland : a.seq.landings = [e, { at_ := c, rank := rankLs, res := .s r v }]) (hfeeds : a.mat.feeds = []) (hloads : a.mat.loads = [])
    (hreload : a.reload = none) : a.pass c = ((a.setS r v).flying [e]).clocked (c + 1) := by
  have hwide : ((a.setS r v).flying [e]).wide c = (a.setS r v).flying [e] := Site.wide_none _ c hfeeds hloads hreload
  rw [Site.pass, Site.arrive_scalar he hland hfeeds, hwide]
  rfl

theorem Site.settle_scalar {a : Site} {d r : Nat} {v : Word} {e : Landing} (hd : a.seq.clock < d) (he : e.at_ = d)
    (hland : a.seq.landings = [e, { at_ := a.seq.clock, rank := rankLs, res := .s r v }]) (hfeeds : a.mat.feeds = [])
    (hloads : a.mat.loads = []) (hreload : a.reload = none) :
    a.settle d = (((a.setS r v).flying [e]).clocked (a.seq.clock + 1)).settle d := by
  obtain ⟨k, hk⟩ : ∃ k, d - a.seq.clock = k + 1 := ⟨d - a.seq.clock - 1, by omega⟩
  have hquiet : a.quiet = false := by simp [Site.quiet, hland]
  have hnext : d - (((a.setS r v).flying [e]).clocked (a.seq.clock + 1)).seq.clock = k := by
    show d - (a.seq.clock + 1) = k
    omega
  rw [Site.settle, hk, Site.runTo, if_neg (by omega), hquiet, if_neg (by decide),
    Site.pass_scalar (by omega) hland hfeeds hloads hreload, Site.settle, hnext]

section
variable {t : State} {i c d r : Nat} {v : Word} {res : Result} (hcd : c < d)
  (hland : (t.site i).seq.landings = [{ at_ := d, rank := rankLs, res := res }, { at_ := c, rank := rankLs, res := .s r v }])
  (hclock : (t.site i).seq.clock = c) (hrest : (t.site i).mat.feeds = [] ∧ (t.site i).mat.loads = [] ∧ (t.site i).reload = none)

include hcd hland hclock hrest

/-- Seen in the cycle of the scalar result: the other one is still in flight. -/
theorem State.seen_scalar_first : t.seen i c = ((t.site i).setS r v).flying [{ at_ := d, rank := rankLs, res := res }] := by
  obtain ⟨hfeeds, hloads, hreload⟩ := hrest
  subst hclock
  rw [State.seen, (t.site i).settle_hold _ le_rfl (by simpa [hland] using hcd.le) hfeeds hloads hreload]
  exact Site.arrive_scalar (a := (t.site i).clocked (t.site i).seq.clock) hcd.ne' hland hfeeds

/-- Seen in the cycle of the other result, a vector one: both have landed. -/
theorem State.seen_scalar_then {q : Nat} {w : List (Word × Word × Bool)} (hres : res = .v q w) :
    t.seen i d = ((((t.site i).setS r v).clocked d).setV q w).landed := by
  obtain ⟨hfeeds, hloads, hreload⟩ := hrest
  subst hclock hres
  have hseen := Site.seen_one ((((t.site i).setS r v).flying [{ at_ := d, rank := rankLs, res := .v q w }]).clocked ((t.site i).seq.clock + 1)) d
    { at_ := d, rank := rankLs, res := .v q w } rfl hfeeds hloads hreload hcd rfl (by simp [rankLs])
  exact (congrArg (Site.arrive · d) (Site.settle_scalar hcd rfl hland hfeeds hloads hreload)).trans (hseen.trans (Site.landed_vector ..))

end

theorem Site.postIncrement_empty {a : Site} (h : a.seq.landings = []) (n : Nat) (sa sb : BitVec 5) :
    a.postIncrement n sa sb = a.flying [{ at_ := n + 1, rank := rankLs, res := .s sa.toNat (a.sreg sa.toNat + a.sreg sb.toNat) }] :=
  Site.later_empty h _ _ _

theorem Site.lsBody_vldqP {a : Site} {n : Nat} {f : FmtLPI} (h : a.narrowClash (a.vecAddr f.sa 0) n = none) :
    a.lsBody n (.vldqP f) = (a.loadQuarter n (a.vecAddr f.sa 0) f.vd f.q.toNat).postIncrement n f.sa f.sb := by
  simp only [Site.lsBody, h]

theorem Site.lsBody_vstqP {a : Site} {n : Nat} {f : FmtLPI} (h : a.narrowClash (a.vecAddr f.sa 0) n = none) :
    a.lsBody n (.vstqP f) = (a.storeQuarter n (a.vecAddr f.sa 0) f.vd f.q.toNat).postIncrement n f.sa f.sb := by
  simp only [Site.lsBody, h]

/-- What a quarter's load brings into the register: 16 drawn or loaded words. -/
def Site.quarterLanes (a : Site) (n x q : Nat) : List (Word × Word × Bool) :=
  drawnLanes (a.loadFree n) (16 * q) 16 (a.scr.poison64 x) fun k => BitVec.ofNat 32 (leAt (a.scr.word64 x) (k * 4) 4)

/-- The lanes of a register after a quarter's load. -/
theorem Site.merge_quarterLanes (a b : Site) (n q : Nat) (sa : BitVec 5) (off : Nat) (old : Lane) {l : Nat} (hl : l < 64) :
    old.merge ((a.quarterLanes n (b.vecAddr sa off) q).getD l (0, 0, false)) =
      if l / 16 = q then
        { bits := if a.scr.poison64 (b.vecAddr sa off) then a.loadFree n l
                  else BitVec.ofNat 32 (leNat (a.scr.read (b.vecAddr sa off + 4 * (l % 16)) 4))
          poison := a.scr.poison64 (b.vecAddr sa off) }
      else old := by
  rw [Site.quarterLanes, merge_drawnLanes _ _ _ _ _ _ hl]
  by_cases hq : l / 16 = q
  · rw [if_pos hq, if_pos (by omega), Memory.word64, b.vecAddr_aligned, leAt_read _ _ _ _ _ (by omega),
      show (l - 16 * q) * 4 = 4 * (l % 16) by omega]
  · rw [if_neg hq, if_neg (by omega)]

section
variable {s : State} {i : Nat} {f : FmtLPI} (hcan : s.canIssue i = true) (hg : (s.site i).guard f.g = true)
  (hown : (s.site i).owner (bankOf ((s.site i).vecAddr f.sa 0)) (s.issueCycle i) = ownNarrow)

/-- The post-increment's result. -/
def Site.increment (a : Site) (f : FmtLPI) : Word := a.sreg f.sa.toNat + a.sreg f.sb.toNat

/-- The site after a post-increment operation with its results in flight. -/
def State.incremented (s : State) (i : Nat) (f : FmtLPI) (m : Memory) (l : List Landing) : Site :=
  { (s.site i).noted (s.issueCycle i) (s.notedBanks i (bankOf ((s.site i).vecAddr f.sa 0))) with
    scr := m
    seq := { (s.site i).seq with
      pc := (s.site i).seq.pc + 1, next := s.issueCycle i + 1, clock := s.issueCycle i + 1
      landings := l ++ [{ at_ := s.issueCycle i + 1, rank := rankLs, res := .s f.sa.toNat ((s.site i).increment f) }] } }

include hcan hg hown

theorem State.issueAt_vldqP :
    Moved s (s.issueAt i (loneLs (.vldqP f)) Checks.clean) i ∧
      (s.issueAt i (loneLs (.vldqP f)) Checks.clean).site i = s.incremented i f (s.site i).scr
        [{ at_ := s.issueCycle i + 6, rank := rankLs
           res := .v f.vd.toNat ((s.site i).quarterLanes (s.issueCycle i) ((s.site i).vecAddr f.sa 0) f.q.toNat) }] := by
  have h := State.ready_of_canIssue hcan
  refine State.issueAt_ls hcan hg ?_
  have hload : (s.atClock i).loadQuarter (s.issueCycle i) ((s.site i).vecAddr f.sa 0) f.vd f.q.toNat =
      ((s.atClock i).noted (s.issueCycle i) (s.notedBanks i (bankOf ((s.site i).vecAddr f.sa 0)))).later (s.issueCycle i + latNarrow) rankLs
        (.v f.vd.toNat ((s.site i).quarterLanes (s.issueCycle i) ((s.site i).vecAddr f.sa 0) f.q.toNat)) :=
    ((s.atClock i).loadQuarter_eq _ _ _ _).trans (State.narrow_ok hcan hown rfl)
  have hnone : ((s.atClock i).noted (s.issueCycle i) (s.notedBanks i (bankOf ((s.site i).vecAddr f.sa 0)))).seq.landings = [] :=
    h.atRest.landings
  refine (Site.lsBody_vldqP (State.narrowClash_none hcan hown)).trans ((congrArg (Site.postIncrement · _ _ _) hload).trans ?_)
  rw [Site.postIncrement, Site.later, Site.later, hnone]
  rfl

theorem State.issueAt_vstqP :
    Moved s (s.issueAt i (loneLs (.vstqP f)) Checks.clean) i ∧
      (s.issueAt i (loneLs (.vstqP f)) Checks.clean).site i = s.incremented i f
        ((s.site i).scr.setWord64 ((s.site i).vecAddr f.sa 0) (quarterBytes ((s.site i).vreg f.vd.toNat) f.q.toNat)
          (quarterPoison ((s.site i).vreg f.vd.toNat) f.q.toNat)) [] := by
  have h := State.ready_of_canIssue hcan
  refine State.issueAt_ls hcan hg ?_
  have hstore : (s.atClock i).storeQuarter (s.issueCycle i) ((s.site i).vecAddr f.sa 0) f.vd f.q.toNat =
      { (s.atClock i).noted (s.issueCycle i) (s.notedBanks i (bankOf ((s.site i).vecAddr f.sa 0))) with
        scr := (s.site i).scr.setWord64 ((s.site i).vecAddr f.sa 0) (quarterBytes ((s.site i).vreg f.vd.toNat) f.q.toNat)
          (quarterPoison ((s.site i).vreg f.vd.toNat) f.q.toNat) } := State.narrow_ok hcan hown rfl
  have hnone : (s.atClock i).seq.landings = [] := h.atRest.landings
  refine (Site.lsBody_vstqP (State.narrowClash_none hcan hown)).trans ((congrArg (Site.postIncrement · _ _ _) hstore).trans ?_)
  exact (Site.postIncrement_empty
    (a := { (s.atClock i).noted (s.issueCycle i) (s.notedBanks i (bankOf ((s.site i).vecAddr f.sa 0))) with
      scr := (s.site i).scr.setWord64 ((s.site i).vecAddr f.sa 0) (quarterBytes ((s.site i).vreg f.vd.toNat) f.q.toNat)
        (quarterPoison ((s.site i).vreg f.vd.toNat) f.q.toNat) }) hnone _ _ _).trans rfl

omit hcan hg hown in
/-- Registers after a post-increment: the address register alone has changed. -/
theorem State.incremented_regs (m : Memory) (l : List Landing) :
    let x := (s.incremented i f m l).setS f.sa.toNat ((s.site i).increment f)
    x.sreg f.sa.toNat = (s.site i).increment f ∧ (∀ q, q ≠ f.sa.toNat → x.sreg q = (s.site i).sreg q) ∧
      (∀ q, x.preg q = (s.site i).preg q) ∧ (∀ q, x.kreg q = (s.site i).kreg q) ∧ (∀ q, x.vmreg q = (s.site i).vmreg q) ∧
      ∀ q, x.vreg q = (s.site i).vreg q :=
  ⟨(Site.sreg_setS _ _ _ _).trans (if_pos rfl), fun _ hq => (Site.sreg_setS _ _ _ _).trans (if_neg hq), fun _ => rfl, fun _ => rfl,
    fun _ => rfl, fun _ => rfl⟩

/-- The post-increment load, seen one and six cycles after issue. -/
theorem State.seen_vldqP :
    ∃ l m, (s.issueAt i (loneLs (.vldqP f)) Checks.clean).seen i (s.issueCycle i + 1) =
        ((s.incremented i f (s.site i).scr m).setS f.sa.toNat ((s.site i).increment f)).flying l ∧
      (s.issueAt i (loneLs (.vldqP f)) Checks.clean).seen i (s.issueCycle i + 6) =
        ((((s.incremented i f (s.site i).scr m).setS f.sa.toNat ((s.site i).increment f)).clocked (s.issueCycle i + 6)).setV f.vd.toNat
          ((s.site i).quarterLanes (s.issueCycle i) ((s.site i).vecAddr f.sa 0) f.q.toNat)).landed := by
  have h := State.ready_of_canIssue hcan
  obtain ⟨-, hsite⟩ := State.issueAt_vldqP hcan hg hown
  have hrest : ((s.issueAt i (loneLs (.vldqP f)) Checks.clean).site i).mat.feeds = [] ∧
      ((s.issueAt i (loneLs (.vldqP f)) Checks.clean).site i).mat.loads = [] ∧
      ((s.issueAt i (loneLs (.vldqP f)) Checks.clean).site i).reload = none := by
    rw [hsite]
    exact ⟨h.atRest.feeds, h.atRest.loads, h.atRest.reload⟩
  have hland := congrArg (·.seq.landings) hsite
  have hclock := congrArg (·.seq.clock) hsite
  have hlt : s.issueCycle i + 1 < s.issueCycle i + 6 := by omega
  have hfirst := State.seen_scalar_first hlt hland hclock hrest
  have hthen := State.seen_scalar_then hlt hland hclock hrest rfl
  rw [hsite] at hfirst hthen
  exact ⟨_, _, hfirst, hthen⟩

/-- The post-increment store, seen one cycle after issue. -/
theorem State.seen_vstqP :
    ∃ m l k, (s.issueAt i (loneLs (.vstqP f)) Checks.clean).seen i (s.issueCycle i + 1) =
        (((s.incremented i f m l).setS f.sa.toNat ((s.site i).increment f)).clocked k).landed := by
  have h := State.ready_of_canIssue hcan
  obtain ⟨-, hsite⟩ := State.issueAt_vstqP hcan hg hown
  have hseen := State.seen_landing (t := s.issueAt i (loneLs (.vstqP f)) Checks.clean) (i := i) (c := s.issueCycle i + 1)
    (congrArg (·.seq.landings) hsite) (by rw [hsite]; exact h.atRest.feeds) (by rw [hsite]; exact h.atRest.loads)
    (by rw [hsite]; exact h.atRest.reload) (by rw [hsite]; exact le_rfl) (by decide)
  rw [hsite] at hseen
  exact ⟨_, _, _, hseen⟩

end

end Sys2Proof.Machine

open Sys2Proof Sys2Proof.Machine

/-- Settles O21: a store lands in the memory at issue; the post-increment forms put the address register's new value in flight for
a cycle, beside the load's. -/
theorem storesWriteTheirBytes : Obligations.StoresWriteTheirBytes := by
  refine ⟨fun s i f g hcan hf hg => ⟨State.vstq_stores hcan hf, State.sst_stores hcan hg⟩, fun s i f hcan hf => ?_⟩
  intro b n a lane stepped hown
  constructor
  case left =>
    obtain ⟨hmoved, hsite⟩ := State.issueAt_vldqP hcan hf hown
    obtain ⟨l, m, hfirst, hthen⟩ := State.seen_vldqP hcan hf hown
    obtain ⟨haddr, hs, hp, hk, hvm, hv⟩ := State.incremented_regs (s := s) (i := i) (f := f) (s.site i).scr m
    obtain ⟨hs₁, hp₁, hk₁, hv₁, hvm₁⟩ := Site.sameRegs_flying _ l
    obtain ⟨hlane, -, hne, hvm₂, hs₂, hp₂, hk₂, -⟩ := Site.landed_v _ (n + 6) f.vd.toNat (b.quarterLanes n a f.q.toNat)
    refine ⟨_, rfl, hmoved, ?_, ?_, congrArg (·.scr) hsite, ?_, fun l hl => ?_⟩
    · rw [hfirst]
      exact ⟨(hs₁ _).trans haddr, fun q hq => (hs₁ q).trans (hs q hq), fun q => (hp₁ q).trans (hp q), fun q => (hk₁ q).trans (hk q),
        fun q => (hvm₁ q).trans (hvm q), fun q _ => (hv₁ q).trans (hv q)⟩
    · rw [hthen]
      exact ⟨(hs₂ _).trans haddr, fun q hq => (hs₂ q).trans (hs q hq), fun q => (hp₂ q).trans (hp q), fun q => (hk₂ q).trans (hk q),
        fun q => (hvm₂ q).trans (hvm q), fun q hq => (hne q hq).trans (hv q)⟩
    · rw [hfirst]
      exact (hv₁ _).trans (hv _)
    · rw [hthen]
      refine ((hlane l hl).trans (congrArg (fun v => (laneAt v l).merge _) (hv _))).trans ?_
      exact Site.merge_quarterLanes _ _ _ _ _ _ _ hl
  case right =>
    obtain ⟨hmoved, hsite⟩ := State.issueAt_vstqP hcan hf hown
    obtain ⟨m, l, k, hseen⟩ := State.seen_vstqP hcan hf hown
    obtain ⟨haddr, hs, hp, hk, hvm, hv⟩ := State.incremented_regs (s := s) (i := i) (f := f) m l
    obtain ⟨hs₁, hp₁, hk₁, hv₁, hvm₁⟩ := Site.sameRegs_landed _ k
    refine ⟨_, rfl, hmoved, ?_, ?_, fun x => ?_, fun w => ?_⟩
    · rw [hseen]
      exact ⟨(hs₁ _).trans haddr, fun q hq => (hs₁ q).trans (hs q hq), fun q => (hp₁ q).trans (hp q), fun q => (hk₁ q).trans (hk q),
        fun q => (hvm₁ q).trans (hvm q), fun q _ => (hv₁ q).trans (hv q)⟩
    · rw [hseen]
      exact (hv₁ _).trans (hv _)
    · rw [congrArg (·.scr) hsite]
      exact setWord64_bytes _ (Site.vecAddr_aligned _ _ _) _ _ _ x
    · rw [congrArg (·.scr) hsite]
      exact setWord64_poison _ _ _ _ w
end

section
/-! Proofs about the matrix slot: streams and their timing (O23). -/

namespace Sys2Proof.Machine

/-! ### A lone matrix operation -/

/-- The matrix operation's own part of a lone bundle, then the wide port's (R117). -/
theorem State.Ready.issue_mat {s : State} {i : Nat} (h : s.Ready i) {op : MatOp} {a : Site}
    (hbody : ((s.atClock i).issueMat (s.issueCycle i) op).wide (s.issueCycle i) = a) (hloops : a.seq.loops = []) :
    (s.site i).issue s.turn.geom.work (loneMat op) Checks.clean =
      ({ a with seq := { a.seq with pc := a.seq.pc + 1, next := s.issueCycle i + 1, clock := s.issueCycle i + 1 } }, []) := by
  rw [h.issue rfl, Site.slots5_mat, hbody, a.finish_fall_of_no_loops _ hloops]
  rfl

theorem State.issueMat_guarded {s : State} {i n : Nat} {op : MatOp} (hg : (s.site i).guard (matGuard op) = true) :
    (s.atClock i).issueMat n op = match op with
      | .nop => s.atClock i
      | .mldw f => (s.atClock i).issueMldw n f
      | .mfeed f => (s.atClock i).issueMfeed n f
      | .mmul f => (s.atClock i).issueMmul n f := by
  have hguard : (s.atClock i).guard (matGuard op) = true := hg
  unfold Site.issueMat
  rw [if_pos hguard]
  cases op <;> rfl

/-- A matrix operation that clashes stops its site (R101). -/
theorem State.stopsWith_mat {s : State} {i : Nat} {c : Instr} {op : MatOp} {d : Clash} (hcan : s.canIssue i = true)
    (he : exec c s = .next (s.issueAt i (loneMat op) Checks.clean))
    (hbody : (s.atClock i).issueMat (s.issueCycle i) op = (s.atClock i).clash d (s.issueCycle i)) :
    StopsWith s i c .bankClash d.code := by
  have h := State.ready_of_canIssue hcan
  have hwide := Site.wide_none ((s.atClock i).clash d (s.issueCycle i)) (s.issueCycle i) h.atRest.feeds h.atRest.loads h.atRest.reload
  have hissue := h.issue_mat ((congrArg (Site.wide · _) hbody).trans hwide) (State.loops_of_canIssue hcan)
  exact State.stopsWith_raised (used := (s.site i).usedAt) (banks := (s.site i).usedBanks) hcan he
    (hissue.trans (congrArg (·, []) (h.raise_fall _ _ (s.site i).ex .bankClash d.code [] rfl))) rfl

/-! ### The wide port with one stream -/

/-- A stream whose first group is due (R154). -/
theorem Site.fetchDue_first {a : Site} {c : Nat} {x : Feed} (hfeeds : a.mat.feeds = [x]) (hgroups : x.groups = [])
    (hstart : x.start = c) (hrows : 0 < x.groupCount) (haddr : x.addr < 2 ^ 20) : a.fetchDue c = some (0, x.addr) := by
  simpa [Site.fetchDue, hfeeds, hgroups, hstart, hrows, List.range_succ] using Nat.mod_eq_of_lt haddr

/-- A stream whose groups are all fetched. -/
theorem Site.fetchDue_done {a : Site} (c : Nat) {x : Feed} (hfeeds : a.mat.feeds = [x]) (hgroups : x.groupCount ≤ x.groups.length) :
    a.fetchDue c = none := by
  simp [Site.fetchDue, hfeeds, List.range_succ, Nat.not_lt.mpr hgroups]

/-- The access of a stream's first group, with no reload and no weight load. -/
theorem Site.wide_first {a : Site} {c : Nat} {x : Feed} (hfeeds : a.mat.feeds = [x]) (hgroups : x.groups = [])
    (hstart : x.start = c) (hrows : 0 < x.groupCount) (haddr : x.addr < 2 ^ 20) (hloads : a.mat.loads = []) (hreload : a.reload = none) :
    a.wide c =
      if a.owner (bankOf x.addr) c ≠ ownWide then (a.putGroup 0 c { bytes := [], poison := false, ok := false }).clash .owner c
      else (a.putGroup 0 c { bytes := a.scr.read x.addr 256, poison := a.scr.anyPoison (x.addr / 64) 4, ok := true }).touch c
        (bankOf x.addr) := by
  have hfetch : a.fetchAccess false c =
      if a.owner (bankOf x.addr) c ≠ ownWide then (a.putGroup 0 c { bytes := [], poison := false, ok := false }).clash .owner c
      else (a.putGroup 0 c { bytes := a.scr.read x.addr 256, poison := a.scr.anyPoison (x.addr / 64) 4, ok := true }).touch c
        (bankOf x.addr) := by
    rw [Site.fetchAccess, Site.fetchDue_first hfeeds hgroups hstart hrows haddr]
    rfl
  have hlater (y : Site) (hy : y.mat.loads = []) : y.weightAccess false c = y := by simp [Site.weightAccess, hy]
  have hreloading : a.reloading c = false := by simp [Site.reloading, hreload]
  rw [Site.wide, hreloading, show a.reloadAccess c = a by simp [Site.reloadAccess, hreload], hfetch]
  exact hlater _ (by split <;> exact hloads)

theorem Site.wide_fetched {a : Site} (c : Nat) {x : Feed} (hfeeds : a.mat.feeds = [x]) (hgroups : x.groupCount ≤ x.groups.length)
    (hloads : a.mat.loads = []) (hreload : a.reload = none) : a.wide c = a := by
  simp [Site.wide, Site.reloadAccess, hreload, Site.fetchAccess, Site.fetchDue_done c hfeeds hgroups, Site.weightAccess, hloads]

theorem Site.groupAddr_lt (a : Site) (r : BitVec 5) : a.groupAddr r < 2 ^ 20 := by
  unfold Site.groupAddr
  omega

/-! ### MFEED -/

/-- A site with another list of streams, its wide port last used before cycle `c`. -/
def Site.fed (a : Site) (c : Nat) (l : List Feed) : Site := { a with mat := { a.mat with lastWide := c, feeds := l } }

/-- The stream that MFEED arms (R154). -/
def Site.armed (a : Site) (n : Nat) (f : FmtMF) (k : ElemFmt) (groups : List Group) : Feed :=
  { start := n, fmt := k, rows := f.n.toNat + 1, addr := a.groupAddr f.sa, stride := a.groupAddr f.sb, groups := groups, mmul := none }

theorem Site.armed_rows (a : Site) (n : Nat) (f : FmtMF) (k : ElemFmt) (groups : List Group) : 0 < (a.armed n f k groups).groupCount := by
  have hgroup : 0 < rowsPerGroup k := by cases k <;> decide
  exact Nat.div_pos (show rowsPerGroup k ≤ f.n.toNat + 1 + rowsPerGroup k - 1 by omega) hgroup

section
variable {s : State} {i : Nat} {f : FmtMF} {k : ElemFmt} (hcan : s.canIssue i = true) (hg : (s.site i).guard f.g = true)
  (hk : ElemFmt.ofCode f.fmt.toNat = some k)

include hcan hg hk

/-- MFEED with its first access: the group is fetched where the bank is WIDE, and the clash is raised where it is not. -/
theorem State.wide_mfeed :
    ((s.atClock i).issueMat (s.issueCycle i) (.mfeed f)).wide (s.issueCycle i) =
      if (s.site i).owner (bankOf ((s.site i).groupAddr f.sa)) (s.issueCycle i) ≠ ownWide then
        ((s.atClock i).fed (s.issueCycle i + 1) [(s.site i).armed (s.issueCycle i) f k [{ bytes := [], poison := false, ok := false }]]).clash
          .owner (s.issueCycle i)
      else
        ((s.atClock i).fed (s.issueCycle i + 1) [(s.site i).armed (s.issueCycle i) f k
            [{ bytes := (s.site i).scr.read ((s.site i).groupAddr f.sa) 256
               poison := (s.site i).scr.anyPoison ((s.site i).groupAddr f.sa / 64) 4, ok := true }]]).touch (s.issueCycle i)
          (bankOf ((s.site i).groupAddr f.sa)) := by
  have h := State.ready_of_canIssue hcan
  have harmed : (s.atClock i).issueMat (s.issueCycle i) (.mfeed f) =
      (s.atClock i).fed (s.site i).mat.lastWide [(s.site i).armed (s.issueCycle i) f k []] := by
    have hnone : (s.atClock i).mat.feeds = [] := h.atRest.feeds
    refine (State.issueMat_guarded (op := .mfeed f) hg).trans ?_
    change (s.atClock i).issueMfeed (s.issueCycle i) f = _
    unfold Site.issueMfeed
    rw [hnone, hk]
    rfl
  rw [harmed]
  exact Site.wide_first (a := (s.atClock i).fed (s.site i).mat.lastWide [(s.site i).armed (s.issueCycle i) f k []]) rfl rfl rfl
    (Site.armed_rows ..) (Site.groupAddr_lt ..) h.atRest.loads h.atRest.reload

end

/-- A stream without its MMUL, in a cycle before its last (R155): nothing arrives. -/
theorem Site.arrive_waiting {a : Site} {x : Feed} (hfeeds : a.mat.feeds = [x]) (hmmul : x.mmul = none) (hlandings : a.seq.landings = [])
    {c : Nat} (hc : c < x.start + 9) : a.arrive c = a := by
  have hrows : a.landRows c = a := by
    have hkeep : a.landRows c = { a with mat := { a.mat with feeds := [x] } } := by
      simp [Site.landRows, hfeeds, hmmul]
    rw [hkeep, ← hfeeds]
  have hcheck : a.feedCheck c = a := by
    simp [Site.feedCheck, hfeeds, Nat.ne_of_gt hc]
  rw [Site.arrive, a.land_none c hlandings, hrows, hcheck]

theorem Site.pass_waiting {a : Site} {x : Feed} (hfeeds : a.mat.feeds = [x]) (hmmul : x.mmul = none)
    (hgroups : x.groups.length = x.groupCount) (hlandings : a.seq.landings = []) (hloads : a.mat.loads = []) (hreload : a.reload = none)
    {c : Nat} (hc : c < x.start + 9) : a.pass c = a.clocked (c + 1) := by
  rw [Site.pass, Site.arrive_waiting hfeeds hmmul hlandings hc, Site.wide_fetched c hfeeds hgroups.ge hloads hreload]
  rfl

theorem Site.runTo_waiting {a : Site} {x : Feed} (k : Nat) (hfeeds : a.mat.feeds = [x]) (hmmul : x.mmul = none)
    (hgroups : x.groups.length = x.groupCount) (hlandings : a.seq.landings = []) (hloads : a.mat.loads = []) (hreload : a.reload = none)
    (hk : a.seq.clock + k = x.start + 9) : Site.runTo k (x.start + 9) a = a.clocked (x.start + 9) := by
  induction k generalizing a with
  | zero =>
    have hclock : a.seq.clock = x.start + 9 := hk
    rw [Site.runTo, hclock, Nat.max_self]
    rfl
  | succ k ih =>
    have hbusy : a.quiet = false := by simp [Site.quiet, hfeeds]
    rw [Site.runTo, if_neg (by omega), hbusy, if_neg (by decide), Site.pass_waiting hfeeds hmmul hgroups hlandings hloads hreload (by omega)]
    exact ih hfeeds hlandings hloads hreload (by show a.seq.clock + 1 + k = _; omega)

/-- The last cycle of a stream left without its MMUL (R155). -/
theorem Site.pass_late {a : Site} {x : Feed} (hfeeds : a.mat.feeds = [x]) (hmmul : x.mmul = none) (hlandings : a.seq.landings = [])
    (hloads : a.mat.loads = []) (hreload : a.reload = none) :
    a.pass (x.start + 9) = ((a.fed a.mat.lastWide []).clash .feedTiming (x.start + 9)).clocked (x.start + 9 + 1) := by
  have hrows : a.landRows (x.start + 9) = a := by
    have hkeep : a.landRows (x.start + 9) = { a with mat := { a.mat with feeds := [x] } } := by
      simp [Site.landRows, hfeeds, hmmul]
    rw [hkeep, ← hfeeds]
  have hcheck : a.feedCheck (x.start + 9) = (a.fed a.mat.lastWide []).clash .feedTiming (x.start + 9) := by
    simp [Site.feedCheck, hfeeds, hmmul, Site.fed]
  have hwide := Site.wide_none ((a.fed a.mat.lastWide []).clash .feedTiming (x.start + 9)) (x.start + 9) rfl hloads hreload
  rw [Site.pass, Site.arrive, a.land_none _ hlandings, hrows, hcheck, hwide]
  rfl

theorem State.onlySite_modSite (s : State) (i : Nat) (f : Site → Site) : OnlySite s (s.modSite i f) i :=
  ⟨rfl, fun j hj => (s.site_setSite i j _).trans (if_neg hj), fun _ _ => rfl⟩

/-- FEED_TIMING raised for a stream whose groups are fetched. -/
theorem Site.feedTiming_late {a : Site} {x : Feed} (hfeeds : a.mat.feeds = [x]) (hmmul : x.mmul = none)
    (hgroups : x.groups.length = x.groupCount) (hlandings : a.seq.landings = []) (hloads : a.mat.loads = []) (hreload : a.reload = none)
    (hdue : a.feedDue = some (x.start + 9)) (hclock : a.seq.clock ≤ x.start + 9) :
    a.feedTiming = (((a.clocked (x.start + 9)).fed a.mat.lastWide []).clash .feedTiming (x.start + 9)).clocked (x.start + 9 + 1) := by
  have hsettle : a.settle (x.start + 9) = a.clocked (x.start + 9) :=
    Site.runTo_waiting _ hfeeds hmmul hgroups hlandings hloads hreload (by omega)
  simp only [Site.feedTiming, hdue, hsettle]
  exact Site.pass_late (a := a.clocked (x.start + 9)) hfeeds hmmul hlandings hloads hreload

theorem Site.sameRegs_clash (a : Site) (d : Clash) (c k : Nat) : ((a.clash d c).clocked k).sameRegs a :=
  ⟨fun _ => rfl, fun _ => rfl, fun _ => rfl, fun _ => rfl, fun _ => rfl⟩

theorem Site.sameRegs_fed (a : Site) (c k : Nat) (l : List Feed) : ((a.clocked c).fed k l).sameRegs a :=
  ⟨fun _ => rfl, fun _ => rfl, fun _ => rfl, fun _ => rfl, fun _ => rfl⟩

theorem Site.sameRegs_trans {a b c : Site} (hab : a.sameRegs b) (hbc : b.sameRegs c) : a.sameRegs c := by
  obtain ⟨hs, hp, hk, hv, hvm⟩ := hab
  obtain ⟨hs', hp', hk', hv', hvm'⟩ := hbc
  exact ⟨fun q => (hs q).trans (hs' q), fun q => (hp q).trans (hp' q), fun q => (hk q).trans (hk' q), fun q => (hv q).trans (hv' q),
    fun q => (hvm q).trans (hvm' q)⟩

/-- What a clash adds to a running site. -/
theorem Site.clash_running {a : Site} (hrun : a.seq.status = .running) (d : Clash) (c : Nat) :
    (a.clash d c).seq.status = .stopped c ∧
      (a.clash d c).faults.map (fun e => (e.cause, e.detail, e.cycle)) =
        a.faults.map (fun e => (e.cause, e.detail, e.cycle)) ++ [(.bankClash, d.code, c)] := by
  constructor
  · simp only [Site.clash, Site.raise, hrun]
  · simp [Site.clash, Site.raise]

end Sys2Proof.Machine

open Sys2Proof Sys2Proof.Machine

/-- Settles O23: MFEED's group is the wide port's access of its own cycle, and a stream waits for its MMUL until its last cycle,
in which the clash is raised. -/
theorem streamArmedAndTimed : Obligations.StreamArmedAndTimed := by
  refine ⟨fun s i f k hcan hg hk => ?armed, fun s i f => ⟨fun hcan hg => ?unfed,
    fun x hfeeds hmmul hgroups hlandings hloads hreload hrun hclock hnext => ?late⟩⟩
  case armed =>
    intro b n a stride
    have h := State.ready_of_canIssue hcan
    have hwide := State.wide_mfeed hcan hg hk
    refine ⟨_, rfl, ?_⟩
    by_cases hown : b.owner (bankOf a) n = ownWide
    · have hissue := h.issue_mat (hwide.trans (if_neg (not_not.mpr hown))) (State.loops_of_canIssue hcan)
      obtain ⟨hsite, honly⟩ := s.issueAt_lone i _ _ hissue rfl rfl rfl
      refine ⟨honly, fun _ => ⟨⟨honly, ?_, ?_, ?_⟩, ?_, ?_⟩, fun hne => absurd hown hne⟩
      · rw [hsite]; rfl
      · rw [hsite]
      · rw [hsite]; exact h.running
      · rw [hsite]; rfl
      · rw [hsite]; rfl
    · have hissue := h.issue_mat (hwide.trans (if_pos hown)) (State.loops_of_canIssue hcan)
      obtain ⟨hsite, honly⟩ := State.issueAt_raised hissue rfl rfl (by simp [Site.clash, Site.raise, Site.fed, State.atClock, Site.clocked, Cause.isCounted])
      obtain ⟨hstopped, hfaults⟩ := Site.clash_running (a := (s.atClock i).fed (n + 1) [b.armed n f k [{ bytes := [], poison := false, ok := false }]])
        h.running .owner n
      refine ⟨honly, fun hyes => absurd hyes hown, fun _ => ⟨?_, ?_⟩⟩
      · rw [hsite]; exact hstopped
      · rw [hsite]; exact hfaults
  case unfed =>
    have h := State.ready_of_canIssue hcan
    refine State.stopsWith_mat (op := .mmul f) hcan rfl ((State.issueMat_guarded (op := .mmul f) hg).trans ?_)
    have hnone : (s.atClock i).mat.feeds = [] := h.atRest.feeds
    simp only [Site.issueMmul, hnone, List.find?_nil]
  case late =>
    have hdue : (s.site i).feedDue = some (x.start + 9) := by
      have hle : x.start + 9 ≤ (s.site i).seq.next := hnext
      simp [Site.feedDue, hfeeds, hmmul, hrun, hle]
    have hexec : exec (.feedTiming i) s = .next (s.modSite i Site.feedTiming) := by
      rw [exec_feedTiming, execFeedTiming, hdue]
    have hsite : (s.modSite i Site.feedTiming).site i = _ := (State.site_setSite_self s i _).trans
      (Site.feedTiming_late hfeeds hmmul hgroups hlandings hloads hreload hdue hclock)
    obtain ⟨hstopped, hfaults⟩ := Site.clash_running (a := ((s.site i).clocked (x.start + 9)).fed (s.site i).mat.lastWide []) hrun .feedTiming
      (x.start + 9)
    refine ⟨_, hexec, s.onlySite_modSite i _, ?_⟩
    rw [hsite]
    exact ⟨hstopped, hfaults, rfl, rfl, Site.sameRegs_trans (Site.sameRegs_clash ..) (Site.sameRegs_fed ..), rfl⟩
end

section
/-! Proofs about the matrix slot: weight loads (O22). -/

namespace Sys2Proof.Machine

/-! ### What a group's access reads -/

theorem Memory.anyPoison_one (m : Memory) (w : Nat) : m.anyPoison w 1 = m.isPoisoned w := by
  rw [Memory.anyPoison, Memory.isPoisoned, Bool.eq_iff_iff, List.any_eq_true, List.contains_iff_mem]
  constructor
  · rintro ⟨k, hk, hw⟩
    have hkw : k = w := by simp at hw; omega
    exact hkw ▸ hk
  · exact fun hw => ⟨w, hw, by simp⟩

theorem Memory.take_read (m : Memory) (a : Nat) {k n : Nat} (h : k ≤ n) : (m.read a n).take k = m.read a k := by
  rw [Memory.read, ← List.map_take, List.take_range, Nat.min_eq_left h]
  rfl

/-- The address of access `j` of a weight load (R152). -/
def Site.blockAddr (b : Site) (f : FmtMW) (j : Nat) : Nat := (b.groupAddr f.sa + 256 * j) % 2 ^ 20

/-- How many bytes of it belong to the block: an MX4 block ends in 32 scales. -/
def blockLen (k : ElemFmt) (j : Nat) : Nat := if k = .mx4 ∧ j = 2 then 32 else 256

/-- A weight load with `j` accesses done. -/
def Site.weightLoad (b : Site) (f : FmtMW) (k : ElemFmt) (j : Nat) : WLoad :=
  { wb := f.wb.toNat, fmt := k, addr := b.groupAddr f.sa, done := j
    bytes := (List.range j).flatMap fun x => b.scr.read (b.blockAddr f x) (blockLen k x)
    poison := (List.range j).any fun x => b.scr.anyPoison (b.blockAddr f x / 64) (blockLen k x / 64 + blockLen k x % 64 / 32) }

theorem Site.bytes_weightLoad (b : Site) (f : FmtMW) (k : ElemFmt) (j : Nat) :
    (b.weightLoad f k (j + 1)).bytes = (b.weightLoad f k j).bytes ++
      (if decide (k = .mx4 ∧ j = 2) then (b.scr.read (b.blockAddr f j) 256).take 32 else b.scr.read (b.blockAddr f j) 256) := by
  have hlen : (if decide (k = .mx4 ∧ j = 2) then (b.scr.read (b.blockAddr f j) 256).take 32 else b.scr.read (b.blockAddr f j) 256) =
      b.scr.read (b.blockAddr f j) (blockLen k j) := by
    unfold blockLen
    split
    · next h => rw [if_pos (of_decide_eq_true h), Memory.take_read _ _ (by decide)]
    · next h => rw [if_neg (by simpa using h)]
  rw [hlen]
  simp [Site.weightLoad, List.range_succ]

theorem Site.poison_weightLoad (b : Site) (f : FmtMW) (k : ElemFmt) (j : Nat) :
    (b.weightLoad f k (j + 1)).poison = ((b.weightLoad f k j).poison ||
      (if decide (k = .mx4 ∧ j = 2) then b.scr.poison64 (b.blockAddr f j) else b.scr.anyPoison (b.blockAddr f j / 64) 4)) := by
  have hlen : (if decide (k = .mx4 ∧ j = 2) then b.scr.poison64 (b.blockAddr f j) else b.scr.anyPoison (b.blockAddr f j / 64) 4) =
      b.scr.anyPoison (b.blockAddr f j / 64) (blockLen k j / 64 + blockLen k j % 64 / 32) := by
    unfold blockLen
    split
    · next h => rw [if_pos (of_decide_eq_true h)]; exact (Memory.anyPoison_one _ _).symm
    · next h => rw [if_neg (by simpa using h)]
  rw [hlen]
  simp [Site.weightLoad, List.range_succ]

/-! ### The cycles of a weight load -/

/-- Site `b` with its loads and the use of its ports replaced, and its sequencer at another place. -/
def Site.weighing (b : Site) (m : MatrixUnit) (q : Sequencer) (used : Nat) (banks : List Nat) : Site :=
  { b with mat := m, seq := q, usedAt := used, usedBanks := banks }

/-- The matrix unit while a weight load runs. -/
def MatrixUnit.loadingWb (m : MatrixUnit) (wb lw : Nat) (l : List WLoad) : MatrixUnit :=
  { m.setWb wb { block := none, readable := 0 } with loads := l, lastWide := lw }

/-- The block that a whole load leaves. -/
def Site.block (b : Site) (f : FmtMW) (k : ElemFmt) : Block :=
  { fmt := k, bytes := (b.weightLoad f k (blockAccesses k)).bytes, poison := (b.weightLoad f k (blockAccesses k)).poison }

/-- The load that the access in cycle `c` leaves, of `l` and the group read. -/
def WLoad.take (l : WLoad) (m : Memory) (a : Nat) : WLoad :=
  { l with
    done := l.done + 1
    bytes := l.bytes ++ (if decide (l.fmt = .mx4 ∧ l.done = 2) then (m.read a 256).take 32 else m.read a 256)
    poison := l.poison || (if decide (l.fmt = .mx4 ∧ l.done = 2) then m.poison64 a else m.anyPoison (a / 64) 4) }

/-- The matrix unit after the access in cycle `c` that leaves the load `l`: a whole block lands in its buffer. -/
def MatrixUnit.accessed (m : MatrixUnit) (c : Nat) (l : WLoad) : MatrixUnit :=
  if l.done = blockAccesses l.fmt then
    ({ m with loads := [], lastWide := c + 1 } : MatrixUnit).setWb l.wb
      { block := some { fmt := l.fmt, bytes := l.bytes, poison := l.poison }, readable := c + 8 }
  else { m with loads := [l], lastWide := c + 1 }

/-- The wide port's access for the only weight load, to a WIDE bank. -/
theorem Site.weightAccess_wide {a : Site} {c x : Nat} {l l' : WLoad} (hloads : a.mat.loads = [l]) (hlw : a.mat.lastWide ≤ c)
    (hx : (l.addr + 256 * l.done) % 2 ^ 20 = x) (hown : a.owner (bankOf x) c = ownWide) (hl : l.take a.scr x = l') :
    a.weightAccess false c = { a.touch c (bankOf x) with mat := a.mat.accessed c l' } := by
  subst hl
  unfold Site.weightAccess
  rw [if_neg (Nat.not_lt.mpr hlw), hloads]
  dsimp only
  rw [hx, if_neg Bool.false_ne_true, if_neg (not_not.mpr hown)]
  by_cases hlast : l.done + 1 = blockAccesses l.fmt
  · have hdone : (l.take a.scr x).done = blockAccesses (l.take a.scr x).fmt := hlast
    rw [if_pos hlast, MatrixUnit.accessed, if_pos hdone]
    rfl
  · have hdone : ¬(l.take a.scr x).done = blockAccesses (l.take a.scr x).fmt := hlast
    rw [if_neg hlast, MatrixUnit.accessed, if_neg hdone]
    rfl

theorem Site.take_weightLoad (b : Site) (f : FmtMW) (k : ElemFmt) (j : Nat) :
    (b.weightLoad f k j).take b.scr (b.blockAddr f j) = b.weightLoad f k (j + 1) := by
  rw [show b.weightLoad f k (j + 1) = { b.weightLoad f k (j + 1) with
      bytes := (b.weightLoad f k (j + 1)).bytes, poison := (b.weightLoad f k (j + 1)).poison } from rfl,
    b.bytes_weightLoad, b.poison_weightLoad]
  rfl

/-- One access of a weight load (R152). -/
theorem Site.weightAccess_step (b : Site) (f : FmtMW) (k : ElemFmt) (c j lw : Nat) (q : Sequencer) (used : Nat) (banks : List Nat)
    (hlw : lw ≤ c) (hown : b.owner (bankOf (b.blockAddr f j)) c = ownWide) :
    ∃ used' banks', (b.weighing (b.mat.loadingWb f.wb.toNat lw [b.weightLoad f k j]) q used banks).weightAccess false c =
      b.weighing ((b.mat.loadingWb f.wb.toNat lw [b.weightLoad f k j]).accessed c (b.weightLoad f k (j + 1))) q used' banks' :=
  ⟨_, _, Site.weightAccess_wide (a := b.weighing (b.mat.loadingWb f.wb.toNat lw [b.weightLoad f k j]) q used banks) rfl hlw rfl hown
    (b.take_weightLoad f k j)⟩

theorem Site.arrive_still {a : Site} (c : Nat) (hlandings : a.seq.landings = []) (hfeeds : a.mat.feeds = []) : a.arrive c = a := by
  rw [Site.arrive, Site.land_none _ _ hlandings, Site.landRows_none _ _ hfeeds, Site.feedCheck_none _ _ hfeeds]

/-- With no stream and no reload the wide port serves weight loads alone. -/
theorem Site.wide_load {a : Site} (c : Nat) (hfeeds : a.mat.feeds = []) (hreload : a.reload = none) :
    a.wide c = a.weightAccess false c := by
  simp [Site.wide, Site.reloadAccess, hreload, Site.reloading, Site.fetchAccess, Site.fetchDue, hfeeds]

/-- The matrix unit once the load is whole. -/
def Site.loadedWb (b : Site) (f : FmtMW) (k : ElemFmt) (n : Nat) : MatrixUnit :=
  (b.mat.loadingWb f.wb.toNat n []).setWb f.wb.toNat
    { block := some { fmt := k, bytes := (b.weightLoad f k (blockAccesses k)).bytes, poison := (b.weightLoad f k (blockAccesses k)).poison }
      readable := n + 7 }

theorem MatrixUnit.feeds_loadingWb (m : MatrixUnit) (wb lw : Nat) (l : List WLoad) : (m.loadingWb wb lw l).feeds = m.feeds := by
  unfold MatrixUnit.loadingWb MatrixUnit.setWb
  split <;> rfl

theorem MatrixUnit.accessed_loadingWb (m : MatrixUnit) (wb lw c : Nat) (l : List WLoad) (x : WLoad) :
    (m.loadingWb wb lw l).accessed c x =
      if x.done = blockAccesses x.fmt then
        (m.loadingWb wb (c + 1) []).setWb x.wb { block := some { fmt := x.fmt, bytes := x.bytes, poison := x.poison }, readable := c + 8 }
      else m.loadingWb wb (c + 1) [x] := rfl

section
variable {b : Site} {f : FmtMW} {k : ElemFmt} {n : Nat} (hb : b.AtRest)
  (hown : ∀ j c, j < blockAccesses k → n ≤ c → b.owner (bankOf (b.blockAddr f j)) c = ownWide)

include hb hown

/-- The wide port in the cycle of access `j`. -/
theorem Site.wide_weighing {j lw used : Nat} {q : Sequencer} {banks : List Nat} (hj : j < blockAccesses k) (hlw : lw ≤ n + j) :
    ∃ used' banks', (b.weighing (b.mat.loadingWb f.wb.toNat lw [b.weightLoad f k j]) q used banks).wide (n + j) =
      b.weighing ((b.mat.loadingWb f.wb.toNat lw [b.weightLoad f k j]).accessed (n + j) (b.weightLoad f k (j + 1))) q used' banks' := by
  have hfeeds : (b.weighing (b.mat.loadingWb f.wb.toNat lw [b.weightLoad f k j]) q used banks).mat.feeds = [] :=
    (b.mat.feeds_loadingWb ..).trans hb.feeds
  rw [Site.wide_load _ hfeeds hb.reload]
  exact b.weightAccess_step f k (n + j) j lw q used banks hlw (hown j _ hj (Nat.le_add_right n j))

/-- The cycle of access `j`, passed. -/
theorem Site.pass_weighing {j lw used : Nat} {q : Sequencer} {banks : List Nat} (hq : q.landings = []) (hj : j < blockAccesses k)
    (hlw : lw ≤ n + j) :
    ∃ used' banks', (b.weighing (b.mat.loadingWb f.wb.toNat lw [b.weightLoad f k j]) q used banks).pass (n + j) =
      b.weighing ((b.mat.loadingWb f.wb.toNat lw [b.weightLoad f k j]).accessed (n + j) (b.weightLoad f k (j + 1)))
        { q with clock := n + j + 1 } used' banks' := by
  have hfeeds : (b.weighing (b.mat.loadingWb f.wb.toNat lw [b.weightLoad f k j]) q used banks).mat.feeds = [] :=
    (b.mat.feeds_loadingWb ..).trans hb.feeds
  obtain ⟨used', banks', hwide⟩ := Site.wide_weighing hb hown (q := q) (used := used) (banks := banks) hj hlw
  refine ⟨used', banks', ?_⟩
  rw [Site.pass, Site.arrive, Site.land_none _ _ hq, Site.landRows_none _ _ hfeeds, Site.feedCheck_none _ _ hfeeds, hwide]
  rfl

theorem Site.runTo_weighing_succ {steps j lw used : Nat} {q : Sequencer} {banks : List Nat} (hq : q.landings = [])
    (hj : j < blockAccesses k) (hclock : q.clock = n + j) (hlw : lw ≤ n + j) :
    ∃ used' banks', Site.runTo (steps + 1) (n + blockAccesses k)
        (b.weighing (b.mat.loadingWb f.wb.toNat lw [b.weightLoad f k j]) q used banks) =
      Site.runTo steps (n + blockAccesses k)
        (b.weighing (if j + 1 = blockAccesses k then b.loadedWb f k (n + j + 1)
          else b.mat.loadingWb f.wb.toNat (n + j + 1) [b.weightLoad f k (j + 1)]) { q with clock := n + j + 1 } used' banks') := by
  have hbusy : (b.weighing (b.mat.loadingWb f.wb.toNat lw [b.weightLoad f k j]) q used banks).quiet = false := by
    simp [Site.quiet, Site.weighing, MatrixUnit.loadingWb]
  have hnow : (b.weighing (b.mat.loadingWb f.wb.toNat lw [b.weightLoad f k j]) q used banks).seq.clock = n + j := hclock
  obtain ⟨used', banks', hpass⟩ := Site.pass_weighing hb hown (used := used) (banks := banks) hq hj hlw
  refine ⟨used', banks', ?_⟩
  rw [Site.runTo, if_neg (by omega), hbusy, if_neg Bool.false_ne_true, hnow, hpass, MatrixUnit.accessed_loadingWb]
  by_cases hlast : j + 1 = blockAccesses k
  · have hdone : (b.weightLoad f k (j + 1)).done = blockAccesses (b.weightLoad f k (j + 1)).fmt := hlast
    rw [if_pos hdone, if_pos hlast, Site.loadedWb, ← hlast]
    rfl
  · have hdone : ¬(b.weightLoad f k (j + 1)).done = blockAccesses (b.weightLoad f k (j + 1)).fmt := hlast
    rw [if_neg hdone, if_neg hlast]

/-- The cycles of a weight load pass one access each. -/
theorem Site.runTo_weighing (steps j : Nat) {lw used : Nat} {q : Sequencer} {banks : List Nat} (hq : q.landings = [])
    (hj : j + (steps + 1) = blockAccesses k) (hclock : q.clock = n + j) (hlw : lw ≤ n + j) :
    ∃ used' banks', Site.runTo (steps + 1) (n + blockAccesses k)
        (b.weighing (b.mat.loadingWb f.wb.toNat lw [b.weightLoad f k j]) q used banks) =
      b.weighing (b.loadedWb f k (n + blockAccesses k)) { q with clock := n + blockAccesses k } used' banks' := by
  induction steps generalizing j lw q used banks with
  | zero =>
    obtain ⟨used', banks', hstep⟩ := Site.runTo_weighing_succ hb hown (steps := 0) (used := used) (banks := banks) hq (by omega) hclock hlw
    have hlast : j + 1 = blockAccesses k := hj
    refine ⟨used', banks', hstep.trans ?_⟩
    have hcycle : n + j + 1 = n + blockAccesses k := congrArg (n + ·) hlast
    rw [if_pos hlast, hcycle, Site.runTo, show ∀ m q' u l, (b.weighing m q' u l).seq = q' from fun _ _ _ _ => rfl, Nat.max_self]
    rfl
  | succ steps ih =>
    obtain ⟨used', banks', hstep⟩ :=
      Site.runTo_weighing_succ hb hown (steps := steps + 1) (used := used) (banks := banks) hq (by omega) hclock hlw
    obtain ⟨used'', banks'', hrest⟩ :=
      ih (j + 1) (lw := n + j + 1) (used := used') (q := { q with clock := n + j + 1 }) (banks := banks') hq (by omega) rfl le_rfl
    refine ⟨used'', banks'', hstep.trans ?_⟩
    rw [if_neg (by omega)]
    exact hrest

end

/-! ### MLDW -/

/-- The matrix unit once the whole block has landed. -/
theorem Site.wb_loadedWb (b : Site) (f : FmtMW) (k : ElemFmt) (n : Nat) :
    (b.loadedWb f k n).wb f.wb.toNat =
        { block := some { fmt := k, bytes := (b.weightLoad f k (blockAccesses k)).bytes
                          poison := (b.weightLoad f k (blockAccesses k)).poison }
          readable := n + 7 } ∧
      (b.loadedWb f k n).loads = [] ∧
      (if f.wb = 0 then (b.loadedWb f k n).wb1 else (b.loadedWb f k n).wb0) = (if f.wb = 0 then b.mat.wb1 else b.mat.wb0) ∧
      (b.loadedWb f k n).acc = b.mat.acc ∧ (b.loadedWb f k n).cols = b.mat.cols ∧ (b.loadedWb f k n).feeds = b.mat.feeds := by
  have hzero : f.wb.toNat = 0 ↔ f.wb = 0 := by simp [BitVec.toNat_eq]
  unfold Site.loadedWb MatrixUnit.loadingWb MatrixUnit.setWb MatrixUnit.wb
  by_cases hwb : f.wb = 0
  · simp [hwb]
  · simp only [hzero, hwb, if_false, and_self]

section
variable {s : State} {i : Nat} {f : FmtMW} {k : ElemFmt} (hcan : s.canIssue i = true) (hg : (s.site i).guard f.g = true)

include hcan hg

/-- MLDW of a buffer that is still loading (R153). -/
theorem State.mldw_busy (hbusy : s.issueCycle i < ((s.site i).mat.wb f.wb.toNat).readable) :
    StopsWith s i (.mldw i f .clean) .bankClash Clash.wbBusy.code := by
  refine State.stopsWith_mat (op := .mldw f) hcan rfl ((State.issueMat_guarded (op := .mldw f) hg).trans (if_pos ?_))
  have hloading : decide (s.issueCycle i < ((s.site i).mat.wb f.wb.toNat).readable) = true := decide_eq_true hbusy
  exact (Bool.or_eq_true _ _).mpr (Or.inr hloading)

/-- MLDW starts its load. -/
theorem State.issueMat_mldw (hk : ElemFmt.ofCode f.fmt.toNat = some k) (hfree : ((s.site i).mat.wb f.wb.toNat).readable ≤ s.issueCycle i) :
    (s.atClock i).issueMat (s.issueCycle i) (.mldw f) =
      (s.site i).weighing ((s.site i).mat.loadingWb f.wb.toNat (s.site i).mat.lastWide [(s.site i).weightLoad f k 0]) (s.atClock i).seq
        (s.site i).usedAt (s.site i).usedBanks := by
  have h := State.ready_of_canIssue hcan
  have hnone : (s.atClock i).mat.loads = [] := h.atRest.loads
  have hidle : ¬(s.atClock i).wbLoading f.wb.toNat (s.issueCycle i) = true := by
    have hlate : ¬s.issueCycle i < ((s.atClock i).mat.wb f.wb.toNat).readable := Nat.not_lt.mpr hfree
    simp [Site.wbLoading, hnone, hlate]
  refine (State.issueMat_guarded (op := .mldw f) hg).trans ((if_neg hidle).trans ?_)
  rw [hnone, hk]
  unfold MatrixUnit.loadingWb MatrixUnit.setWb
  split <;> rfl

end

end Sys2Proof.Machine

open Sys2Proof Sys2Proof.Machine

/-- Settles O22: the wide port reads a group a cycle from the issue cycle on, and the last one lands the block. -/
theorem weightLoad : Obligations.WeightLoad := by
  intro s i f k hcan hg hk hlast b n at_ len other
  have h := State.ready_of_canIssue hcan
  refine ⟨State.mldw_busy hcan hg, fun hfree hown => ?_⟩
  have hcount : 1 < blockAccesses k := by cases k <;> decide
  obtain ⟨used, banks, hwide⟩ := Site.wide_weighing (n := n) (j := 0) (q := (s.atClock i).seq) (used := b.usedAt) (banks := b.usedBanks)
    h.atRest hown (by omega) hlast
  have hmore : ¬(b.weightLoad f k 1).done = blockAccesses (b.weightLoad f k 1).fmt := hcount.ne
  have hfirst := (congrArg (Site.wide · n) (State.issueMat_mldw hcan hg hk hfree)).trans hwide
  rw [MatrixUnit.accessed_loadingWb, if_neg hmore] at hfirst
  have hissue := h.issue_mat hfirst (State.loops_of_canIssue hcan)
  obtain ⟨hsite, honly⟩ := s.issueAt_lone i _ _ hissue rfl rfl rfl
  obtain ⟨steps, hsteps⟩ : ∃ steps, 1 + (steps + 1) = blockAccesses k := ⟨blockAccesses k - 2, by omega⟩
  obtain ⟨used', banks', hrun⟩ := Site.runTo_weighing (n := n) (q := { b.seq with pc := b.seq.pc + 1, next := n + 1, clock := n + 1 })
    (used := used) (banks := banks) h.atRest hown steps 1 h.atRest.landings hsteps rfl le_rfl
  obtain ⟨hwb, hloads, hother, hacc, hcols, hfeeds⟩ := b.wb_loadedWb f k (n + blockAccesses k)
  have hseen : (s.issueAt i (loneMat (.mldw f)) Checks.clean).seen i (n + blockAccesses k) =
      b.weighing (b.loadedWb f k (n + blockAccesses k))
        { b.seq with pc := b.seq.pc + 1, next := n + 1, clock := n + blockAccesses k } used' banks' := by
    have hfeed := hfeeds.trans h.atRest.feeds
    have hfuel : n + blockAccesses k - (n + 1) = steps + 1 := by omega
    refine (congrArg (fun x => (Site.settle x (n + blockAccesses k)).arrive (n + blockAccesses k)) hsite).trans ?_
    refine (congrArg (Site.arrive · (n + blockAccesses k))
      ((congrArg (Site.runTo · (n + blockAccesses k) _) hfuel).trans hrun)).trans ?_
    exact Site.arrive_still _ h.atRest.landings hfeed
  refine ⟨_, rfl, ⟨honly, ?_, ?_, ?_⟩, ?_⟩
  · rw [hsite]; rfl
  · rw [hsite]
  · rw [hsite]; exact h.running
  · simp only [hseen]
    exact ⟨hwb, hloads, hother, hacc, hcols, ⟨fun _ => rfl, fun _ => rfl, fun _ => rfl, fun _ => rfl, fun _ => rfl⟩, rfl, rfl⟩
end

section
/-! Proofs about the matrix slot: block products (O24). -/

namespace Sys2Proof.Machine

/-! ### A column of a row -/

theorem treeLevel_eq (l : List (Word × Flags)) : treeLevel l = redLevel fadd l := by
  induction l using treeLevel.induct with
  | case1 a b t ih => rw [treeLevel, redLevel, ih]
  | case2 l h => rw [treeLevel, redLevel] <;> exact h

theorem treeLevels_range (k : Nat) (leaf : Nat → Word × Flags) :
    (treeLevels k ((List.range (2 ^ k)).map leaf)).headD (0, 0) = treeValue fadd leaf k 0 := by
  induction k generalizing leaf with
  | zero => rfl
  | succ k ih => rw [treeLevels, treeLevel_eq, Nat.pow_succ', redLevel_range, ih, treeValue_succ]

/-- The chunk sum where no product's flags are muted (R188). -/
theorem chunkSum_eq (b : Block) (fmt : ElemFmt) (row : List Byte) (j : Nat) :
    chunkSum b fmt row j [] = treeValue fadd (fun k => Fp.round (Fp.mul (activation fmt row k) (b.weight k j))) 5 0 := by
  have htree := treeLevels_range 5 fun k => Fp.round (Fp.mul (activation fmt row k) (b.weight k j))
  rw [show 2 ^ 5 = 32 from rfl] at htree
  rw [← htree]
  simp only [chunkSum, List.contains_nil, Bool.false_eq_true, if_false]

theorem clampInt32_eq (v : Int) : (clampInt32 v).1 = BitVec.ofInt 32 (max (-2147483648) (min 2147483647 v)) := by
  unfold clampInt32
  split
  · next h => rw [show max (-2147483648) (min 2147483647 v) = 2147483647 by omega]; rfl
  · split
    · next h => rw [show max (-2147483648) (min 2147483647 v) = -2147483648 by omega]; rfl
    · rw [show max (-2147483648) (min 2147483647 v) = v by omega]

/-- The value of a column that lands (R189, R192). -/
theorem landColumn_eq (b : Block) (fmt : ElemFmt) (acc : Bool) (old : Word) (row : List Byte) (j : Nat) :
    (landColumn b fmt acc old row j []).1 =
      if b.fmt = .int8 then
        BitVec.ofInt 32 (max (-2147483648) (min 2147483647 ((if acc then old.toInt else 0) +
          ((List.range 32).map fun k => (byteAt row k).toInt * b.weightInt k j).sum)))
      else
        if acc then (fadd old (treeValue fadd (fun k => Fp.round (Fp.mul (activation fmt row k) (b.weight k j))) 5 0).1).1
        else (treeValue fadd (fun k => Fp.round (Fp.mul (activation fmt row k) (b.weight k j))) 5 0).1 := by
  unfold landColumn
  split
  · rw [clampInt32_eq, chunkSumInt, ← List.sum_eq_foldl]
    cases acc <;> simp
  · rw [chunkSum_eq]
    cases acc <;> rfl

/-! ### Rows that land -/

theorem Site.orCols (a : Site) (l : List Nat) (f : Nat → Flags) :
    ∃ cols, l.foldl (fun t j => t.orCol j (f j)) a = { a with mat := { a.mat with cols := cols } } := by
  induction l generalizing a with
  | nil => exact ⟨_, rfl⟩
  | cons j l ih =>
    obtain ⟨cols, h⟩ := ih (a.orCol j (f j))
    refine ⟨cols, h.trans ?_⟩
    unfold Site.orCol
    split <;> rfl

/-- The columns of row `r` of a clean product. -/
def productCols (fmt : ElemFmt) (g : Group) (w : Block) (accumulate : Bool) (old : AccRow) (r : Nat) : List Word :=
  (List.range 32).map fun j =>
    (landColumn w fmt accumulate (old.cols.getD j 0) (bytesFrom g.bytes (r * 32 * fmt.size) (32 * fmt.size)) j []).1

/-- Row `r` of a clean product lands in ACC (R155). -/
theorem Site.landRow_clean {a : Site} {c r n row0 : Nat} {y : Feed} {g : Group} {w : Block} {accumulate : Bool}
    (hgroups : y.groups = [g]) (hr : r < rowsPerGroup y.fmt) (hok : g.ok = true) (hclean : g.poison = false) (hw : w.poison = false)
    (hold : accumulate = true → (a.accRow ((row0 + r) % 512)).pLo = false ∧ (a.accRow ((row0 + r) % 512)).pHi = false) :
    ∃ cols, a.landRow c y { at_ := n, row0 := row0, accumulate := accumulate, block := some w, spoilt := none, noFlags := [] } r =
      { a with mat := { a.mat with
          acc := aset a.mat.acc ((row0 + r) % 512)
            { cols := productCols y.fmt g w accumulate (a.accRow ((row0 + r) % 512)) r, pLo := false, pHi := false }
          cols := cols } } := by
  have hpoison : (accumulate && ((a.accRow ((row0 + r) % 512)).pLo || (a.accRow ((row0 + r) % 512)).pHi)) = false := by
    cases haccumulate : accumulate with
    | false => rfl
    | true =>
      obtain ⟨hlo, hhi⟩ := hold haccumulate
      rw [hlo, hhi]
      rfl
  unfold Site.landRow
  simp only [hgroups, Nat.div_eq_of_lt hr, Nat.mod_eq_of_lt hr, List.all_cons, hok, List.all_nil, List.getD_cons_zero, hclean,
    hpoison, Bool.and_self, hw, Bool.or_false, Bool.false_eq_true, if_false, List.filter_nil, List.map_nil]
  exact Site.orCols _ _ _

/-- A clean product in flight: its stream `y` at a site `a` where the rows from `d` on still hold what `b` holds. -/
structure Site.Multiplies (b a : Site) (y : Feed) (row0 d : Nat) : Prop where
  landings : a.seq.landings = []
  feeds : a.mat.feeds = [y]
  loads : a.mat.loads = []
  reload : a.reload = none
  rows : ∀ r, d ≤ r → r < y.rows → a.accRow ((row0 + r) % 512) = b.accRow ((row0 + r) % 512)

section
variable {b a : Site} {x : Feed} {g : Group} {w : Block} {n row0 d : Nat} {accumulate : Bool}

/-- The stream with its MMUL of cycle `n`. -/
def Feed.multiplied (x : Feed) (n row0 : Nat) (accumulate : Bool) (w : Block) : Feed :=
  { x with mmul := some { at_ := n, row0 := row0, accumulate := accumulate, block := some w, spoilt := none, noFlags := [] } }

theorem Site.feedCheck_multiplied {a : Site} {c : Nat} (h : ∀ y ∈ a.mat.feeds, y.mmul.isSome) : a.feedCheck c = a := by
  have hnone : a.mat.feeds.any (fun y => y.mmul.isNone && y.start + 9 == c) = false := by
    rw [List.any_eq_false]
    intro y hy
    simp [Option.isSome_iff_ne_none.mp (h y hy)]
  rw [Site.feedCheck, hnone]
  rfl

/-- A cycle in which no row lands. -/
theorem Site.Multiplies.arrive_before (h : b.Multiplies a (x.multiplied n row0 accumulate w) row0 d) {c : Nat} (hc : c < n + 40)
    (hrows : 0 < x.rows) : a.arrive c = a := by
  have hkeep : a.landRows c = { a with mat := { a.mat with feeds := [x.multiplied n row0 accumulate w] } } := by
    have hstays : c + 1 < n + 40 + x.rows := by omega
    simp [Site.landRows, h.feeds, Feed.multiplied, Nat.not_le.mpr hc, hstays]
  rw [Site.arrive, a.land_none c h.landings, hkeep, ← h.feeds]
  exact Site.feedCheck_multiplied (by rw [h.feeds]; simp [Feed.multiplied])

/-- Whether rows of a stream are still to land after cycle `c`. -/
def Feed.stays (c : Nat) (f : Feed) : Bool :=
  match f.mmul with
  | some m => decide (c + 1 < m.at_ + 40 + f.rows)
  | none => true

/-- A cycle in which a row of the only stream lands. -/
theorem Site.landRows_one {a : Site} {c : Nat} {y : Feed} {m : Multiply} (hfeeds : a.mat.feeds = [y]) (hm : y.mmul = some m)
    (hdue : (m.at_ + 40 ≤ c && c < m.at_ + 40 + y.rows) = true) :
    a.landRows c = { a.landRow c y m (c - m.at_ - 40) with mat := { (a.landRow c y m (c - m.at_ - 40)).mat with
      feeds := (a.landRow c y m (c - m.at_ - 40)).mat.feeds.filter (Feed.stays c) } } := by
  simp only [Site.landRows, hfeeds, List.foldl_cons, List.foldl_nil, hm, if_pos hdue]
  rfl

/-- The row that lands in cycle `n + 40 + r`. -/
theorem Site.Multiplies.arrive_row (h : b.Multiplies a (x.multiplied n row0 accumulate w) row0 d) (hd : d < x.rows)
    (hgroups : x.groups = [g]) (hrows : x.rows ≤ rowsPerGroup x.fmt) (hok : g.ok = true) (hclean : g.poison = false)
    (hw : w.poison = false)
    (hold : accumulate = true → (b.accRow ((row0 + d) % 512)).pLo = false ∧ (b.accRow ((row0 + d) % 512)).pHi = false) :
    ∃ cols, a.arrive (n + 40 + d) = { a with mat := { a.mat with
      acc := aset a.mat.acc ((row0 + d) % 512)
        { cols := productCols x.fmt g w accumulate (b.accRow ((row0 + d) % 512)) d, pLo := false, pHi := false }
      cols := cols, feeds := if d + 1 < x.rows then [x.multiplied n row0 accumulate w] else [] } } := by
  have hrow := h.rows d le_rfl hd
  obtain ⟨cols, hland⟩ := Site.landRow_clean (a := a) (c := n + 40 + d) (n := n) (y := x.multiplied n row0 accumulate w) (r := d)
    hgroups (lt_of_lt_of_le hd hrows) hok hclean hw (by rw [hrow]; exact hold)
  rw [hrow] at hland
  refine ⟨cols, ?_⟩
  have hindex : n + 40 + d - n - 40 = d := by omega
  have hdue : (n + 40 ≤ n + 40 + d && n + 40 + d < n + 40 + x.rows) = true := by simp [hd]
  have hrows := Site.landRows_one (c := n + 40 + d) h.feeds rfl hdue
  have hstays : (if d + 1 < x.rows then [x.multiplied n row0 accumulate w] else []) =
      [x.multiplied n row0 accumulate w].filter (Feed.stays (n + 40 + d)) := by
    have hlast : n + 40 + d + 1 < n + 40 + x.rows ↔ d + 1 < x.rows := by omega
    by_cases hmore : d + 1 < x.rows <;> simp [Feed.stays, Feed.multiplied, hlast, hmore]
  rw [hindex, hland] at hrows
  have hfeeds := h.feeds
  rw [Site.arrive, a.land_none _ h.landings, hrows, hstays, hfeeds]
  exact Site.feedCheck_multiplied fun y hy => by
    have hmem := List.mem_of_mem_filter hy
    rw [List.mem_singleton.mp hmem]
    rfl

theorem Site.accRow_aset (a : Site) (q r : Nat) (row : AccRow) (cols : List (Nat × BitVec 5)) (l : List Feed) :
    ({ a with mat := { a.mat with acc := aset a.mat.acc q row, cols := cols, feeds := l } } : Site).accRow r =
      if r = q then row else a.accRow r := by
  by_cases h : r = q
  · subst h
    rw [if_pos rfl, Site.accRow, alook_aset_self]
  · rw [if_neg h, Site.accRow, alook_aset_ne _ _ _ _ h]
    rfl

theorem Site.Multiplies.clocked (h : b.Multiplies a (x.multiplied n row0 accumulate w) row0 d) (c : Nat) :
    b.Multiplies (a.clocked c) (x.multiplied n row0 accumulate w) row0 d :=
  ⟨h.landings, h.feeds, h.loads, h.reload, h.rows⟩

section
variable (hgroups : x.groups = [g]) (hfew : x.rows ≤ rowsPerGroup x.fmt) (hok : g.ok = true) (hclean : g.poison = false)
  (hw : w.poison = false)
  (hold : ∀ r, r < x.rows → accumulate = true →
    (b.accRow ((row0 + r) % 512)).pLo = false ∧ (b.accRow ((row0 + r) % 512)).pHi = false)

include hgroups hfew

theorem Feed.fetched : (x.multiplied n row0 accumulate w).groupCount ≤ (x.multiplied n row0 accumulate w).groups.length := by
  have hone : (x.multiplied n row0 accumulate w).groups.length = 1 := congrArg List.length hgroups
  have hpos : 0 < rowsPerGroup x.fmt := by cases x.fmt <;> decide
  rw [hone]
  exact Nat.le_of_lt_succ ((Nat.div_lt_iff_lt_mul hpos).mpr (by show x.rows + rowsPerGroup x.fmt - 1 < _; omega))

/-- A cycle in which no row lands, passed. -/
theorem Site.Multiplies.pass_before (h : b.Multiplies a (x.multiplied n row0 accumulate w) row0 d) {c : Nat} (hc : c < n + 40)
    (hrows : 0 < x.rows) : a.pass c = a.clocked (c + 1) := by
  rw [Site.pass, h.arrive_before hc hrows, Site.wide_fetched c h.feeds (Feed.fetched hgroups hfew) h.loads h.reload]
  rfl

include hok hclean hw hold

/-- The cycle of a row that is not the last, passed. -/
theorem Site.Multiplies.pass_row (h : b.Multiplies a (x.multiplied n row0 accumulate w) row0 d) (hd : d + 1 < x.rows) :
    b.Multiplies (a.pass (n + 40 + d)) (x.multiplied n row0 accumulate w) row0 (d + 1) ∧
      (a.pass (n + 40 + d)).seq.clock = n + 40 + d + 1 := by
  obtain ⟨cols, harrive⟩ := h.arrive_row (by omega) hgroups hfew hok hclean hw (hold d (by omega))
  rw [if_pos hd] at harrive
  have hwide := Site.wide_fetched (n + 40 + d)
    (a := { a with mat := { a.mat with
      acc := aset a.mat.acc ((row0 + d) % 512)
        { cols := productCols x.fmt g w accumulate (b.accRow ((row0 + d) % 512)) d, pLo := false, pHi := false }
      cols := cols, feeds := [x.multiplied n row0 accumulate w] } })
    rfl (Feed.fetched hgroups hfew) h.loads h.reload
  have hpass := congrArg (Site.clocked · (n + 40 + d + 1)) ((congrArg (Site.wide · (n + 40 + d)) harrive).trans hwide)
  change a.pass (n + 40 + d) = _ at hpass
  rw [hpass]
  refine ⟨⟨h.landings, rfl, h.loads, h.reload, fun r hr hlast => ?_⟩, rfl⟩
  refine (a.accRow_aset _ _ _ _ _).trans ((if_neg ?_).trans (h.rows r (by omega) hlast))
  have height : rowsPerGroup x.fmt ≤ 8 := by cases x.fmt <;> decide
  have hrows : x.rows ≤ 8 := hfew.trans height
  change r < x.rows at hlast
  omega

/-- Up to the cycle of row `r` the earlier rows land. -/
theorem Site.Multiplies.runTo (k : Nat) {a : Site} {r : Nat} (hr : r < x.rows) (hk : a.seq.clock + k = n + 40 + r)
    (h : b.Multiplies a (x.multiplied n row0 accumulate w) row0 (a.seq.clock - (n + 40))) :
    b.Multiplies (Site.runTo k (n + 40 + r) a) (x.multiplied n row0 accumulate w) row0 r := by
  induction k generalizing a with
  | zero =>
    have hd : a.seq.clock - (n + 40) = r := by omega
    exact ⟨h.landings, h.feeds, h.loads, h.reload, hd ▸ h.rows⟩
  | succ k ih =>
    have hbusy : a.quiet = false := by simp [Site.quiet, h.feeds]
    rw [Site.runTo, if_neg (by omega), hbusy, if_neg Bool.false_ne_true]
    rcases Nat.lt_or_ge a.seq.clock (n + 40) with hbefore | hlanding
    · have hd : a.seq.clock - (n + 40) = 0 := by omega
      have hd' : a.seq.clock + 1 - (n + 40) = 0 := by omega
      rw [hd] at h
      rw [h.pass_before hgroups hfew hbefore (by omega)]
      refine ih (by show a.seq.clock + 1 + k = _; omega) ?_
      change b.Multiplies _ _ _ (a.seq.clock + 1 - (n + 40))
      rw [hd']
      exact h.clocked _
    · obtain ⟨d, hd⟩ := Nat.exists_eq_add_of_le hlanding
      have hthis : a.seq.clock - (n + 40) = d := by omega
      rw [hthis] at h
      obtain ⟨hnext, hclock⟩ := h.pass_row hgroups hfew hok hclean hw hold (by omega)
      rw [hd]
      refine ih (by omega) ?_
      rw [hclock, show n + 40 + d + 1 - (n + 40) = d + 1 by omega]
      exact hnext

end

end

/-! ### MMUL -/

section
variable {s : State} {i : Nat} {f : FmtMM} {x : Feed} {g : Group} {w : Block}

/-- The site once MMUL has taken its stream. -/
def State.multiplying (s : State) (i : Nat) (f : FmtMM) (x : Feed) (w : Block) : Site :=
  { s.atClock i with mat := { (s.site i).mat with
      array := some w, feeds := [x.multiplied (s.issueCycle i) f.row0.toNat (f.mode = 1) w] } }

theorem State.issueMmul_eq (hfeeds : (s.site i).mat.feeds = [x]) (hloads : (s.site i).mat.loads = []) (hmmul : x.mmul = none)
    (hstart : x.start + 8 = s.issueCycle i) (hblock : ((s.site i).mat.wb f.wb.toNat).block = some w)
    (hready : ((s.site i).mat.wb f.wb.toNat).readable ≤ s.issueCycle i) (hpaired : paired w.fmt x.fmt = true) :
    (s.atClock i).issueMmul (s.issueCycle i) f = s.multiplying i f x w := by
  have hfind : (s.atClock i).mat.feeds.find? (fun x => x.mmul.isNone && x.start + 8 == s.issueCycle i) = some x := by
    have hfeeds' : (s.atClock i).mat.feeds = [x] := hfeeds
    simp [hfeeds', hmmul, hstart]
  have hidle : (s.atClock i).wbLoading f.wb.toNat (s.issueCycle i) = false := by
    have hnone : (s.atClock i).mat.loads = [] := hloads
    have hlate : ((s.atClock i).mat.wb f.wb.toNat).readable ≤ s.issueCycle i := hready
    simp [Site.wbLoading, hnone, hlate]
  have hfree : (s.atClock i).arrayBusy (s.issueCycle i) = false := by
    have hfeeds' : (s.atClock i).mat.feeds = [x] := hfeeds
    simp [Site.arrayBusy, hfeeds', hmmul]
  have hblock' : ((s.atClock i).mat.wb f.wb.toNat).block = some w := hblock
  have harmed : (s.atClock i).mat.feeds.map (fun y => if y.mmul.isNone && y.start + 8 == s.issueCycle i then
      { y with mmul := some { at_ := s.issueCycle i, row0 := f.row0.toNat, accumulate := f.mode = 1, block := some w
                              spoilt := none, noFlags := [] } } else y) =
      [x.multiplied (s.issueCycle i) f.row0.toNat (f.mode = 1) w] := by
    have hfeeds' : (s.atClock i).mat.feeds = [x] := hfeeds
    simp [hfeeds', hmmul, hstart, Feed.multiplied]
  simp only [Site.issueMmul, hfind, hidle, hfree, hblock', hpaired, Bool.not_true, Bool.false_eq_true, if_false, harmed]
  rfl

/-- MMUL issues on a stream whose groups are fetched. -/
theorem State.issue_mmul (hat : s.atIssue i = true) (hfeeds : (s.site i).mat.feeds = [x]) (hlandings : (s.site i).seq.landings = [])
    (hloads : (s.site i).mat.loads = []) (hreload : (s.site i).reload = none) (hloops : (s.site i).seq.loops = [])
    (hclock : (s.site i).seq.clock = s.issueCycle i) (hg : (s.site i).guard f.g = true) (hmmul : x.mmul = none)
    (hstart : x.start + 8 = s.issueCycle i) (hgroups : x.groups = [g]) (hfew : x.rows ≤ rowsPerGroup x.fmt)
    (hblock : ((s.site i).mat.wb f.wb.toNat).block = some w)
    (hready : ((s.site i).mat.wb f.wb.toNat).readable ≤ s.issueCycle i) (hpaired : paired w.fmt x.fmt = true) :
    (s.site i).issue s.turn.geom.work (loneMat (.mmul f)) Checks.clean =
      ({ s.multiplying i f x w with seq := { (s.site i).seq with
          pc := (s.site i).seq.pc + 1, next := s.issueCycle i + 1, clock := s.issueCycle i + 1 } }, []) := by
  simp only [State.atIssue, Bool.and_eq_true, decide_eq_true_eq] at hat
  obtain ⟨⟨⟨hrun, hpc⟩, hnext⟩, -⟩ := hat
  have hdue : ¬((s.site i).seq.status ≠ .running || (s.site i).seq.pc > 1023 || s.turn.geom.work ≤ (s.site i).seq.next) = true := by
    simp [hrun]
    exact ⟨hpc, hnext⟩
  have hfetched : x.groupCount ≤ x.groups.length := Feed.fetched (n := 0) (row0 := 0) (accumulate := false) (w := w) hgroups hfew
  have hsettle : (s.site i).settle (s.issueCycle i) = s.atClock i := by
    rw [Site.settle, hclock, Nat.sub_self, Site.runTo, hclock, Nat.max_self]
    rfl
  have harrive : (s.atClock i).arrive (s.issueCycle i) = s.atClock i :=
    Site.arrive_waiting (a := s.atClock i) hfeeds hmmul hlandings (by omega)
  have hearly : (s.atClock i).early (s.issueCycle i) (loneMat (.mmul f)) = s.atClock i := by
    have hreload' : (s.atClock i).reload = none := hreload
    have hloads' : (s.atClock i).mat.loads = [] := hloads
    have hnone : (s.atClock i).fetchDue (s.issueCycle i) = none := Site.fetchDue_done (a := s.atClock i) _ hfeeds hfetched
    simp [Site.early, Site.startsReload, loneMat, Bundle.nops, Site.reloadAccess, hreload', Site.fetchAccess, hnone, Site.weightAccess,
      hloads']
  have hguard : (s.site i).guard (matGuard (.mmul f)) = true := hg
  have hbody : ((s.atClock i).issueMat (s.issueCycle i) (.mmul f)).wide (s.issueCycle i) = s.multiplying i f x w :=
    (congrArg (Site.wide · _) ((State.issueMat_guarded hguard).trans
      (State.issueMmul_eq hfeeds hloads hmmul hstart hblock hready hpaired))).trans
      (Site.wide_fetched (a := s.multiplying i f x w) _ rfl (Feed.fetched hgroups hfew) hloads hreload)
  have hstopped : (s.atClock i).seq.status.isStopped = false := by
    show (s.site i).seq.status.isStopped = false
    rw [hrun]
    rfl
  unfold Site.issue
  rw [if_neg hdue]
  simp only [show (s.site i).seq.next = s.issueCycle i from rfl, hsettle, harrive, hearly, hstopped, Bool.false_eq_true, if_false]
  refine (if_neg (by simp [Site.stalls, loneMat, Bundle.nops])).trans ?_
  rw [Site.slots5_mat, hbody, Site.finish_fall_of_no_loops _ _ (by exact hloops)]
  rfl

end

end Sys2Proof.Machine

open Sys2Proof Sys2Proof.Machine

/-- Settles O24: the rows land one a cycle from cycle 40 on, each in its own row of ACC, and the tree of a column's products is the
chunk sum. -/
theorem multiplyLandsRows : Obligations.MultiplyLandsRows := by
  intro s i f x g w b n hat hfeeds hlandings hloads hreload hloops hclock hg hmmul hstart hgroups hfew hrows hok hclean hblock hw
    hready hpaired hold bytes old sum dot clamp
  have hissue := State.issue_mmul hat hfeeds hlandings hloads hreload hloops hclock hg hmmul hstart hgroups hfew hblock hready hpaired
  obtain ⟨hsite, honly⟩ := s.issueAt_lone i _ _ hissue rfl rfl rfl
  have hrun : (s.site i).seq.status = .running := by
    simp only [State.atIssue, Bool.and_eq_true, decide_eq_true_eq] at hat
    obtain ⟨⟨⟨hrun, -⟩, -⟩, -⟩ := hat
    exact hrun
  refine ⟨_, rfl, ⟨honly, ?_, ?_, ?_⟩, ?_, ?_, fun r j hr hj => ?_⟩
  · rw [hsite]
  · rw [hsite]
  · rw [hsite]
    exact hrun
  · rw [hsite]
    rfl
  · rw [hsite]
    exact ⟨fun _ => rfl, fun _ => rfl, fun _ => rfl, fun _ => rfl, fun _ => rfl⟩
  · intro row
    have hstarted : b.Multiplies ((s.issueAt i (loneMat (.mmul f)) Checks.clean).site i)
        (x.multiplied n f.row0.toNat (f.mode = 1) w) f.row0.toNat 0 := by
      rw [hsite]
      exact ⟨hlandings, rfl, hloads, hreload, fun _ _ _ => rfl⟩
    have hnow : ((s.issueAt i (loneMat (.mmul f)) Checks.clean).site i).seq.clock = n + 1 := by rw [hsite]
    have hold' (r : Nat) (hr : r < x.rows) (hmode : decide (f.mode = 1) = true) := hold r hr (of_decide_eq_true hmode)
    have hrunto := Site.Multiplies.runTo (n := n) hgroups hfew hok hclean hw hold' (n + 40 + r - (n + 1)) hr (by rw [hnow]; omega)
      (by rw [hnow, show n + 1 - (n + 40) = 0 by omega]; exact hstarted)
    obtain ⟨cols, hland⟩ := hrunto.arrive_row hr hgroups hfew hok hclean hw (hold' r hr)
    have hrow : row = { cols := productCols x.fmt g w (f.mode = 1) (b.accRow ((f.row0.toNat + r) % 512)) r, pLo := false, pHi := false } := by
      have hseen := congrArg (Site.accRow · ((f.row0.toNat + r) % 512)) hland
      rw [← hnow] at hseen
      exact hseen.trans ((Site.accRow_aset _ _ _ _ _ _).trans (if_pos rfl))
    rw [hrow]
    refine ⟨rfl, rfl, ?_⟩
    have hcol : (productCols x.fmt g w (f.mode = 1) (b.accRow ((f.row0.toNat + r) % 512)) r).getD j 0 =
        (landColumn w x.fmt (f.mode = 1) (old r j) (bytes r) j []).1 := by
      rw [productCols, List.getD_eq_getElem?_getD, List.getElem?_map, List.getElem?_range hj]
      rfl
    rw [hcol, landColumn_eq]
    simp only [decide_eq_true_eq]
    rfl
end

section
/-! Proofs about the exchange slot: token queues and DMA (O27). -/

namespace Sys2Proof.Machine

/-! ### A lone exchange operation -/

/-- The exchange operation's own part of a lone bundle (R117). -/
theorem State.Ready.issue_exch {s : State} {i : Nat} (h : s.Ready i) {op : ExchOp} {a : Site} {ms : List OutMsg}
    (hstall : (s.atClock i).stalls (s.issueCycle i) op = false) (hg : (s.site i).guard (exchGuard op) = true)
    (hbody : (s.atClock i).exchBody (s.issueCycle i) op = (a, ms)) (hmat : a.mat = (s.site i).mat) (hreload : a.reload = (s.site i).reload)
    (hloops : a.seq.loops = []) :
    (s.site i).issue s.turn.geom.work (loneExch op) Checks.clean =
      ({ a with seq := { a.seq with pc := a.seq.pc + 1, next := s.issueCycle i + 1, clock := s.issueCycle i + 1 } }, ms) := by
  have hguard : (s.atClock i).guard (exchGuard op) = true := hg
  rw [h.issue hstall, Site.slots5_exch, Site.issueExch, if_pos hguard, hbody,
    Site.wide_none a _ (by rw [hmat, h.atRest.feeds]) (by rw [hmat, h.atRest.loads]) (by rw [hreload, h.atRest.reload]),
    a.finish_fall_of_no_loops _ hloops]
  rfl

/-- An exchange operation that raises a fault stops its site (R101). -/
theorem State.stopsWith_exch {s : State} {i : Nat} {c : Instr} {op : ExchOp} {e : Exchange} {cause : Cause} {detail : Nat}
    {data : List Byte} (hcan : s.canIssue i = true) (hstall : (s.atClock i).stalls (s.issueCycle i) op = false)
    (hg : (s.site i).guard (exchGuard op) = true) (he : exec c s = .next (s.issueAt i (loneExch op) Checks.clean))
    (hcause : cause.isCounted = false)
    (hbody : (s.atClock i).exchBody (s.issueCycle i) op =
      (({ s.atClock i with ex := e } : Site).raise cause detail (s.issueCycle i) data, [])) : StopsWith s i c cause detail := by
  have h := State.ready_of_canIssue hcan
  have hissue := h.issue_exch hstall hg hbody rfl rfl (State.loops_of_canIssue hcan)
  exact State.stopsWith_raised hcan he
    (hissue.trans (congrArg (·, []) (h.raise_fall (s.site i).usedAt (s.site i).usedBanks e cause detail data rfl))) hcause

/-- The site once a lone exchange operation without messages has issued. -/
def State.exchanged (s : State) (i : Nat) (e : Exchange) (l : List Landing) : Site :=
  { s.site i with
    ex := e
    seq := { (s.site i).seq with
      pc := (s.site i).seq.pc + 1, next := s.issueCycle i + 1, clock := s.issueCycle i + 1, landings := l } }

/-- An exchange operation that changes the exchange unit and puts results in flight. -/
theorem State.issueAt_exch {s : State} {i : Nat} {op : ExchOp} {e : Exchange} {l : List Landing} (hcan : s.canIssue i = true)
    (hstall : (s.atClock i).stalls (s.issueCycle i) op = false) (hg : (s.site i).guard (exchGuard op) = true)
    (hbody : (s.atClock i).exchBody (s.issueCycle i) op =
      ({ s.atClock i with ex := e, seq := { (s.atClock i).seq with landings := l } }, [])) :
    Moved s (s.issueAt i (loneExch op) Checks.clean) i ∧ (s.issueAt i (loneExch op) Checks.clean).site i = s.exchanged i e l := by
  have h := State.ready_of_canIssue hcan
  have hissue := h.issue_exch hstall hg hbody rfl rfl (State.loops_of_canIssue hcan)
  obtain ⟨hsite, honly⟩ := s.issueAt_lone i _ _ hissue rfl rfl rfl
  refine ⟨⟨honly, ?_, ?_, ?_⟩, hsite⟩
  · rw [hsite]
    rfl
  · rw [hsite]
  · rw [hsite]
    exact h.running

/-- Without results in flight the registers stay. -/
theorem State.sameRegs_exchanged {s t : State} {i : Nat} {e : Exchange} (hcan : s.canIssue i = true)
    (ht : t.site i = s.exchanged i e (s.site i).seq.landings) (c : Nat) : (t.seen i c).sameRegs (s.site i) := by
  have h := State.ready_of_canIssue hcan
  have hstill : (t.site i).AtRest := by
    rw [ht]
    exact ⟨h.atRest.landings, h.atRest.feeds, h.atRest.loads, h.atRest.reload⟩
  have hsame := State.seen_sameRegs_of_atRest hstill c
  rw [ht] at hsame
  exact hsame

/-! ### Token queues -/

theorem Site.tokens_setTokens (a : Site) (q j : Nat) (l : List Token) :
    (a.setTokens q l).tokens j = if j = q then l else a.tokens j := by
  by_cases h : j = q
  · subst h
    rw [if_pos rfl]
    exact aget_aset_self _ _ _ _
  · rw [if_neg h]
    exact aget_aset_ne _ _ _ _ _ h

/-- TPUSH and TPUSHI with room in the queue, or without (R142). -/
theorem State.pushes {s : State} {i tq : Nat} {v : Word} {k : Instr} {op : ExchOp} (hcan : s.canIssue i = true)
    (hg : (s.site i).guard (exchGuard op) = true) (hstall : ∀ a : Site, a.stalls (s.issueCycle i) op = false)
    (he : exec k s = .next (s.issueAt i (loneExch op) Checks.clean))
    (hbody : (s.atClock i).exchBody (s.issueCycle i) op = ((s.atClock i).tpush (s.issueCycle i) tq v, [])) :
    (((s.site i).tokens tq).length < 16 → ∃ t, exec k s = .next t ∧ Moved s t i ∧
        (t.site i).tokens tq = (s.site i).tokens tq ++ [{ value := v, visible := s.issueCycle i + 1 }] ∧
        (∀ j, j ≠ tq → (t.site i).tokens j = (s.site i).tokens j) ∧ ∀ c, (t.seen i c).sameRegs (s.site i)) ∧
      (16 ≤ ((s.site i).tokens tq).length → StopsWith s i k .bankClash Clash.tqFull.code) := by
  have hpush : (s.atClock i).tpush (s.issueCycle i) tq v =
      if ((s.site i).tokens tq).length ≥ 16 then (s.atClock i).clash .tqFull (s.issueCycle i)
      else (s.atClock i).setTokens tq ((s.site i).tokens tq ++ [{ value := v, visible := s.issueCycle i + 1 }]) := rfl
  rw [hpush] at hbody
  refine ⟨fun hroom => ?_, fun hfull => ?_⟩
  · rw [if_neg (Nat.not_le.mpr hroom)] at hbody
    obtain ⟨hmoved, hsite⟩ := State.issueAt_exch hcan (hstall _) hg hbody
    refine ⟨_, he, hmoved, ?_, fun j hj => ?_, State.sameRegs_exchanged hcan hsite⟩
    · rw [hsite]
      exact (Site.tokens_setTokens (s.site i) _ _ _).trans (if_pos rfl)
    · rw [hsite]
      exact (Site.tokens_setTokens (s.site i) _ _ _).trans (if_neg hj)
  · rw [if_pos hfull] at hbody
    exact State.stopsWith_exch (e := (s.site i).ex) hcan (hstall _) hg he rfl hbody

end Sys2Proof.Machine

open Sys2Proof Sys2Proof.Machine

/-- Settles O27: a queue changes at issue, and TPOP's word lands two cycles later; the engine's queue or the pad takes DMA's record. -/
theorem queuesOfTheSite : Obligations.QueuesOfTheSite := by
  refine ⟨fun s i p q o hcan hp hq ho => ?tokens, fun s i f hcan hg => ?dma⟩
  case tokens =>
    intro b n push
    have h := State.ready_of_canIssue hcan
    have hpop : (s.atClock i).exchBody n (.tpop o) = ((s.atClock i).tpop n o, []) := rfl
    refine ⟨State.pushes (op := .tpush p) hcan hp (fun _ => rfl) rfl rfl, State.pushes (op := .tpushi q) hcan hq (fun _ => rfl) rfl rfl,
      fun e rest hqueue hvisible => ?_, fun hlate => ?_⟩
    · have htake : (s.atClock i).tpop n o = { s.atClock i with
          ex := { ((s.site i).setTokens o.tq.toNat rest).ex with popQ := o.tq.toNat, popAt := some n }
          seq := { (s.atClock i).seq with landings := [{ at_ := n + 2, rank := rankExchange, res := .s o.sd.toNat e.value }] } } := by
        have hsame : (s.atClock i).tokens o.tq.toNat = e :: rest := hqueue
        unfold Site.tpop
        rw [hsame]
        exact (if_pos hvisible).trans (Site.later_empty (a := { s.atClock i with
          ex := { ((s.site i).setTokens o.tq.toNat rest).ex with popQ := o.tq.toNat, popAt := some n } }) h.atRest.landings _ _ _)
      obtain ⟨hmoved, hsite⟩ := State.issueAt_exch (op := .tpop o) hcan rfl ho (hpop.trans (congrArg (·, []) htake))
      have hseen := State.seen_landing (t := s.issueAt i (loneExch (.tpop o)) Checks.clean) (i := i) (c := n + 2)
        (congrArg (·.seq.landings) hsite) (by rw [hsite]; exact h.atRest.feeds) (by rw [hsite]; exact h.atRest.loads)
        (by rw [hsite]; exact h.atRest.reload) (by rw [hsite]; exact Nat.le_succ _) (by decide)
      rw [hsite] at hseen
      obtain ⟨hs, -, -, -⟩ := (s.exchanged i _ _).landed_s (n + 2) o.sd.toNat e.value
      refine ⟨_, rfl, hmoved, ?_, fun j hj => ?_, ?_, fun r hr => ?_⟩
      · rw [hsite]
        exact (Site.tokens_setTokens b _ _ _).trans (if_pos rfl)
      · rw [hsite]
        exact (Site.tokens_setTokens b _ _ _).trans (if_neg hj)
      · rw [hseen]
        exact (hs _).trans (if_pos rfl)
      · rw [hseen]
        exact (hs _).trans (if_neg hr)
    · have hclash : (s.atClock i).tpop n o = (s.atClock i).clash .tqEmpty n := by
        have hsame : (s.atClock i).tokens o.tq.toNat = b.tokens o.tq.toNat := rfl
        unfold Site.tpop
        rw [hsame]
        cases hqueue : b.tokens o.tq.toNat with
        | nil => rfl
        | cons e rest =>
          have hnot : ¬e.visible ≤ n := Nat.not_le.mpr (hlate e (by rw [hqueue]; rfl))
          exact if_neg hnot
      exact State.stopsWith_exch (op := .tpop o) (e := b.ex) hcan rfl ho rfl rfl (hpop.trans (congrArg (·, []) hclash))
  case dma =>
    intro b n
    have hdma : (s.atClock i).exchBody n (.dma f) =
        (if b.dmaHeld ≥ 64 then
          (s.atClock i).ownToken (n + 1) ((b.desc f.desc.toNat).hopper % 4) (b.desc f.desc.toNat).tag
            (tokenUnit (tokCode .noResource) (b.desc f.desc.toNat).tag f.desc.toNat 0 0 0 0 0)
        else { s.atClock i with ex := { b.ex with
          dmaq := b.ex.dmaq ++ [{ desc := f.desc.toNat, sa := b.sreg f.sa.toNat, sb := b.sreg f.sb.toNat, cycle := n }] } }, []) := rfl
    rcases Nat.lt_or_ge b.dmaHeld 64 with hroom | hfull
    · rw [if_neg (Nat.not_le.mpr hroom)] at hdma
      obtain ⟨hmoved, hsite⟩ := State.issueAt_exch (op := .dma f) hcan rfl hg hdma
      refine ⟨_, rfl, hmoved, State.sameRegs_exchanged hcan hsite, ?_, fun _ => ⟨?_, ?_⟩, fun hfull => absurd hfull (Nat.not_le.mpr hroom)⟩
      · rw [hsite]
        rfl
      · rw [hsite]
        rfl
      · rw [hsite]
        rfl
    · rw [if_pos hfull] at hdma
      obtain ⟨hmoved, hsite⟩ := State.issueAt_exch (op := .dma f) hcan rfl hg hdma
      refine ⟨_, rfl, hmoved, State.sameRegs_exchanged hcan hsite, ?_, fun hroom => absurd hfull (Nat.not_le.mpr hroom), fun _ => ⟨?_,
        { toTile := b.gtile, hop := (b.desc f.desc.toNat).hopper % 4, order := 0
          msg := { units := [tokenUnit (tokCode .noResource) (b.desc f.desc.toNat).tag f.desc.toNat 0 0 0 0 0]
                   tag := BitVec.ofNat 8 (b.desc f.desc.toNat).tag, source := .ownDma, visible := n + 1, pinned := n + 1 } },
        ?_, rfl, rfl, rfl, rfl, rfl⟩⟩
      · rw [hsite]
        rfl
      · rw [hsite]
        rfl
      · rw [hsite]
        rfl
end

section
/-! Proofs about the exchange slot: RECV.V and RECV.S (O26). -/

namespace Sys2Proof.Machine

/-! ### Results that land together, scalar ones among them -/

/-- No two of the results go to the register of a scalar one. -/
def ScalarsApart (rs : List Result) : Prop :=
  ∀ r ∈ rs, r.isScalar = true → (rs.filter (fun q => q.dest == r.dest)).length ≤ 1

theorem Landing.settled_apart {a : Site} {c rank : Nat} {rs : List Result} (h : ScalarsApart rs) {r : Result} (hr : r ∈ rs) :
    Landing.settled a (landingsAt c rank rs) { at_ := c, rank := rank, res := r } = r := by
  cases hscalar : r.isScalar with
  | false => exact Landing.settled_of_not_scalar _ _ hscalar
  | true =>
    obtain ⟨q, v, rfl⟩ : ∃ q v, r = .s q v := by
      cases r <;> simp [Result.isScalar] at hscalar
      exact ⟨_, _, rfl⟩
    have hone := h _ hr rfl
    have hcount : ((landingsAt c rank rs).filter (fun f => f.res.dest == (Result.s q v).dest && f.rank == rank)).length =
        (rs.filter (fun f => f.dest == (Result.s q v).dest)).length := by
      simp [landingsAt, List.filter_map, Function.comp_def]
    exact if_neg (by rw [gt_iff_lt, Nat.not_lt]; exact hcount ▸ hone)

/-- Such results take effect in the order in which they were put in flight. -/
theorem Site.land_apart {a : Site} {c rank : Nat} {rs : List Result} (hl : a.seq.landings = landingsAt c rank rs)
    (hrank : rank < 5) (hrs : ScalarsApart rs) : a.land c = (rs.foldl Site.apply a).landed := by
  have hdue : (landingsAt c rank rs).filter (fun e => e.at_ == c) = landingsAt c rank rs := by simp [landingsAt]
  have hrest : (landingsAt c rank rs).filter (fun e => e.at_ != c) = [] := by simp [landingsAt]
  have hordered : (List.range 5).flatMap (fun k => if rank = k then landingsAt c rank rs else []) = landingsAt c rank rs := by
    obtain rfl | rfl | rfl | rfl | rfl : rank = 0 ∨ rank = 1 ∨ rank = 2 ∨ rank = 3 ∨ rank = 4 := by omega
    all_goals simp [show List.range 5 = [0, 1, 2, 3, 4] from rfl]
  have hfold : (landingsAt c rank rs).foldl (fun t e => t.apply (e.settled a (landingsAt c rank rs))) a =
      rs.foldl Site.apply a := by
    conv_lhs => unfold landingsAt
    rw [List.foldl_map]
    exact List.foldl_ext _ _ _ fun t r hr => congrArg t.apply (Landing.settled_apart hrs hr)
  simp only [Site.land, hl, hdue, filter_rank_landingsAt, hordered, hfold, Site.foldl_apply_landings, hrest, Site.landed]

/-- The site as the results of a lone exchange operation land. -/
theorem State.seen_exchanged {s t : State} {i c : Nat} {e : Exchange} {rs : List Result} (hcan : s.canIssue i = true)
    (hc : s.issueCycle i + 1 ≤ c) (hrs : ScalarsApart rs)
    (ht : t.site i = s.exchanged i e (landingsAt c rankExchange rs)) :
    t.seen i c = (rs.foldl Site.apply ((s.exchanged i e (landingsAt c rankExchange rs)).clocked c)).landed := by
  have h := State.ready_of_canIssue hcan
  have hfeeds : (rs.foldl Site.apply ((s.exchanged i e (landingsAt c rankExchange rs)).clocked c)).landed.mat.feeds = [] :=
    (Site.foldl_apply_feeds rs _).trans h.atRest.feeds
  rw [State.seen, ht, (s.exchanged i e _).settle_hold c hc (by simp [State.exchanged, landingsAt]) h.atRest.feeds h.atRest.loads h.atRest.reload,
    Site.arrive, Site.land_apart (a := (s.exchanged i e (landingsAt c rankExchange rs)).clocked c) (rank := rankExchange) rfl (by decide) hrs, Site.landRows_none _ _ hfeeds,
    Site.feedCheck_none _ _ hfeeds]

theorem Site.foldl_later {α : Type} (a : Site) (c rank : Nat) (l : List α) (g : α → Result) :
    l.foldl (fun t x => t.later c rank (g x)) a = a.laters c rank (l.map g) := by
  induction l generalizing a with
  | nil => exact (a.laters_nil c rank).symm
  | cons x l ih =>
    rw [List.foldl_cons, ih]
    simp [Site.later, Site.laters, landingsAt]

/-- Vector results for registers `d`, `d + 1`, … as they land. -/
theorem Site.foldl_apply_v (a : Site) (d k : Nat) (w : Nat → List (Word × Word × Bool)) :
    let b := ((List.range k).map fun r => Result.v (d + r) (w r)).foldl Site.apply a
    (∀ q, b.sreg q = a.sreg q) ∧
      (∀ r l, l < 64 → laneAt (b.vreg (d + r)) l =
        if r < k then (laneAt (a.vreg (d + r)) l).merge ((w r).getD l (0, 0, false)) else laneAt (a.vreg (d + r)) l) ∧
      ∀ q, (∀ r, r < k → q ≠ d + r) → b.vreg q = a.vreg q := by
  induction k with
  | zero => exact ⟨fun _ => rfl, fun _ _ _ => rfl, fun _ _ => rfl⟩
  | succ k ih =>
    obtain ⟨hs, hlane, hv⟩ := ih
    rw [List.range_succ, List.map_append, List.foldl_append]
    refine ⟨fun q => hs q, fun r l hl => ?_, fun q hq => ?_⟩
    · by_cases hrk : r = k
      · subst hrk
        rw [if_pos (Nat.lt_succ_self r)]
        refine (Site.laneAt_setV_self _ (d + r) (w r) hl).trans ?_
        rw [hlane r l hl, if_neg (Nat.lt_irrefl r)]
      · refine (congrArg (laneAt · l) (Site.vreg_setV_ne _ (d + k) (d + r) (w k) (by omega))).trans ((hlane r l hl).trans ?_)
        exact if_congr (by omega) rfl rfl
    · exact (Site.vreg_setV_ne _ (d + k) q (w k) (hq k (Nat.lt_succ_self k))).trans (hv q fun r hr => hq r (by omega))

/-- Scalar results for registers `d`, `d + 1`, … as they land. -/
theorem Site.foldl_apply_s (a : Site) (d k : Nat) (v : Nat → Word) :
    let b := ((List.range k).map fun r => Result.s (d + r) (v r)).foldl Site.apply a
    (∀ q, b.vreg q = a.vreg q) ∧ (∀ r, r < k → b.sreg (d + r) = v r) ∧ ∀ q, (∀ r, r < k → q ≠ d + r) → b.sreg q = a.sreg q := by
  induction k with
  | zero => exact ⟨fun _ => rfl, fun _ h => absurd h (Nat.not_lt_zero _), fun _ _ => rfl⟩
  | succ k ih =>
    obtain ⟨hv, hset, hs⟩ := ih
    rw [List.range_succ, List.map_append, List.foldl_append]
    refine ⟨fun q => hv q, fun r hr => ?_, fun q hq => ?_⟩
    · refine (Site.sreg_setS _ (d + k) (d + r) (v k)).trans ?_
      by_cases hrk : r = k
      · rw [if_pos (by rw [hrk]), hrk]
      · rw [if_neg (by omega)]
        exact hset r (by omega)
    · exact (Site.sreg_setS _ (d + k) q (v k)).trans ((if_neg (hq k (Nat.lt_succ_self k))).trans (hs q fun r hr => hq r (by omega)))

/-! ### The lanes of a received message (R141) -/

theorem getD_joinWrites (x y : List (Word × Word × Bool)) {l : Nat} (hx : x.length = 64) (hy : y.length = 64) (hl : l < 64) :
    (joinWrites x y).getD l (0, 0, false) =
      if (x.getD l (0, 0, false)).2.1 = 0 then y.getD l (0, 0, false) else x.getD l (0, 0, false) := by
  simp [joinWrites, List.getD_eq_getElem?_getD, hx, hy, hl]

/-- What a unit writes into a lane: its word, or free bits where it is poisoned (R195). -/
def MsgUnit.laneWrite (u : MsgUnit) (free : Nat → Word) (l : Nat) : Word × Word × Bool :=
  (if u.poison then free l else BitVec.ofNat 32 (leAt u.bytes (4 * (l % 16)) 4), BitVec.allOnes 32, u.poison)

theorem getD_unitLanes (free : Nat → Word) (u : MsgUnit) (q : Nat) {l : Nat} (hl : l < 64) :
    (unitLanes free u q).getD l (0, 0, false) = if l / 16 = q then u.laneWrite free l else (0, 0, false) := by
  rw [unitLanes, getD_drawnLanes _ _ _ _ _ hl]
  by_cases h : l / 16 = q
  · have hin : (16 * q ≤ l && l < 16 * q + 16) = true := by simp; omega
    rw [if_pos hin, if_pos h, MsgUnit.laneWrite, show 16 * q + (l - 16 * q) = l by omega, show l - 16 * q = l % 16 by omega]
  · have hout : ¬(16 * q ≤ l && l < 16 * q + 16) = true := by simp; omega
    rw [if_neg hout, if_neg h]

/-- What units `4 r` to `4 r + k − 1` of a message write into the lanes of a register. -/
def unitsWrite (free : Nat → Word) (units : List MsgUnit) (r k : Nat) : List (Word × Word × Bool) :=
  (List.range k).foldl (fun w q => match units[4 * r + q]? with
    | some u => joinWrites w (unitLanes free u q)
    | none => w) (List.replicate 64 (0, 0, false))

theorem getD_unitsWrite (free : Nat → Word) (units : List MsgUnit) (r k : Nat) :
    (unitsWrite free units r k).length = 64 ∧ ∀ l, l < 64 → (unitsWrite free units r k).getD l (0, 0, false) =
      match units[4 * r + l / 16]? with
      | some u => if l / 16 < k then u.laneWrite free l else (0, 0, false)
      | none => (0, 0, false) := by
  induction k with
  | zero =>
    refine ⟨rfl, fun l hl => ?_⟩
    have hzero : (unitsWrite free units r 0).getD l (0, 0, false) = (0, 0, false) :=
      List.getD_replicate _ hl
    rw [hzero]
    split <;> rfl
  | succ k ih =>
    obtain ⟨hlen, hget⟩ := ih
    have hstep : unitsWrite free units r (k + 1) = match units[4 * r + k]? with
        | some u => joinWrites (unitsWrite free units r k) (unitLanes free u k)
        | none => unitsWrite free units r k := by
      simp only [unitsWrite, List.range_succ, List.foldl_append, List.foldl_cons, List.foldl_nil]
    have hunit (u : MsgUnit) : (unitLanes free u k).length = 64 := by simp [unitLanes, drawnLanes, lanesWrite]
    cases hu : units[4 * r + k]? with
    | none =>
      rw [hu] at hstep
      refine ⟨hstep ▸ hlen, fun l hl => ?_⟩
      rw [hstep, hget l hl]
      by_cases hk : l / 16 = k
      · rw [hk, hu]
      · simp only [show l / 16 < k + 1 ↔ l / 16 < k by omega]
    | some u =>
      rw [hu] at hstep
      refine ⟨by rw [hstep]; simp [joinWrites, hlen, hunit u], fun l hl => ?_⟩
      rw [hstep]
      refine (getD_joinWrites _ _ hlen (hunit u) hl).trans ?_
      rw [hget l hl, getD_unitLanes _ _ _ hl]
      by_cases hk : l / 16 = k
      · simp [hk, hu]
      · have hmask (v : MsgUnit) : (v.laneWrite free l).2.1 ≠ 0 := by simp [MsgUnit.laneWrite]
        simp only [hk, if_false, show l / 16 < k + 1 ↔ l / 16 < k by omega]
        cases units[4 * r + l / 16]? with
        | none => simp
        | some v => by_cases hlt : l / 16 < k <;> simp only [hlt, hmask, if_true, if_false, ite_self]

/-- The exchange unit once the head message of a hopper is taken. -/
def Site.taken (a : Site) (n hop : Nat) : Exchange := (a.setHopper hop ((a.hopper hop).take n)).ex

theorem Site.hopper_setHopper (a : Site) (q : Nat) (x : Hopper) : (a.setHopper q x).hopper q = x := aget_aset_self _ _ _ _

/-- What RECV.V puts in flight. -/
def received (epoch n : Nat) (f : FmtRV) (m : Message) : List Result :=
  ((List.range ((m.units.length + 3) / 4)).map fun r => .v (f.d.toNat + r)
      (unitsWrite (fun l => Config.poisonedBits epoch n (256 + 64 * r + l)) m.units r 4)) ++
    [.s f.sst.toNat (recvStatus m false)]

/-- What RECV.S puts in flight. -/
def receivedS (f : FmtRV) (m : Message) (u : MsgUnit) : List Result :=
  ((List.range 8).map fun k => .s (f.d.toNat + k) (BitVec.ofNat 32 (leAt u.bytes (4 * k) 4))) ++
    [.s f.sst.toNat (recvStatus m (decide (1 < m.units.length)))]

theorem scalarsApart_of_nodup {rs : List Result} (h : (rs.map Result.dest).Nodup) : ScalarsApart rs := fun r _ _ => by
  have hcount := List.nodup_iff_count_le_one.mp h r.dest
  rwa [List.count, List.countP_map, List.countP_eq_length_filter] at hcount

theorem received_apart (epoch n : Nat) (f : FmtRV) (m : Message) : ScalarsApart (received epoch n f m) := by
  refine scalarsApart_of_nodup ?_
  rw [received, List.map_append, List.map_map, List.nodup_append]
  refine ⟨List.nodup_range.map_on fun r _ q _ h => ?_, List.nodup_singleton _, fun d hd e he hde => ?_⟩
  · simpa [Result.dest] using h
  · simp [Result.dest] at hd he
    obtain ⟨r, -, rfl⟩ := hd
    simp [he] at hde

theorem receivedS_apart {f : FmtRV} (m : Message) (u : MsgUnit) (h : f.sst.toNat < f.d.toNat ∨ f.d.toNat + 8 ≤ f.sst.toNat) :
    ScalarsApart (receivedS f m u) := by
  refine scalarsApart_of_nodup ?_
  rw [receivedS, List.map_append, List.map_map, List.nodup_append]
  refine ⟨List.nodup_range.map_on fun r _ q _ h => ?_, List.nodup_singleton _, fun d hd e he hde => ?_⟩
  · simpa [Result.dest] using h
  · simp only [List.mem_map, List.mem_range, Function.comp, Result.dest] at hd
    obtain ⟨k, hk, rfl⟩ := hd
    simp only [List.map_cons, List.map_nil, List.mem_singleton, Result.dest] at he
    rw [he] at hde
    simp only [Option.some.injEq, Prod.mk.injEq, true_and] at hde
    omega

theorem Site.recvV_some {a : Site} {n : Nat} {f : FmtRV} {m : Message} (h : (a.hopper f.hop.toNat).head n = some m) :
    a.recvV n f =
      (((List.range ((m.units.length + 3) / 4)).filter (fun r => decide (f.d.toNat + r ≤ 31))).foldl
        (fun t r => t.later (n + 2) rankExchange (.v (f.d.toNat + r)
          (unitsWrite (fun l => Config.poisonedBits a.seq.epoch n (256 + 64 * r + l)) m.units r 4)))
        (a.setHopper f.hop.toNat ((a.hopper f.hop.toNat).take n))).later (n + 2) rankExchange
          (.s f.sst.toNat (recvStatus m (decide (m.units.length > 4 * (32 - f.d.toNat))))) := by
  simp only [Site.recvV, h]
  rfl

theorem Site.recvS_some {a : Site} {n : Nat} {f : FmtRV} {m : Message} {u : MsgUnit} (h : (a.hopper f.hop.toNat).head n = some m)
    (hu : m.units.headD { bytes := [], poison := false } = u) :
    a.recvS n f =
      if u.poison then (a.setHopper f.hop.toNat ((a.hopper f.hop.toNat).take n)).raise .poison 0 n
        ([4, 0, 0, 0] ++ leBytes 4 f.hop.toNat ++ List.replicate 8 0)
      else ((List.range 8).foldl (fun t k => t.later (n + 2) rankExchange (.s (f.d.toNat + k) (BitVec.ofNat 32 (leAt u.bytes (4 * k) 4))))
        (a.setHopper f.hop.toNat ((a.hopper f.hop.toNat).take n))).later (n + 2) rankExchange
          (.s f.sst.toNat (recvStatus m (decide (m.units.length > 1)))) := by
  subst hu
  simp only [Site.recvS, h]

section
variable {s : State} {i : Nat} {f : FmtRV} {m : Message} {rest : List Message} (hcan : s.canIssue i = true)
  (hmsgs : ((s.site i).hopper f.hop.toNat).msgs = m :: rest) (hvisible : m.visible ≤ s.issueCycle i)

include hmsgs hvisible in
theorem State.head_hopper : ((s.atClock i).hopper f.hop.toNat).head (s.issueCycle i) = some m := by
  have hhead : ((s.site i).hopper f.hop.toNat).head (s.issueCycle i) = some m := by
    unfold Hopper.head
    rw [hmsgs]
    exact if_pos hvisible
  exact hhead

include hcan hmsgs hvisible

theorem State.recvV_eq (hd : f.d.toNat ≤ 30) (hlen : m.units.length ≤ 8) :
    (s.atClock i).recvV (s.issueCycle i) f = { s.atClock i with
      ex := (s.site i).taken (s.issueCycle i) f.hop.toNat
      seq := { (s.atClock i).seq with
        landings := landingsAt (s.issueCycle i + 2) rankExchange (received (s.site i).seq.epoch (s.issueCycle i) f m) } } := by
  have h := State.ready_of_canIssue hcan
  have hregs : (List.range ((m.units.length + 3) / 4)).filter (fun r => decide (f.d.toNat + r ≤ 31)) =
      List.range ((m.units.length + 3) / 4) :=
    List.filter_eq_self.mpr fun r hr => by
      rw [List.mem_range] at hr
      exact decide_eq_true (by omega)
  have hwhole : decide (m.units.length > 4 * (32 - f.d.toNat)) = false := decide_eq_false (by omega)
  have hnone : (s.atClock i).seq.landings = [] := h.atRest.landings
  rw [Site.recvV_some (State.head_hopper hmsgs hvisible), hregs, hwhole, Site.foldl_later]
  simp only [Site.later, Site.laters, landingsAt, received, List.map_append, List.map_cons, List.map_nil]
  rw [show ((s.atClock i).setHopper f.hop.toNat _).seq = (s.atClock i).seq from rfl, hnone]
  rfl

theorem State.recvS_eq {u : MsgUnit} (hu : m.units.headD { bytes := [], poison := false } = u) (hclean : u.poison = false) :
    (s.atClock i).recvS (s.issueCycle i) f = { s.atClock i with
      ex := (s.site i).taken (s.issueCycle i) f.hop.toNat
      seq := { (s.atClock i).seq with landings := landingsAt (s.issueCycle i + 2) rankExchange (receivedS f m u) } } := by
  have h := State.ready_of_canIssue hcan
  have hnone : (s.atClock i).seq.landings = [] := h.atRest.landings
  rw [Site.recvS_some (State.head_hopper hmsgs hvisible) hu, if_neg (by rw [hclean]; exact Bool.false_ne_true), Site.foldl_later]
  simp only [Site.later, Site.laters, landingsAt, receivedS, List.map_append, List.map_cons, List.map_nil]
  rw [show ((s.atClock i).setHopper f.hop.toNat _).seq = (s.atClock i).seq from rfl, hnone]
  rfl

omit hcan in
/-- With a message at its head RECV does not stall (R121). -/
theorem State.not_stalls_recv {op : ExchOp} (hop : op = .recvV f ∨ op = .recvS f) :
    (s.atClock i).stalls (s.issueCycle i) op = false := by
  have hhead := State.head_hopper hmsgs hvisible
  rcases hop with rfl | rfl <;> simp [Site.stalls, hhead]

end

/-- RECV.V's results as they land, for a message of at most 8 units. -/
theorem Site.land_received (a : Site) (epoch n : Nat) (f : FmtRV) (m : Message) :
    let b := ((received epoch n f m).foldl Site.apply a).landed
    b.sreg f.sst.toNat = recvStatus m false ∧ (∀ q, q ≠ f.sst.toNat → b.sreg q = a.sreg q) ∧
      (∀ r l, r < 2 → l < 64 → laneAt (b.vreg (f.d.toNat + r)) l = match m.units[4 * r + l / 16]? with
        | some u => { bits := if u.poison then Config.poisonedBits epoch n (256 + 64 * r + l)
                              else BitVec.ofNat 32 (leAt u.bytes (4 * (l % 16)) 4), poison := u.poison }
        | none => laneAt (a.vreg (f.d.toNat + r)) l) ∧
      (m.units.length ≤ 8 → ∀ q, q ≠ f.d.toNat → q ≠ f.d.toNat + 1 → b.vreg q = a.vreg q) := by
  obtain ⟨hs, hlane, hv⟩ := a.foldl_apply_v f.d.toNat ((m.units.length + 3) / 4)
    fun r => unitsWrite (fun l => Config.poisonedBits epoch n (256 + 64 * r + l)) m.units r 4
  rw [received, List.foldl_append]
  refine ⟨(Site.sreg_setS _ _ _ _).trans (if_pos rfl), fun q hq => (Site.sreg_setS _ _ _ _).trans ((if_neg hq).trans (hs q)),
    fun r l hr hl => ?_, fun hlen q hq hq' => ?_⟩
  · refine (hlane r l hl).trans ?_
    obtain ⟨-, hget⟩ := getD_unitsWrite (fun l => Config.poisonedBits epoch n (256 + 64 * r + l)) m.units r 4
    rw [hget l hl]
    cases hu : m.units[4 * r + l / 16]? with
    | none =>
      simp only [Lane.merge_none, ite_self]
    | some u =>
      obtain ⟨hlt, -⟩ := List.getElem?_eq_some_iff.mp hu
      rw [if_pos (by omega)]
      simp only [show l / 16 < 4 by omega, if_true, MsgUnit.laneWrite, Lane.merge_all]
  · exact hv q fun r hr => by omega

/-- RECV.S's results as they land. -/
theorem Site.land_receivedS (a : Site) {f : FmtRV} (m : Message) (u : MsgUnit)
    (hsst : f.sst.toNat < f.d.toNat ∨ f.d.toNat + 8 ≤ f.sst.toNat) :
    let b := ((receivedS f m u).foldl Site.apply a).landed
    b.sreg f.sst.toNat = recvStatus m (decide (1 < m.units.length)) ∧
      (∀ k, k < 8 → b.sreg (f.d.toNat + k) = BitVec.ofNat 32 (leAt u.bytes (4 * k) 4)) ∧
      (∀ q, q ≠ f.sst.toNat → ¬(f.d.toNat ≤ q ∧ q < f.d.toNat + 8) → b.sreg q = a.sreg q) ∧ ∀ q, b.vreg q = a.vreg q := by
  obtain ⟨hv, hset, hs⟩ := a.foldl_apply_s f.d.toNat 8 fun k => BitVec.ofNat 32 (leAt u.bytes (4 * k) 4)
  rw [receivedS, List.foldl_append]
  generalize ((List.range 8).map fun k => Result.s (f.d.toNat + k) (BitVec.ofNat 32 (leAt u.bytes (4 * k) 4))).foldl Site.apply a = x
    at hv hset hs ⊢
  refine ⟨(Site.sreg_setS _ _ _ _).trans (if_pos rfl), fun k hk => ?_, fun q hq hout => ?_, hv⟩
  · exact (Site.sreg_setS _ _ _ _).trans ((if_neg (by omega)).trans (hset k hk))
  · exact (Site.sreg_setS _ _ _ _).trans ((if_neg hq).trans (hs q fun r hr => by omega))

/-! ### Stalls (R121) -/

/-- The site after a stalled cycle. -/
def State.stalled (s : State) (i : Nat) : Site :=
  { s.site i with seq := { (s.site i).seq with
      clock := s.issueCycle i + 1, next := s.issueCycle i + 1, stalls := (s.site i).seq.stalls + 1 } }

theorem State.issue_stalled {s : State} {i : Nat} {op : ExchOp} (hcan : s.canIssue i = true)
    (hstall : (s.atClock i).stalls (s.issueCycle i) op = true) :
    (s.site i).issue s.turn.geom.work (loneExch op) Checks.clean = (s.stalled i, []) := by
  have h := State.ready_of_canIssue hcan
  have hdue : ¬((s.site i).seq.status ≠ .running || (s.site i).seq.pc > 1023 || s.turn.geom.work ≤ (s.site i).seq.next) = true := by
    simp [h.running]
    exact ⟨h.inSlot, h.inWindow⟩
  have hrun : ((s.site i).clocked (s.site i).seq.next).seq.status.isStopped = false := by
    simp [Site.clocked, h.running, SeqStatus.isStopped]
  have hrest := h.atRest.clocked (s.site i).seq.next
  unfold Site.issue
  rw [if_neg hdue]
  simp only [Site.settle_atRest h.atRest h.clock, Site.arrive_atRest _ hrest, Site.early_atRest _ _ hrest, hrun, Bool.false_eq_true,
    if_false]
  refine (if_pos hstall).trans ?_
  rw [Site.wide_none ((s.site i).clocked (s.site i).seq.next) _ hrest.feeds hrest.loads hrest.reload]
  rfl

/-- A bundle without upsets or fetch errors. -/
theorem State.issueAt_clean (s : State) (i : Nat) (b : Bundle) :
    s.issueAt i b Checks.clean =
      (((s.setSite i ((s.site i).issue s.turn.geom.work b Checks.clean).1).dispatch i
        ((s.site i).issue s.turn.geom.work b Checks.clean).2).countSite i (s.site i) 0).countChecks i (s.site i) := rfl

theorem State.site_countSite (s : State) (i j : Nat) (old : Site) (n : Nat) : (s.countSite i old n).site j = s.site j := by
  unfold State.countSite State.wearCorrected
  split <;> rfl

theorem State.site_countChecks (s : State) (i j : Nat) (old : Site) : (s.countChecks i old).site j = s.site j := rfl

theorem State.recvStalls_countChecks (s : State) (i : Nat) (old : Site) :
    ((s.countChecks i old).quad (i / 576)).recvStalls = (s.quad (i / 576)).recvStalls := by
  unfold State.countChecks
  rw [show i / Config.sitesPerQuad = i / 576 from rfl, State.quad_modQuad_self]

theorem State.recvStalls_countSite (s : State) (i : Nat) (old : Site) :
    ((s.countSite i old 0).quad (i / 576)).recvStalls =
      bump32 (s.quad (i / 576)).recvStalls ((s.site i).seq.stalls - old.seq.stalls) := by
  unfold State.countSite
  rw [show i / Config.sitesPerQuad = i / 576 from rfl, State.quad_modQuad_self, State.wearCorrected, if_pos rfl]

/-- A RECV without a message stalls: nothing but the site's sequencer and its quadrant's counter changes. -/
theorem State.recv_stalls {s : State} {i : Nat} {c : Instr} {op : ExchOp} (hcan : s.canIssue i = true)
    (he : exec c s = .next (s.issueAt i (loneExch op) Checks.clean))
    (hstall : (s.atClock i).stalls (s.issueCycle i) op = true) :
    ∃ t, exec c s = .next t ∧ (t.site i).seq.pc = (s.site i).seq.pc ∧
        (t.site i).seq.next = s.issueCycle i + 1 ∧ (t.site i).seq.stalls = (s.site i).seq.stalls + 1 ∧ (t.site i).sameRegs (s.site i) ∧
        (t.site i).ex = (s.site i).ex ∧ t = { s with sites := t.sites, quads := t.quads } ∧
        (t.quad (i / 576)).recvStalls = min (2 ^ 32 - 1) ((s.quad (i / 576)).recvStalls + 1) := by
  have hstep : s.issueAt i (loneExch op) Checks.clean =
      ((s.setSite i (s.stalled i)).countSite i (s.site i) 0).countChecks i (s.site i) := by
    rw [State.issueAt_clean, State.issue_stalled hcan hstall]
    rfl
  have hsite : (s.issueAt i (loneExch op) Checks.clean).site i = s.stalled i := by
    rw [hstep, State.site_countChecks, State.site_countSite, State.site_setSite_self]
  refine ⟨_, he, ?_, ?_, ?_, ?_, ?_, ?_, ?_⟩
  · rw [hsite]; rfl
  · rw [hsite]; rfl
  · rw [hsite]; rfl
  · rw [hsite]; exact ⟨fun _ => rfl, fun _ => rfl, fun _ => rfl, fun _ => rfl, fun _ => rfl⟩
  · rw [hsite]; rfl
  · rw [hstep]; rfl
  · rw [hstep]
    rw [State.recvStalls_countChecks, State.recvStalls_countSite, State.site_setSite_self]
    show min ((s.quad (i / 576)).recvStalls + ((s.site i).seq.stalls + 1 - (s.site i).seq.stalls)) (2 ^ 32 - 1) = _
    rw [Nat.add_sub_cancel_left, Nat.min_comm]

end Sys2Proof.Machine

open Sys2Proof Sys2Proof.Machine

/-- Settles O26: the head message's words land together two cycles after issue; without one the bundle waits a cycle. -/
theorem receiveOrStall : Obligations.ReceiveOrStall := by
  intro s i f hcan hg hhop b n h
  refine ⟨fun hnone c hc => ?stall, fun m rest hmsgs hvisible hfew hmany => ?_⟩
  case stall =>
    have hstall (op : ExchOp) (hop : op = .recvV f ∨ op = .recvS f) : (s.atClock i).stalls (s.issueCycle i) op = true := by
      have hguard : (s.atClock i).guard f.g = true := hg
      have hhead : ((s.atClock i).hopper f.hop.toNat).head (s.issueCycle i) = none := hnone
      rcases hop with rfl | rfl <;> simp [Site.stalls, hguard, hhead]
    simp only [List.mem_cons, List.not_mem_nil, or_false] at hc
    rcases hc with rfl | rfl
    · exact State.recv_stalls (op := .recvV f) hcan rfl (hstall _ (Or.inl rfl))
    · exact State.recv_stalls (op := .recvS f) hcan rfl (hstall _ (Or.inr rfl))
  intro status word
  refine ⟨fun hd => ?vector, fun hd hsst hclean => ?scalar, fun hpoison => ?poison⟩
  case vector =>
    have hstall := State.not_stalls_recv hmsgs hvisible (Or.inl rfl)
    obtain ⟨hmoved, hsite⟩ := State.issueAt_exch (op := .recvV f) hcan hstall hg
      (congrArg (·, []) (State.recvV_eq hcan hmsgs hvisible hd hmany))
    have hseen := State.seen_exchanged hcan (Nat.le_succ _) (received_apart b.seq.epoch n f m) hsite
    obtain ⟨hsst, hother, hlane, hv⟩ := Site.land_received ((s.exchanged i (b.taken n f.hop.toNat)
      (landingsAt (n + 2) rankExchange (received b.seq.epoch n f m))).clocked (n + 2)) b.seq.epoch n f m
    refine ⟨_, rfl, hmoved, ?_, ?_⟩
    · rw [hsite]
      exact b.hopper_setHopper _ _
    · rw [hseen]
      refine ⟨hsst, hother, fun r l hr hl => ?_, fun q hq hq' => hv hmany q hq hq'⟩
      refine (hlane r l hr hl).trans ?_
      simp only [word]
      cases m.units[4 * r + l / 16]? <;> rfl
  case scalar =>
    have hstall := State.not_stalls_recv hmsgs hvisible (Or.inr rfl)
    obtain ⟨u, units, hunits⟩ := List.exists_cons_of_length_pos hfew
    have hfirst : m.units.headD { bytes := [], poison := false } = u := by rw [hunits]; rfl
    obtain ⟨hmoved, hsite⟩ := State.issueAt_exch (op := .recvS f) hcan hstall hg
      (congrArg (·, []) (State.recvS_eq hcan hmsgs hvisible hfirst (hclean u (by rw [hunits]; rfl))))
    have hseen := State.seen_exchanged hcan (Nat.le_succ _) (receivedS_apart m u hsst) hsite
    obtain ⟨hstatus, hregs, hother, hv⟩ := Site.land_receivedS ((s.exchanged i (b.taken n f.hop.toNat)
      (landingsAt (n + 2) rankExchange (receivedS f m u))).clocked (n + 2)) m u hsst
    refine ⟨_, rfl, hmoved, ?_, ?_⟩
    · rw [hsite]
      exact b.hopper_setHopper _ _
    · rw [hseen]
      refine ⟨hstatus, fun k hk => ?_, hother, hv⟩
      rw [hregs k hk]
      simp only [word, hunits]
      rfl
  case poison =>
    obtain ⟨u, hu, hbad⟩ := hpoison
    have hstall := State.not_stalls_recv hmsgs hvisible (Or.inr rfl)
    have hfirst : m.units.headD { bytes := [], poison := false } = u := by
      rw [List.headD_eq_head?_getD, hu]
      rfl
    have hbody := (Site.recvS_some (State.head_hopper hmsgs hvisible) hfirst).trans (if_pos hbad)
    exact State.stopsWith_exch (op := .recvS f) (e := b.taken n f.hop.toNat) hcan hstall hg rfl rfl (congrArg (·, []) hbody)
end

section
/-! Proofs about the exchange slot: the sends (O25). -/

namespace Sys2Proof.Machine

/-! ### A message on its way (R52) -/

/-- A site with messages added to what is on its way to it. -/
def Site.padded (a : Site) (l : List Flight) : Site := { a with ex := { a.ex with pad := a.ex.pad ++ l } }

theorem Site.padded_nil (a : Site) : a.padded [] = a := by
  rw [Site.padded, List.append_nil]

theorem Site.padded_padded (a : Site) (l k : List Flight) : (a.padded l).padded k = a.padded (l ++ k) := by
  simp [Site.padded]

/-- The flight of a message from site `src`, whose tile is `gt`, to tile `g` at site `d` (R52). -/
def OutMsg.flight (m : OutMsg) (src gt g d : Nat) : Flight :=
  { toTile := g, hop := m.hop, order := gt * 64 + 2 + m.order
    msg := { units := m.units, tag := m.tag, source := .tile gt, visible := m.stamp + pinnedLatency (src / 576) (d / 576)
             pinned := m.stamp + pinnedLatency (src / 576) (d / 576) } }

section
variable {src c gt : Nat} {m : OutMsg}

/-- A message to a tile that lies at no site goes nowhere. -/
theorem State.dispatchTo_none {s : State} {g : Nat} (hctx : (s.site src).ctx = some c) (hsite : s.siteOfTile (s.ctx c) g = none) :
    s.dispatchTo src m g = s := by
  simp only [State.dispatchTo, hctx, hsite]

/-- A message to a tile outside a reset joins what is on its way to the tile's site. -/
theorem State.dispatchTo_some {s : State} {g d : Nat} (hctx : (s.site src).ctx = some c) (hgt : (s.site src).gtile = gt)
    (hrec : ∀ q, (s.quad q).recState = .normal) (hsite : s.siteOfTile (s.ctx c) g = some d) :
    s.dispatchTo src m g = s.modSite d (fun x => x.padded [m.flight src gt g d]) := by
  have hup : ¬((s.quad (d / Config.sitesPerQuad)).recState = .fast ∨ (s.quad (d / Config.sitesPerQuad)).recState = .full) := by
    rw [hrec]
    decide
  simp only [State.dispatchTo, hctx, hsite, if_neg hup, hgt]
  rfl

/-- A message to a list of tiles. -/
theorem State.dispatch_tiles (dests : List Nat) {s : State} (hctx : (s.site src).ctx = some c) (hgt : (s.site src).gtile = gt)
    (hrec : ∀ q, (s.quad q).recState = .normal) :
    let u := dests.foldl (fun u g => u.dispatchTo src m g) s
    u = { s with sites := u.sites } ∧ ∀ d, u.site d = (s.site d).padded
      ((dests.filter (fun g => decide (s.siteOfTile (s.ctx c) g = some d))).map fun g => m.flight src gt g d) := by
  induction dests generalizing s with
  | nil => exact ⟨rfl, fun d => (s.site d).padded_nil.symm⟩
  | cons g dests ih =>
    rw [List.foldl_cons]
    cases hsite : s.siteOfTile (s.ctx c) g with
    | none =>
      rw [State.dispatchTo_none hctx hsite]
      obtain ⟨hrest, hpads⟩ := ih hctx hgt hrec
      refine ⟨hrest, fun d => (hpads d).trans ?_⟩
      rw [List.filter_cons_of_neg (by simp [hsite])]
    | some e =>
      rw [State.dispatchTo_some hctx hgt hrec hsite]
      have hmod (d : Nat) : (s.modSite e fun x => x.padded [m.flight src gt g e]).site d =
          (s.site d).padded (if d = e then [m.flight src gt g e] else []) := by
        refine (State.site_setSite s e d _).trans ?_
        split
        · next h => rw [h]
        · exact (s.site d).padded_nil.symm
      obtain ⟨hrest, hpads⟩ := ih (s := s.modSite e fun x => x.padded [m.flight src gt g e]) (by rw [hmod]; exact hctx)
        (by rw [hmod]; exact hgt) hrec
      refine ⟨hrest, fun d => (hpads d).trans ?_⟩
      rw [hmod, Site.padded_padded]
      refine congrArg (Site.padded _) ?_
      change _ ++ (List.filter (fun g => decide (s.siteOfTile (s.ctx c) g = some d)) dests).map _ = _
      by_cases hd : d = e
      · subst hd
        rw [if_pos rfl, List.filter_cons_of_pos (by simp [hsite])]
        rfl
      · rw [if_neg hd, List.filter_cons_of_neg (by simp [hsite, Ne.symm hd])]
        rfl

end

/-! ### The bundle of a send -/

/-- The members of a group are found by the sender's context and tile alone. -/
theorem State.members_setSite (s : State) (i : Nat) (x : Site) (d : Dest) (hctx : x.ctx = (s.site i).ctx)
    (htile : x.gtile = (s.site i).gtile) : (s.setSite i x).members i d = s.members i d := by
  cases d with
  | tile g => rfl
  | group n =>
    simp only [State.members, State.site_setSite_self, hctx, htile]
    rfl

theorem State.counted_eq (u : State) (i : Nat) (old : Site) :
    (u.countSite i old 0).countChecks i old = { u with quads := ((u.countSite i old 0).countChecks i old).quads } := rfl

/-- The site of a send, its units in the injection queue. -/
def State.injected (s : State) (i k : Nat) : Site :=
  { (s.site i).inject (s.issueCycle i) k with
    seq := { (s.site i).seq with pc := (s.site i).seq.pc + 1, next := s.issueCycle i + 1, clock := s.issueCycle i + 1 } }

section
variable {s : State} {i c : Nat} {k : Instr} {op : ExchOp} {m : OutMsg} (hcan : s.canIssue i = true) (hctx : (s.site i).ctx = some c)
  (hrec : ∀ q, (s.quad q).recState = .normal) (hg : (s.site i).guard (exchGuard op) = true)
  (hstall : (s.atClock i).stalls (s.issueCycle i) op = false) (he : exec k s = .next (s.issueAt i (loneExch op) Checks.clean))
  (hbody : (s.atClock i).exchBody (s.issueCycle i) op = (s.atClock i).send (s.issueCycle i) m)

include hcan hg hstall he hbody

/-- A send without room stops its site (R138). -/
theorem State.send_full (hfull : 64 < (s.site i).injHeld (s.issueCycle i) + m.units.length) :
    StopsWith s i k .bankClash Clash.injectFull.code :=
  State.stopsWith_exch (e := (s.site i).ex) hcan hstall hg he rfl (hbody.trans (if_pos hfull))

include hctx hrec

/-- A send with room: its units enter the queue, and each destination's site gets the message. -/
theorem State.send_room (hroom : (s.site i).injHeld (s.issueCycle i) + m.units.length ≤ 64) (hstamp : m.stamp = s.issueCycle i)
    {dests : List Nat} (hdests : s.members i m.dest = dests) :
    ∃ t, exec k s = .next t ∧ (t.site i).seq.pc = (s.site i).seq.pc + 1 ∧ (t.site i).seq.next = s.issueCycle i + 1 ∧
      (t.site i).injHeld (s.issueCycle i) = (s.site i).injHeld (s.issueCycle i) + m.units.length ∧
      (∀ d, (t.site d).ex.pad = (s.site d).ex.pad ++
        ((dests.filter (fun g => decide (s.siteOfTile (s.ctx c) g = some d))).map fun g => m.flight i (s.site i).gtile g d)) ∧
      (∀ d, d ≠ i → t.site d = { s.site d with ex := { (s.site d).ex with pad := (t.site d).ex.pad } }) ∧
      t = { s with sites := t.sites, quads := t.quads } := by
  have h := State.ready_of_canIssue hcan
  have hissue := h.issue_exch hstall hg (hbody.trans (if_neg (Nat.not_lt.mpr hroom))) rfl rfl (State.loops_of_canIssue hcan)
  have hissued : (s.site i).issue s.turn.geom.work (loneExch op) Checks.clean = (s.injected i m.units.length, [m]) := hissue
  obtain ⟨hrest, hpads⟩ := State.dispatch_tiles (src := i) (m := m) dests (s := s.setSite i (s.injected i m.units.length))
    (by rw [State.site_setSite_self]; exact hctx) (congrArg (·.gtile) (s.site_setSite_self i _)) hrec
  have hstep : s.issueAt i (loneExch op) Checks.clean =
      ((dests.foldl (fun u g => u.dispatchTo i m g) (s.setSite i (s.injected i m.units.length))).countSite i (s.site i) 0).countChecks i
        (s.site i) := by
    rw [State.issueAt_clean, hissued, State.dispatch, List.foldl_cons, List.foldl_nil,
      State.members_setSite s i (s.injected i m.units.length) _ rfl rfl, hdests]
  change ∀ d, _ = ((s.setSite i (s.injected i m.units.length)).site d).padded
    ((dests.filter (fun g => decide (s.siteOfTile (s.ctx c) g = some d))).map fun g => m.flight i (s.site i).gtile g d) at hpads
  generalize dests.foldl (fun u g => u.dispatchTo i m g) (s.setSite i (s.injected i m.units.length)) = u at hrest hpads hstep
  have hsite (d : Nat) : (s.issueAt i (loneExch op) Checks.clean).site d = u.site d := by
    rw [hstep, State.site_countChecks, State.site_countSite]
  have hself := hpads i
  rw [State.site_setSite_self] at hself
  have hne (d : Nat) (hd : d ≠ i) := (hpads d).trans (congrArg (Site.padded · _) (s.site_setSite_ne i d _ hd))
  refine ⟨_, he, ?_, ?_, ?_, fun d => ?_, fun d hd => ?_, ?_⟩
  · rw [hsite, hself]
    rfl
  · rw [hsite, hself]
    rfl
  · rw [hsite, hself]
    show (s.site i).injHeld (s.issueCycle i) + m.units.length - (s.issueCycle i - s.issueCycle i) = _
    rw [Nat.sub_self, Nat.sub_zero]
  · rw [hsite]
    by_cases hd : d = i
    · subst hd
      rw [hself]
      rfl
    · rw [hne d hd]
      rfl
  · rw [hsite, hne d hd]
    rfl
  · rw [hstep]
    refine (u.counted_eq i (s.site i)).trans ?_
    exact congrArg (fun w : State => { w with sites := u.sites, quads := ((u.countSite i (s.site i) 0).countChecks i (s.site i)).quads }) hrest

end

end Sys2Proof.Machine

open Sys2Proof Sys2Proof.Machine

/-- Settles O25: a send puts its units into the injection queue and one flight into the pad of each destination's site. -/
theorem sendsReachTheirTiles : Obligations.SendsReachTheirTiles := by
  intro s i c v w m hcan hctx hrec b n quarter vec scal flight sends
  have hflight (d g hop : Nat) (tag : Byte) (units : List MsgUnit) (dest : Dest) :
      ({ dest := dest, hop := hop, order := 0, stamp := n, tag := tag, units := units } : OutMsg).flight i b.gtile g d =
        flight g hop tag units d := by
    simp only [flight, OutMsg.flight, pinnedLatency, eq_comm (a := i / 576)]
  have hsends {k : Instr} {op : ExchOp} {dest : Dest} {hop : Nat} {tag : Byte} {units : List MsgUnit} {dests : List Nat}
      (hg : b.guard (exchGuard op) = true) (hstall : (s.atClock i).stalls n op = false)
      (he : exec k s = .next (s.issueAt i (loneExch op) Checks.clean))
      (hbody : (s.atClock i).exchBody n op =
        (s.atClock i).send n { dest := dest, hop := hop, order := 0, stamp := n, tag := tag, units := units })
      (hdests : s.members i dest = dests) : sends k dests hop tag units := by
    refine ⟨fun hroom => ?_, fun hfull => State.send_full hcan hg hstall he hbody hfull⟩
    obtain ⟨t, ht, hpc, hnext, hheld, hpads, hrest⟩ := State.send_room hcan hctx hrec hg hstall he hbody hroom rfl hdests
    refine ⟨t, ht, hpc, hnext, hheld, fun d => (hpads d).trans ?_, hrest⟩
    exact congrArg (_ ++ ·) (List.map_congr_left fun g _ => hflight d g hop tag units dest)
  exact ⟨fun hv => hsends (op := .sendV v) hv rfl rfl rfl rfl, fun hw => hsends (op := .sendS w) hw rfl rfl rfl rfl,
    fun hm => hsends (op := .msendV m) hm rfl rfl rfl rfl⟩
end

section
/-! Proofs about a steering cycle (O28). -/

namespace Sys2Proof.Machine

/-! ### The steps of one entry, from a token queue to a token queue -/

/-- The site with its steering unit at another place, nothing else of it changed. -/
def Site.exchanging (a : Site) (e : Exchange) : Site := { a with ex := e }

theorem Site.queueItem_visible {a : Site} {q c : Nat} {w : Token} {rest : List Token} (h : a.tokens q = w :: rest) (hw : w.visible ≤ c) :
    a.queueItem q c = some (.word w.value) := by
  unfold Site.queueItem
  rw [h]
  exact if_pos hw

theorem Site.skid_setSkid_self (a : Site) (n : Nat) (k : Skid) : (a.setSkid n k).skid n = k := aget_aset_self _ _ _ _

section
variable {a : Site} {c n : Nat} {e : SteerEntry} {q r : BitVec 2} {w : Token} {rest : List Token}

/-- The site once an entry holds the word. -/
def Site.took (a : Site) (n : Nat) (q : BitVec 2) (w : Token) (rest : List Token) : Site :=
  (a.setTokens q.toNat rest).setSkid n { data := [.word w.value], ctrl := [] }

/-- The site once the word is at the output's queue. -/
def Site.gave (a : Site) (c n : Nat) (q r : BitVec 2) (w : Token) (rest : List Token) : Site :=
  ((a.took n q w rest).setSkid n Skid.empty).setTokens r.toNat (a.tokens r.toNat ++ [{ value := w.value, visible := c + 1 }])

/-- Intake: the queue's word goes into the entry's data skid (R209). -/
theorem intakeData_queue (hsrc : e.dsrc = .tq q) (hskid : a.skid n = Skid.empty) (hqueue : a.tokens q.toNat = w :: rest)
    (hvisible : w.visible ≤ c) :
    intakeData c { site := a, out := [], trunc := 0 } n e = { site := a.took n q w rest, out := [], trunc := 0 } := by
  have hitem : a.dataItem e.dsrc c = some (.word w.value, false) := by
    rw [hsrc, Site.dataItem, Site.queueItem_visible hqueue hvisible]
    rfl
  have hdrop : a.dropHead e.dsrc c = a.setTokens q.toNat rest := by
    rw [hsrc, Site.dropHead, hqueue]
    rfl
  simp only [intakeData, hitem, hskid, hdrop]
  rfl

theorem Site.tokens_took (j : Nat) : (a.took n q w rest).tokens j = if j = q.toNat then rest else a.tokens j :=
  a.tokens_setTokens q.toNat j rest

/-- Firing: the entry's word goes to the output's queue (R208, R211). -/
theorem fireEntry_queue (hsrc : e.dsrc = .tq q) (hctrl : e.csrc = none) (hout : e.outA = .tq r) (hne : r ≠ q)
    (haction : steerAction e e.const = .a) (hpay : e.payA = 0) (hroom : (a.tokens r.toNat).length < 15) :
    fireEntry c (a.took n q w rest) [(n, e)] { site := a.took n q w rest, out := [], trunc := 0 } (n, e) =
      { site := a.gave c n q r w rest, out := [], trunc := 0 } := by
  have hfed : (a.took n q w rest).fedInput [(n, e)] r = none := by
    simp [Site.fedInput, hsrc, hctrl, hne.symm]
  have htokens : (a.took n q w rest).tokens r.toNat = a.tokens r.toNat :=
    (Site.tokens_took _).trans (if_neg fun h => hne (BitVec.eq_of_toNat_eq h))
  have hcredit : (a.took n q w rest).credit (a.took n q w rest) [(n, e)] c e.outA = true := by
    rw [hout]
    simp only [Site.credit, hfed, htokens, decide_eq_true_eq]
    split <;> omega
  have hemit : emit c n e { site := (a.took n q w rest).setSkid n Skid.empty, out := [], trunc := 0 } e.outA (.word w.value) =
      { site := a.gave c n q r w rest, out := [], trunc := 0 } := by
    rw [hout]
    simp only [emit, Item.poisoned, Bool.false_and, Bool.false_eq_true, if_false]
    have hgave : ((a.took n q w rest).setSkid n Skid.empty).setTokens r.toNat
        ((a.took n q w rest).tokens r.toNat ++ [{ value := w.value, visible := c + 1 }]) = a.gave c n q r w rest := by
      rw [htokens]
      rfl
    exact congrArg (fun x => ({ site := x, out := [], trunc := 0 } : SteerOutcome)) hgave
  have hskid : (a.took n q w rest).skid n = { data := [.word w.value], ctrl := [] } := Site.skid_setSkid_self _ _ _
  simp only [fireEntry, hskid, hctrl, itemWord, haction, hpay, hcredit]
  exact hemit

/-- After the firing nothing more is taken in and no skid overflows. -/
theorem Site.skid_gave : (a.gave c n q r w rest).skid n = Skid.empty := (a.took n q w rest).skid_setSkid_self n Skid.empty

theorem Site.tokens_gave (hne : r ≠ q) (j : Nat) : (a.gave c n q r w rest).tokens j =
    if j = q.toNat then rest else if j = r.toNat then a.tokens r.toNat ++ [{ value := w.value, visible := c + 1 }] else a.tokens j := by
  have hne' : r.toNat ≠ q.toNat := fun h => hne (BitVec.eq_of_toNat_eq h)
  refine (Site.tokens_setTokens _ _ _ _).trans ?_
  by_cases hr : j = r.toNat
  · rw [if_pos hr, if_neg (by rw [hr]; exact hne'), if_pos hr]
  · rw [if_neg hr, if_neg hr]
    exact Site.tokens_took (n := n) (w := w) j

theorem settle_gave (hctrl : e.csrc = none) :
    settleCtrl c false (settleData c false { site := a.gave c n q r w rest, out := [], trunc := 0 } n e) n e =
      { site := a.gave c n q r w rest, out := [], trunc := 0 } := by
  have hempty : (a.gave c n q r w rest).skid n = Skid.empty := Site.skid_gave
  simp [settleData, settleCtrl, hctrl, hempty, Skid.empty]

/-- A steering cycle of a table with this one entry (R209). -/
theorem Site.steerCycle_queue (hoff : a.ex.steerOff = false) (hentries : a.steerEntries c = [(n, e)]) (hsrc : e.dsrc = .tq q)
    (hctrl : e.csrc = none) (hout : e.outA = .tq r) (hne : r ≠ q) (haction : steerAction e e.const = .a) (hpay : e.payA = 0)
    (hskid : a.skid n = Skid.empty) (hqueue : a.tokens q.toNat = w :: rest) (hvisible : w.visible ≤ c)
    (hroom : (a.tokens r.toNat).length < 15) :
    a.steerCycle c = { site := a.gave c n q r w rest, out := [], trunc := 0 } := by
  have hintake := intakeData_queue (n := n) (e := e) hsrc hskid hqueue hvisible
  have hfire := fireEntry_queue (c := c) (n := n) (w := w) (rest := rest) hsrc hctrl hout hne haction hpay hroom
  have hctrl' (o : SteerOutcome) : intakeCtrl c o n e = o := by simp only [intakeCtrl, hctrl]
  simp only [Site.steerCycle, hoff, hentries, List.foldl_cons, List.foldl_nil, hintake, hctrl', hfire, hskid]
  exact settle_gave hctrl

end

/-! ### The step -/

/-- The site with cycle `c` of its steering unit done. -/
def Site.steeredPast (a : Site) (c : Nat) : Site := { a with ex := { a.ex with steer := c + 1 } }

theorem Site.tokens_steeredPast (a : Site) (c q : Nat) : (a.steeredPast c).tokens q = a.tokens q := rfl

theorem Site.skid_steeredPast (a : Site) (c n : Nat) : (a.steeredPast c).skid n = a.skid n := rfl

theorem Site.steeredPast_gave (a : Site) (c n : Nat) (q r : BitVec 2) (w : Token) (rest : List Token) :
    (a.gave c n q r w rest).steeredPast c = { a with ex := ((a.gave c n q r w rest).steeredPast c).ex } := by
  unfold Site.steeredPast Site.gave Site.took Site.setTokens Site.setSkid
  rfl

/-- What a steering cycle without messages leaves of the module. -/
def State.steered (s : State) (i : Nat) (x : Site) : State :=
  ((s.setSite i x).countSite i (s.site i) 0).modQuad (i / Config.sitesPerQuad) fun y =>
    { y with steerTrunc := bump32 y.steerTrunc 0 }

theorem State.exec_steeringCycle_queue {s : State} {i c : Nat} {x : Site}
    (hdue : ¬((s.site i).seq.status = .off || c < (s.site i).ex.steer || s.turn.geom.work ≤ c || s.turn.window ≠ .work ||
      !(s.site i).issuedPast c) = true) (hcycle : (s.site i).steerCycle c = { site := x, out := [], trunc := 0 }) :
    exec (.steeringCycle i c none) s = .next (s.steered i (x.steeredPast c)) := by
  rw [exec_steeringCycle]
  refine (if_neg hdue).trans ?_
  rw [hcycle]
  rfl

theorem State.onlySite_steered {s : State} {i : Nat} {x : Site} (hstalls : x.seq = (s.site i).seq) :
    OnlySite s (s.steered i x) i ∧ (s.steered i x).site i = x := by
  have hsite (j : Nat) : (s.steered i x).site j = if j = i then x else s.site j := by
    rw [State.steered, State.site_modQuad, State.site_countSite, State.site_setSite]
  refine ⟨⟨rfl, fun j hj => (hsite j).trans (if_neg hj), fun k hfit => ?_⟩, (hsite i).trans (if_pos rfl)⟩
  have hcount : ((s.setSite i x).countSite i (s.site i) 0).quad k = s.quad k :=
    State.quad_countSite_of_no_stall _ i k (s.site i) hfit (by rw [State.site_setSite_self, hstalls])
      (by rw [State.site_setSite_self, hstalls])
  obtain ⟨-, -, -, -, -, -, htrunc⟩ := (s.quad k).countersFit_iff.mp hfit
  refine (State.quad_modQuad_of_fixed _ _ _ _ fun _ => ?_).trans hcount
  rw [hcount, bump32_zero _ htrunc]

end Sys2Proof.Machine

open Sys2Proof Sys2Proof.Machine

/-- Settles O28: the entry takes the word in, fires in the same cycle and leaves its skid empty. -/
theorem steeringMovesWord : Obligations.SteeringMovesWord := by
  intro s i c n e q r w rest b hwindow hoff hpast hsteer hwork hrunning hentries hsrc hctrl hout hne haction hpay hskid hqueue hvisible hroom
  have hcycle := Site.steerCycle_queue hrunning hentries hsrc hctrl hout hne haction hpay hskid hqueue hvisible hroom
  have hdue : ¬(b.seq.status = .off || c < b.ex.steer || s.turn.geom.work ≤ c || s.turn.window ≠ .work || !b.issuedPast c) = true := by
    simp [hoff, hpast, hwindow, hsteer, hwork]
  obtain ⟨honly, hsite⟩ := State.onlySite_steered (s := s) (i := i) (x := (b.gave c n q r w rest).steeredPast c)
    (congrArg (·.seq) (b.steeredPast_gave ..))
  refine ⟨_, State.exec_steeringCycle_queue hdue hcycle, honly, ?_⟩
  have htokens := Site.tokens_gave (a := b) (c := c) (n := n) (w := w) (rest := rest) hne
  have hne' : r.toNat ≠ q.toNat := fun h => hne (BitVec.eq_of_toNat_eq h)
  simp only [hsite, Site.tokens_steeredPast, Site.skid_steeredPast]
  exact ⟨(htokens _).trans (if_pos rfl), (htokens _).trans ((if_neg hne').trans (if_pos rfl)),
    fun k hk hk' => (htokens k).trans ((if_neg hk).trans (if_neg hk')), Site.skid_gave (a := b), rfl, b.steeredPast_gave ..⟩
end

section
/-! Proofs about SPDM (O54). -/

namespace Sys2Proof.Machine

/-- The module once a request over a transport has its answer (R483, R484): over MCTP it is out, over DOE it waits. -/
def State.answered (s : State) (t : Transport) (a : SpdmAnswer) (used : Nat) : State :=
  match t with
  | .mctp => { s with out := s.out ++ [.spdm .mctp a], sec := { s.sec with nonces := s.sec.nonces + used } }
  | .doe => { s with sec := { s.sec with doe := some a, nonces := s.sec.nonces + used } }

/-- A transport that serves answers as asked. -/
theorem State.spdm_serving {s : State} {t : Transport} (h : s.serving t = true) (a : SpdmAnswer) : s.spdm t a = s.answered t a 0 := by
  cases t with
  | mctp =>
    obtain ⟨hready, hside⟩ := (Bool.and_eq_true _ _).mp h
    have hside' : s.sideband = true := hside
    simp only [State.spdm, if_pos hready, if_pos hside']
    rfl
  | doe =>
    obtain ⟨hready, hdoe⟩ := (Bool.and_eq_true _ _).mp h
    obtain ⟨hreach, hfree⟩ := (Bool.and_eq_true _ _).mp hdoe
    have hbusy : s.sec.doe.isSome = false := by rw [← Option.not_isNone, hfree]; rfl
    simp only [State.spdm, if_pos hready, hreach, hbusy, Bool.not_true, Bool.false_eq_true, if_false]
    rfl

/-- An answer that took a nonce. -/
theorem State.spdm_drawn {s : State} {t : Transport} (h : s.serving t = true) (a : SpdmAnswer) : s.draw.1.spdm t a = s.answered t a 1 := by
  have hdrawn : s.draw.1.serving t = true := h
  rw [State.spdm_serving hdrawn]
  cases t <;> rfl

section
variable {s : State} {t : Transport} (h : s.serving t = true)

include h

theorem State.exec_challenge_refused (nonce : List Byte) (hno : s.sec.trngFail = true ∨ s.sec.rmaUnlocked = true) :
    exec (.challenge t 0 nonce) s = .next (s.answered t (.error .unspecified) 0) := by
  have hrefuse : (s.sec.trngFail || s.sec.rmaUnlocked) = true := by simpa using hno
  rw [exec_challenge, execChallenge, if_neg (by decide), if_pos hrefuse, State.spdm_serving h]

theorem State.exec_challenge_signed (nonce : List Byte) (htrng : s.sec.trngFail = false) (hrma : s.sec.rmaUnlocked = false) :
    exec (.challenge t 0 nonce) s = .next (s.answered t (.challengeAuth (sha3_512 s.sec.slot0) ((Config.drbg s.sec.nonces).take 32)
      (Config.measurementSummary s.sec.measured)
      (Config.aliasSign s.sec.chain (nonce ++ (Config.drbg s.sec.nonces).take 32 ++ sha3_512 s.sec.slot0 ++
        Config.measurementSummary s.sec.measured) s.sec.nonces)) 1) := by
  have hsign : ¬(s.sec.trngFail || s.sec.rmaUnlocked) = true := by simp [htrng, hrma]
  rw [exec_challenge, execChallenge, if_neg (by decide), if_neg hsign, if_neg (by simp [h]), State.spdm_drawn h]
  rfl

theorem State.exec_getMeasurements_one {i : Nat} (nonce : List Byte) (hlow : 1 ≤ i) (hhigh : i ≤ 6) (htrng : s.sec.trngFail = false)
    (hrma : s.sec.rmaUnlocked = false) :
    exec (.getMeasurements t i false nonce) s = .next (s.answered t (.measurements [(i, s.sec.measured.getD (i - 1) [])] none) 0) ∧
      exec (.getMeasurements t i true nonce) s = .next (s.answered t (.measurements [(i, s.sec.measured.getD (i - 1) [])]
        (some ((Config.drbg s.sec.nonces).take 32,
          Config.aliasSign s.sec.chain (nonce ++ (Config.drbg s.sec.nonces).take 32 ++ s.sec.measured.getD (i - 1) []) s.sec.nonces))) 1) := by
  have hnamed : s.sec.named i = some [(i, s.sec.measured.getD (i - 1) [])] := by
    rw [Security.named, if_neg (by omega), if_neg (by omega), if_pos hhigh]
  have hsign : ¬(s.sec.trngFail || s.sec.rmaUnlocked) = true := by simp [htrng, hrma]
  constructor
  · simp only [exec_getMeasurements, execGetMeasurements, hnamed, Bool.not_false, if_true, State.spdm_serving h]
  · simp only [exec_getMeasurements, execGetMeasurements, hnamed, Bool.not_true, Bool.false_eq_true, if_false, hsign, h, State.spdm_drawn h,
      List.flatMap_cons, List.flatMap_nil, List.append_nil]
    rfl

end

end Sys2Proof.Machine

open Sys2Proof Sys2Proof.Machine

/-- Settles O54: every answer goes through the one rule of a transport that serves; a signed one takes a nonce before. -/
theorem spdmAnswers : Obligations.SpdmAnswers := by
  intro s tr nonce said n d sum
  refine ⟨fun h => ?serving, fun hready hside => ?notReady, fun hreach hbusy => ?busy, rfl⟩
  case serving =>
    refine ⟨congrArg _ (State.spdm_serving h _), congrArg _ (State.spdm_serving h _), fun a b => congrArg _ (State.spdm_serving h _),
      congrArg _ (State.spdm_serving h _), fun off len hrma => ?_, fun htrng hrma => ⟨State.exec_challenge_signed h nonce htrng hrma,
        fun i hlow hhigh => State.exec_getMeasurements_one h nonce hlow hhigh htrng hrma⟩, State.exec_challenge_refused h nonce⟩
    have hcert : exec (.getCertificate tr 0 off len) s = .next (s.spdm tr (.certificate (bytesFrom s.sec.slot0 off len)
        (s.sec.slot0.length - off - (bytesFrom s.sec.slot0 off len).length))) := by
      rw [exec_getCertificate, execGetCertificate, if_neg (by decide), if_neg (by rw [hrma]; exact Bool.false_ne_true)]
    rw [State.spdm_serving h] at hcert
    exact hcert
  case notReady =>
    have hanswer : s.spdm .mctp (.version 1 4) = s.emit (.spdm .mctp (.error .notReady)) := by
      simp only [State.spdm, hready, hside, if_true, Bool.false_eq_true, if_false]
    exact congrArg _ hanswer
  case busy =>
    have hanswer : s.spdm .doe (.version 1 4) = s.emit (.spdm .doe (.error .busy)) := by
      simp only [State.spdm, hreach, hbusy, if_true, Bool.not_true, Bool.false_eq_true, if_false]
    exact congrArg _ hanswer
end

section
/-! The refutation about the boot control record (O53). -/

namespace Sys2Proof.Machine

/-- A module at the end of a firmware update into slot 0, its boot control records at the last two sequence numbers of 32 bits. -/
def lastSequences : State :=
  { State.reset with sec := { State.reset.sec with
      updating := some (0, [], false)
      recordA := { seq := 2 ^ 32 - 2, preferred := 0, trial := false, attempts := 0 }
      recordB := { seq := 2 ^ 32 - 1, preferred := 1, trial := false, attempts := 0 } } }

/-- The new record's sequence number wraps to 0, so the old record still counts as the newer one. -/
theorem boot_lastSequences : ∃ t, exec (.fwUpdateDone true) lastSequences = .next t ∧ t.sec.boot.preferred = 1 :=
  ⟨_, rfl, rfl⟩

end Sys2Proof.Machine

open Sys2Proof Sys2Proof.Machine

/-- Refutes O53: the sequence number of a boot control record has 32 bits. After the record of sequence number 2^32 − 1 the next one
gets 0, and the record before it is still taken as the newer one: the slot just written is not preferred. -/
theorem not_firmwareKeysAndReturn : ¬ Obligations.FirmwareKeysAndReturn := by
  intro h
  obtain ⟨-, -, hdone, -⟩ := h.1 lastSequences [] [] 0
  obtain ⟨⟨t, ht, -, -, hpreferred, -⟩, -⟩ := hdone 0 false rfl (by decide) (Or.inl rfl)
  obtain ⟨u, hu, hold⟩ := boot_lastSequences
  rw [hu] at ht
  cases ht
  rw [hold] at hpreferred
  exact absurd hpreferred (by decide)
end

section
/-! Power and pins (O51): what a port keeps while the packets that it held go elsewhere, and the boot ROM's choice. -/

namespace Sys2Proof.Machine

/-! ### The socket and the state of a port -/

/-- What a packet's way through the device leaves of a port: its state and whether a cable is in it. -/
def State.socket (s : State) (n : Nat) : PortState × Bool := ((s.port n).state, (s.port n).cable)

theorem Port.pump_socket (n k : Nat) (x : Port) :
    (x.pump n k).1.state = x.state ∧ (x.pump n k).1.cable = x.cable := by
  induction k generalizing x with
  | zero => exact ⟨rfl, rfl⟩
  | succ k ih =>
    unfold Port.pump
    dsimp only
    split
    · exact ⟨rfl, rfl⟩
    · split
      · exact ⟨rfl, rfl⟩
      · exact ih _

theorem State.port_modPort (s : State) (n m : Nat) (g : Port → Port) :
    (s.modPort n g).port m = if m = n then g (s.port n) else s.port m := by
  split
  · next h => subst h; exact s.port_modPort_self m g
  · next h => exact aget_aset_ne _ _ _ _ _ h

theorem State.socket_of_avdin {s t : State} (h : t.avdin.ports = s.avdin.ports) (n : Nat) : t.socket n = s.socket n := by
  simp only [State.socket, State.port, h]

theorem State.socket_of_set {s t : State} {n : Nat}
    (h : ∃ y, t.avdin.ports = aset s.avdin.ports n y ∧ y.state = (s.port n).state ∧ y.cable = (s.port n).cable) (m : Nat) :
    t.socket m = s.socket m := by
  obtain ⟨y, h, hs, hc⟩ := h
  simp only [State.socket, State.port, h] at hs hc ⊢
  by_cases hm : m = n
  · subst hm
    rw [aget_aset_self, hs, hc]
  · rw [aget_aset_ne _ _ _ _ _ hm]

@[simp] theorem State.socket_pumpPort (s : State) (n m : Nat) : (s.pumpPort n).socket m = s.socket m := by
  have h := (s.port n).pump_socket n ((s.port n).kept.length + 1)
  unfold State.pumpPort
  dsimp only
  refine State.socket_of_set (s := s) (n := n) ⟨_, rfl, ?_, ?_⟩ m
  · split
    · exact h.1
    · exact h.1
  · split
    · exact h.2
    · exact h.2

@[simp] theorem State.socket_queueOn (s : State) (n : Nat) (p : Packet) (m : Nat) :
    (s.queueOn n p).socket m = s.socket m := by
  unfold State.queueOn
  rw [State.socket_pumpPort]
  refine State.socket_of_set (n := n) ⟨_, rfl, by rfl, by rfl⟩ m

@[simp] theorem State.avdin_modEntry (s : State) (q k : Nat) (f : SluiceEntry → SluiceEntry) : (s.modEntry q k f).avdin = s.avdin := rfl

@[simp] theorem State.avdin_countClosed (s : State) (q n : Nat) : (s.countClosed q n).avdin = s.avdin := rfl

@[simp] theorem State.avdin_engineRetire (s : State) (q e : Nat) : (s.engineRetire q e).avdin = s.avdin := rfl

@[simp] theorem State.avdin_countVerdict (s : State) (q : Nat) (v : Verdict) : (s.countVerdict q v).avdin = s.avdin := by
  cases v <;> rfl

@[simp] theorem State.avdin_takeWord (s : State) (q id : Nat) (p : Packet) (acc : List Nat) (i : Nat) :
    (s.takeWord q id p acc i).1.avdin = s.avdin := by
  unfold State.takeWord
  dsimp only
  split
  · split <;> simp
  all_goals simp

@[simp] theorem State.avdin_takeWords (s : State) (q id : Nat) (p : Packet) : (s.takeWords q id p).1.avdin = s.avdin :=
  foldl_fixes (fun acc : State × List Nat => acc.1.avdin) _ (fun acc i => State.avdin_takeWord acc.1 q id p acc.2 i) _ _

@[simp] theorem State.ports_judgePacket (s : State) (c q d : Nat) (p : Packet) :
    (s.judgePacket c q d p).1.avdin.ports = s.avdin.ports := by
  unfold State.judgePacket
  dsimp only
  split <;> simp

@[simp] theorem State.ports_takeWrite (s : State) (p : Packet) : (s.takeWrite p).1.avdin.ports = s.avdin.ports := by
  simp only [State.takeWrite]
  (repeat' split) <;> simp

@[simp] theorem State.ports_takeAnswer (s : State) (p : Packet) : (s.takeAnswer p).avdin.ports = s.avdin.ports := by
  simp only [State.takeAnswer]
  (repeat' split) <;> simp

@[simp] theorem State.socket_sendAnswer (s : State) (p : Packet) (m : Nat) : (s.sendAnswer p).socket m = s.socket m := by
  unfold State.sendAnswer
  split
  · exact State.socket_of_avdin (State.ports_takeAnswer _ _) m
  · exact State.socket_queueOn _ _ _ m
  · rfl

@[simp] theorem State.socket_forward (s : State) (p : Packet) (inDim : Option Nat) (m : Nat) :
    (s.forward p inDim).socket m = s.socket m := by
  unfold State.forward
  split
  · split
    · dsimp only
      split
      · rw [State.socket_sendAnswer]
        exact State.socket_of_avdin (State.ports_takeWrite _ _) m
      · exact State.socket_of_avdin (State.ports_takeWrite _ _) m
    · exact State.socket_of_avdin (State.ports_takeAnswer _ _) m
  · exact State.socket_queueOn _ _ _ m
  · dsimp only
    split
    · split
      · exact State.socket_of_avdin (State.ports_takeAnswer _ _) m
      · rw [State.socket_sendAnswer]
        rfl
    · rfl

/-- The packets that a port held are dropped, or go another way; none of them changes a port's state or socket. -/
theorem State.socket_portDown (s : State) (n : Nat) (st : PortState) (brake : Bool) :
    (s.portDown n st brake).socket n = (st, (s.port n).cable) := by
  unfold State.portDown
  dsimp only
  refine (foldl_fixes (fun u : State => u.socket n) _ ?_ _ _).trans ?_
  · intro u p
    split
    · exact State.socket_forward _ _ _ n
    · exact State.socket_forward _ _ _ n
    · rfl
  · simp only [State.socket, State.port_modPort_self]

theorem State.socket_train (s : State) (n : Nat) : (s.train n).socket n = (.training, (s.port n).cable) := by
  have h := s.socket_portDown n .training false
  unfold State.train
  dsimp only
  split
  · exact (State.socket_of_set (n := n) ⟨_, rfl, by rfl, by rfl⟩ n).trans h
  · exact (State.socket_of_set (n := n) ⟨_, rfl, by rfl, by rfl⟩ n).trans h

end Sys2Proof.Machine
end
section
/-! ### The boot ROM's choice and the resets -/

namespace Sys2Proof.Machine

/-- What an RMA unlock destroys, the choice of a firmware slot does not read (R476, R488). -/
theorem Security.choose_destroy (x : Security) : x.destroy.choose = x.choose := rfl

/-- The security engine as the boot ROM finds it: nothing measured, no alias key, and an unlock carried out. -/
def Security.booting (x : Security) : Security :=
  let y := { x with aliasReady := false, trngFail := false, nonce := none, doe := none, updating := none
                    returning := false, measured := [], version := 0, mboxAddr := 0, mboxBytes := 0, mboxValid := false
                    mboxSeq := 0, mboxStatus := 0, mboxOpc := 0 }
  if x.returning || x.rmaUnlocked then y.destroy else y

theorem Security.choose_booting (x : Security) : x.booting.choose = x.choose := by
  unfold Security.booting
  dsimp only
  split <;> rfl

theorem Security.aliasReady_booting (x : Security) : x.booting.aliasReady = false := by
  unfold Security.booting
  dsimp only
  split <;> rfl

theorem Security.active_run (x : Security) (k : Nat) : (x.run k).active = k := rfl

theorem Security.aliasReady_setBoot (x : Security) (p : Nat) (trial : Bool) (n : Nat) :
    (x.setBoot p trial n).aliasReady = x.aliasReady := by
  unfold Security.setBoot
  split <;> rfl

theorem Security.aliasReady_run (x : Security) (k : Nat) : (x.run k).aliasReady = x.aliasReady := by
  unfold Security.run
  dsimp only
  split
  · exact x.aliasReady_setBoot _ _ _
  · split
    · exact x.aliasReady_setBoot _ _ _
    · rfl

/-- The module at the boot ROM: with a valid slot it runs that, else it waits for ROM recovery (R476, R481). -/
def State.booted (s : State) (ph : Phase) (x : Security) : State :=
  let lost := s.sec.returning || s.sec.rmaUnlocked
  let t := if lost then { s with ddr := { s.ddr with mem := [] }, sites := [] } else s
  { t with sec := x, mod := { t.mod with phase := ph } }

theorem State.bootStep_some {s : State} {k : Nat} (h : s.sec.choose = some k) :
    s.bootStep = s.booted .bootRom (s.sec.booting.run k) := by
  rw [← Security.choose_booting] at h
  unfold State.bootStep
  dsimp only
  split
  case h_1 j hj =>
    obtain rfl := Option.some.inj (hj.symm.trans h)
    rfl
  case h_2 hj => exact absurd (hj.symm.trans h) (by simp)

theorem State.bootStep_none {s : State} (h : s.sec.choose = none) :
    s.bootStep = s.booted .recovery s.sec.booting := by
  rw [← Security.choose_booting] at h
  unfold State.bootStep
  dsimp only
  split
  case h_1 j hj => exact absurd (hj.symm.trans h) (by simp)
  case h_2 hj => rfl

end Sys2Proof.Machine
end
section
/-! ### The pins and sockets -/

namespace Sys2Proof.Machine

theorem State.mod_setDev (s : State) (d : DevCode) (l : List Nat) : (s.setDev d l).mod.dev = d := by
  unfold State.setDev
  split
  · next h => exact h.1
  · rfl

theorem State.sites_booted_of_none {s : State} {ph : Phase} {x : Security} (h : s.sites = []) : (s.booted ph x).sites = [] := by
  unfold State.booted
  dsimp only
  split
  · rfl
  · exact h

theorem State.mod_booted (s : State) (ph : Phase) (x : Security) : (s.booted ph x).mod = { s.mod with phase := ph } := by
  unfold State.booted
  dsimp only
  split <;> rfl

theorem State.sec_booted (s : State) (ph : Phase) (x : Security) : (s.booted ph x).sec = x := rfl

/-- The boot ROM takes the state on with the module's power and device state as they were. -/
theorem State.bootStep_keeps (s : State) :
    (s.sites = [] → s.bootStep.sites = []) ∧ s.bootStep.mod = { s.mod with phase := s.bootStep.mod.phase } := by
  cases h : s.sec.choose with
  | none =>
    rw [State.bootStep_none h]
    exact ⟨State.sites_booted_of_none, by rw [State.mod_booted]⟩
  | some k =>
    rw [State.bootStep_some h]
    exact ⟨State.sites_booted_of_none, by rw [State.mod_booted]⟩

/-- A chip reset leaves the device RESETTING and no site (R313). -/
theorem State.chipReset_resetting {s : State} (h : s.mod.phase.running = true) (config : Bool) :
    (s.chipReset config).mod.dev = .resetting ∧ (s.chipReset config).sites = [] := by
  unfold State.chipReset
  rw [if_neg (by rw [h]; simp)]
  dsimp only
  refine ⟨?_, (State.bootStep_keeps _).1 ?_⟩
  · rw [(State.bootStep_keeps _).2]
    exact State.mod_setDev _ _ _
  · unfold State.setDev
    split <;> rfl

theorem State.pins_chipReset (s : State) (config : Bool) :
    (s.chipReset config).mod.perstN = s.mod.perstN ∧ (s.chipReset config).mod.linkUp = s.mod.linkUp := by
  unfold State.chipReset
  split
  · exact ⟨rfl, rfl⟩
  · dsimp only
    rw [(State.bootStep_keeps _).2]
    unfold State.setDev State.cpbHold
    dsimp only
    split
    · split <;> exact ⟨rfl, rfl⟩
    · split <;> exact ⟨rfl, rfl⟩

theorem State.bootStep_boots (s : State) :
    s.bootStep.sec.aliasReady = false ∧ (s.sec.choose = none → s.bootStep.mod.phase = .recovery) ∧
      (∀ k, s.sec.choose = some k → s.bootStep.mod.phase = .bootRom ∧ s.bootStep.sec.active = k) := by
  cases hk : s.sec.choose with
  | none =>
    rw [State.bootStep_none hk, State.mod_booted, State.sec_booted]
    exact ⟨s.sec.aliasReady_booting, fun _ => rfl, fun k hc => nomatch hc⟩
  | some j =>
    rw [State.bootStep_some hk, State.mod_booted, State.sec_booted]
    refine ⟨(Security.aliasReady_run _ _).trans s.sec.aliasReady_booting, (fun hc => nomatch hc), fun k hc => ?_⟩
    exact ⟨rfl, Option.some.inj hc⟩

/-- The module with its rails risen, before measured boot. -/
def State.risen (s : State) : State := { s with mod := { s.mod with pgood := true, linkUp := s.mod.perstN } }

theorem powerUp_boots {s : State} (h : s.mod.phase = .powering) :
    ∃ t, exec .powerUpComplete s = .next t ∧ t.mod.pgood = true ∧ t.mod.linkUp = s.mod.perstN ∧ t.sec.aliasReady = false ∧
      (s.sec.choose = none → t.mod.phase = .recovery) ∧
      (∀ k, s.sec.choose = some k → t.mod.phase = .bootRom ∧ t.sec.active = k) := by
  have hx : exec .powerUpComplete s = .next s.risen.bootStep := congrArg Host.Outcome.next (if_pos h)
  have hm := s.risen.bootStep_keeps.2
  exact ⟨_, hx, congrArg Mod.pgood hm, congrArg Mod.linkUp hm, s.risen.bootStep_boots⟩

/-- The module with PERST_N low, before its reset. -/
def State.pinLow (s : State) : State := { s with mod := { s.mod with perstN := false, linkUp := false } }

theorem perstFall_resets (s : State) :
    ∃ t, exec .perstNFall s = .next t ∧ t.mod.perstN = false ∧ t.mod.linkUp = false ∧
      (s.mod.perstN = true → s.mod.pgood = true → s.mod.phase.running = true → t.mod.dev = .resetting ∧ t.sites = []) := by
  have hx : exec .perstNFall s = .next (if s.mod.perstN && s.mod.pgood then s.pinLow.chipReset true else s.pinLow) := rfl
  refine ⟨_, hx, ?_⟩
  split
  · obtain ⟨hp, hl⟩ := s.pinLow.pins_chipReset true
    exact ⟨hp, hl, fun _ _ hr => State.chipReset_resetting (s := s.pinLow) hr true⟩
  · next h => exact ⟨rfl, rfl, fun hp hg => absurd (by rw [hp, hg]; rfl) h⟩

theorem cable_in_and_out {s : State} {n : Nat} (hn : n ∈ s.mod.order.ports) :
    (∀ mw, (s.port n).cable = false → mw ≤ 3000 → ∃ t, exec (.osfpCableInsert n mw) s = .next t ∧ (t.port n).cable = true ∧
      (s.answers = true → (t.port n).state = .training)) ∧
    (∀ mw, 3000 < mw → exec (.osfpCableInsert n mw) s = .next s) ∧
    (∃ t, exec (.osfpCableRemove n) s = .next t ∧ (t.port n).cable = false ∧ (t.port n).state = .disabled) := by
  have hn' : s.mod.order.ports.contains n = true := by simpa using hn
  refine ⟨fun mw hc hw => ?_, fun mw hw => ?_, ?_⟩
  · rw [exec_osfpCableInsert]
    unfold execOsfpCableInsert
    refine ⟨_, rfl, ?_⟩
    rw [if_neg (by rw [hn', hc]; simp), if_neg (Nat.not_lt.mpr hw)]
    dsimp only
    cases ha : s.answers with
    | false =>
      rw [if_neg Bool.false_ne_true, State.port_modPort_self]
      exact ⟨rfl, fun h => nomatch h⟩
    | true =>
      rw [if_pos rfl]
      have h := (s.modPort n (fun x => { x with cable := true, failures := 0 })).socket_train n
      rw [State.port_modPort_self] at h
      exact ⟨congrArg Prod.snd h, fun _ => congrArg Prod.fst h⟩
  · rw [exec_osfpCableInsert]
    unfold execOsfpCableInsert
    congr 1
    rw [if_pos hw]
    split
    · rfl
    · rfl
  · rw [exec_osfpCableRemove]
    unfold execOsfpCableRemove
    refine ⟨_, rfl, ?_⟩
    rw [if_pos hn', State.port_modPort_self]
    exact ⟨rfl, congrArg Prod.fst (s.socket_portDown n .disabled false)⟩

theorem memoryModule_inserted {s : State} {n q : Nat} (m : MemModule) (hq : q ∈ s.mod.order.quads)
    (hn : n ∈ s.mod.order.channels q) (hm : (s.chan n).module = none) :
    ∃ t, exec (.memoryModuleInsert n m) s = .next t ∧ t.chan n = { s.chan n with module := some m } ∧ t.sites = s.sites := by
  have hc : (s.mod.order.quads.flatMap s.mod.order.channels).contains n = true := by
    simpa using ⟨q, hq, hn⟩
  rw [exec_memoryModuleInsert]
  unfold execMemoryModuleInsert
  refine ⟨_, rfl, ?_⟩
  rw [if_pos (by rw [hc, hm]; rfl)]
  exact ⟨State.chan_modChan_self s n _, rfl⟩

end Sys2Proof.Machine

open Sys2Proof Sys2Proof.Machine

/-- Settles O51: pin by pin; what a port held when its cable changes goes another way and touches no port's socket. -/
theorem powerAndPins : Obligations.PowerAndPins := by
  unfold Obligations.PowerAndPins
  intro s n
  refine ⟨fun h => ⟨fun hn => ?_, fun hn => ?_, ?_⟩, fun h => ⟨powerUp_boots h, ?_⟩, fun h => ?_, ?_, perstFall_resets s,
    fun h hn => ?_, fun v => rfl, fun q m hq hn hm => memoryModule_inserted m hq hn hm, cable_in_and_out⟩
  · rw [exec_pwrEnRise]
    unfold execPwrEnRise
    rw [if_neg (by rw [h]; simp), if_neg (Nat.not_lt.mpr hn)]
  · rw [exec_pwrEnRise]
    unfold execPwrEnRise
    rw [if_neg (by rw [h]; simp), if_pos hn]
  · rw [exec_pwrEnFall]
    unfold execPwrEnFall
    rw [if_neg (by rw [h]; simp)]
  · rw [exec_powerSeqTimeout]
    unfold execPowerSeqTimeout
    rw [if_pos h]
  · rw [exec_pwrEnFall]
    unfold execPwrEnFall
    rw [if_pos h]
    exact ⟨_, rfl, rfl, rfl, rfl, rfl, fun q => rfl, rfl, rfl, rfl, rfl, rfl⟩
  · exact ⟨_, rfl, rfl, rfl, rfl⟩
  · rw [exec_thermtrip]
    unfold execThermtrip
    rw [if_pos (by rw [h, decide_eq_true hn]; rfl)]
    exact ⟨_, rfl, rfl, rfl, rfl, rfl, rfl⟩

end

section
/-! Turn boundaries (O33): the clock's part of the state, which the work of a boundary leaves alone. -/

namespace Sys2Proof.Machine

/-! ### What the work of a boundary leaves alone -/

/-- The change sets under a host's keys (R38): those of the governor and of the dresser have higher ones. -/
def State.lowSets (s : State) : List (Nat × ChangeSet) := s.sets.filter (fun e => decide (e.1 < 65536))

/-- The command queue, the turn (without the count of discarded sets), and what a boundary takes from its command. -/
def State.clock (s : State) : List Instr × Turn × Nat × (Nat × Nat) × (List Nat × List Nat) × Nat :=
  (s.pending, { s.turn with discarded := 0 }, s.readUnits, (s.reef.energy, s.reef.eMeas), (s.reef.temps, s.reef.tempsNow), s.mod.vinMv)

/-- The clock with the host's change sets. -/
def State.dial (s : State) : (List Instr × Turn × Nat × (Nat × Nat) × (List Nat × List Nat) × Nat) × List (Nat × ChangeSet) :=
  (s.clock, s.lowSets)

theorem State.dial_foldl {α : Type} {f : State → α → State} (h : ∀ t x, (f t x).dial = t.dial) (l : List α) (s : State) :
    (l.foldl f s).dial = s.dial := foldl_fixes State.dial f h l s

@[simp] theorem State.dial_setSite (s : State) (i : Nat) (x : Site) : (s.setSite i x).dial = s.dial := rfl

@[simp] theorem State.dial_modSite (s : State) (i : Nat) (g : Site → Site) : (s.modSite i g).dial = s.dial := rfl

@[simp] theorem State.dial_modCtx (s : State) (c : Nat) (g : Ctx → Ctx) : (s.modCtx c g).dial = s.dial := rfl

@[simp] theorem State.dial_modQuad (s : State) (q : Nat) (g : Quad → Quad) : (s.modQuad q g).dial = s.dial := rfl

@[simp] theorem State.dial_modFn (s : State) (f : Nat) (g : Fn → Fn) : (s.modFn f g).dial = s.dial := rfl

@[simp] theorem State.dial_modRing (s : State) (f r : Nat) (g : Ring → Ring) : (s.modRing f r g).dial = s.dial := rfl

@[simp] theorem State.dial_emit (s : State) (o : Out) : (s.emit o).dial = s.dial := rfl

@[simp] theorem State.dial_closeDdr (s : State) : s.closeDdr.dial = s.dial := rfl

@[simp] theorem State.dial_emptyCtx (s : State) (c : Nat) : (s.emptyCtx c).dial = s.dial :=
  State.dial_foldl (fun _ _ => by rfl) _ _

@[simp] theorem State.dial_setGear (s : State) (c g : Nat) : (s.setGear c g).dial = s.dial := by
  unfold State.setGear
  split
  · rfl
  · exact (State.dial_modCtx _ c _).trans (State.dial_foldl (fun _ _ => by rfl) _ _)

theorem State.dial_of_delete {s t : State} {k : Nat} (hc : t.clock = s.clock) (hs : t.sets = adel s.sets k) (hk : 65536 ≤ k) :
    t.dial = s.dial := by
  refine Prod.ext hc ?_
  show t.lowSets = s.lowSets
  unfold State.lowSets
  rw [hs, adel, List.filter_filter]
  refine List.filter_congr fun e _ => ?_
  have : e.1 < 65536 → e.1 ≠ k := by omega
  by_cases he : e.1 < 65536 <;> simp [he, this]

@[simp] theorem State.dial_enterGear (s : State) (c : Nat) : (s.enterGear c).dial = s.dial := by
  unfold State.enterGear
  dsimp only
  generalize hu : (if (s.ctx c).target_ s.reef.level = (s.ctx c).gearing then s
    else s.setGear c ((s.ctx c).target_ s.reef.level)) = u
  have h : u.dial = s.dial := by
    rw [← hu]
    split
    · rfl
    · exact s.dial_setGear c _
  split
  · split
    · exact (State.dial_of_delete (by rfl) (by rfl) (Nat.le_add_right _ _)).trans h
    · exact h
  · exact h

@[simp] theorem State.dial_transition (s : State) (c : Nat) : (s.transition c).dial = s.dial := by
  unfold State.transition
  dsimp only
  split
  · rfl
  · split
    · split
      · exact s.dial_setGear c _
      · rfl
    · split
      · exact State.dial_enterGear _ c
      · rfl
    · split <;> rfl
    · rfl

@[simp] theorem State.dial_setRole (s : State) (i : Nat) (r : Role) : (s.setRole i r).dial = s.dial := by
  unfold State.setRole
  split <;> rfl

@[simp] theorem State.dial_rebalance (s : State) (q : Nat) : (s.rebalance q).dial = s.dial := by
  unfold State.rebalance
  dsimp only
  exact (State.dial_foldl (fun _ _ => State.dial_setRole _ _ _) _ _).trans (State.dial_foldl (fun _ _ => State.dial_setRole _ _ _) _ _)

@[simp] theorem State.dial_replaceSite (s : State) (i n : Nat) : (s.replaceSite i n).dial = s.dial := by
  unfold State.replaceSite
  dsimp only
  split
  · rfl
  · split <;> rfl

@[simp] theorem State.dial_fenceSite (s : State) (i : Nat) : (s.fenceSite i).dial = s.dial := by
  unfold State.fenceSite
  dsimp only
  split
  · rfl
  · split
    · split
      · rfl
      · exact State.dial_replaceSite _ i _
    · exact State.dial_rebalance _ _

@[simp] theorem State.dial_fenceAll (s : State) : s.fenceAll.dial = s.dial := by
  unfold State.fenceAll
  dsimp only
  refine Eq.trans (State.dial_foldl (fun v r => ?_) _ _) (State.dial_foldl (fun _ _ => State.dial_fenceSite _ _) _ _)
  split
  · exact State.dial_setRole _ _ _
  · rfl

@[simp] theorem State.dial_moveTile (s : State) (q t new : Nat) (replaced : Bool) (bad : List Nat) :
    (s.moveTile q t new replaced bad).dial = s.dial := rfl

@[simp] theorem State.dial_replaceLoading (s : State) (q i : Nat) : (s.replaceLoading q i).dial = s.dial := by
  unfold State.replaceLoading
  split
  · dsimp only
    rw [State.dial_rebalance, State.dial_modQuad, State.dial_setRole, State.dial_moveTile]
  · rfl

@[simp] theorem State.dial_replaceAll (s : State) : s.replaceAll.dial = s.dial := by
  unfold State.replaceAll
  refine State.dial_foldl (fun u q => ?_) _ _
  dsimp only
  split
  · exact State.dial_foldl (fun _ _ => State.dial_replaceLoading _ _ _) _ _
  · rfl

@[simp] theorem State.dial_cpbSettle (s : State) : s.cpbSettle.dial = s.dial := by
  unfold State.cpbSettle
  split
  · rfl
  · dsimp only
    split <;> rfl

@[simp] theorem State.dial_setWait (s : State) (c : Nat) : (s.setWait c).dial = s.dial := by
  unfold State.setWait
  dsimp only
  (repeat' split) <;> rfl

@[simp] theorem State.dial_setHolds (s : State) : s.setHolds.dial = s.dial := by
  unfold State.setHolds
  refine State.dial_foldl (fun u c => ?_) _ _
  dsimp only
  split <;> rfl

@[simp] theorem State.dial_countDeadlines (s : State) : s.countDeadlines.dial = s.dial := rfl

@[simp] theorem State.dial_callPass (s : State) : s.callPass.dial = s.dial := by
  unfold State.callPass
  split <;> rfl

@[simp] theorem State.dial_drivenModes (s : State) : s.drivenModes.dial = s.dial := rfl

@[simp] theorem State.dial_sendMark (s : State) (except : Option Nat) (m : Mark) : (s.sendMark except m).dial = s.dial :=
  State.dial_foldl (fun _ _ => by rfl) _ _

/-! ### The boundary -/

/-- The turn after its boundary (R21). -/
def Turn.begun (t : Turn) (no : Nat) : Turn :=
  { t with no := no, window := .intake, cycle := 0, stepTurn := t.stepPending, stepPending := false, clock := t.clock + t.geom.cycles
           sinceMark := t.sinceMark + 1, sinceKey := t.sinceKey + 1, bestAge := t.bestAge + 1 }

/-- A set that waits for its commit grows older with each turn (R38). -/
def ChangeSet.older (z : ChangeSet) : ChangeSet := if z.state = .staged then { z with age := z.age + 1 } else z

theorem ChangeSet.state_older (z : ChangeSet) : z.older.state = z.state := by
  unfold ChangeSet.older
  split <;> rfl

theorem State.lowSets_of_older {s t : State} (h : t.sets = s.sets.map (fun e => (e.1, e.2.older))) :
    t.lowSets = s.lowSets.map (fun e => (e.1, e.2.older)) := by
  unfold State.lowSets
  rw [h, List.filter_map]
  rfl

/-- The parts that two states with one dial share. -/
theorem State.parts_of_dial {s t : State} (h : t.dial = s.dial) :
    t.pending = s.pending ∧ { t.turn with discarded := 0 } = { s.turn with discarded := 0 } ∧ t.readUnits = s.readUnits ∧
      t.reef.energy = s.reef.energy ∧ t.reef.eMeas = s.reef.eMeas ∧ t.reef.temps = s.reef.temps ∧
      t.reef.tempsNow = s.reef.tempsNow ∧ t.mod.vinMv = s.mod.vinMv ∧ t.lowSets = s.lowSets := by
  obtain ⟨hc, hl⟩ := Prod.mk.inj h
  unfold State.clock at hc
  simp only [Prod.mk.injEq] at hc
  obtain ⟨hp, ht, hr, ⟨he, hm⟩, ⟨hn, hn'⟩, hv⟩ := hc
  exact ⟨hp, ht, hr, he, hm, hn, hn', hv, hl⟩

/-- What a boundary makes of the dial of the state before it. -/
theorem State.dial_boundary (s : State) (no : Nat) :
    (s.boundary no).dial =
      ((s.pending, { s.turn.begun no with discarded := 0 }, 0, (s.reef.energy, s.reef.eMeas), (s.reef.tempsNow, []), s.mod.vinMv),
        s.lowSets.map (fun e => (e.1, e.2.older))) := by
  have key : ∀ u v : State, u.dial = s.dial → v.pending = u.pending → v.turn = u.turn.begun no → v.readUnits = 0 →
      v.reef.energy = u.reef.energy → v.reef.eMeas = u.reef.eMeas → v.reef.temps = u.reef.tempsNow → v.reef.tempsNow = [] →
      v.mod = u.mod → v.sets = u.sets.map (fun e => (e.1, e.2.older)) →
      v.dial = ((s.pending, { s.turn.begun no with discarded := 0 }, 0, (s.reef.energy, s.reef.eMeas), (s.reef.tempsNow, []), s.mod.vinMv),
        s.lowSets.map (fun e => (e.1, e.2.older))) := by
    intro u v hu hp ht hr he hm hn hn' hv hs
    obtain ⟨hcp, hct, -, hce, hcm, -, hcn, hcv, hl⟩ := State.parts_of_dial hu
    have htu : { v.turn with discarded := 0 } = { s.turn.begun no with discarded := 0 } := by
      rw [ht]
      exact congrArg (fun x : Turn => { x.begun no with discarded := 0 }) hct
    unfold State.dial State.clock
    rw [htu, State.lowSets_of_older hs, hl, hp, hr, he, hm, hn, hn', hv, hcp, hce, hcm, hcn, hcv]
  have h1 : ∀ l : List Nat, ∀ p : State → Nat → Bool, (l.foldl (fun u c => if p u c then u.emptyCtx c else u) s.closeDdr).dial = s.dial :=
    fun l p => (State.dial_foldl (fun u c => by split <;> simp) l _).trans s.dial_closeDdr
  have h2 : ∀ x : State, (if x.turn.isMaster then x.sendMark none x.ownMark else x).dial = x.dial := by
    intro x
    split
    · exact x.dial_sendMark _ _
    · rfl
  have h3 : ∀ x : State, ∀ l : List Nat, (l.foldl (fun u c => (u.setWait c).modCtx c Ctx.newTurn) x).dial = x.dial := fun x l =>
    State.dial_foldl (fun u c => (State.dial_modCtx _ c _).trans (u.dial_setWait c)) l x
  have h4 : ∀ x : State, ∀ l : List Nat, (l.foldl (fun u c => u.transition c) x).dial = x.dial := fun x l =>
    State.dial_foldl (fun u c => u.dial_transition c) l x
  unfold State.boundary
  dsimp only
  rw [h2, State.dial_drivenModes, State.dial_callPass, State.dial_countDeadlines, State.dial_setHolds, h3, State.dial_cpbSettle,
    State.dial_replaceAll, State.dial_fenceAll, h4]
  generalize hu : List.foldl _ s.closeDdr allCtxs = u
  have hd : u.dial = s.dial := hu ▸ h1 allCtxs _
  clear hu
  refine key u _ hd ?_ ?_ ?_ ?_ ?_ ?_ ?_ ?_ ?_
  all_goals rfl

/-! ### The end of the close -/

@[simp] theorem State.dial_ddrLogAdd (s : State) (kind ch : Nat) (devices : List Nat) (src : DdrSource) (unit : Nat) :
    (s.ddrLogAdd kind ch devices src unit).dial = s.dial := rfl

@[simp] theorem State.dial_modMem (s : State) (q : Nat) (g : Memory → Memory) : (s.modMem q g).dial = s.dial := rfl

@[simp] theorem State.dial_touchRetired (s : State) (q l : Nat) (src : DdrSource) : (s.touchRetired q l src).dial = s.dial := by
  unfold State.touchRetired
  split
  · split <;> rfl
  · rfl

@[simp] theorem State.dial_ddrWriteUnit (s : State) (q l : Nat) (bs : List Byte) (poison : Bool) (src : DdrSource) :
    (s.ddrWriteUnit q l bs poison src).dial = s.dial := by
  unfold State.ddrWriteUnit
  dsimp only
  split
  · exact s.dial_touchRetired q l src
  · split
    · split <;> rfl
    · rfl

@[simp] theorem State.dial_ddrPut (s : State) (q l : Nat) (bs : List Byte) (poison : Bool) (src : DdrSource) :
    (s.ddrPut q l bs poison src).dial = s.dial := by
  have h : ∀ (fuel : Nat) (u : State) (l : Nat) (bs : List Byte), (u.ddrWrite q poison src fuel l bs).dial = u.dial := by
    intro fuel
    induction fuel with
    | zero => exact fun _ _ _ => rfl
    | succ k ih =>
      intro u l bs
      cases bs with
      | nil => rfl
      | cons b bs => exact (ih _ _ _).trans (u.dial_ddrWriteUnit q l _ poison src)
  exact h _ s l bs

@[simp] theorem State.dial_writeThrough (s : State) : s.writeThrough.dial = s.dial := by
  unfold State.writeThrough
  split
  · rfl
  · refine State.dial_foldl (fun u id => ?_) _ _
    exact (State.dial_ddrPut _ _ _ _ _ _).trans rfl

@[simp] theorem State.dial_showIndex (s : State) (f : Nat) : (s.showIndex f).dial = s.dial := by
  unfold State.showIndex
  dsimp only
  split <;> rfl

@[simp] theorem State.dial_message (s : State) (f v : Nat) : (s.message f v).dial = s.dial := by
  unfold State.message
  split <;> rfl

@[simp] theorem State.dial_firePending (s : State) (f : Nat) : (s.firePending f).dial = s.dial := by
  unfold State.firePending
  dsimp only
  split
  · rfl
  · split
    · exact s.dial_message f _
    · rfl

@[simp] theorem State.dial_showFn (s : State) (f : Nat) : (s.showFn f).dial = s.dial := by
  unfold State.showFn
  dsimp only
  split
  · exact s.dial_showIndex f
  · split
    · rw [State.dial_modFn, State.dial_message, State.dial_showIndex]
    · rw [State.dial_firePending, State.dial_showIndex]

@[simp] theorem State.dial_flushRing (s : State) (f r : Nat) : (s.flushRing f r).dial = s.dial := by
  unfold State.flushRing
  dsimp only
  split <;> rfl

@[simp] theorem State.dial_flushAll (s : State) : s.flushAll.dial = s.dial :=
  State.dial_foldl (fun u f => (State.dial_showFn _ f).trans (State.dial_foldl (fun w r => w.dial_flushRing f r) _ u)) _ _

@[simp] theorem State.dial_settleTargets (s : State) : s.settleTargets.dial = s.dial := rfl

@[simp] theorem State.dial_setTargets (s : State) : s.setTargets.dial = s.dial := by
  refine State.dial_foldl (fun u c => ?_) _ _
  split <;> rfl

/-- The governor counts the turn's energy (R252), whatever it decides. -/
theorem State.dial_govern (s : State) (e : Nat) :
    (s.govern e).dial = ({ s with reef := { s.reef with energy := s.reef.energy + e, eMeas := e } } : State).dial := by
  unfold State.govern
  dsimp only
  split
  · rfl
  · rw [State.dial_settleTargets, State.dial_setTargets]
    rfl

theorem State.dial_endClose (s : State) (e v : Nat) :
    (s.endClose e v).dial =
      ((s.pending, { s.turn with discarded := 0 }, s.readUnits, (s.reef.energy + e, e), (s.reef.temps, s.reef.tempsNow), v), s.lowSets) := by
  have key : ∀ t : State, t.dial = s.dial → ({ t.govern e with mod := { (t.govern e).mod with vinMv := v } } : State).dial =
      ((s.pending, { s.turn with discarded := 0 }, s.readUnits, (s.reef.energy + e, e), (s.reef.temps, s.reef.tempsNow), v), s.lowSets) := by
    intro t ht
    obtain ⟨hp, hc, hr, he, -, hn, hn', -, hl⟩ := State.parts_of_dial ht
    obtain ⟨gp, gc, gr, ge, gm, gn, gn', -, gl⟩ := State.parts_of_dial (t.dial_govern e)
    unfold State.dial State.clock
    refine Prod.ext (Prod.ext (gp.trans hp) (Prod.ext (gc.trans hc) (Prod.ext (gr.trans hr) (Prod.ext ?_ (Prod.ext ?_ rfl))))) (gl.trans hl)
    · exact Prod.ext (ge.trans (congrArg (· + e) he)) gm
    · exact Prod.ext (gn.trans hn) (gn'.trans hn')
  unfold State.endClose
  refine key _ ?_
  split
  · rfl
  · rw [State.dial_flushAll, State.dial_writeThrough]

end Sys2Proof.Machine
end

section
/-! ### A step of TURN_NO -/

namespace Sys2Proof.Machine

@[simp] theorem State.clock_foldl {α : Type} {f : State → α → State} (h : ∀ t x, (f t x).clock = t.clock) (l : List α) (s : State) :
    (l.foldl f s).clock = s.clock := foldl_fixes State.clock f h l s

@[simp] theorem State.dial_complete (s : State) (c : CmdRef) (st : Status) (res : List Byte) : (s.complete c st res).dial = s.dial := by
  unfold State.complete State.post
  split <;> rfl

@[simp] theorem State.dial_finish (s : State) (p : Cmd → Bool) (st : Status) (res : Cmd → List Byte) :
    (s.finish p st res).dial = s.dial := by
  unfold State.finish
  exact (State.dial_foldl (fun u c => u.dial_complete c.ref st (res c)) (s.cmds.filter p) s)

@[simp] theorem State.sets_finish (s : State) (p : Cmd → Bool) (st : Status) (res : Cmd → List Byte) :
    (s.finish p st res).sets = s.sets := by
  unfold State.finish
  refine foldl_fixes State.sets (fun u c => u.complete c.ref st (res c)) (fun u c => ?_) (s.cmds.filter p) s
  unfold State.complete State.post
  split <;> rfl

theorem adel_of_alook_none {α : Type} {l : List (Nat × α)} {i : Nat} (h : alook l i = none) : adel l i = l := by
  induction l with
  | nil => rfl
  | cons e t ih =>
    obtain ⟨k, v⟩ := e
    unfold alook at h
    split at h
    · cases h
    · next hk =>
      have ht := ih h
      unfold adel at ht ⊢
      rw [List.filter_cons_of_pos (by simpa using hk), ht]

theorem mem_of_alook {α : Type} {l : List (Nat × α)} {i : Nat} {x : α} (h : alook l i = some x) : (i, x) ∈ l := by
  induction l with
  | nil => cases h
  | cons e t ih =>
    obtain ⟨k, v⟩ := e
    unfold alook at h
    split at h
    · next hk =>
      cases h
      subst hk
      exact List.mem_cons_self
    · exact List.mem_cons_of_mem _ (ih h)

theorem filter_aset_of_not {α : Type} (p : Nat → Bool) (l : List (Nat × α)) {i : Nat} (x : α) (hi : p i = false) :
    (aset l i x).filter (fun e => p e.1) = l.filter (fun e => p e.1) := by
  induction l with
  | nil => simp [aset, hi]
  | cons e t ih =>
    obtain ⟨k, v⟩ := e
    unfold aset
    split
    · simp [hi]
    · split
      · next h => subst h; simp [hi]
      · simp only [List.filter_cons, ih]

/-- A discarded set is gone, and of the clock only its count of them changes (R40). -/
theorem State.sets_discardSet (s : State) (key : Nat) (st : Status) : (s.discardSet key st).sets = adel s.sets key := by
  unfold State.discardSet
  split
  · next h => exact (adel_of_alook_none h).symm
  · dsimp only
    have h : ∀ u : State, u.sets = (s.finish (isSetCmd key) st (fun _ => [])).sets → adel u.sets key = adel s.sets key :=
      fun u hu => by rw [hu, State.sets_finish]
    split
    · exact h _ rfl
    · split
      · exact h _ rfl
      · exact h _ rfl

theorem State.clock_discardSet (s : State) (key : Nat) (st : Status) : (s.discardSet key st).clock = s.clock := by
  have h := congrArg Prod.fst (s.dial_finish (isSetCmd key) st (fun _ => []))
  unfold State.discardSet
  split
  · rfl
  · dsimp only
    split
    · exact h
    · split
      · exact h
      · exact h

theorem State.sets_discardAll (l : List (Nat × ChangeSet)) (st : Status) (s : State) :
    (l.foldl (fun u e => u.discardSet e.1 st) s).sets = s.sets.filter (fun e => !(l.map Prod.fst).contains e.1) := by
  induction l generalizing s with
  | nil => simp
  | cons e l ih =>
    rw [List.foldl_cons, ih, State.sets_discardSet, adel, List.filter_filter]
    refine List.filter_congr fun x _ => ?_
    simp [bne, Bool.and_comm]

theorem State.clock_restage (s : State) (old : List (Nat × ChangeSet)) : (s.restage old).clock = s.clock :=
  State.clock_foldl (fun _ _ => by rfl) _ _

theorem State.lowSets_restage (s : State) (old : List (Nat × ChangeSet)) : (s.restage old).lowSets = s.lowSets := by
  have h : ∀ l : List (Nat × ChangeSet), (∀ e ∈ l, 65536 ≤ e.1) → ∀ u : State, (l.foldl (fun u e =>
      { u with sets := aset u.sets e.1 { e.2 with state := .opened, held := false, lost := false, age := 0 } }) u).lowSets = u.lowSets := by
    intro l
    induction l with
    | nil => exact fun _ _ => rfl
    | cons e l ih =>
      intro hl u
      rw [List.foldl_cons, ih fun x hx => hl x (List.mem_cons_of_mem _ hx)]
      exact filter_aset_of_not (fun k => decide (k < 65536)) _ _ (decide_eq_false (Nat.not_lt.mpr (hl e List.mem_cons_self)))
  unfold State.restage
  refine h _ (fun e he => ?_) s
  have := (List.mem_filter.mp he).2
  simp only [Bool.and_eq_true, decide_eq_true_eq] at this
  omega

/-- The state in which the step's boundary comes: every committed set discarded, and the dresser's staged again (R432). -/
def State.unstaged (s : State) : State :=
  let sets := s.sets.filter (fun e => decide (e.2.state = .committed))
  (sets.foldl (fun u e => u.discardSet e.1 .stageIncomplete) s).restage sets

theorem State.clock_unstaged (s : State) : s.unstaged.clock = s.clock :=
  (State.clock_restage _ _).trans (State.clock_foldl (fun u (e : Nat × ChangeSet) => u.clock_discardSet e.1 _) _ s)

theorem State.lowSets_unstaged (s : State) : ∀ e ∈ s.unstaged.lowSets, e.2.state ≠ .committed := by
  intro e he hc
  unfold State.unstaged at he
  dsimp only at he
  rw [State.lowSets_restage, State.lowSets, State.sets_discardAll] at he
  have hm := (List.mem_filter.mp he).1
  obtain ⟨hs, hk⟩ := List.mem_filter.mp hm
  have : e.1 ∈ (s.sets.filter (fun e => decide (e.2.state = .committed))).map Prod.fst :=
    List.mem_map_of_mem (List.mem_filter.mpr ⟨hs, decide_eq_true hc⟩)
  simp [this] at hk

theorem State.alook_lowSets (s : State) {k : Nat} {z : ChangeSet} (hk : k < 65536) (h : alook s.sets k = some z) :
    (k, z) ∈ s.lowSets := List.mem_filter.mpr ⟨mem_of_alook h, decide_eq_true hk⟩

/-- The clock of the state after a boundary, taken apart. -/
theorem State.begun_of_dial {t : State} {p : List Instr} {u : Turn} {r en em v : Nat} {te tn : List Nat} {l : List (Nat × ChangeSet)}
    (h : t.dial = ((p, { u with discarded := 0 }, r, (en, em), (te, tn), v), l)) :
    t.pending = p ∧ t.turn = { u with discarded := t.turn.discarded } ∧ t.readUnits = r ∧ t.reef.energy = en ∧ t.reef.eMeas = em ∧
      t.reef.temps = te ∧ t.reef.tempsNow = tn ∧ t.mod.vinMv = v ∧ t.lowSets = l := by
  obtain ⟨hc, hl⟩ := Prod.mk.inj h
  unfold State.clock at hc
  simp only [Prod.mk.injEq] at hc
  obtain ⟨hp, ht, hr, ⟨he, hm⟩, ⟨hn, hn'⟩, hv⟩ := hc
  exact ⟨hp, congrArg (fun x : Turn => { x with discarded := t.turn.discarded }) ht, hr, he, hm, hn, hn', hv, hl⟩

theorem State.parts_of_clock {s t : State} (h : t.clock = s.clock) :
    t.pending = s.pending ∧ t.turn = { s.turn with discarded := t.turn.discarded } ∧ t.reef.energy = s.reef.energy ∧
      t.reef.eMeas = s.reef.eMeas ∧ t.reef.tempsNow = s.reef.tempsNow := by
  unfold State.clock at h
  simp only [Prod.mk.injEq] at h
  obtain ⟨hp, ht, -, ⟨he, hm⟩, ⟨-, hn⟩, -⟩ := h
  exact ⟨hp, congrArg (fun x : Turn => { x with discarded := t.turn.discarded }) ht, he, hm, hn⟩

/-- The state of which the step's boundary begins the new turn (R32). -/
def State.stepped (s : State) (e v : Nat) : State :=
  let a := s.unstaged
  let b := { (a.endClose e v) with turn := { a.turn with
    locked := a.turn.best.isSome && !a.turn.mismatch, stepCount := bump16 a.turn.stepCount 1, stepTurn := false, stepPending := false } }
  { b with turn := { b.turn with stepTo := none } }

end Sys2Proof.Machine

open Sys2Proof Sys2Proof.Machine

/-- Settles O33: the close ends, the boundary begins its turn, and nothing that the boundary starts touches the clock again. -/
theorem turnBoundary : Obligations.TurnBoundary := by
  unfold Obligations.TurnBoundary
  intro s e v
  dsimp only
  refine ⟨fun hr hw hs => ?_, fun hr hw hs => ?_, fun h => ?_, fun h => ?_⟩
  · have hx : exec (.turnBoundary e v) s = .next ((s.endClose e v).boundary ((s.turn.no + 1) % 2 ^ 64)) := by
      rw [exec_turnBoundary]
      unfold execTurnBoundary
      rw [if_pos (by rw [hr, hw, hs]; rfl)]
    obtain ⟨cp, ct, -, ce, cm, cn, cn', cv, -⟩ := State.begun_of_dial (s.dial_endClose e v)
    obtain ⟨hp, ht, hu, he, hm, hn, hn', hv, -⟩ := State.begun_of_dial ((s.endClose e v).dial_boundary ((s.turn.no + 1) % 2 ^ 64))
    rw [ct] at ht
    refine ⟨_, hx, ⟨?_, ?_, ?_, ?_, ?_, hu, he.trans ce, hm.trans cm, hv.trans cv, hn.trans cn', hn', hp.trans cp⟩, ?_, ?_, ?_, ?_, ?_, ?_⟩ <;>
      rw [ht]
    · rfl
    · rfl
    · rfl
    · exact hr
    all_goals rfl
  · have hx : exec (.turnStep e v) s = .next ((s.stepped e v).boundary ((s.turn.stepTo.getD (s.turn.no + 1)) % 2 ^ 64)) := by
      rw [exec_turnStep]
      unfold execTurnStep
      rw [if_pos (by rw [hr, hw, hs]; rfl)]
      rfl
    obtain ⟨cp, -, -, ce, cm, cn, cn', cv, cl⟩ := State.begun_of_dial (s.unstaged.dial_endClose e v)
    obtain ⟨up, ut, ue, -, un⟩ := State.parts_of_clock s.clock_unstaged
    obtain ⟨hp, ht, hu, he, hm, hn, hn', hv, hl⟩ := State.begun_of_dial ((s.stepped e v).dial_boundary ((s.turn.stepTo.getD (s.turn.no + 1)) % 2 ^ 64))
    have hst : (s.stepped e v).turn = { s.turn with
        locked := s.unstaged.turn.best.isSome && !s.unstaged.turn.mismatch, stepCount := bump16 s.turn.stepCount 1, stepTurn := false
        stepPending := false, stepTo := none, discarded := s.unstaged.turn.discarded } := by
      unfold State.stepped
      dsimp only
      rw [ut]
    rw [hst] at ht
    refine ⟨_, hx, ⟨?_, ?_, ?_, ?_, ?_, hu, ?_, hm.trans cm, hv.trans cv, hn.trans (cn'.trans un), hn', hp.trans (cp.trans up)⟩, ?_, ?_, ?_, ?_⟩
    · rw [ht]; rfl
    · rw [ht]; rfl
    · rw [ht]; rfl
    · rw [ht]; exact hr
    · rw [ht]; rfl
    · exact (he.trans ce).trans (congrArg (· + e) ue)
    · rw [ht]; rfl
    · rw [ht]; rfl
    · rw [ht]; rfl
    · intro k z hk hz hc
      have hmem := State.alook_lowSets _ hk hz
      rw [hl] at hmem
      obtain ⟨x, hx, hxe⟩ := List.mem_map.mp hmem
      refine s.lowSets_unstaged x (cl ▸ hx) ?_
      have : x.2.older = z := congrArg Prod.snd hxe
      rw [← x.2.state_older, this, hc]
  · rw [exec_turnBoundary]
    unfold execTurnBoundary
    rw [if_neg]
    rcases h with h | h | h <;> simp [h]
  · rw [exec_turnStep]
    unfold execTurnStep
    rw [if_neg]
    rcases h with h | h | h <;> simp [h]

end

section
/-! CFG_STAGE (O41): past the shared refusals every kind of change is staged alike (R39). -/

namespace Sys2Proof.Machine

/-- A CFG_STAGE that names a legal change of one of its five kinds, in a context whose state allows it (Table 10.8). -/
def State.Stages (s : State) (h : CmdHead) (id : Nat) (i : Instr) (ch : Change) (named : Bool) : Prop :=
  let x := s.ctx h.ctx
  let bound := x.state = .loaded ∨ x.state = .running ∨ x.state = .paused
  (∃ l, i = .cfgStageRemap h id l ∧ ch = .remap h.ctx l ∧ named = true ∧ bound ∧ 1 ≤ l.length ∧ l.length ≤ 116 ∧
    ∃ p, x.plan = some p ∧ ∀ g ∈ l, g < 2048 ∧ (p.tile g).isSome = true) ∨
  (∃ lo hi, i = .cfgStageReefRange h id lo hi ∧ ch = .reefRange h.ctx lo hi ∧ named = true ∧ bound ∧ lo ≤ hi ∧ hi ≤ 3) ∨
  (∃ m p, i = .cfgStageVouch h id m ∧ ch = .vouch h.ctx (m == 1) ∧ named = true ∧ bound ∧ x.plan = some p ∧
    (m = 1 ∨ (m = 0 ∧ p.hdr.flags % 2 = 0 ∧ p.hdr.flags / 2 % 2 = 1))) ∨
  (∃ q r, i = .cfgStageAudit h id q r ∧ ch = .audit q r ∧ named = false ∧ r ≤ 64 ∧ q ∈ s.mod.order.quads) ∨
  (∃ m d c, i = .cfgStageGeometry h id m d c ∧ ch = .geometry { m := m, d := d, c := c } ∧ named = false ∧
    Geometry.valid { m := m, d := d, c := c } = true)

theorem stageStates_bound {x : CtxState} (h : x = .loaded ∨ x = .running ∨ x = .paused) : stageStates.contains x = true := by
  rcases h with rfl | rfl | rfl <;> rfl

/-- A command that is read, within its ranges and in a legal state, runs. -/
theorem State.reads.runs {s : State} {h : CmdHead} {opc : Nat} {k : RingKind} {named bad legal : Bool} (hr : s.reads h opc k named)
    (hb : bad = false) (hl : legal = true) (res : List Byte) (run : State → State) :
    s.command h opc k named bad legal res run = run (s.afterRecord h) := by
  rw [hr.command, hb, hl]
  rfl

theorem State.Stages.exec_eq {s : State} {h : CmdHead} {id : Nat} {i : Instr} {ch : Change} {named : Bool}
    (hi : s.Stages h id i ch named) (hr : s.reads h 0x04 .management named) :
    exec i s = .next ((s.afterRecord h).stage h id ch) := by
  rcases hi with ⟨l, rfl, rfl, rfl, hx, h1, hn, p, hp, hl⟩ | ⟨lo, hi, rfl, rfl, rfl, hx, h1, h2⟩ |
    ⟨m, p, rfl, rfl, rfl, hx, hp, hm⟩ | ⟨q, r, rfl, rfl, rfl, h1, h2⟩ | ⟨m, d, c, rfl, rfl, rfl, hg⟩
  · rw [exec_cfgStageRemap]
    unfold execCfgStageRemap
    dsimp only
    rw [hr.runs ?_ (stageStates_bound hx)]
    have he : l.isEmpty = false := by
      cases l with
      | nil => cases h1
      | cons _ _ => rfl
    simp only [hp, he, Bool.or_eq_false_iff, decide_eq_false_iff_not, Bool.not_eq_false', List.any_eq_false, List.all_eq_true]
    exact ⟨⟨⟨trivial, by omega⟩, fun g hg => by simpa using (hl g hg).1⟩, fun g hg => (hl g hg).2⟩
  · rw [exec_cfgStageReefRange]
    unfold execCfgStageReefRange
    rw [hr.runs (decide_eq_false (by omega)) (stageStates_bound hx)]
  · rw [exec_cfgStageVouch]
    unfold execCfgStageVouch
    dsimp only
    rw [hr.runs ?_ (stageStates_bound hx)]
    rcases hm with rfl | ⟨rfl, h1, h2⟩
    · simp [hp]
    · simp [hp, h1, h2]
  · rw [exec_cfgStageAudit]
    unfold execCfgStageAudit
    rw [hr.runs ?_ rfl]
    simp [h2, h1]
  · rw [exec_cfgStageGeometry]
    unfold execCfgStageGeometry
    dsimp only
    rw [hr.runs (by simp [hg]) rfl]

/-- What reading its record changes has no part in what a CFG_STAGE looks at. -/
theorem State.heldElsewhere_afterRecord (s : State) (h : CmdHead) (id : Nat) (ch : Change) :
    (s.afterRecord h).heldElsewhere id ch = s.heldElsewhere id ch := rfl

theorem State.needsDrain_afterRecord (s : State) (h : CmdHead) (id : Nat) (ch : Change) :
    (s.afterRecord h).needsDrain id ch = s.needsDrain id ch := rfl

/-- An accepted CFG_STAGE: outstanding, with its set the one given. -/
def State.withSet (s : State) (h : CmdHead) (id : Nat) (z : ChangeSet) : State :=
  { ((s.afterRecord h).accept h 0x04 id 4096) with sets := aset s.sets id z }

theorem State.withSet_takes (s : State) (h : CmdHead) (id : Nat) (z : ChangeSet) :
    Accepts s (s.withSet h id z) h (outstanding h 0x04 id 4096) ∧ alook (s.withSet h id z).sets id = some z ∧
      (∀ k, k ≠ id → alook (s.withSet h id z).sets k = alook s.sets k) ∧
      s.withSet h id z = { s with fns := (s.withSet h id z).fns, cmds := (s.withSet h id z).cmds
                                  readUnits := (s.withSet h id z).readUnits, sets := (s.withSet h id z).sets } :=
  ⟨s.accepts_accept h 0x04 id 4096, alook_aset_self _ _ _, fun _ hk => alook_aset_ne _ _ _ _ hk, rfl⟩

theorem State.stage_held {s : State} (h : CmdHead) {id : Nat} {ch : Change} (hh : s.heldElsewhere id ch = true) :
    (s.afterRecord h).stage h id ch = (s.afterRecord h).refuse (headRef h 0x04) .noResource [] := by
  unfold State.stage
  exact if_pos hh

theorem State.stage_new {s : State} (h : CmdHead) {id : Nat} {ch : Change} (hh : s.heldElsewhere id ch = false)
    (hz : alook s.sets id = none) :
    (s.afterRecord h).stage h id ch =
      if 4 ≤ s.hostSets then (s.afterRecord h).refuse (headRef h 0x04) .noResource []
      else if s.needsDrain id ch then (s.afterRecord h).refuse (headRef h 0x04) .needsDrain []
      else s.withSet h id { changes := [ch], state := .opened, held := false, lost := false, age := 0, commit := 0 } := by
  unfold State.stage
  dsimp only
  rw [s.heldElsewhere_afterRecord h, hh, if_neg Bool.false_ne_true, State.sets_afterRecord, hz]
  rfl

theorem State.stage_known {s : State} (h : CmdHead) {id : Nat} {ch : Change} {z : ChangeSet} (hh : s.heldElsewhere id ch = false)
    (hz : alook s.sets id = some z) :
    (s.afterRecord h).stage h id ch =
      if z.state = .committed then (s.afterRecord h).refuse (headRef h 0x04) .wrongState []
      else if s.needsDrain id ch then (s.afterRecord h).refuse (headRef h 0x04) .needsDrain []
      else s.withSet h id { z with changes := z.changes ++ [ch], state := .opened, held := false } := by
  unfold State.stage
  dsimp only
  rw [s.heldElsewhere_afterRecord h, hh, if_neg Bool.false_ne_true, State.sets_afterRecord, hz]
  rfl

end Sys2Proof.Machine

open Sys2Proof Sys2Proof.Machine

/-- Settles O41: each kind comes to `State.stage`, whose branches are the refusals and the two ways into a set. -/
theorem changesStaged : Obligations.ChangesStaged := by
  unfold Obligations.ChangesStaged
  intro s h id i ch named
  dsimp only
  intro hi hr
  have hi : s.Stages h id i ch named := hi
  have hx := hi.exec_eq hr
  have refused (st : Status) (he : (s.afterRecord h).stage h id ch = (s.afterRecord h).refuse (headRef h 0x04) st []) :
      ∃ t, exec i s = .next t ∧ Completes s t h 0x04 st [] ∧ OnlyRings s t :=
    ⟨_, hx.trans (congrArg _ he), State.completes_refuse hr.active 0x04 st []⟩
  refine ⟨fun hh => refused _ (State.stage_held h hh), fun hh hz => ?_, fun z hh hz => ?_⟩
  · have he := State.stage_new h hh hz
    refine ⟨fun h4 => refused _ (he.trans (if_pos h4)), fun h4 hd => refused _ ?_, fun h4 hd => ⟨_, hx.trans (congrArg _ ?_), s.withSet_takes h id _⟩⟩
    · rw [he, if_neg (by omega), if_pos hd]
    · rw [he, if_neg (by omega), if_neg (by rw [hd]; exact Bool.false_ne_true)]
  · have he := State.stage_known h hh hz
    refine ⟨fun hc => refused _ (he.trans (if_pos hc)), fun hc hd => refused _ ?_, fun hc hd => ⟨_, hx.trans (congrArg _ ?_), s.withSet_takes h id _⟩⟩
    · rw [he, if_neg hc, if_pos hd]
    · rw [he, if_neg hc, if_neg (by rw [hd]; exact Bool.false_ne_true)]

end

section
/-! The commands of a context (O39): start, pause, resume, drain, assign, query, and the late resume. -/

namespace Sys2Proof.Machine

theorem State.ctx_modCtx_self (s : State) (c : Nat) (g : Ctx → Ctx) : (s.modCtx c g).ctx c = g (s.ctx c) :=
  s.ctx_setCtx_self c _

theorem State.ctx_modCtx_ne (s : State) (c d : Nat) (g : Ctx → Ctx) (h : d ≠ c) : (s.modCtx c g).ctx d = s.ctx d :=
  s.ctx_setCtx_ne c d _ h

/-! ### Commands that change the context that they name -/

/-- An accepted command whose context changes: outstanding, and nothing else of the state is new. -/
theorem State.accept_modCtx (s : State) (h : CmdHead) (opc arg default_ : Nat) (g : Ctx → Ctx) :
    Accepts s (((s.afterRecord h).accept h opc arg default_).modCtx h.ctx g) h (outstanding h opc arg default_) ∧
      OnlyCtx s (((s.afterRecord h).accept h opc arg default_).modCtx h.ctx g) h.ctx ∧
      (((s.afterRecord h).accept h opc arg default_).modCtx h.ctx g).ctx h.ctx = g (s.ctx h.ctx) := by
  refine ⟨s.accepts_accept h opc arg default_, ⟨rfl, fun k hk => ?_⟩, ?_⟩
  · exact State.ctx_modCtx_ne _ _ _ _ hk
  · exact State.ctx_modCtx_self _ _ _

theorem State.lacksSite_afterRecord (s : State) (h : CmdHead) (c : Nat) : (s.afterRecord h).lacksSite c = s.lacksSite c := rfl

/-- CTX_START and CTX_RESUME give NO_RESOURCE for a context that has lost what it needs, else the transition waits (R303). -/
theorem State.reads.transition {s : State} {h : CmdHead} {opc : Nat} {k : RingKind} {named legal : Bool} {i : Instr} {f : Ctx → Ctx}
    (hr : s.reads h opc k named) (hl : legal = true)
    (hx : exec i s = .next (s.command h opc k named false legal [] (fun t =>
      if (s.ctx h.ctx).starved || t.lacksSite h.ctx then t.complete (headRef h opc) .noResource []
      else (t.accept h opc 0 4096).modCtx h.ctx f))) :
    ((s.ctx h.ctx).starved = false ∧ s.lacksSite h.ctx = false →
      ∃ t, exec i s = .next t ∧ Accepts s t h (outstanding h opc 0 4096) ∧ OnlyCtx s t h.ctx ∧ t.ctx h.ctx = f (s.ctx h.ctx)) ∧
    (¬((s.ctx h.ctx).starved = false ∧ s.lacksSite h.ctx = false) →
      ∃ t, exec i s = .next t ∧ Completes s t h opc .noResource [] ∧ OnlyRings s t) := by
  rw [hr.runs rfl hl] at hx
  refine ⟨fun ⟨h1, h2⟩ => ?_, fun hn => ?_⟩
  · rw [if_neg (by rw [h1, s.lacksSite_afterRecord h, h2]; exact Bool.false_ne_true)] at hx
    exact ⟨_, hx, s.accept_modCtx h opc 0 4096 f⟩
  · rw [if_pos ?_] at hx
    · exact ⟨_, hx, State.completes_complete hr.active opc _ _⟩
    · rw [s.lacksSite_afterRecord h]
      cases h1 : (s.ctx h.ctx).starved
      · cases h2 : s.lacksSite h.ctx
        · exact absurd ⟨h1, h2⟩ hn
        · rfl
      · rfl

theorem State.reads.accepts {s : State} {h : CmdHead} {opc : Nat} {k : RingKind} {named bad legal : Bool} {i : Instr} {f : Ctx → Ctx}
    (hr : s.reads h opc k named) (hb : bad = false) (hl : legal = true)
    (hx : exec i s = .next (s.command h opc k named bad legal [] (fun t => (t.accept h opc 0 4096).modCtx h.ctx f))) :
    ∃ t, exec i s = .next t ∧ Accepts s t h (outstanding h opc 0 4096) ∧ OnlyCtx s t h.ctx ∧ t.ctx h.ctx = f (s.ctx h.ctx) :=
  ⟨_, hx.trans (congrArg _ (hr.runs hb hl _ _)), s.accept_modCtx h opc 0 4096 f⟩

theorem ctxCommands (s : State) (h : CmdHead) :
    let x := s.ctx h.ctx
    let fit := x.starved = false ∧ s.lacksSite h.ctx = false
    (s.reads h 0x10 .context true → x.state = .loaded → x.marked = false → x.trans = none →
      (fit → ∃ t, exec (.ctxStart h) s = .next t ∧ Accepts s t h (outstanding h 0x10 0 4096) ∧ OnlyCtx s t h.ctx ∧
        t.ctx h.ctx = { x with trans := some .start }) ∧
      (¬fit → ∃ t, exec (.ctxStart h) s = .next t ∧ Completes s t h 0x10 .noResource [] ∧ OnlyRings s t)) ∧
    (s.reads h 0x11 .context true → x.state = .running → x.trans = none →
      ∃ t, exec (.ctxPause h) s = .next t ∧ Accepts s t h (outstanding h 0x11 0 4096) ∧ OnlyCtx s t h.ctx ∧
        t.ctx h.ctx = { x with trans := some .pause }) ∧
    (s.reads h 0x12 .context true → x.state = .paused ∨ x.state = .faulted → x.marked = false → x.trans = none →
      (fit → ∃ t, exec (.ctxResume h) s = .next t ∧ Accepts s t h (outstanding h 0x12 0 4096) ∧ OnlyCtx s t h.ctx ∧
        t.ctx h.ctx = { x with trans := some .resume }) ∧
      (¬fit → ∃ t, exec (.ctxResume h) s = .next t ∧ Completes s t h 0x12 .noResource [] ∧ OnlyRings s t)) ∧
    (∀ flags, flags ≤ 1 → s.reads h 0x13 .context true → x.state = .running ∨ x.state = .paused → x.trans = none →
      ∃ t, exec (.ctxDrain h flags) s = .next t ∧ Accepts s t h (outstanding h 0x13 0 4096) ∧ OnlyCtx s t h.ctx ∧
        t.ctx h.ctx = { x with state := .draining, cancelDrain := flags == 1 }) := by
  dsimp only
  refine ⟨fun hr hs hm ht => ?_, fun hr hs ht => ?_, fun hr hs hm ht => ?_, fun flags hf hr hs ht => ?_⟩
  · refine hr.transition (i := .ctxStart h) ?_ exec_ctxStart
    simp [hs, hm, ht]
  · refine hr.accepts (i := .ctxPause h) rfl ?_ exec_ctxPause
    simp [hs, ht]
  · refine hr.transition (i := .ctxResume h) ?_ exec_ctxResume
    simp [hs, hm, ht]
  · have hl : ((decide ((s.ctx h.ctx).state = .running) || decide ((s.ctx h.ctx).state = .paused)) && (s.ctx h.ctx).trans.isNone) = true := by
      simp [hs, ht]
    obtain ⟨t, hx, ha, ho, hc⟩ := hr.accepts (i := .ctxDrain h flags) (decide_eq_false (Nat.not_lt.mpr hf)) hl exec_ctxDrain
    refine ⟨t, hx, ha, ho, hc.trans ?_⟩
    rw [Nat.mod_eq_of_lt (Nat.lt_succ_of_le hf)]

/-! ### CTX_ASSIGN and CTX_QUERY -/

theorem ctxAssigned {s : State} {h : CmdHead} {f : Nat} (hf : f ∈ s.functions) (hr : s.reads h 0x03 .pfManagement true)
    (he : (s.ctx h.ctx).state = .empty) (hd : (s.ring (s.ctx h.ctx).owner (h.ctx + 1)).state = .disabled) :
    ∃ t, exec (.ctxAssign h f) s = .next t ∧ Completes s t h 0x03 .ok [] ∧ OnlyCtx s t h.ctx ∧
      t.ctx h.ctx = { s.ctx h.ctx with owner := f } := by
  have hx : exec (.ctxAssign h f) s = .next (((s.afterRecord h).modCtx h.ctx (fun y => { y with owner := f })).complete (headRef h 0x03) .ok []) :=
    exec_ctxAssign.trans (congrArg _ (hr.runs (by simp [hf]) (by simp [he, hd]) _ _))
  obtain ⟨⟨ht, hc, hu⟩, ho⟩ := State.completes_complete hr.active 0x03 .ok []
  have hact : ((s.afterRecord h).ring h.fn h.ring).state = .active := by simpa using hr.active
  have hact' : (((s.afterRecord h).modCtx h.ctx (fun y => { y with owner := f })).ring h.fn h.ring).state = .active := hact
  refine ⟨_, hx, ?_, ?_, ?_⟩
  · rw [State.complete_of_active hact']
    rw [State.complete_of_active hact] at ht hc hu
    exact ⟨ht, hc, hu⟩
  · rw [State.complete_of_active hact']
    exact ⟨rfl, fun k hk => State.ctx_modCtx_ne (s.afterRecord h) _ _ (fun y => { y with owner := f }) hk⟩
  · rw [State.complete_of_active hact']
    exact State.ctx_modCtx_self (s.afterRecord h) _ (fun y => { y with owner := f })

/-! ### LATE_RESUME -/

/-- What the wait and the holds of a turn leave of a context. -/
def Ctx.core (x : Ctx) : CtxState × Bool × Bool × Nat := (x.state, x.redo, x.lateTried, x.turn)

theorem State.core_of_set {s t : State} {c : Nat} (h : ∃ y, t.ctxs = aset s.ctxs c y ∧ y.core = (s.ctx c).core) (k : Nat) :
    (t.ctx k).core = (s.ctx k).core := by
  obtain ⟨y, h, hy⟩ := h
  unfold State.ctx at hy ⊢
  rw [h]
  by_cases hk : k = c
  · subst hk
    rw [aget_aset_self, hy]
  · rw [aget_aset_ne _ _ _ _ _ hk]

theorem State.core_setWait (s : State) (c k : Nat) : ((s.setWait c).ctx k).core = (s.ctx k).core := by
  unfold State.setWait
  dsimp only
  split
  · split
    · rfl
    · exact State.core_of_set ⟨_, rfl, by rfl⟩ k
  · split
    · exact State.core_of_set ⟨_, rfl, by rfl⟩ k
    · split
      · exact State.core_of_set ⟨_, rfl, by rfl⟩ k
      · split
        · exact State.core_of_set ⟨_, rfl, by rfl⟩ k
        · split
          · rfl
          · exact State.core_of_set ⟨_, rfl, by rfl⟩ k

theorem State.core_setHolds (s : State) (k : Nat) : (s.setHolds.ctx k).core = (s.ctx k).core := by
  unfold State.setHolds
  refine foldl_fixes (fun u : State => (u.ctx k).core) _ (fun u c => ?_) _ _
  dsimp only
  split
  · rfl
  · exact State.core_of_set ⟨_, rfl, by rfl⟩ k

theorem State.quads_setWait (s : State) (c : Nat) : (s.setWait c).quads = s.quads := by
  unfold State.setWait
  dsimp only
  (repeat' split) <;> rfl

theorem State.quads_setHolds (s : State) : s.setHolds.quads = s.quads := by
  unfold State.setHolds
  refine foldl_fixes State.quads _ (fun u c => ?_) _ _
  dsimp only
  split <;> rfl

/-- The causes that a late delivery may have given a plan fault (R437). -/
theorem lateCauses_iff (l : List Cause) :
    l.all (fun c => [Cause.skewOverflow, .pondFull, .turnOverrun].contains c) = true ↔
      ∀ k ∈ l, k = .skewOverflow ∨ k = .pondFull ∨ k = .turnOverrun := by
  simp

theorem lateResumed (s : State) (c : Nat) :
    let x := s.ctx c
    let may := x.late = true ∧ x.lateTried = false ∧ ∀ k ∈ x.causes, k = .skewOverflow ∨ k = .pondFull ∨ k = .turnOverrun
    (s.turn.running = true → s.turn.window = .intake → x.state = .faulted → x.marked = false → x.trans = none →
      (may → ∃ t, exec (.lateResume c) s = .next t ∧ (t.ctx c).state = x.prior ∧ (t.ctx c).redo = true ∧
        (t.ctx c).lateTried = true ∧ (t.ctx c).turn = x.turn ∧ t.sites = s.sites ∧ t.quads = s.quads) ∧
      (¬may → exec (.lateResume c) s = .next s)) := by
  dsimp only
  intro hr hw hs hm ht
  rw [exec_lateResume]
  unfold execLateResume
  dsimp only
  refine ⟨fun ⟨hl, htr, hc⟩ => ?_, fun hn => ?_⟩
  · rw [if_pos (by simp only [hr, hw, hs, hl, htr, hm, ht, (lateCauses_iff _).mpr hc]; rfl)]
    refine ⟨_, rfl, ?_⟩
    rw [State.sites_setHolds, State.sites_setWait, State.quads_setHolds, State.quads_setWait]
    have hcore := (State.core_setHolds _ c).trans (State.core_setWait (s.modCtx c (fun y => { y with
      state := y.prior, redo := true, lateTried := true })) c c)
    rw [State.ctx_modCtx_self] at hcore
    unfold Ctx.core at hcore
    simp only [Prod.mk.injEq] at hcore
    obtain ⟨h1, h2, h3, h4⟩ := hcore
    exact ⟨h1, h2, h3, h4, rfl, rfl⟩
  · rw [if_neg]
    intro h
    simp only [Bool.and_eq_true, lateCauses_iff, Bool.not_eq_true'] at h
    exact hn ⟨h.1.1.1.1.2, h.1.1.1.2, h.2⟩

end Sys2Proof.Machine

open Sys2Proof Sys2Proof.Machine

/-- Settles O39: command by command; the wait and the holds of the turn leave the resumed context's state. -/
theorem contexts : Obligations.Contexts := by
  unfold Obligations.Contexts
  refine ⟨ctxCommands, fun s h => ⟨fun f hf hr he hd => ctxAssigned hf hr he hd, fun hr => ?_⟩, lateResumed⟩
  obtain ⟨hc, ho⟩ := State.completes_complete hr.active 0x08 .ok
    ([BitVec.ofNat 8 (s.ctx h.ctx).state.code, BitVec.ofNat 8 (s.ctx h.ctx).gearing, BitVec.ofNat 8 (s.ctx h.ctx).owner, 0, 0, 0, 0, 0] ++
      leBytes 8 (s.ctx h.ctx).turn ++ leBytes 4 (s.activeOf h.ctx).length ++
      leBytes 4 ((s.streamsOf h.ctx).filter (fun e => e.2.state == .idle)).length ++ leBytes 4 (gearMask (s.ctx h.ctx).usable) ++
      (List.range 4).map (fun r => BitVec.ofNat 8 ((s.ctx h.ctx).reefMap.getD r 0)))
  exact ⟨_, exec_ctxQuery.trans (congrArg Host.Outcome.next (hr.runs rfl rfl _ _)), ho, hc⟩

end

section
/-! Register writes and BAR2 (O48). -/

namespace Sys2Proof.Machine

/-! ### Words and configuration space -/

theorem exec_registerWrite_config (f off size : Nat) (v : DWord) (s : State) :
    exec (.registerWrite (256 + f) off size v) s = .next (s.writeConfig f off v.toNat) := by
  rw [exec_registerWrite]
  unfold execRegisterWrite
  dsimp only
  rw [if_pos (Nat.le_add_right _ _), Nat.add_sub_cancel_left]

theorem exec_registerWrite_word {f off : Nat} (hf : f < 256) (ho : off % 4 = 0) (v : DWord) (s : State) :
    exec (.registerWrite f off 4 v) s = .next (s.writeWord f off (v.toNat % 2 ^ 32)) := by
  rw [exec_registerWrite]
  unfold execRegisterWrite
  dsimp only
  rw [if_neg (Nat.not_le.mpr hf), if_pos ⟨rfl, ho⟩]

theorem exec_registerWrite_ignored {f off size : Nat} (hf : f < 256) (h : size ≠ 4 ∧ size ≠ 8 ∨ off % size ≠ 0) (v : DWord) (s : State) :
    exec (.registerWrite f off size v) s = .next s := by
  rw [exec_registerWrite]
  unfold execRegisterWrite
  dsimp only
  rw [if_neg (Nat.not_le.mpr hf), if_neg, if_neg]
  · rintro ⟨rfl, h8⟩
    exact h.elim (fun h => h.2 rfl) (fun h => h h8)
  · rintro ⟨rfl, h4⟩
    exact h.elim (fun h => h.1 rfl) (fun h => h h4)

/-- An aligned 8-byte write is its two words, the low one first (R282). -/
theorem exec_registerWrite_pair {f off : Nat} (hf : f < 256) (ho : off % 8 = 0) (v : DWord) (s : State) :
    exec (.registerWrite f off 8 v) s = exec (.registerWrite f (off + 4) 4 (v >>> 32)) (s.writeWord f off (v.toNat % 2 ^ 32)) := by
  have hv : (v >>> 32).toNat % 2 ^ 32 = v.toNat / 2 ^ 32 := by
    rw [BitVec.toNat_ushiftRight, Nat.shiftRight_eq_div_pow]
    have := v.isLt
    omega
  rw [exec_registerWrite_word hf (by omega), hv, exec_registerWrite]
  unfold execRegisterWrite
  dsimp only
  rw [if_neg (Nat.not_le.mpr hf), if_neg (fun h => absurd h.1 (by decide)), if_pos ⟨rfl, ho⟩]

/-- A word of a device that has started goes to the PF's registers past the rings (R282). -/
theorem State.writeWord_pf {s : State} (ht : s.takes 0 = true) (hs : s.mod.dev.inStart = false) {o : Nat} (ho : 0x30000 ≤ o) (v : Nat) :
    s.writeWord 0 o v = s.writePf o v := by
  unfold State.writeWord
  rw [if_neg (by omega), if_neg (by rw [ht]; exact Bool.false_ne_true), if_neg (by omega), if_neg (fun h => h.1 rfl),
    if_neg (by rw [hs]; exact Bool.false_ne_true), if_pos rfl]

theorem State.writeWord_untaken {s : State} {f o : Nat} (ht : s.takes f = false) (ho : o ≠ 0x38) (v : Nat) : s.writeWord f o v = s := by
  unfold State.writeWord
  rw [if_neg (fun h => ho h.2), if_pos (by rw [ht]; rfl)]

theorem State.writePf_allowance (s : State) (v : Nat) : s.writePf 0x30004 v = s.writeAllowance v := rfl

theorem State.writePf_period (s : State) (v : Nat) :
    s.writePf 0x40028 v = if s.mod.order.digest then { s with check := { s.check with period := v % 65536 } } else s := rfl

theorem State.writePf_mailbox (s : State) (v : Nat) :
    s.writePf 0x80020 v = { s with sec := { s.sec with mboxBytes := v % 2 ^ 32 } } := rfl

theorem State.writeConfig_master {s : State} {f : Nat} (ha : s.answers = true) (hf : f ∈ s.functions) (v : Nat) :
    s.writeConfig f 0 v = s.modFn f (fun x => { x with busMaster := v.testBit 0 }) := by
  unfold State.writeConfig
  rw [if_neg (by simp [ha, hf]), if_pos rfl]

theorem State.writeConfig_bar2 {s : State} (ha : s.answers = true) {k : Nat} (hk : k ≤ 10) :
    s.writeConfig 0 8 (2 ^ k) = { s with mod := { s.mod with bar2Gib := 2 ^ k } } := by
  have h0 : (0 : Nat) ∈ s.functions := List.mem_cons_self
  unfold State.writeConfig
  rw [if_neg (by simp [ha, h0]), if_neg (by decide), if_neg (by decide), if_pos]
  refine ⟨rfl, rfl, ?_⟩
  have : k ∈ List.range 11 := List.mem_range.mpr (by omega)
  simp only [List.contains_iff_mem, List.mem_map]
  exact ⟨k, this, rfl⟩

theorem State.fn_modFn_ne (s : State) (f n : Nat) (g : Fn → Fn) (h : n ≠ f) : (s.modFn f g).fn n = s.fn n :=
  aget_aset_ne _ _ _ _ _ h

theorem registersWritten (s : State) (f off size : Nat) (v : DWord) (w : Word) :
    (f < 256 → size ≠ 4 ∧ size ≠ 8 ∨ off % size ≠ 0 → exec (.registerWrite f off size v) s = .next s) ∧
    (s.answers = true → f ∈ s.functions →
      (∃ t, exec (.registerWrite (256 + f) 0 size v) s = .next t ∧ t.fn f = { s.fn f with busMaster := v.getLsbD 0 } ∧
        t = { s with fns := t.fns } ∧ ∀ n, n ≠ f → t.fn n = s.fn n) ∧
      ∀ k, k ≤ 10 → exec (.registerWrite 256 8 size (2 ^ k)) s = .next { s with mod := { s.mod with bar2Gib := 2 ^ k } }) ∧
    (s.answers = false → exec (.registerWrite (256 + f) off size v) s = .next s) ∧
    (f < 256 → off % 8 = 0 → ∃ t, exec (.registerWrite f off 4 v) s = .next t ∧
      exec (.registerWrite f off 8 v) s = exec (.registerWrite f (off + 4) 4 (v >>> 32)) t) ∧
    (s.takes 0 = true → s.mod.dev.inStart = false →
      (∃ t, exec (.registerWrite 0 0x30004 4 v) s = .next t ∧ t.reef.hostW = v.toNat % 65536 ∧
        t = { s with reef := { s.reef with hostW := t.reef.hostW } }) ∧
      (∃ t, exec (.hostAllowanceWrite w) s = .next t ∧ t.reef.hostW = w.toNat % 65536 ∧
        t = { s with reef := { s.reef with hostW := t.reef.hostW } }) ∧
      (∃ t, exec (.registerWrite 0 0x80020 4 v) s = .next t ∧ t.sec.mboxBytes = v.toNat % 2 ^ 32 ∧
        t = { s with sec := { s.sec with mboxBytes := t.sec.mboxBytes } }) ∧
      (∃ t, exec (.registerWrite 0 0x40028 4 v) s = .next t ∧
        t.check.period = (if s.mod.order.digest then v.toNat % 65536 else s.check.period) ∧
        t = { s with check := { s.check with period := t.check.period } })) ∧
    (f < 256 → s.takes f = false → off ≠ 0x38 → exec (.registerWrite f off 4 v) s = .next s) ∧
    (s.takes 0 = false → exec (.hostAllowanceWrite w) s = .next s) ∧
    (∀ n, (s.sideband = true → ∃ t, exec (.trayAllowanceSet n) s = .next t ∧ t.reef.trayW = n % 65536 ∧
        t = { s with reef := { s.reef with trayW := t.reef.trayW } }) ∧
      (s.sideband = false → exec (.trayAllowanceSet n) s = .next s)) := by
  have hmod : v.toNat % 2 ^ 32 % 65536 = v.toNat % 65536 := by omega
  have pf {o : Nat} (ht : s.takes 0 = true) (hs : s.mod.dev.inStart = false) (ho : 0x30000 ≤ o) (h4 : o % 4 = 0) :
      exec (.registerWrite 0 o 4 v) s = .next (s.writePf o (v.toNat % 2 ^ 32)) :=
    (exec_registerWrite_word (by decide) h4 v s).trans (congrArg Host.Outcome.next (State.writeWord_pf ht hs ho _))
  refine ⟨fun hf h => exec_registerWrite_ignored hf h v s, fun ha hf => ⟨?_, fun k hk => ?_⟩, fun ha => ?_, fun hf ho => ?_,
    fun ht hs => ⟨?_, ?_, ?_, ?_⟩, fun hf ht ho => ?_, fun ht => ?_, fun n => ⟨fun hb => ?_, fun hb => ?_⟩⟩
  · refine ⟨_, (exec_registerWrite_config f 0 size v s).trans (congrArg Host.Outcome.next (State.writeConfig_master ha hf _)), ?_, rfl,
      fun n hn => s.fn_modFn_ne f n _ hn⟩
    exact s.fn_modFn_self f _
  · have h2 : (2 ^ k : DWord).toNat = 2 ^ k := by
      rw [BitVec.toNat_pow]
      interval_cases k <;> rfl
    rw [exec_registerWrite_config 0 8 size (2 ^ k) s, h2, State.writeConfig_bar2 ha hk]
  · rw [exec_registerWrite_config]
    unfold State.writeConfig
    rw [if_pos (by rw [ha]; rfl)]
  · exact ⟨_, exec_registerWrite_word hf (by omega) v s, exec_registerWrite_pair hf ho v s⟩
  · exact ⟨_, (pf ht hs (by decide) (by decide)).trans (congrArg _ (s.writePf_allowance _)), hmod, rfl⟩
  · rw [exec_hostAllowanceWrite]
    unfold execHostAllowanceWrite
    rw [if_pos (by rw [ht, hs]; rfl)]
    exact ⟨_, rfl, rfl, rfl⟩
  · exact ⟨_, (pf ht hs (by decide) (by decide)).trans (congrArg _ (s.writePf_mailbox _)), Nat.mod_mod _ _, rfl⟩
  · refine ⟨_, (pf ht hs (by decide) (by decide)).trans (congrArg _ (s.writePf_period _)), ?_, ?_⟩
    · split
      · exact hmod
      · rfl
    · split <;> rfl
  · by_cases h4 : off % 4 = 0
    · rw [exec_registerWrite_word hf h4, State.writeWord_untaken ht ho]
    · exact exec_registerWrite_ignored hf (.inr h4) v s
  · rw [exec_hostAllowanceWrite]
    unfold execHostAllowanceWrite
    rw [if_neg (by rw [ht]; exact Bool.false_ne_true)]
  · rw [exec_trayAllowanceSet]
    unfold execTrayAllowanceSet
    rw [if_pos hb]
    exact ⟨_, rfl, rfl, rfl⟩
  · rw [exec_trayAllowanceSet]
    unfold execTrayAllowanceSet
    rw [if_neg (by rw [hb]; exact Bool.false_ne_true)]

end Sys2Proof.Machine
end

section
/-! ### Bytes written to device DDR -/

namespace Sys2Proof.Machine

theorem State.isRetired_of_none {s : State} (h : ∀ c, (s.chan c).state ≠ .retired) (q l : Nat) : s.isRetired q l = false := by
  unfold State.isRetired
  split
  · next ch _ _ => simpa using h ch
  · rfl

theorem State.touchRetired_of_none {s : State} (h : ∀ c, (s.chan c).state ≠ .retired) (q l : Nat) (src : DdrSource) :
    s.touchRetired q l src = s := by
  unfold State.touchRetired
  split
  · next ch _ _ => exact if_neg fun hc => h ch hc.1
  · rfl

theorem Memory.byte_write_if (m : Memory) (l : Nat) (bs : List Byte) (a : Nat) :
    (m.write l bs).byte a = if l ≤ a ∧ a < l + bs.length then bs.getD (a - l) 0 else m.byte a := by
  split
  · next h =>
    obtain ⟨i, rfl⟩ := Nat.exists_eq_add_of_le h.1
    rw [Memory.byte_write _ _ _ _ (by omega), Nat.add_sub_cancel_left]
  · next h => exact Memory.byte_write_ne _ _ _ _ (by omega)

/-- Which bytes of DDR a write leaves: those of the memory it names in its range are the ones given. -/
def State.WroteDdr (s t : State) (q l : Nat) (bs : List Byte) : Prop :=
  (∀ a, (t.ddr.memory q).byte a = if l ≤ a ∧ a < l + bs.length then bs.getD (a - l) 0 else (s.ddr.memory q).byte a) ∧
    (∀ k, k ≠ q → t.ddr.memory k = s.ddr.memory k) ∧ ∀ c, t.chan c = s.chan c

theorem State.WroteDdr.unit {s : State} (h : ∀ c, (s.chan c).state ≠ .retired) (q l : Nat) (bs : List Byte) (poison : Bool)
    (src : DdrSource) : s.WroteDdr (s.ddrWriteUnit q l bs poison src) q l bs := by
  have key : ∀ u : State, (∃ m : Memory, u.ddr.mem = aset s.ddr.mem q m ∧ ∀ a, m.byte a = ((s.ddr.memory q).write l bs).byte a) →
      u.ddr.chan = s.ddr.chan → s.WroteDdr u q l bs := by
    rintro u ⟨m, hm, hb⟩ hc
    refine ⟨fun a => ?_, fun k hk => ?_, fun c => ?_⟩
    · unfold Ddr.memory
      rw [hm, aget_aset_self, hb, Memory.byte_write_if]
      rfl
    · unfold Ddr.memory
      rw [hm]
      exact aget_aset_ne _ _ _ _ _ hk
    · unfold State.chan
      rw [hc]
  unfold State.ddrWriteUnit
  rw [if_neg (by rw [State.isRetired_of_none h]; exact Bool.false_ne_true)]
  dsimp only
  split
  · split
    · exact key _ ⟨_, rfl, fun a => by exact Memory.byte_mark _ _ a _⟩ rfl
    · exact key _ ⟨_, rfl, fun a => by exact Memory.byte_mark _ _ a _⟩ rfl
  · exact key _ ⟨_, rfl, fun a => by exact Memory.byte_mark _ _ a _⟩ rfl

/-- No bytes, nothing written. -/
theorem State.WroteDdr.refl (s : State) (q l : Nat) : s.WroteDdr s q l [] := by
  refine ⟨fun a => ?_, fun _ _ => rfl, fun _ => rfl⟩
  rw [if_neg]
  simp

theorem State.WroteDdr.trans {s t u : State} {q l : Nat} {b1 b2 : List Byte} (h1 : s.WroteDdr t q l b1)
    (h2 : t.WroteDdr u q (l + b1.length) b2) : s.WroteDdr u q l (b1 ++ b2) := by
  obtain ⟨m1, k1, c1⟩ := h1
  obtain ⟨m2, k2, c2⟩ := h2
  refine ⟨fun a => ?_, fun k hk => (k2 k hk).trans (k1 k hk), fun c => (c2 c).trans (c1 c)⟩
  rw [m2, m1, List.length_append]
  by_cases h : l + b1.length ≤ a ∧ a < l + b1.length + b2.length
  · rw [if_pos h, if_pos (by omega), List.getD_append_right _ _ _ _ (by omega), Nat.sub_sub]
  · rw [if_neg h]
    by_cases h' : l ≤ a ∧ a < l + b1.length
    · rw [if_pos h', if_pos (by omega), List.getD_append _ _ _ _ (by omega)]
    · rw [if_neg h', if_neg (by omega)]

theorem State.WroteDdr.write {q : Nat} (poison : Bool) (src : DdrSource) (fuel : Nat) :
    ∀ (s : State) (l : Nat) (bs : List Byte), (∀ c, (s.chan c).state ≠ .retired) → l % 128 + bs.length ≤ 128 * fuel →
      s.WroteDdr (s.ddrWrite q poison src fuel l bs) q l bs := by
  induction fuel with
  | zero =>
    intro s l bs _ hf
    obtain rfl : bs = [] := List.length_eq_zero_iff.mp (by omega)
    exact .refl s q l
  | succ n ih =>
    intro s l bs hr hf
    cases bs with
    | nil => exact .refl s q l
    | cons b bs =>
      have hl : l % 128 < 128 := Nat.mod_lt _ (by decide)
      generalize hk : 128 - l % 128 = k
      have hstep : s.ddrWrite q poison src (n + 1) l (b :: bs) =
          (s.ddrWriteUnit q l ((b :: bs).take k) poison src).ddrWrite q poison src n (l + k) ((b :: bs).drop k) := by
        rw [← hk]
        rfl
      have h1 := State.WroteDdr.unit hr q l ((b :: bs).take k) poison src
      have hr' : ∀ c, ((s.ddrWriteUnit q l ((b :: bs).take k) poison src).chan c).state ≠ .retired := fun c => by
        rw [h1.2.2 c]
        exact hr c
      have h2 := ih (s.ddrWriteUnit q l ((b :: bs).take k) poison src) (l + k) ((b :: bs).drop k) hr' (by
        rw [List.length_drop]
        omega)
      rw [hstep]
      by_cases hn : k ≤ (b :: bs).length
      · have h3 : s.WroteDdr _ q l ((b :: bs).take k ++ (b :: bs).drop k) := h1.trans (by
          rw [List.length_take, Nat.min_eq_left hn]
          exact h2)
        rwa [List.take_append_drop] at h3
      · have hn' : (b :: bs).length ≤ k := Nat.le_of_not_le hn
        rw [List.take_of_length_le hn'] at h1 ⊢
        rw [List.drop_eq_nil_of_le hn']
        have h0 : ∀ u : State, u.ddrWrite q poison src n (l + k) [] = u := fun u => by cases n <;> rfl
        rw [h0]
        exact h1

theorem State.wroteDdr_ddrPut {s : State} (h : ∀ c, (s.chan c).state ≠ .retired) (q l : Nat) (bs : List Byte) (poison : Bool)
    (src : DdrSource) : s.WroteDdr (s.ddrPut q l bs poison src) q l bs := by
  unfold State.ddrPut
  exact State.WroteDdr.write poison src _ s l bs h (by omega)

end Sys2Proof.Machine
end

section
/-! ### BAR2 (R280, R340, R346) -/

namespace Sys2Proof.Machine

/-- Accesses that find no fault of a device deliver poison exactly where a unit carries it. -/
theorem State.lostIn_poison (s : State) (q l n : Nat) : (!(s.lostIn q l n []).isEmpty) = s.rangePoison q l n := by
  have h0 : l % 128 / 128 = 0 := Nat.div_eq_of_lt (Nat.mod_lt _ (by decide))
  have hu (i : Nat) : 128 * (l / 128 + i) = l / 128 * 128 + 128 * i := by omega
  unfold State.rangePoison
  rw [s.lostIn_nil, h0, Nat.zero_add, Bool.eq_iff_iff]
  simp [List.filter_eq_nil_iff, hu]

theorem State.aer_aerNote (s : State) (e : AerError) : e ∈ ((s.aerNote e).fn 0).aer := by
  unfold State.aerNote
  rw [State.fn_modFn_self]
  dsimp only
  split
  · next h => simpa using h
  · simp

/-- The quadrant of an access trains its DDR again (R277). -/
def State.Trains (s : State) (off : Nat) : Prop := s.answers = true ∧ (s.quad (s.bar2Addr off / 2 ^ 43)).recState = .full

theorem State.bar2Lost_idle {s : State} {off : Nat} (h : ¬s.Trains off) : s.bar2Lost off = s := if_neg h

theorem State.bar2Lost_trains {s : State} {off : Nat} (h : s.Trains off) : s.bar2Lost off = s.aerNote .unsupported := if_pos h

theorem exec_bar2Read_none {s : State} {off n : Nat} (h : s.bar2Target off n = .none) :
    exec (.bar2Read off n []) s = .next ((s.bar2Lost off).emit (.bar2 [] false true)) := by
  rw [exec_bar2Read]
  unfold execBar2Read
  rw [h]

theorem exec_bar2Read_plan {s : State} {off n q l : Nat} (h : s.bar2Target off n = .plan q l) (hr : ∀ c, (s.chan c).state ≠ .retired) :
    exec (.bar2Read off n []) s = .next (s.bar2Answer (s.ddrBytes q l n) (s.rangePoison q l n)) := by
  rw [exec_bar2Read]
  unfold execBar2Read
  rw [h]
  dsimp only
  rw [State.touchRetired_of_none hr, s.lostIn_poison]
  rfl

theorem State.bar2Answer_shape (s : State) (bs : List Byte) (p : Bool) :
    s.bar2Answer bs p = { s with fns := (s.bar2Answer bs p).fns, out := s.out ++ [.bar2 bs p false] } ∧
      (p = false → (s.bar2Answer bs p).fns = s.fns) ∧ (p = true → AerError.poisonedRead ∈ ((s.bar2Answer bs p).fn 0).aer) := by
  unfold State.bar2Answer
  cases p with
  | false => exact ⟨rfl, fun _ => rfl, fun h => nomatch h⟩
  | true => exact ⟨rfl, (fun h => nomatch h), fun _ => State.aer_aerNote _ _⟩

theorem exec_bar2Write_plan {s : State} {off q l : Nat} {data : List Byte} {poison : Bool}
    (h : s.bar2Target off data.length = .plan q l) :
    exec (.bar2Write off data poison []) s = .next (s.ddrPut q l data poison .bar2) := by
  rw [exec_bar2Write]
  unfold execBar2Write
  dsimp only
  rw [h]
  rfl

theorem bar2Served (s : State) (off n : Nat) (data : List Byte) (poison : Bool) :
    (s.bar2Target off n = .none →
      (¬s.Trains off → exec (.bar2Read off n []) s = .next { s with out := s.out ++ [.bar2 [] false true] }) ∧
      (s.Trains off → ∃ t, exec (.bar2Read off n []) s = .next t ∧ t = { s with fns := t.fns, out := s.out ++ [.bar2 [] false true] } ∧
        AerError.unsupported ∈ (t.fn 0).aer)) ∧
    (s.bar2Target off n = .zero →
      exec (.bar2Read off n []) s = .next { s with out := s.out ++ [.bar2 (List.replicate n 0) false false] }) ∧
    (∀ q l, s.bar2Target off n = .plan q l → (∀ c, (s.chan c).state ≠ .retired) → ∃ t, exec (.bar2Read off n []) s = .next t ∧
      t = { s with fns := t.fns, out := s.out ++ [.bar2 (s.ddrBytes q l n) (s.rangePoison q l n) false] } ∧
      (s.rangePoison q l n = false → t.fns = s.fns) ∧
      (s.rangePoison q l n = true → AerError.poisonedRead ∈ (t.fn 0).aer)) ∧
    (s.bar2Target off data.length = .none → ¬s.Trains off → exec (.bar2Write off data poison []) s = .next s) ∧
    (∀ l, s.bar2Target off data.length = .zero ∨ s.bar2Target off data.length = .snap l →
      exec (.bar2Write off data poison []) s = .next { s with ddr := { s.ddr with sysDrops := min (s.ddr.sysDrops + 1) (2 ^ 16 - 1) } }) ∧
    (∀ q l, s.bar2Target off data.length = .plan q l → (∀ c, (s.chan c).state ≠ .retired) →
      ∃ t, exec (.bar2Write off data poison []) s = .next t ∧ t.sites = s.sites ∧
        (∀ a, l ≤ a → a < l + data.length → (t.ddr.memory q).byte a = data.getD (a - l) 0) ∧
        (∀ a, a < l ∨ l + data.length ≤ a → (t.ddr.memory q).byte a = (s.ddr.memory q).byte a) ∧
        ∀ k, k ≠ q → t.ddr.memory k = s.ddr.memory k) := by
  refine ⟨fun h => ⟨fun hn => ?_, fun ht => ?_⟩, fun h => ?_, fun q l h hr => ?_, fun h hn => ?_, fun l h => ?_, fun q l h hr => ?_⟩
  · rw [exec_bar2Read_none h, State.bar2Lost_idle hn]
    rfl
  · rw [exec_bar2Read_none h, State.bar2Lost_trains ht]
    exact ⟨_, rfl, rfl, s.aer_aerNote _⟩
  · rw [exec_bar2Read]
    unfold execBar2Read
    rw [h]
    rfl
  · exact ⟨_, exec_bar2Read_plan h hr, s.bar2Answer_shape _ _⟩
  · rw [exec_bar2Write]
    unfold execBar2Write
    dsimp only
    rw [h]
    exact congrArg Host.Outcome.next (State.bar2Lost_idle hn)
  · rw [exec_bar2Write]
    unfold execBar2Write
    dsimp only
    rcases h with h | h <;> rw [h] <;> rfl
  · obtain ⟨hb, hk, -⟩ := State.wroteDdr_ddrPut hr q l data poison .bar2
    exact ⟨_, exec_bar2Write_plan h, by simp, fun a h1 h2 => (hb a).trans (if_pos ⟨h1, h2⟩),
      fun a ha => (hb a).trans (if_neg (by omega)), hk⟩

end Sys2Proof.Machine

open Sys2Proof Sys2Proof.Machine

/-- Settles O48: the register words by their addresses, and BAR2 by what its range names. -/
theorem registersAndBar2 : Obligations.RegistersAndBar2 := by
  unfold Obligations.RegistersAndBar2
  exact ⟨registersWritten, bar2Served⟩

end

section
/-! Rings in and out of service, and the pointer block (O46). -/

namespace Sys2Proof.Machine

/-! ### RING_CFG (R283, R284) -/

theorem testBit_on (n : Nat) : (n ||| 2 ^ 31).testBit 31 = true := by
  rw [Nat.testBit_or, Nat.testBit_two_pow_self, Bool.or_true]

theorem testBit_off (n : Nat) : (n % 2 ^ 31).testBit 31 = false :=
  Nat.testBit_lt_two_pow (Nat.mod_lt _ (by decide))

/-- Every ring but one is as it was. -/
def State.OtherRings (s t : State) (f r : Nat) : Prop := ∀ n m, n ≠ f ∨ m ≠ r → t.ring n m = s.ring n m

theorem State.otherRings_modRing (s : State) (f r : Nat) (g : Ring → Ring) : s.OtherRings (s.modRing f r g) f r :=
  fun n m h => s.ring_modRing_ne f r n m g h

/-- What a function keeps beside its rings changes none of them. -/
theorem State.ring_modFn_of_rings (s : State) (f : Nat) (g : Fn → Fn) (hg : (g (s.fn f)).rings = (s.fn f).rings) (n m : Nat) :
    (s.modFn f g).ring n m = s.ring n m := by
  unfold State.ring Fn.ring
  by_cases h : n = f
  · subst h
    rw [State.fn_modFn_self, hg]
  · rw [s.fn_modFn_ne f n g h]

theorem State.writeCfg_enables {s : State} {f r v : Nat} (hr : r < 17) (hd : (s.ring f r).state = .disabled) (hv : v.testBit 31 = true) :
    s.writeCfg f r v = if s.mayEnable f r v then (s.modRing f r (fun y => y.enabled v)).modFn f (fun y => { y with busMaster := true })
      else s := by
  unfold State.writeCfg
  dsimp only
  rw [if_neg (by omega), if_neg (fun h => h hd), if_neg (by rw [hv]; exact Bool.false_ne_true)]

theorem State.writeCfg_in_service {s : State} {f r v : Nat} (hr : r < 17) (hd : (s.ring f r).state ≠ .disabled) :
    s.writeCfg f r v = if v.testBit 31 || !s.mayDisable f r then s else s.modRing f r Ring.stopped := by
  unfold State.writeCfg
  dsimp only
  rw [if_neg (by omega), if_pos hd]

theorem State.writeCfg_out_of_service {s : State} {f r v : Nat} (hr : r < 17) (hd : (s.ring f r).state = .disabled)
    (hv : v.testBit 31 = false) : s.writeCfg f r v = s.modRing f r (fun y => y.withCfg v) := by
  unfold State.writeCfg
  dsimp only
  rw [if_neg (by omega), if_neg (fun h => h hd), if_pos (by rw [hv]; rfl)]

theorem exec_ringEnable_taken {s : State} {f : Nat} (ht : s.takes f = true) (r : Nat) (cfg : Word) :
    exec (.ringEnable f r cfg) s = .next (s.writeCfg f r (cfg.toNat ||| 2 ^ 31)) :=
  exec_ringEnable.trans (congrArg Host.Outcome.next (if_pos ht))

theorem exec_ringDisable_taken {s : State} {f : Nat} (ht : s.takes f = true) (r : Nat) (cfg : Word) :
    exec (.ringDisable f r cfg) s = .next (s.writeCfg f r (cfg.toNat % 2 ^ 31)) :=
  exec_ringDisable.trans (congrArg Host.Outcome.next (if_pos ht))

theorem ringEnabled {s : State} {f r : Nat} (cfg : Word) (ht : s.takes f = true) (hr : r < 17) (hd : (s.ring f r).state = .disabled)
    (hm : s.mayEnable f r (cfg.toNat ||| 2 ^ 31) = true) :
    ∃ t, exec (.ringEnable f r cfg) s = .next t ∧ s.OtherRings t f r ∧ (t.fn f).busMaster = true ∧
      t.ring f r = { Ring.reset.withCfg (cfg.toNat ||| 2 ^ 31) with
        hrBase := (s.ring f r).hrBase, trBase := (s.ring f r).trBase, state := .active } := by
  refine ⟨_, (exec_ringEnable_taken ht r cfg).trans (congrArg _ ((State.writeCfg_enables hr hd (testBit_on _)).trans (if_pos hm))),
    fun n m h => ?_, ?_, ?_⟩
  · rw [State.ring_modFn_of_rings _ f _ rfl]
    exact s.ring_modRing_ne f r n m _ h
  · rw [State.fn_modFn_self]
  · rw [State.ring_modFn_of_rings _ f _ rfl, State.ring_modRing_self]
    rfl

/-! ### The pointer block (R286, R289, R314) -/

theorem State.writeHeld_none {s : State} {f r : Nat} (h : (s.ring f r).held = [] ∧ (s.ring f r).state ≠ .full) : s.writeHeld f r = s :=
  if_pos (.inr h)

/-- A block with one ring's indices, where no ring has records that wait for room. -/
theorem exec_pointerBlock_one {s : State} {f : Nat} {p : PtrIndex} (hs : s.serves f = true) (hp : (s.fn f).polled = none)
    (hr : p.ring < 17) (g : Ring → Ring) (hg : (g (s.ring f p.ring)).held = [] ∧ (g (s.ring f p.ring)).state ≠ .full)
    (hh : ∀ m, (s.ring f m).held = [] ∧ (s.ring f m).state ≠ .full)
    (ht : (s.modFn f (fun x => { x with polled := some true })).takeIndex f p =
      (s.modFn f (fun x => { x with polled := some true })).modRing f p.ring g) :
    ∃ t, exec (.pointerBlockArrival f true [p]) s = .next t ∧ s.OtherRings t f p.ring ∧ t.ring f p.ring = g (s.ring f p.ring) := by
  have hring (m : Nat) : (s.modFn f (fun x => { x with polled := some true })).ring f m = s.ring f m :=
    s.ring_modFn_of_rings f _ rfl f m
  generalize hu : s.modFn f (fun x => { x with polled := some true }) = u at ht hring
  have hrest : ∀ l : List Nat, l.foldl (fun v r => v.writeHeld f r) (u.modRing f p.ring g) = u.modRing f p.ring g := by
    intro l
    induction l with
    | nil => rfl
    | cons m l ih =>
      rw [List.foldl_cons, State.writeHeld_none, ih]
      by_cases hm : m = p.ring
      · rw [hm, State.ring_modRing_self, hring]
        exact hg
      · rw [State.ring_modRing_ne _ _ _ _ _ _ (.inr hm), hring]
        exact hh m
  have hx : exec (.pointerBlockArrival f true [p]) s = .next (u.modRing f p.ring g) := by
    rw [exec_pointerBlockArrival]
    unfold execPointerBlockArrival
    rw [if_neg (by rw [hs, hp]; exact Bool.false_ne_true), if_neg (by decide)]
    dsimp only [List.foldl_cons, List.foldl_nil]
    rw [hu, if_pos hr, ht, hrest]
  refine ⟨_, hx, fun n m h => ?_, ?_⟩
  · rw [State.ring_modRing_ne _ _ _ _ _ _ h, ← hu]
    exact s.ring_modFn_of_rings f _ rfl n m
  · rw [State.ring_modRing_self, hring]

theorem State.takeIndex_active {s : State} {f : Nat} {p : PtrIndex} (ha : (s.ring f p.ring).state = .active) :
    s.takeIndex f p = if 2 ^ (s.ring f p.ring).hrLog < idxSub p.hrProd (s.ring f p.ring).hrCons ∨
        idxSub (s.ring f p.ring).trProd (s.ring f p.ring).trCons < idxSub p.trCons (s.ring f p.ring).trCons then
      s.modRing f p.ring (fun y => y.halt 3)
    else s.modRing f p.ring (fun y => { y with hrProd := p.hrProd, trCons := p.trCons }) := by
  unfold State.takeIndex
  dsimp only
  rw [if_neg (by rw [ha]; simp)]

theorem blockFailed {s : State} {f : Nat} (idx : List PtrIndex) (hs : s.serves f = true) (hp : (s.fn f).polled = none) :
    ∃ t, exec (.pointerBlockArrival f false idx) s = .next t ∧ (t.fn f).polled = some false ∧ AerError.pointerBlock ∈ (t.fn f).aer ∧
      (∀ n m, t.ring n m = s.ring n m) ∧ ∀ m u, t.frame f m u true = .leave := by
  have hx : exec (.pointerBlockArrival f false idx) s = .next (s.modFn f (fun x => { x with
      polled := some false, aer := if x.aer.contains .pointerBlock then x.aer else x.aer ++ [.pointerBlock] })) := by
    rw [exec_pointerBlockArrival]
    unfold execPointerBlockArrival
    rw [if_neg (by rw [hs, hp]; exact Bool.false_ne_true), if_pos (by decide)]
  refine ⟨_, hx, ?_, ?_, fun n m => s.ring_modFn_of_rings f _ rfl n m, fun m u => ?_⟩
  · rw [State.fn_modFn_self]
  · rw [State.fn_modFn_self]
    dsimp only
    split
    · next h => simpa using h
    · simp
  · unfold State.frame
    dsimp only
    rw [State.fn_modFn_self]
    exact if_pos (by simp)

end Sys2Proof.Machine

open Sys2Proof Sys2Proof.Machine

/-- Settles O46: the ring's configuration word by its state, and the pointer block by how its read ended. -/
theorem ringsServed : Obligations.RingsServed := by
  unfold Obligations.RingsServed
  intro s f r cfg
  dsimp only
  refine ⟨fun ht => ?_, fun ht hr => ⟨fun hd hm => ringEnabled cfg ht hr hd hm, fun h => ?_, fun hd hm => ?_, fun hd hm => ?_, fun hd => ?_⟩,
    ?_, fun idx hs hp => blockFailed idx hs hp, fun ok idx h => ?_⟩
  · have hf : ¬s.takes f = true := by rw [ht]; exact Bool.false_ne_true
    exact ⟨exec_ringEnable.trans (congrArg Host.Outcome.next (if_neg hf)), exec_ringDisable.trans (congrArg Host.Outcome.next (if_neg hf))⟩
  · rw [exec_ringEnable_taken ht]
    by_cases hd : (s.ring f r).state = .disabled
    · rw [State.writeCfg_enables hr hd (testBit_on _), if_neg (by rw [h.resolve_left (fun hn => hn hd)]; exact Bool.false_ne_true)]
    · rw [State.writeCfg_in_service hr hd, if_pos (by rw [testBit_on]; rfl)]
  · have hx := exec_ringDisable_taken ht r cfg
    rw [State.writeCfg_in_service hr hd, if_neg (by rw [testBit_off, hm]; exact Bool.false_ne_true)] at hx
    refine ⟨_, hx, s.otherRings_modRing f r _, ?_⟩
    rw [State.ring_modRing_self]
    exact ⟨rfl, rfl, rfl⟩
  · rw [exec_ringDisable_taken ht, State.writeCfg_in_service hr hd, if_pos (by rw [hm, testBit_off]; rfl)]
  · have hx := exec_ringDisable_taken ht r cfg
    rw [State.writeCfg_out_of_service hr hd (testBit_off _)] at hx
    exact ⟨_, hx, s.otherRings_modRing f r _, s.ring_modRing_self f r _⟩
  · rintro p hs hp rfl hr ha hh
    have ha' : ((s.modFn f (fun x => { x with polled := some true })).ring f p.ring).state = .active := by
      rw [s.ring_modFn_of_rings f _ rfl]
      exact ha
    have htk := State.takeIndex_active ha'
    rw [s.ring_modFn_of_rings f _ rfl] at htk
    refine ⟨fun h1 h2 => ?_, fun h => ?_⟩
    · rw [if_neg (by omega)] at htk
      exact exec_pointerBlock_one hs hp hr _ ⟨(hh _).1, (hh _).2⟩ hh htk
    · rw [if_pos h] at htk
      exact exec_pointerBlock_one hs hp hr (fun y => y.halt 3) ⟨(hh _).1, by unfold Ring.halt; simp⟩ hh htk
  · rw [exec_pointerBlockArrival]
    unfold execPointerBlockArrival
    rw [if_pos]
    rcases h with h | h <;> simp [h]

end

section
/-! Resets of functions (O50): what a context's abort and unload leave of the others. -/

namespace Sys2Proof.Machine

/-! ### Which context is whose -/

/-- A context's state and its owner. -/
def Ctx.seat (x : Ctx) : CtxState × Nat := (x.state, x.owner)

theorem State.proj_of_set {α : Type} (p : Ctx → α) {s t : State} {c : Nat}
    (h : ∃ y, t.ctxs = aset s.ctxs c y ∧ p y = p (s.ctx c)) (k : Nat) : p (t.ctx k) = p (s.ctx k) := by
  obtain ⟨y, h, hy⟩ := h
  unfold State.ctx at hy ⊢
  rw [h]
  by_cases hk : k = c
  · subst hk
    rw [aget_aset_self, hy]
  · rw [aget_aset_ne _ _ _ _ _ hk]

/-- The module's registers stay, no command becomes outstanding, and every context keeps its state and its owner. -/
def State.Quiet (s t : State) : Prop := t.mod = s.mod ∧ (∀ y ∈ t.cmds, y ∈ s.cmds) ∧ ∀ k, (t.ctx k).seat = (s.ctx k).seat

theorem State.Quiet.refl (s : State) : s.Quiet s := ⟨rfl, fun _ h => h, fun _ => rfl⟩

theorem State.Quiet.trans {s t u : State} (h1 : s.Quiet t) (h2 : t.Quiet u) : s.Quiet u :=
  ⟨h2.1.trans h1.1, fun y h => h1.2.1 y (h2.2.1 y h), fun k => (h2.2.2 k).trans (h1.2.2 k)⟩

theorem State.Quiet.of_eq {s t : State} (hm : t.mod = s.mod) (hc : t.cmds = s.cmds) (hx : t.ctxs = s.ctxs) : s.Quiet t :=
  ⟨hm, fun y h => hc ▸ h, fun k => by unfold State.ctx; rw [hx]⟩

theorem State.Quiet.of_set {s t : State} {c : Nat} (hm : t.mod = s.mod) (hc : t.cmds = s.cmds)
    (hx : ∃ y, t.ctxs = aset s.ctxs c y ∧ y.seat = (s.ctx c).seat) : s.Quiet t :=
  ⟨hm, fun _ h => hc ▸ h, State.proj_of_set Ctx.seat hx⟩

theorem State.Quiet.foldl {α : Type} {f : State → α → State} (h : ∀ (t : State) x, t.Quiet (f t x)) (l : List α) (s : State) :
    s.Quiet (l.foldl f s) := by
  induction l generalizing s with
  | nil => exact .refl s
  | cons a l ih => exact (h s a).trans (ih _)

section
variable {s t : State} (h : s.Quiet t)
include h

theorem State.Quiet.fold {α : Type} {f : State → α → State} (hf : ∀ (u : State) x, u.Quiet (f u x)) (l : List α) :
    s.Quiet (l.foldl f t) := h.trans (.foldl hf l t)

theorem State.Quiet.modSlot (id : Nat) (f : CacheSlot → CacheSlot) : s.Quiet (t.modSlot id f) := by
  unfold State.modSlot
  split
  · exact h.trans (.of_eq rfl rfl rfl)
  · exact h

theorem State.Quiet.release (id : Nat) : s.Quiet (t.release id) :=
  (h.modSlot id CacheSlot.unpin).trans (.of_set rfl rfl ⟨_, rfl, by rfl⟩)

theorem State.Quiet.modStream (id : Nat) (f : StreamEntry → StreamEntry) : s.Quiet (t.modStream id f) := h.trans (.of_eq rfl rfl rfl)

theorem State.Quiet.modSites (l : List Nat) (g : Site → Site) : s.Quiet (l.foldl (fun u i => u.modSite i g) t) :=
  h.fold (fun _ _ => by exact .of_eq rfl rfl rfl) l

theorem State.Quiet.disarm (c : Nat) : s.Quiet (t.disarm c) := h.trans (.of_eq rfl rfl rfl)

theorem State.Quiet.rearm (c : Nat) : s.Quiet (t.rearm c) := h.trans (.of_eq rfl rfl rfl)

theorem State.Quiet.loseShadow (f : Change → Bool) : s.Quiet (t.loseShadow f) := h.trans (.of_eq rfl rfl rfl)

theorem State.Quiet.complete (c : CmdRef) (st : Status) (res : List Byte) : s.Quiet (t.complete c st res) := by
  unfold State.complete State.post
  split
  · exact h
  · exact h
  · exact h.trans (.of_eq rfl rfl rfl)

theorem State.Quiet.finish (p : Cmd → Bool) (st : Status) (res : Cmd → List Byte) : s.Quiet (t.finish p st res) := by
  have hf := h.fold (fun u (c : Cmd) => (State.Quiet.refl u).complete c.ref st (res c)) (t.cmds.filter p)
  exact hf.trans ⟨rfl, fun y hy => (List.mem_filter.mp hy).1, fun k => rfl⟩

theorem State.Quiet.endStep (id : Nat) (st : Status) (reason : Nat) (fin : StreamState) : s.Quiet (t.endStep id st reason fin) := by
  unfold State.endStep
  dsimp only
  exact (((h.finish _ _ _).finish _ _ _).release _).modStream _ _

theorem State.Quiet.endSteps (c : Nat) (st : Status) : s.Quiet (t.endSteps c st) :=
  h.fold (fun u id => (State.Quiet.refl u).endStep id st 5 .idle) _

theorem State.Quiet.stopCtx (c : Nat) : s.Quiet (t.stopCtx c) := by
  unfold State.stopCtx
  dsimp only
  exact (h.modSites _ _).trans (.of_set (c := c) rfl rfl ⟨_, rfl, by rfl⟩)

end

/-! ### A context aborted, unloaded, emptied -/

/-- As `Quiet`, for every context but one. -/
def State.QuietBut (s t : State) (c : Nat) : Prop :=
  t.mod = s.mod ∧ (∀ y ∈ t.cmds, y ∈ s.cmds) ∧ ∀ k, k ≠ c → (t.ctx k).seat = (s.ctx k).seat

theorem State.Quiet.but {s t : State} (h : s.Quiet t) (c : Nat) : s.QuietBut t c := ⟨h.1, h.2.1, fun k _ => h.2.2 k⟩

theorem State.QuietBut.trans {s t u : State} {c : Nat} (h1 : s.QuietBut t c) (h2 : t.QuietBut u c) : s.QuietBut u c :=
  ⟨h2.1.trans h1.1, fun y h => h1.2.1 y (h2.2.1 y h), fun k hk => (h2.2.2 k hk).trans (h1.2.2 k hk)⟩

theorem State.QuietBut.modCtx {s t : State} {c : Nat} (h : s.QuietBut t c) (g : Ctx → Ctx) : s.QuietBut (t.modCtx c g) c :=
  h.trans ⟨rfl, fun _ h => h, fun k hk => by rw [State.ctx_modCtx_ne _ _ _ _ hk]⟩

theorem State.QuietBut.abortCtx {s t : State} {c : Nat} (h : s.QuietBut t c) (fin : CtxState) : s.QuietBut (t.abortCtx c fin) c := by
  unfold State.abortCtx
  dsimp only
  refine State.QuietBut.trans ?_ (State.Quiet.but
    ((((State.Quiet.refl _).rearm c).loseShadow (fun ch => ch.ctxOf == some c)).fold (fun u q => by exact .of_eq rfl rfl rfl) _) c)
  exact (h.trans ((((State.Quiet.refl t).endSteps c _).finish _ _ _).stopCtx c |>.but c)).modCtx _

theorem State.QuietBut.unload {s t : State} {c : Nat} (h : s.QuietBut t c) : s.QuietBut (t.unload c) c := by
  unfold State.unload
  dsimp only
  refine State.QuietBut.modCtx (h.trans (State.Quiet.but (State.Quiet.loseShadow ?_ _) c)) _
  refine State.Quiet.fold (State.Quiet.modSites (State.Quiet.disarm ?_ c) _ _) (fun u p => by exact .of_eq rfl rfl rfl) _
  exact (((State.Quiet.refl t).endSteps c _).finish _ _ _).stopCtx c

theorem State.state_unload (s : State) (c : Nat) : ((s.unload c).ctx c).state = .empty := by
  unfold State.unload
  dsimp only
  rw [State.ctx_modCtx_self]
  rfl

/-- A VF's context at its reset: the PF's, and EMPTY (R313). -/
theorem State.flrCtx_takes (s : State) (c : Nat) :
    s.QuietBut (s.flrCtx c) c ∧ ((s.flrCtx c).ctx c).owner = 0 ∧ ((s.flrCtx c).ctx c).state = .empty := by
  have key : ∀ t : State, s.QuietBut t c → (t.ctx c).state = .empty →
      s.QuietBut (t.modCtx c (fun y => { y with owner := 0, aborting := false })) c ∧
        ((t.modCtx c (fun y => { y with owner := 0, aborting := false })).ctx c).owner = 0 ∧
        ((t.modCtx c (fun y => { y with owner := 0, aborting := false })).ctx c).state = .empty := by
    intro t ht he
    refine ⟨ht.modCtx _, ?_, ?_⟩
    · rw [State.ctx_modCtx_self]
    · rw [State.ctx_modCtx_self, he]
  unfold State.flrCtx
  dsimp only
  split
  · next h => exact key s ((State.Quiet.refl s).but c) h
  · split
    · refine key _ ?_ ?_
      · exact ((((State.Quiet.refl s).disarm c).but c).modCtx Ctx.emptied).modCtx _
      · rw [State.ctx_modCtx_self]
        unfold State.dropLoad
        rw [State.ctx_modCtx_self]
        rfl
    · exact key _ (((State.Quiet.refl s).but c).abortCtx _).unload (State.state_unload _ c)

/-! ### The VF's reset -/

/-- Contexts reset one after another: those named are the PF's, and the others are as they were. -/
theorem State.flrAll_takes (l : List Nat) (s : State) :
    (l.foldl (fun v c => v.flrCtx c) s).mod = s.mod ∧ (∀ y ∈ (l.foldl (fun v c => v.flrCtx c) s).cmds, y ∈ s.cmds) ∧
      (∀ c, c ∉ l → ((l.foldl (fun v c => v.flrCtx c) s).ctx c).seat = (s.ctx c).seat) ∧
      ∀ c, c ∈ l → ((l.foldl (fun v c => v.flrCtx c) s).ctx c).seat = (.empty, 0) := by
  induction l generalizing s with
  | nil => exact ⟨rfl, fun _ h => h, fun _ _ => rfl, fun c hc => nomatch hc⟩
  | cons d l ih =>
    obtain ⟨⟨hm, hc, hk⟩, ho, he⟩ := s.flrCtx_takes d
    obtain ⟨im, ic, ik, it⟩ := ih (s.flrCtx d)
    refine ⟨im.trans hm, fun y hy => hc y (ic y hy), fun c hn => ?_, fun c hn => ?_⟩
    · obtain ⟨h1, h2⟩ := List.ne_and_not_mem_of_not_mem_cons hn
      exact (ik c h2).trans (hk c h1)
    · by_cases hl : c ∈ l
      · exact it c hl
      · have : c = d := (List.mem_cons.mp hn).resolve_right hl
        subst this
        exact (ik c hl).trans (Prod.ext he ho)

/-- What a VF's reset leaves (R313). -/
theorem State.vfReset_leaves (s : State) (q : Nat) :
    (s.vfReset q).fn (q + 1) = Fn.reset ∧ (∀ y ∈ (s.vfReset q).cmds, y.fn ≠ q + 1) ∧ (s.vfReset q).mod = s.mod ∧
      ∀ c, c < 16 → ((s.ctx c).owner = q + 1 → ((s.vfReset q).ctx c).owner = 0 ∧ ((s.vfReset q).ctx c).state = .empty) ∧
        ((s.ctx c).owner ≠ q + 1 → ((s.vfReset q).ctx c).owner = (s.ctx c).owner ∧ ((s.vfReset q).ctx c).state = (s.ctx c).state) := by
  obtain ⟨hm, hc, hk, ht⟩ := State.flrAll_takes (allCtxs.filter (fun c => (s.ctx c).owner == q + 1))
    { s with cmds := s.cmds.filter (fun y => y.fn != q + 1) }
  refine ⟨State.fn_modFn_self _ _ _, fun y hy => ?_, hm, fun c h16 => ⟨fun ho => ?_, fun ho => ?_⟩⟩
  · simpa using (List.mem_filter.mp (hc y hy)).2
  · have h := ht c (List.mem_filter.mpr ⟨List.mem_range.mpr h16, by simpa using ho⟩)
    exact ⟨congrArg Prod.snd h, congrArg Prod.fst h⟩
  · have h := hk c (fun hn => ho (by simpa using (List.mem_filter.mp hn).2))
    exact ⟨congrArg Prod.snd h, congrArg Prod.fst h⟩

/-! ### The chip reset -/

theorem aget_map_const {α : Type} (d : α) (g : Nat → α) (hg : ∀ i, g i = d) (l : List Nat) (i : Nat) :
    aget d (l.map (fun k => (k, g k))) i = d := by
  induction l with
  | nil => rfl
  | cons k l ih =>
    rw [List.map_cons]
    unfold aget
    split
    · exact hg k
    · exact ih

theorem aget_map_mem {α : Type} (d : α) (g : Nat → α) {l : List Nat} {i : Nat} (h : i ∈ l) :
    aget d (l.map (fun k => (k, g k))) i = g i := by
  induction l with
  | nil => cases h
  | cons k l ih =>
    rw [List.map_cons]
    unfold aget
    split
    · next hk => rw [hk]
    · next hk => exact ih ((List.mem_cons.mp h).resolve_left (Ne.symm hk))

/-- Boot code leaves the turn, the commands, the functions and the contexts alone. -/
theorem State.bootStep_hub (s : State) :
    s.bootStep.turn = s.turn ∧ s.bootStep.cmds = s.cmds ∧ s.bootStep.fns = s.fns ∧ s.bootStep.ctxs = s.ctxs ∧ s.bootStep.quads = s.quads := by
  have key : ∀ ph x, (s.booted ph x).turn = s.turn ∧ (s.booted ph x).cmds = s.cmds ∧ (s.booted ph x).fns = s.fns ∧
      (s.booted ph x).ctxs = s.ctxs ∧ (s.booted ph x).quads = s.quads := by
    intro ph x
    unfold State.booted
    dsimp only
    split <;> exact ⟨rfl, rfl, rfl, rfl, rfl⟩
  cases hk : s.sec.choose with
  | none => rw [State.bootStep_none hk]; exact key _ _
  | some k => rw [State.bootStep_some hk]; exact key _ _

theorem State.setDev_hub (s : State) (d : DevCode) (l : List Nat) :
    (s.setDev d l).turn = s.turn ∧ (s.setDev d l).cmds = s.cmds ∧ (s.setDev d l).fns = s.fns ∧ (s.setDev d l).ctxs = s.ctxs ∧
      (s.setDev d l).quads = s.quads := by
  unfold State.setDev
  split <;> exact ⟨rfl, rfl, rfl, rfl, rfl⟩

theorem State.devGen_setDev (s : State) (d : DevCode) (l : List Nat) : (s.setDev d l).mod.devGen = s.mod.devGen := by
  unfold State.setDev
  split <;> rfl

theorem State.devGen_cpbHold (s : State) : s.cpbHold.mod.devGen = s.mod.devGen := by
  unfold State.cpbHold
  split <;> rfl

/-- The two last steps of a chip reset keep the hub as it is given to them. -/
theorem State.restarted_hub (s : State) (l : List Nat) :
    (s.setDev .resetting l).bootStep.mod.devGen = s.mod.devGen ∧ (s.setDev .resetting l).bootStep.turn = s.turn ∧
      (s.setDev .resetting l).bootStep.cmds = s.cmds ∧ (s.setDev .resetting l).bootStep.fns = s.fns ∧
      (s.setDev .resetting l).bootStep.ctxs = s.ctxs := by
  obtain ⟨b1, b2, b3, b4, -⟩ := State.bootStep_hub (s.setDev .resetting l)
  obtain ⟨d1, d2, d3, d4, -⟩ := s.setDev_hub .resetting l
  refine ⟨?_, b1.trans d1, b2.trans d2, b3.trans d3, b4.trans d4⟩
  rw [(State.bootStep_keeps _).2]
  exact s.devGen_setDev _ _

/-- What a chip reset leaves of the hub (R313, R442). -/
theorem State.chipReset_hub {s : State} (h : s.mod.phase.running = true) (config : Bool) :
    (s.chipReset config).mod.devGen = (s.mod.devGen + 1) % 256 ∧ (s.chipReset config).turn.running = false ∧
      (s.chipReset config).cmds = [] ∧ (s.chipReset config).fns = s.functions.map (fun f => (f, (s.fn f).restart config)) ∧
      (s.chipReset config).ctxs = allCtxs.map (fun c => (c, (s.ctx c).restart)) := by
  unfold State.chipReset
  rw [if_neg (by rw [h]; simp)]
  dsimp only
  obtain ⟨h1, h2, h3, h4, h5⟩ := State.restarted_hub _ []
  refine ⟨h1.trans (congrArg (fun n => (n + 1) % 256) s.devGen_cpbHold), (congrArg Turn.running h2).trans rfl, h3, h4, h5⟩

/-- A chip reset of every function (R313). -/
theorem State.chipReset_leaves {s : State} (h : s.mod.phase.running = true) :
    (s.chipReset true).mod.dev = .resetting ∧ (s.chipReset true).mod.devGen = (s.mod.devGen + 1) % 256 ∧
      (s.chipReset true).turn.running = false ∧ (s.chipReset true).cmds = [] ∧ (s.chipReset true).sites = [] ∧
      (∀ f, (s.chipReset true).fn f = Fn.reset) ∧
      ∀ c, c < 16 → ((s.chipReset true).ctx c).state = .empty ∧ ((s.chipReset true).ctx c).owner = 0 := by
  obtain ⟨hg, hr, hc, hf, hx⟩ := State.chipReset_hub h true
  obtain ⟨hd, hs⟩ := State.chipReset_resetting h true
  refine ⟨hd, hg, hr, hc, hs, fun f => ?_, fun c h16 => ?_⟩
  · unfold State.fn
    rw [hf]
    exact aget_map_const _ (fun f => (s.fn f).restart true) (fun _ => rfl) _ f
  · have hc : (s.chipReset true).ctx c = (s.ctx c).restart := by
      unfold State.ctx
      rw [hx]
      exact aget_map_mem Ctx.reset (fun c => (s.ctx c).restart) (List.mem_range.mpr h16)
    rw [hc]
    exact ⟨rfl, rfl⟩

theorem State.running_of_answers {s : State} (h : s.answers = true) : s.mod.phase.running = true := by
  unfold State.answers at h
  split at h
  · next hp => rw [hp]; rfl
  · next hp => rw [hp]; rfl
  · cases h

end Sys2Proof.Machine

open Sys2Proof Sys2Proof.Machine

/-- Settles O50: the chip resets by what `State.chipReset` leaves, the VF's by what it leaves of every context. -/
theorem functionsReset : Obligations.FunctionsReset := by
  unfold Obligations.FunctionsReset
  intro s q
  dsimp only
  refine ⟨fun ha => ⟨?_, fun hq => ?_, fun f hf => ?_, fun h3 => ?_, fun h3 => ?_⟩, fun hl hp => ⟨?_, ?_⟩, fun ha => ⟨?_, ?_⟩, fun hl => ⟨?_, ?_⟩⟩
  · exact ⟨_, exec_pfFlr.trans (congrArg Host.Outcome.next (if_pos ha)), State.chipReset_leaves (State.running_of_answers ha)⟩
  · exact ⟨_, exec_vfFlr.trans (congrArg Host.Outcome.next (if_pos (by simp [ha, hq]))), s.vfReset_leaves q⟩
  · exact ⟨_, exec_d3hotEntry.trans (congrArg Host.Outcome.next (if_pos (by simp [ha, hf]))), s.fn_modFn_self f _, rfl,
      fun n hn => s.fn_modFn_ne f n _ hn⟩
  · have hx : exec (.d3hotToD0 0) s = .next (s.chipReset true) :=
      exec_d3hotToD0.trans (congrArg Host.Outcome.next (if_pos (by rw [ha, h3]; rfl)))
    exact ⟨_, hx, State.chipReset_leaves (State.running_of_answers ha)⟩
  · have hx : exec (.d3hotToD0 (q + 1)) s = .next (s.vfReset q) :=
      exec_d3hotToD0.trans (congrArg Host.Outcome.next (if_pos (by rw [ha, h3]; rfl)))
    exact ⟨_, hx, s.vfReset_leaves q⟩
  · exact ⟨_, exec_hotReset.trans (congrArg Host.Outcome.next (if_pos hl)), State.chipReset_leaves hp⟩
  · exact ⟨_, exec_pcieLinkDown.trans (congrArg Host.Outcome.next (if_pos hl)), State.chipReset_leaves hp⟩
  · exact exec_pfFlr.trans (congrArg Host.Outcome.next (if_neg (by rw [ha]; exact Bool.false_ne_true)))
  · exact exec_vfFlr.trans (congrArg Host.Outcome.next (if_neg (by rw [ha]; exact Bool.false_ne_true)))
  · exact exec_hotReset.trans (congrArg Host.Outcome.next (if_neg (by rw [hl]; exact Bool.false_ne_true)))
  · exact exec_pcieLinkDown.trans (congrArg Host.Outcome.next (if_neg (by rw [hl]; exact Bool.false_ne_true)))

end

section
/-! Resets that the host asks for (O49): what halting the contexts of a quadrant leaves. -/

namespace Sys2Proof.Machine

/-! ### Halting -/

/-- What a reset needs to know of a quadrant before it: its remap, and what decides its path (R444). -/
def Quad.base (x : Quad) : List (Nat × RemapEntry) × Bool × Bool := (x.remap, x.privHosted, x.braked)

/-- How far a quadrant's reset is. -/
def Quad.path (x : Quad) : RecState × Bool := (x.recState, x.hostReset)

theorem Quad.path_eq {x : Quad} {r : RecState} {b : Bool} (h : x.path = (r, b)) : x.recState = r ∧ x.hostReset = b := Prod.mk.inj h

/-- What decides which sites a context holds. -/
def Ctx.hold (x : Ctx) : CtxState × Option Plan × List Nat := (x.state, x.plan, x.quads)

/-- A site whose plan code has stopped (R442). -/
def Site.halted (a : Site) : Prop := a.seq.status = .off ∧ a.ex.xfers = []

/-- From `s` to `t` contexts were halted and the quadrants in `l` put into reset: no context that is bound moved, and what
had stopped stays stopped. -/
def State.Halting (l : List Nat) (s t : State) : Prop :=
  t.mod = s.mod ∧ (∀ c, (s.ctx c).state ≠ .loading → (t.ctx c).hold = (s.ctx c).hold) ∧
    (∀ c, (s.ctx c).ran = false → (t.ctx c).ran = false) ∧ (∀ q, (t.quad q).base = (s.quad q).base) ∧
    (∀ q, q ∉ l → (t.quad q).path = (s.quad q).path) ∧ ∀ i, (s.site i).halted → (t.site i).halted

theorem State.Halting.of_eq {s t : State} (hm : t.mod = s.mod) (hx : t.ctxs = s.ctxs) (hq : t.quads = s.quads) (hs : t.sites = s.sites)
    (l : List Nat) : State.Halting l s t := by
  refine ⟨hm, fun c _ => ?_, fun c h => ?_, fun q => ?_, fun q _ => ?_, fun i h => ?_⟩
  · unfold State.ctx; rw [hx]
  · unfold State.ctx at h ⊢; rw [hx]; exact h
  · unfold State.quad; rw [hq]
  · unfold State.quad; rw [hq]
  · unfold State.site at h ⊢; rw [hs]; exact h

theorem State.Halting.refl (l : List Nat) (s : State) : State.Halting l s s := .of_eq rfl rfl rfl rfl l

theorem State.Halting.trans {l : List Nat} {s t u : State} (h1 : State.Halting l s t) (h2 : State.Halting l t u) :
    State.Halting l s u := by
  obtain ⟨m1, c1, r1, b1, p1, i1⟩ := h1
  obtain ⟨m2, c2, r2, b2, p2, i2⟩ := h2
  refine ⟨m2.trans m1, fun c hc => ?_, fun c hc => r2 c (r1 c hc), fun q => (b2 q).trans (b1 q), fun q hq => (p2 q hq).trans (p1 q hq),
    fun i hi => i2 i (i1 i hi)⟩
  refine (c2 c ?_).trans (c1 c hc)
  have : (t.ctx c).state = (s.ctx c).state := congrArg Prod.fst (c1 c hc)
  rwa [this]

theorem State.Halting.mono {l l' : List Nat} {s t : State} (h : State.Halting l s t) (hl : ∀ q ∈ l, q ∈ l') : State.Halting l' s t :=
  let ⟨m, c, r, b, p, i⟩ := h
  ⟨m, c, r, b, fun q hq => p q fun hn => hq (hl q hn), i⟩

theorem State.Halting.fold {α : Type} {f : State → α → State} (l : List Nat) (h : ∀ (t : State) x, State.Halting l t (f t x))
    (xs : List α) (s : State) : State.Halting l s (xs.foldl f s) := by
  induction xs generalizing s with
  | nil => exact .refl l s
  | cons a xs ih => exact (h s a).trans (ih _)

/-- A map over the quadrants that keeps a projection of each. -/
theorem State.quad_map {α : Type} (p : Quad → α) {s t : State} {f : Quad → Quad} (h : t.quads = s.quads.map (fun e => (e.1, f e.2)))
    (hf : ∀ x, p (f x) = p x) (q : Nat) : p (t.quad q) = p (s.quad q) := by
  unfold State.quad
  rw [h]
  induction s.quads with
  | nil => rfl
  | cons e r ih =>
    rw [List.map_cons]
    unfold aget
    split
    · exact hf e.2
    · exact ih

theorem State.finish_frame (s : State) (p : Cmd → Bool) (st : Status) (res : Cmd → List Byte) :
    (s.finish p st res).mod = s.mod ∧ (s.finish p st res).ctxs = s.ctxs ∧ (s.finish p st res).quads = s.quads ∧
      (s.finish p st res).sites = s.sites := by
  have h : ∀ (l : List Cmd) (u : State), (l.foldl (fun u c => u.complete c.ref st (res c)) u).mod = u.mod ∧
      (l.foldl (fun u c => u.complete c.ref st (res c)) u).ctxs = u.ctxs ∧
      (l.foldl (fun u c => u.complete c.ref st (res c)) u).quads = u.quads ∧
      (l.foldl (fun u c => u.complete c.ref st (res c)) u).sites = u.sites := by
    intro l
    induction l with
    | nil => exact fun _ => ⟨rfl, rfl, rfl, rfl⟩
    | cons c l ih =>
      intro u
      obtain ⟨h1, h2, h3, h4⟩ := ih (u.complete c.ref st (res c))
      have hc : (u.complete c.ref st (res c)).mod = u.mod ∧ (u.complete c.ref st (res c)).ctxs = u.ctxs ∧
          (u.complete c.ref st (res c)).quads = u.quads ∧ (u.complete c.ref st (res c)).sites = u.sites := by
        unfold State.complete State.post
        split <;> exact ⟨rfl, rfl, rfl, rfl⟩
      exact ⟨h1.trans hc.1, h2.trans hc.2.1, h3.trans hc.2.2.1, h4.trans hc.2.2.2⟩
  exact h (s.cmds.filter p) s

theorem State.Halting.finish (s : State) (p : Cmd → Bool) (st : Status) (res : Cmd → List Byte) :
    State.Halting [] s (s.finish p st res) := by
  obtain ⟨h1, h2, h3, h4⟩ := s.finish_frame p st res
  exact .of_eq h1 h2 h3 h4 []

theorem State.Halting.modCtx (s : State) (c : Nat) (g : Ctx → Ctx)
    (hg : (s.ctx c).state ≠ .loading → (g (s.ctx c)).hold = (s.ctx c).hold) (hr : (s.ctx c).ran = false → (g (s.ctx c)).ran = false) :
    State.Halting [] s (s.modCtx c g) := by
  refine ⟨rfl, fun k hk => ?_, fun k hk => ?_, fun _ => rfl, fun _ _ => rfl, fun _ h => h⟩
  · by_cases h : k = c
    · subst h
      rw [State.ctx_modCtx_self]
      exact hg hk
    · rw [State.ctx_modCtx_ne _ _ _ _ h]
  · by_cases h : k = c
    · subst h
      rw [State.ctx_modCtx_self]
      exact hr hk
    · rw [State.ctx_modCtx_ne _ _ _ _ h]
      exact hk

theorem State.Halting.mapQuads {s t : State} {f : Quad → Quad} (hm : t.mod = s.mod) (hx : t.ctxs = s.ctxs) (hs : t.sites = s.sites)
    (hq : t.quads = s.quads.map (fun e => (e.1, f e.2))) (hf : ∀ x, (f x).base = x.base ∧ (f x).path = x.path) :
    State.Halting [] s t := by
  refine ⟨hm, fun c _ => ?_, fun c h => ?_, State.quad_map Quad.base hq fun x => (hf x).1,
    fun q _ => State.quad_map Quad.path hq (fun x => (hf x).2) q, fun i h => ?_⟩
  · unfold State.ctx; rw [hx]
  · unfold State.ctx at h ⊢; rw [hx]; exact h
  · unfold State.site at h ⊢; rw [hs]; exact h

/-- A change to every site of a list that stops it. -/
theorem State.Halting.modSites (l : List Nat) (g : Site → Site) (hg : ∀ a, (g a).halted) (s : State) :
    State.Halting [] s (l.foldl (fun u i => u.modSite i g) s) ∧ ∀ i ∈ l, ((l.foldl (fun u i => u.modSite i g) s).site i).halted := by
  have one : ∀ (u : State) (i : Nat), State.Halting [] u (u.modSite i g) := by
    intro u i
    refine ⟨rfl, fun _ _ => rfl, fun _ h => h, fun _ => rfl, fun _ _ => rfl, fun j h => ?_⟩
    by_cases hj : j = i
    · subst hj
      exact (State.site_setSite_self u j _).symm ▸ hg _
    · exact (State.site_setSite_ne u i j _ hj).symm ▸ h
  refine ⟨.fold [] one l s, fun i hi => ?_⟩
  induction l generalizing s with
  | nil => cases hi
  | cons k l ih =>
    rw [List.foldl_cons]
    by_cases hk : i ∈ l
    · exact ih _ hk
    · have hik : i = k := (List.mem_cons.mp hi).resolve_right hk
      subst hik
      refine (State.Halting.fold [] one l _).2.2.2.2.2 i ?_
      exact (State.site_setSite_self s i _).symm ▸ hg _

theorem State.Halting.setHolds (s : State) : State.Halting [] s s.setHolds := by
  unfold State.setHolds
  refine .fold [] (fun u c => ?_) _ s
  dsimp only
  split
  · exact .refl [] u
  · exact .modCtx u c _ (fun _ => rfl) (fun h => h)

/-! ### A context halted for a reset -/

theorem State.Halting.stopCtx (s : State) (c : Nat) :
    State.Halting [] s (s.stopCtx c) ∧ ((s.stopCtx c).ctx c).ran = false ∧ ∀ i ∈ s.ctxSites c, ((s.stopCtx c).site i).halted := by
  unfold State.stopCtx
  dsimp only
  obtain ⟨h1, h2⟩ := State.Halting.modSites (s.ctxSites c) (fun a => { a with
    seq := { Sequencer.cleared with epoch := a.seq.epoch }, faults := [], judged := []
    ex := { a.ex with dmaq := [], xfers := [], tq := [], skids := [], pad := [], writes := [], answers := [], injUnits := 0
                      h := a.ex.h.map (fun e => (e.1, { Hopper.empty with pondBase := e.2.pondBase, pondUnits := e.2.pondUnits })) } })
    (fun a => ⟨rfl, rfl⟩) s
  generalize List.foldl _ s (s.ctxSites c) = u at h1 h2
  have h3 := State.Halting.modCtx u c (fun x => { x with
    trans := none, cancelDrain := false, ran := false, redo := false, wait := none, held := false, diag := none, positions := []
    filling := none, privRing := [], bulkRing := [], privSnap := [], bulkSnap := [], outPackets := [], causes := [], late := false
    lateTried := false }) (fun _ => rfl) (fun _ => rfl)
  refine ⟨h1.trans (h3.trans (.mapQuads (f := fun x => { x with replay := x.replay.map (fun r => r.leave c) }) rfl rfl rfl rfl
    fun x => ⟨rfl, rfl⟩)), ?_, h2⟩
  show (aget Ctx.reset (aset u.ctxs c _) c).ran = false
  rw [aget_aset_self]

theorem State.Halting.dropLoad (s : State) (c : Nat) (h : (s.ctx c).state = .loading) : State.Halting [] s (s.dropLoad c) := by
  have h1 : State.Halting [] s (s.disarm c) :=
    .mapQuads (f := fun x => { x with sluices := x.sluices.filter (fun z => z.2.ctx != c) }) rfl rfl rfl rfl fun x => ⟨rfl, rfl⟩
  exact h1.trans (.modCtx (s.disarm c) c Ctx.emptied (fun hn => absurd h hn) (fun _ => rfl))

theorem State.ctxs_finish (s : State) (p : Cmd → Bool) (st : Status) (res : Cmd → List Byte) (c : Nat) :
    (s.finish p st res).ctx c = s.ctx c := by
  unfold State.ctx
  rw [(s.finish_frame p st res).2.1]

theorem State.Halting.haltForReset (s : State) (c : Nat) : State.Halting [] s (s.haltForReset c) := by
  unfold State.haltForReset
  dsimp only
  split
  · exact .refl [] s
  · split
    · next h => exact (State.Halting.finish s _ _ _).trans (.dropLoad _ c ((congrArg Ctx.state (s.ctxs_finish _ _ _ c)).trans h))
    · exact (State.Halting.finish s _ _ _).trans (State.Halting.stopCtx _ c).1

/-- The sites that a context holds depend on its plan, its quadrants and their remaps. -/
theorem State.ctxSites_congr {s t : State} {c : Nat} (hc : (t.ctx c).hold = (s.ctx c).hold) (hq : ∀ q, (t.quad q).base = (s.quad q).base) :
    t.ctxSites c = s.ctxSites c := by
  have hp : (t.ctx c).plan = (s.ctx c).plan := congrArg (fun x => x.2.1) hc
  have hl : (t.ctx c).quads = (s.ctx c).quads := congrArg (fun x => x.2.2) hc
  have hs (q n : Nat) : t.siteOf q n = s.siteOf q n := by
    have : (t.quad q).remap = (s.quad q).remap := congrArg Prod.fst (hq q)
    unfold State.siteOf
    rw [this]
  have ht : t.siteOfTile (t.ctx c) = s.siteOfTile (s.ctx c) := by
    funext g
    unfold State.siteOfTile
    rw [hl]
    simp only [hs]
  unfold State.ctxSites
  rw [hp, ht]

/-- A context of a quadrant in reset runs no plan code. -/
def State.Halted (t : State) (c : Nat) (l : List Nat) : Prop := (t.ctx c).ran = false ∧ ∀ i ∈ l, (t.site i).halted

theorem State.Halted.keep {t u : State} {c : Nat} {l xs : List Nat} (h : t.Halted c l) (hh : State.Halting xs t u) : u.Halted c l :=
  ⟨hh.2.2.1 c h.1, fun i hi => hh.2.2.2.2.2 i (h.2 i hi)⟩

theorem State.haltForReset_halts {s : State} {c : Nat} (he : (s.ctx c).state ≠ .empty) (hl : (s.ctx c).state ≠ .loading) :
    (s.haltForReset c).Halted c (s.ctxSites c) := by
  unfold State.haltForReset
  dsimp only
  rw [if_neg he, if_neg hl]
  have hf := State.Halting.finish s (fun y => y.ctx == c && !([0x02, 0x04, 0x05, 0x07, 0x21, 0x22].contains y.opc)) .resetting (fun _ => [])
  obtain ⟨-, hr, hs⟩ := State.Halting.stopCtx (s.finish (fun y => y.ctx == c && !([0x02, 0x04, 0x05, 0x07, 0x21, 0x22].contains y.opc))
    .resetting (fun _ => [])) c
  rw [State.ctxSites_congr (hf.2.1 c hl) hf.2.2.2.1] at hs
  exact ⟨hr, hs⟩

/-- Contexts halted one after another: each that was bound has stopped. -/
theorem State.haltAll_halts (l : List Nat) (s : State) {c : Nat} (hc : c ∈ l) (he : (s.ctx c).state ≠ .empty)
    (hl : (s.ctx c).state ≠ .loading) : (l.foldl (fun u c => u.haltForReset c) s).Halted c (s.ctxSites c) := by
  induction l generalizing s with
  | nil => cases hc
  | cons d l ih =>
    rw [List.foldl_cons]
    have hd := State.Halting.haltForReset s d
    by_cases hcl : c ∈ l
    · have hst : ((s.haltForReset d).ctx c).state = (s.ctx c).state := congrArg Prod.fst (hd.2.1 c hl)
      have := ih (s.haltForReset d) hcl (by rwa [hst]) (by rwa [hst])
      rwa [State.ctxSites_congr (hd.2.1 c hl) hd.2.2.2.1] at this
    · have hcd : c = d := (List.mem_cons.mp hc).resolve_right hcl
      subst hcd
      exact (State.haltForReset_halts he hl).keep (.fold [] (fun u c => .haltForReset u c) l _)

/-! ### A quadrant put into reset -/

/-- The path of a quadrant's reset (R444). -/
def Quad.resetPath (x : Quad) (full : Bool) : RecState := if full || x.privHosted || x.braked then .full else .fast

/-- A quadrant as its reset begins. -/
def Quad.toReset (x : Quad) (path : RecState) (host busy : Bool) : Quad :=
  { x with
    recState := path, replay := none, hostReset := host, engines := []
    snap := { x.snap with pending := false, ctxs := [] }, sluices := []
    load := { valid := false, result := if busy then 3 else 0, kind := 1, round := 0, incomplete := 0, fenced := 0
              seq := (x.load.seq + 1) % 65536, activate := 0, bad := [] } }

theorem State.Halting.modQuad (s : State) (q : Nat) (g : Quad → Quad) (hg : (g (s.quad q)).base = (s.quad q).base) :
    State.Halting [q] s (s.modQuad q g) := by
  refine ⟨rfl, fun _ _ => rfl, fun _ h => h, fun k => ?_, fun k hk => ?_, fun _ h => h⟩
  · by_cases h : k = q
    · subst h
      rw [State.quad_modQuad_self, hg]
    · rw [State.quad_modQuad_ne _ _ _ _ h]
  · rw [State.quad_modQuad_ne _ _ _ _ (fun h => hk (List.mem_singleton.mpr h))]

theorem State.quads_setHolds_quad (s : State) (q : Nat) : s.setHolds.quad q = s.quad q := by
  unfold State.quad
  rw [State.quads_setHolds]

theorem State.quadReset_halts (s : State) (q : Nat) (full host : Bool) :
    State.Halting [q] s (s.quadReset q full host) ∧ ((s.quadReset q full host).quad q).path = ((s.quad q).resetPath full, host) ∧
      ((s.quadReset q full host).quad q).replay = none ∧
      ∀ c, c < 16 → (s.ctx c).boundTo q = true → (s.ctx c).state ≠ .empty → (s.ctx c).state ≠ .loading →
        (s.quadReset q full host).Halted c (s.ctxSites c) := by
  unfold State.quadReset
  dsimp only
  have hl : State.Halting [] s (s.loseShadow (s.inQuad q)) := .of_eq rfl rfl rfl rfl []
  have ha := hl.trans (State.Halting.fold [] (fun u c => State.Halting.haltForReset u c) (s.ctxsOn q) _)
  have hall := fun c => State.haltAll_halts (s.ctxsOn q) (s.loseShadow (s.inQuad q)) (c := c)
  generalize List.foldl _ (s.loseShadow (s.inQuad q)) (s.ctxsOn q) = a at ha hall
  have hq : (s.quad q).base = (a.quad q).base := (ha.2.2.2.1 q).symm
  have hb : ∀ b : State, b.mod = a.mod → b.ctxs = a.ctxs → b.sites = a.sites →
      b.quads = (a.modQuad q (fun x => x.toReset ((s.quad q).resetPath full) host (decide ((s.quad q).load.kind ≠ 0) && !(s.quad q).load.valid))).quads →
      State.Halting [q] s b.setHolds ∧ (b.setHolds.quad q).path = ((s.quad q).resetPath full, host) ∧ (b.setHolds.quad q).replay = none ∧
      ∀ c, c < 16 → (s.ctx c).boundTo q = true → (s.ctx c).state ≠ .empty → (s.ctx c).state ≠ .loading →
        b.setHolds.Halted c (s.ctxSites c) := by
    intro b hm hx hs hquads
    have hmq := State.Halting.modQuad a q (fun x => x.toReset ((s.quad q).resetPath full) host (decide ((s.quad q).load.kind ≠ 0) && !(s.quad q).load.valid)) rfl
    have hab : State.Halting [q] a b.setHolds := hmq.trans ((State.Halting.of_eq (s := a.modQuad q _) hm hx hquads hs [q]).trans
      ((State.Halting.setHolds b).mono fun _ h => nomatch h))
    have hbq : b.setHolds.quad q = (a.quad q).toReset ((s.quad q).resetPath full) host
        (decide ((s.quad q).load.kind ≠ 0) && !(s.quad q).load.valid) := by
      rw [State.quads_setHolds_quad]
      unfold State.quad
      rw [hquads]
      exact aget_aset_self _ _ _ _
    refine ⟨(ha.mono fun _ h => nomatch h).trans hab, ?_, ?_, fun c h16 hbd he hnl => ?_⟩
    · rw [hbq]; rfl
    · rw [hbq]; rfl
    · exact State.Halted.keep (hall c (List.mem_filter.mpr ⟨List.mem_range.mpr h16, hbd⟩) he hnl) hab
  exact hb _ rfl rfl rfl rfl

/-- What a quadrant's reset has done by its begin, seen from the state that the request found. -/
def State.InReset (s t : State) (full : Bool) (q : Nat) : Prop :=
  (t.quad q).path = ((s.quad q).resetPath full, true) ∧
    ∀ c, c < 16 → (s.ctx c).boundTo q = true → (s.ctx c).state ≠ .empty → (s.ctx c).state ≠ .loading → t.Halted c (s.ctxSites c)

theorem Quad.resetPath_congr {x y : Quad} (h : x.base = y.base) (full : Bool) : x.resetPath full = y.resetPath full := by
  obtain ⟨-, h2⟩ := Prod.mk.inj h
  obtain ⟨hp, hb⟩ := Prod.mk.inj h2
  unfold Quad.resetPath
  rw [hp, hb]

theorem State.InReset.of_halting {xs : List Nat} {s t u : State} {full : Bool} {q : Nat} (h : State.Halting xs s t) (hi : t.InReset u full q) :
    s.InReset u full q := by
  obtain ⟨hp, hc⟩ := hi
  refine ⟨hp.trans (by rw [Quad.resetPath_congr (h.2.2.2.1 q)]), fun c h16 hb he hl => ?_⟩
  have hh := h.2.1 c hl
  have hst : (t.ctx c).state = (s.ctx c).state := congrArg Prod.fst hh
  have hqs : (t.ctx c).quads = (s.ctx c).quads := congrArg (fun x => x.2.2) hh
  have := hc c h16 (by unfold Ctx.boundTo at hb ⊢; rwa [hqs]) (by rwa [hst]) (by rwa [hst])
  rwa [State.ctxSites_congr hh h.2.2.2.1] at this

theorem State.InReset.keep {xs : List Nat} {s t u : State} {full : Bool} {q : Nat} (hi : s.InReset t full q) (h : State.Halting xs t u)
    (hq : q ∉ xs) : s.InReset u full q :=
  ⟨(h.2.2.2.2.1 q hq).trans hi.1, fun c h16 hb he hl => (hi.2 c h16 hb he hl).keep h⟩

theorem State.Halting.quadResets (l : List Nat) (full : Bool) (s : State) :
    State.Halting l s (l.foldl (fun u q => u.quadReset q full true) s) := by
  induction l generalizing s with
  | nil => exact .refl [] s
  | cons q l ih =>
    rw [List.foldl_cons]
    have h1 : State.Halting (q :: l) s (s.quadReset q full true) := by
      refine (s.quadReset_halts q full true).1.mono fun k hk => ?_
      rw [List.mem_singleton.mp hk]
      exact List.mem_cons_self
    have h2 : State.Halting (q :: l) (s.quadReset q full true) (l.foldl (fun u q => u.quadReset q full true) (s.quadReset q full true)) :=
      (ih _).mono fun k hk => List.mem_cons_of_mem _ hk
    exact h1.trans h2

/-- Quadrants put into reset one after another: each of them is, on the path that it had at the request. -/
theorem State.quadResets_inReset (l : List Nat) (full : Bool) (s : State) (hl : l.Nodup) {k : Nat} (hk : k ∈ l) :
    s.InReset (l.foldl (fun u q => u.quadReset q full true) s) full k := by
  induction l generalizing s with
  | nil => cases hk
  | cons q l ih =>
    obtain ⟨hq, hn⟩ := List.nodup_cons.mp hl
    obtain ⟨hh, hp, -, hc⟩ := s.quadReset_halts q full true
    rw [List.foldl_cons]
    by_cases hkl : k ∈ l
    · exact .of_halting hh (ih _ hn hkl)
    · have hkq : k = q := (List.mem_cons.mp hk).resolve_right hkl
      subst hkq
      exact State.InReset.keep ⟨hp, hc⟩ (.quadResets l full _) hkl

/-! ### RESET_REQ (Tables 10.24, 10.25) -/

theorem maskQuads_nodup (m : Nat) : (maskQuads m).Nodup := List.nodup_range.filter _

theorem State.resetQuads_ignored {s : State} {key : Nat} (h : s.answers = false ∨ key ≠ 0xA5C3) (m : Nat) (full : Bool) :
    s.resetQuads key m full = s := by
  unfold State.resetQuads
  rw [if_pos (by simpa using h)]

theorem State.resetDevice_ignored {s : State} {key : Nat} (h : s.answers = false ∨ key ≠ 0xA5C3) : s.resetDevice key = s := by
  unfold State.resetDevice
  rw [if_pos (by simpa using h)]

theorem State.resetQuads_busy {s : State} (ha : s.answers = true) (hb : s.resetBusy = true) (m : Nat) (full : Bool) :
    s.resetQuads 0xA5C3 m full = s.resetIgnored := by
  unfold State.resetQuads
  rw [if_neg (by simp [ha]), if_pos hb]

theorem State.resetDevice_busy {s : State} (ha : s.answers = true) (hb : s.resetBusy = true) : s.resetDevice 0xA5C3 = s.resetIgnored := by
  unfold State.resetDevice
  rw [if_neg (by simp [ha]), if_pos hb]

theorem State.resetQuads_refused {s : State} (ha : s.answers = true) (hb : s.resetBusy = false) {m : Nat}
    (h : maskQuads m = [] ∨ 16 ≤ m ∨ s.check.chipBraked = true ∨ (∃ q ∈ maskQuads m, q ∉ s.mod.order.quads)) (full : Bool) :
    s.resetQuads 0xA5C3 m full = s.resetAnswer 1 0 := by
  unfold State.resetQuads
  rw [if_neg (by simp [ha]), if_neg (by rw [hb]; exact Bool.false_ne_true), if_pos]
  rcases h with h | h | h | h
  · exact .inl (by rw [h]; rfl)
  · exact .inr (.inr (.inl h))
  · exact .inr (.inr (.inr h))
  · exact .inr (.inl (by simpa using h))

/-- The state in which the quadrants named go into reset one after another. -/
def State.requested (s : State) (level : Nat) : State :=
  { s with mod := { s.mod with resetValid := false, resetSeq := (s.mod.resetSeq + 1) % 256, resetStatus := 0, resetLevel := level } }

theorem State.resetQuads_accepted {s : State} (ha : s.answers = true) (hb : s.resetBusy = false) {m : Nat} (hne : maskQuads m ≠ [])
    (hm : m < 16) (hc : s.check.chipBraked = false) (hq : ∀ q ∈ maskQuads m, q ∈ s.mod.order.quads) (full : Bool) :
    s.resetQuads 0xA5C3 m full = (maskQuads m).foldl (fun u q => u.quadReset q full true)
      (s.requested (if full || (maskQuads m).any (fun q => (s.quad q).privHosted || (s.quad q).braked) then 2 else 1)) := by
  unfold State.resetQuads
  rw [if_neg (by simp [ha]), if_neg (by rw [hb]; exact Bool.false_ne_true), if_neg]
  · rfl
  · rintro (h | h | h | h)
    · exact hne (List.isEmpty_iff.mp h)
    · simp only [Bool.not_eq_true', List.all_eq_false] at h
      obtain ⟨q, hqm, hn⟩ := h
      exact hn (by simpa using hq q hqm)
    · omega
    · rw [hc] at h; cases h

theorem State.resetDevice_accepted {s : State} (ha : s.answers = true) (hb : s.resetBusy = false) :
    s.resetDevice 0xA5C3 = (s.requested 3).chipReset false := by
  unfold State.resetDevice
  rw [if_neg (by simp [ha]), if_neg (by rw [hb]; exact Bool.false_ne_true)]
  rfl

/-! ### The chip reset's sets, quadrants and fabric -/

theorem State.bootStep_fabric (s : State) : s.bootStep.sets = s.sets ∧ s.bootStep.avdin = s.avdin := by
  have key : ∀ ph x, (s.booted ph x).sets = s.sets ∧ (s.booted ph x).avdin = s.avdin := by
    intro ph x
    unfold State.booted
    dsimp only
    split <;> exact ⟨rfl, rfl⟩
  cases hk : s.sec.choose with
  | none => rw [State.bootStep_none hk]; exact key _ _
  | some k => rw [State.bootStep_some hk]; exact key _ _

theorem State.restarted_fabric (s : State) (l : List Nat) :
    (s.setDev .resetting l).bootStep.sets = s.sets ∧ (s.setDev .resetting l).bootStep.avdin = s.avdin ∧
      (s.setDev .resetting l).bootStep.quads = s.quads ∧
      (s.setDev .resetting l).bootStep.mod.resetValid = s.mod.resetValid ∧ (s.setDev .resetting l).bootStep.mod.resetLevel = s.mod.resetLevel := by
  obtain ⟨h1, h2⟩ := State.bootStep_fabric (s.setDev .resetting l)
  obtain ⟨-, -, -, -, h3⟩ := State.bootStep_hub (s.setDev .resetting l)
  rw [(State.bootStep_keeps _).2, h1, h2, h3]
  unfold State.setDev
  split <;> exact ⟨rfl, rfl, rfl, rfl, rfl⟩

theorem State.resetRegs_cpbHold (s : State) :
    s.cpbHold.mod.resetValid = s.mod.resetValid ∧ s.cpbHold.mod.resetLevel = s.mod.resetLevel := by
  unfold State.cpbHold
  split <;> exact ⟨rfl, rfl⟩

theorem State.chipReset_fabric {s : State} (h : s.mod.phase.running = true) (config : Bool) :
    (s.chipReset config).sets = [] ∧ (s.chipReset config).avdin = s.avdin ∧
      (s.chipReset config).quads = s.mod.order.quads.map (fun q => (q, (s.quad q).restart)) ∧
      (s.chipReset config).mod.resetValid = s.mod.resetValid ∧ (s.chipReset config).mod.resetLevel = s.mod.resetLevel := by
  unfold State.chipReset
  rw [if_neg (by rw [h]; simp)]
  dsimp only
  obtain ⟨h1, h2, h3, h4, h5⟩ := State.restarted_fabric _ []
  exact ⟨h1, h2, h3, h4.trans s.resetRegs_cpbHold.1, h5.trans s.resetRegs_cpbHold.2⟩

/-- A chip reset that the host asked for (R313, R442): the configuration space of the functions stays. -/
theorem chipResetRequested {s : State} (ha : s.answers = true) (hb : s.resetBusy = false) :
    ∃ t, exec (.resetReqChip 0xA5C3) s = .next t ∧ t.mod.dev = .resetting ∧ t.mod.resetLevel = 3 ∧ t.mod.resetValid = false ∧
      t.mod.devGen = (s.mod.devGen + 1) % 256 ∧ t.turn.running = false ∧ t.cmds = [] ∧ t.sets = [] ∧ t.sites = [] ∧
      (∀ c, c < 16 → t.ctx c = { Ctx.reset with gen := ((s.ctx c).gen + 1) % 256 }) ∧
      (∀ q ∈ s.mod.order.quads, t.quad q = { Quad.reset with gen := ((s.quad q).gen + 1) % 256 }) ∧
      (∀ f ∈ s.functions, t.fn f = { Fn.reset with
        busMaster := (s.fn f).busMaster, d3hot := (s.fn f).d3hot, msix := (s.fn f).msix, msixMask := (s.fn f).msixMask,
        aer := (s.fn f).aer }) ∧ t.avdin = s.avdin := by
  have hr : (s.requested 3).mod.phase.running = true := State.running_of_answers ha
  obtain ⟨hg, ht, hc, hf, hx⟩ := State.chipReset_hub hr false
  obtain ⟨hd, hs⟩ := State.chipReset_resetting hr false
  obtain ⟨hz, hv, hq, hrv, hrl⟩ := State.chipReset_fabric hr false
  have hexec : exec (.resetReqChip 0xA5C3) s = .next ((s.requested 3).chipReset false) :=
    exec_resetReqChip.trans (congrArg Host.Outcome.next (State.resetDevice_accepted ha hb))
  refine ⟨_, hexec, hd, hrl, hrv, hg, ht, hc, hz, hs, fun c h16 => ?_, fun q hm => ?_, fun f hm => ?_, hv⟩
  · unfold State.ctx
    rw [hx]
    exact aget_map_mem Ctx.reset (fun c => ((s.requested 3).ctx c).restart) (List.mem_range.mpr h16)
  · unfold State.quad
    rw [hq]
    exact aget_map_mem Quad.reset (fun q => ((s.requested 3).quad q).restart) hm
  · unfold State.fn
    rw [hf]
    exact aget_map_mem Fn.reset (fun f => ((s.requested 3).fn f).restart false) hm

theorem quadResetRequested {s : State} (ha : s.answers = true) (hb : s.resetBusy = false) {m : Nat} (full : Bool) (hne : maskQuads m ≠ [])
    (hm : m < 16) (hc : s.check.chipBraked = false) (hq : ∀ q ∈ maskQuads m, q ∈ s.mod.order.quads) :
    ∃ t, exec (if full then .resetReqQuadFull 0xA5C3 m else .resetReqQuadFast 0xA5C3 m) s = .next t ∧
      t.mod.resetValid = false ∧ t.mod.resetStatus = 0 ∧ t.mod.resetSeq = (s.mod.resetSeq + 1) % 256 ∧
      ∀ q ∈ maskQuads m, (t.quad q).hostReset = true ∧
        (t.quad q).recState = (if full || (s.quad q).privHosted || (s.quad q).braked then .full else .fast) ∧
        ∀ c, c < 16 → (s.ctx c).boundTo q = true → (s.ctx c).state ≠ .empty → (s.ctx c).state ≠ .loading →
          (t.ctx c).ran = false ∧ ∀ i ∈ s.ctxSites c, (t.site i).seq.status = .off ∧ (t.site i).ex.xfers = [] := by
  have hx : exec (if full then .resetReqQuadFull 0xA5C3 m else .resetReqQuadFast 0xA5C3 m) s = .next (s.resetQuads 0xA5C3 m full) := by
    cases full
    · exact exec_resetReqQuadFast
    · exact exec_resetReqQuadFull
  rw [State.resetQuads_accepted ha hb hne hm hc hq] at hx
  generalize (if full || (maskQuads m).any (fun q => (s.quad q).privHosted || (s.quad q).braked) then 2 else 1) = level at hx
  have hh := State.Halting.quadResets (maskQuads m) full (s.requested level)
  refine ⟨_, hx, (congrArg Mod.resetValid hh.1).trans rfl, (congrArg Mod.resetStatus hh.1).trans rfl, (congrArg Mod.resetSeq hh.1).trans rfl,
    fun q hqm => ?_⟩
  obtain ⟨hp, hcs⟩ := State.quadResets_inReset (maskQuads m) full (s.requested level) (maskQuads_nodup m) hqm
  exact ⟨(Quad.path_eq hp).2, (Quad.path_eq hp).1, hcs⟩

/-! ### The release of a quadrant (R87, R445) -/

/-- A site as R87 leaves it: no scratchpad content, no tile, its sequencer off. -/
def Site.blank (a : Site) : Prop := a.scr = Memory.cleared ∧ a.ctx = none ∧ a.seq = Sequencer.cleared

/-- A quadrant's sites are blank, and every other site is as it was. -/
def State.Blanked (s t : State) (q : Nat) : Prop :=
  (∀ i, i / 576 = q → (t.site i).blank) ∧ ∀ i, i / 576 ≠ q → t.site i = s.site i

theorem State.Blanked.of_sites {s t u : State} {q : Nat} (h : s.Blanked t q) (hu : u.sites = t.sites) : s.Blanked u q := by
  have hsite (i : Nat) : u.site i = t.site i := by unfold State.site; rw [hu]
  exact ⟨fun i hi => by rw [hsite]; exact h.1 i hi, fun i hi => (hsite i).trans (h.2 i hi)⟩

theorem State.Blanked.modQuad {s t : State} {q : Nat} (h : s.Blanked t q) (k : Nat) (g : Quad → Quad) : s.Blanked (t.modQuad k g) q :=
  h.of_sites rfl

theorem State.Blanked.setSite {s t : State} {q i : Nat} {a : Site} (h : s.Blanked t q) (hi : i / 576 = q) (ha : a.blank) :
    s.Blanked (t.setSite i a) q := by
  refine ⟨fun k hk => ?_, fun k hk => ?_⟩
  · by_cases hki : k = i
    · subst hki
      rw [State.site_setSite_self]
      exact ha
    · rw [State.site_setSite_ne _ _ _ _ hki]
      exact h.1 k hk
  · rw [State.site_setSite_ne _ _ _ _ (fun hki => hk (by rw [hki]; exact hi))]
    exact h.2 k hk

theorem State.Blanked.foldl {α : Type} {f : State → α → State} {s : State} {q : Nat} {l : List α}
    (hf : ∀ t, ∀ x ∈ l, s.Blanked t q → s.Blanked (f t x) q) {t : State} (h : s.Blanked t q) : s.Blanked (l.foldl f t) q := by
  induction l generalizing t with
  | nil => exact h
  | cons a l ih => exact ih (fun t x hx => hf t x (List.mem_cons_of_mem _ hx)) (hf t a List.mem_cons_self h)

theorem State.Blanked.setRole {s t : State} {q i : Nat} (h : s.Blanked t q) (hi : i / 576 = q) (r : Role) : s.Blanked (t.setRole i r) q := by
  unfold State.setRole
  split
  · exact h
  · exact h.setSite hi (h.1 i hi)

theorem quadSites_div {q i : Nat} (h : i ∈ quadSites q) : i / 576 = q := by
  obtain ⟨k, hk, rfl⟩ := List.mem_map.mp h
  have hk' : k < 576 := List.mem_range.mp hk
  show (q * 576 + k) / 576 = q
  omega

theorem State.Blanked.rebalance {s t : State} {q : Nat} (h : s.Blanked t q) : s.Blanked (t.rebalance q) q := by
  have hx : ∀ i ∈ t.extraSites q, i / 576 = q := fun i hi => quadSites_div (List.mem_filter.mp hi).1
  unfold State.rebalance
  dsimp only
  refine State.Blanked.of_sites ?_ rfl
  refine State.Blanked.foldl (fun u i hi hu => hu.setRole (hx i (List.mem_of_mem_drop hi)) _) ?_
  exact State.Blanked.foldl (fun u i hi hu => hu.setRole (hx i (List.mem_of_mem_take hi)) _) h

theorem Site.blank_fresh (i : Nat) (r : Role) (t : Option Nat) : (Site.fresh i r t).blank := ⟨rfl, rfl, rfl⟩

theorem State.Blanked.rebuild (s : State) (q : Nat) {fences : List Nat} (hf : ∀ i ∈ fences, i / 576 = q) :
    s.Blanked (s.rebuild q fences) q := by
  have h1 : s.Blanked { s with sites := s.sites.filter (fun e => e.1 / Config.sitesPerQuad != q) } q := by
    have ha (i : Nat) : alook (s.sites.filter (fun e => e.1 / Config.sitesPerQuad != q)) i =
        if (i / Config.sitesPerQuad != q) = true then alook s.sites i else none :=
      alook_filter_key s.sites (fun k => k / Config.sitesPerQuad != q) i
    refine ⟨fun i hi => ?_, fun i hi => ?_⟩
    · unfold State.site
      dsimp only
      rw [ha, if_neg (by simpa [Config.sitesPerQuad] using hi)]
      exact ⟨rfl, rfl, rfl⟩
    · unfold State.site
      dsimp only
      rw [ha, if_pos (by simpa [Config.sitesPerQuad] using hi)]
  have h2 := State.Blanked.foldl (l := fences) (f := fun u i => u.setSite i (Site.fresh i .fenced none))
    (fun t i hi ht => ht.setSite (hf i hi) (Site.blank_fresh i _ _)) h1
  unfold State.rebuild
  dsimp only
  split
  · exact State.Blanked.rebalance (State.Blanked.modQuad h2 q _)
  · refine State.Blanked.rebalance (State.Blanked.modQuad (State.Blanked.foldl (fun u t ht hu => ?_) h2) q _)
    split
    · exact hu
    · refine hu.setSite ?_ (Site.blank_fresh _ _ _)
      have hlt := List.mem_range.mp ht
      rw [List.getD_eq_getElem _ _ hlt]
      exact quadSites_div (List.mem_filter.mp (List.mem_of_mem_take (List.getElem_mem hlt))).1

theorem mem_sortBy {α : Type} (le : α → α → Bool) {l : List α} {x : α} (h : x ∈ sortBy le l) : x ∈ l := by
  have hins : ∀ (a : α) (r : List α), x ∈ insertBy le a r → x = a ∨ x ∈ r := by
    intro a r
    induction r with
    | nil => exact fun h => .inl (List.mem_singleton.mp h)
    | cons b r ih =>
      intro h
      unfold insertBy at h
      split at h
      · exact List.mem_cons.mp h
      · rcases List.mem_cons.mp h with h | h
        · exact .inr (h ▸ List.mem_cons_self)
        · exact (ih h).imp_right (List.mem_cons_of_mem _)
  induction l with
  | nil => exact h
  | cons a l ih =>
    rcases hins a _ h with h | h
    · exact h ▸ List.mem_cons_self
    · exact List.mem_cons_of_mem _ (ih h)

/-- An applied list speaks of the sites that the list speaks of (R428). -/
theorem applyList_sites {l : List Defect} {p : Nat → Prop} (hl : ∀ d ∈ l, p d.site) : ∀ d ∈ applyList l, p d.site := by
  have h : ∀ (r acc : List Defect), (∀ d ∈ r, p d.site) → (∀ d ∈ acc, p d.site) →
      ∀ d ∈ r.foldl (fun acc d =>
        if d.kind = 1 ∧ redundantUnits d.structure_ ≤ (acc.filter (fun e => e.kind == 1 && sharesUnits e d)).length then
          acc ++ [{ d with kind := 2 }]
        else acc ++ [d]) acc, p d.site := by
    intro r
    induction r with
    | nil => exact fun acc _ ha => ha
    | cons e r ih =>
      intro acc hr ha
      refine ih _ (fun d hd => hr d (List.mem_cons_of_mem _ hd)) (fun d hd => ?_)
      have he := hr e List.mem_cons_self
      dsimp only at hd
      split at hd
      · rcases List.mem_append.mp hd with hd | hd
        · exact ha d hd
        · rw [List.mem_singleton.mp hd]; exact he
      · rcases List.mem_append.mp hd with hd | hd
        · exact ha d hd
        · rw [List.mem_singleton.mp hd]; exact he
  exact h _ [] (fun d hd => hl d (mem_sortBy _ hd)) (fun d hd => nomatch hd)

theorem mem_foldl_nins {l acc : List Nat} {i : Nat} (h : i ∈ l.foldl nins acc) : i ∈ acc ∨ i ∈ l := by
  induction l generalizing acc with
  | nil => exact .inl h
  | cons a l ih =>
    rcases ih h with h | h
    · rcases (mem_nins acc a i).mp h with h | h
      · exact .inr (h ▸ List.mem_cons_self)
      · exact .inl h
    · exact .inr (List.mem_cons_of_mem _ h)

theorem fencedBy_div {l : List Defect} {q : Nat} (hl : ∀ d ∈ l, d.site / 576 = q) : ∀ i ∈ fencedBy l, i / 576 = q := by
  intro i hi
  obtain ⟨d, hd, rfl⟩ := List.mem_map.mp ((mem_foldl_nins hi).resolve_left (fun h => nomatch h))
  exact hl d (List.mem_filter.mp hd).1

theorem State.fencedSites_div (s : State) (q : Nat) : ∀ i ∈ s.fencedSites q, i / 576 = q := by
  intro i hi
  obtain ⟨e, he, rfl⟩ := List.mem_map.mp hi
  have := (List.mem_filter.mp he).2
  simp only [Bool.and_eq_true, beq_iff_eq] at this
  exact this.1

/-- What a quadrant's release counts. -/
def Quad.tally (x : Quad) : Nat × Nat × Nat := (x.gen, x.fastResets, x.fullResets)

theorem Quad.tally_remap (x : Quad) (m : List (Nat × RemapEntry)) : ({ x with remap := m } : Quad).tally = x.tally := rfl

theorem State.quads_setRole (s : State) (i : Nat) (r : Role) : (s.setRole i r).quads = s.quads := by
  unfold State.setRole
  split <;> rfl

theorem State.quads_rebalance (s : State) (q : Nat) : (s.rebalance q).quads = s.quads := by
  unfold State.rebalance
  dsimp only
  refine (foldl_fixes State.quads _ (fun u i => u.quads_setRole i .spare) _ _).trans ?_
  exact foldl_fixes State.quads _ (fun u i => u.quads_setRole i .auditor) _ _

theorem State.tally_modQuad (s : State) (q k : Nat) {g : Quad → Quad} (hg : ∀ x, (g x).tally = x.tally) :
    ((s.modQuad q g).quad k).tally = (s.quad k).tally := by
  by_cases h : k = q
  · subst h
    rw [State.quad_modQuad_self, hg]
  · rw [State.quad_modQuad_ne _ _ _ _ h]

theorem State.tally_of_quads {s t : State} (h : t.quads = s.quads) (k : Nat) : (t.quad k).tally = (s.quad k).tally := by
  unfold State.quad
  rw [h]

theorem State.tally_rebuild (s : State) (q k : Nat) (fences : List Nat) : ((s.rebuild q fences).quad k).tally = (s.quad k).tally := by
  unfold State.rebuild
  dsimp only
  have h2 : ∀ u : State, (fences.foldl (fun u i => u.setSite i (Site.fresh i .fenced none)) u).quads = u.quads := fun u =>
    foldl_fixes State.quads (fun u i => u.setSite i (Site.fresh i .fenced none)) (fun _ _ => rfl) fences u
  split
  · rw [State.tally_of_quads (State.quads_rebalance _ q), State.tally_modQuad _ q k (fun _ => by rfl), State.tally_of_quads (h2 _)]
    rfl
  · rw [State.tally_of_quads (State.quads_rebalance _ q), State.tally_modQuad _ q k (fun x => x.tally_remap _)]
    refine (State.tally_of_quads (foldl_fixes State.quads _ (fun u t => ?_) _ _) k).trans ?_
    · split <;> rfl
    · rw [State.tally_of_quads (h2 _)]
      rfl

theorem State.applyDefects_blanks {s : State} {q : Nat} (full : Bool) (h : ∀ d ∈ aget [] s.heal.defects q, d.site / 576 = q) :
    s.Blanked (s.applyDefects q full) q ∧ ((s.applyDefects q full).quad q).tally = (s.quad q).tally := by
  have hl := applyList_sites (p := fun i => i / 576 = q) h
  have hf : ∀ i ∈ (if full then fencedBy (applyList (aget [] s.heal.defects q))
      else (s.fencedSites q).foldl nins (fencedBy (applyList (aget [] s.heal.defects q)))), i / 576 = q := by
    intro i hi
    split at hi
    · exact fencedBy_div hl i hi
    · exact (mem_foldl_nins hi).elim (fencedBy_div hl i) (s.fencedSites_div q i)
  unfold State.applyDefects
  dsimp only
  generalize hu : State.modQuad _ q _ = u
  have hus : u.sites = s.sites := by rw [← hu]; rfl
  have hut : (u.quad q).tally = (s.quad q).tally := by
    rw [← hu]
    exact (State.tally_modQuad _ q q (fun _ => by rfl)).trans rfl
  have hb := State.Blanked.rebuild u q hf
  have hback : ∀ i, u.site i = s.site i := fun i => by unfold State.site; rw [hus]
  refine ⟨State.Blanked.of_sites (t := u.rebuild q _) ⟨hb.1, fun i hi => (hb.2 i hi).trans (hback i)⟩ rfl, ?_⟩
  exact (u.tally_rebuild q q _).trans hut

/-! ### What follows the release leaves the sites and the quadrants -/

/-- The sites and the quadrants of a state. -/
def State.floor (s : State) : List (Nat × Site) × List (Nat × Quad) := (s.sites, s.quads)

theorem State.floor_retire (s : State) (q : Nat) (failed : List Nat) : (s.retire q failed).floor = s.floor := by
  unfold State.retire
  refine foldl_fixes State.floor _ (fun u n => ?_) _ _
  split <;> rfl

theorem State.floor_setDev (s : State) (d : DevCode) (l : List Nat) : (s.setDev d l).floor = s.floor := by
  unfold State.setDev
  split <;> rfl

theorem State.floor_unbrake (s : State) (q : Nat) : (s.unbrake q).floor = s.floor := by
  have h := s.floor_setDev s.mod.dev (ndel s.mod.brakedQuads q)
  unfold State.unbrake
  dsimp only
  split
  · exact h
  · exact h

theorem State.floor_setHolds (s : State) : s.setHolds.floor = s.floor := by
  unfold State.floor
  rw [s.sites_setHolds, s.quads_setHolds]

/-- The state once the quadrant is released, before its contexts are restored. -/
def State.released (s : State) (q : Nat) (full : Bool) : State :=
  let a := s.applyDefects q full
  let b := if full then a.retire q [] else a
  b.modQuad q (fun x => x.released s.serviceImage full (!s.check.chipBraked) ((s.ctxsOn q).any (fun c => (s.ctx c).privileged)))

theorem Quad.path_released (x : Quad) (store : List Byte) (full unbrake priv : Bool) :
    (x.released store full unbrake priv).path = (.normal, false) := rfl

theorem Quad.tally_released (x : Quad) (store : List Byte) (full unbrake priv : Bool) :
    (x.released store full unbrake priv).tally =
      ((x.gen + 1) % 256, bump16 x.fastResets (if full then 0 else 1), bump16 x.fullResets (if full then 1 else 0)) := rfl

theorem State.released_floor (s : State) (q : Nat) (full : Bool) (h : ∀ d ∈ aget [] s.heal.defects q, d.site / 576 = q) :
    s.Blanked (s.released q full) q ∧ ((s.released q full).quad q).path = (.normal, false) ∧
      ((s.released q full).quad q).tally =
        (((s.quad q).gen + 1) % 256, bump16 (s.quad q).fastResets (if full then 0 else 1), bump16 (s.quad q).fullResets (if full then 1 else 0)) := by
  obtain ⟨hb, ht⟩ := State.applyDefects_blanks full h
  have key : ∀ b : State, b.floor = (s.applyDefects q full).floor → ∀ store unbrake priv, 
      s.Blanked (b.modQuad q (fun x => x.released store full unbrake priv)) q ∧
        ((b.modQuad q (fun x => x.released store full unbrake priv)).quad q).path = (.normal, false) ∧
        ((b.modQuad q (fun x => x.released store full unbrake priv)).quad q).tally = (((s.quad q).gen + 1) % 256,
          bump16 (s.quad q).fastResets (if full then 0 else 1), bump16 (s.quad q).fullResets (if full then 1 else 0)) := by
    intro b hfl store unbrake priv
    have hbt : (b.quad q).tally = (s.quad q).tally := (State.tally_of_quads (congrArg Prod.snd hfl) q).trans ht
    unfold Quad.tally at hbt
    simp only [Prod.mk.injEq] at hbt
    obtain ⟨h1, h2, h3⟩ := hbt
    refine ⟨(hb.of_sites (congrArg Prod.fst hfl)).modQuad q _, ?_, ?_⟩
    · rw [State.quad_modQuad_self, Quad.path_released]
    · rw [State.quad_modQuad_self, Quad.tally_released, h1, h2, h3]
  refine key _ ?_ _ _ _
  split
  · exact State.floor_retire _ q []
  · rfl

/-- A reset that the host asked for ends; the quadrant has no context. -/
theorem quadResetDone_floor {s : State} {q : Nat} (hr : (s.quad q).recState.resetting = true)
    (hc : s.ctxsOn q = []) :
    ∃ t, exec (.quadResetDone q [] []) s = .next t ∧ t.floor = (s.released q (decide ((s.quad q).recState = .full))).floor := by
  rw [exec_quadResetDone]
  unfold execQuadResetDone
  refine ⟨_, rfl, ?_⟩
  rw [if_neg (by rw [hr]; exact Bool.false_ne_true)]
  lift_lets
  extract_lets bound listed a b d ddr e f m g fault cause h hm i
  have hbound : bound = [] := hc
  have hd : d = s.released q (decide ((s.quad q).recState = .full)) := by
    unfold State.released
    have hl : listed = s := by
      show (if _ then _ else s) = s
      split <;> rfl
    show (if _ then State.retire (State.applyDefects listed q _) q [] else State.applyDefects listed q _).modQuad q _ = _
    rw [hl]
  have he : e.floor = d.floor := by
    show (if _ then _ else d).floor = d.floor
    split <;> rfl
  have hf : f.floor = e.floor := by
    show (if _ then e.unbrake q else e).floor = e.floor
    split
    · exact e.floor_unbrake q
    · rfl
  have hh : h = g := by
    show bound.foldl _ g = g
    rw [hbound]
    rfl
  have hi : i.floor = h.floor := by
    show (if _ then _ else h).floor = h.floor
    split <;> rfl
  have ht : i.setHolds.rewear.floor = i.setHolds.floor := by
    generalize i.setHolds = u
    rfl
  rw [ht, State.floor_setHolds, hi, hh]
  exact (hf.trans he).trans (congrArg State.floor hd)

/-- A quadrant in reset is on one of the two paths. -/
theorem RecState.fast_iff {r : RecState} (h : r.resetting = true) : r = .fast ↔ ¬r = .full := by
  cases r <;> simp_all [RecState.resetting]

theorem quadResetReleased {s : State} {q : Nat} (hr : (s.quad q).recState.resetting = true)
    (hc : s.ctxsOn q = []) (hd : ∀ d ∈ aget [] s.heal.defects q, d.site / 576 = q) :
    ∃ t, exec (.quadResetDone q [] []) s = .next t ∧ (t.quad q).recState = .normal ∧
      (t.quad q).gen = ((s.quad q).gen + 1) % 256 ∧ (t.quad q).hostReset = false ∧
      (t.quad q).fastResets = min ((s.quad q).fastResets + (if (s.quad q).recState = .fast then 1 else 0)) (2 ^ 16 - 1) ∧
      (t.quad q).fullResets = min ((s.quad q).fullResets + (if (s.quad q).recState = .full then 1 else 0)) (2 ^ 16 - 1) ∧
      (∀ i, i / 576 = q → (t.site i).scr = Memory.cleared ∧ (t.site i).ctx = none ∧ (t.site i).seq = Sequencer.cleared) ∧
      ∀ i, i / 576 ≠ q → t.site i = s.site i := by
  obtain ⟨t, hx, hfl⟩ := quadResetDone_floor hr hc
  obtain ⟨hb, hp, ht⟩ := s.released_floor q (decide ((s.quad q).recState = .full)) hd
  have hq : t.quad q = (s.released q (decide ((s.quad q).recState = .full))).quad q := by
    exact congrArg (fun l => aget Quad.reset l q) (congrArg Prod.snd hfl)
  have hs := hb.of_sites (congrArg Prod.fst hfl)
  unfold Quad.tally at ht
  simp only [Prod.mk.injEq] at ht
  obtain ⟨h1, h2, h3⟩ := ht
  refine ⟨t, hx, ?_, ?_, ?_, ?_, ?_, hs.1, hs.2⟩
  · rw [hq]; exact (Quad.path_eq hp).1
  · rw [hq, h1]
  · rw [hq]; exact (Quad.path_eq hp).2
  · rw [hq, h2]
    simp only [RecState.fast_iff hr]
    by_cases hf : (s.quad q).recState = .full <;> simp [hf, bump16, satAdd]
  · rw [hq, h3]
    by_cases hf : (s.quad q).recState = .full <;> simp [hf, bump16, satAdd]

end Sys2Proof.Machine

open Sys2Proof Sys2Proof.Machine

/-- Settles O49: a request by its refusals and by the halt of each quadrant named, the release by the sites that it rebuilds. -/
theorem quadrantAndChipResets : Obligations.QuadrantAndChipResets := by
  unfold Obligations.QuadrantAndChipResets
  refine ⟨fun s key m => ?_, fun s q => ⟨fun hr _ hc hd => quadResetReleased hr hc hd, fun hr => ?_, fun hq => ⟨fun he => ?_, fun hr hp => ?_, ?_⟩⟩⟩
  · dsimp only
    refine ⟨fun h => ⟨?_, ?_, ?_⟩, fun ha hb => ⟨?_, ?_, ?_⟩, fun ha hb => ⟨fun h => ⟨?_, ?_⟩, fun full hne hm hc hq => ?_, ?_⟩⟩
    · exact exec_resetReqQuadFast.trans (congrArg Host.Outcome.next (State.resetQuads_ignored h m false))
    · exact exec_resetReqQuadFull.trans (congrArg Host.Outcome.next (State.resetQuads_ignored h m true))
    · exact exec_resetReqChip.trans (congrArg Host.Outcome.next (State.resetDevice_ignored h))
    · exact exec_resetReqQuadFast.trans (congrArg Host.Outcome.next (State.resetQuads_busy ha hb m false))
    · exact exec_resetReqQuadFull.trans (congrArg Host.Outcome.next (State.resetQuads_busy ha hb m true))
    · exact exec_resetReqChip.trans (congrArg Host.Outcome.next (State.resetDevice_busy ha hb))
    · exact exec_resetReqQuadFast.trans (congrArg Host.Outcome.next (State.resetQuads_refused ha hb h false))
    · exact exec_resetReqQuadFull.trans (congrArg Host.Outcome.next (State.resetQuads_refused ha hb h true))
    · exact quadResetRequested ha hb full hne hm hc hq
    · exact chipResetRequested ha hb
  · rw [exec_quadResetDone]
    unfold execQuadResetDone
    dsimp only
    rw [if_pos (by rw [hr]; rfl)]
  · have hx : exec (.resetEscalate 1 q) s = .next (s.quadReset q false false) := by
      rw [exec_resetEscalate]
      unfold execResetEscalate
      dsimp only
      rw [if_neg (by simp [hq]), if_pos rfl, if_pos (by rw [he]; rfl)]
    obtain ⟨-, hp, hrep, -⟩ := s.quadReset_halts q false false
    refine ⟨_, hx, ?_, hrep⟩
    rw [(Quad.path_eq hp).1]
    unfold Quad.resetPath
    split <;> rfl
  · have hx : exec (.resetEscalate 2 q) s = .next (s.chipReset false) := by
      rw [exec_resetEscalate]
      unfold execResetEscalate
      dsimp only
      rw [if_neg (by simp [hq]), if_neg (by decide), if_pos rfl, if_pos hr]
    obtain ⟨hd, hs⟩ := State.chipReset_resetting hp false
    exact ⟨_, hx, hd, hs, (State.chipReset_hub hp false).2.2.1⟩
  · rw [exec_resetEscalate]
    unfold execResetEscalate
    dsimp only
    rw [if_neg (by simp [hq]), if_neg (by decide), if_neg (by decide)]

end

section
/-! Turn marks and masters (O35). -/

namespace Sys2Proof.Machine

/-! ### What goes out -/

theorem Port.pump_out (n k : Nat) (x : Port) : ∀ o ∈ (x.pump n k).2, ∃ p, o = Out.packet n p := by
  induction k generalizing x with
  | zero => exact fun o h => nomatch h
  | succ k ih =>
    unfold Port.pump
    dsimp only
    split
    · exact fun o h => nomatch h
    · split
      · exact fun o h => nomatch h
      · intro o h
        rcases List.mem_cons.mp h with h | h
        · exact ⟨_, h⟩
        · exact ih _ o h

/-- A packet that joins a port's queue changes the fabric's state, and what goes out are packets of that port. -/
theorem State.queueOn_out (s : State) (n : Nat) (p : Packet) :
    ∃ l, (s.queueOn n p).out = s.out ++ l ∧ (∀ o ∈ l, ∃ p, o = Out.packet n p) ∧
      s.queueOn n p = { s with avdin := (s.queueOn n p).avdin, out := (s.queueOn n p).out } :=
  ⟨_, rfl, Port.pump_out n _ _, rfl⟩

/-- A mark goes out on every port that carries traffic but the one excepted. -/
theorem State.sendMark_eq (s : State) (except : Option Nat) (m : Mark) :
    s.sendMark except m = { s with out := s.out ++ (s.mod.order.ports.filter (fun n => s.carries n && some n != except)).map (fun n => .mark n m) } := by
  have h : ∀ (l : List Nat) (u : State), l.foldl (fun u n => u.emit (.mark n m)) u = { u with out := u.out ++ l.map (fun n => .mark n m) } := by
    intro l
    induction l with
    | nil => intro u; rw [List.map_nil, List.append_nil, List.foldl_nil]
    | cons n l ih =>
      intro u
      rw [List.foldl_cons, ih]
      unfold State.emit
      rw [List.map_cons, List.append_assoc]
      rfl
  exact h _ s

/-! ### A mark adopted where none was -/

theorem Turn.follows_none {t : Turn} (h : t.best = none) (m : Mark) : t.follows m = false := by
  unfold Turn.follows
  rw [h]

/-- Whether a mark agrees with the device's boundaries and the low part of its TURN_NO. -/
def Turn.agrees (t : Turn) (m : Mark) : Bool := m.aligned && m.turnLow == t.no % 65536

/-- The turn of a device that adopts its first mark. -/
def Turn.adopting (t : Turn) (port : Nat) (m : Mark) : Turn :=
  { t with
    isMaster := false, holdover := false, mismatch := false, best := some (port, m), bestAge := 0, masterNo := none
    sinceMark := 0, sinceKey := 0, masterHops := m.hops, masterPos := m.pos, masterPrio := m.priority, offsetNs := m.offset
    locked := t.agrees m || (t.locked && t.stepTurn), stepPending := !t.agrees m && !t.stepTurn
    stepTo := if t.agrees m then t.stepTo else some (t.no / 65536 * 65536 + m.turnLow + 1) }

theorem State.adopt_first {s : State} (h : s.turn.best = none) (port : Nat) (m : Mark) :
    s.adopt port m = ((({ s with turn := s.turn.adopting port m } : State).sendMark (some port) { m with hops := m.hops + 1 }).queueOn port
      (mgmtPacket none none)) := by
  unfold State.adopt
  dsimp only
  rw [Turn.follows_none h]
  rfl

theorem exec_turnMark_adopts {s : State} {port : Nat} {m : Mark} (hr : s.turn.running = true) (hc : s.carries port = true)
    (hg : m.geometry = s.turn.geom.word) (hh : m.hops ≤ 96) (hp : 0 < m.priority) (ho : s.turn.ownPrio = 0) (hb : s.turn.best = none) :
    exec (.turnMarkReceive port m) s = .next (s.adopt port m) := by
  rw [exec_turnMarkReceive]
  unfold execTurnMarkReceive
  dsimp only
  rw [if_neg (by rw [hr, hc]; exact Bool.false_ne_true), if_neg (fun h => h hg), if_neg (by omega), if_neg (by rw [ho]; simp), if_pos]
  unfold State.prefers
  rw [hb]

theorem markAdopted {s : State} {port : Nat} {m : Mark} (hr : s.turn.running = true) (hc : s.carries port = true)
    (hg : m.geometry = s.turn.geom.word) (hh : m.hops ≤ 96) (hp : 0 < m.priority) (ho : s.turn.ownPrio = 0) (hb : s.turn.best = none) :
    ∃ (t : State) (l : List Out), exec (.turnMarkReceive port m) s = .next t ∧ t = { s with turn := t.turn, out := t.out, avdin := t.avdin } ∧
      t.turn = s.turn.adopting port m ∧
      t.out = s.out ++ ((s.mod.order.ports.filter (fun n => s.carries n && some n != some port)).map
        (fun n => .mark n { m with hops := m.hops + 1 })) ++ l ∧ ∀ o ∈ l, ∃ p, o = .packet port p := by
  have hx := exec_turnMark_adopts hr hc hg hh hp ho hb
  rw [State.adopt_first hb, State.sendMark_eq] at hx
  obtain ⟨l, hl, hq, ht⟩ := State.queueOn_out ({ s with
    turn := s.turn.adopting port m
    out := s.out ++ (s.mod.order.ports.filter (fun n => s.carries n && some n != some port)).map
        (fun n => .mark n { m with hops := m.hops + 1 }) } : State) port (mgmtPacket none none)
  exact ⟨_, l, hx, ht, congrArg State.turn ht, hl, hq⟩

theorem marksHeard {s : State} {port : Nat} {m : Mark} (hr : s.turn.running = true) (hc : s.carries port = true) :
    (m.geometry ≠ s.turn.geom.word → exec (.turnMarkReceive port m) s = .next { s with turn := { s.turn.heard m with
      mismatch := true, locked := false, stepPending := false, stepTurn := false, stepTo := none } }) ∧
    (m.geometry = s.turn.geom.word → 96 < m.hops → exec (.turnMarkReceive port m) s = .next { s with turn := s.turn.heard m }) := by
  rw [exec_turnMarkReceive]
  unfold execTurnMarkReceive
  dsimp only
  rw [if_neg (by rw [hr, hc]; exact Bool.false_ne_true)]
  refine ⟨fun hg => by rw [if_pos hg], fun hg hh => by rw [if_neg (fun h => h hg), if_pos (.inl hh)]⟩

theorem masterDiscarded {s : State} (hb : s.turn.best.isSome = true) (hk : 64 ≤ s.turn.sinceKey) :
    ∃ t, exec .masterKeyDiscard s = .next t ∧ t = { s with turn := t.turn, out := t.out, avdin := t.avdin } ∧
      t.turn.best = none ∧ t.turn.isMaster = decide (0 < s.turn.ownPrio) ∧
      (0 < s.turn.ownPrio → t.turn.locked = !(s.turn.mismatch && decide (s.turn.sinceMark < 8)) ∧
        t.turn.holdover = false ∧ t.turn.masterPrio = s.turn.ownPrio ∧ t.turn.masterHops = 0) ∧ t.out = s.out := by
  rw [exec_masterKeyDiscard]
  unfold execMasterKeyDiscard
  rw [if_pos (by rw [hb, decide_eq_true hk]; rfl)]
  dsimp only
  unfold State.ownGrid
  dsimp only
  by_cases ho : 0 < s.turn.ownPrio
  · rw [if_pos (decide_eq_true ho)]
    refine ⟨_, rfl, rfl, rfl, rfl, fun _ => ⟨?_, rfl, ?_, rfl⟩, rfl⟩
    · rw [decide_eq_true ho, Bool.true_and]
    · exact if_pos (decide_eq_true ho)
  · rw [if_neg (by simpa using ho)]
    exact ⟨_, rfl, rfl, rfl, rfl, fun h => absurd h ho, rfl⟩

end Sys2Proof.Machine

open Sys2Proof Sys2Proof.Machine

/-- Settles O35: a mark heard, or adopted where none was, and the master's key forgotten. -/
theorem marksAndMasters : Obligations.MarksAndMasters := by
  unfold Obligations.MarksAndMasters
  intro s port m
  dsimp only
  refine ⟨fun hr hc => ⟨(marksHeard hr hc).1, (marksHeard hr hc).2, fun hg hh hp ho hb => ?_⟩, fun hl hm h8 => ?_, fun hb hk => masterDiscarded hb hk⟩
  · obtain ⟨t, l, hx, ht, htt, hout, hl⟩ := markAdopted hr hc hg hh hp ho hb
    refine ⟨t, l, hx, ht, ?_⟩
    rw [htt]
    refine ⟨rfl, rfl, rfl, rfl, rfl, rfl, rfl, rfl, rfl, rfl, rfl, rfl, fun ha hn => ?_, fun h hs => ?_, hout, hl⟩
    · have : s.turn.agrees m = true := by unfold Turn.agrees; rw [ha, hn]; simp
      unfold Turn.adopting
      rw [this]
      exact ⟨rfl, rfl⟩
    · have : s.turn.agrees m = false := by
        unfold Turn.agrees
        rcases h with h | h <;> simp [h]
      unfold Turn.adopting
      rw [this, hs]
      exact ⟨rfl, rfl⟩
  · rw [exec_holdoverEnter]
    unfold execHoldoverEnter
    rw [if_pos (by rw [hl, hm, decide_eq_true h8]; rfl)]

end

section
/-! Change sets (O36): staged, expired, applied or discarded. -/

namespace Sys2Proof.Machine

/-! ### Commands that end, and sets that end -/

/-- Commands that end are no longer outstanding, and their completions go to the rings; nothing else changes (R294). -/
theorem State.finish_eq (s : State) (p : Cmd → Bool) (st : Status) (res : Cmd → List Byte) :
    (s.finish p st res).cmds = s.cmds.filter (fun c => !p c) ∧
      s.finish p st res = { s with fns := (s.finish p st res).fns, cmds := (s.finish p st res).cmds } := by
  have h : ∀ (l : List Cmd) (u : State), l.foldl (fun u c => u.complete c.ref st (res c)) u =
      { u with fns := (l.foldl (fun u c => u.complete c.ref st (res c)) u).fns } := by
    intro l
    induction l with
    | nil => exact fun _ => rfl
    | cons c l ih =>
      intro u
      have hc : u.complete c.ref st (res c) = { u with fns := (u.complete c.ref st (res c)).fns } := by
        unfold State.complete State.post
        split <;> rfl
      rw [List.foldl_cons, ih (u.complete c.ref st (res c)), hc]
  have hs := h (s.cmds.filter p) s
  unfold State.finish
  dsimp only
  generalize List.foldl _ s (s.cmds.filter p) = u at hs
  rw [hs]
  exact ⟨rfl, rfl⟩

/-- What a discarded set leaves: only the rings, the commands and the sets, and the count of discards, are new. -/
theorem State.discardSet_host {s : State} {key : Nat} {z : ChangeSet} (hk : key < 65536) (hz : alook s.sets key = some z) (st : Status) :
    alook (s.discardSet key st).sets key = none ∧ (s.discardSet key st).turn.discarded = bump32 s.turn.discarded 1 ∧
      (s.discardSet key st).ctxs = s.ctxs ∧ (s.discardSet key st).sites = s.sites ∧ (s.discardSet key st).quads = s.quads := by
  have hf := (s.finish_eq (isSetCmd key) st (fun _ => [])).2
  unfold State.discardSet
  rw [hz]
  dsimp only
  rw [if_pos hk]
  generalize s.finish (isSetCmd key) st (fun _ => []) = t at hf
  rw [hf]
  exact ⟨alook_adel_self _ _, rfl, rfl, rfl, rfl⟩

/-- A set of the governor discarded leaves the contexts, the sites and the quadrants. -/
theorem State.discardSet_frame (s : State) (key : Nat) (st : Status) :
    (s.discardSet key st).ctxs = s.ctxs ∧ (s.discardSet key st).sites = s.sites ∧ (s.discardSet key st).quads = s.quads := by
  have hf := (s.finish_eq (isSetCmd key) st (fun _ => [])).2
  unfold State.discardSet
  split
  · exact ⟨rfl, rfl, rfl⟩
  · dsimp only
    generalize s.finish (isSetCmd key) st (fun _ => []) = t at hf
    rw [hf]
    split
    · exact ⟨rfl, rfl, rfl⟩
    · split <;> exact ⟨rfl, rfl, rfl⟩

/-! ### Staged, expired, committed by the governor -/

theorem changeSetHeld {s : State} {key : Nat} {z : ChangeSet} (hr : s.turn.running = true) (hw : s.turn.window = .work ∨ s.turn.window = .dressing)
    (hk : key < 65536) (hz : alook s.sets key = some z) (hh : z.held = false) (hs : z.state = .opened ∨ z.state = .committed) :
    ∃ t y, exec (.changeSetStaged key) s = .next t ∧ alook t.sets key = some y ∧ y.held = true ∧ y.changes = z.changes ∧
      y.commit = z.commit ∧ y.state = (if z.state = .opened then .staged else .committed) ∧ y.age = 0 ∧
      t.cmds = s.cmds.filter (fun x => !(x.opc == 0x04 && x.arg == key)) ∧
      t = { s with sets := t.sets, cmds := t.cmds, fns := t.fns } ∧ (∀ k, k ≠ key → alook t.sets k = alook s.sets k) := by
  have hst : s.turn.staging = true := by
    unfold Turn.staging
    rcases hw with h | h <;> simp [hr, h]
  have hstate : (if z.state = .opened then SetState.staged else z.state) = if z.state = .opened then .staged else .committed := by
    rcases hs with h | h <;> simp [h]
  rw [exec_changeSetStaged]
  unfold execChangeSetStaged
  rw [hz]
  dsimp only
  have hk' : key < 65552 := by omega
  rw [if_neg (by rw [hh, hst]; exact Bool.false_ne_true)]
  simp only [if_pos hk, if_pos hk', hstate]
  obtain ⟨hc, hf⟩ := State.finish_eq ({ s with sets := aset s.sets key { z with
    held := true, age := 0, state := if z.state = .opened then .staged else .committed } } : State) (fun x => x.opc == 0x04 && x.arg == key) .ok
    (fun _ => cfgResult key (if z.state = .opened then SetState.staged else .committed).code 0)
  refine ⟨_, { z with held := true, age := 0, state := if z.state = .opened then .staged else .committed }, rfl, ?_, rfl, rfl, rfl, rfl, rfl, hc, ?_, ?_⟩
  · rw [hf]
    exact alook_aset_self _ _ _
  · rw [hf]
  · intro k hne
    rw [hf]
    exact alook_aset_ne _ _ _ _ hne

theorem governorStaged {s : State} {c : Nat} (h16 : c < 16) (ha : (s.ctx c).active = true) (ht : (s.ctx c).target ≠ (s.ctx c).gearing)
    (hn : alook s.sets (65536 + c) = none) (hc : s.check.chipBraked = false) (hb : s.ctxBraked c = false) :
    exec (.governorStage c) s = .next (if s.heldElsewhere (65536 + c) (.gearing c (s.ctx c).target) then s.dropSwitch c
      else { s with sets := aset s.sets (65536 + c) {
        changes := [.gearing c (s.ctx c).target], state := .committed, held := false, lost := false, age := 0, commit := s.turn.no + 1 } }) := by
  rw [exec_governorStage]
  unfold execGovernorStage
  dsimp only
  rw [if_neg (by simp [h16, ha, ht, hn, hc, hb])]

/-! ### Applied (R41) -/

/-- A set that is not due waits. -/
theorem exec_changeSetApply_waits {s : State} {key : Nat} {z : ChangeSet} (hz : alook s.sets key = some z) (hd : s.setDue key z = false) :
    exec (.changeSetApply key) s = .next s := by
  rw [exec_changeSetApply]
  unfold execChangeSetApply
  rw [hz]
  dsimp only
  rw [if_pos (by rw [hd]; rfl)]

/-- Whether every unit of a set can switch (R41, R43). -/
def State.Whole (s : State) (key : Nat) (z : ChangeSet) : Prop :=
  z.held = true ∧ z.lost = false ∧ ∀ ch ∈ z.changes, s.needsDrain key ch = false

theorem State.not_whole_iff (s : State) (key : Nat) (z : ChangeSet) :
    (!z.held || z.lost || z.changes.any (fun ch => s.needsDrain key ch)) = true ↔ ¬s.Whole key z := by
  unfold State.Whole
  simp only [Bool.or_eq_true, Bool.not_eq_true', List.any_eq_true, not_and_or, Bool.not_eq_true, Bool.not_eq_false, not_forall, or_assoc, exists_prop]

theorem State.restage_host (s : State) {key : Nat} (hk : key < 65536) (z : ChangeSet) : s.restage [(key, z)] = s := by
  have : ¬65552 ≤ key := by omega
  unfold State.restage
  simp [this]

theorem exec_changeSetApply_host {s : State} {key : Nat} {z : ChangeSet} (hk : key < 65536) (hz : alook s.sets key = some z)
    (hd : s.setDue key z = true) :
    (¬s.Whole key z ∨ s.applyAll z.changes = none → exec (.changeSetApply key) s = .next (s.discardSet key .stageIncomplete)) ∧
    ∀ u, s.Whole key z → s.applyAll z.changes = some u → exec (.changeSetApply key) s =
      .next { (({ u with sets := adel u.sets key } : State).finish (isSetCmd key) .ok
            (fun x => if x.opc = 0x05 then cfgResult key 3 s.turn.no else cfgResult key 3 0)) with
          turn := { u.turn with applied := bump32 u.turn.applied 1 } } := by
  have hw := s.not_whole_iff key z
  rw [exec_changeSetApply]
  unfold execChangeSetApply
  rw [hz]
  dsimp only
  rw [if_neg (by rw [hd]; exact Bool.false_ne_true), if_neg (by omega), decide_eq_true hk, Bool.true_and, State.restage_host _ hk]
  have hk' : ¬65552 ≤ key := by omega
  refine ⟨fun h => ?_, fun u hwh hu => ?_⟩
  · by_cases hwh : s.Whole key z
    · rw [if_neg (fun hn => hw.mp hn hwh), if_neg hk', h.resolve_left (fun hn => hn hwh)]
    · rw [if_pos (hw.mpr hwh)]
  · rw [if_neg (fun hn => hw.mp hn hwh), if_neg hk', hu]
    dsimp only
    rw [if_pos hk]

theorem changeSetApplied {s : State} {key : Nat} {z : ChangeSet} (hk : key < 65536) (hz : alook s.sets key = some z)
    (hd : s.setDue key z = true) :
    (∀ u, s.Whole key z → s.applyAll z.changes = some u → ∃ t, exec (.changeSetApply key) s = .next t ∧ alook t.sets key = none ∧
      t.ctxs = u.ctxs ∧ t.sites = u.sites ∧ t.quads = u.quads ∧ t.turn.geom = u.turn.geom ∧
      t.turn.applied = min (u.turn.applied + 1) (2 ^ 32 - 1)) ∧
    (¬s.Whole key z ∨ s.applyAll z.changes = none → ∃ t, exec (.changeSetApply key) s = .next t ∧ t.ctxs = s.ctxs ∧
      alook t.sets key = none ∧ t.turn.discarded = min (s.turn.discarded + 1) (2 ^ 32 - 1) ∧ t.sites = s.sites ∧ t.quads = s.quads) := by
  obtain ⟨hno, hyes⟩ := exec_changeSetApply_host hk hz hd
  refine ⟨fun u hw hu => ?_, fun h => ?_⟩
  · have hf := (State.finish_eq ({ u with sets := adel u.sets key } : State) (isSetCmd key) .ok
      (fun x => if x.opc = 0x05 then cfgResult key 3 s.turn.no else cfgResult key 3 0)).2
    refine ⟨_, hyes u hw hu, ?_⟩
    rw [hf]
    exact ⟨alook_adel_self _ _, rfl, rfl, rfl, rfl, rfl⟩
  · obtain ⟨h1, h2, h3, h4, h5⟩ := State.discardSet_host hk hz .stageIncomplete
    exact ⟨_, hno h, h3, h1, h2, h4, h5⟩

/-! ### Single changes -/

theorem State.applyAll_one (s : State) (ch : Change) : s.applyAll [ch] = s.applyChange ch := rfl

theorem State.ctxs_rebalance (s : State) (q : Nat) : (s.rebalance q).ctxs = s.ctxs := by
  have h : ∀ (u : State) (i : Nat) (r : Role), (u.setRole i r).ctxs = u.ctxs := by
    intro u i r
    unfold State.setRole
    split <;> rfl
  unfold State.rebalance
  dsimp only
  refine (foldl_fixes State.ctxs _ (fun u i => h u i .spare) _ _).trans ?_
  exact foldl_fixes State.ctxs _ (fun u i => h u i .auditor) _ _

theorem reefRangeApplied (s : State) (c lo hi : Nat) :
    ∃ u, s.applyAll [.reefRange c lo hi] = some u ∧ (u.ctx c).rangeMin = lo ∧ (u.ctx c).rangeMax = hi ∧ u.sites = s.sites ∧
      u.quads = s.quads ∧ ∀ k, k ≠ c → u.ctx k = s.ctx k := by
  have key : ∀ g : Ctx → Ctx, (∀ x, (g x).rangeMin = x.rangeMin ∧ (g x).rangeMax = x.rangeMax) → ∀ u : State,
      u.ctxs = ((s.modCtx c (fun x => { x with rangeMin := lo, rangeMax := hi })).modCtx c g).ctxs →
      (u.ctx c).rangeMin = lo ∧ (u.ctx c).rangeMax = hi ∧ ∀ k, k ≠ c → u.ctx k = s.ctx k := by
    intro g hg u hu
    have hctx (k : Nat) : u.ctx k = ((s.modCtx c (fun x => { x with rangeMin := lo, rangeMax := hi })).modCtx c g).ctx k := by
      unfold State.ctx
      rw [hu]
    refine ⟨?_, ?_, fun k hk => ?_⟩
    · rw [hctx, State.ctx_modCtx_self, State.ctx_modCtx_self, (hg _).1]
    · rw [hctx, State.ctx_modCtx_self, State.ctx_modCtx_self, (hg _).2]
    · rw [hctx, State.ctx_modCtx_ne _ _ _ _ hk, State.ctx_modCtx_ne _ _ _ _ hk]
  have main : ∀ (out : Bool) (v : State), v = (s.modCtx c (fun x => { x with rangeMin := lo, rangeMax := hi })).modCtx c
      (fun x => { x with target := x.target_ (s.modCtx c (fun x => { x with rangeMin := lo, rangeMax := hi })).reef.level }) →
      ∀ u : State, u = (if out then v.discardSet (65536 + c) .stageIncomplete else v) →
      (u.ctx c).rangeMin = lo ∧ (u.ctx c).rangeMax = hi ∧ u.sites = s.sites ∧ u.quads = s.quads ∧ ∀ k, k ≠ c → u.ctx k = s.ctx k := by
    rintro out v hv u rfl
    have hs : v.sites = s.sites := by rw [hv]; rfl
    have hq : v.quads = s.quads := by rw [hv]; rfl
    obtain ⟨h1, h2, h3⟩ := v.discardSet_frame (65536 + c) .stageIncomplete
    split
    · obtain ⟨k1, k2, k3⟩ := key _ (fun _ => by exact ⟨rfl, rfl⟩) (v.discardSet (65536 + c) .stageIncomplete) (h1.trans (congrArg State.ctxs hv))
      exact ⟨k1, k2, h2.trans hs, h3.trans hq, k3⟩
    · obtain ⟨k1, k2, k3⟩ := key _ (fun _ => by exact ⟨rfl, rfl⟩) v (congrArg State.ctxs hv)
      exact ⟨k1, k2, hs, hq, k3⟩
  rw [State.applyAll_one]
  unfold State.applyChange
  exact ⟨_, rfl, main _ _ rfl _ rfl⟩

theorem geometryApplied (s : State) (g : Geometry) :
    ∃ u, s.applyAll [.geometry g] = some u ∧ u.turn.geom = g ∧ u.sites = s.sites := by
  rw [State.applyAll_one]
  unfold State.applyChange
  refine ⟨_, rfl, ?_⟩
  have h1 : ∀ (l : List Nat) (u : State), (l.foldl (fun v c => v.reevaluate c) u).turn = u.turn ∧
      (l.foldl (fun v c => v.reevaluate c) u).sites = u.sites := by
    intro l u
    refine ⟨foldl_fixes State.turn _ (fun v c => ?_) l u, foldl_fixes State.sites _ (fun v c => ?_) l u⟩
    · unfold State.reevaluate
      split <;> rfl
    · unfold State.reevaluate
      split <;> rfl
  have h2 : ∀ (l : List Nat) (u : State), (l.foldl (fun v q => v.modQuad q Quad.redress) u).turn = u.turn ∧
      (l.foldl (fun v q => v.modQuad q Quad.redress) u).sites = u.sites := fun l u =>
    ⟨foldl_fixes State.turn (fun v q => v.modQuad q Quad.redress) (fun _ _ => rfl) l u,
      foldl_fixes State.sites (fun v q => v.modQuad q Quad.redress) (fun _ _ => rfl) l u⟩
  rw [(h1 _ _).1, (h1 _ _).2, (h2 _ _).1, (h2 _ _).2]
  exact ⟨rfl, rfl⟩

theorem auditApplied (s : State) (q r : Nat) :
    ∃ u, s.applyAll [.audit q r] = some u ∧ (u.quad q).reserve = r ∧ u.ctxs = s.ctxs ∧ ∀ k, k ≠ q → u.quad k = s.quad k := by
  have hq (k : Nat) : ((s.modQuad q (fun x => { x with reserve := r })).rebalance q).quad k = (s.modQuad q (fun x => { x with reserve := r })).quad k := by
    unfold State.quad
    rw [State.quads_rebalance]
  refine ⟨_, s.applyAll_one _, ?_, ?_, fun k hk => ?_⟩
  · rw [hq, State.quad_modQuad_self]
  · rw [State.ctxs_rebalance]
    rfl
  · rw [hq, State.quad_modQuad_ne _ _ _ _ hk]

end Sys2Proof.Machine

open Sys2Proof Sys2Proof.Machine

/-- Settles O36: a set's way from its units to its boundary, and the changes that it can hold one by one. -/
theorem changeSets : Obligations.ChangeSets := by
  unfold Obligations.ChangeSets
  refine ⟨fun s key c z => ⟨fun hr hw hk hz hh hs => changeSetHeld hr hw hk hz hh hs, fun hz hk hs ha => ?_, fun h16 ha ht hn hc hb => ⟨fun hh => ?_, fun hh => ?_⟩⟩,
    fun s key z hk hz hc => ⟨fun h => ?_, fun hr hw hcy hcm => ?_⟩, fun s c q r lo hi on g => ⟨?_, reefRangeApplied s c lo hi, auditApplied s q r, geometryApplied s g⟩⟩
  · have hx : exec (.changeSetExpire key) s = .next (s.discardSet key .stageIncomplete) := by
      rw [exec_changeSetExpire]
      unfold execChangeSetExpire
      rw [hz]
      dsimp only
      rw [if_pos ⟨hs, hk, ha⟩]
    obtain ⟨h1, h2, -, h4, -⟩ := State.discardSet_host hk hz .stageIncomplete
    exact ⟨_, hx, h1, h2, h4⟩
  · rw [governorStaged h16 ha ht hn hc hb, if_neg (by rw [hh]; exact Bool.false_ne_true)]
  · have hx := governorStaged h16 ha ht hn hc hb
    rw [if_pos hh] at hx
    exact ⟨_, hx, rfl, (mem_nins _ _ _).mpr (.inl rfl), rfl, rfl⟩
  · refine exec_changeSetApply_waits hz ?_
    unfold State.setDue
    rcases h with h | h | h <;> simp [h, hk]
  · refine changeSetApplied hk hz ?_
    unfold State.setDue
    rw [if_pos hk, hc, hr, hw, hcy, hcm]
    simp
  · exact ⟨_, s.applyAll_one _, by rw [State.ctx_modCtx_self], rfl, rfl, fun k hk => State.ctx_modCtx_ne _ _ _ _ hk⟩

end

section
/-! Hardware checks, diagnosis and doubt (O38): what the brake leaves and what it sets. -/

namespace Sys2Proof.Machine

/-! ### What the steps of a brake leave alone -/

/-- The hub watchdog and its last service. -/
def Mod.service (x : Mod) : Bool × Nat := (x.watchdog, x.serviced)

/-- The watches, the hub's service, the contexts and the quadrants. -/
def State.gauge (s : State) : List HwWatch × (Bool × Nat) × List (Nat × Ctx) × List (Nat × Quad) :=
  (s.check.watches, s.mod.service, s.ctxs, s.quads)

theorem State.gauge_foldl {α : Type} {f : State → α → State} (h : ∀ t x, (f t x).gauge = t.gauge) (l : List α) (s : State) :
    (l.foldl f s).gauge = s.gauge := foldl_fixes State.gauge f h l s

theorem State.gauge_post (s : State) (f r type units : Nat) (body : List Byte) : (s.post f r type units body).gauge = s.gauge := by
  unfold State.post
  split <;> rfl

theorem State.gauge_finish (s : State) (p : Cmd → Bool) (st : Status) (res : Cmd → List Byte) : (s.finish p st res).gauge = s.gauge := by
  rw [(s.finish_eq p st res).2]
  rfl

theorem State.gauge_flushRing (s : State) (f r : Nat) : (s.flushRing f r).gauge = s.gauge := by
  unfold State.flushRing
  dsimp only
  split <;> rfl

theorem State.gauge_brakeRing (s : State) (chip : Bool) (quads cause : Nat) (fault : Option FaultRec) (seqs : List ((Nat × Nat) × Nat))
    (p : Nat × Nat) : (s.brakeRing chip quads cause fault seqs p).gauge = s.gauge := by
  have h1 : ∀ s1 : State, s1.gauge = s.gauge → ∀ g h : Ring → Ring,
      (if stopsRing chip p then (((s1.modRing p.1 p.2 g).flushRing p.1 p.2).modRing p.1 p.2 h) else
        (s1.modRing p.1 p.2 g).flushRing p.1 p.2).gauge = s.gauge := by
    intro s1 hs g h
    split
    · exact (State.gauge_flushRing _ _ _).trans hs
    · exact (State.gauge_flushRing _ _ _).trans hs
  unfold State.brakeRing
  dsimp only
  refine h1 _ ?_ _ _
  split
  · split
    · exact s.gauge_post _ _ _ _ _
    · rfl
  · rfl

theorem State.gauge_discardSet (s : State) (key : Nat) (st : Status) : (s.discardSet key st).gauge = s.gauge := by
  have h := s.gauge_finish (isSetCmd key) st (fun _ => [])
  unfold State.discardSet
  split
  · rfl
  · dsimp only
    split
    · exact h
    · split
      · exact h
      · exact h

theorem State.gauge_discardAll (s : State) (st : Status) : (s.discardAll st).gauge = s.gauge :=
  State.gauge_foldl (fun u (e : Nat × ChangeSet) => u.gauge_discardSet e.1 st) _ s

theorem State.gauge_abandonPlacements (s : State) (quads : List Nat) (old : List (Nat × ChangeSet)) :
    (s.abandonPlacements quads old).gauge = s.gauge := by
  unfold State.abandonPlacements State.restage
  exact State.gauge_foldl (fun _ _ => by rfl) _ _

theorem State.gauge_showIndex (s : State) (f : Nat) : (s.showIndex f).gauge = s.gauge := by
  unfold State.showIndex
  dsimp only
  split <;> rfl

theorem State.gauge_message (s : State) (f v : Nat) : (s.message f v).gauge = s.gauge := by
  unfold State.message
  split <;> rfl

theorem State.gauge_brakeMessage (s : State) (f : Nat) : (s.brakeMessage f).gauge = s.gauge := by
  unfold State.brakeMessage
  split
  · rfl
  · dsimp only
    split
    · rfl
    · exact (State.gauge_message _ _ _)

theorem State.gauge_setDev (s : State) (d : DevCode) (l : List Nat) : (s.setDev d l).gauge = s.gauge := by
  unfold State.setDev
  split <;> rfl

/-! ### The brake -/

theorem mem_quads_of_foldl (l : List Nat) (s : State) {q : Nat} (hq : q ∈ l) :
    ((l.foldl (fun u q => u.modQuad q (fun x =>
      { x with braked := true, replay := none, recState := if x.recState = .replay then .normal else x.recState })) s).quad q).braked = true := by
  have keep : ∀ (l : List Nat) (u : State), (u.quad q).braked = true → ((l.foldl (fun u q => u.modQuad q (fun x =>
      { x with braked := true, replay := none, recState := if x.recState = .replay then .normal else x.recState })) u).quad q).braked = true := by
    intro l
    induction l with
    | nil => exact fun _ h => h
    | cons k l ih =>
      intro u h
      refine ih _ ?_
      by_cases hk : q = k
      · subst hk
        rw [State.quad_modQuad_self]
      · rw [State.quad_modQuad_ne _ _ _ _ hk]
        exact h
  induction l generalizing s with
  | nil => cases hq
  | cons k l ih =>
    by_cases hl : q ∈ l
    · exact ih _ hl
    · have : q = k := (List.mem_cons.mp hq).resolve_right hl
      subst this
      refine keep l _ ?_
      rw [State.quad_modQuad_self]

/-- What a brake has done when it is set: its quadrants are under it, no watch went, no diagnosis began, and the hub's service
stands. -/
def State.Braked (s t : State) (chip : Bool) (quads : List Nat) : Prop :=
  t.mod.brakeN = false ∧ (chip = true → t.check.chipBraked = true ∧ t.mod.dev = .braked) ∧ t.check.watches = s.check.watches ∧
    (∀ q ∈ quads, (t.quad q).braked = true) ∧ (∀ c, (s.ctx c).diag = none → (t.ctx c).diag = none) ∧ t.mod.service = s.mod.service

theorem State.Braked.of_gauge {s u t : State} {quads : List Nat} (h : t.gauge = u.gauge)
    (hw : u.check.watches = s.check.watches) (hq : ∀ q ∈ quads, (u.quad q).braked = true)
    (hc : ∀ c, (s.ctx c).diag = none → (u.ctx c).diag = none) (hm : u.mod.service = s.mod.service) :
    t.check.watches = s.check.watches ∧ (∀ q ∈ quads, (t.quad q).braked = true) ∧
      (∀ c, (s.ctx c).diag = none → (t.ctx c).diag = none) ∧ t.mod.service = s.mod.service := by
  have h1 : t.check.watches = u.check.watches := congrArg (·.1) h
  have h2 : t.ctxs = u.ctxs := congrArg (·.2.2.1) h
  have h3 : t.quads = u.quads := congrArg (·.2.2.2) h
  refine ⟨h1.trans hw, fun q h => ?_, fun c h => ?_, (congrArg (·.2.1) h).trans hm⟩
  · rw [show t.quad q = u.quad q from congrArg (aget Quad.reset · q) h3]
    exact hq q h
  · rw [show t.ctx c = u.ctx c from congrArg (aget Ctx.reset · c) h2]
    exact hc c h

/-- The diagnosis of a context that a brake stops is given up, that of another stands. -/
theorem State.diag_foldl_stop (p : Nat → Bool) (g : Ctx → Ctx) (hg : ∀ x, (g x).diag = none) (l : List Nat) (s : State) (c : Nat)
    (h : (s.ctx c).diag = none) : ((l.foldl (fun u k => if p k then u.modCtx k g else u) s).ctx c).diag = none := by
  induction l generalizing s with
  | nil => exact h
  | cons k l ih =>
    refine ih _ ?_
    dsimp only
    split
    · by_cases hk : c = k
      · rw [hk, State.ctx_modCtx_self]
        exact hg _
      · rw [State.ctx_modCtx_ne _ _ _ _ hk]
        exact h
    · exact h

theorem State.check_setDev (s : State) (d : DevCode) (l : List Nat) : (s.setDev d l).check = s.check := by
  unfold State.setDev
  split <;> rfl

theorem State.brakeN_setDev (s : State) (d : DevCode) (l : List Nat) : (s.setDev d l).mod.brakeN = s.mod.brakeN := by
  unfold State.setDev
  split <;> rfl

theorem State.dev_setDev (s : State) (d : DevCode) (l : List Nat) : (s.setDev d l).mod.dev = d := by
  unfold State.setDev
  split
  · next h => exact h.1
  · rfl

theorem State.brakeAt_brakes (s : State) (chip : Bool) (quads : List Nat) (cause : Nat) (fault : Option FaultRec)
    (seqs : List ((Nat × Nat) × Nat)) : s.Braked (s.brakeAt chip quads cause fault seqs) chip quads := by
  unfold State.brakeAt
  lift_lets
  extract_lets braked rings stopped s1 s2 s3 s4 s5 short off fns due check1 told shown s6 asleep mod6 check6 ddr6 s7
  have h3 : s3.gauge = s.gauge := by
    refine (State.gauge_finish _ _ _ _).trans ((State.gauge_abandonPlacements _ _ _).trans ((State.gauge_discardAll _ _).trans ?_))
    exact State.gauge_foldl (fun u p => State.gauge_brakeRing u _ _ _ _ _ p) _ _
  have h5 : s5.ctxs = s4.ctxs := foldl_fixes State.ctxs _ (fun _ _ => by rfl) quads s4
  have w5 : s5.check.watches = s4.check.watches := foldl_fixes (fun u => u.check.watches) _ (fun _ _ => by rfl) quads s4
  have w4 : s4.check.watches = s3.check.watches := by
    refine foldl_fixes (fun u => u.check.watches) _ (fun u c => ?_) allCtxs s3
    split <;> rfl
  have w3 : s3.check.watches = s.check.watches := congrArg (·.1) h3
  have m5 : s5.mod.service = s4.mod.service := foldl_fixes (fun u => u.mod.service) _ (fun _ _ => by rfl) quads s4
  have m4 : s4.mod.service = s3.mod.service := by
    refine foldl_fixes (fun u => u.mod.service) _ (fun u c => ?_) allCtxs s3
    split <;> rfl
  have m3 : s3.mod.service = s.mod.service := congrArg (·.2.1) h3
  have hc : ∀ c, (s.ctx c).diag = none → (s5.ctx c).diag = none := by
    intro c h
    rw [show s5.ctx c = s4.ctx c from congrArg (aget Ctx.reset · c) h5]
    refine State.diag_foldl_stop braked _ (fun _ => by rfl) allCtxs s3 c ?_
    have c3 : s3.ctxs = s.ctxs := congrArg (·.2.2.1) h3
    rw [show s3.ctx c = s.ctx c from congrArg (aget Ctx.reset · c) c3]
    exact h
  have hq : ∀ q ∈ quads, (s5.quad q).braked = true := fun q h => mem_quads_of_foldl quads s4 h
  have hshown : shown.gauge = s5.gauge := by
    refine State.gauge_foldl (fun u f => ?_) fns told
    dsimp only
    split
    · exact State.gauge_showIndex _ _
    · exact (State.gauge_brakeMessage _ _).trans (State.gauge_showIndex _ _)
  have h6 : s6.gauge = s5.gauge := by
    show (if short then shown else _).gauge = _
    split
    · exact hshown
    · exact (State.gauge_foldl (fun _ _ => by rfl) off shown).trans hshown
  have h7 : s7.gauge = s5.gauge := h6
  refine ⟨State.brakeN_setDev s7 _ _, fun h => ⟨?_, ?_⟩, State.Braked.of_gauge ((State.gauge_setDev s7 _ _).trans h7) (w5.trans (w4.trans w3)) hq hc
    (m5.trans (m4.trans m3))⟩
  · refine (congrArg Check.chipBraked (State.check_setDev s7 _ _)).trans ?_
    show (s6.check.chipBraked || chip) = true
    rw [h, Bool.or_true]
  · rw [State.dev_setDev, if_pos h]

theorem mem_foldl_nins_iff {l acc : List Nat} {i : Nat} : i ∈ l.foldl nins acc ↔ i ∈ acc ∨ i ∈ l := by
  induction l generalizing acc with
  | nil => simp
  | cons k l ih => rw [List.foldl_cons, ih, mem_nins, List.mem_cons, or_assoc, or_left_comm]

/-- The quadrants that a brake takes. -/
def State.brakeQuads (s : State) (quads : List Nat) (hub : Bool) : List Nat :=
  if hub || decide (2 ≤ (quads.foldl nins []).length) || s.mod.order.quads.all (fun q => (s.quad q).braked || quads.contains q) then
    s.mod.order.quads
  else quads.foldl nins []

theorem State.brake_brakes (s : State) (quads : List Nat) (hub : Bool) (cause : Cause) (fault : Option FaultRec)
    (seqs : List ((Nat × Nat) × Nat)) (h : s.check.chipBraked = false) :
    s.Braked (s.brake quads hub cause fault seqs) hub (s.brakeQuads quads hub) := by
  unfold State.brake State.brakeQuads
  dsimp only
  rw [if_neg (by rw [h]; exact Bool.false_ne_true)]
  obtain ⟨hn, hchip, hrest⟩ := s.brakeAt_brakes _ _ cause.code _ seqs
  exact ⟨hn, fun hb => hchip (by rw [hb]; rfl), hrest⟩

theorem State.mem_brakeQuads {s : State} {quads : List Nat} {hub : Bool} {q : Nat} (ho : q ∈ s.mod.order.quads)
    (hq : hub = true ∨ q ∈ quads) : q ∈ s.brakeQuads quads hub := by
  unfold State.brakeQuads
  split
  · exact ho
  · next h =>
    rcases hq with hb | hq
    · exact absurd (by rw [hb]; rfl) h
    · exact mem_foldl_nins_iff.mpr (Or.inr hq)

/-! ### Doubt -/

/-- What a fault record is not about. -/
def State.bench (s : State) : Check × Mod × List (Nat × Ctx) × List (Nat × Quad) := (s.check, s.mod, s.ctxs, s.quads)

theorem State.bench_post (s : State) (f r type units : Nat) (body : List Byte) : (s.post f r type units body).bench = s.bench := by
  unfold State.post
  split <;> rfl

theorem State.bench_postRanges (s : State) (c type turn seq n : Nat) (l : List (Nat × Nat)) :
    (s.postRanges c type turn seq n l).bench = s.bench := by
  induction n generalizing s l with
  | zero => rfl
  | succ n ih =>
    cases l with
    | nil => rfl
    | cons e l => exact (ih _ _).trans (s.bench_post _ _ _ _ _)

theorem State.bench_suspectRanges (s : State) (c first : Nat) : (s.suspectRanges c first).bench = s.bench := by
  unfold State.suspectRanges
  exact s.bench_postRanges _ _ _ _ _ _

theorem State.Braked.of_bench {s u t : State} {chip : Bool} {quads : List Nat} (h : u.bench = s.bench) (hb : u.Braked t chip quads) :
    s.Braked t chip quads := by
  have h1 : u.check = s.check := congrArg (·.1) h
  have h3 : u.ctxs = s.ctxs := congrArg (·.2.2.1) h
  have h2 : u.mod = s.mod := congrArg (·.2.1) h
  obtain ⟨hn, hchip, hw, hq, hc, hm⟩ := hb
  refine ⟨hn, hchip, hw.trans (congrArg Check.watches h1), hq, fun c hd => hc c ?_, hm.trans (congrArg Mod.service h2)⟩
  rw [show u.ctx c = s.ctx c from congrArg (aget Ctx.reset · c) h3]
  exact hd

theorem State.brakeQuads_of_bench {s u : State} (h : u.bench = s.bench) (quads : List Nat) (hub : Bool) :
    u.brakeQuads quads hub = s.brakeQuads quads hub := by
  have h2 : u.mod = s.mod := congrArg (·.2.1) h
  have h4 : u.quads = s.quads := congrArg (·.2.2.2) h
  unfold State.brakeQuads State.quad
  rw [h2, h4]

theorem State.bench_idlePorts (s : State) (cause : Cause) : (s.idlePorts cause).bench = s.bench :=
  foldl_fixes State.bench _ (fun _ _ => by rfl) _ s

/-- The state in which the device becomes SUSPECT. -/
theorem State.becomeSuspect_leaves (s : State) :
    s.becomeSuspect.check.suspect = true ∧ s.becomeSuspect.check.drainRequest = true ∧ s.becomeSuspect.mod = s.mod ∧
      s.becomeSuspect.gauge = s.gauge := by
  unfold State.becomeSuspect
  dsimp only
  split
  · exact ⟨rfl, rfl, rfl, rfl⟩
  · exact ⟨rfl, rfl, rfl, rfl⟩

/-- Doubt brakes the quadrants of the suspects and makes the device SUSPECT. -/
theorem State.doubt_brakes (s : State) (c : Nat) (cause : Cause) (lines : List SiteLine) (event first : Nat) (data : List Byte)
    (quads : List Nat) (fabric : Bool) (h : s.check.chipBraked = false) :
    let t := s.doubt c cause lines event first data quads fabric
    s.Braked t false (s.brakeQuads quads fabric) ∧ t.check.suspect = true ∧ t.check.drainRequest = true := by
  unfold State.doubt
  lift_lets
  extract_lets chip flags record a seq b d t
  have hb : b.bench = s.bench := by
    have ha : a.bench = s.bench := s.bench_post _ _ _ _ _
    show (if first = 0 then a else a.suspectRanges c first).bench = _
    split
    · exact ha
    · exact (a.bench_suspectRanges c first).trans ha
  have hbc : b.check = s.check := congrArg (·.1) hb
  have hd : s.Braked d fabric (s.brakeQuads quads fabric) := by
    refine State.Braked.of_bench hb ?_
    rw [← State.brakeQuads_of_bench hb]
    exact b.brake_brakes quads fabric cause none [(s.ctxRing c, seq)] (by rw [hbc]; exact h)
  obtain ⟨hn, _, hrest⟩ := hd
  have he : (if fabric then d.idlePorts cause else d).bench = d.bench := by
    split
    · exact d.bench_idlePorts cause
    · rfl
  obtain ⟨h1, h2, hm, hg⟩ := (if fabric then d.idlePorts cause else d).becomeSuspect_leaves
  obtain ⟨hw, hq, hc, hs⟩ := hrest
  have hgd : t.gauge = d.gauge := hg.trans (congrArg (fun z => (z.1.watches, z.2.1.service, z.2.2)) he)
  have hmd : t.mod = d.mod := hm.trans (congrArg (·.2.1) he)
  exact ⟨⟨by rw [hmd]; exact hn, fun hf => absurd hf Bool.false_ne_true, State.Braked.of_gauge hgd hw hq hc hs⟩, h1, h2⟩

/-- A watch that ended is gone. -/
theorem Check.watch_filter (k : Check) (i : Nat) : ({ k with watches := k.watches.filter (fun z => z.site != i) } : Check).watch i = none := by
  refine List.find?_eq_none.mpr fun w hw h => ?_
  have := (List.mem_filter.mp hw).2
  rw [eq_of_beq h] at this
  simp at this

/-- The state without the watch of a site. -/
def State.watchEnded (s : State) (i : Nat) : State :=
  { s with check := { s.check with watches := s.check.watches.filter (fun z => z.site != i) } }

/-- A transient of a quadrant is counted, for the device's life and for the day. -/
def State.transient (s : State) (q : Nat) : State :=
  let u := s.modQuad q (fun x => { x with transients := bump16 x.transients 1 })
  ({ u with heal := { u.heal with dayTransients := amod [] u.heal.dayTransients q today } }).rewear

/-- The state after the end of a watch that stands. -/
def State.afterWatch (s : State) (i : Nat) (w : HwWatch) : State :=
  if w.again then
    (s.watchEnded i).doubt w.ctx w.cause [(s.watchEnded i).siteLine i 0 w.cause.code] w.event 0
      (if w.cause = .eccUe then [] else [BitVec.ofNat 8 w.firings]) [i / Config.sitesPerQuad] w.fabric
  else (s.watchEnded i).transient (i / Config.sitesPerQuad)

theorem execHwCheckWatchEnd_some {s : State} {i : Nat} {w : HwWatch} (hw : s.check.watch i = some w)
    (h : ¬(!s.live || !s.turn.closed (w.since + 3)) = true) : execHwCheckWatchEnd i s = .next (s.afterWatch i w) := by
  unfold execHwCheckWatchEnd
  rw [hw]
  exact congrArg Host.Outcome.next (if_neg h)

theorem State.quad_transient (s : State) (q : Nat) : ((s.transient q).quad q).transients = bump16 (s.quad q).transients 1 := by
  have : ((s.modQuad q (fun x => { x with transients := bump16 x.transients 1 })).quad q).transients = bump16 (s.quad q).transients 1 := by
    rw [State.quad_modQuad_self]
  exact this

/-- The state after the end of a diagnosis that stands. -/
def State.afterDiagnosis (s : State) (c : Nat) (d : Diagnosis) : State :=
  let t := s.modCtx c (fun x => { x with diag := none })
  t.doubt c d.cause (d.suspects.map (fun i => t.siteLine i (if some i = d.auditor then 1 else 0) d.cause.code)) d.event
    d.firstSuspect d.data ((d.suspects.map (fun i => i / Config.sitesPerQuad)).foldl nins []) false

theorem execDiagnosisEnd_some {s : State} {c : Nat} {d : Diagnosis} (hd : (s.ctx c).diag = some d)
    (h : ¬(!s.live || !s.turn.closed (d.started + 3)) = true) : execDiagnosisEnd c s = .next (s.afterDiagnosis c d) := by
  unfold execDiagnosisEnd
  rw [hd]
  exact congrArg Host.Outcome.next (if_neg h)

end Sys2Proof.Machine

open Sys2Proof Sys2Proof.Machine

/-- Settles O38: the brake that doubt sets is the brake of the suspects' quadrants, or of the chip, and leaves the watches. -/
theorem checksAndDoubt : Obligations.ChecksAndDoubt := by
  intro s hlive
  have hrun := hlive
  unfold State.live at hrun
  have hchip : s.check.chipBraked = false := by
    cases hb : s.check.chipBraked
    · rfl
    · rw [hb] at hrun
      simp at hrun
  have hdue : ∀ w : Nat, s.turn.closed (w + 3) = true → ¬(!s.live || !s.turn.closed (w + 3)) = true := by
    intro w h
    rw [hlive, h]
    exact Bool.false_ne_true
  refine ⟨fun i w hw hclosed => ?_, fun c d hd hclosed => ?_, ?_⟩
  · refine ⟨_, exec_hwCheckWatchEnd.trans (execHwCheckWatchEnd_some hw (hdue _ hclosed)), ?_⟩
    unfold State.afterWatch
    cases ha : w.again
    · rw [if_neg Bool.false_ne_true]
      exact ⟨Check.watch_filter _ i, fun _ => ⟨rfl, rfl, rfl, State.quad_transient _ _⟩, fun h => absurd h Bool.false_ne_true⟩
    · rw [if_pos rfl]
      obtain ⟨⟨hn, -, hkeep, hq, -⟩, h1, h2⟩ := State.doubt_brakes (s.watchEnded i) w.ctx w.cause
        [(s.watchEnded i).siteLine i 0 w.cause.code] w.event 0 (if w.cause = .eccUe then [] else [BitVec.ofNat 8 w.firings])
        [i / Config.sitesPerQuad] w.fabric hchip
      exact ⟨(congrArg (List.find? (fun (x : HwWatch) => x.site == i)) hkeep).trans (Check.watch_filter s.check i),
        fun h => absurd h.symm Bool.false_ne_true, fun _ ho => ⟨h1, h2, hn,
          hq _ (State.mem_brakeQuads ho (Or.inr (List.mem_singleton_self _)))⟩⟩
  · refine ⟨_, exec_diagnosisEnd.trans (execDiagnosisEnd_some hd (hdue _ hclosed)), ?_⟩
    unfold State.afterDiagnosis
    obtain ⟨⟨hn, -, -, hq, hc, -⟩, h1, h2⟩ := State.doubt_brakes (s.modCtx c (fun x => { x with diag := none })) c d.cause
      (d.suspects.map (fun i => (s.modCtx c (fun x => { x with diag := none })).siteLine i (if some i = d.auditor then 1 else 0)
        d.cause.code)) d.event d.firstSuspect d.data ((d.suspects.map (fun i => i / Config.sitesPerQuad)).foldl nins []) false hchip
    refine ⟨hc c (by rw [State.ctx_modCtx_self]), h1, h2, hn, fun i hi ho => hq _ (State.mem_brakeQuads ho (Or.inr ?_))⟩
    exact mem_foldl_nins_iff.mpr (Or.inr (List.mem_map.mpr ⟨i, hi, rfl⟩))
  · refine ⟨_, exec_hubLockstep.trans (congrArg Host.Outcome.next (if_pos hlive)), ?_⟩
    obtain ⟨hn, hc, -, hq, -⟩ := State.brake_brakes s.newEvent.1 [] true .lockstep
      (some { (s.newEvent.1.plainFault .lockstep [] [1]) with event := s.newEvent.2 }) [] hchip
    exact ⟨(hc rfl).1, (hc rfl).2, hn, fun q ho => hq q (State.mem_brakeQuads ho (Or.inl rfl))⟩
end

section
/-! Records of a headrace, deadlines, and the polls of a braked device (O47). -/

namespace Sys2Proof.Machine

/-! ### Frames and refusals -/

theorem State.command_leave {s : State} {h : CmdHead} (hf : s.frame h.fn h.ring h.units h.readOk = .leave) (opc : Nat) (k : RingKind)
    (named bad legal : Bool) (res : List Byte) (run : State → State) : s.command h opc k named bad legal res run = s := by
  unfold State.command
  rw [hf]

theorem State.command_halt {s : State} {h : CmdHead} {n : Nat} (hf : s.frame h.fn h.ring h.units h.readOk = .halt n) (opc : Nat)
    (k : RingKind) (named bad legal : Bool) (res : List Byte) (run : State → State) :
    s.command h opc k named bad legal res run = s.modRing h.fn h.ring (fun x => x.halt n) := by
  unfold State.command
  rw [hf]

/-- A refusal that does not ask for the context's state stands whatever the state is (R516). -/
theorem State.refusal_of_legal {s : State} {h : CmdHead} {opc : Nat} {k : RingKind} {named bad : Bool} {st : Status}
    (hr : s.refusal h opc k named bad true = some st) (legal : Bool) : s.refusal h opc k named bad legal = some st := by
  unfold State.refusal at hr ⊢
  dsimp only at hr ⊢
  split at hr
  · next h1 => rw [if_pos h1]; exact hr
  next h1 =>
  split at hr
  · next h2 => rw [if_neg h1, if_pos h2]; exact hr
  next h2 =>
  split at hr
  · next h3 => rw [if_neg h1, if_neg h2, if_pos h3]; exact hr
  next h3 =>
  split at hr
  · next h4 => rw [if_neg h1, if_neg h2, if_neg h3, if_pos h4]; exact hr
  · exact absurd hr (by simp)

theorem State.command_refused {s : State} {h : CmdHead} {opc : Nat} {k : RingKind} {named legal : Bool} {st : Status}
    (hf : s.frame h.fn h.ring h.units h.readOk = .read) (hr : s.refusal h opc k named false true = some st) (res : List Byte)
    (run : State → State) : s.command h opc k named false legal res run = (s.afterRecord h).refuse (headRef h opc) st res := by
  unfold State.command
  rw [hf, State.refusal_of_legal hr legal]
  rfl

theorem Ring.halt_eq (x : Ring) (n : Nat) : x.halt n = { x with state := .halted, haltCause := n, haltOffset := x.hrCons } := rfl

/-- A record that cannot be framed halts its ring, and nothing else happens. -/
theorem State.halted_modRing (s : State) (f r n : Nat) :
    (s.modRing f r (fun x => x.halt n)).ring f r =
        { s.ring f r with state := .halted, haltCause := n, haltOffset := (s.ring f r).hrCons } ∧
      s.modRing f r (fun x => x.halt n) = { s with fns := (s.modRing f r (fun x => x.halt n)).fns } :=
  ⟨State.ring_modRing_self _ _ _ _, rfl⟩

/-- A command on a ring that names its context: what its frame and its refusals come to. -/
theorem commandFramed {s : State} {h : CmdHead} {i : Instr} {opc : Nat} {k : RingKind} {legal : Bool} {run : State → State}
    {states : List CtxState} (hx : exec i s = .next (s.command h opc k true false legal [] run))
    (hl : (s.ctx h.ctx).state ∉ states → legal = false) :
    (s.frame h.fn h.ring h.units h.readOk = .leave → exec i s = .next s) ∧
    (∀ n, s.frame h.fn h.ring h.units h.readOk = .halt n → ∃ t, exec i s = .next t ∧
      t.ring h.fn h.ring = { s.ring h.fn h.ring with state := .halted, haltCause := n, haltOffset := (s.ring h.fn h.ring).hrCons } ∧
      t = { s with fns := t.fns }) ∧
    (∀ st, s.frame h.fn h.ring h.units h.readOk = .read → s.refusal h opc k true false true = some st →
      ∃ t, exec i s = .next t ∧ Completes s t h opc st [] ∧ OnlyRings s t) ∧
    (s.reads h opc k true → (s.ctx h.ctx).state ∉ states → ∃ t, exec i s = .next t ∧ Completes s t h opc .wrongState [] ∧
      OnlyRings s t ∧ (t.ring h.fn h.ring).wrongState = min ((s.ring h.fn h.ring).wrongState + 1) (2 ^ 32 - 1)) := by
  refine ⟨fun hf => ?_, fun n hf => ?_, fun st hf hr => ?_, fun hr hs => ?_⟩
  · rw [hx, State.command_leave hf]
  · exact ⟨_, hx.trans (congrArg _ (State.command_halt hf _ _ _ _ _ _ _)), s.halted_modRing _ _ n⟩
  · exact ⟨_, hx.trans (congrArg _ (State.command_refused hf hr _ _)), State.completes_refuse (State.active_of_frame_read hf) opc st []⟩
  · obtain ⟨hc, ho⟩ := State.completes_refuse hr.active opc .wrongState []
    refine ⟨_, hx.trans (congrArg _ ((hr.command false legal [] run).trans ?_)), hc, ho, ?_⟩
    · rw [hl hs]
      rfl
    · have hact : ((s.afterRecord h).ring (headRef h opc).fn (headRef h opc).ring).state = .active := by
        simpa [headRef] using hr.active
      unfold State.refuse
      rw [State.complete_of_active hact]
      simp [headRef, Ring.add, bump32]
      rfl

theorem recordsFramed (s : State) (h : CmdHead) (i : Instr) (opc : Nat) (k : RingKind) (legal : List CtxState)
    (hi : (i, opc, k, legal) = (.ctxStart h, 0x10, .context, [.loaded]) ∨ (i, opc, k, legal) = (.ctxPause h, 0x11, .context, [.running]) ∨
      (i, opc, k, legal) = (.ctxAbort h, 0x07, .management, [.loading, .running, .paused, .draining, .faulted]) ∨
      (i, opc, k, legal) = (.planUnload h, 0x02, .management, [.loaded, .faulted, .quarantined])) :
    ∃ b run, exec i s = .next (s.command h opc k true false b [] run) ∧ ((s.ctx h.ctx).state ∉ legal → b = false) := by
  rcases hi with hi | hi | hi | hi
  · obtain ⟨rfl, rfl, rfl, rfl⟩ := hi
    refine ⟨_, _, exec_ctxStart, fun hn => ?_⟩
    simp only [List.mem_singleton] at hn
    rw [decide_eq_false hn]
    rfl
  · obtain ⟨rfl, rfl, rfl, rfl⟩ := hi
    refine ⟨_, _, exec_ctxPause, fun hn => ?_⟩
    simp only [List.mem_singleton] at hn
    rw [decide_eq_false hn]
    rfl
  · obtain ⟨rfl, rfl, rfl, rfl⟩ := hi
    refine ⟨_, _, exec_ctxAbort, fun hn => ?_⟩
    simpa using hn
  · obtain ⟨rfl, rfl, rfl, rfl⟩ := hi
    refine ⟨_, _, exec_planUnload, fun hn => ?_⟩
    have : [CtxState.loaded, .faulted, .quarantined].contains (s.ctx h.ctx).state = false := by simpa using hn
    rw [this]
    rfl

theorem unknownCommand_completes {s : State} {h : CmdHead} (hf : s.frame h.fn h.ring h.units h.readOk = .read) (opc : Nat) :
    ∃ t, exec (.unknownCommand h opc) s = .next t ∧ OnlyRings s t ∧
      Completes s t h opc (if s.mod.dev = .notReady then .noResource else .badCommand) [] := by
  have hx : execUnknownCommand h opc s =
      .next ((s.afterRecord h).refuse (headRef h opc) (if s.mod.dev = .notReady then .noResource else .badCommand) []) := by
    unfold execUnknownCommand
    rw [hf]
    rfl
  obtain ⟨hc, ho⟩ := State.completes_refuse (State.active_of_frame_read hf) opc (if s.mod.dev = .notReady then .noResource else .badCommand) []
  exact ⟨_, exec_unknownCommand.trans hx, ho, hc⟩

theorem execHeadraceSkip_read {s : State} {h : CmdHead} (hf : s.frame h.fn h.ring 1 h.readOk = .read) (span : Nat) :
    execHeadraceSkip h span s = .next (
      if h.units ≠ 1 ∨ (s.ring h.fn h.ring).hrCons % 2 ^ (s.ring h.fn h.ring).hrLog + span ≠ 2 ^ (s.ring h.fn h.ring).hrLog then
        s.modRing h.fn h.ring (fun y => y.halt 5)
      else if idxSub (s.ring h.fn h.ring).hrProd (s.ring h.fn h.ring).hrCons < span then s
      else s.consume h.fn h.ring span 1) := by
  unfold execHeadraceSkip
  rw [hf]

theorem headraceSkip_moves {s : State} {h : CmdHead} (hf : s.frame h.fn h.ring 1 h.readOk = .read) (span : Nat) :
    let x := s.ring h.fn h.ring
    let size := 2 ^ x.hrLog
    (h.units = 1 → x.hrCons % size + span = size → span ≤ idxSub x.hrProd x.hrCons →
      ∃ t, exec (.headraceSkip h span) s = .next t ∧ t = { s with fns := t.fns, readUnits := s.readUnits + 1 } ∧
        t.ring h.fn h.ring = { x with hrCons := (x.hrCons + span) % 2 ^ 32, readNow := x.readNow + 1 }) ∧
    (h.units = 1 → x.hrCons % size + span = size → idxSub x.hrProd x.hrCons < span → exec (.headraceSkip h span) s = .next s) ∧
    (h.units ≠ 1 ∨ x.hrCons % size + span ≠ size → ∃ t, exec (.headraceSkip h span) s = .next t ∧
      t.ring h.fn h.ring = { x with state := .halted, haltCause := 5, haltOffset := x.hrCons } ∧ t = { s with fns := t.fns }) := by
  have hx := exec_headraceSkip.trans (execHeadraceSkip_read hf span)
  refine ⟨fun h1 h2 h3 => ?_, fun h1 h2 h3 => ?_, fun h1 => ?_⟩
  · rw [if_neg (by rintro (h | h); exacts [h h1, h h2]), if_neg (Nat.not_lt.mpr h3)] at hx
    exact ⟨_, hx, rfl, s.ring_consume_self _ _ _ _⟩
  · rw [if_neg (by rintro (h | h); exacts [h h1, h h2]), if_pos h3] at hx
    exact hx
  · rw [if_pos h1] at hx
    exact ⟨_, hx, s.halted_modRing _ _ 5⟩

/-! ### A deadline that has passed -/

/-- A write to device DDR changes the DDR alone. -/
theorem State.ddrPut_eq (s : State) (q l : Nat) (bs : List Byte) (poison : Bool) (src : DdrSource) :
    s.ddrPut q l bs poison src = { s with ddr := (s.ddrPut q l bs poison src).ddr } := by
  have unit : ∀ (u : State) (l : Nat) (bs : List Byte), u.ddrWriteUnit q l bs poison src =
      { u with ddr := (u.ddrWriteUnit q l bs poison src).ddr } := by
    intro u l bs
    unfold State.ddrWriteUnit State.touchRetired
    dsimp only
    split
    · split
      · split <;> rfl
      · rfl
    · split
      · split <;> rfl
      · rfl
  have write : ∀ (fuel : Nat) (u : State) (l : Nat) (bs : List Byte), u.ddrWrite q poison src fuel l bs =
      { u with ddr := (u.ddrWrite q poison src fuel l bs).ddr } := by
    intro fuel
    induction fuel with
    | zero => exact fun _ _ _ => rfl
    | succ k ih =>
      intro u l bs
      cases bs with
      | nil => rfl
      | cons b bs =>
        unfold State.ddrWrite
        dsimp only
        rw [ih, unit]
  exact write _ s l bs

/-- What recovery adds to and never takes from: records due on active rings, snapshots pending, deadlines counted. -/
def State.Ongoing (s t : State) : Prop :=
  (∀ f r, (s.ring f r).state = .active → (t.ring f r).state = .active ∧ ∀ x ∈ (s.ring f r).due, x ∈ (t.ring f r).due) ∧
    ∀ q, (t.quad q).deadlines = (s.quad q).deadlines ∧ ((s.quad q).snap.pending = true → (t.quad q).snap.pending = true)

theorem State.Ongoing.of_eq {s t : State} (hf : t.fns = s.fns) (hq : t.quads = s.quads) : s.Ongoing t := by
  refine ⟨fun f r h => ?_, fun q => ?_⟩
  · have hr : t.ring f r = s.ring f r := congrArg (fun l => (aget Fn.reset l f).ring r) hf
    rw [hr]
    exact ⟨h, fun _ hx => hx⟩
  · rw [show t.quad q = s.quad q from congrArg (aget Quad.reset · q) hq]
    exact ⟨rfl, fun h => h⟩

theorem State.Ongoing.refl (s : State) : s.Ongoing s := .of_eq rfl rfl

theorem State.Ongoing.trans {s t u : State} (h1 : s.Ongoing t) (h2 : t.Ongoing u) : s.Ongoing u := by
  obtain ⟨r1, q1⟩ := h1
  obtain ⟨r2, q2⟩ := h2
  refine ⟨fun f r h => ?_, fun q => ⟨(q2 q).1.trans (q1 q).1, fun h => (q2 q).2 ((q1 q).2 h)⟩⟩
  obtain ⟨ha, hd⟩ := r1 f r h
  obtain ⟨ha', hd'⟩ := r2 f r ha
  exact ⟨ha', fun x hx => hd' x (hd x hx)⟩

theorem State.Ongoing.foldl {α : Type} {f : State → α → State} (h : ∀ (t : State) x, t.Ongoing (f t x)) (l : List α) (s : State) :
    s.Ongoing (l.foldl f s) := by
  induction l generalizing s with
  | nil => exact .refl s
  | cons a l ih => exact (h s a).trans (ih _)

theorem State.Ongoing.of_quads {s t u : State} (h : s.Ongoing t) {f : Quad → Quad} (hf : u.fns = t.fns)
    (hq : u.quads = t.quads.map (fun e => (e.1, f e.2)))
    (hk : ∀ x, (f x).deadlines = x.deadlines ∧ (f x).snap = x.snap) : s.Ongoing u := by
  refine h.trans ⟨(State.Ongoing.of_eq (t := { u with quads := t.quads }) hf rfl).1, fun q => ?_⟩
  have hx : ((u.quad q).deadlines, (u.quad q).snap) = ((t.quad q).deadlines, (t.quad q).snap) :=
    State.quad_map (fun x => (x.deadlines, x.snap)) hq (fun x => Prod.ext (hk x).1 (hk x).2) q
  obtain ⟨h1, h2⟩ := Prod.mk.inj hx
  rw [h1, h2]
  exact ⟨rfl, fun h => h⟩

section
variable {s t : State} (h : s.Ongoing t)
include h

theorem State.Ongoing.eq {u : State} (hf : u.fns = t.fns) (hq : u.quads = t.quads) : s.Ongoing u := h.trans (.of_eq hf hq)

theorem State.Ongoing.fold {α : Type} {f : State → α → State} (hf : ∀ (u : State) x, u.Ongoing (f u x)) (l : List α) :
    s.Ongoing (l.foldl f t) := h.trans (.foldl hf l t)

theorem State.Ongoing.modQuad (k : Nat) {g : Quad → Quad} (hd : (g (t.quad k)).deadlines = (t.quad k).deadlines)
    (hp : (t.quad k).snap.pending = true → (g (t.quad k)).snap.pending = true) : s.Ongoing (t.modQuad k g) := by
  refine h.trans ⟨(State.Ongoing.of_eq (t := { t.modQuad k g with quads := t.quads }) rfl rfl).1, fun q => ?_⟩
  by_cases hq : q = k
  · subst hq
    rw [State.quad_modQuad_self]
    exact ⟨hd, hp⟩
  · rw [State.quad_modQuad_ne _ _ _ _ hq]
    exact ⟨rfl, fun h => h⟩

theorem State.Ongoing.post (f r type units : Nat) (body : List Byte) : s.Ongoing (t.post f r type units body) := by
  have hadd : t.Ongoing (t.modRing f r (fun x => x.add t.turn.no type units body)) := by
    refine ⟨fun n m h => ?_, (State.Ongoing.of_eq (s := t) rfl rfl).2⟩
    by_cases he : n = f ∧ m = r
    · obtain ⟨rfl, rfl⟩ := he
      rw [State.ring_modRing_self]
      exact ⟨h, fun x hx => List.mem_append_left _ hx⟩
    · rw [State.ring_modRing_ne _ _ _ _ _ _ (by tauto)]
      exact ⟨h, fun _ hx => hx⟩
  unfold State.post
  split
  · exact h
  · exact h
  · exact h.trans hadd

theorem State.Ongoing.finish (p : Cmd → Bool) (st : Status) (res : Cmd → List Byte) : s.Ongoing (t.finish p st res) :=
  (h.fold (f := fun u c => u.complete c.ref st (res c)) (fun u _ => (State.Ongoing.refl u).post _ _ _ _ _) _).trans (.of_eq rfl rfl)

theorem State.Ongoing.release (id : Nat) : s.Ongoing (t.release id) := by
  refine h.eq ?_ ?_
  · unfold State.release State.modSlot
    dsimp only
    split <;> rfl
  · unfold State.release State.modSlot
    dsimp only
    split <;> rfl

theorem State.Ongoing.endStep (id : Nat) (st : Status) (reason : Nat) (fin : StreamState) :
    s.Ongoing (t.endStep id st reason fin) := by
  unfold State.endStep
  exact (((h.finish _ _ _).finish _ _ _).release id).eq rfl rfl

theorem State.Ongoing.endSteps (c : Nat) (st : Status) : s.Ongoing (t.endSteps c st) :=
  h.fold (fun u _ => (State.Ongoing.refl u).endStep _ _ _ _) _

theorem State.Ongoing.setHolds : s.Ongoing t.setHolds :=
  h.fold (fun u c => by
    dsimp only
    split
    · exact .refl u
    · exact .of_eq rfl rfl) allCtxs

theorem State.Ongoing.ddrPut (q l : Nat) (bs : List Byte) (poison : Bool) (src : DdrSource) :
    s.Ongoing (t.ddrPut q l bs poison src) := by
  rw [State.ddrPut_eq]
  exact h.eq rfl rfl

theorem State.Ongoing.snapWrite (slot off : Nat) (bs : List Byte) : s.Ongoing (t.snapWrite slot off bs) := h.ddrPut _ _ _ _ _

theorem State.Ongoing.snapQuad (q slot : Nat) : s.Ongoing (t.snapQuad q slot) := by
  unfold State.snapQuad
  refine State.Ongoing.fold (State.Ongoing.fold h (fun u n => ?_) _) (fun u n => ?_) _
  · exact (State.Ongoing.refl u).snapWrite _ _ _
  · exact (State.Ongoing.refl u).snapWrite _ _ _

theorem State.Ongoing.modCtx (c : Nat) (g : Ctx → Ctx) : s.Ongoing (t.modCtx c g) := h.eq rfl rfl

theorem State.Ongoing.loseShadow (f : Change → Bool) : s.Ongoing (t.loseShadow f) := h.eq rfl rfl

theorem State.Ongoing.captured (q seq : Nat) {z : Snapshot} (hz : z.pending = true) :
    s.Ongoing (({ t with mod := { t.mod with snapSeq := seq } } : State).modQuad q (fun x => { x with snap := z })).setHolds :=
  have hm : s.Ongoing ({ t with mod := { t.mod with snapSeq := seq } } : State) := h.eq rfl rfl
  State.Ongoing.setHolds (hm.modQuad q rfl (fun _ => hz))

theorem State.Ongoing.snapshot (q trigger engine : Nat) (suspects ctxs : List Nat) (cmd : Option Cmd) :
    s.Ongoing (t.snapshot q trigger engine suspects ctxs cmd) := by
  unfold State.snapshot
  dsimp only
  split
  · next hp => exact (h.modQuad q rfl (fun _ => hp)).setHolds
  · exact State.Ongoing.captured ((h.snapWrite _ _ _).snapQuad q _) q _ rfl

theorem State.Ongoing.modSites (l : List Nat) (g : Site → Site) : s.Ongoing (l.foldl (fun u i => u.modSite i g) t) :=
  h.fold (fun _ _ => .of_eq (by rfl) (by rfl)) l

theorem State.Ongoing.leave (c : Nat) {u : State} (hf : u.fns = t.fns)
    (hq : u.quads = t.quads.map (fun e => (e.1, { e.2 with replay := e.2.replay.map (fun r => r.leave c) }))) : s.Ongoing u :=
  h.of_quads (f := fun x => { x with replay := x.replay.map (fun r => r.leave c) }) hf hq (fun _ => ⟨rfl, rfl⟩)

theorem State.Ongoing.stopCtx (c : Nat) : s.Ongoing (t.stopCtx c) := by
  unfold State.stopCtx
  extract_lets cleared empty m u
  have hm : s.Ongoing m := h.modSites _ _
  exact State.Ongoing.leave (t := u) (hm.modCtx c _) c rfl rfl

theorem State.Ongoing.rearm (c : Nat) : s.Ongoing (t.rearm c) :=
  h.of_quads (f := fun x => { x with sluices := x.sluices.map (fun z =>
      if z.2.ctx = c then (z.1, z.2.anew (t.ctx c).gen x.gen) else z) }) rfl rfl (fun _ => ⟨rfl, rfl⟩)

theorem State.Ongoing.abortCtx (c : Nat) (fin : CtxState) : s.Ongoing (t.abortCtx c fin) := by
  unfold State.abortCtx
  dsimp only
  refine State.Ongoing.fold (State.Ongoing.loseShadow (State.Ongoing.rearm (State.Ongoing.modCtx ?_ c _) c) _)
    (fun u q => (State.Ongoing.refl u).modQuad q rfl (fun h => h)) _
  exact ((h.endSteps c .resetting).finish _ _ _).stopCtx c

theorem State.Ongoing.revoke (q e c : Nat) : s.Ongoing (t.revoke q e c) := by
  unfold State.revoke
  dsimp only
  refine State.Ongoing.rearm (State.Ongoing.modCtx ?_ c _) c
  refine State.Ongoing.fold (h.modCtx c _) (fun u i => ?_) _
  split
  · exact .of_eq rfl rfl
  · exact .refl u

theorem State.Ongoing.engineReset (q e : Nat) : s.Ongoing (t.engineReset q e) := by
  unfold State.engineReset
  dsimp only
  refine State.Ongoing.setHolds (State.Ongoing.modQuad ?_ q rfl (fun h => h))
  exact (h.eq (u := t.loseShadow (t.inEngine q e)) rfl rfl).fold (fun u c => (State.Ongoing.refl u).revoke q e c) _

theorem State.Ongoing.trip (q e : Nat) : s.Ongoing (t.trip q e) := by
  unfold State.trip
  dsimp only
  split
  · exact (h.snapshot _ _ _ _ _ _).engineReset q e
  · split
    · exact (h.snapshot _ _ _ _ _ _).engineReset q e
    · exact h
  · exact h

theorem State.Ongoing.classify (c : Nat) : s.Ongoing (t.classify c) := by
  unfold State.classify
  dsimp only
  split
  · exact h
  · split
    · exact h.trip _ _
    · split
      · exact h.abortCtx c .loaded
      · exact h

theorem State.Ongoing.discardSet (key : Nat) (st : Status) : s.Ongoing (t.discardSet key st) := by
  unfold State.discardSet
  dsimp only
  split
  · exact h
  · split
    · exact (h.finish _ _ _).eq rfl rfl
    · split
      · exact (h.finish _ _ _).eq rfl rfl
      · exact (h.finish _ _ _).eq rfl rfl

theorem State.Ongoing.abandon {x : Cmd} (hx : x.opc ≠ 0x01) : s.Ongoing (t.abandon x) := by
  unfold State.abandon
  rw [if_neg hx]
  split
  · exact h.discardSet _ _
  · split
    · exact h.eq rfl rfl
    · split
      · exact h.eq rfl rfl
      · exact h

end

theorem State.pending_snapshot (s : State) (q trigger engine : Nat) (suspects ctxs : List Nat) (cmd : Option Cmd) :
    ((s.snapshot q trigger engine suspects ctxs cmd).quad q).snap.pending = true := by
  have hold : ∀ t : State, (t.quad q).snap.pending = true → (t.setHolds.quad q).snap.pending = true := fun t ht =>
    ((State.Ongoing.refl t).setHolds.2 q).2 ht
  unfold State.snapshot
  dsimp only
  split
  · next hp => exact hold _ (by rw [State.quad_modQuad_self]; exact hp)
  · exact hold _ (by rw [State.quad_modQuad_self])

/-- A command whose deadline passed completes with TIMEOUT, and what went on goes on. -/
theorem State.timeOut_posts {s : State} {x : Cmd} (h1 : x.opc ≠ 0x01) (h2 : x.opc ≠ 0x21) (ha : (s.ring x.fn x.ring).state = .active) :
    s.Ongoing (s.timeOut x) ∧ ((s.timeOut x).ring x.fn x.ring).state = .active ∧
      ∃ r ∈ ((s.timeOut x).ring x.fn x.ring).due, r.type = 1 ∧ r.body = completionBody x.ref .timeout [] := by
  unfold State.timeOut
  rw [if_neg h2]
  dsimp only
  rw [if_neg h1]
  have hc : s.Ongoing (s.complete x.ref .timeout []) := (State.Ongoing.refl s).post _ _ _ _ _
  have hr : ∃ r ∈ ((s.complete x.ref .timeout []).ring x.fn x.ring).due, r.type = 1 ∧ r.body = completionBody x.ref .timeout [] := by
    rw [State.complete_of_active (c := x.ref) ha]
    rw [show (s.modRing x.ref.fn x.ref.ring (fun y => y.add s.turn.no 1 (if x.ref.opc = 0x06 then 2 else 1)
      (completionBody x.ref .timeout []))).ring x.fn x.ring = _ from State.ring_modRing_self s x.fn x.ring _]
    exact ⟨_, List.mem_append_right _ (List.mem_singleton_self _), rfl, rfl⟩
  have hrest : (s.complete x.ref .timeout []).Ongoing
      (({ (s.complete x.ref .timeout []) with cmds := s.cmds.erase x } : State).abandon x) :=
    State.Ongoing.abandon (State.Ongoing.of_eq (by rfl) (by rfl)) h1
  obtain ⟨ha1, -⟩ := hc.1 _ _ ha
  obtain ⟨ha2, hd2⟩ := hrest.1 _ _ ha1
  obtain ⟨r, hm, hr⟩ := hr
  exact ⟨hc.trans hrest, ha2, r, hd2 r hm, hr⟩

/-- The quadrant whose engines a command's context uses. -/
def State.homeQuad (s : State) (x : Cmd) : Nat :=
  match s.cmdCtx x with
  | some c => (s.ctx c).quads.getD 0 0
  | none => 0

/-- The state after a deadline, before the cause is classified. -/
def State.overdue (s : State) (x : Cmd) : State :=
  ((s.snapshot (s.homeQuad x) 1 0 [] (s.cmdCtx x).toList (some x)).timeOut x).modQuad (s.homeQuad x)
    (fun z => { z with deadlines := bump16 z.deadlines 1 })

theorem execDeadlinePassed_due {s : State} {x : Cmd}
    (hf : s.cmds.find? (fun y => y.fn == x.fn && y.ring == x.ring && y.tag == x.tag && decide (y.deadline ≤ y.elapsed)) = some x)
    (hl : s.live = true) (hw : s.turn.window = .close) :
    ∃ t, exec (.deadlinePassed x.fn x.ring x.tag) s = .next t ∧ (t = s.overdue x ∨ ∃ c, t = (s.overdue x).classify c) := by
  unfold State.live at hl
  have hc : (s.turn.running && decide (s.turn.window = .close) && !s.check.chipBraked) = true := by
    rw [Bool.and_eq_true] at hl
    simpa [hw, hl.1] using hl.2
  rw [exec_deadlinePassed]
  unfold execDeadlinePassed
  rw [hf]
  dsimp only
  rw [if_pos hc]
  unfold State.overdue State.homeQuad
  cases s.cmdCtx x with
  | none => exact ⟨_, rfl, Or.inl rfl⟩
  | some c => exact ⟨_, rfl, Or.inr ⟨c, rfl⟩⟩

theorem State.overdue_leaves {s : State} {x : Cmd} (h1 : x.opc ≠ 0x01) (h2 : x.opc ≠ 0x21) (ha : (s.ring x.fn x.ring).state = .active) :
    ((s.overdue x).ring x.fn x.ring).state = .active ∧
      (∃ r ∈ ((s.overdue x).ring x.fn x.ring).due, r.type = 1 ∧ r.body = completionBody x.ref .timeout []) ∧
      ((s.overdue x).quad (s.homeQuad x)).deadlines = min ((s.quad (s.homeQuad x)).deadlines + 1) (2 ^ 16 - 1) ∧
      ((s.overdue x).quad (s.homeQuad x)).snap.pending = true := by
  obtain ⟨hr1, hq1⟩ := (State.Ongoing.refl s).snapshot (s.homeQuad x) 1 0 [] (s.cmdCtx x).toList (some x)
  have hp := s.pending_snapshot (s.homeQuad x) 1 0 [] (s.cmdCtx x).toList (some x)
  unfold State.overdue
  generalize s.snapshot (s.homeQuad x) 1 0 [] (s.cmdCtx x).toList (some x) = u at hr1 hq1 hp
  obtain ⟨hu, ha2, hd⟩ := State.timeOut_posts h1 h2 (hr1 _ _ ha).1
  obtain ⟨hq2, hq2'⟩ := hu.2 (s.homeQuad x)
  refine ⟨ha2, hd, ?_, ?_⟩
  · rw [State.quad_modQuad_self, hq2, (hq1 _).1]
    rfl
  · rw [State.quad_modQuad_self]
    exact hq2' hp

theorem deadlinePassed_counts {s : State} {x : Cmd}
    (hf : s.cmds.find? (fun y => y.fn == x.fn && y.ring == x.ring && y.tag == x.tag && decide (y.deadline ≤ y.elapsed)) = some x)
    (hl : s.live = true) (hw : s.turn.window = .close) (h1 : x.opc ≠ 0x01) (h2 : x.opc ≠ 0x21)
    (ha : (s.ring x.fn x.ring).state = .active) :
    ∃ t, exec (.deadlinePassed x.fn x.ring x.tag) s = .next t ∧
      (∃ r ∈ (t.ring x.fn x.ring).due, r.type = 1 ∧ r.body = completionBody x.ref .timeout []) ∧
      (t.quad (s.homeQuad x)).deadlines = min ((s.quad (s.homeQuad x)).deadlines + 1) (2 ^ 16 - 1) ∧
      (t.quad (s.homeQuad x)).snap.pending = true := by
  obtain ⟨t, ht, hcase⟩ := execDeadlinePassed_due hf hl hw
  obtain ⟨hact, ⟨r, hm, hr⟩, hd, hp⟩ := State.overdue_leaves h1 h2 ha
  refine ⟨t, ht, ?_⟩
  rcases hcase with rfl | ⟨c, rfl⟩
  · exact ⟨⟨r, hm, hr⟩, hd, hp⟩
  · obtain ⟨hr', hq'⟩ := (State.Ongoing.refl (s.overdue x)).classify c
    exact ⟨⟨r, (hr' _ _ hact).2 r hm, hr⟩, (hq' _).1.trans hd, (hq' _).2 hp⟩

/-! ### A braked device -/

theorem State.brakeMessage_frame (s : State) (f : Nat) :
    (s.brakeMessage f).check = { s.check with brakeMsgs := adel s.check.brakeMsgs f } ∧ (s.brakeMessage f).mod = s.mod ∧
      (s.brakeMessage f).sites = s.sites := by
  unfold State.brakeMessage
  split
  · next hn =>
    rw [adel_of_alook_none hn]
    exact ⟨rfl, rfl, rfl⟩
  · unfold State.message
    dsimp only
    split
    · exact ⟨rfl, rfl, rfl⟩
    · split
      · exact ⟨rfl, rfl, rfl⟩
      · exact ⟨rfl, rfl, rfl⟩

theorem State.brakeMessages_frame (l : List Nat) (s : State) :
    (l.foldl (fun u f => u.brakeMessage f) s).check = { s.check with brakeMsgs := s.check.brakeMsgs.filter (fun e => decide (e.1 ∉ l)) } ∧
      (l.foldl (fun u f => u.brakeMessage f) s).mod = s.mod ∧ (l.foldl (fun u f => u.brakeMessage f) s).sites = s.sites := by
  induction l generalizing s with
  | nil => simp
  | cons f l ih =>
    obtain ⟨h1, h2, h3⟩ := s.brakeMessage_frame f
    obtain ⟨i1, i2, i3⟩ := ih (s.brakeMessage f)
    refine ⟨?_, i2.trans h2, i3.trans h3⟩
    rw [List.foldl_cons, i1, h1]
    have hl : (adel s.check.brakeMsgs f).filter (fun e => decide (e.1 ∉ l)) = s.check.brakeMsgs.filter (fun e => decide (e.1 ∉ f :: l)) := by
      unfold adel
      rw [List.filter_filter]
      refine List.filter_congr fun e _ => ?_
      by_cases h1 : e.1 = f
      · simp [h1]
      · simp [h1]
    dsimp only
    rw [hl]

theorem State.busMaster_off (l : List Nat) (s : State) {f : Nat} (hf : f ∈ l) :
    ((l.foldl (fun u f => u.modFn f (fun x => { x with busMaster := false })) s).fn f).busMaster = false := by
  have keep : ∀ (l : List Nat) (u : State), (u.fn f).busMaster = false →
      ((l.foldl (fun u f => u.modFn f (fun x => { x with busMaster := false })) u).fn f).busMaster = false := by
    intro l
    induction l with
    | nil => exact fun _ h => h
    | cons k l ih =>
      intro u h
      refine ih _ ?_
      by_cases hk : f = k
      · rw [hk, State.fn_modFn_self]
      · rw [State.fn_modFn_ne _ _ _ _ hk]
        exact h
  induction l generalizing s with
  | nil => cases hf
  | cons k l ih =>
    by_cases hl : f ∈ l
    · exact ih _ hl
    · obtain rfl : f = k := (List.mem_cons.mp hf).resolve_right hl
      exact keep l _ (by rw [State.fn_modFn_self])

theorem brakeRecordTimeout_ends {s : State} {n : Nat} (hb : s.check.braking = some n) :
    ∃ t, exec .brakeRecordTimeout s = .next t ∧ t.check.braking = none ∧ t.check.brakeMsgs = [] ∧
      (s.check.chipBraked = true → ∀ f ∈ s.functions, (t.fn f).busMaster = false) ∧
      (s.mod.watchdog = true → t.mod.cycleReqN = false) ∧ t.sites = s.sites := by
  have hx : execBrakeRecordTimeout s =
      .next ((s.check.brakeMsgs.map Prod.fst).foldl (fun u f => u.brakeMessage f) s).brakeDone := by
    unfold execBrakeRecordTimeout
    rw [hb]
  obtain ⟨h1, h2, h3⟩ := State.brakeMessages_frame (s.check.brakeMsgs.map Prod.fst) s
  refine ⟨_, exec_brakeRecordTimeout.trans hx, ?_⟩
  generalize (s.check.brakeMsgs.map Prod.fst).foldl (fun u f => u.brakeMessage f) s = u at h1 h2 h3
  have hmsgs : u.check.brakeMsgs = [] := by
    rw [h1]
    refine List.filter_eq_nil_iff.mpr fun e he => ?_
    simpa using ⟨e.2, he⟩
  have hchip : u.check.chipBraked = s.check.chipBraked := by rw [h1]
  have hfns : u.functions = s.functions := congrArg (fun m : Mod => 0 :: m.order.quads.map (fun q => q + 1)) h2
  have hoff : ∀ l : List Nat, ∀ g : State → Nat → State, (∀ t x, (g t x).check = t.check ∧ (g t x).mod = t.mod ∧ (g t x).sites = t.sites) →
      (l.foldl g u).check = u.check ∧ (l.foldl g u).mod = u.mod ∧ (l.foldl g u).sites = u.sites := fun l g hg =>
    ⟨foldl_fixes State.check g (fun t x => (hg t x).1) l u, foldl_fixes State.mod g (fun t x => (hg t x).2.1) l u,
      foldl_fixes State.sites g (fun t x => (hg t x).2.2) l u⟩
  unfold State.brakeDone
  dsimp only
  obtain ⟨c1, c2, c3⟩ := hoff (if u.check.chipBraked then u.functions else u.mod.brakedQuads.map (fun q => q + 1))
    (fun v f => v.modFn f (fun x => { x with busMaster := false })) (fun _ _ => ⟨rfl, rfl, rfl⟩)
  refine ⟨rfl, ?_, fun hc f hf => ?_, fun hw => ?_, c3.trans h3⟩
  · refine (congrArg Check.brakeMsgs c1).trans hmsgs
  · rw [hchip, hc, if_pos rfl, hfns]
    exact State.busMaster_off _ u hf
  · rw [c2, h2, hw]
    simp

/-- A message that the function cannot show is dropped, and its rings stay. -/
theorem State.brakeMessage_hidden {s : State} {f : Nat} (h : (s.fn f).shows = false) :
    (s.brakeMessage f).fns = s.fns ∧ (s.brakeMessage f).check.braking = s.check.braking := by
  refine ⟨?_, by rw [(s.brakeMessage_frame f).1]⟩
  unfold State.brakeMessage
  split
  · rfl
  · dsimp only
    rw [if_pos]
    rw [show (({ s with check := { s.check with brakeMsgs := adel s.check.brakeMsgs f } } : State).fn f) = s.fn f from rfl, h]
    simp

theorem brakePtrPoll_takes {s : State} {f n : Nat} {p : PtrIndex} (hb : s.check.braking = some n) (hp : (s.fn f).ptrBlock ≠ 0)
    (hd : (s.fn f).devBlock = 0) (hm : (s.fn f).busMaster = true) (h3 : (s.fn f).d3hot = false) (hr : p.ring < 17)
    (hs : (s.ring f p.ring).state ≠ .disabled) (hheld : ∀ m, (s.ring f m).held = [] ∧ (s.ring f m).state ≠ .full)
    (hc : idxSub p.trCons (s.ring f p.ring).trCons ≤ idxSub (s.ring f p.ring).trProd (s.ring f p.ring).trCons)
    (hw : s.brakeWaits = true) :
    ∃ t, exec (.brakePtrPoll f true [p]) s = .next t ∧ t.check.braking = some (n + 1) ∧
      t.ring f p.ring = { s.ring f p.ring with trCons := p.trCons } := by
  generalize hu : s.modRing f p.ring (fun z => { z with trCons := p.trCons }) = u
  have hself : u.ring f p.ring = { s.ring f p.ring with trCons := p.trCons } := by
    rw [← hu, State.ring_modRing_self]
  have hkeep : ∀ m r, (u.ring m r).held = (s.ring m r).held ∧ (u.ring m r).state = (s.ring m r).state := by
    intro m r
    by_cases he : m = f ∧ r = p.ring
    · obtain ⟨rfl, rfl⟩ := he
      rw [hself]
      exact ⟨rfl, rfl⟩
    · rw [← hu, State.ring_modRing_ne _ _ _ _ _ _ (by tauto)]
      exact ⟨rfl, rfl⟩
  have hwrite : allRings.foldl (fun v r => v.writeHeld f r) u = u := by
    have : ∀ l : List Nat, l.foldl (fun v r => v.writeHeld f r) u = u := by
      intro l
      induction l with
      | nil => rfl
      | cons m l ih =>
        rw [List.foldl_cons, State.writeHeld_none, ih]
        rw [(hkeep f m).1, (hkeep f m).2]
        exact hheld m
    exact this _
  have hshows : (u.fn f).shows = false := by
    rw [← hu]
    unfold Fn.shows State.modRing
    rw [State.fn_modFn_self]
    dsimp only
    rw [hd]
    rfl
  obtain ⟨hfns, hbraking⟩ := State.brakeMessage_hidden hshows
  have hmod : (u.brakeMessage f).mod = s.mod := (u.brakeMessage_frame f).2.1.trans (by rw [← hu]; rfl)
  have hwaits : (u.brakeMessage f).brakeWaits = true := by
    rw [← hw]
    unfold State.brakeWaits State.functions
    rw [hmod]
    refine congrArg _ (funext fun m => congrArg _ (funext fun r => ?_))
    rw [show (u.brakeMessage f).ring m r = u.ring m r from congrArg (fun l => (aget Fn.reset l m).ring r) hfns, (hkeep m r).1]
  have hquiet : (u.fn f).brakeWaits = false := by
    unfold Fn.brakeWaits
    rw [List.any_eq_false]
    intro r _
    rw [show ((u.fn f).ring r).held = [] from (hkeep f r).1.trans (hheld r).1]
    exact Bool.false_ne_true
  have hx : execBrakePtrPoll f true [p] s =
      .next { u.brakeMessage f with check := { (u.brakeMessage f).check with braking := some (n + 1) } } := by
    unfold execBrakePtrPoll
    rw [hb]
    dsimp only [List.foldl_cons, List.foldl_nil]
    rw [if_neg (by simp [hp, hm, h3]), if_pos (And.intro hr (And.intro hs hc)), hu, hwrite]
    have hwrote : allRings.any (fun r => decide ((u.ring f r).trProd ≠ (u.ring f r).trProd)) = false := by simp
    rw [hwrote, if_neg Bool.false_ne_true, hquiet, if_neg Bool.false_ne_true, if_pos hwaits]
  refine ⟨_, exec_brakePtrPoll.trans hx, rfl, ?_⟩
  exact (congrArg (fun l => (aget Fn.reset l f).ring p.ring) hfns).trans hself

end Sys2Proof.Machine

open Sys2Proof Sys2Proof.Machine

/-- Settles O47: records are framed, refused or taken on their ring alone; a deadline that passed adds its completion, its count
and a snapshot, none of which what follows takes back; under the brake the polls take TR_CONS. -/
theorem recordsRead : Obligations.RecordsRead := by
  refine ⟨fun s h => ⟨fun i opc k legal hi => ?_, fun opc hf => unknownCommand_completes hf opc, fun span hf => headraceSkip_moves hf span⟩,
    fun s => ⟨fun x hf hl hw h1 h2 ha => ?_, fun f n p hb hp hd hm h3 hr hs hheld hc hw => ?_, fun n hb => brakeRecordTimeout_ends hb,
      fun hb => ?_⟩⟩
  · obtain ⟨b, run, hx, hb⟩ := recordsFramed s h i opc k legal hi
    exact commandFramed hx hb
  · obtain ⟨t, ht, hr, hd, hp⟩ := deadlinePassed_counts hf hl hw h1 h2 ha
    exact ⟨t, ht, hr, hd, hp⟩
  · exact brakePtrPoll_takes hb hp hd hm h3 hr hs hheld hc hw
  · rw [exec_brakeRecordTimeout]
    unfold execBrakeRecordTimeout
    rw [hb]

end

section
/-! Stream entries (O43): how a command that names a stream finds its entry, the fetch of an entry, and the commands that open,
truncate, close and query a stream. -/

namespace Sys2Proof.Machine

/-! ### Completions beside other changes -/

/-- A completion in a state whose rings are those of the record read. -/
theorem State.completes_beside {s u : State} {h : CmdHead} (ha : (s.ring h.fn h.ring).state = .active)
    (hf : u.fns = (s.afterRecord h).fns) (hc : u.cmds = s.cmds) (hr : u.readUnits = (s.afterRecord h).readUnits) (ht : u.turn = s.turn)
    (opc : Nat) (st : Status) (res : List Byte) :
    Completes s (u.complete (headRef h opc) st res) h opc st res ∧
      u.complete (headRef h opc) st res = { u with fns := (u.complete (headRef h opc) st res).fns } := by
  have hring : ∀ f r, u.ring f r = (s.afterRecord h).ring f r := fun f r => congrArg (fun l => (aget Fn.reset l f).ring r) hf
  have hact : ((s.afterRecord h).ring h.fn h.ring).state = .active := by simpa using ha
  have hact' : (u.ring (headRef h opc).fn (headRef h opc).ring).state = .active := by
    rw [hring]
    exact hact
  obtain ⟨⟨⟨h1, h2, h3⟩, h4, h5⟩, -⟩ := State.completes_complete ha opc st res
  rw [State.complete_of_active (c := headRef h opc) hact] at h1 h2 h3 h5
  rw [State.complete_of_active hact']
  have hmod : ∀ g f r, (u.modRing h.fn h.ring g).ring f r = ((s.afterRecord h).modRing h.fn h.ring g).ring f r := by
    intro g f r
    by_cases he : f = h.fn ∧ r = h.ring
    · obtain ⟨rfl, rfl⟩ := he
      rw [State.ring_modRing_self, State.ring_modRing_self, hring]
    · rw [State.ring_modRing_ne _ _ _ _ _ _ (by tauto), State.ring_modRing_ne _ _ _ _ _ _ (by tauto), hring]
  refine ⟨?_, rfl⟩
  rw [ht]
  exact ⟨⟨(congrArg Ring.hrCons (hmod _ _ _)).trans h1, hr.trans h2, fun f r hne => (hmod _ _ _).trans (h3 f r hne)⟩, hc,
    (congrArg Ring.due (hmod _ _ _)).trans h5⟩

/-! ### Commands that name a stream -/

theorem State.frame_of_streams {s t : State} (h : t = { s with streams := t.streams }) (hw : t.streams.waits = s.streams.waits)
    (f r units : Nat) (ok : Bool) : t.frame f r units ok = s.frame f r units ok := by
  generalize t.streams = z at h hw
  subst h
  unfold State.frame State.passed
  dsimp only at hw ⊢
  rw [hw]
  rfl

theorem State.reads_of_streams {s t : State} (h : t = { s with streams := t.streams }) (hw : t.streams.waits = s.streams.waits)
    {hd : CmdHead} {opc : Nat} {k : RingKind} {named : Bool} (hr : s.reads hd opc k named) : t.reads hd opc k named := by
  refine ⟨(State.frame_of_streams h hw _ _ _ _).trans hr.1, ?_⟩
  refine Eq.trans ?_ hr.2
  generalize t.streams = z at h
  subst h
  rfl

theorem State.cacheIn_eq (s : State) (id : Nat) : s.cacheIn id = { s with streams := (s.cacheIn id).streams } ∧
    (s.cacheIn id).streams.waits = s.streams.waits ∧ (s.cacheIn id).streams.table = s.streams.table ∧
    (s.cacheIn id).streams.fetched = s.streams.fetched ∧ (s.cacheIn id).streams.dirty = s.streams.dirty ∧
    (s.cacheIn id).streams.misses = s.streams.misses := by
  refine ⟨rfl, ?_⟩
  unfold State.cacheIn
  dsimp only
  split
  · exact ⟨rfl, rfl, rfl, rfl, rfl⟩
  · split
    · exact ⟨rfl, rfl, rfl, rfl, rfl⟩
    · split
      · exact ⟨rfl, rfl, rfl, rfl, rfl⟩
      · exact ⟨rfl, rfl, rfl, rfl, rfl⟩

/-- The state in which a command that names a stream runs: its entry is in a cache slot. -/
def State.cached (s : State) (h : CmdHead) (id : Nat) : State :=
  ({ s.unwait h id with streams := { (s.unwait h id).streams with fetched := adel s.streams.fetched id } } : State).cacheIn id

theorem State.cached_eq (s : State) (h : CmdHead) (id : Nat) : s.cached h id = { s with streams := (s.cached h id).streams } ∧
    (s.cached h id).streams.table = s.streams.table ∧ (s.cached h id).streams.dirty = s.streams.dirty ∧
    (s.cached h id).streams.misses = s.streams.misses := by
  obtain ⟨h1, -, h3, -, h5, h6⟩ :=
    ({ s.unwait h id with streams := { (s.unwait h id).streams with fetched := adel s.streams.fetched id } } : State).cacheIn_eq id
  exact ⟨h1, h3, h5, h6⟩

theorem State.cached_stream (s : State) (h : CmdHead) (id k : Nat) : (s.cached h id).stream k = s.stream k :=
  congrArg (aget StreamEntry.free · k) (s.cached_eq h id).2.1

theorem State.cached_reads {s : State} {h : CmdHead} {id opc : Nat} {k : RingKind} {named : Bool}
    (hr : (s.unwait h id).reads h opc k named) : (s.cached h id).reads h opc k named :=
  State.reads_of_streams (s := s.unwait h id) rfl
    (({ s.unwait h id with streams := { (s.unwait h id).streams with fetched := adel s.streams.fetched id } } : State).cacheIn_eq id).2.1 hr

/-- The generation that a command names is the entry's. -/
def StreamEntry.named (e : StreamEntry) (gen : Option Nat) : Bool := gen.all (· == e.gen)

theorem streamMax_above {id : Nat} (h : id < 2 ^ 24) : ¬streamMax ≤ id := Nat.not_le.mpr h

/-- A command that finds its entry at hand and well runs as every other command does. -/
theorem State.streamCommand_runs {s : State} {h : CmdHead} {opc id : Nat} (hf : (s.unwait h id).frame h.fn h.ring h.units h.readOk = .read)
    (hid : id < 2 ^ 24) (hh : s.atHand id = true) (hs : alook s.streams.fetched id ≠ some true) (gen : Option Nat) (bad : Bool)
    (cl : List CtxState) (sl : List StreamState) (run : State → State) :
    s.streamCommand h opc id gen bad cl sl run =
      (s.cached h id).command h opc .context true
        (bad || decide (streamMax ≤ id) || decide ((s.stream id).state ≠ .free ∧ (s.stream id).ctx ≠ h.ctx))
        (cl.contains (s.ctx h.ctx).state && sl.contains (s.stream id).state && (s.stream id).named gen) [] run := by
  unfold State.streamCommand
  dsimp only
  rw [if_neg (not_not.mpr hf), if_neg (streamMax_above hid), if_pos hh, if_neg hs]
  cases gen <;> rfl

/-- Where the command may run: on a stream of its context, or a free one. -/
theorem State.streamCommand_run {s : State} {h : CmdHead} {opc id : Nat} (hr : (s.unwait h id).reads h opc .context true)
    (hid : id < 2 ^ 24) (hh : s.atHand id = true) (hs : alook s.streams.fetched id ≠ some true) {gen : Option Nat} {bad : Bool}
    {cl : List CtxState} {sl : List StreamState} {run : State → State} (hb : bad = false) (hc : (s.ctx h.ctx).state ∈ cl)
    (hl : (s.stream id).state ∈ sl) (hg : (s.stream id).named gen = true) (ho : (s.stream id).state = .free ∨ (s.stream id).ctx = h.ctx) :
    s.streamCommand h opc id gen bad cl sl run = run ((s.cached h id).afterRecord h) := by
  rw [State.streamCommand_runs hr.1 hid hh hs]
  refine (State.cached_reads hr).runs ?_ ?_ _ _
  · rw [hb, decide_eq_false (streamMax_above hid), decide_eq_false (by tauto)]
    rfl
  · rw [List.contains_iff_mem.mpr hc, List.contains_iff_mem.mpr hl, hg]
    rfl

theorem State.streamCommand_fetches {s : State} {h : CmdHead} {opc id : Nat} (hf : (s.unwait h id).frame h.fn h.ring h.units h.readOk = .read)
    (hid : id < 2 ^ 24) (hh : s.atHand id = false) (gen : Option Nat) (bad : Bool) (cl : List CtxState) (sl : List StreamState)
    (run : State → State) :
    s.streamCommand h opc id gen bad cl sl run =
      if s.streams.fetching.contains id then
        { s with streams := { s.streams with waits := (s.unwait h id).streams.waits ++ [(id, h.fn, h.ring)] } }
      else { s with streams := { s.streams with
        waits := (s.unwait h id).streams.waits ++ [(id, h.fn, h.ring)], fetching := s.streams.fetching ++ [id],
        misses := bump32 s.streams.misses 1 } } := by
  unfold State.streamCommand
  dsimp only
  rw [if_neg (not_not.mpr hf), if_neg (streamMax_above hid), if_neg (by rw [hh]; exact Bool.false_ne_true)]

theorem State.streamCommand_spoilt {s : State} {h : CmdHead} {opc id : Nat} (hf : (s.unwait h id).frame h.fn h.ring h.units h.readOk = .read)
    (hid : id < 2 ^ 24) (hs : alook s.streams.fetched id = some true) (gen : Option Nat) (bad : Bool) (cl : List CtxState)
    (sl : List StreamState) (run : State → State) :
    s.streamCommand h opc id gen bad cl sl run = (s.unwait h id).spoilt h opc id := by
  have hh : s.atHand id = true := by
    unfold State.atHand
    rw [hs]
    simp
  unfold State.streamCommand
  dsimp only
  rw [if_neg (not_not.mpr hf), if_neg (streamMax_above hid), if_pos hh, if_pos hs]

/-- The commands that name a stream and nothing more. -/
theorem streamCommands {s : State} {h : CmdHead} {id gen opc : Nat} {i : Instr}
    (hi : (i, opc) = (.streamQuery h id, 0x27) ∨ (i, opc) = (.streamClose h id gen, 0x26) ∨
      (i, opc) = (.streamEvict h id gen, 0x24) ∨ (i, opc) = (.streamCancel h id gen, 0x22)) :
    ∃ g cl sl run, exec i s = .next (s.streamCommand h opc id g false cl sl run) := by
  rcases hi with hi | hi | hi | hi
  · obtain ⟨rfl, rfl⟩ := hi
    exact ⟨_, _, _, _, exec_streamQuery⟩
  · obtain ⟨rfl, rfl⟩ := hi
    exact ⟨_, _, _, _, exec_streamClose⟩
  · obtain ⟨rfl, rfl⟩ := hi
    exact ⟨_, _, _, _, exec_streamEvict⟩
  · obtain ⟨rfl, rfl⟩ := hi
    exact ⟨_, _, _, _, exec_streamCancel⟩

/-! ### The fetch of an entry -/

theorem State.eccAt_poison {s : State} {q l : Nat} (h : s.unitPoison q l = true) (f : EccFind) : s.eccAt q l f = .poisoned := by
  unfold State.eccAt
  dsimp only
  rw [h]
  rfl

theorem State.touchRetired_of_unit {s : State} {q l : Nat} (h : s.isRetired q l = false) (src : DdrSource) : s.touchRetired q l src = s := by
  unfold State.isRetired at h
  unfold State.touchRetired
  split
  · next ch a hl =>
    rw [hl] at h
    dsimp only at h ⊢
    refine if_neg fun hc => ?_
    rw [hc.1] at h
    exact absurd h (by decide)
  · rfl

theorem State.isRetired_of_poison {s : State} {q l : Nat} (h : s.unitPoison q l = false) : s.isRetired q l = false := by
  unfold State.unitPoison at h
  exact (Bool.or_eq_false_iff.mp h).2

/-- The entry of a stream, read without errors from a unit that holds no poison. -/
theorem State.entryRead_clean {s : State} {id : Nat} (hd : id ∉ s.streams.dirty) (hp : s.unitPoison 0 (128 * id) = false) :
    (s.entryRead id EccFind.clean).2 = false ∧
      (s.entryRead id EccFind.clean).1 = { s with streams := { s.streams with table := (s.entryRead id EccFind.clean).1.streams.table } } ∧
      (s.entryRead id EccFind.clean).1.stream id = StreamEntry.ofBytes (s.ddrBytes 0 (128 * id) 128) ∧
      ∀ k, k ≠ id → (s.entryRead id EccFind.clean).1.stream k = s.stream k := by
  have hc : s.streams.dirty.contains id = false := by simpa using hd
  have hx : s.entryRead id EccFind.clean =
      if StreamEntry.ofBytes (s.ddrBytes 0 (128 * id) 128) = s.stream id then (s, false)
      else ({ s with streams := { s.streams with table := aset s.streams.table id (StreamEntry.ofBytes (s.ddrBytes 0 (128 * id) 128)) } }, false) := by
    unfold State.entryRead
    dsimp only
    rw [hc, if_neg Bool.false_ne_true, State.touchRetired_of_unit (State.isRetired_of_poison hp), State.ddrFound_clean, State.eccAt_clean, hp]
    rfl
  rw [hx]
  split
  · next he => exact ⟨rfl, rfl, he.symm, fun _ _ => rfl⟩
  · exact ⟨rfl, rfl, aget_aset_self _ _ _ _, fun k hk => aget_aset_ne _ _ _ _ _ hk⟩

theorem State.touchRetired_eq (s : State) (q l : Nat) (src : DdrSource) :
    s.touchRetired q l src = { s with ddr := (s.touchRetired q l src).ddr } ∧ (s.touchRetired q l src).ddr.mem = s.ddr.mem ∧
      (s.touchRetired q l src).unitPoison q l = s.unitPoison q l := by
  have hset : ∀ (ch a : Nat), s.ddr.locate q l = some (ch, a) →
      ((s.modChan ch (fun c => { c with touched := true })).ddrLogAdd 3 ch [] src (a / 128)).unitPoison q l = s.unitPoison q l := by
    intro ch a hl
    have hl' : ((s.modChan ch (fun c => { c with touched := true })).ddrLogAdd 3 ch [] src (a / 128)).ddr.locate q l = some (ch, a) := hl
    unfold State.unitPoison State.isRetired
    rw [hl, hl']
    have hs : (((s.modChan ch (fun c => { c with touched := true })).ddrLogAdd 3 ch [] src (a / 128)).chan ch).state = (s.chan ch).state := by
      refine (congrArg Channel.state (aget_aset_self _ _ _ _)).trans ?_
      rfl
    dsimp only
    rw [hs]
    rfl
  unfold State.touchRetired
  split
  · next ch a hl =>
    split
    · exact ⟨rfl, rfl, hset ch a hl⟩
    · exact ⟨rfl, rfl, rfl⟩
  · exact ⟨rfl, rfl, rfl⟩

/-- The entry of a stream whose unit holds poison, or lies in a retired channel. -/
theorem State.entryRead_poison {s : State} {id : Nat} (hd : id ∉ s.streams.dirty) (hp : s.unitPoison 0 (128 * id) = true) (f : EccFind) :
    s.entryRead id f = (s.touchRetired 0 (128 * id) .streamTable, true) := by
  have hc : s.streams.dirty.contains id = false := by simpa using hd
  have hpois : (s.touchRetired 0 (128 * id) .streamTable).eccAt 0 (128 * id) f = .poisoned :=
    State.eccAt_poison ((s.touchRetired_eq 0 (128 * id) .streamTable).2.2.trans hp) f
  have hfound : (s.touchRetired 0 (128 * id) .streamTable).ddrFound 0 (128 * id) f .streamTable = s.touchRetired 0 (128 * id) .streamTable := by
    unfold State.ddrFound
    rw [hpois]
    split <;> rfl
  unfold State.entryRead
  dsimp only
  rw [hc, if_neg Bool.false_ne_true, hpois, if_pos (show EccOut.poisoned.lost = true from rfl), hfound]

/-! ### An entry that reads poisoned -/

/-- What records posted to rings leave: where each ring reads, and what is due already. -/
def State.Posted (s t : State) : Prop :=
  t = { s with fns := t.fns } ∧ ∀ f r, (t.ring f r).hrCons = (s.ring f r).hrCons ∧ ∀ x ∈ (s.ring f r).due, x ∈ (t.ring f r).due

theorem State.Posted.refl (s : State) : s.Posted s := ⟨rfl, fun _ _ => ⟨rfl, fun _ h => h⟩⟩

theorem State.Posted.post {s t : State} (h : s.Posted t) (f r type units : Nat) (body : List Byte) : s.Posted (t.post f r type units body) := by
  obtain ⟨he, hr⟩ := h
  have hadd : s.Posted (t.modRing f r (fun x => x.add t.turn.no type units body)) := by
    refine ⟨?_, fun n m => ?_⟩
    · rw [he]
      rfl
    · by_cases hc : n = f ∧ m = r
      · obtain ⟨rfl, rfl⟩ := hc
        rw [State.ring_modRing_self]
        exact ⟨(hr n m).1, fun x hx => List.mem_append_left _ ((hr n m).2 x hx)⟩
      · rw [State.ring_modRing_ne _ _ _ _ _ _ (by tauto)]
        exact hr n m
  unfold State.post
  split
  · exact ⟨he, hr⟩
  · exact ⟨he, hr⟩
  · exact hadd

theorem State.Posted.postRanges {s t : State} (h : s.Posted t) (c type turn seq n : Nat) (l : List (Nat × Nat)) :
    s.Posted (t.postRanges c type turn seq n l) := by
  induction n generalizing t l with
  | zero => exact h
  | succ n ih =>
    cases l with
    | nil => exact h
    | cons e l => exact ih (h.post _ _ _ _ _) _

/-- A stream whose entry is lost is DAMAGED in its context, with generation 0xFFFF, and the context learns of it. -/
theorem State.rewriteEntry_leaves (s : State) (c id : Nat) :
    (s.rewriteEntry c id).streams = (s.setStream id { StreamEntry.free with state := .damaged, ctx := c, gen := 0xFFFF }).streams ∧
      (s.rewriteEntry c id).cmds = s.cmds ∧
      ∀ f r, ((s.rewriteEntry c id).ring f r).hrCons = (s.ring f r).hrCons ∧
        ∀ x ∈ (s.ring f r).due, x ∈ ((s.rewriteEntry c id).ring f r).due := by
  unfold State.rewriteEntry
  extract_lets free v e data w
  have hw : e.1.Posted w := State.Posted.postRanges (State.Posted.post (State.Posted.refl e.1) _ _ _ _ _) _ _ _ _ _ _
  obtain ⟨he, hr⟩ := hw
  clear_value w
  have hs : w.streams = e.1.streams := by rw [he]
  refine ⟨?_, (show w.cmds = e.1.cmds by rw [he]), hr⟩
  exact hs

/-- The command whose entry was lost completes with POISONED. -/
theorem State.spoilt_leaves {s : State} {h : CmdHead} (hf : s.frame h.fn h.ring h.units h.readOk = .read) (opc id : Nat) :
    ((s.spoilt h opc id).ring h.fn h.ring).hrCons = ((s.ring h.fn h.ring).hrCons + h.units) % 2 ^ 32 ∧
      ((s.spoilt h opc id).stream id).state = .damaged ∧ ((s.spoilt h opc id).stream id).ctx = h.ctx ∧
      ((s.spoilt h opc id).stream id).gen = 0xFFFF ∧
      ∃ r ∈ ((s.spoilt h opc id).ring h.fn h.ring).due, r.type = 1 ∧ r.body = completionBody (headRef h opc) .poisoned [] := by
  obtain ⟨⟨⟨h1, -, -⟩, -, h3⟩, -⟩ := State.completes_complete (State.active_of_frame_read hf) opc .poisoned []
  obtain ⟨r, hm, hrec⟩ : ∃ r ∈ (((s.afterRecord h).complete (headRef h opc) .poisoned []).ring h.fn h.ring).due, r.type = 1 ∧
      r.body = completionBody (headRef h opc) .poisoned [] := by
    rw [h3]
    exact ⟨_, List.mem_append_right _ (List.mem_singleton_self _), rfl, rfl⟩
  have key : ∀ u : State, u.fns = ((s.afterRecord h).complete (headRef h opc) .poisoned []).fns →
      ((u.rewriteEntry h.ctx id).ring h.fn h.ring).hrCons = ((s.ring h.fn h.ring).hrCons + h.units) % 2 ^ 32 ∧
      ((u.rewriteEntry h.ctx id).stream id).state = .damaged ∧ ((u.rewriteEntry h.ctx id).stream id).ctx = h.ctx ∧
      ((u.rewriteEntry h.ctx id).stream id).gen = 0xFFFF ∧
      ∃ r ∈ ((u.rewriteEntry h.ctx id).ring h.fn h.ring).due, r.type = 1 ∧ r.body = completionBody (headRef h opc) .poisoned [] := by
    intro u hu
    have hring : u.ring h.fn h.ring = ((s.afterRecord h).complete (headRef h opc) .poisoned []).ring h.fn h.ring :=
      congrArg (fun l => (aget Fn.reset l h.fn).ring h.ring) hu
    obtain ⟨hs, -, hr⟩ := u.rewriteEntry_leaves h.ctx id
    obtain ⟨hc, hd⟩ := hr h.fn h.ring
    rw [hring] at hc hd
    have he : (u.rewriteEntry h.ctx id).stream id = { StreamEntry.free with state := .damaged, ctx := h.ctx, gen := 0xFFFF } :=
      (congrArg (fun z : Streams => aget StreamEntry.free z.table id) hs).trans (aget_aset_self _ _ _ _)
    rw [he]
    exact ⟨hc.trans h1, rfl, rfl, rfl, r, hd r hm, hrec⟩
  exact key _ rfl

theorem streamEntryWaits {s : State} {h : CmdHead} {id gen opc : Nat} {i : Instr}
    (hi : (i, opc) = (.streamQuery h id, 0x27) ∨ (i, opc) = (.streamClose h id gen, 0x26) ∨
      (i, opc) = (.streamEvict h id gen, 0x24) ∨ (i, opc) = (.streamCancel h id gen, 0x22)) (hid : id < 2 ^ 24)
    (hf : (s.unwait h id).frame h.fn h.ring h.units h.readOk = .read) (hh : s.atHand id = false) :
    let waits := (s.unwait h id).streams.waits ++ [(id, h.fn, h.ring)]
    (id ∈ s.streams.fetching → exec i s = .next { s with streams := { s.streams with waits := waits } }) ∧
    (id ∉ s.streams.fetching → exec i s = .next { s with streams := { s.streams with
      waits := waits, fetching := s.streams.fetching ++ [id], misses := min (s.streams.misses + 1) (2 ^ 32 - 1) } }) := by
  obtain ⟨g, cl, sl, run, hx⟩ := streamCommands hi
  rw [State.streamCommand_fetches hf hid hh] at hx
  refine ⟨fun hm => ?_, fun hm => ?_⟩
  · rw [if_pos (List.contains_iff_mem.mpr hm)] at hx
    exact hx
  · rw [if_neg (fun hc => hm (List.contains_iff_mem.mp hc))] at hx
    exact hx

theorem streamEntryFetched {s : State} {id : Nat} (hm : id ∈ s.streams.fetching) (ht : s.tableAway = false) (hd : id ∉ s.streams.dirty)
    (f : EccFind) :
    (s.unitPoison 0 (128 * id) = false → ∃ t, exec (.streamEntryFetchDone id EccFind.clean) s = .next t ∧
      t = { s with streams := t.streams } ∧ t.atHand id = true ∧ alook t.streams.fetched id = some false ∧
      id ∉ t.streams.fetching ∧ t.stream id = StreamEntry.ofBytes (s.ddrBytes 0 (128 * id) 128) ∧
      ∀ k, k ≠ id → t.stream k = s.stream k) ∧
    (s.unitPoison 0 (128 * id) = true → ∃ t, exec (.streamEntryFetchDone id f) s = .next t ∧
      alook t.streams.fetched id = some true ∧ id ∉ t.streams.fetching ∧ t.streams.table = s.streams.table) := by
  have hc : (s.streams.fetching.contains id && !s.tableAway) = true := by
    rw [List.contains_iff_mem.mpr hm, ht]
    rfl
  have hx (g : EccFind) := exec_streamEntryFetchDone.trans (congrArg Host.Outcome.next
    (if_pos (c := (s.streams.fetching.contains id && !s.tableAway) = true) (t := ({ (s.entryRead id g).1 with
      streams := { (s.entryRead id g).1.streams with
        fetching := ndel (s.entryRead id g).1.streams.fetching id,
        fetched := aset (s.entryRead id g).1.streams.fetched id (s.entryRead id g).2 } } : State)) (e := s) hc))
  have hn : ∀ l : List Nat, id ∉ ndel l id := fun l hl => by simpa [ndel] using (List.mem_filter.mp hl).2
  refine ⟨fun hp => ?_, fun hp => ?_⟩
  · obtain ⟨h2, h1, hs, hk⟩ := State.entryRead_clean hd hp
    refine ⟨_, hx EccFind.clean, ?_⟩
    rw [h2]
    generalize (s.entryRead id EccFind.clean).1 = u at h1 hs hk
    refine ⟨?_, ?_, alook_aset_self _ _ _, hn _, hs, hk⟩
    · rw [h1]
    · unfold State.atHand
      rw [alook_aset_self]
      simp
  · refine ⟨_, hx f, ?_⟩
    rw [State.entryRead_poison hd hp]
    have htable : (s.touchRetired 0 (128 * id) .streamTable).streams.table = s.streams.table := by rw [(s.touchRetired_eq 0 (128 * id) .streamTable).1]
    exact ⟨alook_aset_self _ _ _, hn _, htable⟩

/-! ### Commands on an entry that is at hand -/

/-- What a command on one stream leaves of the others. -/
def State.OtherStreams (s t : State) (id : Nat) : Prop :=
  (∀ k, k ≠ id → t.stream k = s.stream k) ∧ t.ctxs = s.ctxs ∧ t.sites = s.sites ∧ t.ddr = s.ddr

theorem State.streamCompletes {s : State} {h : CmdHead} {id : Nat} (ha : (s.ring h.fn h.ring).state = .active) {u : State}
    (hu : u = { (s.cached h id).afterRecord h with streams := u.streams }) (hk : ∀ k, k ≠ id → u.stream k = s.stream k)
    (opc : Nat) (st : Status) (res : List Byte) :
    s.OtherStreams (u.complete (headRef h opc) st res) id ∧ Completes s (u.complete (headRef h opc) st res) h opc st res ∧
      (u.complete (headRef h opc) st res).stream id = u.stream id := by
  generalize u.streams = z at hu
  subst hu
  obtain ⟨hc, he⟩ := State.completes_beside (s := s) (h := h) (u := { (s.cached h id).afterRecord h with streams := z }) ha rfl rfl rfl rfl opc st res
  generalize ({ (s.cached h id).afterRecord h with streams := z } : State).complete (headRef h opc) st res = t at hc he
  exact ⟨⟨fun k hne => (show t.stream k = _ by rw [he]; exact hk k hne), by rw [he]; rfl, by rw [he]; rfl, by rw [he]; rfl⟩, hc,
    by rw [he]; rfl⟩

section
variable {s : State} {h : CmdHead} {id opc : Nat} (hr : (s.unwait h id).reads h opc .context true) (hid : id < 2 ^ 24)
  (hh : s.atHand id = true) (hs : alook s.streams.fetched id ≠ some true)
include hr

theorem State.reads.streamActive : (s.ring h.fn h.ring).state = .active := hr.active

/-- A command that only answers. -/
theorem State.reads.answers (st : Status) (res : List Byte) :
    s.OtherStreams (((s.cached h id).afterRecord h).complete (headRef h opc) st res) id ∧
      Completes s (((s.cached h id).afterRecord h).complete (headRef h opc) st res) h opc st res ∧
      (((s.cached h id).afterRecord h).complete (headRef h opc) st res).stream id = s.stream id := by
  obtain ⟨h1, h2, h3⟩ := State.streamCompletes (s := s) (h := h) (id := id) hr.streamActive (u := (s.cached h id).afterRecord h) rfl
    (fun k _ => s.cached_stream h id k) opc st res
  exact ⟨h1, h2, h3.trans (s.cached_stream h id id)⟩

/-- A command that leaves another entry. -/
theorem State.reads.rewrites (e : StreamEntry) (st : Status) (res : List Byte) :
    s.OtherStreams ((((s.cached h id).afterRecord h).setStream id e).complete (headRef h opc) st res) id ∧
      Completes s ((((s.cached h id).afterRecord h).setStream id e).complete (headRef h opc) st res) h opc st res ∧
      ((((s.cached h id).afterRecord h).setStream id e).complete (headRef h opc) st res).stream id = e := by
  obtain ⟨h1, h2, h3⟩ := State.streamCompletes (s := s) (h := h) (id := id) hr.streamActive
    (u := ((s.cached h id).afterRecord h).setStream id e) rfl
    (fun k hk => (aget_aset_ne _ _ _ _ _ hk).trans (s.cached_stream h id k)) opc st res
  exact ⟨h1, h2, h3.trans (aget_aset_self _ _ _ _)⟩

include hid hh hs

theorem streamOpened (hop : opc = 0x20) {adapter priv base limit : Nat} {seed : DWord}
    (hx : (s.ctx h.ctx).state = .loaded ∨ (s.ctx h.ctx).state = .running ∨ (s.ctx h.ctx).state = .paused)
    (he : (s.stream id).state = .free) (hp : priv ≤ 1) (hpriv : priv = 1 → (s.ctx h.ctx).privileged = true) (hb : base % 4096 = 0)
    (hl : 0 < limit) (hk : (s.ctx h.ctx).kvFits base limit = true) :
    (s.check.suspect = true → ∃ t, exec (.streamOpen h id adapter priv seed base limit) s = .next t ∧ s.OtherStreams t id ∧
      Completes s t h 0x20 .noResource [] ∧ t.stream id = s.stream id) ∧
    (s.check.suspect = false → ∃ t, exec (.streamOpen h id adapter priv seed base limit) s = .next t ∧ s.OtherStreams t id ∧
      Completes s t h 0x20 .ok (leBytes 2 (((s.stream id).gen + 1) % 65536)) ∧
      t.stream id = { StreamEntry.free with
        state := .idle, ctx := h.ctx, gen := ((s.stream id).gen + 1) % 65536, priv := priv == 1, needInput := true, adapter := adapter,
        seed := seed, kvBase := base, kvLimit := limit }) := by
  subst hop
  have hbad : (decide (1 < priv) || decide (base % 4096 ≠ 0) || decide (limit = 0) || !(s.ctx h.ctx).kvFits base limit ||
      (priv == 1 && (s.ctx h.ctx).plan.isSome && !(s.ctx h.ctx).privileged)) = false := by
    rw [decide_eq_false (Nat.not_lt.mpr hp), decide_eq_false (not_not.mpr hb), decide_eq_false (Nat.ne_of_gt hl), hk]
    by_cases h1 : priv = 1
    · simp [hpriv h1]
    · simp [h1]
  have hx' := exec_streamOpen (h := h) (id := id) (adapter := adapter) (priv := priv) (seed := seed) (kvBase := base) (kvLimit := limit) (s := s)
  unfold execStreamOpen at hx'
  dsimp only at hx'
  rw [State.streamCommand_run hr hid hh hs hbad (by simpa using hx) (by rw [he]; simp) rfl (.inl he)] at hx'
  have hst : ((s.cached h id).afterRecord h).check.suspect = s.check.suspect := rfl
  have hgen : (((s.cached h id).afterRecord h).stream id).gen = (s.stream id).gen := congrArg StreamEntry.gen (s.cached_stream h id id)
  rw [hst, hgen] at hx'
  refine ⟨fun hsus => ?_, fun hsus => ?_⟩
  · rw [if_pos hsus] at hx'
    exact ⟨_, hx', hr.answers _ _⟩
  · rw [if_neg (by rw [hsus]; exact Bool.false_ne_true)] at hx'
    exact ⟨_, hx', hr.rewrites _ _ _⟩

theorem streamOpenRefused (hop : opc = 0x20) {adapter base limit : Nat} {seed : DWord} (hx : (s.ctx h.ctx).state = .empty)
    (hpl : (s.ctx h.ctx).plan = none) (he : (s.stream id).state = .free) (hb : base % 4096 = 0) (hl : 0 < limit) :
    ∃ t, exec (.streamOpen h id adapter 0 seed base limit) s = .next t ∧ s.OtherStreams t id ∧
      Completes s t h 0x20 .wrongState [] ∧ t.stream id = s.stream id := by
  subst hop
  have hx' := exec_streamOpen (h := h) (id := id) (adapter := adapter) (priv := 0) (seed := seed) (kvBase := base) (kvLimit := limit) (s := s)
  unfold execStreamOpen at hx'
  dsimp only at hx'
  rw [State.streamCommand_runs hr.1 hid hh hs, (State.cached_reads hr).command] at hx'
  have hbad : (decide (1 < 0) || decide (base % 4096 ≠ 0) || decide (limit = 0) || !(s.ctx h.ctx).kvFits base limit ||
      (0 == 1 && (s.ctx h.ctx).plan.isSome && !(s.ctx h.ctx).privileged)) = false := by
    unfold Ctx.kvFits
    rw [hpl, decide_eq_false (not_not.mpr hb), decide_eq_false (Nat.ne_of_gt hl)]
    rfl
  rw [hbad, decide_eq_false (streamMax_above hid), decide_eq_false (by rw [he]; simp), hx] at hx'
  obtain ⟨hc, ho⟩ := State.completes_refuse (s := s.cached h id) (h := h) (State.cached_reads hr).active 0x20 .wrongState []
  refine ⟨_, hx', ?_⟩
  generalize ((s.cached h id).afterRecord h).refuse (headRef h 0x20) .wrongState [] = t at hc ho
  unfold OnlyRings at ho
  have hstream : ∀ k, t.stream k = s.stream k := fun k => by
    rw [ho]
    exact s.cached_stream h id k
  exact ⟨⟨fun k _ => hstream k, by rw [ho]; rfl, by rw [ho]; rfl, by rw [ho]; rfl⟩, hc, hstream id⟩

theorem streamTruncated (hop : opc = 0x23) {position : Nat}
    (hx : (s.ctx h.ctx).state = .loaded ∨ (s.ctx h.ctx).state = .running ∨ (s.ctx h.ctx).state = .paused)
    (he : (s.stream id).state = .idle) (hc : (s.stream id).ctx = h.ctx) :
    (position ≤ (s.stream id).position → ∃ t, exec (.streamTruncate h id (s.stream id).gen position) s = .next t ∧ s.OtherStreams t id ∧
      Completes s t h 0x23 .ok (List.replicate 8 0 ++ leBytes 4 position) ∧
      t.stream id = { s.stream id with kvLength := position, hasLast := false, needInput := true }) ∧
    ((s.stream id).position < position → ∃ t, exec (.streamTruncate h id (s.stream id).gen position) s = .next t ∧ s.OtherStreams t id ∧
      Completes s t h 0x23 .badCommand [] ∧ t.stream id = s.stream id) := by
  subst hop
  have hx' := exec_streamTruncate (h := h) (id := id) (gen := (s.stream id).gen) (position := position) (s := s)
  unfold execStreamTruncate at hx'
  rw [State.streamCommand_run hr hid hh hs rfl (by simpa using hx) (by rw [he]; simp) (by simp [StreamEntry.named]) (.inr hc)] at hx'
  have hst : ((s.cached h id).afterRecord h).stream id = s.stream id := s.cached_stream h id id
  dsimp only at hx'
  rw [hst] at hx'
  refine ⟨fun hp => ?_, fun hp => ?_⟩
  · rw [if_neg (Nat.not_lt.mpr hp)] at hx'
    exact ⟨_, hx', hr.rewrites _ _ _⟩
  · rw [if_pos hp] at hx'
    exact ⟨_, hx', hr.answers _ _⟩

theorem streamClosed (hop : opc = 0x26)
    (hx : ((s.ctx h.ctx).state = .loaded ∨ (s.ctx h.ctx).state = .running ∨ (s.ctx h.ctx).state = .paused) ∨
      (s.ctx h.ctx).state = .draining ∨ (s.ctx h.ctx).state = .faulted ∨ (s.ctx h.ctx).state = .quarantined)
    (he : (s.stream id).state = .idle ∨ (s.stream id).state = .evicted ∨ (s.stream id).state = .damaged) (hc : (s.stream id).ctx = h.ctx) :
    ∃ t, exec (.streamClose h id (s.stream id).gen) s = .next t ∧ s.OtherStreams t id ∧ Completes s t h 0x26 .ok [] ∧
      t.stream id = { StreamEntry.free with gen := (s.stream id).gen } := by
  subst hop
  have hx' := exec_streamClose (h := h) (id := id) (gen := (s.stream id).gen) (s := s)
  unfold execStreamClose at hx'
  rw [State.streamCommand_run hr hid hh hs rfl (by simp; tauto) (by simpa using he) (by simp [StreamEntry.named]) (.inr hc)] at hx'
  have hst : ((s.cached h id).afterRecord h).stream id = s.stream id := s.cached_stream h id id
  rw [hst] at hx'
  exact ⟨_, hx', hr.rewrites _ _ _⟩

theorem streamQueried (hop : opc = 0x27) (hx : (s.ctx h.ctx).state ≠ .empty) (he : (s.stream id).state = .free ∨ (s.stream id).ctx = h.ctx) :
    ∃ t, exec (.streamQuery h id) s = .next t ∧ s.OtherStreams t id ∧ t.stream id = s.stream id ∧
      Completes s t h 0x27 .ok ([BitVec.ofNat 8 (s.stream id).state.code, if (s.stream id).priv then 1 else 0] ++
        leBytes 2 (s.stream id).gen ++ leBytes 4 (s.stream id).position ++ leBytes 4 (s.stream id).kvLength ++
        leBytes 4 (s.stream id).pendingNew) := by
  subst hop
  have hx' := exec_streamQuery (h := h) (id := id) (s := s)
  unfold execStreamQuery at hx'
  rw [State.streamCommand_run hr hid hh hs rfl (by revert hx; cases (s.ctx h.ctx).state <;> decide)
    (by cases (s.stream id).state <;> decide) rfl he] at hx'
  have hst : ((s.cached h id).afterRecord h).stream id = s.stream id := s.cached_stream h id id
  dsimp only at hx'
  rw [hst] at hx'
  obtain ⟨h1, h2, h3⟩ := hr.answers (s := s) (h := h) (id := id) .ok ([BitVec.ofNat 8 (s.stream id).state.code, if (s.stream id).priv then 1 else 0] ++
        leBytes 2 (s.stream id).gen ++ leBytes 4 (s.stream id).position ++ leBytes 4 (s.stream id).kvLength ++
        leBytes 4 (s.stream id).pendingNew)
  exact ⟨_, hx', h1, h3, h2⟩

end

end Sys2Proof.Machine

open Sys2Proof Sys2Proof.Machine

/-- Settles O43: a command that names a stream waits for its entry, completes with POISONED where the entry was lost, and else
runs, on its one entry, as every other command does. -/
theorem streamEntries : Obligations.StreamEntries := by
  refine ⟨fun s h id gen opc i f hi hid => ⟨fun hf hh => streamEntryWaits hi hid hf hh, fun ha => ?_, fun hm ht hd => ?_, fun hf hs => ?_⟩,
    fun s h id => ⟨?_, ?_, ?_, ?_, ?_⟩⟩
  · refine exec_streamEntryFetchDone.trans (congrArg Host.Outcome.next (if_neg ?_))
    rcases ha with ha | ha
    · simp [ha]
    · simp [ha]
  · exact streamEntryFetched hm ht hd f
  · obtain ⟨g, cl, sl, run, hx⟩ := streamCommands (s := s) hi
    rw [State.streamCommand_spoilt hf hid hs] at hx
    exact ⟨_, hx, State.spoilt_leaves hf opc id⟩
  · intro adapter priv base limit seed ⟨hr, hid, hh, hs⟩ hx he hp hpriv hb hl hk
    exact streamOpened hr hid hh hs rfl hx he hp hpriv hb hl hk
  · intro adapter base limit seed ⟨hr, hid, hh, hs⟩ hx hpl he hb hl
    exact streamOpenRefused hr hid hh hs rfl hx hpl he hb hl
  · intro position ⟨hr, hid, hh, hs⟩ hx he hc
    exact streamTruncated hr hid hh hs rfl hx he hc
  · intro ⟨hr, hid, hh, hs⟩ hx he hc
    exact streamClosed hr hid hh hs rfl hx he hc
  · intro ⟨hr, hid, hh, hs⟩ hx he
    exact streamQueried hr hid hh hs rfl hx he

end

section
/-! Steps, cancels, evictions and restores of streams (O44). -/

namespace Sys2Proof.Machine

/-! ### The cache slot of an entry -/

theorem State.cacheIn_slot {s : State} {id : Nat} {c : CacheSlot} (h : alook s.streams.cache id = some c) :
    ∃ c', alook (s.cacheIn id).streams.cache id = some c' := by
  unfold State.cacheIn
  dsimp only
  rw [h]
  exact ⟨_, alook_aset_self _ _ _⟩

theorem State.cached_slot {s : State} {id : Nat} {c : CacheSlot} (h : alook s.streams.cache id = some c) (hd : CmdHead) :
    ∃ c', alook (s.cached hd id).streams.cache id = some c' :=
  State.cacheIn_slot (s := ({ s.unwait hd id with streams := { (s.unwait hd id).streams with fetched := adel s.streams.fetched id } } : State)) h

theorem State.modSlot_slot {s : State} {id : Nat} {c : CacheSlot} (h : alook s.streams.cache id = some c) (f : CacheSlot → CacheSlot) :
    s.modSlot id f = { s with streams := { s.streams with cache := aset s.streams.cache id (f c) } } := by
  unfold State.modSlot
  rw [h]

/-! ### What the filling of a turn leaves of a step -/

/-- The record read, the commands outstanding, the stream table and the cache. -/
def State.wharf (s : State) : List (Nat × Fn) × Nat × List Cmd × List (Nat × StreamEntry) × List (Nat × CacheSlot) :=
  (s.fns, s.readUnits, s.cmds, s.streams.table, s.streams.cache)

theorem State.wharf_writeRx (s : State) (c off : Nat) (bs : List Byte) : (s.writeRx c off bs).wharf = s.wharf := by
  unfold State.writeRx
  dsimp only
  split
  · refine foldl_fixes State.wharf _ (fun u g => ?_) _ s
    split <;> rfl
  · rfl

theorem State.wharf_place (s : State) (c id : Nat) : (s.place c id).wharf = s.wharf := by
  unfold State.place
  dsimp only
  split
  · split
    · rfl
    · refine (foldl_fixes State.wharf _ (fun u k => ?_) _ _).trans rfl
      split
      · exact State.wharf_writeRx _ _ _ _
      · rfl
  · rfl

/-- The state of a step that was accepted, before the filling of the turn takes note of it. -/
def State.stepping (s : State) (h : CmdHead) (id turns : Nat) (e : StreamEntry) (f : CacheSlot → CacheSlot) (g : Ctx → Ctx) : State :=
  ((((s.accept h 0x21 id turns).setStream id e).cacheIn id).modSlot id f).modCtx h.ctx g

/-- What the filling of the turn makes of a step that has begun: placed, left to a later turn, or counted as late. -/
def State.noteStep (w : State) (h : CmdHead) (id cycle : Nat) (overdue : Bool) : State :=
  let o := if overdue then w.lateFill else w
  match (w.ctx h.ctx).filling with
  | some f => if f.open_ ∧ cycle ≤ 2032 then (if w.fills h.ctx then o.place h.ctx id else o) else w.lateFill
  | none => if w.fills h.ctx ∧ cycle > 2032 then w.lateFill else o

theorem State.wharf_noteStep (w : State) (h : CmdHead) (id cycle : Nat) (overdue : Bool) :
    (w.noteStep h id cycle overdue).wharf = w.wharf := by
  have ho : (if overdue then w.lateFill else w).wharf = w.wharf := by
    split <;> rfl
  unfold State.noteStep
  dsimp only
  split
  · split
    · split
      · exact (State.wharf_place _ _ _).trans ho
      · exact ho
    · rfl
  · split
    · rfl
    · exact ho

/-- What a step leaves, whatever the filling does. -/
theorem State.stepping_leaves {s : State} {h : CmdHead} {id : Nat} {c : CacheSlot} (hc : alook s.streams.cache id = some c) (turns : Nat)
    (e : StreamEntry) (f : CacheSlot → CacheSlot) (g : Ctx → Ctx) {t : State} (ht : t.wharf = (s.stepping h id turns e f g).wharf) :
    t.fns = s.fns ∧ t.readUnits = s.readUnits ∧ t.cmds = (s.accept h 0x21 id turns).cmds ∧ t.stream id = e ∧
      (∃ c', t.slot id = f c') ∧ ∀ k, k ≠ id → t.stream k = s.stream k := by
  obtain ⟨c', hc'⟩ := State.cacheIn_slot (s := (s.accept h 0x21 id turns).setStream id e) hc
  unfold State.stepping at ht
  rw [State.modSlot_slot hc'] at ht
  have htable := (((s.accept h 0x21 id turns).setStream id e).cacheIn_eq id).2.2.1
  obtain ⟨h1, h2, h3, h4, h5⟩ : t.fns = s.fns ∧ t.readUnits = s.readUnits ∧ t.cmds = (s.accept h 0x21 id turns).cmds ∧
      t.streams.table = (((s.accept h 0x21 id turns).setStream id e).cacheIn id).streams.table ∧
      t.streams.cache = aset (((s.accept h 0x21 id turns).setStream id e).cacheIn id).streams.cache id (f c') :=
    ⟨congrArg (·.1) ht, congrArg (·.2.1) ht, congrArg (·.2.2.1) ht, congrArg (·.2.2.2.1) ht, congrArg (·.2.2.2.2) ht⟩
  refine ⟨h1, h2, h3, ?_, ⟨c', ?_⟩, fun k hk => ?_⟩
  · unfold State.stream
    rw [h4, htable]
    exact aget_aset_self _ _ _ _
  · unfold State.slot
    rw [h5]
    exact aget_aset_self _ _ _ _
  · unfold State.stream
    rw [h4, htable]
    exact aget_aset_ne _ _ _ _ _ hk

theorem State.stream_modStream_self (s : State) (id : Nat) (f : StreamEntry → StreamEntry) :
    (s.modStream id f).stream id = f (s.stream id) := aget_aset_self _ _ _ _

/-- What the end of a step leaves. -/
theorem State.endStep_leaves (s : State) {id : Nat} {c : CacheSlot} (hc : alook s.streams.cache id = some c) (st : Status) (reason : Nat)
    (fin : StreamState) :
    (s.endStep id st reason fin).stream id = (s.stream id).ended fin ∧ (s.endStep id st reason fin).slot id = c.unpin ∧
      ((s.endStep id st reason fin).ctx (s.stream id).ctx).positions = (s.ctx (s.stream id).ctx).positions.filter (fun p => p.stream != id) ∧
      ∀ y ∈ (s.endStep id st reason fin).cmds, y ∈ s.cmds ∧ ¬(y.arg = id ∧ y.ctx = (s.stream id).ctx ∧ (y.opc = 0x21 ∨ y.opc = 0x22)) := by
  unfold State.endStep
  extract_lets e res s1 s2
  obtain ⟨hc1, h1⟩ := s.finish_eq (fun x => x.opc == 0x21 && x.arg == id && x.ctx == e.ctx) st (fun _ => res)
  obtain ⟨hc2, h2⟩ := s1.finish_eq (fun x => x.opc == 0x22 && x.arg == id && x.ctx == e.ctx) .ok (fun _ => [])
  have hcmds : ∀ y ∈ s2.cmds, y ∈ s.cmds ∧ ¬(y.arg = id ∧ y.ctx = (s.stream id).ctx ∧ (y.opc = 0x21 ∨ y.opc = 0x22)) := by
    intro y hy
    rw [show s2.cmds = _ from hc2, show s1.cmds = _ from hc1, List.filter_filter, List.mem_filter] at hy
    obtain ⟨hm, hp⟩ := hy
    simp only [Bool.and_eq_true, Bool.not_eq_true', Bool.and_eq_false_iff, beq_eq_false_iff_ne] at hp
    refine ⟨hm, fun ⟨ha, hx, ho⟩ => ?_⟩
    have hx' : y.ctx = e.ctx := hx
    tauto
  have h1' : s1 = { s with fns := s1.fns, cmds := s1.cmds } := h1
  have h2' : s2 = { s1 with fns := s2.fns, cmds := s2.cmds } := h2
  clear_value s2
  clear_value s1
  have hs2 : s2 = { s with fns := s2.fns, cmds := s2.cmds } := h2'.trans (by rw [h1'])
  generalize s2.fns = fs at hs2
  generalize s2.cmds = cs at hs2 hcmds
  subst hs2
  unfold State.release
  dsimp only
  rw [State.modSlot_slot (s := ({ s with fns := fs, cmds := cs } : State)) hc]
  refine ⟨aget_aset_self _ _ _ _, aget_aset_self _ _ _ _, ?_, hcmds⟩
  exact congrArg Ctx.positions (aget_aset_self _ _ _ _)

/-- The entry of a stream whose step begins. -/
def StreamEntry.stepped (e : StreamEntry) (flags count new tag addr : Nat) (stop : Word) : StreamEntry :=
  { e with
    state := .active, indirect := flags % 2 == 1, pendingInput := count, pendingNew := new, stop := stop, tag := tag, inputAddr := addr,
    tokensOut := 0 }

/-- The slot of a stream whose step begins. -/
def CacheSlot.stepped (c : CacheSlot) (flags count : Nat) (inputs : List Word) : CacheSlot :=
  { c with
    pinned := true, window := if flags % 2 == 1 then [] else inputs.take (min count 64)
    toRead := if flags % 2 == 1 then count else 0, reading := flags % 2 == 1 && decide (0 < count) }

section
variable {s : State} {h : CmdHead} {id opc : Nat} (hr : (s.unwait h id).reads h opc .context true) (hid : id < 2 ^ 24)
  (hh : s.atHand id = true) (hs : alook s.streams.fetched id ≠ some true) (ho : (s.stream id).ctx = h.ctx)
include hr hid hh hs ho

theorem streamStepped (hop : opc = 0x21) (hslot : (alook s.streams.cache id).isSome = true) {flags count new addr : Nat} {stop : Word}
    {inputs : List Word} (hx : (s.ctx h.ctx).state = .running ∨ (s.ctx h.ctx).state = .paused) (he : (s.stream id).state = .idle)
    (hfl : flags ≤ 1) (hsome : 0 < count + new) (hin : flags = 0 → count + 10 ≤ 16 * h.units)
    (hout : flags = 1 → 0 < count → s.inPlanMemory addr (4 * count) = true ∧ 0 < s.trainedChannels (addr / 2 ^ 43)) :
    ((s.stream id).kvLength = (s.stream id).kvLimit → ∃ t, exec (.streamStep h id (s.stream id).gen flags count new stop addr inputs) s = .next t ∧
      Completes s t h 0x21 .ok (stepResult 3 { s.stream id with tokensOut := 0 }) ∧ t.stream id = s.stream id) ∧
    ((s.stream id).kvLength ≠ (s.stream id).kvLimit → (s.stream id).needInput = true → count = 0 →
      ∃ t, exec (.streamStep h id (s.stream id).gen flags count new stop addr inputs) s = .next t ∧
        Completes s t h 0x21 .badCommand [] ∧ t.stream id = s.stream id) ∧
    ((s.stream id).kvLength ≠ (s.stream id).kvLimit → (s.stream id).needInput = false ∨ 0 < count →
      ∃ t, exec (.streamStep h id (s.stream id).gen flags count new stop addr inputs) s = .next t ∧
        Accepts s t h (outstanding h 0x21 id (64 * (s.ctx h.ctx).turnsPerStep * max 1 (new + count))) ∧
        t.stream id = (s.stream id).stepped flags count new h.tag addr stop ∧ (∃ c, t.slot id = CacheSlot.stepped c flags count inputs) ∧
        ∀ k, k ≠ id → t.stream k = s.stream k) := by
  subst hop
  have hbad : (decide (1 < flags) || decide (count = 0 ∧ new = 0) ||
      (if flags % 2 == 1 then decide (0 < count) &&
          !(s.inPlanMemory addr (4 * count) && decide (0 < s.trainedChannels (addr / 2 ^ 43)))
       else decide (16 * h.units < count + 10))) = false := by
    rw [decide_eq_false (Nat.not_lt.mpr hfl), decide_eq_false (by omega : ¬(count = 0 ∧ new = 0))]
    rcases Nat.le_one_iff_eq_zero_or_eq_one.mp hfl with rfl | rfl
    · simpa using hin rfl
    · by_cases hc : 0 < count
      · obtain ⟨h1, h2⟩ := hout rfl hc
        rw [h1, decide_eq_true h2]
        simp
      · simp [hc]
  have hx' := exec_streamStep (h := h) (id := id) (gen := (s.stream id).gen) (flags := flags) (inputCount := count) (newTokens := new)
    (stop := stop) (inputAddr := addr) (inputs := inputs) (s := s)
  unfold execStreamStep at hx'
  dsimp only at hx'
  rw [State.streamCommand_run hr hid hh hs hbad (by simpa using hx) (by rw [he]; simp) (by simp [StreamEntry.named]) (.inr ho)] at hx'
  obtain ⟨c, hc⟩ := Option.isSome_iff_exists.mp hslot
  obtain ⟨c', hc'⟩ := State.cached_slot hc h
  have hst : ((s.cached h id).afterRecord h).stream id = s.stream id := s.cached_stream h id id
  have hctx : ((s.cached h id).afterRecord h).ctx h.ctx = s.ctx h.ctx := rfl
  have hpin : ((s.cached h id).afterRecord h).allPinned id = false := by
    unfold State.allPinned
    rw [show ((s.cached h id).afterRecord h).streams = (s.cached h id).streams from rfl, hc']
    rfl
  rw [hst, hctx, hpin] at hx'
  refine ⟨fun hk => ?_, fun hk hn h0 => ?_, fun hk hn => ?_⟩
  · rw [if_pos hk] at hx'
    obtain ⟨-, h2, h3⟩ := hr.answers .ok (stepResult 3 { s.stream id with tokensOut := 0 })
    exact ⟨_, hx', h2, h3⟩
  · rw [if_neg hk, if_pos ⟨hn, h0⟩] at hx'
    obtain ⟨-, h2, h3⟩ := hr.answers .badCommand []
    exact ⟨_, hx', h2, h3⟩
  · have hno : ¬((s.stream id).needInput = true ∧ count = 0) := by
      rintro ⟨h1, h2⟩
      rcases hn with hn | hn
      · rw [hn] at h1
        exact Bool.false_ne_true h1
      · omega
    rw [if_neg hk, if_neg hno, if_neg Bool.false_ne_true] at hx'
    have key : ∃ t, exec (.streamStep h id (s.stream id).gen flags count new stop addr inputs) s = .next t ∧
        t.wharf = (((s.cached h id).afterRecord h).stepping h id (64 * (s.ctx h.ctx).turnsPerStep * max 1 (new + count))
          ((s.stream id).stepped flags count new h.tag addr stop) (CacheSlot.stepped · flags count inputs)
          (fun y => if (s.stream id).priv then { y with privRing := ndel y.privRing id ++ [id] }
            else { y with bulkRing := ndel y.bulkRing id ++ [id] })).wharf := by
      refine ⟨_, hx', ?_⟩
      exact State.wharf_noteStep (((s.cached h id).afterRecord h).stepping h id (64 * (s.ctx h.ctx).turnsPerStep * max 1 (new + count))
          ((s.stream id).stepped flags count new h.tag addr stop) (CacheSlot.stepped · flags count inputs)
          (fun y => if (s.stream id).priv then { y with privRing := ndel y.privRing id ++ [id] }
            else { y with bulkRing := ndel y.bulkRing id ++ [id] })) h id s.turn.cycle (s.streams.overdue.contains (id, h.fn, h.ring))
    obtain ⟨t, ht, hw⟩ := key
    obtain ⟨h1, h2, h3, h4, h5, h6⟩ := State.stepping_leaves (s := (s.cached h id).afterRecord h) hc' _ _ _ _ hw
    refine ⟨t, ht, ?_, h4, h5, fun k hk => (h6 k hk).trans (s.cached_stream h id k)⟩
    obtain ⟨⟨a1, a2, a3⟩, a4, a5⟩ := State.accepts_accept (s.cached h id) h 0x21 id (64 * (s.ctx h.ctx).turnsPerStep * max 1 (new + count))
    have hring : ∀ f r, t.ring f r = ((s.cached h id).afterRecord h).ring f r := fun f r => congrArg (fun l => (aget Fn.reset l f).ring r) h1
    exact ⟨⟨(congrArg Ring.hrCons (hring _ _)).trans a1, h2.trans a2, fun f r hne => (hring f r).trans (a3 f r hne)⟩, h3.trans a4,
      (congrArg Ring.due (hring _ _)).trans a5⟩

theorem streamCancelled (hop : opc = 0x22) (hslot : (alook s.streams.cache id).isSome = true)
    (hx : (s.ctx h.ctx).state = .running ∨ (s.ctx h.ctx).state = .paused ∨ (s.ctx h.ctx).state = .draining) (he : (s.stream id).state = .active) :
    ((∃ p ∈ ((s.ctx h.ctx).unfill id).positions, p.stream = id) → ∃ t, exec (.streamCancel h id (s.stream id).gen) s = .next t ∧
      Accepts s t h (outstanding h 0x22 id 4096) ∧ t.stream id = { s.stream id with cancelled := true } ∧
      (t.ctx h.ctx).positions = ((s.ctx h.ctx).unfill id).positions) ∧
    ((∀ p ∈ ((s.ctx h.ctx).unfill id).positions, p.stream ≠ id) → ∃ t, exec (.streamCancel h id (s.stream id).gen) s = .next t ∧
      (t.stream id).state = .idle ∧ (t.stream id).pendingNew = 0 ∧ (t.slot id).pinned = false ∧
      (∀ p ∈ (t.ctx h.ctx).positions, p.stream ≠ id) ∧
      ∀ y ∈ t.cmds, y ∈ s.cmds ∧ ¬(y.arg = id ∧ y.ctx = h.ctx ∧ (y.opc = 0x21 ∨ y.opc = 0x22))) := by
  subst hop
  have hx' := exec_streamCancel (h := h) (id := id) (gen := (s.stream id).gen) (s := s)
  unfold execStreamCancel at hx'
  rw [State.streamCommand_run hr hid hh hs rfl (by simpa using hx) (by rw [he]; simp) (by simp [StreamEntry.named]) (.inr ho)] at hx'
  obtain ⟨c, hc⟩ := Option.isSome_iff_exists.mp hslot
  obtain ⟨c', hc'⟩ := State.cached_slot hc h
  have hst : ((s.cached h id).afterRecord h).stream id = s.stream id := s.cached_stream h id id
  have hctx : ((s.cached h id).afterRecord h).ctx h.ctx = s.ctx h.ctx := rfl
  have hsl : alook ((s.cached h id).afterRecord h).streams.cache id = some c' := hc'
  have hacc0 : Accepts s (((s.cached h id).afterRecord h).accept h 0x22 id 4096) h (outstanding h 0x22 id 4096) :=
    State.accepts_accept (s.cached h id) h 0x22 id 4096
  generalize (s.cached h id).afterRecord h = v at hx' hst hctx hsl hacc0
  generalize hu : ((v.accept h 0x22 id 4096).modStream id (fun e => { e with cancelled := true })).modCtx h.ctx
    (fun x => x.unfill id) = u at hx'
  have hus : u.stream id = { s.stream id with cancelled := true } := by
    rw [← hu, ← hst]
    exact State.stream_modStream_self (v.accept h 0x22 id 4096) id (fun e => { e with cancelled := true })
  have huc : u.ctx h.ctx = (s.ctx h.ctx).unfill id := by
    rw [← hu, ← hctx]
    exact State.ctx_modCtx_self _ _ _
  have hul : alook u.streams.cache id = some c' := by
    rw [← hu]
    exact hsl
  have hacc : Accepts s u h (outstanding h 0x22 id 4096) := by
    rw [← hu]
    exact hacc0
  refine ⟨fun hp => ?_, fun hp => ?_⟩
  · rw [if_pos ?_] at hx'
    · exact ⟨_, hx', hacc, hus, congrArg Ctx.positions huc⟩
    · rw [huc]
      simpa using hp
  · rw [if_neg ?_] at hx'
    · obtain ⟨h1, h2, h3, h4⟩ := u.endStep_leaves hul .ok 2 .idle
      have hcx : (u.stream id).ctx = h.ctx := by
        rw [hus]
        exact ho
      rw [hcx] at h3 h4
      refine ⟨_, hx', by rw [h1]; rfl, by rw [h1]; rfl, by rw [h2]; rfl, fun p hm => ?_, fun y hy => ?_⟩
      · rw [h3] at hm
        simpa using (List.mem_filter.mp hm).2
      · obtain ⟨hm, hno⟩ := h4 y hy
        rw [hacc.2.1] at hm
        refine ⟨(List.mem_append.mp hm).resolve_right fun hm => hno ?_, hno⟩
        obtain rfl := List.mem_singleton.mp hm
        exact ⟨rfl, rfl, .inr rfl⟩
    · rw [huc]
      simpa using hp

theorem streamEvicted (hop : opc = 0x24) (hx : (s.ctx h.ctx).state = .loaded ∨ (s.ctx h.ctx).state = .running ∨ (s.ctx h.ctx).state = .paused)
    (he : (s.stream id).state = .idle) :
    ∃ t, exec (.streamEvict h id (s.stream id).gen) s = .next t ∧ Accepts s t h (outstanding h 0x24 id 4096) ∧
      t.stream id = { s.stream id with state := .evicted } ∧ alook t.streams.cache id = none := by
  subst hop
  have hx' := exec_streamEvict (h := h) (id := id) (gen := (s.stream id).gen) (s := s)
  unfold execStreamEvict at hx'
  rw [State.streamCommand_run hr hid hh hs rfl (by simpa using hx) (by rw [he]; simp) (by simp [StreamEntry.named]) (.inr ho)] at hx'
  have hst : ((s.cached h id).afterRecord h).stream id = s.stream id := s.cached_stream h id id
  refine ⟨_, hx', State.accepts_accept (s.cached h id) h 0x24 id 4096, ?_, alook_adel_self _ _⟩
  exact (State.stream_modStream_self (((s.cached h id).afterRecord h).accept h 0x24 id 4096) id (fun e => { e with state := .evicted })).trans
    (congrArg (fun e : StreamEntry => { e with state := .evicted }) hst)

end

/-! ### Entries written to the table and brought back -/

theorem length_leBytes (n v : Nat) : (leBytes n v).length = n := by
  induction n generalizing v with
  | zero => rfl
  | succ n ih => rw [leBytes, List.length_cons, ih]

theorem StreamEntry.length_bytes (e : StreamEntry) : e.bytes.length = 128 := by
  simp [StreamEntry.bytes, length_leBytes]

/-- A whole unit of device DDR written, without poison. -/
theorem State.ddrPut_unit {s : State} {q id : Nat} (hr : s.isRetired q (128 * id) = false) {bs : List Byte} (hl : bs.length = 128)
    (src : DdrSource) : s.ddrPut q (128 * id) bs false src = s.modMem q (fun m => (m.write (128 * id) bs).mark id false) := by
  cases bs with
  | nil => simp at hl
  | cons b bs =>
    unfold State.ddrPut
    rw [hl]
    unfold State.ddrWrite
    dsimp only
    rw [Nat.mul_mod_right, List.take_of_length_le (by rw [hl]), List.drop_of_length_le (by rw [hl])]
    have hunit : s.ddrWriteUnit q (128 * id) (b :: bs) false src = s.modMem q (fun m => (m.write (128 * id) (b :: bs)).mark id false) := by
      unfold State.ddrWriteUnit
      rw [if_neg (by rw [hr]; exact Bool.false_ne_true)]
      dsimp only
      rw [if_pos hl, Nat.mul_div_cancel_left _ (by decide)]
      rfl
    rw [hunit]
    rfl

theorem State.writeEntry_eq (s : State) (id : Nat) :
    s.writeEntry id = { s with streams := { s.streams with dirty := ndel s.streams.dirty id }, ddr := (s.writeEntry id).ddr } :=
  State.ddrPut_eq _ _ _ _ _ _

theorem State.unitPoison_of_memory {s t : State} {q id : Nat} {m : Memory} (hc : t.ddr = { s.ddr with mem := aset s.ddr.mem q (m.mark id false) })
    (hr : s.isRetired q (128 * id) = false) : t.unitPoison q (128 * id) = false := by
  have hret : t.isRetired q (128 * id) = s.isRetired q (128 * id) := by
    unfold State.isRetired State.chan
    rw [hc]
    rfl
  have hmem : t.ddr.memory q = m.mark id false := by
    rw [hc]
    exact aget_aset_self _ _ _ _
  unfold State.unitPoison
  rw [hret, hr, hmem, Nat.mul_div_cancel_left _ (by decide), Memory.isPoisoned_mark, if_pos rfl]
  rfl

theorem Memory.read_congr {m m' : Memory} {a n : Nat} (h : ∀ i, i < n → m'.byte (a + i) = m.byte (a + i)) : m'.read a n = m.read a n :=
  List.map_congr_left fun i hi => h i (List.mem_range.mp hi)

theorem Memory.read_write_self (m : Memory) (a : Nat) (bs : List Byte) : (m.write a bs).read a bs.length = bs := by
  unfold Memory.read
  refine List.ext_getElem (by simp) fun i h1 h2 => ?_
  rw [List.getElem_map, List.getElem_range, Memory.byte_write _ _ _ _ h2, List.getD_eq_getElem]

theorem streamEvictDone_writes {s : State} {id : Nat} (ht : s.tableAway = false)
    (hc : s.cmds.any (fun y => y.opc == 0x24 && y.arg == id) = true) :
    ∃ t, exec (.streamEvictDone id) s = .next t ∧
      t.cmds = s.cmds.filter (fun y => !(y.opc == 0x24 && y.arg == id)) ∧ t.streams = { s.streams with dirty := ndel s.streams.dirty id } ∧
      t.sites = s.sites ∧ t.ctxs = s.ctxs ∧
      (s.isRetired 0 (128 * id) = false → t.ddrBytes 0 (128 * id) 128 = (s.stream id).bytes ∧ t.unitPoison 0 (128 * id) = false ∧
        ∀ q l, q ≠ 0 ∨ l / 128 ≠ id → t.ddrBytes q l 1 = s.ddrBytes q l 1) := by
  have hx : exec (.streamEvictDone id) s = .next ((s.writeEntry id).finish (fun x => x.opc == 0x24 && x.arg == id) .ok (fun _ => [])) :=
    exec_streamEvictDone.trans (congrArg Host.Outcome.next (if_neg (by rw [ht, hc]; exact Bool.false_ne_true)))
  have hw := s.writeEntry_eq id
  obtain ⟨h1, h2⟩ := (s.writeEntry id).finish_eq (fun x => x.opc == 0x24 && x.arg == id) .ok (fun _ => [])
  generalize (s.writeEntry id).finish (fun x => x.opc == 0x24 && x.arg == id) .ok (fun _ => []) = t at hx h1 h2
  have hd : s.isRetired 0 (128 * id) = false → (s.writeEntry id).ddr =
      { s.ddr with mem := aset s.ddr.mem 0 (((s.ddr.memory 0).write (128 * id) (s.stream id).bytes).mark id false) } := fun hr =>
    congrArg State.ddr (State.ddrPut_unit (s := { s with streams := { s.streams with dirty := ndel s.streams.dirty id } }) hr
      (s.stream id).length_bytes .streamTable)
  generalize s.writeEntry id = u at hw h1 h2 hd
  refine ⟨t, hx, h1.trans (by rw [hw]), by rw [h2, hw], by rw [h2, hw], by rw [h2, hw], fun hr => ?_⟩
  have hdt : t.ddr = { s.ddr with mem := aset s.ddr.mem 0 (((s.ddr.memory 0).write (128 * id) (s.stream id).bytes).mark id false) } := by
    rw [h2]
    exact hd hr
  have hmem : t.ddr.memory 0 = ((s.ddr.memory 0).write (128 * id) (s.stream id).bytes).mark id false := by
    rw [hdt]
    exact aget_aset_self _ _ _ _
  refine ⟨?_, State.unitPoison_of_memory hdt hr, fun q l hne => ?_⟩
  · unfold State.ddrBytes
    rw [hmem]
    refine (Memory.read_congr fun i _ => Memory.byte_mark _ _ _ _).trans ?_
    have := Memory.read_write_self (s.ddr.memory 0) (128 * id) (s.stream id).bytes
    rwa [StreamEntry.length_bytes] at this
  · unfold State.ddrBytes
    refine Memory.read_congr fun i hi => ?_
    obtain rfl : i = 0 := by omega
    by_cases hq : q = 0
    · subst hq
      rw [hmem, Memory.byte_mark]
      refine Memory.byte_write_ne _ _ _ _ ?_
      rw [StreamEntry.length_bytes]
      have := hne.resolve_left (fun h => h rfl)
      omega
    · have : t.ddr.memory q = s.ddr.memory q := by
        rw [hdt]
        exact aget_aset_ne _ _ _ _ _ hq
      rw [this]

theorem streamRestored {s : State} {h : CmdHead} {id : Nat} (hr : s.reads h 0x25 .context true) (hid : id < 2 ^ 24)
    (hx : (s.ctx h.ctx).state = .loaded ∨ (s.ctx h.ctx).state = .running ∨ (s.ctx h.ctx).state = .paused)
    (he : (s.stream id).state = .evicted) (ho : (s.stream id).ctx = h.ctx) :
    ∃ t, exec (.streamRestore h id (s.stream id).gen) s = .next t ∧ Accepts s t h (outstanding h 0x25 id 4096) ∧
      t = { s with fns := t.fns, cmds := t.cmds, readUnits := t.readUnits, streams := { s.streams with
        misses := min (s.streams.misses + 1) (2 ^ 32 - 1) } } := by
  have hx' := exec_streamRestore (h := h) (id := id) (gen := (s.stream id).gen) (s := s)
  unfold execStreamRestore at hx'
  dsimp only at hx'
  rw [hr.runs (by rw [decide_eq_false (streamMax_above hid), decide_eq_false (by tauto)]; rfl)
    (by rcases hx with hx | hx | hx <;> simp [hx, he])] at hx'
  exact ⟨_, hx', s.accepts_accept h 0x25 id 4096, rfl⟩

theorem streamRestoreDone_ends {s : State} {id : Nat} (f : EccFind) (ht : s.tableAway = false)
    (hc : s.cmds.any (fun y => y.opc == 0x25 && y.arg == id) = true) :
    ((s.stream id).state ≠ .evicted → ∃ t, exec (.streamRestoreDone id f) s = .next t ∧ OnlyRings s t ∧
      t.cmds = s.cmds.filter (fun y => !(y.opc == 0x25 && y.arg == id))) ∧
    ((s.stream id).state = .evicted → id ∉ s.streams.dirty → s.unitPoison 0 (128 * id) = false →
      ∃ t, exec (.streamRestoreDone id EccFind.clean) s = .next t ∧
        t.stream id = { StreamEntry.ofBytes (s.ddrBytes 0 (128 * id) 128) with state := .idle } ∧
        t.cmds = s.cmds.filter (fun y => !(y.opc == 0x25 && y.arg == id))) ∧
    ((s.stream id).state = .evicted → id ∉ s.streams.dirty → s.unitPoison 0 (128 * id) = true →
      ∃ t, exec (.streamRestoreDone id f) s = .next t ∧ (t.stream id).state = .damaged ∧ (t.stream id).gen = 0xFFFF ∧
        t.cmds = s.cmds.filter (fun y => !(y.opc == 0x25 && y.arg == id))) := by
  obtain ⟨x, hx⟩ : ∃ x, s.cmds.find? (fun y => y.opc == 0x25 && y.arg == id) = some x :=
    Option.isSome_iff_exists.mp (by rw [List.find?_isSome]; simpa using hc)
  have hrun (g : EccFind) : exec (.streamRestoreDone id g) s = .next (
      if (s.stream id).state ≠ .evicted then s.finish (fun y => y.opc == 0x25 && y.arg == id) .ok (fun _ => [])
      else if (s.entryRead id g).2 then
        ((s.entryRead id g).1.finish (fun y => y.opc == 0x25 && y.arg == id) .poisoned (fun _ => [])).rewriteEntry x.ctx id
      else (((s.entryRead id g).1.finish (fun y => y.opc == 0x25 && y.arg == id) .ok (fun _ => [])).modStream id
        (fun e => { e with state := .idle })).cacheIn id) := by
    rw [exec_streamRestoreDone]
    unfold execStreamRestoreDone
    rw [hx]
    dsimp only
    rw [if_neg (by rw [ht]; exact Bool.false_ne_true)]
  refine ⟨fun he => ?_, fun he hd hp => ?_, fun he hd hp => ?_⟩
  · have h := hrun f
    rw [if_pos he] at h
    obtain ⟨h1, h2⟩ := s.finish_eq (fun y => y.opc == 0x25 && y.arg == id) .ok (fun _ => [])
    refine ⟨_, h, ?_, h1⟩
    generalize s.finish (fun y => y.opc == 0x25 && y.arg == id) .ok (fun _ => []) = t at h2
    unfold OnlyRings
    rw [h2]
  · have h := hrun EccFind.clean
    obtain ⟨hno, h1, hs, -⟩ := State.entryRead_clean hd hp
    rw [if_neg (not_not.mpr he), hno, if_neg Bool.false_ne_true] at h
    generalize (s.entryRead id EccFind.clean).1 = u at h h1 hs
    obtain ⟨h2, h3⟩ := u.finish_eq (fun y => y.opc == 0x25 && y.arg == id) .ok (fun _ => [])
    generalize u.finish (fun y => y.opc == 0x25 && y.arg == id) .ok (fun _ => []) = v at h h2 h3
    have hv : v.stream id = StreamEntry.ofBytes (s.ddrBytes 0 (128 * id) 128) := by
      rw [h3]
      exact hs
    refine ⟨_, h, ?_, h2.trans (by rw [h1])⟩
    rw [← hv]
    exact (congrArg (aget StreamEntry.free · id) (State.cacheIn_eq _ id).2.2.1).trans (State.stream_modStream_self v id _)
  · have h := hrun f
    rw [if_neg (not_not.mpr he), State.entryRead_poison hd hp, if_pos rfl] at h
    have h1 := (s.touchRetired_eq 0 (128 * id) .streamTable).1
    generalize s.touchRetired 0 (128 * id) .streamTable = u at h h1
    obtain ⟨h2, h3⟩ := u.finish_eq (fun y => y.opc == 0x25 && y.arg == id) .poisoned (fun _ => [])
    dsimp only at h
    generalize u.finish (fun y => y.opc == 0x25 && y.arg == id) .poisoned (fun _ => []) = v at h h2 h3
    obtain ⟨hs, hcm, -⟩ := v.rewriteEntry_leaves x.ctx id
    have hst : (v.rewriteEntry x.ctx id).stream id = { StreamEntry.free with state := .damaged, ctx := x.ctx, gen := 0xFFFF } :=
      (congrArg (fun z : Streams => aget StreamEntry.free z.table id) hs).trans (aget_aset_self _ _ _ _)
    exact ⟨_, h, by rw [hst], by rw [hst], hcm.trans (h2.trans (by rw [h1]))⟩

end Sys2Proof.Machine

open Sys2Proof Sys2Proof.Machine

/-- Settles O44: a step, a cancel and an evict run on an entry in its slot, and what the filling of the turn adds touches neither
the entry nor the slot; the ends write the entry's unit, or read it back. -/
theorem streamSteps : Obligations.StreamSteps := by
  refine ⟨fun s h id => ⟨fun flags count new addr stop inputs ⟨hr, hid, hslot, hs, ho⟩ hx he hfl hsome hin hout => ?_,
    fun ⟨hr, hid, hslot, hs, ho⟩ hx he => ?_⟩, fun s h id f => ⟨fun hr hid hh hs hx he ho => ?_, fun ha => ?_, fun ht hc => ?_,
    fun hr hid hx he ho => ?_, fun ha => ?_, fun ht hc => ?_⟩⟩
  · have hh : s.atHand id = true := by
      unfold State.atHand
      rw [hslot]
      rfl
    obtain ⟨h1, h2, h3⟩ := streamStepped hr hid hh hs ho rfl hslot (stop := stop) (inputs := inputs) (addr := addr) hx he hfl hsome hin hout
    refine ⟨h1, h2, fun hk hn => ?_⟩
    obtain ⟨t, ht, ha, hst, ⟨c, hc⟩, hk'⟩ := h3 hk hn
    refine ⟨t, ht, ha, ?_, ?_, ?_, ?_, ?_, hk'⟩
    · rw [hst]
      rcases Nat.le_one_iff_eq_zero_or_eq_one.mp hfl with rfl | rfl <;> rfl
    · rw [hc]
      rfl
    · rw [hc]
      rcases Nat.le_one_iff_eq_zero_or_eq_one.mp hfl with rfl | rfl <;> rfl
    · rw [hc]
      rcases Nat.le_one_iff_eq_zero_or_eq_one.mp hfl with rfl | rfl <;> rfl
    · rw [hc]
      rcases Nat.le_one_iff_eq_zero_or_eq_one.mp hfl with rfl | rfl <;> rfl
  · have hh : s.atHand id = true := by
      unfold State.atHand
      rw [hslot]
      rfl
    exact streamCancelled hr hid hh hs ho rfl hslot hx he
  · exact streamEvicted hr hid hh hs ho rfl hx he
  · refine exec_streamEvictDone.trans (congrArg Host.Outcome.next (if_pos ?_))
    rcases ha with ha | ha
    · rw [ha]
      rfl
    · rw [ha]
      simp
  · exact streamEvictDone_writes ht hc
  · exact streamRestored hr hid hx he ho
  · rw [exec_streamRestoreDone]
    unfold execStreamRestoreDone
    dsimp only
    split
    · rfl
    · next x hx =>
      rcases ha with ha | ha
      · rw [if_pos ha]
      · exact absurd (List.any_eq_true.mpr ⟨x, List.mem_of_find?_eq_some hx, List.find?_some hx⟩) (by rw [ha]; exact Bool.false_ne_true)
  · exact streamRestoreDone_ends f ht hc

end

section
/-! The filling of batches, their headers, and the reads of inputs (O45). -/

namespace Sys2Proof.Machine

/-! ### The filling -/

/-- Steps that change the sites alone, taken one after the other. -/
theorem State.foldl_sites {α : Type} (f : State → α → State) (h : ∀ (u : State) x, f u x = { u with sites := (f u x).sites }) (l : List α)
    (s : State) : l.foldl f s = { s with sites := (l.foldl f s).sites } := by
  induction l generalizing s with
  | nil => rfl
  | cons x l ih => rw [List.foldl_cons, ih, h]

theorem State.writeRx_eq (s : State) (c off : Nat) (bs : List Byte) : s.writeRx c off bs = { s with sites := (s.writeRx c off bs).sites } := by
  unfold State.writeRx
  dsimp only
  split
  · refine State.foldl_sites _ (fun u g => ?_) _ s
    split <;> rfl
  · rfl

/-- The tokens that a fill writes, one position after the other. -/
def fillPositions (e : StreamEntry) (id start filled : Nat) (w : List (Word × Bool × Bool)) : List Position :=
  (List.range w.length).map (fun k =>
    let t := w.getD k (0, false, false)
    ({ pos := start + k, stream := id, index := e.kvLength + k, token := t.1, input := t.2.1, sample := t.2.2, filled := filled } : Position))

/-- A privileged stream takes its positions from the front of the filling. -/
theorem State.place_privileged {s : State} {c id : Nat} {f : Filling} {g : Gearing} {b : BatchDecl} (hf : (s.ctx c).filling = some f)
    (hg : (s.ctx c).gear = some (g, b)) (hp : (s.stream id).priv = true) :
    let w := s.wants (s.ctx c) id b.inputSpan (g.batch - f.priv - f.bulk)
    ((s.place c id).ctx c).filling = some { f with priv := f.priv + w.length } ∧
      ((s.place c id).ctx c).positions = (s.ctx c).positions ++ fillPositions (s.stream id) id f.priv (s.ctx c).turn w ∧
      (s.place c id).streams = s.streams := by
  intro w
  unfold State.place
  dsimp only
  rw [hf, hg]
  dsimp only
  split
  · next he =>
    have hw : w = [] := List.isEmpty_iff.mp he
    rw [hw]
    exact ⟨hf, (List.append_nil _).symm, rfl⟩
  · rw [State.foldl_sites _ (fun u k => by
      split
      · exact State.writeRx_eq _ _ _ _
      · rfl)]
    refine ⟨?_, ?_, rfl⟩
    · exact congrArg Ctx.filling (aget_aset_self _ _ _ _)
    · exact congrArg Ctx.positions (aget_aset_self _ _ _ _)

/-- The filling that a turn opens. -/
def Ctx.opened (x : Ctx) : Filling := { priv := 0, bulk := 0, gearing := x.gearing, open_ := true, written := false }

section
variable {s : State} {c : Nat} (hr : s.turn.running = true) (hw : s.turn.window = .intake) (hn : (s.ctx c).filling = none)
  (hruns : s.runs c = true) (hfills : s.fills c = true)
include hr hw hn hruns hfills

theorem execBatchFill_opens : execBatchFill c s = .next (
    ((s.ctx c).privSnap ++ (s.ctx c).bulkSnap ++ ((s.ctx c).privRing ++ (s.ctx c).bulkRing).filter
      (fun id => !(s.ctx c).privSnap.contains id && !(s.ctx c).bulkSnap.contains id)).foldl (fun u id => u.place c id)
      (s.modCtx c (fun y => { y with filling := some (s.ctx c).opened }))) :=
  congrArg Host.Outcome.next (if_pos ⟨hw, hr, hn, hruns, hfills⟩)

theorem batchFill_empty (h1 : (s.ctx c).privSnap = []) (h2 : (s.ctx c).bulkSnap = []) (h3 : (s.ctx c).privRing = [])
    (h4 : (s.ctx c).bulkRing = []) :
    ∃ t, exec (.batchFill c) s = .next t ∧ t = { s with ctxs := t.ctxs } ∧
      t.ctx c = { s.ctx c with filling := some (s.ctx c).opened } := by
  have hx := execBatchFill_opens hr hw hn hruns hfills
  rw [h1, h2, h3, h4] at hx
  exact ⟨_, exec_batchFill.trans hx, rfl, State.ctx_modCtx_self _ _ _⟩

theorem batchFill_privileged {id : Nat} {g : Gearing} {b : BatchDecl} (h1 : (s.ctx c).privSnap = [id]) (h2 : (s.ctx c).bulkSnap = [])
    (h3 : ∀ k ∈ (s.ctx c).privRing ++ (s.ctx c).bulkRing, k = id) (hg : (s.ctx c).gear = some (g, b)) (hp : (s.stream id).priv = true) :
    let w := s.wants (s.ctx c) id b.inputSpan g.batch
    ∃ t, exec (.batchFill c) s = .next t ∧ (t.ctx c).filling = some { (s.ctx c).opened with priv := w.length } ∧
      (t.ctx c).positions = (s.ctx c).positions ++ fillPositions (s.stream id) id 0 (s.ctx c).turn w ∧ t.streams = s.streams := by
  have hx := execBatchFill_opens hr hw hn hruns hfills
  have hnew : ((s.ctx c).privRing ++ (s.ctx c).bulkRing).filter
      (fun k => !(s.ctx c).privSnap.contains k && !(s.ctx c).bulkSnap.contains k) = [] := by
    refine List.filter_eq_nil_iff.mpr fun k hk => ?_
    rw [h3 k hk, h1]
    simp
  rw [hnew, h1, h2] at hx
  have hctx : (s.modCtx c (fun y => { y with filling := some (s.ctx c).opened })).ctx c = { s.ctx c with filling := some (s.ctx c).opened } :=
    State.ctx_modCtx_self _ _ _
  obtain ⟨p1, p2, p3⟩ := State.place_privileged (s := s.modCtx c (fun y => { y with filling := some (s.ctx c).opened })) (c := c) (id := id)
    (f := (s.ctx c).opened) (g := g) (b := b) (by rw [hctx]) (by rw [hctx]; exact hg) hp
  have hwants : (s.modCtx c (fun y => { y with filling := some (s.ctx c).opened })).wants
      ((s.modCtx c (fun y => { y with filling := some (s.ctx c).opened })).ctx c) id b.inputSpan
      (g.batch - (s.ctx c).opened.priv - (s.ctx c).opened.bulk) = s.wants (s.ctx c) id b.inputSpan g.batch := by
    rw [hctx]
    rfl
  rw [hwants] at p1 p2
  refine ⟨_, exec_batchFill.trans hx, p1.trans ?_, p2.trans ?_, p3⟩
  · rw [show (s.ctx c).opened.priv = 0 from rfl, Nat.zero_add]
  · rw [hctx]
    rfl

end

/-! ### The header -/

theorem Memory.read_write_take (m : Memory) (a : Nat) (bs : List Byte) {n : Nat} (h : n ≤ bs.length) :
    (m.write a bs).read a n = bs.take n := by
  rw [← Memory.take_read _ _ h, Memory.read_write_self]

/-- A write to the receive region of the one tile that a plan names for it. -/
theorem State.writeRx_site (s : State) {c off r i : Nat} {bs : List Byte} {p : Plan} {g : Gearing} {b : BatchDecl}
    (hp : (s.ctx c).plan = some p) (hg : (s.ctx c).gear = some (g, b)) (hrx : b.rx = [r]) (hi : s.siteOfTile (s.ctx c) r = some i) :
    (s.writeRx c off bs).site i = { s.site i with
      scr := ((s.site i).scr.write (p.hdr.batchOffset + off) bs).mark ((p.hdr.batchOffset + off) / 64) false } := by
  have hx : s.writeRx c off bs = s.modSite i (fun a =>
      { a with scr := (a.scr.write (p.hdr.batchOffset + off) bs).mark ((p.hdr.batchOffset + off) / 64) false }) := by
    unfold State.writeRx
    dsimp only
    rw [hp, hg]
    dsimp only
    rw [hrx, List.foldl_cons, List.foldl_nil, hi]
  rw [hx]
  exact State.site_setSite_self _ _ _

theorem batchHeaderWritten {s : State} {c : Nat} {f : Filling} {g : Gearing} {b : BatchDecl} (hf : (s.ctx c).filling = some f)
    (hg : (s.ctx c).gear = some (g, b)) (ho : f.open_ = true) :
    (s.turn.window = .intake → ∃ t, exec (.batchHeaderWrite c) s = .next t ∧ t = { s with ctxs := t.ctxs, sites := t.sites } ∧
      t.ctx c = { s.ctx c with filling := some { f with open_ := false, written := true } } ∧
      ∀ (p : Plan) r i, (s.ctx c).plan = some p → b.rx = [r] → s.siteOfTile (s.ctx c) r = some i →
        (t.site i).scr.read p.hdr.batchOffset 7 =
          leBytes 2 f.priv ++ leBytes 2 f.bulk ++ leBytes 2 g.batch ++ [BitVec.ofNat 8 f.gearing]) ∧
    (s.turn.window ≠ .intake → exec (.batchHeaderWrite c) s = .next s) := by
  have hx : execBatchHeaderWrite c s = .next (if f.open_ ∧ s.turn.window = .intake then
      (s.writeRx c 0 (leBytes 2 f.priv ++ leBytes 2 f.bulk ++ leBytes 2 g.batch ++ [BitVec.ofNat 8 f.gearing] ++
        List.replicate 57 0)).modCtx c (fun y => { y with filling := some { f with open_ := false, written := true } })
      else s) := by
    unfold execBatchHeaderWrite
    dsimp only
    rw [hf, hg]
  refine ⟨fun hw => ?_, fun hw => ?_⟩
  · rw [if_pos ⟨ho, hw⟩] at hx
    have he := s.writeRx_eq c 0 (leBytes 2 f.priv ++ leBytes 2 f.bulk ++ leBytes 2 g.batch ++ [BitVec.ofNat 8 f.gearing] ++ List.replicate 57 0)
    refine ⟨_, exec_batchHeaderWrite.trans hx, ?_, ?_, fun p r i hp hrx hi => ?_⟩
    · rw [he]
      rfl
    · rw [State.ctx_modCtx_self, he]
      rfl
    · refine (congrArg (fun a : Site => a.scr.read p.hdr.batchOffset 7)
        (s.writeRx_site (off := 0) (bs := leBytes 2 f.priv ++ leBytes 2 f.bulk ++ leBytes 2 g.batch ++ [BitVec.ofNat 8 f.gearing] ++
          List.replicate 57 0) hp hg hrx hi)).trans ?_
      refine (Memory.read_congr fun k _ => Memory.byte_mark _ _ _ _).trans ?_
      rw [Nat.add_zero, Memory.read_write_take _ _ _ (by simp [length_leBytes])]
      rfl
  · rw [if_neg (fun h => hw h.2)] at hx
    exact exec_batchHeaderWrite.trans hx

/-! ### Inputs -/

/-- The words that an input read brings. -/
def State.inputsAt (s : State) (q l n : Nat) : List Word :=
  (List.range n).map (fun i => BitVec.ofNat 32 (leNat (s.ddrBytes q (l + 4 * i) 4)))

theorem inputWindowRead {s : State} {id : Nat} (he : (s.stream id).state = .active) (hk : (s.slot id).reading = true)
    (hp : s.unitPoison ((s.stream id).inputAddr / 2 ^ 43) ((s.stream id).inputAddr % 2 ^ 43) = false) :
    let q := (s.stream id).inputAddr / 2 ^ 43
    let l := (s.stream id).inputAddr % 2 ^ 43
    let k := s.slot id
    let n := min (min k.toRead ((128 - l % 128 + 3) / 4)) (64 - k.window.length)
    ∃ t, exec (.inputWindowReadDone id EccFind.clean) s = .next t ∧ t = { s with streams := t.streams } ∧
      (t.slot id).window = k.window ++ s.inputsAt q l n ∧ (t.slot id).toRead = k.toRead - n ∧
      t.stream id = { s.stream id with inputAddr := (s.stream id).inputAddr + 4 * n } := by
  intro q l k n
  obtain ⟨c, hc⟩ : ∃ c, alook s.streams.cache id = some c := by
    cases hc : alook s.streams.cache id with
    | none =>
      have : s.slot id = CacheSlot.fresh id 0 := (aget_eq _ _ _).trans (by rw [hc]; rfl)
      rw [this] at hk
      exact absurd hk Bool.false_ne_true
    | some c => exact ⟨c, rfl⟩
  have hkc : k = c := (aget_eq _ _ _).trans (by rw [hc]; rfl)
  have hx : execInputWindowReadDone id EccFind.clean s = .next (
      (s.modStream id (fun x => { x with inputAddr := x.inputAddr + 4 * n })).modSlot id (fun c => { c with
          window := c.window ++ s.inputsAt q l n, toRead := c.toRead - n
          reading := decide (0 < c.toRead - n ∧ c.window.length + n ≤ 32) })) := by
    unfold execInputWindowReadDone
    dsimp only
    rw [if_neg (by simp [he, hk]), State.touchRetired_of_unit (State.isRetired_of_poison hp), State.ddrFound_clean, State.eccAt_clean, hp]
    rfl
  rw [State.modSlot_slot (s := s.modStream id _) hc] at hx
  refine ⟨_, exec_inputWindowReadDone.trans hx, rfl, ?_, ?_,
    State.stream_modStream_self s id (fun x => { x with inputAddr := x.inputAddr + 4 * n })⟩
  · rw [hkc]
    exact congrArg CacheSlot.window (aget_aset_self _ _ _ _)
  · rw [hkc]
    exact congrArg CacheSlot.toRead (aget_aset_self _ _ _ _)

theorem State.state_endStep (s : State) (id : Nat) (st : Status) (reason : Nat) (fin : StreamState) :
    ((s.endStep id st reason fin).stream id).state = fin :=
  congrArg StreamEntry.state (State.stream_modStream_self _ id (fun x => x.ended fin))

/-- A stream that meets poison is DAMAGED at the position given. -/
theorem State.damage_one (s : State) (c origin addr id p : Nat) :
    ((s.damage c origin addr [(id, p)]).stream id).state = .damaged ∧ ((s.damage c origin addr [(id, p)]).stream id).damagedIndex = p := by
  have h : ∀ u : State, (((u.endStep id .poisoned 4 .damaged).modStream id (fun x => { x with damagedIndex := p })).stream id) =
      { (u.endStep id .poisoned 4 .damaged).stream id with damagedIndex := p } := fun u => State.stream_modStream_self _ id _
  unfold State.damage
  extract_lets e data s1 s2 check3 s3
  clear_value s3
  rw [List.foldl_cons, List.foldl_nil, h]
  exact ⟨s3.state_endStep _ _ _ _, rfl⟩

theorem inputWindowLost {s : State} {id : Nat} (he : (s.stream id).state = .active) (hk : (s.slot id).reading = true)
    (hp : s.unitPoison ((s.stream id).inputAddr / 2 ^ 43) ((s.stream id).inputAddr % 2 ^ 43) = true) (find : EccFind) :
    ∃ t, exec (.inputWindowReadDone id find) s = .next t ∧ (t.stream id).state = .damaged ∧
      (t.stream id).damagedIndex = (s.stream id).position := by
  have hx : ∃ u, execInputWindowReadDone id find s =
      .next (State.damage u (s.stream id).ctx 6 id [(id, (s.stream id).position)]) := by
    refine ⟨(s.touchRetired ((s.stream id).inputAddr / 2 ^ 43) ((s.stream id).inputAddr % 2 ^ 43) .intake).ddrFound
      ((s.stream id).inputAddr / 2 ^ 43) ((s.stream id).inputAddr % 2 ^ 43) find .intake, ?_⟩
    unfold execInputWindowReadDone
    dsimp only
    rw [if_neg (by simp [he, hk]), State.eccAt_poison hp]
    rfl
  obtain ⟨u, hx⟩ := hx
  exact ⟨_, exec_inputWindowReadDone.trans hx, u.damage_one _ _ _ _ _⟩

end Sys2Proof.Machine

open Sys2Proof Sys2Proof.Machine

/-- Settles O45: a fill places its positions in the context alone, the header goes to the scratchpad of the receiving tile, and an
input read to the stream's slot. -/
theorem batchesFilled : Obligations.BatchesFilled := by
  intro s c id g b find
  refine ⟨fun hr hw hn hruns hfills => ⟨batchFill_empty hr hw hn hruns hfills, fun h1 h2 h3 hg hp => ?_⟩, fun hno => ?_,
    fun f hf hg ho => batchHeaderWritten hf hg ho, fun he hk => ⟨inputWindowRead he hk, fun hp => inputWindowLost he hk hp find⟩⟩
  · obtain ⟨t, ht, hfill, hpos, hs⟩ := batchFill_privileged hr hw hn hruns hfills h1 h2 h3 hg hp
    refine ⟨t, ht, hfill, ?_, hs⟩
    rw [hpos, List.map_append]
    refine congrArg (_ ++ ·) ?_
    simp [fillPositions, Function.comp_def]
  · refine exec_batchFill.trans (congrArg Host.Outcome.next (if_neg ?_))
    rintro ⟨h1, -, -, h2, h3⟩
    rcases hno with h | h | h
    · exact h h1
    · rw [h] at h2
      exact Bool.false_ne_true h2
    · rw [h] at h3
      exact Bool.false_ne_true h3

end

section
/-! Plans: load, unload, abort, and their ends (O40). -/

namespace Sys2Proof.Machine

/-! ### Loads -/

/-- Steps that change the quadrants alone, taken one after the other. -/
theorem State.foldl_quads {α : Type} (f : State → α → State) (h : ∀ (u : State) x, f u x = { u with quads := (f u x).quads }) (l : List α)
    (s : State) : l.foldl f s = { s with quads := (l.foldl f s).quads } := by
  induction l generalizing s with
  | nil => rfl
  | cons x l ih => rw [List.foldl_cons, ih, h]

theorem planLoad_legal {h : CmdHead} {quads pipeline prevPos : Nat} (hq : quads < 16) (hp : pipeline < 2 ^ 12) (hv : prevPos < 2 ^ 18)
    (hf : h.fn = 0 ∨ quads = 0 ∨ quads.testBit (h.fn - 1) = true) :
    (decide (16 ≤ quads) || decide (4096 ≤ pipeline) || decide (2 ^ 18 ≤ prevPos) ||
      (decide (h.fn ≠ 0) && decide (quads ≠ 0) && !quads.testBit (h.fn - 1))) = false := by
  rw [decide_eq_false (Nat.not_le.mpr hq), decide_eq_false (p := 4096 ≤ pipeline) (Nat.not_le.mpr hp), decide_eq_false (Nat.not_le.mpr hv)]
  rcases hf with hf | hf | hf <;> simp [hf]

theorem State.imageReadable_afterRecord (s : State) (h : CmdHead) (image : Nat) :
    (s.afterRecord h).imageReadable image = s.imageReadable image := rfl

/-- What a load is judged by is not what a record that was read changed. -/
theorem State.loadVerdict_afterRecord (s : State) (h : CmdHead) (fn image home mask : Nat) (body : PlanBody) :
    (s.afterRecord h).loadVerdict fn image home mask body = s.loadVerdict fn image home mask body := by
  have h1 : (s.afterRecord h).image = s.image := rfl
  have h2 : (s.afterRecord h).ownerSigned = s.ownerSigned := rfl
  have h3 : (s.afterRecord h).bind = s.bind := rfl
  have h4 : (s.afterRecord h).check6 = s.check6 := rfl
  have h5 : (s.afterRecord h).loadable = s.loadable := rfl
  have h6 : (s.afterRecord h).mod = s.mod := rfl
  have h7 : (s.afterRecord h).turn = s.turn := rfl
  unfold State.loadVerdict
  rw [h1, h2, h3, h4, h5, h6, h7]

section
variable {s : State} {h : CmdHead} {image home quads pipeline prevPos : Nat} {body : PlanBody}
  (hr : s.reads h 0x01 .management true) (he : (s.ctx h.ctx).state = .empty) (hq : quads < 16) (hp : pipeline < 2 ^ 12)
  (hv : prevPos < 2 ^ 18) (hf : h.fn = 0 ∨ quads = 0 ∨ quads.testBit (h.fn - 1) = true)
include hr he hq hp hv hf

theorem planLoad_completes (hi : s.imageReadable image = false) :
    ∃ t, exec (.planLoad h image home quads pipeline prevPos body) s = .next t ∧
      Completes s t h 0x01 .badCommand (loadResult Ctx.reset 1) ∧ OnlyRings s t := by
  have hx := exec_planLoad (h := h) (image := image) (home := home) (quads := quads) (pipeline := pipeline) (prevPos := prevPos)
    (body := body) (s := s)
  unfold execPlanLoad at hx
  dsimp only at hx
  rw [hr.runs (planLoad_legal hq hp hv hf) (decide_eq_true he), State.imageReadable_afterRecord, hi] at hx
  exact ⟨_, hx, State.completes_complete hr.active 0x01 _ _⟩

theorem planLoad_binds (hi : s.imageReadable image = true) {l : Loaded} (hl : s.loadVerdict h.fn image home quads body = .loads l) :
    ∃ t, exec (.planLoad h image home quads pipeline prevPos body) s = .next t ∧ Accepts s t h (outstanding h 0x01 0 4096) ∧
      t.sites = s.sites ∧
      (t.ctx h.ctx).state = .loading ∧ (t.ctx h.ctx).plan = some { hdr := l.hdr, manifest := l.manifest, body := body } ∧
      (t.ctx h.ctx).quads = l.quads ∧ (t.ctx h.ctx).usable = l.usable ∧ (t.ctx h.ctx).reefMap = l.map ∧
      (t.ctx h.ctx).gen = ((s.ctx h.ctx).gen + 1) % 256 ∧ (t.ctx h.ctx).owner = (s.ctx h.ctx).owner ∧
      ∀ k, k ≠ h.ctx → t.ctx k = s.ctx k := by
  have hx := exec_planLoad (h := h) (image := image) (home := home) (quads := quads) (pipeline := pipeline) (prevPos := prevPos)
    (body := body) (s := s)
  unfold execPlanLoad at hx
  dsimp only at hx
  rw [hr.runs (planLoad_legal hq hp hv hf) (decide_eq_true he), State.imageReadable_afterRecord, hi, if_neg (by decide),
    State.loadVerdict_afterRecord, hl] at hx
  dsimp only at hx
  obtain ⟨h1, ⟨-, h2⟩, h3⟩ := s.accept_modCtx h 0x01 0 4096 (fun x => x.take l body home pipeline prevPos s.turn.no
    { fn := h.fn, ring := h.ring, tag := h.tag, failed := 0, status := 0 })
  refine ⟨_, hx, ?_⟩
  rw [State.foldl_quads _ (fun _ _ => by rfl)]
  refine ⟨h1, rfl, ?_⟩
  have hc : ∀ (u : State) z k, ({ u with quads := z } : State).ctx k = u.ctx k := fun _ _ _ => rfl
  simp only [hc]
  rw [show (s.afterRecord h).turn.no = s.turn.no from rfl, h3]
  exact ⟨rfl, rfl, rfl, rfl, rfl, rfl, rfl, h2⟩

theorem planLoad_fails (hi : s.imageReadable image = true) {n : Nat} {st : Status}
    (hl : s.loadVerdict h.fn image home quads body = .fails n st) :
    ∃ t, exec (.planLoad h image home quads pipeline prevPos body) s = .next t ∧ Accepts s t h (outstanding h 0x01 0 4096) ∧
      OnlyCtx s t h.ctx ∧ (t.ctx h.ctx).state = .loading ∧
      (t.ctx h.ctx).plan = none ∧ (t.ctx h.ctx).load.map (fun w => (w.failed, w.status)) = some (n, st.code) := by
  have hx := exec_planLoad (h := h) (image := image) (home := home) (quads := quads) (pipeline := pipeline) (prevPos := prevPos)
    (body := body) (s := s)
  unfold execPlanLoad at hx
  dsimp only at hx
  rw [hr.runs (planLoad_legal hq hp hv hf) (decide_eq_true he), State.imageReadable_afterRecord, hi, if_neg (by decide),
    State.loadVerdict_afterRecord, hl] at hx
  refine ⟨_, hx, ?_⟩
  obtain ⟨h1, h2, h3⟩ := s.accept_modCtx h 0x01 0 4096 (fun x => { x.emptied with
    state := .loading, load := some { fn := h.fn, ring := h.ring, tag := h.tag, failed := n, status := st.code } })
  exact ⟨h1, h2, by rw [h3], by rw [h3]; rfl, by rw [h3]; rfl⟩

end

/-! ### The tiles of a plan -/

theorem State.eachTile_eq (s : State) (c : Nat) (f : PlanTile → Site → Site) : s.eachTile c f = { s with sites := (s.eachTile c f).sites } := by
  unfold State.eachTile
  split
  · rfl
  · refine State.foldl_sites _ (fun u t => ?_) _ s
    split <;> rfl

/-- What each of a plan's tiles does to the site that it names, one tile after the other. -/
theorem State.site_eachTile (s : State) {c : Nat} {p : Plan} (hp : (s.ctx c).plan = some p) (f : PlanTile → Site → Site) (i : Nat) :
    (s.eachTile c f).site i =
      (p.body.tiles.filter (fun z => s.siteOfTile (s.ctx c) z.tile == some i)).foldl (fun a z => f z a) (s.site i) := by
  have key : ∀ (l : List PlanTile) (g : State → PlanTile → State) (u : State),
      (∀ (v : State) z, (∀ j, v.siteOfTile (v.ctx c) z.tile = some j → g v z = v.modSite j (f z)) ∧
        (v.siteOfTile (v.ctx c) z.tile = none → g v z = v)) →
      (l.foldl g u).site i = (l.filter (fun z => u.siteOfTile (u.ctx c) z.tile == some i)).foldl (fun a z => f z a) (u.site i) := by
    intro l g u hg
    induction l generalizing u with
    | nil => rfl
    | cons z l ih =>
      rw [List.foldl_cons, ih, List.filter_cons]
      cases hz : u.siteOfTile (u.ctx c) z.tile with
      | none =>
        rw [(hg u z).2 hz, if_neg (by simp)]
      | some j =>
        rw [(hg u z).1 j hz]
        have hmove : ∀ y : PlanTile, (u.modSite j (f z)).siteOfTile ((u.modSite j (f z)).ctx c) y.tile = u.siteOfTile (u.ctx c) y.tile :=
          fun _ => rfl
        simp only [hmove]
        by_cases hj : j = i
        · subst hj
          rw [if_pos (by simp), List.foldl_cons]
          exact congrArg (List.foldl (fun a z => f z a) · _) (State.site_setSite_self _ _ _)
        · rw [if_neg (by simp [hj])]
          exact congrArg (List.foldl (fun a z => f z a) · _) (State.site_setSite_ne _ _ _ _ (fun h => hj h.symm))
  unfold State.eachTile
  rw [hp]
  refine key p.body.tiles _ s fun v z => ⟨fun j hj => ?_, fun hn => ?_⟩
  · rw [hj]
  · rw [hn]

/-- The one tile of a plan that stands on a site, placed there. -/
theorem State.site_placePlan {s : State} {c : Nat} {p : Plan} {d : PlanTile} {i : Nat} (hp : (s.ctx c).plan = some p)
    (hd : p.body.tiles.filter (fun z => s.siteOfTile (s.ctx c) z.tile == some i) = [d]) : (s.placePlan c).site i = d.load c (s.site i) := by
  unfold State.placePlan
  rw [s.site_eachTile hp, hd]
  rfl

theorem State.placePlan_eq (s : State) (c : Nat) : s.placePlan c = { s with sites := (s.placePlan c).sites } := s.eachTile_eq c _

theorem State.arm_eq (s : State) (c : Nat) : s.arm c = { s with quads := (s.arm c).quads } := by
  unfold State.arm
  split
  · rfl
  · refine State.foldl_quads _ (fun u d => ?_) _ s
    unfold State.armOne
    dsimp only
    split
    · rfl
    · split <;> rfl

theorem not_mem_filter_isCmd {l : List Cmd} {opc c : Nat} {y : Cmd} (h : y ∈ l.filter (fun x => !isCmd opc c x)) : isCmd opc c y = false := by
  simpa using (List.mem_filter.mp h).2

/-! ### The end of a load -/

section
variable {s : State} {c : Nat} {w : LoadWork} (hw : (s.ctx c).load = some w) (hl : (s.ctx c).state = .loading)
include hw

theorem planLoadDone_waits (hq : ∃ q ∈ (s.ctx c).quads, (s.quad q).load.kind = 2 ∧ (s.quad q).load.bad ≠ []) :
    exec (.planLoadDone c) s = .next s := by
  rw [exec_planLoadDone]
  unfold execPlanLoadDone
  dsimp only
  rw [hw]
  refine congrArg Host.Outcome.next (if_pos ?_)
  have : (s.ctx c).quads.any (fun q => decide ((s.quad q).load.kind = 2 ∧ (s.quad q).load.bad ≠ [])) = true := by simpa using hq
  rw [this, Bool.or_true]

include hl

theorem execPlanLoadDone_goes (hq : ∀ q ∈ (s.ctx c).quads, (s.quad q).load.kind ≠ 2 ∨ (s.quad q).load.bad = []) :
    execPlanLoadDone c s = .next (if w.status ≠ 0 then
        (s.finish (isCmd 0x01 c) (loadStatus w.status) (fun _ => loadResult (s.ctx c) w.failed)).dropLoad c
      else ((s.ctx c).quads.foldl (fun v q => v.modQuad q (fun z => { z with load := { z.load with valid := true, result := 1 } }))
        (((s.placePlan c).arm c).modCtx c Ctx.finishLoad)).finish (isCmd 0x01 c) .ok (fun _ => loadResult (s.ctx c) 0)) := by
  unfold execPlanLoadDone
  dsimp only
  rw [hw]
  refine congrArg Host.Outcome.next (if_neg ?_)
  have : (s.ctx c).quads.any (fun q => decide ((s.quad q).load.kind = 2 ∧ (s.quad q).load.bad ≠ [])) = false := by
    simp only [List.any_eq_false, decide_eq_true_eq]
    intro q hm ⟨h1, h2⟩
    exact (hq q hm).elim (fun h => h h1) h2
  rw [this, hl]
  decide

theorem planLoadDone_loads (hq : ∀ q ∈ (s.ctx c).quads, (s.quad q).load.kind ≠ 2 ∨ (s.quad q).load.bad = []) (h0 : w.status = 0) :
    ∃ t, exec (.planLoadDone c) s = .next t ∧ (t.ctx c).state = .loaded ∧ (t.ctx c).load = none ∧ (t.ctx c).turn = 0 ∧
      (∀ y ∈ t.cmds, isCmd 0x01 c y = false) ∧ ∀ (p : Plan) (d : PlanTile) i, (s.ctx c).plan = some p →
        p.body.tiles.filter (fun z => s.siteOfTile (s.ctx c) z.tile == some i) = [d] → t.site i = d.load c (s.site i) := by
  have hx := execPlanLoadDone_goes hw hl hq
  rw [if_neg (not_not.mpr h0)] at hx
  have hu := State.foldl_quads (fun v q => v.modQuad q (fun z => { z with load := { z.load with valid := true, result := 1 } }))
    (fun _ _ => by rfl) (s.ctx c).quads (((s.placePlan c).arm c).modCtx c Ctx.finishLoad)
  generalize (s.ctx c).quads.foldl (fun (v : State) q => v.modQuad q (fun z => { z with load := { z.load with valid := true, result := 1 } }))
    (((s.placePlan c).arm c).modCtx c Ctx.finishLoad) = u at hx hu
  obtain ⟨h1, h2⟩ := u.finish_eq (isCmd 0x01 c) .ok (fun _ => loadResult (s.ctx c) 0)
  generalize u.finish (isCmd 0x01 c) .ok (fun _ => loadResult (s.ctx c) 0) = t at hx h1 h2
  have hctx : t.ctx c = ((s.placePlan c).arm c |>.ctx c).finishLoad := by
    rw [h2, hu]
    exact State.ctx_modCtx_self _ _ _
  refine ⟨t, exec_planLoadDone.trans hx, by rw [hctx]; rfl, by rw [hctx]; rfl, by rw [hctx]; rfl, fun y hy => ?_, fun p d i hp hd => ?_⟩
  · rw [h1] at hy
    exact not_mem_filter_isCmd hy
  · refine Eq.trans ?_ (State.site_placePlan hp hd)
    rw [h2, hu]
    show ((s.placePlan c).arm c).site i = _
    rw [State.arm_eq]
    rfl

theorem planLoadDone_fails (hq : ∀ q ∈ (s.ctx c).quads, (s.quad q).load.kind ≠ 2 ∨ (s.quad q).load.bad = []) (h0 : w.status ≠ 0) :
    ∃ t, exec (.planLoadDone c) s = .next t ∧ (t.ctx c).state = .empty ∧ (t.ctx c).plan = none ∧
      t.sites = s.sites ∧ ∀ y ∈ t.cmds, isCmd 0x01 c y = false := by
  have hx := execPlanLoadDone_goes hw hl hq
  rw [if_pos h0] at hx
  obtain ⟨h1, h2⟩ := s.finish_eq (isCmd 0x01 c) (loadStatus w.status) (fun _ => loadResult (s.ctx c) w.failed)
  generalize s.finish (isCmd 0x01 c) (loadStatus w.status) (fun _ => loadResult (s.ctx c) w.failed) = u at hx h1 h2
  have hctx : (u.dropLoad c).ctx c = (u.ctx c).emptied := State.ctx_modCtx_self (u.disarm c) c Ctx.emptied
  refine ⟨_, exec_planLoadDone.trans hx, by rw [hctx]; rfl, by rw [hctx]; rfl, ?_, fun y hy => ?_⟩
  · rw [h2]
    rfl
  · have hy' : y ∈ u.cmds := hy
    rw [h1] at hy'
    exact not_mem_filter_isCmd hy'

end

/-! ### The end of a plan -/

theorem planUnloadAccepted {s : State} {h : CmdHead} (hr : s.reads h 0x02 .management true)
    (hs : (s.ctx h.ctx).state = .loaded ∨ (s.ctx h.ctx).state = .faulted ∨ (s.ctx h.ctx).state = .quarantined)
    (hu : (s.ctx h.ctx).unloading = false) :
    ∃ t, exec (.planUnload h) s = .next t ∧ Accepts s t h (outstanding h 0x02 0 4096) ∧ OnlyCtx s t h.ctx ∧
      t.ctx h.ctx = { s.ctx h.ctx with unloading := true, trans := none } := by
  refine hr.accepts (i := .planUnload h) rfl ?_ exec_planUnload
  rcases hs with hs | hs | hs <;> rw [hs, hu] <;> rfl

/-- A key of the stream table under which a stream of the context stands. -/
def State.boundStream (s : State) (c k : Nat) : Prop := ∃ e ∈ s.streamsOf c, e.1 = k

theorem mem_aset_or {α : Type} {l : List (Nat × α)} {i : Nat} {x : α} {e : Nat × α} (h : e ∈ l) :
    e ∈ aset l i x ∨ (e.1 = i ∧ alook l i = some e.2) := by
  induction l with
  | nil => cases h
  | cons a l ih =>
    obtain ⟨k, v⟩ := a
    unfold aset
    split
    · exact .inl (List.mem_cons_of_mem _ h)
    · split
      · next he =>
        rcases List.mem_cons.mp h with rfl | h
        · exact .inr ⟨he.symm, by simp [alook, he]⟩
        · exact .inl (List.mem_cons_of_mem _ h)
      · next he =>
        rcases List.mem_cons.mp h with rfl | h
        · exact .inl (List.mem_cons_self)
        · rcases ih h with h | ⟨h1, h2⟩
          · exact .inl (List.mem_cons_of_mem _ h)
          · refine .inr ⟨h1, ?_⟩
            rw [alook, if_neg (fun hk => he hk.symm)]
            exact h2

theorem mem_aset_self {α : Type} (l : List (Nat × α)) (i : Nat) (x : α) : (i, x) ∈ aset l i x := by
  induction l with
  | nil => exact List.mem_singleton_self _
  | cons a l ih =>
    unfold aset
    split
    · exact List.mem_cons_self
    · split
      · exact List.mem_cons_self
      · exact List.mem_cons_of_mem _ ih

theorem State.boundStream_modStream {s : State} {c k : Nat} (h : s.boundStream c k) (id : Nat) {f : StreamEntry → StreamEntry}
    (hf : ∀ e, (f e).ctx = e.ctx ∧ ((f e).state ≠ .free)) : (s.modStream id f).boundStream c k := by
  obtain ⟨e, he, rfl⟩ := h
  obtain ⟨hm, hp⟩ := List.mem_filter.mp he
  have hmem : ∀ y, y ∈ aset s.streams.table id (f (s.stream id)) → y.2.ctx = c → y.2.state ≠ .free → y.1 = e.1 →
      (s.modStream id f).boundStream c e.1 := by
    intro y hy hc hn hk
    refine ⟨y, List.mem_filter.mpr ⟨hy, ?_⟩, hk⟩
    simp [hc, hn]
  simp only [Bool.and_eq_true, beq_iff_eq, decide_eq_true_eq] at hp
  rcases mem_aset_or (i := id) (x := f (s.stream id)) hm with h | ⟨h1, h2⟩
  · exact hmem e h hp.1 hp.2 rfl
  · have hs : s.stream id = e.2 := (aget_eq _ _ _).trans (by rw [h2]; rfl)
    refine hmem (id, f (s.stream id)) (mem_aset_self _ _ _) ?_ (hf _).2 h1.symm
    rw [(hf _).1, hs]
    exact hp.1

theorem State.boundStream_of_table {s t : State} {c k : Nat} (h : s.boundStream c k) (ht : t.streams.table = s.streams.table) :
    t.boundStream c k := by
  unfold State.boundStream State.streamsOf at h ⊢
  rw [ht]
  exact h

theorem State.table_finish (s : State) (p : Cmd → Bool) (st : Status) (res : Cmd → List Byte) :
    (s.finish p st res).streams = s.streams := by
  rw [(s.finish_eq p st res).2]

theorem State.table_release (s : State) (id : Nat) : (s.release id).streams.table = s.streams.table := by
  unfold State.release State.modSlot
  dsimp only
  split <;> rfl

theorem State.boundStream_endSteps {s : State} {c k : Nat} (h : s.boundStream c k) (st : Status) : (s.endSteps c st).boundStream c k := by
  have key : ∀ (l : List Nat) (u : State), u.boundStream c k → (l.foldl (fun u id => u.endStep id st 5 .idle) u).boundStream c k := by
    intro l
    induction l with
    | nil => exact fun _ h => h
    | cons id l ih =>
      intro u h
      refine ih _ (State.boundStream_modStream (State.boundStream_of_table h ?_) id (fun e => ⟨rfl, fun h => by cases h⟩))
      rw [State.table_release, State.table_finish, State.table_finish]
  exact key _ _ h

/-- Streams set free one after another: each of them is free. -/
theorem State.free_foldl (l : List (Nat × StreamEntry)) (s : State) {k : Nat} (hk : ∃ e ∈ l, e.1 = k) :
    ((l.foldl (fun u p =>
      let v := u.setStream p.1 { StreamEntry.free with gen := p.2.gen }
      { v with streams := { v.streams with cache := adel v.streams.cache p.1 } }) s).stream k).state = .free := by
  have keep : ∀ (l : List (Nat × StreamEntry)) (u : State), (u.stream k).state = .free → ((l.foldl (fun u p =>
      let v := u.setStream p.1 { StreamEntry.free with gen := p.2.gen }
      { v with streams := { v.streams with cache := adel v.streams.cache p.1 } }) u).stream k).state = .free := by
    intro l
    induction l with
    | nil => exact fun _ h => h
    | cons e l ih =>
      intro u h
      refine ih _ ?_
      by_cases hk : k = e.1
      · subst hk
        exact congrArg StreamEntry.state (aget_aset_self _ _ _ _)
      · exact (congrArg StreamEntry.state (aget_aset_ne _ _ _ _ _ hk)).trans h
  induction l generalizing s with
  | nil => obtain ⟨e, he, -⟩ := hk; cases he
  | cons e l ih =>
    by_cases hl : ∃ e ∈ l, e.1 = k
    · exact ih _ hl
    · obtain ⟨y, hy, hyk⟩ := hk
      rcases List.mem_cons.mp hy with rfl | hy
      · refine keep l _ ?_
        subst hyk
        exact congrArg StreamEntry.state (aget_aset_self _ _ _ _)
      · exact absurd ⟨y, hy, hyk⟩ hl

/-- Sites rewritten one after another by a function that leaves a property. -/
theorem State.foldl_modSite_makes (l : List Nat) (g : Site → Site) {P : Site → Prop} (hP : ∀ a, P (g a)) (s : State) {i : Nat}
    (hi : i ∈ l) : P ((l.foldl (fun u i => u.modSite i g) s).site i) := by
  have keep : ∀ (l : List Nat) (u : State), P (u.site i) → P ((l.foldl (fun u i => u.modSite i g) u).site i) := by
    intro l
    induction l with
    | nil => exact fun _ h => h
    | cons k l ih =>
      intro u h
      refine ih _ ?_
      by_cases hk : i = k
      · subst hk
        rw [show (u.modSite i g).site i = g (u.site i) from State.site_setSite_self _ _ _]
        exact hP _
      · rw [show (u.modSite k g).site i = u.site i from State.site_setSite_ne _ _ _ _ hk]
        exact h
  induction l generalizing s with
  | nil => cases hi
  | cons k l ih =>
    by_cases hl : i ∈ l
    · exact ih _ hl
    · obtain rfl : i = k := (List.mem_cons.mp hi).resolve_right hl
      refine keep l _ ?_
      rw [show (s.modSite i g).site i = g (s.site i) from State.site_setSite_self _ _ _]
      exact hP _

theorem State.foldl_modSite_keeps (l : List Nat) (g : Site → Site) {P : Site → Prop} (hP : ∀ a, P a → P (g a)) (s : State) (i : Nat)
    (h : P (s.site i)) : P ((l.foldl (fun u i => u.modSite i g) s).site i) := by
  induction l generalizing s with
  | nil => exact h
  | cons k l ih =>
    refine ih _ ?_
    by_cases hk : i = k
    · subst hk
      rw [show (s.modSite i g).site i = g (s.site i) from State.site_setSite_self _ _ _]
      exact hP _ h
    · rw [show (s.modSite k g).site i = s.site i from State.site_setSite_ne _ _ _ _ hk]
      exact h

/-- Whose a context is, its generation, and what its sites follow from. -/
def Ctx.lease (x : Ctx) : Nat × Nat × Option Plan × List Nat := (x.owner, x.gen, x.plan, x.quads)

/-- Every context keeps its owner, its generation, its plan and its quadrants, and no quadrant is remapped. -/
def State.Leased (s t : State) : Prop :=
  (∀ k, (t.ctx k).lease = (s.ctx k).lease) ∧ ∀ q, (t.quad q).remap = (s.quad q).remap

theorem State.Leased.of_eq {s t : State} (hc : t.ctxs = s.ctxs) (hq : t.quads = s.quads) : s.Leased t :=
  ⟨fun k => by unfold State.ctx; rw [hc], fun q => by unfold State.quad; rw [hq]⟩

theorem State.Leased.refl (s : State) : s.Leased s := .of_eq rfl rfl

theorem State.Leased.trans {s t u : State} (h1 : s.Leased t) (h2 : t.Leased u) : s.Leased u :=
  ⟨fun k => (h2.1 k).trans (h1.1 k), fun q => (h2.2 q).trans (h1.2 q)⟩

theorem State.Leased.of_set {s t : State} {c : Nat} (hc : ∃ y, t.ctxs = aset s.ctxs c y ∧ y.lease = (s.ctx c).lease)
    (hq : t.quads = s.quads) : s.Leased t :=
  ⟨State.proj_of_set Ctx.lease hc, fun q => by unfold State.quad; rw [hq]⟩

theorem State.Leased.of_map {s t : State} {f : Quad → Quad} (hc : t.ctxs = s.ctxs) (hq : t.quads = s.quads.map (fun e => (e.1, f e.2)))
    (hf : ∀ x, (f x).remap = x.remap) : s.Leased t :=
  ⟨fun k => by unfold State.ctx; rw [hc], State.quad_map Quad.remap hq hf⟩

/-- The sites of a context follow from its lease. -/
theorem State.Leased.ctxSites {s t : State} (h : s.Leased t) (c : Nat) : t.ctxSites c = s.ctxSites c := by
  have hp : (t.ctx c).plan = (s.ctx c).plan := congrArg (·.2.2.1) (h.1 c)
  have hl : (t.ctx c).quads = (s.ctx c).quads := congrArg (·.2.2.2) (h.1 c)
  have hs (q n : Nat) : t.siteOf q n = s.siteOf q n := by
    unfold State.siteOf
    rw [h.2 q]
  have ht : t.siteOfTile (t.ctx c) = s.siteOfTile (s.ctx c) := by
    funext g
    unfold State.siteOfTile
    rw [hl]
    simp only [hs]
  unfold State.ctxSites
  rw [hp, ht]

theorem State.endStep_lease (s : State) (id : Nat) (st : Status) (reason : Nat) (fin : StreamState) :
    s.Leased (s.endStep id st reason fin) ∧ (s.endStep id st reason fin).sites = s.sites ∧
      ∀ y ∈ s.cmds, y.opc = 0x07 → y ∈ (s.endStep id st reason fin).cmds := by
  unfold State.endStep
  extract_lets e res s1 s2
  obtain ⟨hc1, h1⟩ := s.finish_eq (fun x => x.opc == 0x21 && x.arg == id && x.ctx == e.ctx) st (fun _ => res)
  obtain ⟨hc2, h2⟩ := s1.finish_eq (fun x => x.opc == 0x22 && x.arg == id && x.ctx == e.ctx) .ok (fun _ => [])
  have hcmds : ∀ y ∈ s.cmds, y.opc = 0x07 → y ∈ s2.cmds := by
    intro y hy ho
    rw [show s2.cmds = _ from hc2, show s1.cmds = _ from hc1]
    simp [hy, ho]
  have h1' : s1 = { s with fns := s1.fns, cmds := s1.cmds } := h1
  have h2' : s2 = { s1 with fns := s2.fns, cmds := s2.cmds } := h2
  clear_value s2
  clear_value s1
  have hs2 : s2 = { s with fns := s2.fns, cmds := s2.cmds } := h2'.trans (by rw [h1'])
  generalize s2.fns = fs at hs2
  generalize s2.cmds = cs at hs2 hcmds
  subst hs2
  unfold State.release State.modSlot
  dsimp only
  split
  · exact ⟨.of_set ⟨_, rfl, by rfl⟩ rfl, rfl, hcmds⟩
  · exact ⟨.of_set ⟨_, rfl, by rfl⟩ rfl, rfl, hcmds⟩

theorem State.endSteps_lease (s : State) (c : Nat) (st : Status) :
    s.Leased (s.endSteps c st) ∧ (s.endSteps c st).sites = s.sites ∧ ∀ y ∈ s.cmds, y.opc = 0x07 → y ∈ (s.endSteps c st).cmds := by
  have key : ∀ (l : List Nat) (u : State), u.Leased (l.foldl (fun u id => u.endStep id st 5 .idle) u) ∧
      (l.foldl (fun u id => u.endStep id st 5 .idle) u).sites = u.sites ∧
      ∀ y ∈ u.cmds, y.opc = 0x07 → y ∈ (l.foldl (fun u id => u.endStep id st 5 .idle) u).cmds := by
    intro l
    induction l with
    | nil => exact fun u => ⟨.refl u, rfl, fun _ h _ => h⟩
    | cons id l ih =>
      intro u
      obtain ⟨h1, h2, h3⟩ := u.endStep_lease id st 5 .idle
      obtain ⟨i1, i2, i3⟩ := ih (u.endStep id st 5 .idle)
      exact ⟨h1.trans i1, i2.trans h2, fun y hy ho => i3 y (h3 y hy ho) ho⟩
  exact key _ _

/-- What a stopped site keeps, and what it does not. -/
def Site.stopped (a : Site) : Site :=
  { a with
    seq := { Sequencer.cleared with epoch := a.seq.epoch }, faults := [], judged := []
    ex := { a.ex with dmaq := [], xfers := [], tq := [], skids := [], pad := [], writes := [], answers := [], injUnits := 0
                      h := a.ex.h.map (fun e => (e.1, { Hopper.empty with pondBase := e.2.pondBase, pondUnits := e.2.pondUnits })) } }

theorem State.stopCtx_lease (s : State) (c : Nat) :
    s.Leased (s.stopCtx c) ∧ (s.stopCtx c).streams = s.streams ∧ (s.stopCtx c).cmds = s.cmds ∧
      (s.stopCtx c).sites = ((s.ctxSites c).foldl (fun u i => u.modSite i Site.stopped) s).sites := by
  have hfold := State.foldl_sites (fun u i => u.modSite i Site.stopped) (fun _ _ => by rfl) (s.ctxSites c) s
  unfold State.stopCtx
  extract_lets cleared empty m u
  have hm : m = { s with sites := m.sites } := hfold
  have hsites : m.sites = ((s.ctxSites c).foldl (fun u i => u.modSite i Site.stopped) s).sites := rfl
  clear_value m
  generalize m.sites = z at hm hsites
  subst hm
  refine ⟨State.Leased.trans (t := u) (.of_set ⟨_, rfl, by rfl⟩ rfl)
    (.of_map (f := fun x => { x with replay := x.replay.map (fun r => r.leave c) }) rfl rfl fun _ => rfl), rfl, rfl, hsites⟩

/-- What an unload leaves: a context that is EMPTY and keeps owner and generation, vacated sites and free streams. -/
theorem State.unload_leaves (s : State) (c : Nat) :
    (∃ x, (s.unload c).ctx c = Ctx.emptied x ∧ x.lease = (s.ctx c).lease) ∧ (∀ i ∈ s.ctxSites c, ((s.unload c).site i).ctx = none) ∧
      ∀ e ∈ s.streamsOf c, ((s.unload c).stream e.1).state = .free := by
  unfold State.unload
  extract_lets a b d free e
  obtain ⟨l1, -, -⟩ := s.endSteps_lease c .resetting
  obtain ⟨-, fc, fq, -⟩ := (s.endSteps c .resetting).finish_frame (endsWith c 0x02) .resetting (fun _ => [])
  have l2 : s.Leased a := l1.trans (.of_eq fc fq)
  have b1 : ∀ k, s.boundStream c k → a.boundStream c k := fun k hk =>
    State.boundStream_of_table (State.boundStream_endSteps hk .resetting) (congrArg Streams.table (State.table_finish _ _ _ _))
  clear_value a
  obtain ⟨l3, hstr, -, -⟩ := a.stopCtx_lease c
  have l4 : s.Leased b := (l2.trans l3).trans (.of_map (f := fun x => { x with sluices := x.sluices.filter (fun z => z.2.ctx != c) })
    rfl rfl fun _ => rfl)
  have b2 : ∀ k, s.boundStream c k → b.boundStream c k := fun k hk =>
    State.boundStream_of_table (b1 k hk) (congrArg Streams.table hstr)
  clear_value b
  have hd : d = { b with sites := d.sites } := State.foldl_sites (fun u i => u.modSite i Site.vacate) (fun _ _ => by rfl) (b.ctxSites c) b
  have hvac : ∀ i ∈ s.ctxSites c, (d.site i).ctx = none := fun i hi =>
    State.foldl_modSite_makes (b.ctxSites c) Site.vacate (P := fun z => z.ctx = none) (fun _ => rfl) b (by rw [l4.ctxSites]; exact hi)
  clear_value d
  have l5 : s.Leased d := l4.trans (.of_eq (by rw [hd]) (by rw [hd]))
  have hstreams : d.streamsOf c = b.streamsOf c := by
    unfold State.streamsOf
    rw [hd]
  have hfree : ∀ y ∈ s.streamsOf c, (e.stream y.1).state = .free := by
    intro y hy
    refine State.free_foldl (d.streamsOf c) d ?_
    rw [hstreams]
    exact b2 y.1 ⟨y, hy, rfl⟩
  have hkeep : e.ctxs = d.ctxs ∧ e.sites = d.sites :=
    ⟨foldl_fixes State.ctxs _ (fun _ _ => by rfl) _ d, foldl_fixes State.sites _ (fun _ _ => by rfl) _ d⟩
  clear_value e
  refine ⟨⟨e.ctx c, State.ctx_modCtx_self (e.loseShadow _) c Ctx.emptied, ?_⟩, fun i hi => ?_, hfree⟩
  · rw [← l5.1 c]
    unfold State.ctx
    rw [hkeep.1]
  · have : e.site i = d.site i := by
      unfold State.site
      rw [hkeep.2]
    exact (congrArg Site.ctx this).trans (hvac i hi)

theorem planUnloadDone_empties {s : State} {c : Nat} (hu : (s.ctx c).unloading = true) :
    ∃ t, exec (.planUnloadDone c) s = .next t ∧ (t.ctx c).state = .empty ∧ (t.ctx c).plan = none ∧
      (t.ctx c).owner = (s.ctx c).owner ∧ (t.ctx c).gen = (s.ctx c).gen ∧ (∀ i ∈ s.ctxSites c, (t.site i).ctx = none) ∧
      (∀ e ∈ s.streamsOf c, (t.stream e.1).state = .free) ∧ ∀ y ∈ t.cmds, isCmd 0x02 c y = false := by
  have hx : execPlanUnloadDone c s = .next ((s.unload c).finish (isCmd 0x02 c) .ok (fun _ => [])) := congrArg Host.Outcome.next (if_pos hu)
  obtain ⟨⟨x, hc, hl⟩, hs, hf⟩ := s.unload_leaves c
  obtain ⟨h1, h2⟩ := (s.unload c).finish_eq (isCmd 0x02 c) .ok (fun _ => [])
  generalize s.unload c = u at hx hc hs hf h1 h2
  generalize u.finish (isCmd 0x02 c) .ok (fun _ => []) = t at hx h1 h2
  have hctx : t.ctx c = x.emptied := by
    rw [h2]
    exact hc
  refine ⟨t, exec_planUnloadDone.trans hx, by rw [hctx]; rfl, by rw [hctx]; rfl, ?_, ?_, ?_, ?_, fun y hy => ?_⟩
  · rw [hctx]
    exact congrArg (·.1) hl
  · rw [hctx]
    exact congrArg (·.2.1) hl
  · intro i hi
    rw [h2]
    exact hs i hi
  · intro e he
    rw [h2]
    exact hf e he
  · rw [h1] at hy
    exact not_mem_filter_isCmd hy

/-! ### Abort -/

/-- What an abort leaves of a context and its sites. -/
theorem State.abortCtx_leaves (s : State) (c : Nat) (fin : CtxState) :
    ((s.abortCtx c fin).ctx c).state = fin ∧ ((s.abortCtx c fin).ctx c).gen = ((s.ctx c).gen + 1) % 256 ∧
      ((s.abortCtx c fin).ctx c).aborting = true ∧ ((s.abortCtx c fin).ctx c).plan = (s.ctx c).plan ∧
      (∀ y ∈ s.cmds, y.opc = 0x07 → y ∈ (s.abortCtx c fin).cmds) ∧
      ∀ i ∈ s.ctxSites c, ((s.abortCtx c fin).site i).ex.dmaq = [] ∧ ((s.abortCtx c fin).site i).ex.xfers = [] ∧
        ((s.abortCtx c fin).site i).faults = [] ∧ ((s.abortCtx c fin).site i).seq.status = .off ∧
        ((s.abortCtx c fin).site i).scr = (s.site i).scr := by
  unfold State.abortCtx
  extract_lets x a b d
  obtain ⟨l1, hs1, hc1⟩ := s.endSteps_lease c .resetting
  obtain ⟨f0, -⟩ := (s.endSteps c .resetting).finish_eq (endsWith c 0x07) .resetting (fun y => if y.opc = 0x01 then loadResult Ctx.reset 0 else [])
  obtain ⟨-, fc, fq, fs⟩ := (s.endSteps c .resetting).finish_frame (endsWith c 0x07) .resetting
    (fun y => if y.opc = 0x01 then loadResult Ctx.reset 0 else [])
  have l2 : s.Leased a := l1.trans (.of_eq fc fq)
  have hsites : a.sites = s.sites := fs.trans hs1
  have hcmds : ∀ y ∈ s.cmds, y.opc = 0x07 → y ∈ a.cmds := by
    intro y hy ho
    rw [show a.cmds = _ from f0]
    exact List.mem_filter.mpr ⟨hc1 y hy ho, by simp [endsWith, ho]⟩
  clear_value a
  obtain ⟨l3, -, hcs, hss⟩ := a.stopCtx_lease c
  have hctx : b.ctx c = { (a.stopCtx c).ctx c with
      state := fin, gen := (((a.stopCtx c).ctx c).gen + 1) % 256, aborting := true, unloading := false, load := none } :=
    State.ctx_modCtx_self _ _ _
  have hlease := (l2.trans l3).1 c
  have hbs : b.sites = ((a.ctxSites c).foldl (fun u i => u.modSite i Site.stopped) a).sites := hss
  have hbc : b.cmds = a.cmds := hcs
  clear_value b
  have hd : d.ctxs = b.ctxs ∧ d.sites = b.sites ∧ d.cmds = b.cmds := ⟨rfl, rfl, rfl⟩
  clear_value d
  rw [State.foldl_quads _ (fun _ _ => by rfl)]
  have hdc : d.ctx c = b.ctx c := by
    unfold State.ctx
    rw [hd.1]
  have hc : ∀ z, ({ d with quads := z } : State).ctx c = b.ctx c := fun z => hdc
  have hsite : ∀ z i, ({ d with quads := z } : State).site i = ((a.ctxSites c).foldl (fun u i => u.modSite i Site.stopped) a).site i := by
    intro z i
    unfold State.site
    rw [← hbs, ← hd.2.1]
  have has : ∀ i, a.site i = s.site i := by
    intro i
    unfold State.site
    rw [hsites]
  refine ⟨?_, ?_, ?_, ?_, fun y hy ho => ?_, fun i hi => ?_⟩
  · rw [hc, hctx]
  · rw [hc, hctx]
    exact congrArg (fun g => (g.2.1 + 1) % 256) hlease
  · rw [hc, hctx]
  · rw [hc, hctx]
    exact congrArg (·.2.2.1) hlease
  · exact (show d.cmds = a.cmds from hd.2.2.trans hbc) ▸ hcmds y hy ho
  · have hm : i ∈ a.ctxSites c := by
      rw [l2.ctxSites]
      exact hi
    have hmake := State.foldl_modSite_makes (a.ctxSites c) Site.stopped
      (P := fun z => z.ex.dmaq = [] ∧ z.ex.xfers = [] ∧ z.faults = [] ∧ z.seq.status = .off) (fun _ => ⟨rfl, rfl, rfl, rfl⟩) a hm
    have hkeep := State.foldl_modSite_keeps (a.ctxSites c) Site.stopped (P := fun z => z.scr = (s.site i).scr) (fun _ h => h) a i
      (by rw [has])
    simp only [hsite]
    exact ⟨hmake.1, hmake.2.1, hmake.2.2.1, hmake.2.2.2, hkeep⟩

theorem ctxAbortAccepted {s : State} {h : CmdHead} (hr : s.reads h 0x07 .management true) :
    ((s.ctx h.ctx).state = .running ∨ (s.ctx h.ctx).state = .paused ∨ (s.ctx h.ctx).state = .draining ∨ (s.ctx h.ctx).state = .faulted →
      ∃ t, exec (.ctxAbort h) s = .next t ∧ (t.ctx h.ctx).state = .loaded ∧ (t.ctx h.ctx).gen = ((s.ctx h.ctx).gen + 1) % 256 ∧
        (t.ctx h.ctx).aborting = true ∧ (t.ctx h.ctx).plan = (s.ctx h.ctx).plan ∧ outstanding h 0x07 0 4096 ∈ t.cmds ∧
        ∀ i ∈ s.ctxSites h.ctx, (t.site i).ex.dmaq = [] ∧ (t.site i).ex.xfers = [] ∧ (t.site i).faults = [] ∧
          (t.site i).seq.status = .off ∧ (t.site i).scr = (s.site i).scr) ∧
    ((s.ctx h.ctx).state = .loading → ∃ t, exec (.ctxAbort h) s = .next t ∧ (t.ctx h.ctx).state = .empty ∧ (t.ctx h.ctx).plan = none ∧
      (t.ctx h.ctx).gen = ((s.ctx h.ctx).gen + 1) % 256 ∧ (t.ctx h.ctx).aborting = true ∧ t.sites = s.sites) := by
  have hx (hl : [CtxState.loading, .running, .paused, .draining, .faulted].contains (s.ctx h.ctx).state = true) :=
    exec_ctxAbort.trans (congrArg Host.Outcome.next (hr.runs (bad := false) rfl hl [] (fun t =>
      let u := t.accept h 0x07 0 4096
      if (s.ctx h.ctx).state = .loading then
        ((u.finish (endsWith h.ctx 0x07) .resetting (fun _ => [])).dropLoad h.ctx).modCtx h.ctx (fun y =>
          { y with gen := (y.gen + 1) % 256, aborting := true })
      else u.abortCtx h.ctx .loaded)))
  have hmem : outstanding h 0x07 0 4096 ∈ ((s.afterRecord h).accept h 0x07 0 4096).cmds := List.mem_append_right _ (List.mem_singleton_self _)
  refine ⟨fun hs => ?_, fun hs => ?_⟩
  · have hx := hx (by rcases hs with hs | hs | hs | hs <;> rw [hs] <;> rfl)
    dsimp only at hx
    rw [if_neg (by rcases hs with hs | hs | hs | hs <;> rw [hs] <;> decide)] at hx
    obtain ⟨h1, h2, h3, h4, h5, h6⟩ := ((s.afterRecord h).accept h 0x07 0 4096).abortCtx_leaves h.ctx .loaded
    exact ⟨_, hx, h1, h2, h3, h4, h5 _ hmem rfl, h6⟩
  · have hx := hx (by rw [hs]; rfl)
    dsimp only at hx
    rw [if_pos hs] at hx
    obtain ⟨-, f⟩ := ((s.afterRecord h).accept h 0x07 0 4096).finish_eq (endsWith h.ctx 0x07) .resetting (fun _ => [])
    generalize ((s.afterRecord h).accept h 0x07 0 4096).finish (endsWith h.ctx 0x07) .resetting (fun _ => []) = u at hx f
    have hctx : u.ctx h.ctx = s.ctx h.ctx := by
      rw [f]
      rfl
    have hsites : u.sites = s.sites := by
      rw [f]
      rfl
    clear f
    have hfin : ((u.dropLoad h.ctx).modCtx h.ctx (fun y => { y with gen := (y.gen + 1) % 256, aborting := true })).ctx h.ctx =
        { (s.ctx h.ctx).emptied with gen := ((s.ctx h.ctx).gen + 1) % 256, aborting := true } := by
      rw [State.ctx_modCtx_self]
      unfold State.dropLoad
      rw [State.ctx_modCtx_self, ← hctx]
      rfl
    refine ⟨_, hx, ?_, ?_, ?_, ?_, ?_⟩
    · rw [hfin]
      rfl
    · rw [hfin]
      rfl
    · rw [hfin]
    · rw [hfin]
    · exact hsites

theorem ctxAbortDone_places {s : State} {c : Nat} (ha : (s.ctx c).aborting = true) (hl : (s.ctx c).state ≠ .loading) :
    ∃ t, exec (.ctxAbortDone c) s = .next t ∧ (t.ctx c).aborting = false ∧ (∀ y ∈ t.cmds, isCmd 0x07 c y = false) ∧
      ∀ (p : Plan) (d : PlanTile) i, (s.ctx c).plan = some p →
        p.body.tiles.filter (fun z => s.siteOfTile (s.ctx c) z.tile == some i) = [d] → t.site i = d.load c (s.site i) := by
  have hx : execCtxAbortDone c s =
      .next (((s.placePlan c).modCtx c (fun y => { y with aborting := false })).finish (isCmd 0x07 c) .ok (fun _ => [])) := by
    refine congrArg Host.Outcome.next ((if_pos ha).trans ?_)
    dsimp only
    rw [if_neg hl]
  obtain ⟨h1, h2⟩ := ((s.placePlan c).modCtx c (fun y => { y with aborting := false })).finish_eq (isCmd 0x07 c) .ok (fun _ => [])
  generalize ((s.placePlan c).modCtx c (fun y => { y with aborting := false })).finish (isCmd 0x07 c) .ok (fun _ => []) = t at hx h1 h2
  refine ⟨t, exec_ctxAbortDone.trans hx, ?_, fun y hy => ?_, fun p d i hp hd => ?_⟩
  · rw [h2]
    exact congrArg Ctx.aborting (aget_aset_self _ _ _ _)
  · rw [h1] at hy
    exact not_mem_filter_isCmd hy
  · refine Eq.trans ?_ (State.site_placePlan hp hd)
    rw [h2]
    rfl

end Sys2Proof.Machine

open Sys2Proof Sys2Proof.Machine

/-- Settles O40: a load binds the context and nothing else, its end places each tile of the plan on its site; an unload frees what
the context held; an abort stops its sites, keeps their scratchpads, and its end places the image again. -/
theorem plans : Obligations.Plans := by
  refine ⟨fun s h image home quads pipeline prevPos body => ⟨fun hr he hq hp hv hf => ?_, fun c w hw hl => ?_⟩, fun s h c => ?_⟩
  · exact ⟨planLoad_completes hr he hq hp hv hf, fun l hi hl => planLoad_binds hr he hq hp hv hf hi hl,
      fun n st hi hl => planLoad_fails hr he hq hp hv hf hi hl⟩
  · exact ⟨planLoadDone_waits hw, fun h0 hq => planLoadDone_loads hw hl hq h0, fun h0 hq => planLoadDone_fails hw hl hq h0⟩
  · exact ⟨planUnloadAccepted, planUnloadDone_empties, ctxAbortAccepted, ctxAbortDone_places⟩

end

section
/-! ## The starts of the work and dressing windows -/
namespace Sys2Proof.Machine

/-! ### One context among those of the device -/

/-- A fold over elements of which the guard holds of one alone does that one's step. -/
theorem foldl_only {β : Type} {p : β → Nat → Bool} {f : β → Nat → β} {c : Nat} {l : List Nat} (hl : l.Nodup) (hc : c ∈ l) {b : β}
    (hp : p b c = true) (hb : ∀ k, k ≠ c → p b k = false) (hf : ∀ k, k ≠ c → p (f b c) k = false) :
    l.foldl (fun v k => if p v k then f v k else v) b = f b c := by
  have hskip : ∀ (m : List Nat) (v : β), c ∉ m → (∀ k, k ≠ c → p v k = false) →
      m.foldl (fun v k => if p v k then f v k else v) v = v := by
    intro m
    induction m with
    | nil => exact fun _ _ _ => rfl
    | cons k m ih =>
      intro v hm hv
      obtain ⟨hk, hm⟩ := not_or.mp (mt List.mem_cons.mpr hm)
      rw [List.foldl_cons, hv k (Ne.symm hk)]
      exact ih v hm hv
  induction l with
  | nil => exact absurd hc List.not_mem_nil
  | cons k l ih =>
    obtain ⟨hk, hl⟩ := List.nodup_cons.mp hl
    rw [List.foldl_cons]
    rcases List.mem_cons.mp hc with rfl | hc
    · rw [hp]
      exact hskip l _ hk hf
    · rw [hb k (fun h => hk (h ▸ hc))]
      exact ih hl hc

theorem mem_allCtxs {c : Nat} (hc : c < 16) : c ∈ allCtxs := List.mem_range.mpr hc

/-- A fold over the contexts that satisfy a condition, of which there is one. -/
theorem foldl_filter_only {β : Type} {p : Nat → Bool} {f : β → Nat → β} {c : Nat} (hc : c < 16) (hp : p c = true)
    (hn : ∀ k, k ≠ c → p k = false) (b : β) : (allCtxs.filter p).foldl f b = f b c := by
  rw [List.foldl_filter]
  exact foldl_only (p := fun _ => p) List.nodup_range (mem_allCtxs hc) hp hn hn

/-! ### The modes of the sites -/

theorem State.site_drivenModes (s : State) (j : Nat) :
    s.drivenModes.site j = { s.site j with service := (s.drivenModes.site j).service } := by
  unfold State.site State.drivenModes
  dsimp only
  rw [alook_map_snd]
  cases alook s.sites j <;> rfl

theorem State.ctx_drivenModes (s : State) (c : Nat) : s.drivenModes.ctx c = s.ctx c := rfl

theorem State.site_of_sites {s t : State} (h : t.sites = s.sites) (j : Nat) : t.site j = s.site j := by
  unfold State.site
  rw [h]

/-- A site that a change of the sites leaves differs after the modes are driven in its mode alone. -/
theorem State.site_drivenModes_of {s t : State} {j : Nat} (h : t.site j = s.site j) :
    t.drivenModes.site j = { s.site j with service := (t.drivenModes.site j).service } := by
  rw [← h]
  exact t.site_drivenModes j

/-! ### What lets a context run -/

/-- What a quadrant says of the tiles and the brake of a context bound to it. -/
def Quad.bed (x : Quad) : List (Nat × RemapEntry) × RecState × Bool := (x.remap, x.recState, x.braked)

/-- A context but for its run of the turn. -/
def Ctx.unrun (x : Ctx) : Ctx := { x with ran := false }

/-- The states that agree on what decides which contexts run and where their tiles lie. -/
def State.Launch (s t : State) : Prop :=
  (t.turn.stepTurn, t.turn.locked, t.check) = (s.turn.stepTurn, s.turn.locked, s.check) ∧
    (∀ q, (t.quad q).bed = (s.quad q).bed) ∧ ∀ k, (t.ctx k).unrun = (s.ctx k).unrun

theorem State.Launch.runs {s t : State} (h : s.Launch t) (c : Nat) : t.runs c = s.runs c := by
  obtain ⟨hturn, hbed, hctx⟩ := h
  have hx : t.ctx c = { s.ctx c with ran := (t.ctx c).ran } :=
    (show t.ctx c = { (t.ctx c).unrun with ran := (t.ctx c).ran } from rfl).trans (by rw [hctx c]; rfl)
  have hrec : ∀ q, (t.quad q).recState = (s.quad q).recState := fun q => congrArg (fun z => z.2.1) (hbed q)
  have hbraked : ∀ q, (t.quad q).braked = (s.quad q).braked := fun q => congrArg (fun z => z.2.2) (hbed q)
  obtain ⟨hstep, hturn⟩ := Prod.mk.inj hturn
  obtain ⟨hlocked, hcheck⟩ := Prod.mk.inj hturn
  unfold State.runs State.ctxBraked State.ctxResetting
  rw [hx, hstep, hlocked, hcheck]
  simp only [hrec, hbraked]
  rfl

theorem State.Launch.siteOfTile {s t : State} (h : s.Launch t) (x : Ctx) (g : Nat) : t.siteOfTile x g = s.siteOfTile x g := by
  have hremap : ∀ q, (t.quad q).remap = (s.quad q).remap := fun q => congrArg (fun z => z.1) (h.2.1 q)
  unfold State.siteOfTile State.siteOf
  simp only [hremap]

/-! ### The intake's watch and the late contexts -/

theorem State.engineIssue_leaves (s : State) (q e c : Nat) : s.engineIssue q e c = { s with quads := (s.engineIssue q e c).quads } ∧
    ∀ r, ((s.engineIssue q e c).quad r).bed = (s.quad r).bed :=
  ⟨rfl, fun r => (congrArg Quad.bed (s.quad_modQuad q r _)).trans (by split; (next h => rw [h]; rfl); (next => rfl))⟩

theorem State.intakeWatch_leaves (s : State) : s.intakeWatch = { s with quads := s.intakeWatch.quads } ∧
    ∀ q, (s.intakeWatch.quad q).bed = (s.quad q).bed := by
  have hfold : (allCtxs.foldl (fun u c => if (u.ctx c).filling.isSome then u.engineIssue 0 4 c else u) s) =
        { s with quads := (allCtxs.foldl (fun u c => if (u.ctx c).filling.isSome then u.engineIssue 0 4 c else u) s).quads } ∧
      ∀ q, ((allCtxs.foldl (fun u c => if (u.ctx c).filling.isSome then u.engineIssue 0 4 c else u) s).quad q).bed = (s.quad q).bed :=
    ⟨State.foldl_quads _ (fun u x => by split <;> rfl) _ _,
      fun q => foldl_fixes (fun u : State => (u.quad q).bed) _ (fun u c => by split; exact (u.engineIssue_leaves 0 4 c).2 q; rfl) _ _⟩
  unfold State.intakeWatch
  dsimp only
  generalize allCtxs.foldl (fun u c => if (u.ctx c).filling.isSome then u.engineIssue 0 4 c else u) s = u at hfold ⊢
  obtain ⟨hu, hbed⟩ := hfold
  split
  · refine ⟨?_, fun q => (congrArg Quad.bed (u.quad_modQuad 0 q _)).trans ?_⟩
    · unfold State.modQuad
      rw [hu]
    · split
      · next h => rw [← hbed q, h]; rfl
      · exact hbed q
  · exact ⟨hu, hbed⟩

theorem State.foldl_sites_ctxs {α : Type} (f : State → α → State)
    (h : ∀ (u : State) x, f u x = { u with sites := (f u x).sites, ctxs := (f u x).ctxs }) (l : List α) (s : State) :
    l.foldl f s = { s with sites := (l.foldl f s).sites, ctxs := (l.foldl f s).ctxs } := by
  induction l generalizing s with
  | nil => rfl
  | cons x l ih => rw [List.foldl_cons, ih, h]

theorem State.lapseLate_eq (s : State) : s.lapseLate = { s with ctxs := s.lapseLate.ctxs } := by
  have h : s.lapseLate = { s with sites := s.lapseLate.sites, ctxs := s.lapseLate.ctxs } :=
    State.foldl_sites_ctxs _ (fun u c => by split <;> rfl) _ s
  rwa [s.sites_lapseLate] at h

theorem State.ran_lapseLate (s : State) (k : Nat) : (s.lapseLate.ctx k).ran = (s.ctx k).ran := by
  refine foldl_fixes (fun u : State => (u.ctx k).ran) _ (fun u c => ?_) _ _
  split
  · exact State.proj_of_set Ctx.ran ⟨_, rfl, by rfl⟩ k
  · rfl

/-! ### A context's sites started -/

theorem State.startCtx_eq (s : State) (c : Nat) :
    s.startCtx c = { s with sites := (s.startCtx c).sites, ctxs := (s.startCtx c).ctxs } := by
  unfold State.startCtx
  dsimp only
  split
  · rfl
  · next p hp =>
    have h := State.foldl_sites (fun (u : State) (d : PlanTile) => match u.siteOfTile (s.ctx c) d.tile with
      | some i => if (u.site i).role = .live then u.modSite i (PlanTile_start d (s.ctx c).gearing (u.epochs * 4096 + i)) else u
      | none => u) (fun u d => by split; (split <;> rfl); rfl) p.body.tiles s
    generalize p.body.tiles.foldl _ s = t at h ⊢
    unfold State.modCtx State.setCtx
    rw [h]

theorem State.startCtx_launch (s : State) (c : Nat) : s.Launch (s.startCtx c) := by
  refine ⟨by rw [s.startCtx_eq c], fun q => by rw [s.startCtx_eq c]; rfl, fun k => ?_⟩
  unfold State.startCtx
  dsimp only
  split
  · rfl
  · next p hp =>
    have h := State.foldl_sites (fun (u : State) (d : PlanTile) => match u.siteOfTile (s.ctx c) d.tile with
      | some i => if (u.site i).role = .live then u.modSite i (PlanTile_start d (s.ctx c).gearing (u.epochs * 4096 + i)) else u
      | none => u) (fun u d => by split; (split <;> rfl); rfl) p.body.tiles s
    generalize p.body.tiles.foldl _ s = t at h ⊢
    have ht : (t.modCtx c (fun y => { y with ran := true })).ctxs = aset s.ctxs c { s.ctx c with ran := true } := by
      rw [h]; rfl
    exact State.proj_of_set Ctx.unrun ⟨_, ht, rfl⟩ k

theorem State.startCtx_one {s : State} {c i : Nat} {p : Plan} {d : PlanTile} (hplan : (s.ctx c).plan = some p) (htiles : p.body.tiles = [d])
    (hsite : s.siteOfTile (s.ctx c) d.tile = some i) (hrole : (s.site i).role = .live) :
    s.startCtx c = (s.modSite i (PlanTile_start d (s.ctx c).gearing (s.epochs * 4096 + i))).modCtx c (fun y => { y with ran := true }) := by
  unfold State.startCtx
  dsimp only
  rw [hplan]
  dsimp only
  rw [htiles, List.foldl_cons, List.foldl_nil]
  rw [hsite]
  dsimp only
  rw [if_pos hrole]

/-- The contexts that run, started one after another. -/
def State.launched (s : State) : State := allCtxs.foldl (fun v c => if v.runs c then v.startCtx c else v) s

theorem State.launched_eq (s : State) : s.launched = { s with sites := s.launched.sites, ctxs := s.launched.ctxs } := by
  exact State.foldl_sites_ctxs _ (fun u c => by split; exact u.startCtx_eq c; rfl) _ s

theorem State.launched_only {s : State} {c : Nat} (hc : c < 16) (hruns : s.runs c = true) (hk : ∀ k, k ≠ c → s.runs k = false) :
    s.launched = s.startCtx c :=
  foldl_only (p := State.runs) (f := State.startCtx) List.nodup_range (mem_allCtxs hc) hruns hk
    (fun k hkc => ((s.startCtx_launch c).runs k).trans (hk k hkc))

/-- The first cycle of the work window, before any site starts. -/
def State.inWork (u : State) : State :=
  { u with epochs := u.epochs + 1, turn := { u.turn with window := .work, cycle := u.turn.geom.start .work } }

/-- The first cycle of the work window of a state whose intake's watch has ended: but for its clock and its quadrants' engines
it is the state of the intake. -/
structure State.Entered (s t : State) : Prop where
  launch : s.Launch t
  turn : t.turn = { s.turn with window := .work, cycle := 2048 }
  epochs : t.epochs = s.epochs + 1
  sites : t.sites = s.sites
  ctxs : t.ctxs = s.ctxs

theorem State.inWork_entered {s u : State} {l : List (Nat × Quad)} (h : u = { s with quads := l })
    (hbed : ∀ q, (u.quad q).bed = (s.quad q).bed) : s.Entered u.inWork := by
  subst h
  exact ⟨⟨rfl, hbed, fun _ => rfl⟩, rfl, rfl, rfl, rfl⟩

theorem State.entered (s : State) : s.Entered s.intakeWatch.inWork :=
  State.inWork_entered s.intakeWatch_leaves.1 s.intakeWatch_leaves.2

theorem exec_workWindowStart_running {s : State} (hrun : s.turn.running = true) (hwin : s.turn.window = .intake) :
    exec .workWindowStart s = .next s.intakeWatch.inWork.launched.lapseLate.drivenModes :=
  exec_workWindowStart.trans (congrArg Host.Outcome.next (if_pos ⟨hrun, hwin⟩))

/-- A tile that its gearing's entry names, started on its site. -/
theorem PlanTile_start_named {d : PlanTile} {g epoch : Nat} {a : Site} {e : EntryPoint}
    (h : d.entries.find? (fun z => z.gearing == g) = some e) :
    let t := PlanTile_start d g epoch a
    t.seq.status = .running ∧ t.seq.pc = e.bundle ∧ t.seq.slot = e.slot ∧ t.seq.next = 0 ∧ t.seq.loops = [] ∧
      t.mat = MatrixUnit.cleared ∧ t.vec.flags = [] ∧ t.scr = a.scr ∧ t.ex = a.ex := by
  unfold PlanTile_start
  rw [h]
  exact ⟨rfl, rfl, rfl, rfl, rfl, rfl, rfl, rfl, rfl⟩

/-! ### A context's end of work -/

theorem State.endWork_eq (s : State) (c : Nat) : s.endWork c = { s with sites := (s.endWork c).sites } := by
  unfold State.endWork
  dsimp only
  have h1 := State.foldl_sites (fun (u : State) i => u.modSite i (fun a => if a.seq.status.overrun then a.overrun u.turn.geom else a.drain))
    (fun _ _ => rfl) (s.ctxSites c) s
  generalize (s.ctxSites c).foldl (fun (u : State) i =>
    u.modSite i (fun a => if a.seq.status.overrun then a.overrun u.turn.geom else a.drain)) s = t at h1 ⊢
  split
  · exact h1
  · rw [State.foldl_sites (fun (u : State) i => u.modSite i (fun a => a.dropDma u.turn.no)) (fun _ _ => rfl), h1]

/-- A context with one site, which still runs: the site overruns and its transfers are dropped. -/
theorem State.endWork_late {s : State} {c i : Nat} (hsites : s.ctxSites c = [i]) (hrun : (s.site i).seq.status = .running) :
    s.endWork c = (s.modSite i (fun a => a.overrun s.turn.geom)).modSite i (fun a => a.dropDma s.turn.no) := by
  have hover : (s.site i).seq.status.overrun = true := by rw [hrun]; rfl
  unfold State.endWork
  dsimp only
  rw [hsites]
  simp only [List.foldl_cons, List.foldl_nil, List.filter_cons, List.filter_nil, hover]
  unfold State.modSite
  simp only [hover]
  rfl

/-- The site that overruns, as its context's end of work leaves it. -/
theorem State.site_endWork_late {s : State} {c i : Nat} (hsites : s.ctxSites c = [i]) (hrun : (s.site i).seq.status = .running) :
    (s.endWork c).site i = ((s.site i).overrun s.turn.geom).dropDma s.turn.no := by
  rw [State.endWork_late hsites hrun]
  unfold State.modSite
  rw [State.site_setSite_self, State.site_setSite_self]

theorem State.site_endWork_late_ne {s : State} {c i j : Nat} (hsites : s.ctxSites c = [i]) (hrun : (s.site i).seq.status = .running)
    (hj : j ≠ i) : (s.endWork c).site j = s.site j := by
  rw [State.endWork_late hsites hrun]
  unfold State.modSite
  rw [State.site_setSite_ne _ _ _ _ hj, State.site_setSite_ne _ _ _ _ hj]

theorem Site.overrun_status {a : Site} {g : Geometry} (h : a.seq.status = .running) : (a.overrun g).seq.status = .stopped (g.work - 1) := by
  unfold Site.overrun Site.raise
  rw [h]

end Sys2Proof.Machine
open Sys2Proof Sys2Proof.Machine

/-- Settles O34: the contexts that run are started one after another, of which the statement has one; the site of the one
context that ran overruns. -/
theorem workAndDressingWindows : Obligations.WorkAndDressingWindows := by
  unfold Obligations.WorkAndDressingWindows
  intro s
  refine ⟨fun hrun hwin => ?_, fun hrun hwin => ?_, fun hwin => ?_, fun hwin => ?_⟩
  · have hin := s.entered
    refine ⟨_, exec_workWindowStart_running hrun hwin, ?_⟩
    generalize s.intakeWatch.inWork = w at hin
    have hdriven : ∀ {α : Type} (p : State → α), (∀ (u : State) a b, p { u with sites := a, ctxs := b } = p u) →
        p w.launched.lapseLate.drivenModes = p w := fun p hp => by
      unfold State.drivenModes
      rw [State.lapseLate_eq, State.launched_eq]
      exact hp w _ _
    have hturn := (hdriven State.turn (fun _ _ _ => rfl)).trans hin.turn
    refine ⟨congrArg Turn.window hturn, congrArg Turn.cycle hturn, (hdriven State.epochs (fun _ _ _ => rfl)).trans hin.epochs, ?_⟩
    · intro c i p d e hc hruns hothers hplan htiles hsite hrole hentry
      have hat := hin.launch
      have hctx : w.ctx c = s.ctx c := congrArg (fun l => aget Ctx.reset l c) hin.ctxs
      have hkept : ∀ j, w.site j = s.site j := fun j => by
        unfold State.site; rw [hin.sites]
      have hplan' : (w.ctx c).plan = some p := by rw [hctx, hplan]
      have hsite' : w.siteOfTile (w.ctx c) d.tile = some i := by rw [hctx, hat.siteOfTile, hsite]
      have hrole' : (w.site i).role = .live := by rw [hkept, hrole]
      have hone := (State.launched_only hc ((hat.runs c).trans hruns) (fun k hk => (hat.runs k).trans (hothers k hk))).trans
        (State.startCtx_one hplan' htiles hsite' hrole')
      rw [hctx] at hone
      have hstart : w.launched.lapseLate.site i = PlanTile_start d (s.ctx c).gearing (w.epochs * 4096 + i) (s.site i) := by
        rw [State.site_of_sites (State.sites_lapseLate _), hone]
        refine (State.site_setSite_self _ _ _).trans ?_
        rw [hkept]
      have hsrv := w.launched.lapseLate.site_drivenModes i
      rw [hstart] at hsrv
      obtain ⟨hstatus, hpc, hslot, hnext, hloops, hmat, hflags, hscr, hex⟩ :=
        PlanTile_start_named (epoch := w.epochs * 4096 + i) (a := s.site i) hentry
      generalize PlanTile_start d (s.ctx c).gearing (w.epochs * 4096 + i) (s.site i) = a at *
      generalize (w.launched.lapseLate.drivenModes.site i).service = b at hsrv
      rw [hsrv]
      refine ⟨hstatus, hpc, hslot, hnext, hloops, hmat, hflags, hscr, hex, fun j hj => State.site_drivenModes_of ?_, ?_⟩
      · rw [State.site_of_sites (State.sites_lapseLate _), hone]
        exact (State.site_setSite_ne _ _ _ _ hj).trans (hkept j)

      · rw [State.ctx_drivenModes, State.ran_lapseLate, hone, State.ctx_modCtx_self]
  · have hx := exec_dressingWindowStart.trans (congrArg Host.Outcome.next (if_pos (And.intro hrun hwin)))
    dsimp only at hx
    generalize hlate : (allCtxs.filter fun c => (s.ctx c).ran).any (fun c => (s.ctxSites c).any fun i => (s.site i).seq.status.overrun)
      = late at hx
    have hstart : ∃ u : State, u = { s with turn := { s.turn with
      window := .dressing, cycle := s.turn.geom.start .dressing, overrunTurns := bump32 s.turn.overrunTurns (if late then 1 else 0) } } :=
      ⟨_, rfl⟩
    obtain ⟨u, hu⟩ := hstart
    rw [← hu] at hx
    have hfold := State.foldl_sites State.endWork State.endWork_eq (allCtxs.filter fun c => (s.ctx c).ran) u
    have hdriven : ((allCtxs.filter fun c => (s.ctx c).ran).foldl State.endWork u).drivenModes.turn = u.turn := by
      unfold State.drivenModes
      rw [hfold]
    refine ⟨_, hx, ?_⟩
    rw [hdriven]
    refine ⟨by rw [hu], by rw [hu], by rw [hu], ?_, fun c i hc hran hothers hsites hrun => ?_⟩
    · rw [hu, ← List.any_filter, hlate]
      rfl
    · have hsites' : u.ctxSites c = [i] := by rw [hu]; exact hsites
      have hsite : ∀ j, u.site j = s.site j := fun j => by rw [hu]; rfl
      have hgeom : u.turn.geom = s.turn.geom := by rw [hu]
      rw [foldl_filter_only hc hran hothers]
      clear hx hfold hdriven hu
      have hsrv := (u.endWork c).site_drivenModes i
      rw [State.site_endWork_late hsites' (by rw [hsite, hrun]), hsite, hgeom] at hsrv
      generalize ((u.endWork c).drivenModes.site i).service = b at hsrv
      rw [hsrv]
      refine ⟨Site.overrun_status hrun, rfl, rfl, List.map_append, rfl, fun j hj => State.site_drivenModes_of ?_⟩
      rw [State.site_endWork_late_ne hsites' (by rw [hsite, hrun]) hj, hsite]
  · exact exec_workWindowStart.trans (congrArg Host.Outcome.next (if_neg (fun h => hwin h.2)))
  · exact exec_dressingWindowStart.trans (congrArg Host.Outcome.next (if_neg (fun h => hwin h.2)))
end

section
/-! ## The close of a turn -/
namespace Sys2Proof.Machine

/-! ### What the close's bookkeeping leaves of a context and of the clock -/

/-- What the vouch decision reads and writes of a context. -/
structure Standing where
  ran : Bool
  state : CtxState
  plan : Option Plan
  prior : CtxState
  redo : Bool
  turn : Nat
  lastVouched : Nat
  marked : Bool
  loadTurn : Nat

def Ctx.standing (x : Ctx) : Standing :=
  { ran := x.ran, state := x.state, plan := x.plan, prior := x.prior, redo := x.redo, turn := x.turn, lastVouched := x.lastVouched
    marked := x.marked, loadTurn := x.loadTurn }

/-- The clock, the vouched and the withheld turns, and the digests. -/
def State.ledger (s : State) : Window × Nat × Nat × Nat × Nat × List (Nat × DigestLog) :=
  (s.turn.window, s.turn.cycle, s.turn.no, s.check.vouched, s.check.withheld, s.check.log)

/-- The ledger with every context's standing. -/
def State.docket (s : State) : (Window × Nat × Nat × Nat × Nat × List (Nat × DigestLog)) × (Nat → Standing) :=
  (s.ledger, fun k => (s.ctx k).standing)

theorem State.docket_foldl {α : Type} {f : State → α → State} (h : ∀ t x, (f t x).docket = t.docket) (l : List α) (s : State) :
    (l.foldl f s).docket = s.docket := foldl_fixes State.docket f h l s

/-- A change of one context that keeps its standing. -/
theorem State.docket_of_set {s t : State} {c : Nat} (hl : t.ledger = s.ledger)
    (h : ∃ y, t.ctxs = aset s.ctxs c y ∧ y.standing = (s.ctx c).standing) : t.docket = s.docket :=
  Prod.ext hl (funext fun k => State.proj_of_set Ctx.standing h k)

theorem State.docket_of_eq {s t : State} (hl : t.ledger = s.ledger) (hc : t.ctxs = s.ctxs) : t.docket = s.docket :=
  Prod.ext hl (funext fun k => congrArg (fun l => (aget Ctx.reset l k).standing) hc)

theorem State.docket_engineRetire (s : State) (q e : Nat) : (s.engineRetire q e).docket = s.docket := rfl

theorem State.docket_modStream (s : State) (id : Nat) (g : StreamEntry → StreamEntry) : (s.modStream id g).docket = s.docket := rfl

theorem State.docket_modSite (s : State) (i : Nat) (g : Site → Site) : (s.modSite i g).docket = s.docket := rfl

theorem State.docket_modCtx (s : State) (c : Nat) {g : Ctx → Ctx} (h : (g (s.ctx c)).standing = (s.ctx c).standing) :
    (s.modCtx c g).docket = s.docket := State.docket_of_set rfl ⟨_, rfl, h⟩

theorem State.docket_post (s : State) (f r type units : Nat) (body : List Byte) : (s.post f r type units body).docket = s.docket := by
  unfold State.post
  split <;> rfl

theorem State.docket_postRanges (s : State) (c type turn seq n : Nat) (l : List (Nat × Nat)) :
    (s.postRanges c type turn seq n l).docket = s.docket := by
  induction n generalizing s l with
  | zero => rfl
  | succ n ih =>
    unfold State.postRanges
    cases l with
    | nil => rfl
    | cons e l => exact (ih _ _).trans (s.docket_post _ _ _ _ _)

theorem State.docket_finish (s : State) (p : Cmd → Bool) (st : Status) (res : Cmd → List Byte) : (s.finish p st res).docket = s.docket :=
  (show (s.finish p st res).docket = ((s.cmds.filter p).foldl (fun u c => u.complete c.ref st (res c)) s).docket from rfl).trans
    (State.docket_foldl (fun u _ => u.docket_post _ _ _ _ _) _ s)

theorem State.docket_release (s : State) (id : Nat) : (s.release id).docket = s.docket := by
  have h : (s.modSlot id CacheSlot.unpin).docket = s.docket := by
    unfold State.modSlot
    split <;> rfl
  unfold State.release
  exact (State.docket_modCtx _ _ rfl).trans h

theorem State.docket_endStep (s : State) (id : Nat) (st : Status) (reason : Nat) (fin : StreamState) :
    (s.endStep id st reason fin).docket = s.docket := by
  unfold State.endStep
  exact (State.docket_release _ id).trans ((State.docket_finish _ _ _ _).trans (s.docket_finish _ _ _))

theorem State.docket_faultCtx (s : State) (c : Nat) (x : FaultRec) : (s.faultCtx c x).docket = s.docket := s.docket_post _ _ _ _ _

/-! ### Packets -/

theorem State.docket_takeWord (s : State) (q id : Nat) (p : Packet) (acc : List Nat) (i : Nat) :
    (s.takeWord q id p acc i).1.docket = s.docket := by
  have h : ∀ v, (s.countVerdict q v).docket = s.docket := fun v => by cases v <;> rfl
  unfold State.takeWord
  dsimp only
  split
  · split
    · exact h _
    · exact h _
  all_goals exact h _

theorem State.docket_takeWords (s : State) (q id : Nat) (p : Packet) : (s.takeWords q id p).1.docket = s.docket :=
  foldl_fixes (fun a : State × List Nat => a.1.docket) _ (fun a i => State.docket_takeWord a.1 q id p a.2 i) _ (s, _)

theorem State.docket_judgePacket (s : State) (c q d : Nat) (p : Packet) : (s.judgePacket c q d p).1.docket = s.docket := by
  have h := s.docket_takeWords q s.avdin.arrivalNo p
  unfold State.judgePacket
  dsimp only
  generalize s.takeWords q s.avdin.arrivalNo p = w at h ⊢
  split
  · exact (State.docket_modCtx w.1 c (by rfl)).trans h
  · refine Eq.trans ?_ ((State.docket_modCtx w.1 c (g := fun y => { y with crossIn := y.crossIn.map fun y =>
      if y.planQuad = p.destTile / Config.tilesPerQuad ∧ y.sluice = p.sluice ∧ w.2.getD 0 0 == p.nwords then
        (if d = 0 then { y with map0 := nins y.map0 p.pktNo } else { y with map1 := nins y.map1 p.pktNo }) else y }) (by rfl)).trans h)
    rfl

theorem State.docket_takeWrite (s : State) (p : Packet) : (s.takeWrite p).1.docket = s.docket := by
  unfold State.takeWrite
  dsimp only
  split
  · rfl
  split
  · rfl
  split
  · split
    · rfl
    split
    · rfl
    split
    · exact s.docket_judgePacket _ _ _ p
    split <;> rfl
  · rfl

theorem State.docket_takeAnswer (s : State) (p : Packet) : (s.takeAnswer p).docket = s.docket := by
  unfold State.takeAnswer
  dsimp only
  split
  · rfl
  split
  · rfl
  next o _ =>
    have hnote : ∀ (b : Bool) (u : State) (i : Nat) (f : Site → Site), u.docket = s.docket →
        (if b then u else u.modSite i f).docket = s.docket := fun b u i f hu => by
      split
      · exact hu
      · exact hu
    split
    · split
      · exact (State.docket_modSite _ _ _).trans (hnote _ _ _ _ ((State.docket_engineRetire _ _ _).trans (s.docket_modCtx _ (by rfl))))
      · exact hnote _ _ _ _ ((State.docket_engineRetire _ _ _).trans (s.docket_modCtx _ (by rfl)))
    · exact hnote _ _ _ _ ((State.docket_engineRetire _ _ _).trans (s.docket_modCtx _ (by rfl)))

theorem State.docket_sendAnswer (s : State) (p : Packet) : (s.sendAnswer p).docket = s.docket := by
  unfold State.sendAnswer
  split
  · exact s.docket_takeAnswer p
  · rfl
  · rfl

theorem State.docket_forward (s : State) (p : Packet) (d : Option Nat) : (s.forward p d).docket = s.docket := by
  unfold State.forward
  split
  · split
    · dsimp only
      split
      · exact (State.docket_sendAnswer _ _).trans (s.docket_takeWrite p)
      · exact s.docket_takeWrite p
    · exact s.docket_takeAnswer p
  · rfl
  · dsimp only
    split
    · split
      · exact State.docket_takeAnswer _ _
      · exact State.docket_sendAnswer _ _
    · rfl

theorem State.docket_resendCtx (s : State) (c : Nat) : (s.resendCtx c).docket = s.docket := by
  refine State.docket_foldl (fun u o => ?_) _ s
  dsimp only
  split
  · exact (State.docket_forward _ _ none).trans (u.docket_modCtx c (by rfl))
  · rfl

theorem State.docket_releaseXfer (s : State) (site c : Nat) (t : Transfer) : (s.releaseXfer site c t).docket = s.docket := by
  refine State.docket_foldl (fun u r => ?_) _ s
  dsimp only
  refine (State.docket_forward _ _ none).trans ?_
  exact (State.docket_modSite _ _ _).trans (u.docket_modCtx c (by rfl))

theorem State.docket_releaseCtx (s : State) (c : Nat) : (s.releaseCtx c).docket = s.docket :=
  State.docket_foldl (fun u i => State.docket_foldl (fun v t => v.docket_releaseXfer i c t) _ u) _ s

/-! ### Commits -/

theorem State.docket_damage (s : State) (c origin addr : Nat) (l : List (Nat × Nat)) : (s.damage c origin addr l).docket = s.docket := by
  unfold State.damage
  split
  · rfl
  · dsimp only
    have h : ∀ x, ((s.newEvent.1.faultCtx c x).damagedRecs c l).docket = s.docket :=
      fun x => (State.docket_postRanges _ _ _ _ _ _ _).trans (State.docket_faultCtx _ c x)
    refine (State.docket_foldl (fun u p => ?_) l _).trans ?_
    · exact (State.docket_modStream _ _ _).trans (u.docket_endStep _ _ _ _)
    have hx := h (s.newEvent.1.ctxFault c .poison [.poison] 0 [] s.newEvent.2 0
      ([BitVec.ofNat 8 origin, 0, 0, 0] ++ leBytes 4 addr ++ leBytes 4 l.length))
    generalize (s.newEvent.1.faultCtx c _).damagedRecs c l = t at hx ⊢
    exact hx

theorem State.docket_modSlot (s : State) (id : Nat) (g : CacheSlot → CacheSlot) : (s.modSlot id g).docket = s.docket := by
  unfold State.modSlot
  split <;> rfl

theorem State.docket_commitOne (s : State) (c : Nat) (b : BatchDecl) (p : Position) : (s.commitOne c b p).docket = s.docket := by
  have h0 : (s.modCtx c (fun x => { x with positions := x.positions.erase p })).docket = s.docket := s.docket_modCtx c (by rfl)
  unfold State.commitOne
  dsimp only
  generalize s.modCtx c (fun x => { x with positions := x.positions.erase p }) = s0 at h0 ⊢
  split
  · exact h0
  split
  · split
    · exact (s0.docket_endStep _ _ _ _).trans h0
    · exact h0
  · have h1 : ∀ (e : StreamEntry) g, ((s0.setStream p.stream e).modSlot p.stream g).docket = s.docket :=
      fun e g => (State.docket_modSlot _ _ _).trans h0
    split
    · refine (State.docket_endStep _ _ _ _ _).trans ?_
      split
      · exact (State.docket_modCtx _ c (by rfl)).trans ((State.docket_post _ _ _ _ _ _).trans (h1 _ _))
      · exact h1 _ _
    · split
      · exact (State.docket_modCtx _ c (by rfl)).trans ((State.docket_post _ _ _ _ _ _).trans (h1 _ _))
      · exact h1 _ _

theorem State.docket_commit (s : State) (c : Nat) : (s.commit c).docket = s.docket := by
  unfold State.commit
  dsimp only
  split
  · rfl
  next b _ =>
    have hone : ∀ (l : List Position) (u : State), u.docket = s.docket →
        (l.foldl (fun u p => u.commitOne c b p) u).docket = s.docket :=
      fun l u hu => (State.docket_foldl (fun v p => v.docket_commitOne c b p) l u).trans hu
    have hclose : ∀ t : State, t.docket = s.docket →
        (if (t.ctx c).cancelDrain then (t.activeOf c).foldl (fun u id => u.endStep id .ok 2 .idle) t else t).docket = s.docket :=
      fun t ht => by
        split
        · exact (State.docket_foldl (fun u id => u.docket_endStep _ _ _ _) _ t).trans ht
        · exact ht
    refine hclose _ (hone _ _ ?_)
    split
    · rfl
    · exact s.docket_damage _ _ _ _

/-! ### Watches that trip -/

theorem State.docket_modQuad (s : State) (q : Nat) (g : Quad → Quad) : (s.modQuad q g).docket = s.docket := rfl

theorem State.docket_setHolds (s : State) : s.setHolds.docket = s.docket :=
  State.docket_foldl (fun u c => by
    dsimp only
    split
    · rfl
    · exact u.docket_modCtx c rfl) allCtxs s

theorem State.docket_snapWrite (s : State) (slot off : Nat) (bs : List Byte) : (s.snapWrite slot off bs).docket = s.docket := by
  unfold State.snapWrite
  rw [State.ddrPut_eq]
  rfl

theorem State.docket_snapQuad (s : State) (q slot : Nat) : (s.snapQuad q slot).docket = s.docket :=
  (State.docket_foldl (fun u _ => u.docket_snapWrite slot _ _) _ _).trans (State.docket_foldl (fun u _ => u.docket_snapWrite slot _ _) _ s)

theorem State.docket_captured (s : State) (q seq : Nat) (z : Snapshot) :
    ((({ s with mod := { s.mod with snapSeq := seq } } : State).modQuad q (fun x => { x with snap := z })).setHolds).docket = s.docket :=
  State.docket_setHolds _

theorem State.docket_snapshot (s : State) (q trigger engine : Nat) (suspects ctxs : List Nat) (cmd : Option Cmd) :
    (s.snapshot q trigger engine suspects ctxs cmd).docket = s.docket := by
  unfold State.snapshot
  dsimp only
  split
  · exact (State.docket_setHolds _).trans (s.docket_modQuad _ _)
  · exact (State.docket_captured _ q _ _).trans ((State.docket_snapQuad _ q _).trans (s.docket_snapWrite _ 0 _))

theorem State.docket_revoke (s : State) (q e c : Nat) : (s.revoke q e c).docket = s.docket := by
  have h : ∀ (l : List Nat) (u : State), (l.foldl (fun v i => if i / Config.sitesPerQuad = q then
      v.modSite i (fun a => { a with ex := { a.ex with xfers := a.ex.xfers.filter (fun x => !servesClass e x.cls) } }) else v) u).docket =
      u.docket := State.docket_foldl (fun v i => by split <;> rfl)
  unfold State.revoke
  dsimp only
  refine (show ∀ (t : State), (t.rearm c).docket = t.docket from fun _ => rfl) _ |>.trans ?_
  exact (State.docket_modCtx _ c (by rfl)).trans ((h _ _).trans (s.docket_modCtx c (by rfl)))

theorem State.docket_engineReset (s : State) (q e : Nat) : (s.engineReset q e).docket = s.docket := by
  unfold State.engineReset
  dsimp only
  refine (State.docket_setHolds _).trans ((State.docket_modQuad _ _ _).trans ?_)
  exact State.docket_foldl (fun u c => u.docket_revoke q e c) _ _

theorem State.docket_trip (s : State) (q e : Nat) : (s.trip q e).docket = s.docket := by
  unfold State.trip
  dsimp only
  split
  · exact (State.docket_engineReset _ q e).trans (s.docket_snapshot _ _ _ _ _ _)
  · split
    · exact (State.docket_engineReset _ q e).trans (s.docket_snapshot _ _ _ _ _ _)
    · rfl
  · rfl

theorem State.docket_watchEngines (s : State) : s.watchEngines.docket = s.docket := by
  refine State.docket_foldl (fun u q => ?_) _ s
  split
  · rfl
  · refine State.docket_foldl (fun v e => ?_) _ u
    split
    · exact (State.docket_trip _ q e).trans (v.docket_modQuad _ _)
    · rfl

theorem State.docket_rewear (s : State) : s.rewear.docket = s.docket := rfl

theorem State.docket_drivenModes (s : State) : s.drivenModes.docket = s.docket := rfl

theorem State.docket_closeQuads (s : State) : (s.closeQuads CloseFacts.clean).docket = s.docket :=
  State.docket_foldl (fun u q => u.docket_modQuad q _) _ s

theorem State.docket_judgeFaults (s : State) (c : Nat) : (s.judgeFaults c).docket = s.docket := by
  unfold State.judgeFaults
  split
  · exact State.docket_foldl (fun u i => u.docket_modSite i _) _ s
  · rfl

/-! ### The close without findings -/

theorem State.explain_nil (s : State) : s.explain [] = s := by
  have h : (s.check.watches.filter (fun w => ([] : List Nat).contains w.site)) = [] := by
    rw [List.filter_eq_nil_iff]
    exact fun w _ => by simp
  unfold State.explain
  rw [h]
  refine foldl_fixes id _ (fun u c => ?_) allCtxs s
  cases (u.ctx c).diag <;> rfl

theorem State.docket_dress (s : State) : (s.dress CloseFacts.clean).docket = s.docket := rfl

theorem State.docket_countPairs (s : State) (f : CloseFacts) : (s.countPairs f).docket = s.docket := rfl

theorem State.docket_countAudits (s : State) (q : Nat) (l : List (Nat × AuditOut)) : (s.countAudits q l).docket = s.docket := by
  unfold State.countAudits
  dsimp only
  refine (State.docket_foldl (fun u e => ?_) _ _).trans ?_
  · split
    · exact u.docket_modCtx _ rfl
    · rfl
  · rfl

/-- Without an auditor's finding an audit is clean or incomplete. -/
theorem State.auditOf_clean (s : State) (q t : Nat) : s.auditOf CloseFacts.clean q t = .clean ∨ s.auditOf CloseFacts.clean q t = .incomplete := by
  unfold State.auditOf
  dsimp only
  split
  · exact .inl rfl
  · refine .inr ?_
    split
    · exact ite_self _
    · exact ite_self _

theorem State.docket_checkAuditors (s u : State) (q : Nat) : (u.checkAuditors q (s.auditList CloseFacts.clean q)).docket = u.docket := by
  unfold State.auditList State.checkAuditors
  rw [List.foldl_map]
  refine State.docket_foldl (fun v k => ?_) _ u
  dsimp only
  rcases s.auditOf_clean q (((s.quad q).pointer + k) % Config.tilesPerQuad) with h | h
  · rw [h]
  · rw [h]

theorem State.auditMismatch_clean (s t : State) (q : Nat) : (t.auditList CloseFacts.clean q).filterMap (fun z => s.auditMismatch q z) = [] := by
  unfold State.auditList
  rw [List.filterMap_map, List.filterMap_eq_nil_iff]
  intro k _
  rw [Function.comp_apply]
  unfold State.auditMismatch
  dsimp only
  rcases t.auditOf_clean q (((t.quad q).pointer + k) % Config.tilesPerQuad) with h | h
  · rw [h]
  · rw [h]

/-- No pair differs where no digest was reported and BATCH_OUT equals TWIN_OUT. -/
theorem State.pairMismatch_clean {s : State} {c : Nat} (h : (s.ctx c).ran = false ∨ s.twinCompare c = (false, false)) :
    s.pairMismatch CloseFacts.clean c = none := by
  rcases h with h | h
  · have hc : s.pairsCompared c = false := by
      unfold State.pairsCompared
      rw [h]
      rfl
    unfold State.pairMismatch
    rw [hc]
    rfl
  · have hf : s.pairFactsOf CloseFacts.clean c = [] := by
      unfold State.pairFactsOf
      rw [h]
      dsimp only
      split <;> rfl
    unfold State.pairMismatch
    rw [hf]
    exact ite_self _

/-! ### The vouch decision of one context -/

theorem State.standing_of_docket {s t : State} (h : t.docket = s.docket) (k : Nat) : (t.ctx k).standing = (s.ctx k).standing :=
  congrFun (congrArg Prod.snd h) k

theorem State.digestBad_of_docket {s t : State} (h : t.docket = s.docket) (c : Nat) : t.digestBad c = s.digestBad c := by
  have hx := State.standing_of_docket h c
  have hlog : t.check.log = s.check.log := congrArg (fun d => d.1.2.2.2.2.2) h
  have hmarked : (t.ctx c).marked = (s.ctx c).marked := congrArg Standing.marked hx
  have hplan : (t.ctx c).plan = (s.ctx c).plan := congrArg Standing.plan hx
  have hstate : (t.ctx c).state = (s.ctx c).state := congrArg Standing.state hx
  have hload : (t.ctx c).loadTurn = (s.ctx c).loadTurn := congrArg Standing.loadTurn hx
  unfold State.digestBad
  dsimp only
  rw [hmarked, hplan, hstate, hload, hlog]

/-- The facts of a close that found nothing but faults. -/
def CtxFacts.of (l : List (Nat × SiteFault)) : CtxFacts := { faults := l, mismatches := [], fixes := [] }

/-- A context without a plan that did not run stays as it is. -/
theorem State.closeCtx_idle {s : State} {c : Nat} (h : (s.ctx c).standing = Ctx.reset.standing) : s.closeCtx c (.of []) = s := by
  have hran : (s.ctx c).ran = false := congrArg Standing.ran h
  have hplan : (s.ctx c).plan = none := congrArg Standing.plan h
  have hstate : (s.ctx c).state = .empty := congrArg Standing.state h
  have hactive : (s.ctx c).active = false := by unfold Ctx.active; rw [hstate]
  have hbad : s.digestBad c = none := by
    unfold State.digestBad
    dsimp only
    rw [hplan]
    simp
  unfold State.closeCtx
  dsimp only
  rw [hran, hbad, hactive]
  rfl

theorem State.closeCtx_clean {s : State} {c : Nat} (hran : (s.ctx c).ran = true) (hbad : s.digestBad c = none) :
    s.closeCtx c (.of []) = s.vouch c := by
  unfold State.closeCtx
  dsimp only
  rw [hran, hbad]
  rfl

theorem Cause.isCheck_of_isPlan {k : Cause} (h : k.isPlan = true) : k.isCheck = false := by
  revert h
  cases k <;> decide

theorem State.closeCtx_faulted {s : State} {c : Nat} {l : List (Nat × SiteFault)} (hran : (s.ctx c).ran = true)
    (hbad : s.digestBad c = none) (hl : l ≠ []) (hplan : ∀ e ∈ l, e.2.cause.isPlan = true) :
    s.closeCtx c (.of l) = ((s.withhold c).countPoison l).planFault c l := by
  have hempty : l.isEmpty = false := by rw [List.isEmpty_eq_false_iff]; exact hl
  have hcheck : l.any (fun e => e.2.cause.isCheck) = false := by
    rw [List.any_eq_false]
    intro e he
    rw [Cause.isCheck_of_isPlan (hplan e he)]
    exact Bool.false_ne_true
  unfold State.closeCtx CtxFacts.of
  dsimp only
  rw [hran, hbad, hempty, hcheck]
  rfl

/-- A vouched turn: the context's and the device's counts. -/
theorem State.vouch_leaves (s : State) (c : Nat) :
    let t := s.vouch c
    t.ledger = (s.turn.window, s.turn.cycle, s.turn.no, bump32 s.check.vouched 1, s.check.withheld, s.check.log) ∧
      (t.ctx c).standing = { (s.ctx c).standing with turn := ((s.ctx c).turn + 1) % 2 ^ 64, lastVouched := s.turn.no, redo := false } ∧
      ∀ k, k ≠ c → (t.ctx k).standing = (s.ctx k).standing := by
  have hb : ∀ b : State, b.docket = s.docket → ∀ x : Bool,
      let d := b.modCtx c (fun y => y.vouched s.turn.no)
      let e : State := { d with check := { d.check with vouched := bump32 d.check.vouched 1 } }
      ∀ g : Quad → Quad, ∀ q, let t := if x then e.modQuad q g else e
      t.ledger = (s.turn.window, s.turn.cycle, s.turn.no, bump32 s.check.vouched 1, s.check.withheld, s.check.log) ∧
      (t.ctx c).standing = { (s.ctx c).standing with turn := ((s.ctx c).turn + 1) % 2 ^ 64, lastVouched := s.turn.no, redo := false } ∧
      ∀ k, k ≠ c → (t.ctx k).standing = (s.ctx k).standing := by
    intro b hb x d e g q t
    have hdock : t.docket = e.docket := by
      show (if x then e.modQuad q g else e).docket = _
      split <;> rfl
    have hledger : b.ledger = s.ledger := congrArg Prod.fst hb
    have hself : (e.ctx c).standing = { (b.ctx c).standing with turn := ((b.ctx c).turn + 1) % 2 ^ 64, lastVouched := s.turn.no, redo := false } :=
      congrArg Ctx.standing (State.ctx_modCtx_self b c (fun y => y.vouched s.turn.no))
    refine ⟨(congrArg Prod.fst hdock).trans ?_, ?_, fun k hk => ?_⟩
    · exact congrArg (fun p : Window × Nat × Nat × Nat × Nat × List (Nat × DigestLog) =>
        (p.1, p.2.1, p.2.2.1, bump32 p.2.2.2.1 1, p.2.2.2.2.1, p.2.2.2.2.2)) hledger
    · have hx := State.standing_of_docket hb c
      rw [State.standing_of_docket hdock c, hself, hx, show (b.ctx c).turn = (s.ctx c).turn from congrArg Standing.turn hx]
    · rw [State.standing_of_docket hdock k, ← State.standing_of_docket hb k]
      exact congrArg Ctx.standing (State.ctx_modCtx_ne b c k (fun y => y.vouched s.turn.no) hk)
  unfold State.vouch
  refine hb _ ?_ (s.ctx c).lateTried _ _
  split
  · exact (State.docket_releaseCtx _ c).trans (s.docket_commit c)
  · exact s.docket_commit c

theorem State.docket_eachTile (s : State) (c : Nat) (f : PlanTile → Site → Site) : (s.eachTile c f).docket = s.docket := by
  unfold State.eachTile
  split
  · rfl
  · refine State.docket_foldl (fun u t => ?_) _ s
    split
    · rfl
    · rfl

/-- A withheld turn: it is to be executed again, and the device counts it. -/
theorem State.withhold_leaves (s : State) (c : Nat) :
    let t := s.withhold c
    t.ledger = (s.turn.window, s.turn.cycle, s.turn.no, s.check.vouched, bump32 s.check.withheld 1, s.check.log) ∧
      (t.ctx c).standing = { (s.ctx c).standing with redo := true } ∧ ∀ k, k ≠ c → (t.ctx k).standing = (s.ctx k).standing := by
  have hb : ∀ b : State, b.docket = s.docket → ∀ slow : Bool,
      let g := fun (x : Ctx) => { (x.endInstances false s.turn.no) with
        redo := true, sinceVouch := x.sinceVouch + 1, restoring := x.restoring || slow }
      let d := b.modCtx c g
      let t : State := { d with check := { d.check with withheld := bump32 d.check.withheld 1 } }
      t.ledger = (s.turn.window, s.turn.cycle, s.turn.no, s.check.vouched, bump32 s.check.withheld 1, s.check.log) ∧
      (t.ctx c).standing = { (s.ctx c).standing with redo := true } ∧ ∀ k, k ≠ c → (t.ctx k).standing = (s.ctx k).standing := by
    intro b hb slow g d t
    have hself : (t.ctx c).standing = { (b.ctx c).standing with redo := true } := congrArg Ctx.standing (State.ctx_modCtx_self b c g)
    refine ⟨?_, ?_, fun k hk => ?_⟩
    · exact congrArg (fun p : Window × Nat × Nat × Nat × Nat × List (Nat × DigestLog) =>
        (p.1, p.2.1, p.2.2.1, p.2.2.2.1, bump32 p.2.2.2.2.1 1, p.2.2.2.2.2)) (congrArg Prod.fst hb)
    · rw [hself, State.standing_of_docket hb c]
    · rw [← State.standing_of_docket hb k]
      exact congrArg Ctx.standing (State.ctx_modCtx_ne b c k g hk)
  unfold State.withhold
  dsimp only
  refine hb _ ?_ _
  have ha : ((s.ctxSites c).foldl (fun u i => u.modSite i Site.discardUnsent) s).docket = s.docket :=
    State.docket_foldl (fun u i => u.docket_modSite i _) _ s
  split
  · exact (State.docket_eachTile _ c _).trans ha
  · exact ha

/-- A plan fault of a RUNNING context: it enters FAULTED. -/
theorem State.planFault_leaves (s : State) (c : Nat) (l : List (Nat × SiteFault)) (hrun : (s.ctx c).state = .running) :
    let t := s.planFault c l
    t.ledger = s.ledger ∧ (t.ctx c).standing = { (s.ctx c).standing with state := .faulted, prior := .running } ∧
      ∀ k, k ≠ c → (t.ctx k).standing = (s.ctx k).standing := by
  have hb : ∀ b : State, b.docket = s.docket → ∀ (causes : List Cause) (late : Bool) (p : Cmd → Bool) (st : Status) (res : Cmd → List Byte),
      let g := fun (y : Ctx) => { y.fault with causes := causes, late := late }
      let t := (b.modCtx c g).finish p st res
      t.ledger = s.ledger ∧ (t.ctx c).standing = { (s.ctx c).standing with state := .faulted, prior := .running } ∧
      ∀ k, k ≠ c → (t.ctx k).standing = (s.ctx k).standing := by
    intro b hb causes late p st res g t
    have hfin : t.docket = (b.modCtx c g).docket := State.docket_finish _ p st res
    have hstate : (b.ctx c).state = .running := (congrArg Standing.state (State.standing_of_docket hb c)).trans hrun
    have hfault : (b.ctx c).fault.standing = { (b.ctx c).standing with state := .faulted, prior := .running } := by
      unfold Ctx.fault
      rw [if_pos (.inl hstate), hstate]
      rfl
    refine ⟨(congrArg Prod.fst hfin).trans (congrArg Prod.fst hb), ?_, fun k hk => ?_⟩
    · rw [State.standing_of_docket hfin c, ← State.standing_of_docket hb c, ← hfault,
        show (b.ctx c).fault.standing = (g (b.ctx c)).standing from rfl]
      exact congrArg Ctx.standing (State.ctx_modCtx_self b c g)
    · rw [State.standing_of_docket hfin k, ← State.standing_of_docket hb k]
      exact congrArg Ctx.standing (State.ctx_modCtx_ne b c k g hk)
  unfold State.planFault
  dsimp only
  refine hb _ ?_ _ _ _ _ _
  split
  · rfl
  · exact State.docket_faultCtx _ _ _

/-! ### The commands that a close completes -/

theorem State.closeCmds_leaves (s : State) (c : Nat) : (s.closeCmds c).docket = s.docket ∨
    (s.ctx c).state = .draining ∧ (s.closeCmds c).docket = (s.modCtx c (fun y => { y with state := .loaded })).docket := by
  unfold State.closeCmds
  dsimp only
  have hb : ∀ b : State, b.docket = s.docket → ∀ p : Cmd → Bool,
      let t := if (b.ctx c).state = .draining ∧ (b.activeOf c).isEmpty then
        (b.modCtx c (fun y => { y with state := .loaded, cancelDrain := false })).finish p .ok (fun _ => []) else b
      t.docket = s.docket ∨ (s.ctx c).state = .draining ∧ t.docket = (s.modCtx c (fun y => { y with state := .loaded })).docket := by
    intro b hb p
    dsimp only
    split
    · next h =>
      refine .inr ⟨(congrArg Standing.state (State.standing_of_docket hb c)).symm.trans h.1, (State.docket_finish _ _ _ _).trans ?_⟩
      refine Prod.ext (show b.ledger = s.ledger from congrArg Prod.fst hb) (funext fun k => ?_)
      have hx := State.standing_of_docket hb k
      by_cases hk : k = c
      · subst hk
        refine (congrArg Ctx.standing (State.ctx_modCtx_self b k _)).trans
          (Eq.trans ?_ (congrArg Ctx.standing (State.ctx_modCtx_self s k _)).symm)
        exact congrArg (fun z : Standing => { z with state := CtxState.loaded }) hx
      · exact (congrArg Ctx.standing (State.ctx_modCtx_ne b c k _ hk)).trans
          (hx.trans (congrArg Ctx.standing (State.ctx_modCtx_ne s c k _ hk)).symm)
    · exact .inl hb
  refine hb _ ?_ _
  have ha : ∀ q : Prop, ∀ _ : Decidable q, ∀ (u : State) p, u.docket = s.docket →
      (if q then u.finish p .ok (fun _ => []) else u).docket = s.docket := fun q _ u p hu => by
    split
    · exact (u.docket_finish _ _ _).trans hu
    · exact hu
  exact ha _ _ _ _ (ha _ _ s _ rfl)

/-- A standing without the state of the context. -/
def Standing.unplaced (z : Standing) : Standing := { z with state := .empty }

/-- The faults judged and the commands completed, context by context. -/
def State.settled (s : State) : State := allCtxs.foldl (fun u c => (u.judgeFaults c).closeCmds c) s

theorem State.settled_leaves (s : State) : s.settled.ledger = s.ledger ∧
    ∀ k, (s.settled.ctx k).standing.unplaced = (s.ctx k).standing.unplaced := by
  have h : ∀ (l : List Nat) (u : State), (l.foldl (fun u c => (u.judgeFaults c).closeCmds c) u).ledger = u.ledger ∧
      ∀ k, ((l.foldl (fun u c => (u.judgeFaults c).closeCmds c) u).ctx k).standing.unplaced = (u.ctx k).standing.unplaced := by
    intro l
    induction l with
    | nil => exact fun u => ⟨rfl, fun _ => rfl⟩
    | cons c l ih =>
      intro u
      rw [List.foldl_cons]
      obtain ⟨hl, hk⟩ := ih ((u.judgeFaults c).closeCmds c)
      have hj := u.docket_judgeFaults c
      rcases (u.judgeFaults c).closeCmds_leaves c with hc | ⟨-, hc⟩
      · have hd := hc.trans hj
        exact ⟨hl.trans (congrArg Prod.fst hd), fun k => (hk k).trans (congrArg Standing.unplaced (State.standing_of_docket hd k))⟩
      · refine ⟨hl.trans ((congrArg Prod.fst hc).trans (congrArg Prod.fst hj)), fun k => (hk k).trans ?_⟩
        rw [State.standing_of_docket hc k]
        exact (State.proj_of_set (c := c) (fun y => y.standing.unplaced) ⟨{ (u.judgeFaults c).ctx c with state := .loaded }, rfl, rfl⟩ k).trans
          (congrArg Standing.unplaced (State.standing_of_docket hj k))
  exact h allCtxs s

/-- Where no context drains the close's commands leave every context's state. -/
theorem State.docket_settled {s : State} (h : ∀ k, (s.ctx k).state ≠ .draining) : s.settled.docket = s.docket := by
  have hfold : ∀ (l : List Nat) (u : State), u.docket = s.docket →
      (l.foldl (fun u c => (u.judgeFaults c).closeCmds c) u).docket = s.docket := by
    intro l
    induction l with
    | nil => exact fun _ hu => hu
    | cons c l ih =>
      intro u hu
      have hj := (u.docket_judgeFaults c).trans hu
      refine ih _ ?_
      rcases (u.judgeFaults c).closeCmds_leaves c with hc | ⟨hd, -⟩
      · exact hc.trans hj
      · exact absurd ((congrArg Standing.state (State.standing_of_docket hj c)).symm.trans hd) (h c)
  exact hfold allCtxs s rfl

/-! ### The close window's start -/

/-- The first cycle of the close window. -/
def State.closing (s : State) : State := { s with turn := { s.turn with window := .close, cycle := s.turn.geom.start .close } }

/-- The quadrants whose audits the close judges. -/
def State.auditedQuads (s : State) : List Nat := s.mod.order.quads.filter (fun q => !(s.quad q).recState.resetting && !(s.quad q).braked)

/-- What the close does before its vouch decisions: the packets sent again, and the audits and pairs counted. -/
def State.reviewed (s : State) : State :=
  (s.auditedQuads.map (fun q => (q, s.auditList CloseFacts.clean q))).foldl (fun u e => (u.countAudits e.1 e.2).checkAuditors e.1 e.2)
    ((((allCtxs.foldl (fun u c => if u.ctxBraked c then u else u.resendCtx c) s).explain []).dress CloseFacts.clean).countPairs
      CloseFacts.clean)

/-- What a close without findings knows of a context. -/
def State.closeFactsOf (s : State) (c : Nat) : CtxFacts := .of (if (s.ctx c).ran then s.faultsOf c else [])

/-- The vouch decisions. -/
def State.decided (s : State) : State := allCtxs.foldl (fun u c => u.closeCtx c (s.closeFactsOf c)) s.reviewed

theorem State.docket_reviewed (s : State) : s.reviewed.docket = s.docket := by
  have haudit : ∀ (l : List Nat) (u : State), ((l.map (fun q => (q, s.auditList CloseFacts.clean q))).foldl
      (fun u e => (u.countAudits e.1 e.2).checkAuditors e.1 e.2) u).docket = u.docket := by
    intro l
    induction l with
    | nil => exact fun _ => rfl
    | cons q l ih =>
      intro u
      rw [List.map_cons, List.foldl_cons, ih]
      exact (State.docket_checkAuditors s _ q).trans (u.docket_countAudits q _)
  have hsent : (allCtxs.foldl (fun u c => if u.ctxBraked c then u else u.resendCtx c) s).docket = s.docket :=
    State.docket_foldl (fun u c => by split; rfl; exact u.docket_resendCtx c) allCtxs s
  unfold State.reviewed
  rw [haudit, State.explain_nil, State.docket_countPairs, State.docket_dress, hsent]

theorem exec_closeWindowStart_clean {s : State} (hlive : s.live = true) (hwin : s.turn.window = .dressing)
    (hpairs : ∀ c, s.closing.pairMismatch CloseFacts.clean c = none) :
    exec (.closeWindowStart CloseFacts.clean) s =
      .next ((s.closing.decided.settled.closeQuads CloseFacts.clean).watchEngines).rewear.drivenModes := by
  have hbranch : (s.live && decide (s.turn.window = .dressing)) = true := by rw [hlive, hwin]; rfl
  have hfound : (s.closing.auditedQuads.map (fun q => (q, s.closing.auditList CloseFacts.clean q))).flatMap
      (fun e => e.2.filterMap (fun z => s.closing.auditMismatch e.1 z)) = [] := by
    rw [List.flatMap_map, List.flatMap_eq_nil_iff]
    exact fun q _ => State.auditMismatch_clean _ _ q
  have hpair : allCtxs.filterMap (fun c => s.closing.pairMismatch CloseFacts.clean c) = [] :=
    List.filterMap_eq_nil_iff.mpr (fun c _ => hpairs c)
  have hexec : exec (.closeWindowStart CloseFacts.clean) s = execCloseWindowStart CloseFacts.clean s := exec_closeWindowStart
  unfold execCloseWindowStart at hexec
  rw [if_pos hbranch] at hexec
  extract_lets turn s0 qs audits found pairs real routine sites factsOf s1 s2 s3 s4 at hexec
  have hsites : sites = [] := rfl
  have hroutine : routine = [] := rfl
  have hfacts : factsOf = s.closing.closeFactsOf := funext fun c => by
    show ({ faults := if (s.closing.ctx c).ran then s.closing.faultsOf c else []
            mismatches := sortBy (fun a b => decide (a.tile ≤ b.tile)) (found.filter (fun m => m.ctx == c)) ++ pairs.filter (fun m => m.ctx == c)
            fixes := (routine.filter (fun e => (s0.site e.site).ctx == some c)).map (fun e => (e.site, e.item, e.index)) } : CtxFacts) =
      s.closing.closeFactsOf c
    rw [show found = [] from hfound, show pairs = [] from hpair, hroutine]
    rfl
  have hs2 : s2 = s.closing.reviewed := by
    show audits.foldl (fun u e => (u.countAudits e.1 e.2).checkAuditors e.1 e.2)
      ((((allCtxs.foldl (fun u c => if u.ctxBraked c then u else u.resendCtx c) s0).explain sites).dress CloseFacts.clean).countPairs
        CloseFacts.clean) = _
    rw [hsites]
    rfl
  have hs4 : s4 = s.closing.decided.settled := by
    show (allCtxs.foldl (fun u c => u.closeCtx c (factsOf c)) s2).settled = _
    rw [hfacts, hs2]
    rfl
  rw [hexec, hs4]

/-- With one context that is not as reset leaves it, that context's vouch decision is the close's. -/
theorem State.decided_one {s : State} {c : Nat} {l : List (Nat × SiteFault)} {t : State} (hc : c < 16) (hran : (s.ctx c).ran = true)
    (hfaults : s.faultsOf c = l) (hothers : ∀ k, k ≠ c → s.ctx k = Ctx.reset) (ht : s.reviewed.closeCtx c (.of l) = t)
    (hkept : ∀ k, k ≠ c → (t.ctx k).standing = (s.reviewed.ctx k).standing) : s.decided = t := by
  have hidle : ∀ k, k ≠ c → (s.reviewed.ctx k).standing = Ctx.reset.standing := fun k hk =>
    (State.standing_of_docket s.docket_reviewed k).trans (congrArg Ctx.standing (hothers k hk))
  have hskip : ∀ (u : State) k, k ≠ c → (u.ctx k).standing = Ctx.reset.standing → u.closeCtx k (s.closeFactsOf k) = u := fun u k hk hu => by
    unfold State.closeFactsOf
    rw [hothers k hk]
    exact State.closeCtx_idle hu
  have hone : s.closeFactsOf c = .of l := by
    unfold State.closeFactsOf
    rw [hran, hfaults]
    rfl
  have hrest : ∀ (m : List Nat) (u : State), c ∉ m → (∀ k, k ≠ c → (u.ctx k).standing = Ctx.reset.standing) →
      m.foldl (fun u k => u.closeCtx k (s.closeFactsOf k)) u = u := by
    intro m
    induction m with
    | nil => exact fun _ _ _ => rfl
    | cons k m ih =>
      intro u hm hu
      obtain ⟨hk, hm⟩ := not_or.mp (mt List.mem_cons.mpr hm)
      rw [List.foldl_cons, hskip u k (Ne.symm hk) (hu k (Ne.symm hk))]
      exact ih u hm hu
  have hat : ∀ m : List Nat, m.Nodup → c ∈ m → m.foldl (fun u k => u.closeCtx k (s.closeFactsOf k)) s.reviewed = t := by
    intro m
    induction m with
    | nil => exact fun _ h => absurd h List.not_mem_nil
    | cons k m ih =>
      intro hnd hmem
      obtain ⟨hk, hm⟩ := List.nodup_cons.mp hnd
      rw [List.foldl_cons]
      rcases List.mem_cons.mp hmem with rfl | hmem
      · rw [hone, ht]
        exact hrest m t hk (fun k hk => (hkept k hk).trans (hidle k hk))
      · have hne : k ≠ c := fun h => hk (h ▸ hmem)
        rw [hskip _ k hne (hidle k hne)]
        exact ih hm hmem
  exact hat allCtxs List.nodup_range (mem_allCtxs hc)

theorem State.docket_closed (s : State) : (((s.closeQuads CloseFacts.clean).watchEngines).rewear.drivenModes).docket = s.docket :=
  (State.docket_drivenModes _).trans ((State.docket_rewear _).trans ((State.docket_watchEngines _).trans s.docket_closeQuads))

end Sys2Proof.Machine
open Sys2Proof Sys2Proof.Machine

/-- Settles O37: the one context that is not as reset leaves it is vouched, or withheld and FAULTED; the rest of the close keeps
what the statement tells of it. -/
theorem closeOfTurn : Obligations.CloseOfTurn := by
  unfold Obligations.CloseOfTurn
  intro s c hc hlive hwin hran hbad htwin hothers
  have hrev := s.closing.docket_reviewed
  have hx := State.standing_of_docket hrev c
  have hran' : (s.closing.reviewed.ctx c).ran = true := (congrArg Standing.ran hx).trans hran
  have hbad' : s.closing.reviewed.digestBad c = none := (State.digestBad_of_docket hrev c).trans hbad
  have hledger : s.closing.reviewed.ledger =
      (.close, s.turn.geom.start .close, s.turn.no, s.check.vouched, s.check.withheld, s.check.log) := congrArg Prod.fst hrev
  have hpairs : ∀ k, s.closing.pairMismatch CloseFacts.clean k = none := fun k => by
    by_cases hk : k = c
    · subst hk
      exact State.pairMismatch_clean (.inr htwin)
    · exact State.pairMismatch_clean (.inl (congrArg Ctx.ran (hothers k hk)))
  have hfaults : s.closing.faultsOf c = s.faultsOf c := rfl
  have hexec := exec_closeWindowStart_clean hlive hwin hpairs
  refine ⟨fun hnone => ⟨_, hexec, ?_⟩, fun hsome hplan hrun => ⟨_, hexec, ?_⟩⟩
  · obtain ⟨hv, hself, hkept⟩ := s.closing.reviewed.vouch_leaves c
    have hdec := State.decided_one (s := s.closing) hc hran (hfaults.trans hnone) hothers (State.closeCtx_clean hran' hbad') hkept
    rw [hdec]
    generalize s.closing.reviewed.vouch c = v at hv hself
    obtain ⟨hset, hunp⟩ := v.settled_leaves
    have hlast := State.docket_closed v.settled
    generalize (((v.settled.closeQuads CloseFacts.clean).watchEngines).rewear.drivenModes) = t at hlast ⊢
    have hend : t.ledger = _ := (congrArg Prod.fst hlast).trans (hset.trans hv)
    have hctx : (t.ctx c).standing.unplaced = _ :=
      (congrArg Standing.unplaced (State.standing_of_docket hlast c)).trans ((hunp c).trans (congrArg Standing.unplaced hself))
    exact ⟨(congrArg (fun p => p.1) hend).trans (congrArg (fun p => p.1) hledger),
      (congrArg (fun p => p.2.1) hend).trans (congrArg (fun p => p.2.1) hledger),
      (congrArg (fun p => p.2.2.1) hend).trans (congrArg (fun p => p.2.2.1) hledger),
      (congrArg Standing.turn hctx).trans (congrArg (fun z => (z.turn + 1) % 2 ^ 64) hx),
      (congrArg Standing.lastVouched hctx).trans (congrArg (fun p => p.2.2.1) hledger), congrArg Standing.redo hctx,
      (congrArg (fun p => p.2.2.2.1) hend).trans (congrArg (fun p => bump32 p.2.2.2.1 1) hledger)⟩
  · obtain ⟨hw, hwself, hwkept⟩ := s.closing.reviewed.withhold_leaves c
    have hrun' : (s.closing.reviewed.ctx c).state = .running := (congrArg Standing.state hx).trans hrun
    have hwdock : (((s.closing.reviewed.withhold c).countPoison (s.faultsOf c))).docket = (s.closing.reviewed.withhold c).docket := rfl
    obtain ⟨hp, hpself, hpkept⟩ := ((s.closing.reviewed.withhold c).countPoison (s.faultsOf c)).planFault_leaves c (s.faultsOf c)
      ((congrArg Standing.state hwself).trans hrun')
    have hdec := State.decided_one (s := s.closing) hc hran hfaults hothers (State.closeCtx_faulted hran' hbad' hsome hplan)
      (fun k hk => (hpkept k hk).trans (hwkept k hk))
    rw [hdec]
    generalize ((s.closing.reviewed.withhold c).countPoison (s.faultsOf c)).planFault c (s.faultsOf c) = v at hp hpself hpkept
    have hself : (v.ctx c).standing = { (s.closing.reviewed.ctx c).standing with redo := true, state := .faulted, prior := .running } :=
      hpself.trans (congrArg (fun z : Standing => { z with state := CtxState.faulted, prior := CtxState.running })
        ((State.standing_of_docket hwdock c).trans hwself))
    have hv : v.ledger = _ := hp.trans ((congrArg Prod.fst hwdock).trans hw)
    have hdrain : ∀ k, (v.ctx k).state ≠ .draining := fun k hk => by
      by_cases hkc : k = c
      · subst hkc
        exact CtxState.noConfusion ((congrArg Standing.state hself).symm.trans hk)
      · have hreset : (v.ctx k).standing = Ctx.reset.standing :=
          (hpkept k hkc).trans ((State.standing_of_docket hwdock k).trans ((hwkept k hkc).trans
            ((State.standing_of_docket hrev k).trans (congrArg Ctx.standing (hothers k hkc)))))
        exact CtxState.noConfusion ((congrArg Standing.state hreset).symm.trans hk)
    have hlast := (State.docket_closed v.settled).trans (State.docket_settled hdrain)
    generalize (((v.settled.closeQuads CloseFacts.clean).watchEngines).rewear.drivenModes) = t at hlast ⊢
    have hend : t.ledger = _ := (congrArg Prod.fst hlast).trans hv
    have hctx := (State.standing_of_docket hlast c).trans hself
    exact ⟨(congrArg (fun p => p.1) hend).trans (congrArg (fun p => p.1) hledger),
      (congrArg (fun p => p.2.1) hend).trans (congrArg (fun p => p.2.1) hledger),
      (congrArg (fun p => p.2.2.1) hend).trans (congrArg (fun p => p.2.2.1) hledger),
      (congrArg Standing.turn hctx).trans (congrArg Standing.turn hx), congrArg Standing.state hctx, congrArg Standing.prior hctx,
      congrArg Standing.redo hctx, (congrArg (fun p => p.2.2.2.1) hend).trans (congrArg (fun p => p.2.2.2.1) hledger),
      (congrArg (fun p => p.2.2.2.2.1) hend).trans (congrArg (fun p => bump32 p.2.2.2.2.1 1) hledger)⟩
end

section
/-! ## The DMA token deadline and bank drains -/
namespace Sys2Proof.Machine

/-! ### Bytes of a number -/

theorem leNat_leBytes (n v : Nat) : leNat (leBytes n v) = v % 256 ^ n := by
  induction n generalizing v with
  | zero => exact (Nat.mod_one v).symm
  | succ n ih =>
    have hpow : 256 ^ (n + 1) = 2 ^ 8 * 256 ^ n := Nat.pow_succ'
    rw [leBytes, leNat, ih, BitVec.toNat_ofNat, hpow, Nat.mod_mul]
    rfl

/-! ### What an answer to a packet leaves -/

/-- What a site holds of sluice writes: the words they wrote, those that wait, and the answers on their way to its engine. -/
def Site.pier (a : Site) : Memory × List SluiceWrite × List Answer := (a.scr, a.ex.writes, a.ex.answers)

/-- The reef, the packets that wait for their words, and what each site holds of sluice writes. -/
def State.shore (s : State) : Reef × List InPacket × (Nat → Memory × List SluiceWrite × List Answer) :=
  (s.reef, s.avdin.arrivals, fun j => (s.site j).pier)

theorem State.pier_modSite (s : State) (i : Nat) {g : Site → Site} (h : (g (s.site i)).pier = (s.site i).pier) (j : Nat) :
    ((s.modSite i g).site j).pier = (s.site j).pier := by
  unfold State.modSite
  rw [State.site_setSite]
  split
  · next hj => rw [hj, h]
  · rfl

theorem State.shore_modSite (s : State) (i : Nat) {g : Site → Site} (h : (g (s.site i)).pier = (s.site i).pier) :
    (s.modSite i g).shore = s.shore :=
  Prod.ext rfl (Prod.ext rfl (funext (s.pier_modSite i h)))

theorem State.shore_takeAnswer (s : State) (p : Packet) : (s.takeAnswer p).shore = s.shore := by
  unfold State.takeAnswer
  dsimp only
  split
  · rfl
  split
  · rfl
  · have hnote : ∀ (b : Bool) (u : State) (i : Nat) {f : Site → Site}, (∀ a, (f a).pier = a.pier) → u.shore = s.shore →
        (if b then u else u.modSite i f).shore = s.shore := fun b u i f hf hu => by
      split
      · exact hu
      · exact (u.shore_modSite i (hf _)).trans hu
    split
    · split
      · exact (State.shore_modSite _ _ rfl).trans (hnote _ _ _ (fun _ => rfl) rfl)
      · exact hnote _ _ _ (fun _ => rfl) rfl
    · exact hnote _ _ _ (fun _ => rfl) rfl

theorem State.shore_sendAnswer (s : State) (p : Packet) : (s.sendAnswer p).shore = s.shore := by
  unfold State.sendAnswer
  split
  · exact s.shore_takeAnswer p
  · rfl
  · rfl

/-! ### Writes that are dropped -/

/-- The answers that a dropped write brings to the engine of a site. -/
def SluiceWrite.refusals (w : SluiceWrite) (j : Nat) : List Answer :=
  if w.fromSite = j ∧ j < fromPort then [{ xfer := w.xfer, status := 4, cond := 0, off := 0 }] else []

/-- What the answers of dropped writes leave. -/
structure State.Dropped (s t : State) (l : List SluiceWrite) : Prop where
  reef : t.reef = s.reef
  scr : ∀ j, (t.site j).scr = (s.site j).scr
  writes : ∀ j, (t.site j).ex.writes = (s.site j).ex.writes
  answers : ∀ j, (t.site j).ex.answers = (s.site j).ex.answers ++ l.flatMap (fun w => w.refusals j)
  arrivals : ∀ r ∈ s.avdin.arrivals, (∀ w ∈ l, w.fromSite ≠ fromPort + r.id) → r ∈ t.avdin.arrivals

theorem State.Dropped.of_shore {s t : State} {l : List SluiceWrite} (hpier : t.shore.2.2 = s.shore.2.2) (hreef : t.reef = s.reef)
    (hl : ∀ w ∈ l, ∀ j, w.refusals j = [])
    (harr : ∀ r ∈ s.avdin.arrivals, (∀ w ∈ l, w.fromSite ≠ fromPort + r.id) → r ∈ t.avdin.arrivals) : s.Dropped t l :=
  { reef := hreef
    scr := fun j => congrArg Prod.fst (congrFun hpier j)
    writes := fun j => congrArg (fun p => p.2.1) (congrFun hpier j)
    answers := fun j => by
      rw [List.flatMap_eq_nil_iff.mpr (fun w hw => hl w hw j), List.append_nil]
      exact congrArg (fun p => p.2.2) (congrFun hpier j)
    arrivals := harr }

/-- A write of a packet, dropped: the packets that wait for other words go on waiting. -/
theorem State.packetWord_dropped (s : State) (id : Nat) :
    (s.packetWord id true).shore.2.2 = s.shore.2.2 ∧ (s.packetWord id true).reef = s.reef ∧
      ∀ r ∈ s.avdin.arrivals, r.id ≠ id → r ∈ (s.packetWord id true).avdin.arrivals := by
  unfold State.packetWord
  split
  · exact ⟨rfl, rfl, fun _ h _ => h⟩
  · dsimp only
    split
    · have hsent : ∀ t : State, t.shore = (s.reef, s.avdin.arrivals.filter (fun z => z.id != id), s.shore.2.2) →
          t.shore.2.2 = s.shore.2.2 ∧ t.reef = s.reef ∧ ∀ r ∈ s.avdin.arrivals, r.id ≠ id → r ∈ t.avdin.arrivals := fun t ht => by
        have harr : t.avdin.arrivals = s.avdin.arrivals.filter (fun z => z.id != id) := congrArg (fun p => p.2.1) ht
        exact ⟨congrArg (fun p => p.2.2) ht, congrArg Prod.fst ht, fun r hr hne => harr ▸ List.mem_filter.mpr ⟨hr, bne_iff_ne.mpr hne⟩⟩
      exact hsent _ (State.shore_sendAnswer _ _)
    · refine ⟨rfl, rfl, fun r hr hne => List.mem_map.mpr ⟨r, hr, if_neg hne⟩⟩

theorem State.settleWrite_dropped (s : State) (w : SluiceWrite) : s.Dropped (s.settleWrite w true) [w] := by
  unfold State.settleWrite
  split
  · next h =>
    obtain ⟨hpier, hreef, harr⟩ := s.packetWord_dropped (w.fromSite - fromPort)
    refine State.Dropped.of_shore hpier hreef (fun v hv j => ?_) (fun r hr hne => harr r hr ?_)
    · rw [List.mem_singleton.mp hv]
      exact if_neg (by omega)
    · have := hne w List.mem_cons_self
      omega
  · next h =>
    have hsite : ∀ j, (s.answer w.fromSite w.xfer 4 0 0).site j = if j = w.fromSite then { s.site w.fromSite with ex :=
        { (s.site w.fromSite).ex with answers := (s.site w.fromSite).ex.answers ++
          [{ xfer := w.xfer, status := 4, cond := 0, off := 0 }] } } else s.site j := fun j => s.site_setSite _ _ _
    refine { reef := rfl, scr := fun j => ?_, writes := fun j => ?_, answers := fun j => ?_, arrivals := fun _ hr _ => hr }
    · refine (congrArg Site.scr (hsite j)).trans ?_
      split
      · next hj => rw [hj]
      · rfl
    · refine (congrArg (fun a : Site => a.ex.writes) (hsite j)).trans ?_
      split
      · next hj => rw [hj]
      · rfl
    · refine (congrArg (fun a : Site => a.ex.answers) (hsite j)).trans ?_
      rw [List.flatMap_cons, List.flatMap_nil, List.append_nil]
      unfold SluiceWrite.refusals
      split
      · next hj => rw [if_pos ⟨hj.symm, by omega⟩, hj]
      · next hj => rw [if_neg (fun hc => hj hc.1.symm), List.append_nil]

theorem State.Dropped.cons {s t u : State} {w : SluiceWrite} {l : List SluiceWrite} (h1 : s.Dropped t [w]) (h2 : t.Dropped u l) :
    s.Dropped u (w :: l) :=
  { reef := h2.reef.trans h1.reef
    scr := fun j => (h2.scr j).trans (h1.scr j)
    writes := fun j => (h2.writes j).trans (h1.writes j)
    answers := fun j => by
      rw [h2.answers, h1.answers, List.append_assoc, ← List.flatMap_append, List.singleton_append]
    arrivals := fun r hr hne => h2.arrivals r (h1.arrivals r hr (fun v hv => hne v (List.mem_singleton.mp hv ▸ List.mem_cons_self)))
      (fun v hv => hne v (List.mem_cons_of_mem _ hv)) }

theorem State.settleWrites_dropped (l : List SluiceWrite) (s : State) :
    s.Dropped (l.foldl (fun u w => u.settleWrite w true) s) l := by
  induction l generalizing s with
  | nil => exact State.Dropped.of_shore rfl rfl (fun _ h => absurd h List.not_mem_nil) (fun _ h _ => h)
  | cons w l ih => exact (s.settleWrite_dropped w).cons (ih _)

theorem refusals_eq (l : List SluiceWrite) (p : SluiceWrite → Bool) (j : Nat) : (l.filter p).flatMap (fun w => w.refusals j) =
    (l.filter (fun w => p w && decide (w.fromSite = j ∧ j < fromPort))).map
      (fun w => { xfer := w.xfer, status := 4, cond := 0, off := 0 }) := by
  induction l with
  | nil => rfl
  | cons w l ih =>
    by_cases hp : p w = true
    · by_cases hj : w.fromSite = j ∧ j < fromPort
      · rw [List.filter_cons_of_pos hp, List.filter_cons_of_pos (by rw [hp, decide_eq_true hj]; rfl), List.flatMap_cons, ih]
        unfold SluiceWrite.refusals
        rw [if_pos hj]
        rfl
      · rw [List.filter_cons_of_pos hp, List.filter_cons_of_neg (by rw [decide_eq_false hj, Bool.and_false]; exact Bool.false_ne_true),
          List.flatMap_cons, ih]
        unfold SluiceWrite.refusals
        rw [if_neg hj]
        rfl
    · rw [List.filter_cons_of_neg hp, List.filter_cons_of_neg (by rw [Bool.eq_false_iff.mpr hp]; exact Bool.false_ne_true), ih]

/-! ### The token of a transfer -/

theorem Site.xfer_modXfer {a : Site} {id : Nat} {f : Transfer → Transfer} {y : Transfer} (hf : ∀ t, (f t).id = t.id)
    (h : a.xfer id = some y) : (a.modXfer id f).xfer id = some (f y) := by
  have hid : y.id = id := beq_iff_eq.mp (List.find?_some (p := fun t : Transfer => t.id == id) h)
  have hp : (fun t : Transfer => t.id == id) ∘ (fun t => if t.id == id then f t else t) = fun t => t.id == id := by
    funext t
    rw [Function.comp_apply]
    split
    · rw [hf]
    · rfl
  unfold Site.xfer at h
  unfold Site.xfer Site.modXfer
  dsimp only
  rw [List.find?_map, hp, h, Option.map_some, if_pos (beq_iff_eq.mpr hid)]

/-- The status and the count of unanswered words of a token. -/
theorem Transfer.token_fields (y : Transfer) (status unanswered : Nat) :
    byteAt (y.token status unanswered).bytes 1 = BitVec.ofNat 8 status ∧ leAt (y.token status unanswered).bytes 24 4 = unanswered % 2 ^ 32 :=
  ⟨rfl, (show leAt (y.token status unanswered).bytes 24 4 = leNat (leBytes 4 unanswered) from rfl).trans (leNat_leBytes 4 _)⟩

/-! ### A bank that loses power -/

theorem Memory.byte_clearWhere (m : Memory) (gone : Nat → Bool) (a : Nat) :
    (m.clearWhere gone).byte a = if gone a then 0 else m.byte a := by
  unfold Memory.clearWhere Memory.byte
  dsimp only
  rw [aget_eq, aget_eq, alook_filter_key _ (fun k => !gone k)]
  cases gone a <;> rfl

theorem Memory.isPoisoned_clearWhere (m : Memory) (gone : Nat → Bool) (w : Nat) :
    (m.clearWhere gone).isPoisoned w = (m.isPoisoned w && !gone (w * 64)) := by
  unfold Memory.clearWhere Memory.isPoisoned
  dsimp only
  rw [Bool.eq_iff_iff, List.contains_iff_mem, List.mem_filter, Bool.and_eq_true, List.contains_iff_mem]

theorem Site.byte_powerDown (a : Site) (bank ad : Nat) :
    (a.powerDown bank).scr.byte ad = if ad / 32768 = bank then 0 else a.scr.byte ad := by
  refine (Memory.byte_clearWhere _ _ ad).trans ?_
  by_cases h : ad / 32768 = bank
  · rw [if_pos h, if_pos (beq_iff_eq.mpr h)]
  · rw [if_neg h, if_neg (by rwa [beq_iff_eq])]

theorem Site.isPoisoned_powerDown (a : Site) (bank w : Nat) :
    (a.powerDown bank).scr.isPoisoned w = (a.scr.isPoisoned w && decide (w * 64 / 32768 ≠ bank)) := by
  refine (Memory.isPoisoned_clearWhere _ _ w).trans ?_
  by_cases h : w * 64 / 32768 = bank <;> simp [h]

end Sys2Proof.Machine
open Sys2Proof Sys2Proof.Machine

/-- Settles O32: the token of the transfer is appended to the pad; a bank that goes OFF loses its content, and the writes that
were dropped are answered one after another. -/
theorem deadlineAndDrains : Obligations.DeadlineAndDrains := by
  unfold Obligations.DeadlineAndDrains
  intro s i id bank y
  refine ⟨fun hy hout => ?_, fun hy hwin hcls htok hsil hsent => ?_, fun hno => ?_, fun hdrain hwrites => ?_, fun hdrain => ?_⟩
  · refine exec_dmaTokenCloseDeadline.trans ?_
    unfold execDmaTokenCloseDeadline
    dsimp only
    rw [hy]
    dsimp only
    rw [if_pos (by tauto)]
  · have hx : exec (.dmaTokenCloseDeadline i id) s = execDmaTokenCloseDeadline i id s := exec_dmaTokenCloseDeadline
    unfold execDmaTokenCloseDeadline at hx
    dsimp only at hx
    rw [hy] at hx
    dsimp only at hx
    rw [if_neg (by rw [hcls, htok, hwin]; simp; omega)] at hx
    unfold Site.deliverToken at hx
    rw [hsil] at hx
    obtain ⟨hst, hleft⟩ := y.token_fields (if y.status = 0 ∧ 0 < y.d.words - y.answered then 2 else y.status) (y.d.words - y.answered)
    refine ⟨_, Exists.imp (fun f h => ⟨hx, ⟨rfl, fun j hj => State.site_setSite_ne _ _ _ _ hj⟩, h⟩) ?_⟩
    rw [State.site_setSite_self]
    refine ⟨_, rfl, rfl, rfl, ?_, Site.xfer_modXfer (fun _ => rfl) hy, rfl⟩
    refine congrArg (fun p => [p]) (Prod.ext (hst.trans ?_) hleft)
    by_cases h : y.status = 0 ∧ y.answered < y.d.words
    · rw [if_pos h, if_pos ⟨h.1, by omega⟩]
      rfl
    · rw [if_neg h, if_neg (by omega)]
  · refine exec_bankDrainDone.trans (congrArg Host.Outcome.next (if_neg ?_))
    rcases hno with h | h
    · rw [h]; exact Bool.false_ne_true
    · rw [h, Bool.not_true, Bool.and_false]; exact Bool.false_ne_true
  · have hx := exec_bankDrainDone.trans (congrArg Host.Outcome.next (if_pos (by rw [hdrain, hwrites]; rfl)))
    refine ⟨_, hx, ⟨rfl, fun j hj => State.site_setSite_ne _ _ _ _ hj⟩, ?_⟩
    rw [State.site_setSite_self]
    refine ⟨?_, rfl, ⟨fun _ => rfl, fun _ => rfl, fun _ => rfl, fun _ => rfl, fun _ => rfl⟩, fun k hk hmem => ?_,
      Site.isPoisoned_powerDown _ bank, Site.byte_powerDown _ bank⟩
    · rw [Bool.eq_false_iff, Ne, List.contains_iff_mem]
      exact fun h => bne_iff_ne.mp (List.mem_filter.mp h).2 rfl
    · exact List.mem_filter.mpr ⟨hmem, bne_iff_ne.mpr hk⟩
  · have hx := exec_bankDrainTimeout.trans (congrArg Host.Outcome.next (if_pos hdrain))
    generalize hu : s.setSite i (({ s.site i with ex := { (s.site i).ex with
      writes := (s.site i).ex.writes.filter (fun w => !(bankOf w.addr == bank)) } } : Site).powerDown bank) = u at hx
    have hdrop := State.settleWrites_dropped ((s.site i).ex.writes.filter (fun w => bankOf w.addr == bank)) u
    dsimp only at hx
    rw [hu] at hx
    generalize ((s.site i).ex.writes.filter (fun w => bankOf w.addr == bank)).foldl (fun u w => u.settleWrite w true) u = t at hx hdrop
    have hself : u.site i = _ := hu ▸ State.site_setSite_self s i _
    have hanswers : ∀ j, (u.site j).ex.answers = (s.site j).ex.answers := fun j => by
      rw [← hu, State.site_setSite]
      split
      · next hj => rw [hj]; rfl
      · rfl
    have hreef : t.reef = s.reef := hdrop.reef.trans (by rw [← hu]; rfl)
    have harr : u.avdin = s.avdin := by rw [← hu]; rfl
    refine ⟨_, hx, (hdrop.writes i).trans (by rw [hself]; rfl), fun a => ?_, fun j => ?_, fun r hr hne => ?_, ?_, ?_⟩
    · exact (congrArg (fun m : Memory => m.byte a) (hdrop.scr i)).trans (by rw [hself]; exact Site.byte_powerDown _ bank a)
    · refine (hdrop.answers j).trans ?_
      rw [hanswers, refusals_eq]
    · exact hdrop.arrivals r (harr ▸ hr) (fun w hw => hne w (List.mem_filter.mp hw).1 (List.mem_filter.mp hw).2)
    · exact congrArg (fun z : Reef => bump16 z.bankOffDrops _) hreef
    · exact congrArg (fun z : Reef => bump16 z.drainTimeouts 1) hreef
end

section
/-! ## Sluice writes -/
namespace Sys2Proof.Machine

/-! ### What the passing of cycles leaves of a site -/

/-- What the cycles in which no bundle issues leave of a site: its place, its banks' owners, its scratchpad and its exchange
side. -/
def Site.hull (a : Site) : (Role × Bool × Option Nat × Option Nat × Nat × Nat) × Ownership × Memory × Exchange :=
  ((a.role, a.service, a.ltile, a.ctx, a.gtile, a.descBase), a.bank, a.scr, a.ex)

theorem Site.hull_foldl {α : Type} {f : Site → α → Site} (h : ∀ t x, (f t x).hull = t.hull) (l : List α) (a : Site) :
    (l.foldl f a).hull = a.hull := foldl_fixes Site.hull f h l a

theorem Site.hull_orLane (a : Site) (l : Nat) (f : Flags) : (a.orLane l f).hull = a.hull := by
  unfold Site.orLane
  split <;> rfl

theorem Site.hull_orCol (a : Site) (j : Nat) (f : Flags) : (a.orCol j f).hull = a.hull := by
  unfold Site.orCol
  split <;> rfl

theorem Site.hull_apply (a : Site) (r : Result) : (a.apply r).hull = a.hull := by
  cases r with
  | p r v =>
    show (a.setP r v).hull = a.hull
    unfold Site.setP
    split <;> rfl
  | vm r b w =>
    show (a.setVM r b w).hull = a.hull
    unfold Site.setVM
    split <;> rfl
  | flags _ fs => exact Site.hull_foldl (fun t l => t.hull_orLane l _) _ a
  | _ => rfl

theorem Site.hull_land (a : Site) (c : Nat) : (a.land c).hull = a.hull :=
  Site.hull_foldl (fun t _ => t.hull_apply _) _ a

theorem Site.hull_landRow (a : Site) (c : Nat) (f : Feed) (m : Multiply) (i : Nat) : (a.landRow c f m i).hull = a.hull := by
  unfold Site.landRow
  dsimp only
  split
  · split
    · split
      · rfl
      · exact Site.hull_foldl (fun t j => t.hull_orCol j _) _ _
    · split
      · rfl
      · exact Site.hull_foldl (fun t j => t.hull_orCol j _) _ _
  · exact Site.hull_foldl (fun t j => t.hull_orCol j _) _ _

theorem Site.hull_landRows (a : Site) (c : Nat) : (a.landRows c).hull = a.hull :=
  Site.hull_foldl (fun t f => by
    split
    · split
      · exact t.hull_landRow _ _ _ _
      · rfl
    · rfl) _ a

theorem Site.hull_feedCheck (a : Site) (c : Nat) : (a.feedCheck c).hull = a.hull := by
  unfold Site.feedCheck
  split <;> rfl

theorem Site.hull_arrive (a : Site) (c : Nat) : (a.arrive c).hull = a.hull :=
  (Site.hull_feedCheck _ c).trans ((Site.hull_landRows _ c).trans (a.hull_land c))

theorem Site.hull_reloadAccess (a : Site) (c : Nat) : (a.reloadAccess c).hull = a.hull := by
  unfold Site.reloadAccess
  dsimp only
  (repeat' split) <;> rfl

theorem Site.hull_fetchAccess (a : Site) (held : Bool) (c : Nat) : (a.fetchAccess held c).hull = a.hull := by
  unfold Site.fetchAccess
  dsimp only
  (repeat' split) <;> rfl

theorem Site.hull_weightAccess (a : Site) (held : Bool) (c : Nat) : (a.weightAccess held c).hull = a.hull := by
  unfold Site.weightAccess
  dsimp only
  (repeat' split) <;> rfl

theorem Site.hull_wide (a : Site) (c : Nat) : (a.wide c).hull = a.hull :=
  (Site.hull_weightAccess _ _ c).trans ((Site.hull_fetchAccess _ _ c).trans (a.hull_reloadAccess c))

theorem Site.hull_clocked (a : Site) (n : Nat) : ({ a with seq := { a.seq with clock := n } } : Site).hull = a.hull := rfl

theorem Site.hull_pass (a : Site) (c : Nat) : (a.pass c).hull = a.hull := by
  unfold Site.pass
  exact (Site.hull_clocked _ _).trans ((Site.hull_wide _ c).trans (a.hull_arrive c))

theorem Site.hull_runTo (n c : Nat) (a : Site) : (Site.runTo n c a).hull = a.hull := by
  induction n generalizing a with
  | zero => rfl
  | succ n ih =>
    unfold Site.runTo
    split
    · rfl
    · split
      · rfl
      · exact (ih _).trans (a.hull_pass _)

theorem Site.hull_upTo (a : Site) (c : Nat) : (a.upTo c).hull = a.hull := by
  unfold Site.upTo
  split
  · exact a.hull_runTo _ _
  · rfl

theorem State.upToCycle_eq (s : State) (i cycle : Nat) : s.upToCycle i cycle = { s with sites := (s.upToCycle i cycle).sites } := by
  unfold State.upToCycle
  split <;> rfl

theorem State.site_upToCycle_ne (s : State) {i j : Nat} (cycle : Nat) (h : j ≠ i) : (s.upToCycle i cycle).site j = s.site j := by
  unfold State.upToCycle
  split
  · exact State.site_setSite_ne _ _ _ _ h
  · rfl

theorem State.hull_upToCycle (s : State) (i cycle j : Nat) : ((s.upToCycle i cycle).site j).hull = (s.site j).hull := by
  by_cases h : j = i
  · subst h
    unfold State.upToCycle
    split
    · refine (congrArg Site.hull (State.site_setSite_self s j _)).trans ?_
      exact (s.site j).hull_upTo cycle
    · rfl
  · rw [s.site_upToCycle_ne cycle h]

/-! ### A word that is fetched -/

/-- What a fetched word of a transfer leaves of a site. -/
def Site.deck (a : Site) : Memory × Ownership × List SluiceWrite × List Answer := (a.scr, a.bank, a.ex.writes, a.ex.answers)

theorem Site.deck_of_hull {a b : Site} (h : a.hull = b.hull) : a.deck = b.deck :=
  congrArg (fun x : (Role × Bool × Option Nat × Option Nat × Nat × Nat) × Ownership × Memory × Exchange =>
    (x.2.2.1, x.2.1, x.2.2.2.writes, x.2.2.2.answers)) h

theorem Site.xfer_of_hull {a b : Site} (h : a.hull = b.hull) (id : Nat) : a.xfer id = b.xfer id := by
  have hex : a.ex = b.ex := congrArg (fun x => x.2.2.2) h
  unfold Site.xfer
  rw [hex]

/-- The transfer with its next word on the way. -/
def Transfer.advance (y : Transfer) : Transfer := { y with word := y.word + 1, sent := y.sent + 1 }

/-- The state in which the next word of a transfer has been read. -/
def State.wordOut (s : State) (i id cycle : Nat) : State :=
  (s.upToCycle i cycle).modSite i (fun x => x.modXfer id Transfer.advance)

theorem State.wordOut_eq (s : State) (i id cycle : Nat) : s.wordOut i id cycle = { s with sites := (s.wordOut i id cycle).sites } := by
  unfold State.wordOut State.modSite State.setSite
  rw [State.upToCycle_eq]

theorem State.deck_wordOut (s : State) (i id cycle j : Nat) : ((s.wordOut i id cycle).site j).deck = (s.site j).deck := by
  have hdeck := Site.deck_of_hull (s.hull_upToCycle i cycle j)
  unfold State.wordOut State.modSite
  rw [State.site_setSite]
  split
  · next h => rw [← hdeck, h]; rfl
  · exact hdeck

theorem State.xfer_wordOut {s : State} {i id : Nat} {y : Transfer} (cycle : Nat) (h : (s.site i).xfer id = some y) :
    ((s.wordOut i id cycle).site i).xfer id = some y.advance := by
  unfold State.wordOut State.modSite
  rw [State.site_setSite_self]
  exact Site.xfer_modXfer (fun _ => rfl) ((Site.xfer_of_hull (s.hull_upToCycle i cycle i) id).trans h)

/-- A verdict rests on the quadrants, the contexts and the banks' owners. -/
theorem State.judge_congr {s t : State} (hq : t.quads = s.quads) (hc : t.ctxs = s.ctxs)
    (hb : ∀ j, (t.site j).bank = (s.site j).bank) (q pq tile no off cycle : Nat) (src : WriteFrom) (key : Nat ⊕ Nat) :
    t.judge q pq tile no off cycle src key = s.judge q pq tile no off cycle src key := by
  have hquad : ∀ r, t.quad r = s.quad r := fun r => congrArg (aget Quad.reset · r) hq
  have hctx : ∀ c, t.ctx c = s.ctx c := fun c => congrArg (aget Ctx.reset · c) hc
  unfold State.judge State.findEntry State.siteOf
  simp only [hquad, hctx, hb]

theorem State.judge_wordOut (s : State) (i id at_ q pq tile no off cycle : Nat) (src : WriteFrom) (key : Nat ⊕ Nat) :
    (s.wordOut i id at_).judge q pq tile no off cycle src key = s.judge q pq tile no off cycle src key := by
  refine State.judge_congr ?_ ?_ (fun j => congrArg (fun d => d.2.1) (s.deck_wordOut i id at_ j)) q pq tile no off cycle src key
  · rw [s.wordOut_eq]
  · rw [s.wordOut_eq]

theorem State.countVerdict_eq (s : State) (q : Nat) (v : Verdict) :
    s.countVerdict q v = { s with quads := (s.countVerdict q v).quads } := by
  cases v <;> rfl

theorem State.touchDma_eq (s : State) (i c b : Nat) : s.touchDma i c b = { s with sites := (s.touchDma i c b).sites } := by
  unfold State.touchDma
  split <;> rfl

/-- An access of an engine leaves every site but for the note of its port. -/
theorem State.hull_touchDma (s : State) (i c b j : Nat) : ((s.touchDma i c b).site j).hull = (s.site j).hull := by
  unfold State.touchDma State.modSite
  split
  · rw [State.site_setSite]
    split
    · next h => rw [h]; rfl
    · rfl
  · rfl

/-- The state in which a word has been judged. -/
def State.judged (s : State) (i id cycle dq sc : Nat) (v : Verdict) : State :=
  ((s.wordOut i id cycle).countVerdict dq v).touchDma i cycle (bankOf sc)

theorem State.quads_judged (s : State) (i id cycle dq sc : Nat) (v : Verdict) :
    (s.judged i id cycle dq sc v).quads = (s.countVerdict dq v).quads := by
  have hq : (s.wordOut i id cycle).quads = s.quads := by rw [s.wordOut_eq]
  unfold State.judged
  rw [State.touchDma_eq]
  cases v with
  | violation k c =>
    dsimp only [State.countVerdict, State.modEntry, State.modQuad, State.quad]
    rw [hq]
  | notOwned k =>
    dsimp only [State.countVerdict, State.modEntry, State.modQuad, State.quad]
    rw [hq]
  | _ =>
    dsimp only [State.countVerdict, State.modEntry, State.modQuad, State.quad]
    rw [hq]

theorem State.hull_judged (s : State) (i id cycle dq sc : Nat) (v : Verdict) (j : Nat) :
    ((s.judged i id cycle dq sc v).site j).hull = ((s.wordOut i id cycle).site j).hull := by
  unfold State.judged
  refine (State.hull_touchDma _ i cycle _ j).trans ?_
  rw [State.countVerdict_eq]
  rfl

/-- An admitted word put into the queue of its owner's site, or a refused one answered. -/
def State.verdictDone (s : State) (i dq id off sc : Nat) (a : Site) : Verdict → State
  | .allow k =>
    match (s.quad dq).sluices.find? (fun e => e.1 == k) with
    | none => s
    | some (_, e) =>
      s.modSite (s.siteOf dq (e.owner % Config.tilesPerQuad)) (fun x => { x with ex := { x.ex with
        writes := x.ex.writes ++ [{ addr := e.base + off, bytes := a.scr.word64 sc, poison := a.scr.poison64 sc,
                                    fromSite := i, entry := k, xfer := id }] } })
  | v =>
    match v.answer with
    | some (st, cond) => s.answer i id st cond off
    | none => s

/-- What a word that comes to its judgement finds: its transfer is next in its class, the wide port is free, the bank can be
read, the write need not wait, and no generation has changed. -/
structure State.Judges (s : State) (i id c cycle dq : Nat) (y : Transfer) : Prop where
  xfer : (s.site i).xfer id = some y
  ctx : (s.site i).ctx = some c
  cls : y.cls = .sameQuad ∨ y.cls = .otherQuad
  word : y.word < y.d.words
  turnTo : (s.site i).turnTo id = true
  served : s.dmaServed i cycle = true
  quad : (s.ctx c).quads[y.d.dest % 2048 / Config.tilesPerQuad]? = some dq
  waits : s.writeWaits dq (y.d.dest % 2048 / Config.tilesPerQuad) (y.d.farRegion % 256) (y.wordOff y.word) (.inl c) = false
  access : s.dmaAccess i (s.site i) (y.scratch + 64 * y.word) cycle = .ok
  quadGen : y.quadGen = (s.quad (i / Config.sitesPerQuad)).gen
  ctxGen : y.ctxGen = (s.ctx c).gen

theorem exec_sluiceWriteArrival_judged {s : State} {i id c cycle dq : Nat} {y : Transfer} (h : s.Judges i id c cycle dq y) {v : Verdict}
    (hv : s.judge dq (y.d.dest % 2048 / Config.tilesPerQuad) (y.d.dest % 2048 % Config.tilesPerQuad) (y.d.farRegion % 256)
      (y.wordOff y.word) cycle (if dq = i / Config.sitesPerQuad then .same else .other) (.inl c) = v) :
    exec (.sluiceWriteArrival i id cycle none) s = .next ((s.judged i id cycle dq (y.scratch + 64 * y.word) v).verdictDone i dq id
      (y.wordOff y.word) (y.scratch + 64 * y.word) (s.site i) v) := by
  have hx : exec (.sluiceWriteArrival i id cycle none) s = execSluiceWriteArrival i id cycle none s := exec_sluiceWriteArrival
  have hcls : ¬(y.cls = .ddr ∨ y.cls = .otherDevice ∨ y.d.words ≤ y.word ∨ (!(s.site i).turnTo id) = true ∨
      (!s.dmaServed i cycle) = true) := by
    rw [h.turnTo, h.served]
    rintro (hc | hc | hc | hc | hc)
    · rcases h.cls with h | h <;> rw [h] at hc <;> cases hc
    · rcases h.cls with h | h <;> rw [h] at hc <;> cases hc
    · exact absurd h.word (by omega)
    · cases hc
    · cases hc
  have hgen : ¬(y.quadGen ≠ (s.quad (i / Config.sitesPerQuad)).gen ∨ y.ctxGen ≠ (s.ctx c).gen) :=
    fun hn => hn.elim (fun hn => hn h.quadGen) (fun hn => hn h.ctxGen)
  have hjudge := (s.judge_wordOut i id cycle dq (y.d.dest % 2048 / Config.tilesPerQuad) (y.d.dest % 2048 % Config.tilesPerQuad)
    (y.d.farRegion % 256) (y.wordOff y.word) cycle (if dq = i / Config.sitesPerQuad then .same else .other) (.inl c)).trans hv
  unfold execSluiceWriteArrival at hx
  dsimp only at hx
  rw [h.xfer, h.ctx] at hx
  dsimp only at hx
  rw [if_neg hcls, h.quad] at hx
  dsimp only at hx
  rw [if_neg (by rw [h.waits]; exact Bool.false_ne_true), h.access] at hx
  dsimp only at hx
  have hbad : ¬((none : Option Nat).isSome = true) := Bool.false_ne_true
  rw [if_neg hgen, if_neg hbad] at hx
  refine hx.trans (congrArg Host.Outcome.next ?_)
  have hout : (s.upToCycle i cycle).modSite i (fun x => x.modXfer id (fun y => { y with word := y.word + 1, sent := y.sent + 1 })) =
    s.wordOut i id cycle := rfl
  rw [hout, hjudge]
  unfold State.judged
  generalize ((s.wordOut i id cycle).countVerdict dq v).touchDma i cycle _ = t
  cases v <;> rfl

theorem State.deck_judged (s : State) (i id cycle dq sc : Nat) (v : Verdict) (j : Nat) :
    ((s.judged i id cycle dq sc v).site j).deck = (s.site j).deck :=
  (Site.deck_of_hull (s.hull_judged i id cycle dq sc v j)).trans (s.deck_wordOut i id cycle j)

theorem State.xfer_judged {s : State} {i id : Nat} {y : Transfer} (cycle dq sc : Nat) (v : Verdict) (h : (s.site i).xfer id = some y) :
    ((s.judged i id cycle dq sc v).site i).xfer id = some y.advance :=
  (Site.xfer_of_hull (s.hull_judged i id cycle dq sc v i) id).trans (State.xfer_wordOut cycle h)

/-- The entry of an admitted word, with one more admission. -/
theorem State.entry_admitted {s : State} {dq k : Nat} {e : SluiceEntry} (h : (s.quad dq).sluices.find? (fun z => z.1 == k) = some (k, e)) :
    ((s.countVerdict dq (.allow k)).quad dq).sluices.find? (fun z => z.1 == k) =
      some (k, { e with admitted := min (e.admitted + 1) (2 ^ 64 - 1) }) := by
  have hentry : ((s.countVerdict dq (.allow k)).quad dq).sluices =
      (s.quad dq).sluices.map (fun z => if z.1 == k then (k, { z.2 with admitted := satAdd 64 z.2.admitted 1 }) else z) :=
    congrArg Quad.sluices (s.quad_modQuad_self dq _)
  have hkey : (fun z : Nat × SluiceEntry => z.1 == k) ∘
      (fun z => if z.1 == k then (k, { z.2 with admitted := satAdd 64 z.2.admitted 1 }) else z) = fun z => z.1 == k := by
    funext z
    rw [Function.comp_apply]
    split
    · next hz => rw [hz]; exact beq_self_eq_true k
    · rfl
  rw [hentry, List.find?_map, hkey, h, Option.map_some, if_pos (beq_self_eq_true k)]
  rfl

theorem State.remap_admitted (s : State) (dq k : Nat) : ((s.countVerdict dq (.allow k)).quad dq).remap = (s.quad dq).remap := by
  unfold State.countVerdict State.modEntry
  rw [State.quad_modQuad_self]

theorem State.quad_judged (s : State) (i id cycle dq sc : Nat) (v : Verdict) (q : Nat) :
    (s.judged i id cycle dq sc v).quad q = (s.countVerdict dq v).quad q :=
  congrArg (aget Quad.reset · q) (s.quads_judged i id cycle dq sc v)

theorem State.entry_judged {s : State} {dq k : Nat} {e : SluiceEntry} (i id cycle sc : Nat)
    (h : (s.quad dq).sluices.find? (fun z => z.1 == k) = some (k, e)) :
    ((s.judged i id cycle dq sc (.allow k)).quad dq).sluices.find? (fun z => z.1 == k) =
      some (k, { e with admitted := min (e.admitted + 1) (2 ^ 64 - 1) }) := by
  rw [s.quad_judged]
  exact State.entry_admitted h

theorem State.siteOf_judged (s : State) (i id cycle dq sc k n : Nat) :
    (s.judged i id cycle dq sc (.allow k)).siteOf dq n = s.siteOf dq n := by
  unfold State.siteOf
  rw [s.quad_judged, s.remap_admitted]

theorem Memory.byte_setWord64 (m : Memory) {a : Nat} {bs : List Byte} (ha : a % 64 = 0) (hl : bs.length = 64) (p : Bool) (x : Nat) :
    (m.setWord64 a bs p).byte x = if a ≤ x ∧ x < a + 64 then byteAt bs (x - a) else m.byte x := by
  unfold Memory.setWord64
  rw [Memory.byte_mark, Memory.byte_write_if, List.take_of_length_le (by omega), hl, Nat.div_mul_cancel (Nat.dvd_of_mod_eq_zero ha)]
  rfl

/-- A write that joins the queue of a site. -/
def Site.queued (a : Site) (w : SluiceWrite) : Site := { a with ex := { a.ex with writes := a.ex.writes ++ [w] } }

theorem State.modSite_queued (s : State) (o : Nat) (w : SluiceWrite) :
    ((s.modSite o (fun x => x.queued w)).site o).ex.writes = (s.site o).ex.writes ++ [w] ∧
      (∀ j id, ((s.modSite o (fun x => x.queued w)).site j).xfer id = (s.site j).xfer id) ∧
      ∀ j, ((s.modSite o (fun x => x.queued w)).site j).scr = (s.site j).scr := by
  unfold State.modSite
  refine ⟨by rw [State.site_setSite_self]; rfl, fun j id => ?_, fun j => ?_⟩
  · rw [State.site_setSite]
    split
    · next h => rw [h]; rfl
    · rfl
  · rw [State.site_setSite]
    split
    · next h => rw [h]; rfl
    · rfl

theorem State.answer_leaves (s : State) (i id st cond off : Nat) :
    ((s.answer i id st cond off).site i).ex.answers = (s.site i).ex.answers ++ [{ xfer := id, status := st, cond := cond, off := off }] ∧
      (∀ j, j ≠ i → (s.answer i id st cond off).site j = s.site j) ∧
      (∀ j n, ((s.answer i id st cond off).site j).xfer n = (s.site j).xfer n) ∧
      ∀ j, ((s.answer i id st cond off).site j).ex.writes = (s.site j).ex.writes ∧ ((s.answer i id st cond off).site j).scr = (s.site j).scr := by
  unfold State.answer State.modSite
  refine ⟨by rw [State.site_setSite_self], fun j hj => State.site_setSite_ne _ _ _ _ hj, fun j n => ?_, fun j => ?_⟩
  · rw [State.site_setSite]
    split
    · next h => rw [h]; rfl
    · rfl
  · rw [State.site_setSite]
    split
    · next h => rw [h]; exact ⟨rfl, rfl⟩
    · exact ⟨rfl, rfl⟩

/-- The status that an answer notes in a transfer without one. -/
def Answer.noted (r : Answer) : Nat :=
  if r.status = 0 then 0 else if r.status = 6 then 6 else if r.status = 1 then 1 else if r.status = 3 then 3 else if r.status = 4 then 4 else 5

theorem Transfer.id_answerWord (y : Transfer) (r : Answer) : (y.answerWord r).id = y.id := by
  have hnote : ∀ (u : Transfer) n, (u.note n).id = u.id := fun u n => by
    unfold Transfer.note
    split <;> rfl
  unfold Transfer.answerWord
  dsimp only
  (repeat' split)
  · rfl
  all_goals exact hnote _ _

theorem Transfer.answerWord_leaves {y : Transfer} (r : Answer) (h : y.status = 0) :
    (y.answerWord r).answered = y.answered + 1 ∧
      (y.answerWord r).bytes = y.bytes + (if r.status = 0 ∨ r.status = 6 then 64 else 0) ∧ (y.answerWord r).status = r.noted := by
  unfold Transfer.answerWord Answer.noted Transfer.note
  dsimp only
  by_cases h0 : r.status = 0
  · simp [h0, h]
  by_cases h6 : r.status = 6
  · simp [h6, h, tokCode]
  by_cases h1 : r.status = 1
  · simp [h1, h, tokCode]
  by_cases h3 : r.status = 3
  · simp [h3, h, tokCode]
  by_cases h4 : r.status = 4
  · simp [h4, h, tokCode]
  · simp [h0, h6, h1, h3, h4, h, tokCode]

end Sys2Proof.Machine
open Sys2Proof Sys2Proof.Machine

/-- Settles O31: the word is judged against the table that its reading leaves as it was, and put into its owner's queue or
answered; a write that lands is answered, and an answer is counted. -/
theorem sluiceWrites : Obligations.SluiceWrites := by
  unfold Obligations.SluiceWrites
  refine ⟨fun s i c cycle id dq y => ?_, fun s i bank cycle id w r y => ?_⟩
  · intro b q per off sc tile v hxfer hctx hcls hword hturn hserved hwaits haccess hquad hqgen hcgen
    have hj : s.Judges i id c cycle dq y :=
      { xfer := hxfer, ctx := hctx, cls := hcls, word := hword, turnTo := hturn, served := hserved, quad := hquad, waits := hwaits
        access := haccess, quadGen := hqgen, ctxGen := hcgen }
    refine ⟨fun k e hv hentry => ?_, fun st cond hv => ?_⟩
    · have hx := exec_sluiceWriteArrival_judged hj (v := .allow k) hv
      have hdeck := s.deck_judged i id cycle dq sc (.allow k)
      have hfound := State.entry_judged i id cycle sc hentry
      have hy := State.xfer_judged cycle dq sc (.allow k) hxfer
      have hsite := s.siteOf_judged i id cycle dq sc k (e.owner % 512)
      unfold State.verdictDone at hx
      dsimp only at hx
      rw [show (s.judged i id cycle dq (y.scratch + 64 * y.word) (.allow k)) = s.judged i id cycle dq sc (.allow k) from rfl, hfound] at hx
      dsimp only at hx
      rw [show (s.judged i id cycle dq sc (.allow k)).siteOf dq (e.owner % Config.tilesPerQuad) = s.siteOf dq (e.owner % 512) from hsite] at hx
      generalize s.judged i id cycle dq sc (.allow k) = t at hx hdeck hfound hy
      obtain ⟨hwrites, hsame, hscr⟩ := t.modSite_queued (s.siteOf dq (e.owner % 512))
        { addr := e.base + off, bytes := b.scr.word64 sc, poison := b.scr.poison64 sc, fromSite := i, entry := k, xfer := id }
      refine ⟨_, _, hx, hwrites.trans (congrArg (· ++ [_]) (congrArg (fun d => d.2.2.1) (hdeck _))), rfl, rfl, rfl, rfl, rfl,
        (hsame i id).trans hy, hfound, fun j => (hscr j).trans (congrArg Prod.fst (hdeck j))⟩
    · have hx := exec_sluiceWriteArrival_judged hj (v := v) rfl
      have hdeck := s.deck_judged i id cycle dq sc v
      have hy := State.xfer_judged cycle dq sc v hxfer
      have hdone : (s.judged i id cycle dq sc v).verdictDone i dq id off sc b v = (s.judged i id cycle dq sc v).answer i id st cond off := by
        generalize s.judged i id cycle dq sc v = t
        clear_value v
        cases v with
        | stale => cases hv
        | allow k => cases hv
        | resetting => cases hv; rfl
        | noEntry => cases hv; rfl
        | violation k c => cases hv; rfl
        | bankOff k => cases hv; rfl
        | notOwned k => cases hv; rfl
      obtain ⟨hans, -, hsame, hkept⟩ := (s.judged i id cycle dq sc v).answer_leaves i id st cond off
      refine ⟨_, hx.trans (congrArg Host.Outcome.next hdone), hans.trans ?_, (hsame i id).trans hy, fun j => ⟨(hkept j).1.trans ?_, (hkept j).2.trans ?_⟩⟩
      · exact congrArg (· ++ [_]) (congrArg (fun d => d.2.2.2) (hdeck i))
      · exact congrArg (fun d => d.2.2.1) (hdeck j)
      · exact congrArg Prod.fst (hdeck j)
  · intro b u room
    have hhull := s.hull_upToCycle i cycle i
    have hwrites : (u.site i).ex.writes = b.ex.writes := congrArg (fun x => x.2.2.2.writes) hhull
    have hscr : (u.site i).scr = b.scr := congrArg (fun x => x.2.2.1) hhull
    have hland : exec (.sluiceWriteLand i bank cycle) s = execSluiceWriteLand i bank cycle s := exec_sluiceWriteLand
    unfold execSluiceWriteLand at hland
    dsimp only at hland
    refine ⟨fun hw hroom => ?_, fun hw hroom hal hlen hfrom => ?_, fun hr hy hst => ?_⟩
    · rw [show (s.upToCycle i cycle).site i = u.site i from rfl, hwrites, hw] at hland
      dsimp only at hland
      rw [if_pos (by rw [show u.portWrites (u.site i) bank cycle = false from hroom]; rfl)] at hland
      exact hland
    · rw [show (s.upToCycle i cycle).site i = u.site i from rfl, hwrites, hw] at hland
      dsimp only at hland
      rw [if_neg (by rw [show u.portWrites (u.site i) bank cycle = true from hroom]; exact Bool.false_ne_true)] at hland
      unfold State.settleWrite at hland
      rw [if_neg (by omega : ¬fromPort ≤ w.fromSite), if_neg Bool.false_ne_true, hscr] at hland
      have hans := fun j => congrArg (fun x => x.2.2.2.answers) (s.hull_upToCycle i cycle j)
      have hmem := fun j => congrArg (fun x => x.2.2.1) (s.hull_upToCycle i cycle j)
      obtain ⟨hnew, -, -, hkept⟩ := (u.setSite i { u.site i with
        scr := b.scr.setWord64 w.addr w.bytes w.poison
        ex := { (u.site i).ex with writes := b.ex.writes.erase w, landAt := cycle + 1 } }).answer_leaves w.fromSite w.xfer
          (if w.poison then 6 else 0) 0 0
      refine ⟨_, hland, (hkept i).1.trans ?_, fun a => ?_, ?_, hnew.trans ?_, fun j hj => (hkept j).2.trans ?_⟩
      · rw [State.site_setSite_self]
      · rw [(hkept i).2, State.site_setSite_self]
        exact Memory.byte_setWord64 b.scr hal hlen w.poison a
      · rw [(hkept i).2, State.site_setSite_self]
        exact (Memory.isPoisoned_mark _ _ _ _).trans (if_pos rfl)
      · rw [State.site_setSite]
        refine congrArg (· ++ [_]) ?_
        split
        · next h => rw [h]; exact hans i
        · exact hans w.fromSite
      · rw [State.site_setSite_ne _ _ _ _ hj]
        exact hmem j
    · have hx : exec (.sluiceAnswerArrival i id cycle) s = execSluiceAnswerArrival i id cycle s := exec_sluiceAnswerArrival
      unfold execSluiceAnswerArrival at hx
      dsimp only at hx
      rw [show (s.site i).ex.answers.find? (fun r => r.xfer == id) = some r from hr] at hx
      dsimp only at hx
      have hy' : ({ s.site i with ex := { (s.site i).ex with answers := (s.site i).ex.answers.erase r } } : Site).xfer id = some y := hy
      rw [hy'] at hx
      dsimp only at hx
      obtain ⟨hcount, hbytes, hstatus⟩ := y.answerWord_leaves r hst
      have hz := Site.xfer_modXfer (f := fun z => z.answerWord r) (fun z => Transfer.id_answerWord z r) hy'
      generalize hc : ({ s.site i with ex := { (s.site i).ex with answers := (s.site i).ex.answers.erase r } } : Site).modXfer id
        (fun z => z.answerWord r) = a at hx hz
      have ha : a.ex.answers = b.ex.answers.erase r ∧ a.seq = b.seq ∧ a.scr = b.scr ∧ a.faults = b.faults := by
        rw [← hc]
        exact ⟨rfl, rfl, rfl, rfl⟩
      obtain ⟨hans, hseq, hscr, hfaults⟩ := ha
      refine ⟨_, y.answerWord r, hx, ⟨rfl, fun j hj => State.site_setSite_ne _ _ _ _ hj⟩, ?_⟩
      rw [State.site_setSite_self]
      by_cases hv : r.status = 1 ∧ y.violation = none
      · rw [if_pos hv, if_pos hv]
        refine ⟨hans, hz, hcount, hbytes, hstatus, hseq, hscr, ?_⟩
        unfold Site.violate
        dsimp only
        rw [List.map_append, hfaults]
        rfl
      · rw [if_neg hv, if_neg hv, List.append_nil]
        exact ⟨hans, hz, hcount, hbytes, hstatus, hseq, hscr, by rw [hfaults]⟩
end

section
/-! ## DMA descriptors and transfers from device DDR -/
namespace Sys2Proof.Machine

/-! ### A unit of a transfer -/

theorem State.isRetired_unit (s : State) (q l : Nat) : s.isRetired q l = s.isRetired q (128 * (l / 128)) := by
  have hg : 128 * (l / 128) / 1024 = l / 1024 := by omega
  unfold State.isRetired Ddr.locate
  dsimp only
  rw [hg]
  split <;> split <;> simp_all

theorem State.site_engineIssue (s : State) (q e c i : Nat) : (s.engineIssue q e c).site i = s.site i := rfl

/-- A token that a transfer sends to its own site. -/
theorem Site.deliverToken_pad {a : Site} {t : Transfer} (h : t.silent = false) (c status unanswered : Nat) :
    ∃ f : Flight, a.deliverToken t c status unanswered = { a with ex := { a.ex with pad := a.ex.pad ++ [f] } } ∧ f.msg.pinned = c ∧
      f.hop = t.d.hopper % 4 ∧ f.msg.units = [t.token status unanswered] := by
  unfold Site.deliverToken
  rw [h]
  exact ⟨{ toTile := a.gtile, hop := t.d.hopper % 4, order := 0, msg := {
    units := [t.token status unanswered], tag := BitVec.ofNat 8 t.d.tag, source := .ownDma, visible := c, pinned := c } },
    rfl, rfl, rfl, rfl⟩

/-- The transfer that a descriptor of device DDR starts. -/
def Site.ddrTransfer (b : Site) (r : DmaReq) (quadGen ctxGen turn : Nat) : Transfer :=
  { id := b.ex.xferNo, quadGen := quadGen, ctxGen := ctxGen, desc := r.desc, d := b.desc r.desc
    scratch := (b.desc r.desc).scratch + r.sa.toNat, far := (b.desc r.desc).farBase + r.sb.toNat, cls := (b.desc r.desc).cls
    turn := turn, pkt := 0, word := 0, sent := 0, answered := 0, status := 0, bytes := 0, nackOff := 0, nackClosed := 0
    nackReset := 0, violation := none, silent := false, tokenSent := false }

theorem State.site_engineRetire (s : State) (q e i : Nat) : (s.engineRetire q e).site i = s.site i := rfl

theorem Site.xfer_dropXfer (a : Site) (id : Nat) : (a.dropXfer id).xfer id = none := by
  unfold Site.xfer Site.dropXfer
  rw [List.find?_eq_none]
  intro t ht
  have hne := bne_iff_ne.mp (List.mem_filter.mp ht).2
  exact fun h => hne (beq_iff_eq.mp h)

/-- The bytes that a token counts. -/
theorem Transfer.token_bytes (y : Transfer) (status unanswered : Nat) :
    byteAt (y.token status unanswered).bytes 1 = BitVec.ofNat 8 status ∧ leAt (y.token status unanswered).bytes 8 4 = y.bytes % 2 ^ 32 :=
  ⟨rfl, (show leAt (y.token status unanswered).bytes 8 4 = leNat (leBytes 4 y.bytes) from rfl).trans (leNat_leBytes 4 _)⟩

/-- A unit that is not lost is neither poisoned nor on a retired channel. -/
theorem State.unit_of_found {s : State} {q u : Nat} (h : (s.eccOf q u []).lost = false) : s.unitPoison q (128 * u) = false := by
  have hx : (s.eccAt q (128 * u) EccFind.clean).lost = false := h
  rw [State.eccAt_clean] at hx
  by_contra hc
  rw [if_pos (Bool.eq_true_of_not_eq_false hc)] at hx
  cases hx

/-- An engine's access rests on the turn, the quadrants, the site's role and context, and its banks. -/
theorem State.dmaAccess_congr {s t : State} {i : Nat} {a b : Site} (hturn : t.turn = s.turn) (hq : t.quads = s.quads)
    (hrole : (t.site i).role = (s.site i).role) (hctx : (t.site i).ctx = (s.site i).ctx) (hbank : a.bank = b.bank) (ad cycle : Nat) :
    t.dmaAccess i a ad cycle = s.dmaAccess i b ad cycle := by
  have hquad : ∀ r, t.quad r = s.quad r := fun r => congrArg (aget Quad.reset · r) hq
  unfold State.dmaAccess State.serviceMode Site.owner
  simp only [hturn, hquad, hrole, hctx, hbank]

/-- The site with a unit that came from DDR, and its transfer with the unit counted. -/
def Site.gained (a : Site) (id sc : Nat) (bs : List Byte) : Site :=
  ({ a with scr := (a.scr.setWord64 sc (bs.take 64) false).setWord64 (sc + 64) (bs.drop 64) false } : Site).modXfer id
    (fun y => { y with bytes := y.bytes + 128 })

/-- A clean unit, in a bank that the engine can reach. -/
theorem State.moveUnit_clean {s : State} {i q k ddrAt cycle : Nat} {y : Transfer} (hop : y.d.op = 1)
    (hacc : s.dmaAccess i (s.site i) (y.scratch + 128 * k) cycle = .ok)
    (hecc : (s.eccOf q ((ddrAt + y.far + k / (y.d.rowBytes / 128) * y.d.stride + 128 * (k % (y.d.rowBytes / 128))) / 128) []).lost = false) :
    s.moveUnit i q y ddrAt cycle [] k = s.modSite i (fun x => x.gained y.id (y.scratch + 128 * k)
      (s.ddrBytes q (ddrAt + y.far + k / (y.d.rowBytes / 128) * y.d.stride + 128 * (k % (y.d.rowBytes / 128))) 128)) := by
  have hret := (s.isRetired_unit q (ddrAt + y.far + k / (y.d.rowBytes / 128) * y.d.stride + 128 * (k % (y.d.rowBytes / 128)))).trans
    (State.isRetired_of_poison (State.unit_of_found hecc))
  unfold State.moveUnit
  dsimp only
  rw [hacc]
  dsimp only
  rw [if_pos hop, hecc, State.touchRetired_of_unit hret, State.ddrFinds_nil]
  rfl

theorem Memory.byte_gained (m : Memory) {sc : Nat} {bs : List Byte} (hsc : sc % 64 = 0) (hl : bs.length = 128) (x : Nat) :
    ((m.setWord64 sc (bs.take 64) false).setWord64 (sc + 64) (bs.drop 64) false).byte x =
      if sc ≤ x ∧ x < sc + 128 then byteAt bs (x - sc) else m.byte x := by
  rw [Memory.byte_setWord64 _ (by omega) (by rw [List.length_drop]; omega), Memory.byte_setWord64 _ hsc (by rw [List.length_take]; omega)]
  unfold byteAt
  by_cases h1 : sc + 64 ≤ x ∧ x < sc + 64 + 64
  · rw [if_pos h1, if_pos (by omega), List.getD_eq_getElem?_getD, List.getD_eq_getElem?_getD, List.getElem?_drop]
    congr 2
    omega
  · rw [if_neg h1]
    by_cases h2 : sc ≤ x ∧ x < sc + 64
    · rw [if_pos h2, if_pos (by omega), List.getD_eq_getElem?_getD, List.getD_eq_getElem?_getD, List.getElem?_take_of_lt (by omega)]
    · rw [if_neg h2, if_neg (by omega)]

/-- The state in which the first `k` units of a transfer have come. -/
structure State.Brought (s v : State) (i id : Nat) (b : Site) (y : Transfer) (q : Nat) (far : Nat → Nat) (k : Nat) : Prop where
  rest : v = { s with sites := v.sites }
  others : ∀ j, j ≠ i → v.site j = s.site j
  site : v.site i = { b with scr := (v.site i).scr, ex := { b.ex with xfers := (v.site i).ex.xfers }, usedAt := (v.site i).usedAt,
                             usedBanks := (v.site i).usedBanks }
  xfer : (v.site i).xfer id = some { y with bytes := y.bytes + 128 * k }
  bytes : ∀ m j, m < k → j < 128 → (v.site i).scr.byte (y.scratch + 128 * m + j) = (s.ddr.memory q).byte (far m + j)
  kept : ∀ a, (a < y.scratch ∨ y.scratch + 128 * k ≤ a) → (v.site i).scr.byte a = b.scr.byte a

theorem State.touchDma_leaves (s : State) (i c b : Nat) : s.touchDma i c b = { s with sites := (s.touchDma i c b).sites } ∧
    (∀ j, j ≠ i → (s.touchDma i c b).site j = s.site j) ∧
    (s.touchDma i c b).site i = { s.site i with usedAt := ((s.touchDma i c b).site i).usedAt, usedBanks := ((s.touchDma i c b).site i).usedBanks } := by
  refine ⟨s.touchDma_eq i c b, fun j hj => ?_, ?_⟩
  · unfold State.touchDma
    split
    · exact State.site_setSite_ne _ _ _ _ hj
    · rfl
  · unfold State.touchDma
    split
    · unfold State.modSite
      rw [State.site_setSite_self]
      rfl
    · rfl

theorem State.Brought.touch {s v : State} {i id : Nat} {b : Site} {y : Transfer} {q : Nat} {far : Nat → Nat} {k : Nat}
    (h : s.Brought v i id b y q far k) (c bank : Nat) : s.Brought (v.touchDma i c bank) i id b y q far k := by
  obtain ⟨hrest, hothers, hsite⟩ := v.touchDma_leaves i c bank
  have hscr : ((v.touchDma i c bank).site i).scr = (v.site i).scr := by rw [hsite]
  have hex : ((v.touchDma i c bank).site i).ex = (v.site i).ex := by rw [hsite]
  refine ⟨?_, fun j hj => (hothers j hj).trans (h.others j hj), ?_, ?_, fun m j hm hj => ?_, fun a ha => ?_⟩
  · rw [hrest, h.rest]
  · rw [hsite, h.site]
  · unfold Site.xfer
    rw [hex]
    exact h.xfer
  · rw [hscr]
    exact h.bytes m j hm hj
  · rw [hscr]
    exact h.kept a ha

/-- Where unit `k` of a transfer lies in DDR, from local address `base` of its region. -/
def Transfer.unitAt (y : Transfer) (base k : Nat) : Nat :=
  base + y.far + k / (y.d.rowBytes / 128) * y.d.stride + 128 * (k % (y.d.rowBytes / 128))

theorem State.Brought.unit {s v : State} {i id q k base cycle : Nat} {b : Site} {y : Transfer}
    (h : s.Brought v i id b y q (y.unitAt base) k) (hid : y.id = id) (hop : y.d.op = 1) (hal : y.scratch % 64 = 0)
    (hrole : b.role = (s.site i).role) (hctx : b.ctx = (s.site i).ctx)
    (hacc : s.dmaAccess i b (y.scratch + 128 * k) cycle = .ok) (hecc : (s.eccOf q (y.unitAt base k / 128) []).lost = false) :
    s.Brought (v.moveUnit i q y base cycle [] k) i id b y q (y.unitAt base) (k + 1) := by
  have hturn : v.turn = s.turn := by rw [h.rest]
  have hquads : v.quads = s.quads := by rw [h.rest]
  have hddr : v.ddr = s.ddr := by rw [h.rest]
  have hvrole : (v.site i).role = (s.site i).role := by rw [h.site, ← hrole]
  have hvctx : (v.site i).ctx = (s.site i).ctx := by rw [h.site, ← hctx]
  have hvbank : (v.site i).bank = b.bank := by rw [h.site]
  have hvacc := (State.dmaAccess_congr hturn hquads hvrole hvctx hvbank (y.scratch + 128 * k) cycle).trans hacc
  have hvecc : (v.eccOf q (y.unitAt base k / 128) []).lost = false := by
    rw [h.rest]
    exact hecc
  have hbytes : v.ddrBytes q (y.unitAt base k) 128 = (s.ddr.memory q).read (y.unitAt base k) 128 := by
    unfold State.ddrBytes
    rw [hddr]
  have hlen : ((s.ddr.memory q).read (y.unitAt base k) 128).length = 128 := by
    unfold Memory.read
    rw [List.length_map, List.length_range]
  have hmove := (State.moveUnit_clean hop hvacc hvecc).trans (congrArg (fun bs => v.modSite i (fun x => x.gained y.id (y.scratch + 128 * k) bs)) hbytes)
  rw [hmove, hid]
  generalize hr : (s.ddr.memory q).read (y.unitAt base k) 128 = bs at hlen
  have hself : (v.modSite i (fun x => x.gained id (y.scratch + 128 * k) bs)).site i = (v.site i).gained id (y.scratch + 128 * k) bs :=
    State.site_setSite_self _ _ _
  have hscr : ∀ a, ((v.site i).gained id (y.scratch + 128 * k) bs).scr.byte a =
      if y.scratch + 128 * k ≤ a ∧ a < y.scratch + 128 * k + 128 then byteAt bs (a - (y.scratch + 128 * k)) else (v.site i).scr.byte a :=
    Memory.byte_gained _ (by omega) hlen
  refine ⟨?_, fun j hj => (State.site_setSite_ne _ _ _ _ hj).trans (h.others j hj), ?_, ?_, fun m j hm hj => ?_, fun a ha => ?_⟩
  · unfold State.modSite State.setSite
    rw [h.rest]
  · rw [hself]
    unfold Site.gained Site.modXfer
    rw [h.site]
  · rw [hself]
    have hx : ∀ m, ({ v.site i with scr := m } : Site).xfer id = some { y with bytes := y.bytes + 128 * k } := fun _ => h.xfer
    refine (Site.xfer_modXfer (f := fun z : Transfer => { z with bytes := z.bytes + 128 }) (fun _ => rfl) (hx _)).trans ?_
    rw [Nat.mul_succ, ← Nat.add_assoc]
  · rw [hself, hscr]
    by_cases hmk : m = k
    · subst hmk
      rw [if_pos (by omega), Nat.add_sub_cancel_left, ← hr]
      unfold byteAt Memory.read
      rw [List.getD_eq_getElem?_getD, List.getElem?_map, List.getElem?_range hj]
      rfl
    · rw [if_neg (by omega)]
      exact h.bytes m j (by omega) hj
  · rw [hself, hscr, if_neg (by omega)]
    exact h.kept a (by omega)

/-- Every unit of a clean transfer, one after another. -/
theorem State.brought_all {s : State} {i id q base cycle : Nat} {b : Site} {y : Transfer} (hsite : b.hull = (s.site i).hull) (v : State)
    (hv : s.Brought v i id b y q (y.unitAt base) 0) (hid : y.id = id) (hop : y.d.op = 1) (hal : y.scratch % 64 = 0) (n : Nat)
    (hunits : ∀ k, k < n → s.dmaAccess i b (y.scratch + 128 * k) cycle = .ok ∧ (s.eccOf q (y.unitAt base k / 128) []).lost = false) :
    s.Brought ((List.range n).foldl (fun u k => (u.moveUnit i q y base cycle [] k).touchDma i cycle (bankOf (y.scratch + 128 * k))) v)
      i id b y q (y.unitAt base) n := by
  have hrole : b.role = (s.site i).role := congrArg (fun x => x.1.1) hsite
  have hctx : b.ctx = (s.site i).ctx := congrArg (fun x => x.1.2.2.2.1) hsite
  induction n with
  | zero => exact hv
  | succ n ih =>
    rw [List.range_succ, List.foldl_append, List.foldl_cons, List.foldl_nil]
    obtain ⟨hacc, hecc⟩ := hunits n (Nat.lt_succ_self n)
    exact ((ih (fun k hk => hunits k (by omega))).unit hid hop hal hrole hctx hacc hecc).touch cycle _

theorem State.ctx_upToCycle (s : State) (i cycle c : Nat) : (s.upToCycle i cycle).ctx c = s.ctx c := by
  rw [s.upToCycle_eq]
  rfl

/-- The units of a transfer from a region that its context's plan names, and the traffic that they count. -/
theorem State.moveAll_region {s : State} {i c cycle : Nat} {y : Transfer} {g : Region} {a : Site} (ha : s.site i = a) (hc : a.ctx = some c)
    (hg : (s.ctx c).plan.bind (fun p => p.body.regions[y.d.farRegion]?) = some g) :
    s.moveAll i y cycle [] = (fun u : State => { u with ddr := { u.ddr with
        used := amod 0 u.ddr.used (i / Config.sitesPerQuad) (fun k => k + y.d.total / 128) } })
      ((List.range (y.d.total / 128)).foldl (fun u k => (u.moveUnit i (i / Config.sitesPerQuad) y ((s.ctx c).regionAt g) cycle [] k).touchDma i cycle
        (bankOf (y.scratch + 128 * k))) s) := by
  unfold State.moveAll
  dsimp only
  rw [ha, hc]
  dsimp only
  rw [hg]

end Sys2Proof.Machine
open Sys2Proof Sys2Proof.Machine

/-- Settles O30: a descriptor that passes its checks starts its transfer, and one that does not is answered; the units of a
transfer come one after another. -/
theorem ddrTransfers : Obligations.DdrTransfers := by
  unfold Obligations.DdrTransfers
  refine ⟨fun s i c cycle r rest p => ?_, fun s i cycle hno => ?_, fun s i c cycle id y p g => ?_⟩
  · intro a b x d sc far hwin hserved hq hc hp
    have hx : exec (.dmaDescriptorFetch i cycle) s = execDmaDescriptorFetch i cycle s := exec_dmaDescriptorFetch
    have hrun : ¬((decide (s.turn.window ≠ .work) || !s.dmaServed i cycle) = true) := by rw [hwin, hserved]; exact Bool.false_ne_true
    have hsame : s.upToCycle i cycle = { s with sites := (s.upToCycle i cycle).sites } := s.upToCycle_eq i cycle
    have hne : ∀ (z : Site) j, j ≠ i → ((s.upToCycle i cycle).setSite i z).site j = s.site j := fun z j hj =>
      (State.site_setSite_ne _ _ _ _ hj).trans (s.site_upToCycle_ne cycle hj)
    unfold execDmaDescriptorFetch at hx
    dsimp only at hx
    rw [if_neg hrun] at hx
    have hb : ((s.upToCycle i cycle).site i).touch cycle (bankOf ((s.upToCycle i cycle).site i).descBase) = b := rfl
    rw [hb, hq, hc] at hx
    dsimp only at hx
    rw [hp] at hx
    clear_value b
    dsimp only at hx
    rw [← hc] at hx
    refine ⟨fun hop hok => ?_, fun hok => ?_⟩
    · have hcls : d.cls = .ddr := if_neg (by omega)
      have haway : ¬(decide (d.cls = .otherDevice) = true) := by rw [hcls]; exact Bool.false_ne_true
      have hgood : (d.ok p (b.gtile / Config.tilesPerQuad) sc far && (!decide (d.cls = .otherDevice) ||
          decide ((x.crossing d).packets + d.rows ≤ 256))) = true := by
        rw [show d.ok p (b.gtile / Config.tilesPerQuad) sc far = true from hok, hcls]
        rfl
      rw [if_pos hgood, if_neg haway, if_neg haway] at hx
      refine ⟨_, Exists.imp (fun y h => ⟨hx, ⟨?_, fun j hj => hne _ j hj⟩, h⟩) ?_⟩
      · rw [hsame]
        rfl
      · rw [State.site_engineIssue, State.site_setSite_self]
        exact ⟨b.ddrTransfer r (s.quad (i / Config.sitesPerQuad)).gen x.gen s.turn.no, rfl, rfl, rfl, rfl, rfl, hcls, rfl, rfl, rfl, rfl, rfl⟩
    · have hgood : ¬((d.ok p (b.gtile / Config.tilesPerQuad) sc far && (!decide (d.cls = .otherDevice) ||
          decide ((x.crossing d).packets + d.rows ≤ 256))) = true) := by
        rw [show d.ok p (b.gtile / Config.tilesPerQuad) sc far = false from hok]
        exact Bool.false_ne_true
      rw [if_neg hgood] at hx
      generalize hz : Transfer.mk _ _ _ _ _ _ _ _ _ _ _ _ _ _ _ _ _ _ _ _ _ = z at hx
      have hsil : z.silent = false := by rw [← hz]
      have hd : z.d = d := by rw [← hz]
      obtain ⟨f, hf, hpin, hhop, hunits⟩ := Site.deliverToken_pad
        (a := { b with ex := { b.ex with dmaq := rest, xferNo := b.ex.xferNo + 1 } }) hsil cycle (tokCode .badCommand) 0
      rw [hf] at hx
      refine ⟨_, Exists.imp (fun f h => ⟨hx, ⟨?_, fun j hj => hne _ j hj⟩, h⟩) ?_⟩
      · rw [hsame]
        rfl
      · rw [State.site_setSite_self]
        refine ⟨f, rfl, hpin, by rw [hhop, hd], by rw [hunits]; rfl⟩
  · refine exec_dmaDescriptorFetch.trans (congrArg Host.Outcome.next (if_pos ?_))
    rcases hno with h | h
    · rw [decide_eq_true h]; rfl
    · rw [h, Bool.not_false, Bool.or_true]
  · intro b q per n far hserved hturn hy hcls hop hsil hst hc hp hg hal hrow hunits
    have hhull : b.hull = (s.site i).hull := s.hull_upToCycle i cycle i
    have hyid : y.id = id := beq_iff_eq.mp (List.find?_some (p := fun t : Transfer => t.id == id) hy)
    have hy0 : (s.site i).xfer id = some y := (Site.xfer_of_hull hhull id).symm.trans hy
    have hstart : s.Brought (s.upToCycle i cycle) i id b y q (y.unitAt ((s.ctx c).regionAt g)) 0 :=
      { rest := s.upToCycle_eq i cycle
        others := fun j hj => s.site_upToCycle_ne cycle hj
        site := rfl
        xfer := hy
        bytes := fun m j hm => absurd hm (Nat.not_lt_zero m)
        kept := fun a _ => rfl }
    have hall := State.brought_all hhull _ hstart hyid hop (by omega) n hunits
    have hx : exec (.dmaTransferDone i id cycle []) s = execDmaTransferDone i id cycle [] s := exec_dmaTransferDone
    unfold execDmaTransferDone at hx
    dsimp only at hx
    rw [hy0] at hx
    dsimp only at hx
    rw [hcls] at hx
    dsimp only at hx
    rw [if_neg (by rw [hturn, hserved]; exact Bool.false_ne_true)] at hx
    have hmove : (s.upToCycle i cycle).moveAll i y cycle [] = _ := State.moveAll_region (a := b) rfl hc
      (show ((s.upToCycle i cycle).ctx c).plan.bind (fun p => p.body.regions[y.d.farRegion]?) = some g by
        rw [s.upToCycle_eq i cycle]
        exact (congrArg (fun z : Option Plan => z.bind (fun p => p.body.regions[y.d.farRegion]?)) hp).trans hg)
    rw [hmove, State.ctx_upToCycle] at hx
    dsimp only at hx
    change s.Brought ((List.range (y.d.total / 128)).foldl (fun u k =>
      (u.moveUnit i (i / Config.sitesPerQuad) y ((s.ctx c).regionAt g) cycle [] k).touchDma i cycle (bankOf (y.scratch + 128 * k)))
      (s.upToCycle i cycle)) i id b y q (y.unitAt ((s.ctx c).regionAt g)) n at hall
    generalize (List.range (y.d.total / 128)).foldl (fun u k =>
      (u.moveUnit i (i / Config.sitesPerQuad) y ((s.ctx c).regionAt g) cycle [] k).touchDma i cycle (bankOf (y.scratch + 128 * k)))
      (s.upToCycle i cycle) = v at hall hx
    have hxfer : (({ v with ddr := { v.ddr with used := amod 0 v.ddr.used (i / Config.sitesPerQuad) (fun k => k + y.d.total / 128) } } :
      State).site i).xfer id = some { y with bytes := y.bytes + 128 * n } := hall.xfer
    generalize hw : ({ v with ddr := { v.ddr with used := amod 0 v.ddr.used (i / Config.sitesPerQuad) (fun k => k + y.d.total / 128) } } :
      State) = w at hx hxfer
    have hsites : w.sites = v.sites := by rw [← hw]
    have hmem : ∀ r, w.ddr.memory r = v.ddr.memory r := fun r => by rw [← hw]; rfl
    rw [hxfer] at hx
    dsimp only at hx
    obtain ⟨f, hf, hpin, hhop, hunit⟩ := Site.deliverToken_pad (a := v.site i) (t := { y with bytes := y.bytes + 128 * n }) hsil cycle
      y.status 0
    have hself : ∀ z : Site → Site, (w.modSite i z).site i = z (v.site i) := fun z => by
      unfold State.modSite
      rw [State.site_setSite_self, State.site_of_sites hsites]
    obtain ⟨hstatus, hbytes⟩ := Transfer.token_bytes { y with bytes := y.bytes + 128 * n } y.status 0
    refine ⟨_, f, hx, ?_⟩
    rw [State.site_engineRetire, hself, hf]
    refine ⟨fun k j hk hj => hall.bytes k j hk hj, fun a ha => hall.kept a ha, ?_, hhop, hpin, ?_, Site.xfer_dropXfer _ id, ?_,
      fun j hj => ?_, fun r => ?_⟩
    · show (v.site i).ex.pad ++ [f] = b.ex.pad ++ [f]
      rw [hall.site]
    · rw [hunit]
      exact congrArg (fun p => [p]) (Prod.ext (hstatus.trans (by rw [hst]; rfl)) hbytes)
    · have hregs : (v.site i).sameRegs b := by
        rw [hall.site]
        exact ⟨fun _ => rfl, fun _ => rfl, fun _ => rfl, fun _ => rfl, fun _ => rfl⟩
      exact hregs
    · exact (State.site_setSite_ne _ _ _ _ hj).trans ((State.site_of_sites hsites j).trans (hall.others j hj))
    · exact (hmem r).trans (congrArg (fun d : Ddr => d.memory r) (show v.ddr = s.ddr by rw [hall.rest]))
end

section
/-! ## Messages, spills and refills -/
namespace Sys2Proof.Machine

/-! ### Hoppers of a site -/

theorem Hopper.failed_tidy (h : Hopper) (c : Nat) : (h.tidy c).failed = h.failed := by
  unfold Hopper.tidy
  split
  · split <;> rfl
  · rfl

/-- A hopper that takes a message at its tail. -/
theorem Hopper.takes_iff (h : Hopper) (c n : Nat) : h.takes c n = true ↔
    h.index = [] ∧ h.waiting = [] ∧ h.refills = [] ∧ h.doneAt ≤ c ∧
      (h.msgs.map (fun m => m.units.length)).sum + (if h.freedAt = c then h.freed else 0) + n ≤ 64 := by
  unfold Hopper.takes Hopper.occupied
  simp only [Bool.and_eq_true, List.isEmpty_iff, decide_eq_true_eq, and_assoc]

/-- One more in a counter that stays at its maximum. -/
theorem bump32_if (n : Nat) (p : Prop) [Decidable p] : bump32 n (if decide p then 1 else 0) = min (2 ^ 32 - 1) (n + if p then 1 else 0) := by
  unfold bump32 satAdd
  by_cases h : p
  · simp [h, Nat.min_comm]
  · simp [h, Nat.min_comm]

/-! ### The release of a message -/

/-- The site with a released message out of its pad and a hopper replaced. -/
def Site.released (a : Site) (f : Flight) (late : Bool) (hop : Nat) (h : Hopper) : Site :=
  ((({ a with ex := { a.ex with pad := a.ex.pad.erase f } } : Site).noteLate late).setHopper hop h)

theorem exec_messageRelease_kept {s : State} {i slot late : Nat} {f : Flight} (hf : nextFlight (s.site i).ex.pad (slot % 4) (slot / 4) = some f)
    (hno : ¬((s.site i).padRoom f.msg.units.length = true ∧
      (((s.site i).hopper (slot % 4)).tidy (f.msg.pinned + late)).inOrder (f.msg.pinned + late) f.order = true)) :
    exec (.messageRelease i slot late) s = .next s := by
  have hx : exec (.messageRelease i slot late) s = execMessageRelease i slot late s := exec_messageRelease
  unfold execMessageRelease at hx
  dsimp only at hx
  rw [hf] at hx
  dsimp only at hx
  rw [if_pos (by
    rw [Bool.or_eq_true, Bool.not_eq_true', Bool.not_eq_true']
    by_contra hc
    rw [not_or, Bool.not_eq_false, Bool.not_eq_false] at hc
    exact hno hc)] at hx
  exact hx

theorem exec_messageRelease_free {s : State} {i slot late : Nat} {f : Flight} (hf : nextFlight (s.site i).ex.pad (slot % 4) (slot / 4) = some f)
    (hfail : ((s.site i).hopper (slot % 4)).failed = false) (hroom : (s.site i).padRoom f.msg.units.length = true)
    (horder : (((s.site i).hopper (slot % 4)).tidy (f.msg.pinned + late)).inOrder (f.msg.pinned + late) f.order = true) :
    let c := f.msg.pinned + late
    let h := ((s.site i).hopper (slot % 4)).tidy c
    let h1 := { h with relAt := c + 1, relOrder := f.order }
    exec (.messageRelease i slot late) s = .next (if h.takes c f.msg.units.length then
      (s.setSite i ((s.site i).released f (decide (0 < late)) (slot % 4) (h1.push f.msg c))).countLate (i / Config.sitesPerQuad) (decide (0 < late))
      else s.setSite i ((s.site i).released f false (slot % 4) { h1 with waiting := h.waiting ++ [f.msg] })) := by
  have hx : exec (.messageRelease i slot late) s = execMessageRelease i slot late s := exec_messageRelease
  have hfailed : (((s.site i).hopper (slot % 4)).tidy (f.msg.pinned + late)).failed = false := (Hopper.failed_tidy _ _).trans hfail
  unfold execMessageRelease at hx
  dsimp only at hx
  rw [hf] at hx
  dsimp only at hx
  rw [if_neg (by rw [hroom, horder]; exact Bool.false_ne_true), if_neg (by rw [hfailed]; exact Bool.false_ne_true)] at hx
  refine hx.trans ?_
  unfold Site.released Site.noteLate
  rw [Bool.or_false]

/-- What a release leaves of the site. -/
theorem Site.released_leaves (a : Site) (f : Flight) (late : Bool) (hop : Nat) (h : Hopper) :
    (a.released f late hop h).ex.pad = a.ex.pad.erase f ∧ (a.released f late hop h).hopper hop = h ∧
      (a.released f late hop h).ex.late = (a.ex.late || late) ∧ ∀ k, k ≠ hop → (a.released f late hop h).hopper k = a.hopper k :=
  ⟨rfl, Site.hopper_setHopper_self _ _ _, rfl, fun k hk => Site.hopper_setHopper_ne _ hop k _ hk⟩

theorem State.countLate_leaves (s : State) (q : Nat) (late : Bool) :
    s.countLate q late = { s with quads := (s.countLate q late).quads } ∧
      ((s.countLate q late).quad q).padLate = bump32 (s.quad q).padLate (if late then 1 else 0) ∧
      ∀ r, r ≠ q → (s.countLate q late).quad r = s.quad r :=
  ⟨rfl, congrArg Quad.padLate (s.quad_modQuad_self q _), fun r hr => s.quad_modQuad_ne q r _ hr⟩

theorem messageRelease_settles {s : State} {i slot late : Nat} {f : Flight} (hf : nextFlight (s.site i).ex.pad (slot % 4) (slot / 4) = some f)
    (hfail : ((s.site i).hopper (slot % 4)).failed = false) :
    let b := s.site i
    let hop := slot % 4
    let c := f.msg.pinned + late
    let h := (b.hopper hop).tidy c
    let u := (h.msgs.map (fun m => m.units.length)).sum + (if h.freedAt = c then h.freed else 0) + f.msg.units.length
    let direct := h.index = [] ∧ h.waiting = [] ∧ h.refills = [] ∧ h.doneAt ≤ c ∧ u ≤ 64
    let free := b.padRoom f.msg.units.length = true ∧ h.inOrder c f.order = true
    (free → ∃ t, exec (.messageRelease i slot late) s = .next t ∧ (t.site i).ex.pad = b.ex.pad.erase f ∧
      (direct → (t.site i).hopper hop = { h with
          msgs := h.msgs ++ [{ f.msg with visible := c }], relAt := c + 1, relOrder := f.order } ∧
        (t.site i).ex.late = (b.ex.late || decide (0 < late)) ∧
        (t.quad (i / 576)).padLate = min (2 ^ 32 - 1) ((s.quad (i / 576)).padLate + if 0 < late then 1 else 0)) ∧
      (¬ direct → (t.site i).hopper hop = { h with waiting := h.waiting ++ [f.msg], relAt := c + 1, relOrder := f.order } ∧
        (t.site i).ex.late = b.ex.late ∧ t.quads = s.quads) ∧
      (∀ k, k ≠ hop → (t.site i).hopper k = b.hopper k) ∧
      t = { s with sites := t.sites, quads := t.quads } ∧ (∀ j, j ≠ i → t.site j = s.site j) ∧
      ∀ q, q ≠ i / 576 → t.quad q = s.quad q) := by
  intro b hop c h u direct free hfree
  have hx := exec_messageRelease_free hf hfail hfree.1 hfree.2
  by_cases htakes : h.takes c f.msg.units.length = true
  · have hdirect : direct := (h.takes_iff c _).mp htakes
    refine ⟨_, hx.trans (congrArg Host.Outcome.next (if_pos htakes)), ?_⟩
    obtain ⟨hpad, hhop, hlate, hkept⟩ := b.released_leaves f (decide (0 < late)) hop
      (({ h with relAt := c + 1, relOrder := f.order } : Hopper).push f.msg c)
    obtain ⟨hrest, hpadLate, hquads⟩ := State.countLate_leaves (s.setSite i (b.released f (decide (0 < late)) hop
      (({ h with relAt := c + 1, relOrder := f.order } : Hopper).push f.msg c))) (i / 576) (decide (0 < late))
    generalize hz : b.released f (decide (0 < late)) hop (({ h with relAt := c + 1, relOrder := f.order } : Hopper).push f.msg c) = z at *
    have hself : ((s.setSite i z).countLate (i / 576) (decide (0 < late))).site i = z := s.site_setSite_self i z
    refine ⟨(congrArg (fun a : Site => a.ex.pad) hself).trans hpad, fun _ => ⟨(congrArg (fun a : Site => a.hopper hop) hself).trans hhop,
        (congrArg (fun a : Site => a.ex.late) hself).trans hlate, hpadLate.trans (bump32_if _ _)⟩, fun hn => absurd hdirect hn,
      fun k hk => (congrArg (fun a : Site => a.hopper k) hself).trans (hkept k hk), rfl,
      fun j hj => s.site_setSite_ne i j z hj, fun q hq => hquads q hq⟩
  · have hdirect : ¬direct := fun hd => htakes ((h.takes_iff c _).mpr hd)
    refine ⟨_, hx.trans (congrArg Host.Outcome.next (if_neg htakes)), ?_⟩
    obtain ⟨hpad, hhop, hlate, hkept⟩ := b.released_leaves f false hop
      { h with relAt := c + 1, relOrder := f.order, waiting := h.waiting ++ [f.msg] }
    generalize hz : b.released f false hop { h with relAt := c + 1, relOrder := f.order, waiting := h.waiting ++ [f.msg] } = z at *
    have hself : (s.setSite i z).site i = z := s.site_setSite_self i z
    refine ⟨(congrArg (fun a : Site => a.ex.pad) hself).trans hpad, fun hd => absurd hd hdirect,
      fun _ => ⟨(congrArg (fun a : Site => a.hopper hop) hself).trans hhop,
        (congrArg (fun a : Site => a.ex.late) hself).trans (hlate.trans (Bool.or_false _)), rfl⟩,
      fun k hk => (congrArg (fun a : Site => a.hopper k) hself).trans (hkept k hk), rfl,
      fun j hj => s.site_setSite_ne i j z hj, fun _ _ => rfl⟩

/-! ### Spills -/

/-- The units of a message written into the pond, from unit `pos` on. -/
def Memory.spilled (m : Memory) (base pos : Nat) (units : List MsgUnit) (n : Nat) : Memory :=
  (List.range n).foldl (fun t i =>
    match units[i]? with
    | some u => t.setWord64 (base + 64 * (pos + i)) u.bytes u.poison
    | none => t) m

theorem Memory.spilled_succ (m : Memory) (base pos : Nat) {units : List MsgUnit} {n : Nat} {u : MsgUnit} (h : units[n]? = some u) :
    m.spilled base pos units (n + 1) = (m.spilled base pos units n).setWord64 (base + 64 * (pos + n)) u.bytes u.poison := by
  unfold Memory.spilled
  rw [List.range_succ, List.foldl_append, List.foldl_cons, List.foldl_nil, h]

/-- The pond holds the units of a spilled message in order, and no other byte changes. -/
theorem Memory.spilled_bytes (m : Memory) {base pos : Nat} {units : List MsgUnit} (hb : base % 64 = 0)
    (hl : ∀ u ∈ units, u.bytes.length = 64) (n : Nat) (hn : n ≤ units.length) :
    (∀ j u, j < n → units[j]? = some u → ∀ x, x < 64 → (m.spilled base pos units n).byte (base + 64 * (pos + j) + x) = byteAt u.bytes x) ∧
      ∀ x, (x < base + 64 * pos ∨ base + 64 * (pos + n) ≤ x) → (m.spilled base pos units n).byte x = m.byte x := by
  induction n with
  | zero => exact ⟨fun j u hj => absurd hj (Nat.not_lt_zero j), fun _ _ => rfl⟩
  | succ n ih =>
    obtain ⟨hin, hout⟩ := ih (by omega)
    have hlt : n < units.length := hn
    have hu : units[n]? = some units[n] := List.getElem?_eq_getElem hlt
    have hbyte := Memory.byte_setWord64 (m.spilled base pos units n) (a := base + 64 * (pos + n)) (by omega)
      (hl _ (List.getElem_mem hlt)) units[n].poison
    rw [Memory.spilled_succ m base pos hu]
    refine ⟨fun j u hj hju x hx => ?_, fun x hx => ?_⟩
    · rw [hbyte]
      by_cases hjn : j = n
      · subst hjn
        rw [if_pos (by omega), Nat.add_sub_cancel_left, Option.some.inj (hu.symm.trans hju)]
      · rw [if_neg (by omega)]
        exact hin j u (by omega) hju x hx
    · rw [hbyte, if_neg (by omega)]
      exact hout x (by omega)

theorem Memory.word64_of_bytes {m : Memory} {a : Nat} {bs : List Byte} (ha : a % 64 = 0) (hl : bs.length = 64)
    (h : ∀ x, x < 64 → m.byte (a + x) = byteAt bs x) : m.word64 a = bs := by
  unfold Memory.word64 Memory.read
  rw [Nat.div_mul_cancel (Nat.dvd_of_mod_eq_zero ha)]
  refine List.ext_getElem (by simp [hl]) fun i h1 h2 => ?_
  rw [List.getElem_map, List.getElem_range, h i (by omega)]
  exact (List.getD_eq_getElem _ _ h2)

/-- Room before the pond's end: the spill begins at the write position, without a SKIP unit. -/
theorem Hopper.spillAt_fits {h : Hopper} {c n : Nat} (hw : h.wpos < h.pondUnits) (hn : h.wpos + n ≤ h.pondUnits)
    (hfree : h.pondFree c h.wpos n = true) (hentries : h.entries c < 1024) : h.spillAt c n = some (h.wpos, none) := by
  unfold Hopper.spillAt
  dsimp only
  rw [if_neg (by omega : ¬h.wpos = h.pondUnits), if_pos (by omega), hfree, decide_eq_true hentries]
  rfl

theorem exec_pondSpill_port {s : State} {i hop c : Nat} {m : Message} {rest : List Message}
    (hwait : (((s.site i).hopper hop).tidy c).waiting = m :: rest) (hport : c < (s.site i).refillEnd ∨ c < (s.site i).spillEnd) :
    exec (.pondSpill i hop c) s = .next s := by
  have hx : exec (.pondSpill i hop c) s = execPondSpill i hop c s := exec_pondSpill
  unfold execPondSpill at hx
  dsimp only at hx
  rw [hwait] at hx
  dsimp only at hx
  rw [if_pos (by simp only [Bool.or_eq_true, decide_eq_true_eq]; tauto)] at hx
  exact hx

theorem exec_pondSpill_begins {s : State} {i hop c pos : Nat} {m : Message} {rest : List Message} {skip : Option Nat}
    (hwait : (((s.site i).hopper hop).tidy c).waiting = m :: rest) (hfail : (((s.site i).hopper hop).tidy c).failed = false)
    (hrefill : (s.site i).refillEnd ≤ c) (hspill : (s.site i).spillEnd ≤ c)
    (hat : (((s.site i).hopper hop).tidy c).spillAt c m.units.length = some (pos, skip)) :
    exec (.pondSpill i hop c) s = .next (((s.setSite i (((((s.site i).setHopper hop { ((s.site i).hopper hop).tidy c with waiting := rest }).noteLate
      (decide (m.pinned < c))).spill hop c m pos skip))).countLate (i / Config.sitesPerQuad) (decide (m.pinned < c))).modQuad (i / Config.sitesPerQuad)
        (fun x => { x with spilled := bump32 x.spilled 1 })) := by
  have hx : exec (.pondSpill i hop c) s = execPondSpill i hop c s := exec_pondSpill
  unfold execPondSpill at hx
  dsimp only at hx
  rw [hwait] at hx
  dsimp only at hx
  rw [if_neg (by rw [hfail, decide_eq_false (by omega), decide_eq_false (by omega)]; exact Bool.false_ne_true), hat] at hx
  exact hx

theorem exec_pondSpill_fails {s : State} {i hop c : Nat} {m : Message} {rest : List Message}
    (hwait : (((s.site i).hopper hop).tidy c).waiting = m :: rest) (hfail : (((s.site i).hopper hop).tidy c).failed = false)
    (hrefill : (s.site i).refillEnd ≤ c) (hspill : (s.site i).spillEnd ≤ c)
    (hat : (((s.site i).hopper hop).tidy c).spillAt c m.units.length = none) :
    exec (.pondSpill i hop c) s = .next ((s.setSite i (((s.site i).setHopper hop { ((s.site i).hopper hop).tidy c with waiting := rest }).pondOverflow
      hop c m)).modQuad (i / Config.sitesPerQuad) (fun x => { x with
        pondFull := bump16 x.pondFull 1, pondDiscards := bump16 x.pondDiscards rest.length })) := by
  have hx : exec (.pondSpill i hop c) s = execPondSpill i hop c s := exec_pondSpill
  unfold execPondSpill at hx
  dsimp only at hx
  rw [hwait] at hx
  dsimp only at hx
  rw [if_neg (by rw [hfail, decide_eq_false (by omega), decide_eq_false (by omega)]; exact Bool.false_ne_true), hat] at hx
  exact hx

/-- A spill without a SKIP unit: the pond's index gains the message, and its units lie in the scratchpad. -/
theorem Site.spill_leaves (a : Site) (hop c pos : Nat) (m : Message) :
    (a.spill hop c m pos none).scr = a.scr.spilled (a.hopper hop).pondBase pos m.units m.units.length ∧
      (a.spill hop c m pos none).hopper hop = { a.hopper hop with
        index := (a.hopper hop).index ++ [{ pos := pos, len := m.units.length, tag := m.tag, source := m.source
                                            poison := m.units.map (fun u => u.poison), skip := false, spillEnd := c + m.units.length - 1 }]
        wpos := pos + m.units.length } ∧ (a.spill hop c m pos none).ex.late = a.ex.late := by
  refine ⟨rfl, ?_, rfl⟩
  unfold Site.spill
  refine (Site.hopper_setHopper_self _ _ _).trans ?_
  rw [List.append_nil]
  rfl

/-- A spill that fails: POND_FULL stops the site, and the hopper takes no more. -/
theorem Site.pondOverflow_leaves {a : Site} {hop c : Nat} (m : Message) (h : a.seq.status = .running) :
    (a.pondOverflow hop c m).seq.status = .stopped c ∧ (a.pondOverflow hop c m).scr = a.scr ∧
      (a.pondOverflow hop c m).faults.map (fun e => (e.cause, e.cycle)) = a.faults.map (fun e => (e.cause, e.cycle)) ++ [(.pondFull, c)] ∧
      ((a.pondOverflow hop c m).hopper hop).failed = true ∧ ((a.pondOverflow hop c m).hopper hop).waiting = [] ∧
      (a.pondOverflow hop c m).ex.steerOff = true := by
  have hhop : (a.pondOverflow hop c m).hopper hop = { a.hopper hop with failed := true, waiting := [] } := aget_aset_self _ _ _ _
  refine ⟨?_, rfl, List.map_append, by rw [hhop], by rw [hhop], rfl⟩
  unfold Site.pondOverflow Site.raise
  dsimp only [Site.setHopper]
  rw [h]

/-! ### Refills -/

theorem exec_pondRefill_reads {s : State} {i hop c : Nat} {e : PondEntry} {rest : List PondEntry}
    (hindex : (((s.site i).hopper hop).tidy c).index = e :: rest) (hskip : e.skip = false)
    (hroom : (((s.site i).hopper hop).tidy c).room c e.len = true) (hend : e.spillEnd < c) (hport : (s.site i).refillEnd ≤ c) :
    let h := ((s.site i).hopper hop).tidy c
    ∃ r : Refill, exec (.pondRefill i hop c none) s = .next (s.setSite i (((s.site i).setHopper hop { h with
        index := rest, rpos := e.pos + e.len, refills := h.refills ++ [r] }).holdSpills c e.len)) ∧
      r.start = c ∧ r.lastRead = c + e.len - 1 ∧ r.pos = e.pos ∧ r.len = e.len ∧ r.msg.tag = e.tag ∧ r.msg.source = e.source ∧
      r.msg.units = (List.range e.len).map (fun k =>
        ({ bytes := (s.site i).scr.word64 (h.pondBase + 64 * (e.pos + k))
           poison := (s.site i).scr.poison64 (h.pondBase + 64 * (e.pos + k)) || e.poison.getD k false } : MsgUnit)) := by
  have hx : exec (.pondRefill i hop c none) s = execPondRefill i hop c none s := exec_pondRefill
  have hhead : (((s.site i).hopper hop).tidy c).pondHead = some (e, rest) := by
    unfold Hopper.pondHead
    rw [hindex]
    dsimp only
    rw [hskip]
    rfl
  unfold execPondRefill at hx
  dsimp only at hx
  rw [hhead] at hx
  dsimp only at hx
  rw [if_neg (by rw [hroom, decide_eq_false (by omega), decide_eq_false (by omega)]; exact Bool.false_ne_true)] at hx
  exact ⟨_, hx, rfl, rfl, rfl, rfl, rfl, rfl, rfl⟩

/-- The spills of a hopper held back by a refill. -/
theorem Site.hopper_holdSpills (a : Site) (hop : Nat) (h : Hopper) (c n : Nat) :
    ((a.setHopper hop h).holdSpills c n).hopper hop =
      { h with index := h.index.map (fun z => if c ≤ z.spillEnd then { z with spillEnd := z.spillEnd + n } else z) } := by
  unfold Site.holdSpills Site.hopper
  dsimp only
  rw [aget_eq, alook_map_snd]
  have hself : alook (a.setHopper hop h).ex.h hop = some h := alook_aset_self _ _ _
  rw [hself]
  rfl

theorem exec_pondRefillDone_visible {s : State} {i hop c : Nat} {r : Refill} {more : List Refill}
    (hr : ((s.site i).hopper hop).refills = r :: more) (hc : r.lastRead + 7 ≤ c) :
    exec (.pondRefillDone i hop c) s = .next (s.setSite i ((s.site i).setHopper hop (({ (s.site i).hopper hop with
      refills := more, doneAt := r.lastRead + 8 } : Hopper).push r.msg (r.lastRead + 7)))) := by
  have hx : exec (.pondRefillDone i hop c) s = execPondRefillDone i hop c s := exec_pondRefillDone
  unfold execPondRefillDone at hx
  dsimp only at hx
  rw [hr] at hx
  dsimp only at hx
  rw [if_neg (by omega)] at hx
  exact hx

end Sys2Proof.Machine
open Sys2Proof Sys2Proof.Machine

/-- Settles O29: a release goes to the hopper's tail or waits for the pond; a spill that fits writes its units in order, and a
refill reads them back. -/
theorem messagesAndPonds : Obligations.MessagesAndPonds := by
  unfold Obligations.MessagesAndPonds
  refine ⟨fun s i slot late f hf hfail => ⟨messageRelease_settles hf hfail, exec_messageRelease_kept hf⟩,
    fun s i hop c m rest => ?_, fun s i hop c e rest r more => ?_⟩
  · intro b h k hwait hfail
    refine ⟨fun hrefill hspill hw hn hfree hentries hk => ?_, fun hrefill hspill hat hrun => ?_, fun hport => exec_pondSpill_port hwait hport⟩
    · have hx := exec_pondSpill_begins hwait hfail hrefill hspill (Hopper.spillAt_fits hw hn hfree hentries)
      obtain ⟨hscr, hhop, hlate⟩ := ((b.setHopper hop { h with waiting := rest }).noteLate (decide (m.pinned < c))).spill_leaves hop c h.wpos m
      have hfound : ((b.setHopper hop { h with waiting := rest }).noteLate (decide (m.pinned < c))).hopper hop = { h with waiting := rest } :=
        Site.hopper_setHopper_self b hop _
      rw [hfound] at hscr hhop
      have hlate' : (((b.setHopper hop { h with waiting := rest }).noteLate (decide (m.pinned < c))).spill hop c m h.wpos none).ex.late =
        (b.ex.late || decide (m.pinned < c)) := hlate
      have hx' : exec (.pondSpill i hop c) s = .next (((s.setSite i
        (((b.setHopper hop { h with waiting := rest }).noteLate (decide (m.pinned < c))).spill hop c m h.wpos none)).countLate (i / 576)
          (decide (m.pinned < c))).modQuad (i / 576) (fun x => { x with spilled := bump32 x.spilled 1 })) := hx
      clear hx hlate
      have hmem : ((b.setHopper hop { h with waiting := rest }).noteLate (decide (m.pinned < c))).scr = b.scr := rfl
      rw [hmem] at hscr
      generalize ((b.setHopper hop { h with waiting := rest }).noteLate (decide (m.pinned < c))).spill hop c m h.wpos none = z
        at hscr hhop hlate' hx'
      have hself : (((s.setSite i z).countLate (i / 576) (decide (m.pinned < c))).modQuad (i / 576)
        (fun x => { x with spilled := bump32 x.spilled 1 })).site i = z := s.site_setSite_self i z
      have hquad : (((s.setSite i z).countLate (i / 576) (decide (m.pinned < c))).modQuad (i / 576)
        (fun x => { x with spilled := bump32 x.spilled 1 })).quad (i / 576) = { s.quad (i / 576) with
          padLate := bump32 (s.quad (i / 576)).padLate (if decide (m.pinned < c) then 1 else 0)
          spilled := bump32 (s.quad (i / 576)).spilled 1 } := by
        rw [State.quad_modQuad_self]
        unfold State.countLate
        rw [State.quad_modQuad_self]
        rfl
      refine ⟨_, hx', (congrArg (fun a : Site => a.hopper hop) hself).trans hhop, fun hbase hbytes => ?_, ?_, ?_,
        (congrArg (fun a : Site => a.ex.late) hself).trans hlate', fun j hj => s.site_setSite_ne i j z hj⟩
      · obtain ⟨hin, hout⟩ := b.scr.spilled_bytes (pos := h.wpos) hbase hbytes m.units.length (Nat.le_refl _)
        rw [hself, hscr]
        refine ⟨fun j u hju => ?_, hout⟩
        have hj : j < m.units.length := (List.getElem?_eq_some_iff.mp hju).1
        exact Memory.word64_of_bytes (by omega) (hbytes u (List.mem_of_getElem? hju)) (hin j u hj hju)
      · rw [hquad]
        exact Nat.min_comm _ _
      · rw [hquad]
        exact bump32_if _ _
    · have hx := exec_pondSpill_fails hwait hfail hrefill hspill hat
      obtain ⟨hstatus, hscr, hfaults, hfailed, hempty, hsteer⟩ :=
        Site.pondOverflow_leaves (a := b.setHopper hop { h with waiting := rest }) (hop := hop) (c := c) m hrun
      have hx' : exec (.pondSpill i hop c) s = .next ((s.setSite i ((b.setHopper hop { h with waiting := rest }).pondOverflow hop c m)).modQuad
        (i / 576) (fun x => { x with pondFull := bump16 x.pondFull 1, pondDiscards := bump16 x.pondDiscards rest.length })) := hx
      have hmem : (b.setHopper hop { h with waiting := rest }).scr = b.scr := rfl
      have hold : (b.setHopper hop { h with waiting := rest }).faults = b.faults := rfl
      rw [hmem] at hscr
      rw [hold] at hfaults
      clear hx
      generalize (b.setHopper hop { h with waiting := rest }).pondOverflow hop c m = z at *
      have hself : ((s.setSite i z).modQuad (i / 576) (fun x => { x with
        pondFull := bump16 x.pondFull 1, pondDiscards := bump16 x.pondDiscards rest.length })).site i = z := s.site_setSite_self i z
      refine ⟨_, hx', ?_⟩
      rw [hself]
      exact ⟨hstatus, hscr, hfaults, hfailed, hempty, hsteer⟩
  · intro b h
    refine ⟨fun hindex hskip hroom hend hport => ?_, fun hr hc => ?_⟩
    · obtain ⟨x, hx, hstart, hlast, hpos, hlen, htag, hsource, hunits⟩ := exec_pondRefill_reads hindex hskip hroom hend hport
      refine ⟨_, x, hx, ?_⟩
      rw [State.site_setSite_self, Site.hopper_holdSpills]
      refine ⟨rfl, rfl, hstart, hlast, hpos, hlen, htag, hsource, ?_, fun j hj => ?_, fun j hj => s.site_setSite_ne i j _ hj⟩
      · rw [hunits, List.length_map, List.length_range]
      · rw [hunits, List.getElem?_map, List.getElem?_range hj]
        rfl
    · refine ⟨_, exec_pondRefillDone_visible hr hc, ?_⟩
      rw [State.site_setSite_self]
      exact ⟨Site.hopper_setHopper_self _ _ _, rfl, fun j hj => s.site_setSite_ne i j _ hj⟩
end

section
/-! ## Packets that arrive on an Avdin port -/
namespace Sys2Proof.Machine

/-! ### What the traffic of a port leaves of it -/

/-- A port without its traffic: the packets it holds, the ones in flight and what they count. -/
def Port.idle (x : Port) : Port := { x with txSeq := 0, kept := [], inFlight := 0, credits := [], payload := 0 }

/-- The turn, and every port without its traffic. -/
def State.quay (s : State) : Turn × (Nat → Port) := (s.turn, fun m => (s.port m).idle)

theorem Port.idle_pump (n k : Nat) (x : Port) : (x.pump n k).1.idle = x.idle := by
  induction k generalizing x with
  | zero => rfl
  | succ k ih =>
    unfold Port.pump
    dsimp only
    split
    · rfl
    · split
      · rfl
      · exact ih _

theorem Port.pump_empty (n k : Nat) {x : Port} (h : x.kept.drop x.inFlight = []) : x.pump n k = (x, []) := by
  cases k with
  | zero => rfl
  | succ k => simp [Port.pump, h]

/-- A packet as a port sends it, under its next sequence number. -/
def Port.sends (x : Port) (p : Packet) : Packet :=
  { p with seq := x.txSeq, hops := p.hops + 1, vc := p.channel, ack := (x.rxSeq + 4095) % 4096, ackValid := true }

/-- A port that held no packet sends the one that it is given, where it has the credits. -/
theorem Port.pump_one (n : Nat) {x : Port} {p : Packet} (hk : x.kept = [p]) (hf : x.inFlight = 0)
    (hc : p.flits ≤ x.credits.getD p.channel 0) : (x.pump n 2).2 = [.packet n (x.sends p)] := by
  have hready : (x.kept.drop x.inFlight).filter (fun p => decide (p.flits ≤ x.credits.getD p.channel 0)) = [p] := by
    rw [hk, hf, List.drop_zero, List.filter_cons_of_pos (by simpa using hc), List.filter_nil]
  have hfirst : ([p].find? (fun p => p.answering)).or [p].head? = some p := by
    rw [List.find?_singleton]
    split <;> rfl
  have hroom : ¬8 ≤ x.inFlight := by omega
  unfold Port.pump
  dsimp only
  rw [hready, hfirst, if_neg hroom]
  dsimp only
  congr 1
  simp [Port.pump, hk, hf]

theorem State.quay_modPort (s : State) (n : Nat) {g : Port → Port} (h : (g (s.port n)).idle = (s.port n).idle) :
    (s.modPort n g).quay = s.quay :=
  Prod.ext rfl (funext fun m => by
    show ((s.modPort n g).port m).idle = (s.port m).idle
    rw [State.port_modPort]
    split
    · next hm => rw [h, hm]
    · rfl)

theorem State.quay_of_eq {s t : State} (ht : t.turn = s.turn) (hp : t.avdin.ports = s.avdin.ports) : t.quay = s.quay :=
  Prod.ext ht (funext fun m => congrArg (fun l => (aget Port.reset l m).idle) hp)

theorem State.quay_pumpPort (s : State) (n : Nat) : (s.pumpPort n).quay = s.quay := by
  have hi := (s.port n).idle_pump n ((s.port n).kept.length + 1)
  refine (State.quay_of_eq rfl rfl).trans (s.quay_modPort n (g := fun x => if s.turn.window = .close then
    ((s.port n).pump n ((s.port n).kept.length + 1)).1
    else { ((s.port n).pump n ((s.port n).kept.length + 1)).1 with payload := x.payload }) ?_)
  dsimp only
  split
  · exact hi
  · exact hi

theorem State.quay_queueOn (s : State) (n : Nat) (p : Packet) : (s.queueOn n p).quay = s.quay :=
  (State.quay_pumpPort _ n).trans (s.quay_modPort n rfl)

theorem State.turn_takeAnswer (s : State) (p : Packet) : (s.takeAnswer p).turn = s.turn := by
  simp only [State.takeAnswer]
  (repeat' split) <;> rfl

theorem State.turn_takeWord (s : State) (q id : Nat) (p : Packet) (acc : List Nat) (i : Nat) :
    (s.takeWord q id p acc i).1.turn = s.turn := by
  have hcount : ∀ v, (s.countVerdict q v).turn = s.turn := fun v => by rw [s.countVerdict_eq]
  unfold State.takeWord
  dsimp only
  split
  · split
    · exact hcount _
    · exact hcount _
  all_goals exact hcount _

@[simp] theorem State.turn_judgePacket (s : State) (c q d : Nat) (p : Packet) : (s.judgePacket c q d p).1.turn = s.turn := by
  have hwords : (s.takeWords q s.avdin.arrivalNo p).1.turn = s.turn :=
    foldl_fixes (fun acc : State × List Nat => acc.1.turn) _ (fun acc i => State.turn_takeWord acc.1 q _ p acc.2 i) _ _
  unfold State.judgePacket
  dsimp only
  split
  · exact hwords
  · exact hwords

theorem State.turn_takeWrite (s : State) (p : Packet) : (s.takeWrite p).1.turn = s.turn := by
  simp only [State.takeWrite]
  (repeat' split) <;> simp [State.countClosed]

theorem State.quay_takeAnswer (s : State) (p : Packet) : (s.takeAnswer p).quay = s.quay :=
  State.quay_of_eq (s.turn_takeAnswer p) (s.ports_takeAnswer p)

theorem State.quay_takeWrite (s : State) (p : Packet) : (s.takeWrite p).1.quay = s.quay :=
  State.quay_of_eq (s.turn_takeWrite p) (s.ports_takeWrite p)

theorem State.quay_sendAnswer (s : State) (p : Packet) : (s.sendAnswer p).quay = s.quay := by
  unfold State.sendAnswer
  split
  · exact s.quay_takeAnswer p
  · exact s.quay_queueOn _ _
  · rfl

theorem State.quay_forward (s : State) (p : Packet) (dim : Option Nat) : (s.forward p dim).quay = s.quay := by
  unfold State.forward
  split
  · split
    · dsimp only
      split
      · exact (State.quay_sendAnswer _ _).trans (s.quay_takeWrite p)
      · exact s.quay_takeWrite p
    · exact s.quay_takeAnswer p
  · exact s.quay_queueOn _ _
  · dsimp only
    split
    · split
      · exact State.quay_takeAnswer _ _
      · exact State.quay_sendAnswer _ _
    · rfl

/-! ### The receiving port -/

/-- A port that carries traffic, with nothing outstanding and fewer retries in the last millisecond than train it again. -/
structure State.Still (s : State) (n : Nat) : Prop where
  up : (s.port n).state = .up ∨ (s.port n).state = .degraded
  kept : (s.port n).kept = []
  inFlight : (s.port n).inFlight = 0
  lately : ((s.port n).lately s.turn.now).length ≤ 64

theorem State.calm_of_lately {s : State} {n : Nat} (h : ((s.port n).lately s.turn.now).length ≤ 64) : s.calm n = s := by
  unfold State.calm
  rw [decide_eq_false (by omega), Bool.and_false]
  exact if_neg Bool.false_ne_true

/-- The retries that count are kept by what leaves the turn and the ports but for their traffic. -/
theorem State.lately_of_quay {s t : State} (h : t.quay = s.quay) (n : Nat) :
    (t.port n).lately t.turn.now = (s.port n).lately s.turn.now := by
  have hturn : t.turn = s.turn := congrArg Prod.fst h
  have hport : (t.port n).recent = (s.port n).recent := congrArg (fun v => (v.2 n).recent) h
  unfold Port.lately
  rw [hturn, hport]

theorem State.receive_up {s : State} {n : Nat} (h : (s.port n).state = .up ∨ (s.port n).state = .degraded) :
    ¬((!(decide ((s.port n).state = .up) || decide ((s.port n).state = .degraded))) = true) := by
  rcases h with h | h <;> rw [h] <;> decide

theorem State.packetIn_crcFail {s : State} {n : Nat} {p : Packet} (h : s.Still n) (hc : p.crcOk = false) :
    s.packetIn n p = (s.modPort n (fun y => { y with crcFails := bump16 y.crcFails 1 })).emit
      (.packet n (controlPacket (((s.port n).rxSeq + 4095) % 4096) true [0, 0, 0, 0])) := by
  have hr : s.receive n p = ((s.modPort n (fun y => { y with crcFails := bump16 y.crcFails 1 })).emit
      (.packet n (controlPacket (((s.port n).rxSeq + 4095) % 4096) true [0, 0, 0, 0])), false) := by
    unfold State.receive
    dsimp only
    rw [if_neg (State.receive_up h.up), if_pos (by rw [hc]; rfl)]
  unfold State.packetIn
  rw [hr]
  have hrecent : ((s.modPort n (fun y => { y with crcFails := bump16 y.crcFails 1 })).port n).lately s.turn.now =
      (s.port n).lately s.turn.now := by
    rw [State.port_modPort_self]
    rfl
  refine State.calm_of_lately ?_
  dsimp only
  rw [if_neg Bool.false_ne_true]
  exact Nat.le_trans (Nat.le_of_eq (congrArg List.length hrecent)) h.lately

theorem State.packetIn_outOfOrder {s : State} {n : Nat} {p : Packet} (h : s.Still n) (hc : p.crcOk = true)
    (hd : p.kind = .write ∨ p.kind = .answer) (ho : ((s.port n).rxSeq + 4096 - p.seq) % 4096 ≠ 0) :
    s.packetIn n p = if ((s.port n).rxSeq + 4096 - p.seq) % 4096 ≤ 8 then
      s.emit (.packet n (controlPacket (((s.port n).rxSeq + 4095) % 4096) false [0, 0, 0, 0])) else s := by
  have hr : s.receive n p = (if ((s.port n).rxSeq + 4096 - p.seq) % 4096 ≤ 8 then
      s.emit (.packet n (controlPacket (((s.port n).rxSeq + 4095) % 4096) false [0, 0, 0, 0])) else s, false) := by
    unfold State.receive
    dsimp only
    rw [if_neg (State.receive_up h.up), if_neg (by rw [hc]; decide)]
    rcases hd with hd | hd <;> rw [hd] <;> exact if_pos ho
  unfold State.packetIn
  rw [hr]
  refine State.calm_of_lately ?_
  dsimp only
  rw [if_neg Bool.false_ne_true]
  split
  · exact h.lately
  · exact h.lately

/-- The state in which the ports are `ps` and one more packet has gone out. -/
def State.acked (s : State) (ps : List (Nat × Port)) (o : Out) : State :=
  { s with avdin := { s.avdin with ports := ps }, out := s.out ++ [o] }

/-- What the ports are once port `n` has taken the packet that was next: the others as before, and port `n`, with nothing
outstanding, but for its traffic with the next sequence number. -/
structure State.NextTaken (s : State) (n : Nat) (ps : List (Nat × Port)) : Prop where
  others : ∀ m, m ≠ n → aget Port.reset ps m = s.port m
  self : (aget Port.reset ps n).idle = ({ s.port n with rxSeq := ((s.port n).rxSeq + 1) % 4096 } : Port).idle
  kept : (aget Port.reset ps n).kept = []
  inFlight : (aget Port.reset ps n).inFlight = 0

/-- How many of the outstanding packets a packet acknowledges. -/
def Port.acks (x : Port) (p : Packet) : Nat :=
  if p.ackValid then
    match (List.range x.inFlight).find? (fun i => (x.kept.getD i p).seq == p.ack) with
    | some i => i + 1
    | none => 0
  else 0

/-- The port with the acknowledged packets gone and the credits that a packet returns. -/
def Port.creditedBy (x : Port) (p : Packet) : Port :=
  { x with kept := x.kept.drop (x.acks p), inFlight := x.inFlight - x.acks p
           credits := List.zipWith (fun a b => min 514 (a + b)) x.credits (p.credits ++ List.replicate 4 0) }

theorem State.takeAck_eq (s : State) (n : Nat) (p : Packet) :
    s.takeAck n p = (if p.retryReq then (s.modPort n (fun x => x.creditedBy p)).resendPort n
      else s.modPort n (fun x => x.creditedBy p)).pumpPort n := rfl

theorem State.pumpPort_empty {s : State} {n : Nat} (h : (s.port n).kept.drop (s.port n).inFlight = []) :
    s.pumpPort n = s.modPort n (fun x => x) := by
  unfold State.pumpPort
  rw [Port.pump_empty n _ h]
  dsimp only
  rw [List.append_nil]
  split <;> rfl

theorem State.modPort_twice (s : State) (n : Nat) (g : Port → Port) :
    ∃ ps, (s.modPort n g).modPort n (fun x => x) = { s with avdin := { s.avdin with ports := ps } } ∧
      (∀ m, m ≠ n → aget Port.reset ps m = s.port m) ∧ aget Port.reset ps n = g (s.port n) := by
  refine ⟨_, rfl, fun m hm => ?_, ?_⟩
  · show ((s.modPort n g).modPort n (fun x => x)).port m = s.port m
    rw [State.port_modPort, if_neg hm, State.port_modPort, if_neg hm]
  · show ((s.modPort n g).modPort n (fun x => x)).port n = g (s.port n)
    rw [State.port_modPort_self, State.port_modPort_self]

/-- A packet that asks for no resend, at a port that then waits with no other packet. -/
theorem State.takeAck_credits {s : State} {n : Nat} {p : Packet}
    (hk : ((s.port n).creditedBy p).kept.drop ((s.port n).creditedBy p).inFlight = []) (hr : p.retryReq = false) :
    ∃ ps, s.takeAck n p = { s with avdin := { s.avdin with ports := ps } } ∧
      (∀ m, m ≠ n → aget Port.reset ps m = s.port m) ∧ aget Port.reset ps n = (s.port n).creditedBy p := by
  rw [State.takeAck_eq, hr, if_neg Bool.false_ne_true, State.pumpPort_empty]
  · exact s.modPort_twice n _
  · rw [State.port_modPort_self]
    exact hk

theorem State.receive_inOrder {s : State} {n : Nat} {p : Packet} (hu : (s.port n).state = .up ∨ (s.port n).state = .degraded)
    (hk : (s.port n).kept = []) (hf : (s.port n).inFlight = 0) (hr : p.retryReq = false) (hc : p.crcOk = true)
    (hd : p.kind ≠ .control) (ho : ((s.port n).rxSeq + 4096 - p.seq) % 4096 = 0) :
    ∃ ps, s.NextTaken n ps ∧ s.receive n p =
      (s.acked ps (.packet n (controlPacket (s.port n).rxSeq false (lmod [0, 0, 0, 0] p.channel (fun _ => p.flits)))), true) := by
  have hkept : ((s.port n).creditedBy p).kept = [] := (congrArg (List.drop _) hk).trans List.drop_nil
  have hfree : ((s.port n).creditedBy p).inFlight = 0 := (congrArg (· - (s.port n).acks p) hf).trans (Nat.zero_sub _)
  obtain ⟨ps, hack, hne, hself⟩ := State.takeAck_credits (s := s) (n := n) (p := p) (by rw [hkept]; exact List.drop_nil) hr
  have hrx : (aget Port.reset ps n).rxSeq = (s.port n).rxSeq := (congrArg Port.rxSeq hself :)
  refine ⟨aset ps n { aget Port.reset ps n with rxSeq := ((s.port n).rxSeq + 1) % 4096 }, ⟨fun m hm => ?_, ?_, ?_, ?_⟩, ?_⟩
  · rw [aget_aset_ne _ _ _ _ _ hm, hne m hm]
  · rw [aget_aset_self, hself]
    rfl
  · rw [aget_aset_self, hself]
    exact hkept
  · rw [aget_aset_self, hself]
    exact hfree
  · unfold State.receive
    dsimp only
    rw [if_neg (State.receive_up hu), if_neg (by rw [hc]; decide), hack]
    have hmod : ({ s with avdin := { s.avdin with ports := ps } } : State).modPort n (fun y => { y with rxSeq := (y.rxSeq + 1) % 4096 }) =
        { s with avdin := { s.avdin with
          ports := aset ps n { aget Port.reset ps n with rxSeq := ((s.port n).rxSeq + 1) % 4096 } } } := by
      rw [← hrx]
      rfl
    rw [hmod]
    split
    · next hk => exact absurd hk hd
    · exact if_neg (fun hn => hn ho)

/-! ### The way of a packet that was next -/

/-- The ports that carry traffic, their roles and the position are those before the reception. -/
theorem State.route_acked {s : State} {n : Nat} {ps : List (Nat × Port)} (h : s.NextTaken n ps) (o : Out) (p : Packet) (dim : Option Nat) :
    (s.acked ps o).route p dim = s.route p dim := by
  have hstate : ∀ m, ((s.acked ps o).port m).state = (s.port m).state := fun m => by
    by_cases hm : m = n
    · subst hm
      exact (congrArg Port.state h.self :)
    · exact congrArg Port.state (h.others m hm)
  have hcarries : ∀ m, (s.acked ps o).carries m = s.carries m := fun m => by
    unfold State.carries
    dsimp only
    rw [hstate m]
    rfl
  have hfn : (s.acked ps o).carries = s.carries := funext hcarries
  unfold State.route
  rw [hfn]
  rfl

theorem State.lately_acked {s : State} {n : Nat} {ps : List (Nat × Port)} (h : s.NextTaken n ps) (o : Out) :
    ((s.acked ps o).port n).lately (s.acked ps o).turn.now = (s.port n).lately s.turn.now :=
  (congrArg (fun x : Port => x.lately s.turn.now) h.self :)

/-- A packet that was next is acknowledged, and goes on by its route. -/
theorem State.packetIn_inOrder {s : State} {n : Nat} {p : Packet} (h : s.Still n) (hr : p.retryReq = false) (hc : p.crcOk = true)
    (hd : p.kind = .write ∨ p.kind = .answer) (ho : ((s.port n).rxSeq + 4096 - p.seq) % 4096 = 0) :
    ∃ ps, s.NextTaken n ps ∧ s.packetIn n p = (s.acked ps (.packet n (controlPacket (s.port n).rxSeq false
      (lmod [0, 0, 0, 0] p.channel (fun _ => p.flits))))).forward p (s.portDim n) := by
  have hkind : p.kind ≠ .control := by
    rcases hd with hd | hd <;> rw [hd] <;> decide
  obtain ⟨ps, hps, hrecv⟩ := State.receive_inOrder h.up h.kept h.inFlight hr hc hkind ho
  refine ⟨ps, hps, ?_⟩
  unfold State.packetIn
  rw [hrecv]
  dsimp only
  rw [if_pos rfl]
  refine State.calm_of_lately ?_
  rw [State.lately_of_quay (State.quay_forward _ p _) n, State.lately_acked hps]
  exact h.lately

/-! ### A packet that goes on -/

theorem State.queueOn_sends {s : State} {m : Nat} {p : Packet} (hk : (s.port m).kept = []) (hf : (s.port m).inFlight = 0)
    (hc : p.flits ≤ (s.port m).credits.getD p.channel 0) :
    (s.queueOn m p).sites = s.sites ∧ (s.queueOn m p).ctxs = s.ctxs ∧
      (s.queueOn m p).out = s.out ++ [.packet m ((s.port m).sends p)] := by
  have hport : (s.modPort m (fun x => { x with kept := x.kept ++ [p] })).port m = { s.port m with kept := [p] } := by
    rw [State.port_modPort_self, hk]
    rfl
  have hpump : (({ s.port m with kept := [p] } : Port).pump m 2).2 = [.packet m ((s.port m).sends p)] :=
    Port.pump_one m rfl hf hc
  refine ⟨rfl, rfl, ?_⟩
  unfold State.queueOn State.pumpPort
  dsimp only
  rw [hport]
  exact congrArg (s.out ++ ·) hpump

/-! ### A word of a write for this device -/

/-- A write of one word that its sluice admits joins the queue of the owner's site. -/
theorem State.takeWord_admitted {s : State} {q id k : Nat} {p : Packet} {e : SluiceEntry}
    (hj : s.judge q (p.destTile / 512) (p.destTile % 512) p.sluice p.offset s.portCycle (.device p.src) (.inr p.pipeline) = .allow k)
    (he : (s.quad q).sluices.find? (fun z => z.1 == k) = some (k, e)) :
    s.takeWord q id p [0, 0, 0, 0, 0] 0 = ((s.countVerdict q (.allow k)).modSite (s.siteOf q (e.owner % 512)) (fun x =>
      x.queued { addr := e.base + p.offset, bytes := p.words.getD 0 (List.replicate 64 0), poison := p.poison.contains 0
                 fromSite := fromPort + id, entry := k, xfer := 0 }), [1, 0, 0, 0, 0]) := by
  have hsite : ∀ n, (s.countVerdict q (.allow k)).siteOf q n = s.siteOf q n := fun n => by
    unfold State.siteOf
    rw [s.remap_admitted]
  unfold State.takeWord
  dsimp only
  rw [Nat.mul_zero, Nat.add_zero, show Config.tilesPerQuad = 512 from rfl, hj]
  dsimp only
  rw [State.entry_admitted he]
  dsimp only
  rw [hsite]
  rfl

/-- What a write of one word finds that is admitted: the context of its pipeline with the tile in a quadrant that answers, its
stream of writes at its instance, and a sluice that allows the word. -/
structure State.Admits (s : State) (p : Packet) (c q k : Nat) (e : SluiceEntry) (r : CrossIn) : Prop where
  nwords : p.nwords = 1
  dev : s.mod.dev ≠ .resetting
  brake : s.check.chipBraked = false
  pipeline : s.pipelineCtx p.pipeline = some c
  quad : (s.ctx c).quads[p.destTile / 512]? = some q
  tile : ((s.ctx c).plan.bind (fun l => l.tile p.destTile)).isSome = true
  normal : (s.quad q).recState = .normal
  free : (s.quad q).braked = false
  cross : (s.ctx c).crossIn.find? (fun z => z.planQuad == p.destTile / 512 && z.sluice == p.sluice) = some r
  inst : p.inst = r.next % 65536
  judge : s.judge q (p.destTile / 512) (p.destTile % 512) p.sluice p.offset s.portCycle (.device p.src) (.inr p.pipeline) = .allow k
  entry : (s.quad q).sluices.find? (fun z => z.1 == k) = some (k, e)

/-- The write that an admitted word becomes at its owner's site. -/
def State.portWrite (s : State) (p : Packet) (k : Nat) (e : SluiceEntry) : SluiceWrite :=
  { addr := e.base + p.offset, bytes := p.words.getD 0 (List.replicate 64 0), poison := p.poison.contains 0
    fromSite := fromPort + s.avdin.arrivalNo, entry := k, xfer := 0 }

/-- The packet that waits for the answer of its one word. -/
def State.arrival (s : State) (p : Packet) (q : Nat) : InPacket :=
  { id := s.avdin.arrivalNo, quad := q, packet := p, left := 1, counts := [1, 0, 0, 0, 0] }

theorem State.judgePacket_admitted {s : State} {p : Packet} {c q k d : Nat} {e : SluiceEntry} {r : CrossIn} (h : s.Admits p c q k e r) :
    ∃ u, s.judgePacket c q d p = (u, none) ∧ u.out = s.out ∧ u.avdin.arrivals = s.avdin.arrivals ++ [s.arrival p q] ∧
      (u.site (s.siteOf q (e.owner % 512))).ex.writes =
        (s.site (s.siteOf q (e.owner % 512))).ex.writes ++ [s.portWrite p k e] := by
  have hwords : s.takeWords q s.avdin.arrivalNo p = ((s.countVerdict q (.allow k)).modSite (s.siteOf q (e.owner % 512)) (fun x =>
      x.queued (s.portWrite p k e)), [1, 0, 0, 0, 0]) := by
    unfold State.takeWords
    rw [h.nwords]
    exact State.takeWord_admitted h.judge h.entry
  have hne : ¬([1, 0, 0, 0, 0] : List Nat).getD 0 0 = 0 := by decide
  unfold State.judgePacket
  dsimp only
  rw [hwords]
  dsimp only
  rw [if_neg hne]
  exact ⟨_, rfl, rfl, rfl, (State.modSite_queued (s.countVerdict q (.allow k)) _ _).1⟩

theorem State.takeWrite_admitted {s : State} {p : Packet} {c q k : Nat} {e : SluiceEntry} {r : CrossIn} (h : s.Admits p c q k e r) :
    s.takeWrite p = s.judgePacket c q 0 p := by
  have hdist : (p.inst + 65536 - r.next % 65536) % 65536 = 0 := by
    have := h.inst
    omega
  have hserved : ¬((decide (s.mod.dev = .resetting) || s.check.chipBraked) = true) := by
    rw [h.brake, decide_eq_false h.dev]
    decide
  have hquad : ¬((decide ((s.quad q).recState = .fast) || decide ((s.quad q).recState = .full) || (s.quad q).braked) = true) := by
    rw [h.normal, h.free]
    decide
  unfold State.takeWrite
  dsimp only
  rw [if_neg hserved, h.pipeline]
  dsimp only
  rw [show Config.tilesPerQuad = 512 from rfl, h.quad, h.tile]
  dsimp only
  rw [if_neg hquad, h.cross]
  dsimp only
  rw [hdist]
  exact if_pos (by decide)

/-! ### An answer for this device -/

/-- An answer to every word of a packet of this device ends the packet. -/
theorem State.takeAnswer_ends {s : State} {p : Packet} {o : OutPacket} (hg : p.gens = s.gensOf p.srcQuad p.srcCtx)
    (hc : p.counts = [o.packet.nwords, 0, 0, 0, 0])
    (ho : (s.ctx p.srcCtx).outPackets.find? (fun z => z.packet.dest == p.src && z.packet.sluice == p.sluice &&
      z.packet.inst == p.inst && z.packet.pktNo == p.pktNo) = some o) :
    ((s.takeAnswer p).ctx p.srcCtx).outPackets = (s.ctx p.srcCtx).outPackets.filter (fun z => !(z.packet.dest == p.src &&
      z.packet.sluice == p.sluice && z.packet.inst == p.inst && z.packet.pktNo == p.pktNo)) := by
  have hgood : (decide (p.counts.getD 0 0 = o.packet.nwords) || decide (0 < p.counts.getD 4 0)) = true := by
    rw [hc]
    exact (Bool.or_eq_true _ _).mpr (.inl (decide_eq_true rfl))
  have hclean : ¬0 < p.counts.getD 4 0 := by
    rw [hc]
    exact Nat.lt_irrefl 0
  unfold State.takeAnswer
  dsimp only
  rw [if_neg (fun hn => hn hg), ho]
  dsimp only
  rw [if_neg hclean]
  have hretire : ∀ u : State, (u.engineRetire p.srcQuad 3).ctx p.srcCtx = u.ctx p.srcCtx := fun _ => rfl
  have hsite : ∀ (u : State) g, (u.modSite o.site g).ctx p.srcCtx = u.ctx p.srcCtx := fun _ _ => rfl
  split
  · rw [hretire, s.ctx_modCtx_self]
  · rw [hsite, hretire, s.ctx_modCtx_self]

theorem exec_packet {s : State} {n : Nat} {p : Packet} (hd : p.kind = .write ∨ p.kind = .answer) :
    exec (if p.kind = .write then .avdinWritePacket n p else .avdinAnswerPacket n p) s = .next (s.packetIn n p) := by
  rcases hd with hd | hd
  · rw [if_pos hd]
    exact exec_avdinWritePacket.trans (congrArg Host.Outcome.next (if_pos hd))
  · rw [if_neg (by rw [hd]; decide)]
    exact exec_avdinAnswerPacket.trans (congrArg Host.Outcome.next (if_pos hd))

end Sys2Proof.Machine

open Sys2Proof Sys2Proof.Machine

/-- Settles O55: what the receiving port answers, then the three ways of a packet that was next. -/
theorem packetsArrive : Obligations.PacketsArrive := by
  unfold Obligations.PacketsArrive
  intro s n p x data i give old hup hkept hfl hretry hlately
  have hstill : s.Still n := ⟨hup, hkept, hfl, hlately⟩
  refine ⟨fun hc hd => ?_, fun hc hd ho => ?_, fun hc hd ho => ?_⟩
  · exact (exec_packet hd).trans (congrArg Host.Outcome.next (State.packetIn_crcFail hstill hc))
  · exact (exec_packet hd).trans (congrArg Host.Outcome.next (State.packetIn_outOfOrder hstill hc hd ho))
  · obtain ⟨ps, hps, hin⟩ := State.packetIn_inOrder hstill hretry hc hd ho
    have hrx : (aget Port.reset ps n).rxSeq = (x.rxSeq + 1) % 4096 := (congrArg Port.rxSeq hps.self :)
    have hroute := s.route_acked hps (.packet n (controlPacket x.rxSeq false give)) p (s.portDim n)
    refine ⟨_, (exec_packet hd).trans (congrArg Host.Outcome.next hin), ?_, ?_, ?_, ?_⟩
    · have hquay := (s.acked ps (.packet n (controlPacket x.rxSeq false give))).quay_forward p (s.portDim n)
      exact (congrArg (fun v => (v.2 n).rxSeq) hquay :).trans hrx
    · intro m cls det hm hr hk hf hcr
      have hport : (s.acked ps (.packet n (controlPacket x.rxSeq false give))).port m = s.port m := hps.others m hm
      have hsend := State.queueOn_sends (s := s.acked ps (.packet n (controlPacket x.rxSeq false give)))
        (p := { p with cls := cls, detoured := det }) (hport ▸ hk) (hport ▸ hf) (hport ▸ hcr)
      rw [hport] at hsend
      unfold State.forward
      rw [hroute, hr]
      obtain ⟨hsites, hctxs, hout⟩ := hsend
      exact ⟨hsites, hctxs, hout.trans (List.append_assoc ..)⟩
    · intro c q k e r hw hr hn hdev hbr hpl hq ht hnorm hfree hcross hinst hjudge hentry
      have hadmits : (s.acked ps (.packet n (controlPacket x.rxSeq false give))).Admits p c q k e r :=
        ⟨hn, hdev, hbr, hpl, hq, ht, hnorm, hfree, hcross, hinst, hjudge, hentry⟩
      obtain ⟨u, hu, hout, harr, hwrites⟩ := State.judgePacket_admitted (d := 0) hadmits
      unfold State.forward
      rw [hroute, hr, hw]
      dsimp only
      rw [State.takeWrite_admitted hadmits, hu]
      exact ⟨hout, harr, hwrites⟩
    · intro o ha hr hg hcounts mine ho
      unfold State.forward
      rw [hroute, hr, ha]
      exact State.takeAnswer_ends hg hcounts ho
end

section
/-! ## Avdin link control, training, retries, and fabric manifests -/
namespace Sys2Proof.Machine

/-! ### Control packets and resends -/

theorem State.receive_control {s : State} {n : Nat} {p : Packet} (hu : (s.port n).state = .up ∨ (s.port n).state = .degraded)
    (hc : p.crcOk = true) (hk : p.kind = .control) : s.receive n p = (s.takeAck n p, false) := by
  unfold State.receive
  dsimp only
  rw [if_neg (State.receive_up hu), if_neg (by rw [hc]; decide), hk]

theorem exec_control {s : State} {n : Nat} {p : Packet} (hu : (s.port n).state = .up ∨ (s.port n).state = .degraded)
    (hc : p.crcOk = true) (hk : p.kind = .control) : exec (.avdinControlPacket n p) s = .next ((s.takeAck n p).calm n) := by
  refine exec_avdinControlPacket.trans (congrArg Host.Outcome.next ((if_pos hk).trans ?_))
  rw [State.receive_control hu hc hk]

/-- The port with one more resend noted. -/
def Port.resent (x : Port) (now : Nat) : Port := { x with retries := bump16 x.retries 1, recent := x.lately now ++ [now] }

theorem State.port_resendPort (s : State) (n : Nat) : (s.resendPort n).port n = (s.port n).resent s.turn.now :=
  s.port_modPort_self n (fun y => { y with retries := bump16 y.retries 1, recent := y.lately s.turn.now ++ [s.turn.now] })

theorem Port.lately_resent (x : Port) (now : Nat) : (x.resent now).lately now = x.lately now ++ [now] := by
  have hnow : [now].filter (fun t => decide (now < t + 850000)) = [now] := List.filter_cons_of_pos (decide_eq_true (by omega))
  have hold : ∀ l : List Nat, (l.filter (fun t => decide (now < t + 850000))).filter (fun t => decide (now < t + 850000)) =
      l.filter (fun t => decide (now < t + 850000)) := fun l => by
    rw [List.filter_filter]
    simp
  unfold Port.resent Port.lately
  dsimp only
  rw [List.filter_append, hold, hnow]

/-- A resend puts the outstanding packets out again. -/
theorem State.pumpPort_resendPort {s : State} {n : Nat} (h : (s.port n).kept.drop (s.port n).inFlight = []) :
    ((s.resendPort n).pumpPort n).port n = (s.port n).resent s.turn.now ∧
      ((s.resendPort n).pumpPort n).out = s.out ++ ((s.port n).kept.take (s.port n).inFlight).map (fun p => .packet n p) := by
  rw [State.pumpPort_empty (by rw [s.port_resendPort]; exact h)]
  exact ⟨(State.port_modPort_self _ n _).trans (s.port_resendPort n), rfl⟩

/-- The credits of a port with those that a packet returns. -/
def Port.returned (x : Port) (p : Packet) : List Nat :=
  List.zipWith (fun a b => min 514 (a + b)) x.credits (p.credits ++ List.replicate 4 0)

/-- An acknowledgement of the one outstanding packet, or a request to send it again. -/
theorem controlTaken {s : State} {n : Nat} {p k : Packet} (hu : (s.port n).state = .up ∨ (s.port n).state = .degraded)
    (hc : p.crcOk = true) (hk : p.kind = .control) (hkept : (s.port n).kept = [k]) (hf : (s.port n).inFlight = 1)
    (hl : ((s.port n).lately s.turn.now).length < 64) :
    (p.ackValid = true → p.ack = k.seq → p.retryReq = false → ∃ t, exec (.avdinControlPacket n p) s = .next t ∧
        t.port n = { s.port n with kept := [], inFlight := 0, credits := (s.port n).returned p } ∧ t.out = s.out) ∧
      (p.ackValid = false → p.retryReq = true → ∃ t, exec (.avdinControlPacket n p) s = .next t ∧
        t.port n = { s.port n with
          credits := (s.port n).returned p, retries := bump16 (s.port n).retries 1, recent := (s.port n).lately s.turn.now ++ [s.turn.now] } ∧
        t.out = s.out ++ [.packet n k]) := by
  refine ⟨fun hv ha hr => ?_, fun hv hr => ?_⟩
  · have hacks : (s.port n).acks p = 1 := by
      unfold Port.acks
      rw [if_pos hv, hf, hkept]
      simp [List.range_succ, ha]
    have hcred : (s.port n).creditedBy p = { s.port n with kept := [], inFlight := 0, credits := (s.port n).returned p } := by
      unfold Port.creditedBy
      rw [hacks, hkept, hf]
      rfl
    obtain ⟨ps, hack, -, hself⟩ := State.takeAck_credits (s := s) (n := n) (p := p) (by rw [hcred]; rfl) hr
    have hport : (s.takeAck n p).port n = (s.port n).creditedBy p := by rw [hack]; exact hself
    have hcalm : (s.takeAck n p).calm n = s.takeAck n p := by
      refine State.calm_of_lately ?_
      rw [hport, hack]
      exact Nat.le_of_lt hl
    refine ⟨_, (exec_control hu hc hk).trans (congrArg Host.Outcome.next hcalm), hport.trans hcred, ?_⟩
    rw [hack]
  · have hacks : (s.port n).acks p = 0 := by
      unfold Port.acks
      rw [if_neg (by rw [hv]; exact Bool.false_ne_true)]
    have hcred : (s.modPort n (fun x => x.creditedBy p)).port n = { s.port n with credits := (s.port n).returned p } := by
      rw [State.port_modPort_self]
      unfold Port.creditedBy
      rw [hacks]
      rfl
    obtain ⟨hport, hout⟩ := State.pumpPort_resendPort (s := s.modPort n (fun x => x.creditedBy p)) (n := n) (by
      rw [hcred, hkept, hf]
      rfl)
    have hack : s.takeAck n p = ((s.modPort n (fun x => x.creditedBy p)).resendPort n).pumpPort n := by
      rw [State.takeAck_eq, if_pos hr]
    rw [← hack, hcred] at hport
    rw [← hack, hcred, hkept, hf] at hout
    have hcalm : (s.takeAck n p).calm n = s.takeAck n p := by
      have hturn : (s.takeAck n p).turn = s.turn := by rw [hack]; rfl
      refine State.calm_of_lately ?_
      rw [hport, hturn]
      refine (congrArg List.length (Port.lately_resent _ s.turn.now)).trans_le ?_
      rw [List.length_append]
      exact hl
    exact ⟨_, (exec_control hu hc hk).trans (congrArg Host.Outcome.next hcalm), hport, hout⟩

/-! ### Management packets -/

/-- A management packet that was next: what it tells, or asks for, of a state in which the port has taken it. -/
theorem exec_mgmt {s : State} {n : Nat} {p : Packet} (hu : (s.port n).state = .up ∨ (s.port n).state = .degraded)
    (hc : p.crcOk = true) (hk : p.kind = .mgmt) (hkept : (s.port n).kept = []) (hf : (s.port n).inFlight = 0)
    (hs : p.seq = (s.port n).rxSeq) (hr : p.retryReq = false) : ∃ ps o, s.NextTaken n ps ∧
      (∀ d, p.delayNs = some d → p.fullTurn = none →
        exec (.avdinMgmtPacket n p) s = .next ((s.acked ps o).modPort n (fun x => { x with delayNs := d }))) ∧
      (p.fullTurn = none → p.delayNs = none → s.turn.running = true → s.turn.fullNo.isSome = true →
        exec (.avdinMgmtPacket n p) s = .next ((s.acked ps o).queueOn n (mgmtPacket none s.turn.fullNo))) ∧
      ∀ no m, p.fullTurn = some no → p.delayNs = none → s.turn.best = some (n, m) →
        exec (.avdinMgmtPacket n p) s = .next ((s.acked ps o).learnTurn no) := by
  have hold : ((s.port n).rxSeq + 4096 - p.seq) % 4096 = 0 := by rw [hs]; omega
  obtain ⟨ps, hps, hrecv⟩ := State.receive_inOrder hu hkept hf hr hc (by rw [hk]; decide) hold
  generalize Out.packet n _ = o at hrecv
  have hx : exec (.avdinMgmtPacket n p) s = execAvdinMgmtPacket n p s := exec_avdinMgmtPacket
  unfold execAvdinMgmtPacket at hx
  dsimp only at hx
  rw [if_neg (fun hn => hn hk), hrecv] at hx
  dsimp only at hx
  rw [if_neg (by decide)] at hx
  refine ⟨ps, o, hps, fun d hd hfull => ?_, fun hfull hd hrun hno => ?_, fun no m hfull hd hbest => ?_⟩
  · rw [hd, hfull] at hx
    exact hx
  · rw [hfull, hd] at hx
    refine hx.trans (congrArg Host.Outcome.next (if_pos ?_))
    show (s.turn.running && s.turn.fullNo.isSome) = true
    rw [hrun, hno]
    rfl
  · rw [hfull, hd] at hx
    refine hx.trans (congrArg Host.Outcome.next (if_pos ?_))
    dsimp only [State.acked]
    rw [hbest]
    exact beq_self_eq_true n

/-- What a port that held no packet holds of a packet put on it, sent or not. -/
theorem Port.pump_keeps (n : Nat) {x : Port} {p : Packet} (hk : x.kept = [p]) (hf : x.inFlight = 0) :
    ∃ z, (x.pump n 2).1.kept = [z] ∧ z.kind = p.kind ∧ z.fullTurn = p.fullTurn := by
  have hroom : ¬8 ≤ x.inFlight := by omega
  have hwait : x.kept.drop x.inFlight = [p] := by rw [hk, hf]; rfl
  unfold Port.pump
  dsimp only
  rw [if_neg hroom, hwait]
  split
  · exact ⟨p, hk, rfl, rfl⟩
  · next z hz =>
    have hmem : z ∈ [p].filter (fun p => decide (p.flits ≤ x.credits.getD p.channel 0)) := by
      rcases Option.or_eq_some_iff.mp hz with hz | ⟨-, hz⟩
      · exact List.mem_of_find?_eq_some hz
      · exact List.mem_of_head? hz
    have hzp : z = p := List.mem_singleton.mp (List.mem_of_mem_filter hmem)
    subst hzp
    have herase : [z].erase z = [] := List.erase_cons_head z []
    rw [Port.pump_empty]
    · exact ⟨x.sends z, by rw [hk, hf, herase]; rfl, rfl, rfl⟩
    · dsimp only
      rw [hk, hf, herase]
      rfl

theorem State.port_pumpPort (s : State) (n : Nat) : (s.pumpPort n).port n =
    if s.turn.window = .close then ((s.port n).pump n ((s.port n).kept.length + 1)).1
    else { ((s.port n).pump n ((s.port n).kept.length + 1)).1 with payload := (s.port n).payload } :=
  s.port_modPort_self n (fun x => if s.turn.window = .close then ((s.port n).pump n ((s.port n).kept.length + 1)).1
    else { ((s.port n).pump n ((s.port n).kept.length + 1)).1 with payload := x.payload })

theorem State.queueOn_keeps {s : State} {n : Nat} (p : Packet) (hk : (s.port n).kept = []) (hf : (s.port n).inFlight = 0) :
    ∃ z, ((s.queueOn n p).port n).kept = [z] ∧ z.kind = p.kind ∧ z.fullTurn = p.fullTurn := by
  have hport : (s.modPort n (fun x => { x with kept := x.kept ++ [p] })).port n = { s.port n with kept := [p] } := by
    rw [State.port_modPort_self, hk]
    rfl
  obtain ⟨z, hz, hkind, hturn⟩ := Port.pump_keeps n (x := { s.port n with kept := [p] }) rfl hf
  refine ⟨z, ?_, hkind, hturn⟩
  unfold State.queueOn
  rw [State.port_pumpPort, hport]
  split
  · exact hz
  · exact hz

theorem State.learnTurn_turn (s : State) (no : Nat) :
    (s.turn.stepPending = true → (s.learnTurn no).turn = { s.turn with masterNo := some no, stepTo := some (no + 1) }) ∧
      (s.turn.stepPending = false → s.turn.stepTurn = false → no + 1 < s.turn.no ∨ s.turn.no + 1 < no → (s.learnTurn no).turn =
        { s.turn with masterNo := some no, locked := false, stepPending := true, stepTo := some (no + 1) }) ∧
      (s.turn.stepPending = false → s.turn.stepTurn = false → no ≤ s.turn.no + 1 → s.turn.no ≤ no + 1 →
        (s.learnTurn no).turn = { s.turn with masterNo := some no }) := by
  unfold State.learnTurn
  dsimp only
  refine ⟨fun hp => ?_, fun hp ht hd => ?_, fun hp ht h1 h2 => ?_⟩
  · rw [hp]
    simp
  · have hapart : apart no s.turn.no = true := by
      unfold apart
      simpa using hd
    rw [hp, ht, hapart]
    simp
  · have hapart : apart no s.turn.no = false := by
      unfold apart
      simp
      omega
    rw [hp, ht, hapart]
    simp

/-- A management packet gives the link delay, asks for TURN_NO, or tells the master's. -/
theorem mgmtTaken {s : State} {n : Nat} {p : Packet} (hu : (s.port n).state = .up ∨ (s.port n).state = .degraded)
    (hc : p.crcOk = true) (hk : p.kind = .mgmt) (hkept : (s.port n).kept = []) (hf : (s.port n).inFlight = 0)
    (hs : p.seq = (s.port n).rxSeq) (hr : p.retryReq = false) :
    (∀ d, p.delayNs = some d → p.fullTurn = none → ∃ t, exec (.avdinMgmtPacket n p) s = .next t ∧ (t.port n).delayNs = d ∧
        (t.port n).rxSeq = ((s.port n).rxSeq + 1) % 4096 ∧ t.turn = s.turn) ∧
      (p.fullTurn = none → p.delayNs = none → s.turn.running = true → s.turn.fullNo.isSome = true →
        ∃ t z, exec (.avdinMgmtPacket n p) s = .next t ∧ (t.port n).kept = [z] ∧ z.kind = .mgmt ∧ z.fullTurn = s.turn.fullNo) ∧
      (∀ no m, p.fullTurn = some no → p.delayNs = none → s.turn.best = some (n, m) →
        ∃ t, exec (.avdinMgmtPacket n p) s = .next t ∧
          (s.turn.stepPending = true → t.turn = { s.turn with masterNo := some no, stepTo := some (no + 1) }) ∧
          (s.turn.stepPending = false → s.turn.stepTurn = false → no + 1 < s.turn.no ∨ s.turn.no + 1 < no →
            t.turn = { s.turn with masterNo := some no, locked := false, stepPending := true, stepTo := some (no + 1) }) ∧
          (s.turn.stepPending = false → s.turn.stepTurn = false → no ≤ s.turn.no + 1 → s.turn.no ≤ no + 1 →
            t.turn = { s.turn with masterNo := some no })) := by
  obtain ⟨ps, o, hps, hdelay, hask, htell⟩ := exec_mgmt hu hc hk hkept hf hs hr
  refine ⟨fun d hd hfull => ⟨_, hdelay d hd hfull, ?_, ?_, rfl⟩, fun hfull hd hrun hno => ?_,
    fun no m hfull hd hbest => ⟨_, htell no m hfull hd hbest, (s.acked ps o).learnTurn_turn no⟩⟩
  · rw [State.port_modPort_self]
  · rw [State.port_modPort_self]
    exact (congrArg Port.rxSeq hps.self :)
  · obtain ⟨z, hz, hkind, hturn⟩ := State.queueOn_keeps (s := s.acked ps o) (n := n) (mgmtPacket none s.turn.fullNo) hps.kept hps.inFlight
    exact ⟨_, z, hask hfull hd hrun hno, hz, hkind, hturn⟩

/-! ### The retry time-out -/

theorem State.carries_resendPort (s : State) (n : Nat) : (s.resendPort n).carries n = s.carries n := by
  unfold State.carries
  rw [s.port_resendPort]
  rfl

theorem State.lately_resendPort (s : State) (n : Nat) :
    ((s.resendPort n).port n).lately (s.resendPort n).turn.now = (s.port n).lately s.turn.now ++ [s.turn.now] := by
  rw [s.port_resendPort]
  exact (s.port n).lately_resent s.turn.now

theorem retryTimedOut {s : State} {n : Nat} (hc : s.carries n = true) (hf : 0 < (s.port n).inFlight) :
    (64 ≤ ((s.port n).lately s.turn.now).length → ∃ t, exec (.linkRetryTimeout n) s = .next t ∧ (t.port n).state = .training) ∧
      (((s.port n).lately s.turn.now).length < 64 → ∃ t, exec (.linkRetryTimeout n) s = .next t ∧
        t.out = s.out ++ ((s.port n).kept.take (s.port n).inFlight).map (fun z => .packet n z) ∧
        t.port n = (s.port n).resent s.turn.now ∧ t.sites = s.sites) := by
  have hx : exec (.linkRetryTimeout n) s = .next ((s.resendPort n).calm n) :=
    exec_linkRetryTimeout.trans (congrArg Host.Outcome.next (if_pos (by rw [hc, decide_eq_true hf]; rfl)))
  have hlen : (((s.resendPort n).port n).lately (s.resendPort n).turn.now).length = ((s.port n).lately s.turn.now).length + 1 := by
    rw [s.lately_resendPort, List.length_append]
    rfl
  refine ⟨fun hl => ⟨_, hx, ?_⟩, fun hl => ?_⟩
  · unfold State.calm
    rw [if_pos (by rw [s.carries_resendPort, hc, hlen, decide_eq_true (by omega)]; rfl)]
    exact congrArg Prod.fst (State.socket_train _ n)
  · refine ⟨_, hx.trans (congrArg Host.Outcome.next (State.calm_of_lately (by omega))), rfl, s.port_resendPort n, rfl⟩

/-! ### Ports that go down, train and come up -/

/-- A port that holds no packet goes down, or trains, and nothing else changes. -/
theorem State.portDown_empty {s : State} {n : Nat} (h : (s.port n).kept = []) (st : PortState) (brake : Bool) :
    s.portDown n st brake = s.modPort n (fun y => { y with state := st, downBrake := brake, kept := [], inFlight := 0, degradedNow := false }) := by
  unfold State.portDown
  dsimp only
  rw [h, List.take_nil, List.drop_nil]
  rfl

/-- The port that begins a training. -/
def Port.beginTraining (x : Port) : Port :=
  { x with state := .training, downBrake := false, kept := [], inFlight := 0, degradedNow := false, trained := true
           retrains := if x.trained then bump16 x.retrains 1 else x.retrains
           windows := 0, corrBits := 0, dirty := 0, clean := 0, berHigh := false, peerOk := false }

theorem State.port_train {s : State} {n : Nat} (h : (s.port n).kept = []) : (s.train n).port n = (s.port n).beginTraining := by
  unfold State.train
  rw [State.portDown_empty h]
  dsimp only
  have hport : ∀ g : Port → Port, ((s.modPort n (fun y => { y with
      state := .training, downBrake := false, kept := [], inFlight := 0, degradedNow := false })).modPort n g).port n =
      g { s.port n with state := .training, downBrake := false, kept := [], inFlight := 0, degradedNow := false } := fun g => by
    rw [State.port_modPort_self, State.port_modPort_self]
  have hheal : ∀ (u : State) (x : Heal), (({ u with heal := x } : State).rewear).port n = u.port n := fun _ _ => rfl
  split
  · next ht =>
    rw [hheal, hport, Port.beginTraining, if_pos ht]
  · next ht =>
    rw [hport, Port.beginTraining, if_neg ht]

/-- Whether a port carries traffic, as the events ask. -/
theorem PortState.serves_iff (x : PortState) : (decide (x = .up) || decide (x = .degraded)) = true ↔ x = .up ∨ x = .degraded := by
  rw [Bool.or_eq_true, decide_eq_true_iff, decide_eq_true_iff]

theorem lockLost {s : State} {n : Nat} (hk : (s.port n).kept = []) (hu : (s.port n).state = .up ∨ (s.port n).state = .degraded) :
    ∃ t, exec (.codewordLockLoss n) s = .next t ∧ t.port n = ({ s.port n with failures := 0 } : Port).beginTraining := by
  refine ⟨_, exec_codewordLockLoss.trans (congrArg Host.Outcome.next (if_pos ((PortState.serves_iff _).mpr hu))), ?_⟩
  rw [State.port_train, State.port_modPort_self]
  rw [State.port_modPort_self]
  exact hk

theorem brakeFlitTaken {s : State} {n : Nat} (hk : (s.port n).kept = []) (hu : (s.port n).state = .up ∨ (s.port n).state = .degraded) :
    ∃ t, exec (.brakeFlitReceive n) s = .next t ∧ (t.port n).state = .down ∧ (t.port n).downBrake = true ∧ t.sites = s.sites := by
  refine ⟨_, exec_brakeFlitReceive.trans (congrArg Host.Outcome.next (if_pos ((PortState.serves_iff _).mpr hu))), ?_⟩
  rw [State.portDown_empty hk, State.port_modPort_self]
  exact ⟨rfl, rfl, rfl⟩

theorem windowJudged {s : State} {n : Nat} (bits un : Nat) (hu : (s.port n).state = .up ∨ (s.port n).state = .degraded) :
    ∃ t, exec (.berWindowEnd n bits un) s = .next t ∧ t.port n = (s.port n).window bits un := by
  refine ⟨_, exec_berWindowEnd.trans (congrArg Host.Outcome.next (if_pos ((PortState.serves_iff _).mpr hu))), ?_⟩
  have hheal : ∀ (u : State) (x : Heal), (({ u with heal := x } : State).rewear).port n = u.port n := fun _ _ => rfl
  dsimp only
  split
  · rw [hheal, State.port_modPort_self]
  · rw [State.port_modPort_self]

theorem Port.state_window (x : Port) (bits un : Nat) : (x.window bits un).state =
    if x.state = .up ∧ 17000000 ≤ bits ∧ 2 ≤ x.dirty then .degraded
    else if x.state = .degraded ∧ bits < 17000000 ∧ 2 ≤ x.clean then .up else x.state := by
  unfold Port.window
  dsimp only
  by_cases hb : 17000000 ≤ bits
  · have hlow : ¬bits < 17000000 := by omega
    simp [hb, hlow]
  · have hlow : bits < 17000000 := by omega
    simp [hb, hlow]

theorem trainedUp {s : State} {n : Nat} (h : (s.port n).state = .training) (pos port : Nat) :
    ∃ t, exec (.linkTrainingDone n (.up pos port)) s = .next t ∧ (t.port n).state = .up ∧
      (t.port n).peerPos = pos ∧ (t.port n).peerPort = port ∧ (t.port n).failures = 0 ∧ (t.port n).rxSeq = 0 := by
  refine ⟨_, exec_linkTrainingDone.trans (congrArg Host.Outcome.next (if_neg (fun hn => hn h))), ?_⟩
  have hidle : ((s.portUp n pos port).port n).idle = _ :=
    (congrArg (fun v => v.2 n) (State.quay_queueOn _ n _)).trans (congrArg Port.idle (State.port_modPort_self s n _))
  exact ⟨(congrArg Port.state hidle :), (congrArg Port.peerPos hidle :), (congrArg Port.peerPort hidle :),
    (congrArg Port.failures hidle :), (congrArg Port.rxSeq hidle :)⟩

theorem trainingFailed {s : State} {n : Nat} (hk : (s.port n).kept = []) (h : (s.port n).state = .training) :
    ((s.port n).failures < 2 → ∃ t, exec (.linkTrainingDone n .failed) s = .next t ∧ (t.port n).state = .training ∧
        (t.port n).failures = (s.port n).failures + 1) ∧
      (2 ≤ (s.port n).failures → ∃ t, exec (.linkTrainingDone n .failed) s = .next t ∧ (t.port n).state = .down) := by
  have hx : exec (.linkTrainingDone n .failed) s = .next (if 3 ≤ (s.port n).failures + 1 then
      (s.modPort n (fun y => { y with failures := y.failures + 1 })).portDown n .down false
      else (s.modPort n (fun y => { y with failures := y.failures + 1 })).train n) :=
    exec_linkTrainingDone.trans (congrArg Host.Outcome.next (if_neg (fun hn => hn h)))
  have hport : (s.modPort n (fun y => { y with failures := y.failures + 1 })).port n =
      { s.port n with failures := (s.port n).failures + 1 } := State.port_modPort_self _ _ _
  have hkept : ((s.modPort n (fun y => { y with failures := y.failures + 1 })).port n).kept = [] := by
    rw [hport]
    exact hk
  refine ⟨fun hf => ⟨_, hx.trans (congrArg Host.Outcome.next (if_neg (by omega))), ?_⟩,
    fun hf => ⟨_, hx.trans (congrArg Host.Outcome.next (if_pos (by omega))), ?_⟩⟩
  · rw [State.port_train hkept, hport]
    exact ⟨rfl, rfl⟩
  · rw [State.portDown_empty hkept, State.port_modPort_self]

/-! ### Fabric manifests -/

/-- The fabric's state, the device's own priority and the sites. -/
def State.chart (s : State) : Avdin × Nat × List (Nat × Site) := (s.avdin, s.turn.ownPrio, s.sites)

theorem State.chart_setDev (s : State) (d : DevCode) (l : List Nat) : (s.setDev d l).chart = s.chart := by
  unfold State.setDev
  split <;> rfl

theorem State.chart_relink (s : State) : s.relink.chart = s.chart := by
  unfold State.relink
  extract_lets checks missing kept rows was next src t
  have ht : t.chart = s.chart := State.chart_setDev _ _ _
  split
  · exact ht
  · exact ht

theorem State.chart_cpbSettle (s : State) : s.cpbSettle.chart = s.chart := by
  unfold State.cpbSettle
  split
  · rfl
  · dsimp only
    split <;> rfl

theorem State.chart_reelect (s : State) : s.reelect.chart = s.chart := by
  unfold State.reelect
  extract_lets t wins
  split <;> rfl

theorem State.applyManifest_leaves (s : State) (m : FabricManifest) : (s.applyManifest m).avdin.inForce = some m ∧
    (s.applyManifest m).avdin.waiting = none ∧ (s.applyManifest m).avdin.manState = .applied ∧
    (s.applyManifest m).turn.ownPrio = m.priority ∧ (s.applyManifest m).sites = s.sites := by
  unfold State.applyManifest
  dsimp only
  exact ⟨congrArg (fun v => v.1.inForce) (State.chart_reelect _), congrArg (fun v => v.1.waiting) (State.chart_reelect _),
    congrArg (fun v => v.1.manState) (State.chart_reelect _), congrArg (fun v => v.2.1) (State.chart_reelect _),
    congrArg (fun v => v.2.2) (State.chart_reelect _)⟩

theorem manifestReceived {s : State} {m : FabricManifest} (ha : s.answers = true) (hw : s.mod.watchdog = false) :
    (∀ k, s.rejects m = some k → ∃ t, exec (.fabricManifestReceive m) s = .next t ∧ t.avdin.manState = .rejected ∧
        t.avdin.reject = k ∧ t.avdin.inForce = s.avdin.inForce ∧ t.avdin.waiting = s.avdin.waiting ∧ t.out = s.out ++ [.pldm 1]) ∧
      (s.rejects m = none → m.applyTurn ≠ 0 → ∃ t, exec (.fabricManifestReceive m) s = .next t ∧ t.avdin.manState = .pending ∧
        t.avdin.waiting = some m ∧ t.avdin.cached = some m ∧ t.avdin.inForce = s.avdin.inForce ∧ t.avdin.manSeq = m.seq ∧
        t.out = s.out ++ [.pldm 0]) := by
  have hx : exec (.fabricManifestReceive m) s = execFabricManifestReceive m s := exec_fabricManifestReceive
  unfold execFabricManifestReceive at hx
  rw [if_neg (by rw [ha, hw]; decide)] at hx
  dsimp only at hx
  refine ⟨fun k hk => ?_, fun hn ht => ?_⟩
  · rw [hk] at hx
    exact ⟨_, hx, rfl, rfl, rfl, rfl, rfl⟩
  · rw [hn] at hx
    dsimp only at hx
    rw [if_neg ht] at hx
    exact ⟨_, hx, rfl, rfl, rfl, rfl, rfl, rfl⟩

theorem manifestInForce {s : State} {m : FabricManifest} (hw : s.avdin.waiting = some m) :
    (s.turn.running = true → s.turn.window = .intake → s.turn.cycle = 0 → m.applyTurn ≤ s.turn.no → ∃ t, exec .manifestApply s = .next t ∧
        t.avdin.inForce = some m ∧ t.avdin.waiting = none ∧ t.avdin.manState = .applied ∧ t.turn.ownPrio = m.priority ∧
        t.sites = s.sites) ∧
      (s.turn.no < m.applyTurn ∨ s.turn.window ≠ .intake ∨ s.turn.cycle ≠ 0 → exec .manifestApply s = .next s) := by
  have hx : exec .manifestApply s = execManifestApply s := exec_manifestApply
  unfold execManifestApply at hx
  rw [hw] at hx
  dsimp only at hx
  refine ⟨fun hr hi hc hl => ⟨_, hx.trans (congrArg Host.Outcome.next (if_pos ⟨hr, hi, hc, hl⟩)), ?_⟩,
    fun hn => hx.trans (congrArg Host.Outcome.next (if_neg ?_))⟩
  · have h : (s.applyManifest m).cpbSettle.relink.chart = (s.applyManifest m).chart :=
      (State.chart_relink _).trans (State.chart_cpbSettle _)
    obtain ⟨hforce, hwait, hstate, hprio, hsites⟩ := s.applyManifest_leaves m
    exact ⟨(congrArg (fun v => v.1.inForce) h).trans hforce, (congrArg (fun v => v.1.waiting) h).trans hwait,
      (congrArg (fun v => v.1.manState) h).trans hstate, (congrArg (fun v => v.2.1) h).trans hprio, (congrArg (fun v => v.2.2) h).trans hsites⟩
  · rintro ⟨-, hi, hc, hl⟩
    rcases hn with hn | hn | hn
    · omega
    · exact hn hi
    · exact hn hc

end Sys2Proof.Machine

open Sys2Proof Sys2Proof.Machine

/-- Settles O56: packets of the link itself, then a port's life, then manifests. -/
theorem linksAndManifests : Obligations.LinksAndManifests := by
  unfold Obligations.LinksAndManifests
  refine ⟨fun s n p k => ⟨fun hu hc hk hkept hf hl => controlTaken hu hc hk hkept hf hl,
      fun hu hc hk hkept hf hs hr => mgmtTaken hu hc hk hkept hf hs hr,
      fun hc hf => (retryTimedOut hc hf).1, fun hc hf => (retryTimedOut hc hf).2⟩,
    fun s n hk hf => ⟨fun hu => ⟨?_, brakeFlitTaken hk hu, fun bits un => ?_⟩, fun ht => ⟨trainedUp ht, trainingFailed hk ht⟩,
      fun hd => ?_, fun hd => exec_portRetryTimer.trans (congrArg Host.Outcome.next (if_neg hd)), fun hup hdeg => ?_⟩,
    fun s m => ⟨manifestReceived, manifestInForce⟩⟩
  · obtain ⟨t, ht, hport⟩ := lockLost hk hu
    refine ⟨t, ht, ?_⟩
    rw [hport]
    exact ⟨rfl, rfl, rfl⟩
  · obtain ⟨t, ht, hport⟩ := windowJudged bits un hu
    refine ⟨t, ht, ?_⟩
    rw [hport]
    exact ⟨rfl, rfl, Port.state_window _ bits un⟩
  · refine ⟨_, exec_portRetryTimer.trans (congrArg Host.Outcome.next (if_pos hd)), ?_⟩
    rw [State.port_train hk]
    rfl
  · have hserves : ¬(decide ((s.port n).state = .up) || decide ((s.port n).state = .degraded)) = true :=
      fun hn => ((PortState.serves_iff _).mp hn).elim hup hdeg
    exact ⟨exec_codewordLockLoss.trans (congrArg Host.Outcome.next (if_neg hserves)),
      exec_brakeFlitReceive.trans (congrArg Host.Outcome.next (if_neg hserves))⟩
end

section
/-! ## Weight digests, scrubbing, dressing, re-placement and wear -/
namespace Sys2Proof.Machine

/-! ### Weight digests -/

theorem weightDigestAccepted {s : State} {h : CmdHead} {r : Nat} (hr : s.reads h 0x06 .management true)
    (hd : (s.ctx h.ctx).digested = true) (hl : r < (s.ctx h.ctx).manifest.length) :
    ∃ t, exec (.weightDigest h r) s = .next t ∧ Accepts s t h (outstanding h 0x06 r 4096) ∧ t.ctxs = s.ctxs ∧
      t.check.requested = s.check.requested ++ [(h.ctx, (s.ctx h.ctx).quads.getD 0 0, r)] := by
  have hbad : ((s.ctx h.ctx).plan.isSome && decide ((s.ctx h.ctx).manifest.length ≤ r)) = false := by
    rw [decide_eq_false (by omega), Bool.and_false]
  refine ⟨_, exec_weightDigest.trans (congrArg Host.Outcome.next (hr.runs hbad hd [] _)), ?_, rfl, rfl⟩
  exact s.accepts_accept h 0x06 r 4096

theorem digestPassStarted {s : State} (hl : s.live = true) (hd : s.mod.order.digest = true) (hp : s.check.period ≠ 0)
    (hdue : s.check.passDue = true) (hn : s.check.pass = none) :
    (s.passRegions ≠ [] → exec .digestPassStart s =
        .next { s with check := { s.check with pass := some s.passRegions, passDue := false } }) ∧
      (s.passRegions = [] → exec .digestPassStart s = .next { s with check := { s.check with
        pass := none, passDue := false, passes := min (s.check.passes + 1) (2 ^ 32 - 1) } }) := by
  have hx : exec .digestPassStart s =
      .next ({ s with check := { s.check with pass := some s.passRegions, passDue := false } } : State).endPass := by
    refine exec_digestPassStart.trans (congrArg Host.Outcome.next (if_pos ?_))
    rw [hl, hd, decide_eq_true hp, hdue, hn]
    rfl
  refine ⟨fun hr => hx.trans (congrArg Host.Outcome.next (if_neg ?_)), fun hr => hx.trans (congrArg Host.Outcome.next ?_)⟩
  · exact fun h => hr (Option.some.inj h)
  · rw [hr]
    exact if_pos rfl

theorem digestPassWaits {s : State}
    (h : s.mod.order.digest = false ∨ s.check.period = 0 ∨ s.check.passDue = false ∨ s.check.pass.isSome = true) :
    exec .digestPassStart s = .next s := by
  refine exec_digestPassStart.trans (congrArg Host.Outcome.next (if_neg ?_))
  simp only [Bool.and_eq_true, decide_eq_true_iff]
  rintro ⟨⟨⟨⟨-, hd⟩, hp⟩, hdue⟩, hn⟩
  rcases h with h | h | h | h
  · rw [h] at hd
    cases hd
  · exact hp h
  · rw [h] at hdue
    cases hdue
  · rw [Option.isSome_iff_ne_none] at h
    exact h (Option.isNone_iff_eq_none.mp hn)

/-- The digests asked for, the log of digests, and the sites. -/
def State.digests (s : State) : List (Nat × Nat × Nat) × Nat × List (Nat × DigestLog) × List (Nat × Site) :=
  (s.check.requested, s.check.logCount, s.check.log, s.sites)

theorem State.digests_finish (s : State) (p : Cmd → Bool) (st : Status) (res : Cmd → List Byte) :
    (s.finish p st res).digests = s.digests := by
  rw [(s.finish_eq p st res).2]
  rfl

theorem State.endPass_leaves (s : State) : s.endPass.digests = s.digests ∧ s.endPass.cmds = s.cmds := by
  unfold State.endPass
  split <;> exact ⟨rfl, rfl⟩

theorem regionDigested {s : State} {c q r : Nat} {e : ManifestEntry} (hk : (c, q, r) ∈ s.check.requested)
    (hd : (s.ctx c).digested = true) (he : (s.ctx c).manifest[r]? = some e) :
    ∃ t, exec (.digestRegionDone c q r) s = .next t ∧ t.check.requested = s.check.requested.erase (c, q, r) ∧
      t.check.logCount = (s.check.logCount + 1) % 65536 ∧ alook t.check.log (s.check.logCount % 64) = some
        { turn := s.turn.no, ctx := c, quad := q, match_ := decide (s.regionDigest c q r e = e.digest), requested := true,
          region := r, head := (s.regionDigest c q r e).take 16 } ∧
      (∀ y ∈ t.cmds, ¬(y.opc = 0x06 ∧ y.ctx = c ∧ y.arg = r)) ∧ t.sites = s.sites := by
  have hx : exec (.digestRegionDone c q r) s = execDigestRegionDone c q r s := exec_digestRegionDone
  have hasked : s.check.requested.contains (c, q, r) = true := List.contains_iff_mem.mpr hk
  unfold execDigestRegionDone at hx
  extract_lets key asked listed src rest at hx
  have hask : asked = true := hasked
  have hrest : rest = { s with check := { s.check with requested := s.check.requested.erase (c, q, r) } } := if_pos hask
  rw [if_neg (by rw [hask]; exact Bool.false_ne_true), he] at hx
  dsimp only at hx
  rw [if_neg (by rw [hd]; exact Bool.false_ne_true), if_pos hask, hrest, hask] at hx
  generalize hu : (if decide (s.regionDigest c q r e = e.digest) = true then _ else _ : State) = u at hx
  have hdig : u.digests = (s.check.requested.erase (c, q, r), (s.check.logCount + 1) % 65536, aset s.check.log (s.check.logCount % 64)
      { turn := s.turn.no, ctx := c, quad := q, match_ := decide (s.regionDigest c q r e = e.digest), requested := true,
        region := r, head := (s.regionDigest c q r e).take 16 }, s.sites) := by
    rw [← hu]
    split <;> rfl
  obtain ⟨hend, hcmds⟩ := (u.finish (fun y => y.opc == 0x06 && y.ctx == c && y.arg == r) .ok (fun _ =>
    digestResult (decide (s.regionDigest c q r e = e.digest)) r s.turn.no (s.regionDigest c q r e))).endPass_leaves
  have hall := (hend.trans (State.digests_finish _ _ _ _)).trans hdig
  refine ⟨_, hx, congrArg (fun v => v.1) hall, congrArg (fun v => v.2.1) hall,
    (congrArg (fun v => alook v.2.2.1 (s.check.logCount % 64)) hall).trans (alook_aset_self _ _ _), fun y hy => ?_,
    congrArg (fun v => v.2.2.2) hall⟩
  rw [hcmds, (State.finish_eq u _ _ _).1, List.mem_filter] at hy
  rintro ⟨h1, h2, h3⟩
  simp [h1, h2, h3] at hy

/-! ### Scrubbing and module temperatures -/

theorem length_codeword (unit : List Byte) (poison : Bool) (c : Nat) : 16 ≤ (codeword unit poison c).length := by
  unfold codeword
  rw [List.length_append, List.length_map, List.length_range]
  exact Nat.le_add_right _ _

theorem length_foldl_set {α β : Type} (i : β → Nat) (v : List α → β → α) (l : List β) (w : List α) :
    (l.foldl (fun w x => w.set (i x) (v w x)) w).length = w.length :=
  foldl_fixes List.length _ (fun _ _ => List.length_set) l w

theorem length_wordBytes {w : List (BitVec 16)} (h : 16 ≤ w.length) : (wordBytes w).length = 32 := by
  unfold wordBytes
  rw [List.length_flatMap]
  simp only [length_leBytes]
  rw [List.map_const', List.sum_replicate, List.length_take, Nat.min_eq_left h]
  rfl

/-- Corrected data fill their unit. -/
theorem length_of_corrected {unit : List Byte} {p : Bool} {f : EccFind} {marked ds : List Nat} {bytes : List Byte}
    (h : eccAccess unit p f marked = .corrected ds bytes) : bytes.length = 128 := by
  unfold eccAccess at h
  extract_lets words pattern erased limit found errs devices at h
  split at h
  · cases h
  split at h
  · cases h
  split at h
  · cases h
  split at h
  · cases h
  split at h
  · cases h
  split at h
  · cases h
  · injection h with _ hb
    have hfound : ∀ x ∈ found, (wordBytes ((errs x).foldl (fun l y =>
        l.set (19 - symbolOf y.1) (l.getD (19 - symbolOf y.1) 0 ^^^ y.2)) x.1)).length = 32 := fun x hx => by
      obtain ⟨w, hw, rfl⟩ := List.mem_map.mp hx
      obtain ⟨c, -, rfl⟩ := List.mem_map.mp hw
      refine length_wordBytes ?_
      rw [length_foldl_set]
      unfold damaged
      rw [length_foldl_set]
      exact length_codeword _ _ _
    rw [← hb, List.length_flatMap, List.map_congr_left hfound, List.map_const', List.sum_replicate]
    rfl

/-- A scrub read: what it found has taken effect, and the position moves on. -/
theorem exec_scrubRead_found {s : State} {n : Nat} (h : s.scrubs n = true) (f : EccFind) : ∃ t, exec (.scrubRead n f) s = .next t ∧
    t.chan n = ((s.scrubFound n f).chan n).advance ∧ t.ddr.mem = (s.scrubFound n f).ddr.mem ∧
    t.ddr.uncorrectable = (s.scrubFound n f).ddr.uncorrectable ∧ t.sites = (s.scrubFound n f).sites :=
  ⟨_, exec_scrubRead.trans (congrArg Host.Outcome.next (if_neg (by rw [h]; exact Bool.false_ne_true))),
    State.chan_modChan_self _ n Channel.advance, rfl, rfl, rfl⟩

theorem Channel.corrected_advance (x : Channel) : x.advance.corrected = x.corrected := by
  unfold Channel.advance
  split <;> rfl

theorem Channel.scrub_advance (x : Channel) : x.advance.scrub = if x.units ≤ x.scrub + 1 then 0 else x.scrub + 1 := by
  unfold Channel.advance
  split <;> rfl

theorem Channel.corrected_names (l : List Nat) (x : Channel) : (l.foldl Channel.name x).corrected = x.corrected :=
  foldl_fixes Channel.corrected _ (fun x d => by
    unfold Channel.name
    extract_lets n src
    split <;> rfl) l x

theorem State.scrubFound_clean (s : State) (n : Nat) : s.scrubFound n EccFind.clean = s := by
  have hstill : eccAccess (List.replicate 128 0) false EccFind.clean
      ((List.range 20).filter (fun d => (s.chan n).marks.toNat.testBit d)) = .clean := eccAccess_still _ _ _ _ rfl
  unfold State.scrubFound
  dsimp only
  cases s.ddr.unitOf (n / 16) n (s.chan n).scrub with
  | none =>
    dsimp only
    rw [hstill]
  | some l =>
    dsimp only
    rw [s.ddrFound_clean, s.eccAt_clean]
    exact if_neg (by split <;> exact EccOut.noConfusion)

theorem State.remod_leaves (s : State) (n : Nat) : (s.remod n).ddr = s.ddr ∧ (s.remod n).sites = s.sites := by
  unfold State.remod
  dsimp only
  split <;> exact ⟨rfl, rfl⟩

/-- A correction counts in its channel and leaves the memories and the sites. -/
theorem State.corrected_leaves (s : State) (n u : Nat) (ds : List Nat) (src : DdrSource) :
    ((s.corrected n u ds src).chan n).corrected = bump32 (s.chan n).corrected 1 ∧ (s.corrected n u ds src).ddr.mem = s.ddr.mem ∧
      (s.corrected n u ds src).sites = s.sites := by
  have hchan : ((s.modChan n (fun c => ds.foldl Channel.name { c with corrected := bump32 c.corrected 1 })).chan n).corrected =
      bump32 (s.chan n).corrected 1 := by
    rw [State.chan_modChan_self, Channel.corrected_names]
  have hremod : ∀ (v : State) l, ((v.remod n).ddrLogAdd 0 n l src u).ddr.chan = v.ddr.chan ∧
      ((v.remod n).ddrLogAdd 0 n l src u).ddr.mem = v.ddr.mem ∧ ((v.remod n).ddrLogAdd 0 n l src u).sites = v.sites := fun v l =>
    ⟨(congrArg Ddr.chan (v.remod_leaves n).1 :), (congrArg Ddr.mem (v.remod_leaves n).1 :), (v.remod_leaves n).2⟩
  unfold State.corrected
  extract_lets old t h v
  have hv : (v.chan n).corrected = bump32 (s.chan n).corrected 1 := hchan
  split
  · exact ⟨hv, rfl, rfl⟩
  · obtain ⟨hc, hm, hs⟩ := hremod v (ds.filter (fun d => (v.chan n).marks.toNat.testBit d && !old.marks.toNat.testBit d))
    exact ⟨(congrArg (fun c => (aget Channel.reset c n).corrected) hc).trans hv, hm, hs⟩

theorem State.uncorrected_leaves (s : State) (n u : Nat) (src : DdrSource) :
    (s.uncorrected n u src).ddr.uncorrectable = bump16 s.ddr.uncorrectable 1 ∧ (s.uncorrected n u src).sites = s.sites := by
  unfold State.uncorrected
  extract_lets day d h t
  obtain ⟨hd, hs⟩ := t.remod_leaves n
  exact ⟨congrArg Ddr.uncorrectable hd, hs⟩

/-- What a scrub read of a mapped unit corrects is counted and written back. -/
theorem scrubCorrected {s : State} {n l : Nat} {f : EccFind} {ds : List Nat} {bytes : List Byte} (h : s.scrubs n = true)
    (hu : s.ddr.unitOf (n / 16) n (s.chan n).scrub = some l) (hl : s.ddr.locate (n / 16) l = some (n, (s.chan n).scrub * 128))
    (he : s.eccAt (n / 16) l f = .corrected ds bytes) : ∃ t, exec (.scrubRead n f) s = .next t ∧ t.sites = s.sites ∧
      (t.chan n).corrected = min ((s.chan n).corrected + 1) (2 ^ 32 - 1) ∧
      ∀ k, k < 128 → (t.ddr.memory (n / 16)).byte (l / 128 * 128 + k) = bytes.getD k 0 := by
  obtain ⟨t, hx, hchan, hmem, -, hsites⟩ := exec_scrubRead_found h f
  have hfound : s.scrubFound n f =
      (s.corrected n ((s.chan n).scrub * 128 / 128) ds .scrub).modMem (n / 16) (fun m => m.write (l / 128 * 128) bytes) := by
    unfold State.scrubFound State.ddrFound
    dsimp only
    rw [hu]
    dsimp only
    rw [hl, he]
    exact if_neg EccOut.noConfusion
  obtain ⟨hc, hm, hs⟩ := s.corrected_leaves n ((s.chan n).scrub * 128 / 128) ds .scrub
  have hlen : bytes.length = 128 := length_of_corrected he
  refine ⟨t, hx, ?_, ?_, fun k hk => ?_⟩
  · rw [hsites, hfound]
    exact hs
  · rw [hchan, Channel.corrected_advance, hfound]
    exact hc
  · have hmemory : t.ddr.memory (n / 16) = (s.ddr.memory (n / 16)).write (l / 128 * 128) bytes := by
      unfold Ddr.memory
      rw [hmem, hfound]
      refine (State.memory_modMem_self _ (n / 16) _).trans ?_
      exact congrArg (fun l' => (aget Memory.cleared l' (n / 16)).write (l / 128 * 128) bytes) hm
    rw [hmemory, Memory.byte_write_if, if_pos (by omega), Nat.add_sub_cancel_left]

/-- An uncorrectable unit is counted and becomes poisoned. -/
theorem scrubPoisoned {s : State} {n l : Nat} {f : EccFind} (h : s.scrubs n = true)
    (hu : s.ddr.unitOf (n / 16) n (s.chan n).scrub = some l) (hl : s.ddr.locate (n / 16) l = some (n, (s.chan n).scrub * 128))
    (he : s.eccAt (n / 16) l f = .uncorrectable) : ∃ t, exec (.scrubRead n f) s = .next t ∧ t.sites = s.sites ∧
      (t.ddr.memory (n / 16)).isPoisoned (l / 128) = true ∧ t.ddr.uncorrectable = min (s.ddr.uncorrectable + 1) (2 ^ 16 - 1) := by
  obtain ⟨t, hx, -, hmem, hcount, hsites⟩ := exec_scrubRead_found h f
  have hfound : s.scrubFound n f =
      (s.uncorrected n ((s.chan n).scrub * 128 / 128) .scrub).modMem (n / 16) (fun m => m.mark (l / 128) true) := by
    unfold State.scrubFound State.ddrFound
    dsimp only
    rw [hu]
    dsimp only
    rw [hl, he]
    exact if_pos rfl
  obtain ⟨hc, hs⟩ := s.uncorrected_leaves n ((s.chan n).scrub * 128 / 128) .scrub
  rw [hfound] at hmem hcount hsites
  refine ⟨t, hx, hsites.trans hs, ?_, hcount.trans hc⟩
  unfold Ddr.memory
  rw [hmem]
  refine (congrArg (Memory.isPoisoned · (l / 128)) (State.memory_modMem_self _ (n / 16) _)).trans ?_
  exact (Memory.isPoisoned_mark _ _ _ _).trans (if_pos rfl)

theorem moduleTempKept {s : State} {n temp : Nat} (hr : s.mod.phase.running = true) (hm : (s.chan n).module.isSome = true)
    (he : (s.chan n).state ≠ .empty) (hn : n ∈ s.mod.order.channels (n / 16)) : ∃ t, exec (.moduleTempRead n temp) s = .next t ∧
      t.chan n = { s.chan n with temp := temp } ∧ t.sites = s.sites ∧ t.ddr.mem = s.ddr.mem := by
  refine ⟨_, exec_moduleTempRead.trans (congrArg Host.Outcome.next (if_pos ?_)), State.chan_modChan_self s n _, rfl, rfl⟩
  rw [hr, hm, decide_eq_true he, List.contains_iff_mem.mpr hn]
  rfl

/-! ### Dressing -/

theorem not_mem_ndel (l : List Nat) (i : Nat) : i ∉ ndel l i := fun h => by
  have hne := (List.mem_filter.mp h).2
  rw [bne_self_eq_false] at hne
  cases hne

theorem dressWatchEnded {s : State} {i item : Nat} (h : ∃ w ∈ s.check.dressWatches, w.site = i ∧ w.item = item ∧ w.rounds = 0) :
    ∃ t, exec (.dressWatchEnd i item) s = .next t ∧ t.sites = s.sites ∧
      (t.quad (i / 576)).dressTransients = min ((s.quad (i / 576)).dressTransients + 1) (2 ^ 16 - 1) ∧
      ∀ w ∈ t.check.dressWatches, ¬(w.site = i ∧ w.item = item ∧ w.rounds = 0) := by
  obtain ⟨w, hw, hsite, hitem, hrounds⟩ := h
  have hany : s.check.dressWatches.any (fun w => w.site == i && w.item == item && w.rounds == 0) = true :=
    List.any_eq_true.mpr ⟨w, hw, by rw [hsite, hitem, hrounds]; simp⟩
  refine ⟨_, exec_dressWatchEnd.trans (congrArg Host.Outcome.next (if_pos hany)), rfl, ?_, fun w hw => ?_⟩
  · have hwear : ∀ u : State, u.rewear.quad (i / 576) = u.quad (i / 576) := fun _ => rfl
    rw [hwear]
    exact congrArg Quad.dressTransients (State.quad_modQuad_self _ (i / 576) _)
  · rintro ⟨h1, h2, h3⟩
    have hk := (List.mem_filter.mp hw).2
    simp [h1, h2, h3] at hk

theorem exec_marchPassDone_spare {s : State} {i : Nat} (hr : (s.site i).role = .spare) (hd : s.dresses i = true)
    (hw : s.turn.window ≠ .intake) :
    exec (.marchPassDone i .clean) s = .next { s with heal := { s.heal with readySpares := nins s.heal.readySpares i } } ∧
      exec (.marchPassDone i (.failed false)) s =
        .next (({ s with heal := { s.heal with readySpares := ndel s.heal.readySpares i } } : State).watchItem i 14) ∧
      ((s.confirm i 14 0).heal.replacing.find? (fun r => r.site == i) = none →
        exec (.marchPassDone i (.failed true)) s = .next (s.confirm i 14 0)) := by
  have hcond : ¬(((s.site i).role ≠ .spare || !s.dresses i || decide (s.turn.window = .intake)) = true) := by
    rw [hr, hd, decide_eq_false hw]
    decide
  refine ⟨exec_marchPassDone.trans (congrArg Host.Outcome.next (if_neg hcond)),
    exec_marchPassDone.trans (congrArg Host.Outcome.next (if_neg hcond)), fun hn => ?_⟩
  refine exec_marchPassDone.trans (congrArg Host.Outcome.next ((if_neg hcond).trans ?_))
  dsimp only
  rw [hn]

/-- An entry of the defect list leaves the rest. -/
theorem State.addDefect_leaves (s : State) (q : Nat) (d : Defect) :
    (s.addDefect q d).heal.replacing = s.heal.replacing ∧ (s.addDefect q d).quads = s.quads ∧ (s.addDefect q d).sites = s.sites := by
  have hlist : (s.listDefect q d).heal.replacing = s.heal.replacing ∧ (s.listDefect q d).quads = s.quads ∧
      (s.listDefect q d).sites = s.sites := by
    unfold State.listDefect
    dsimp only
    (repeat' split) <;> exact ⟨rfl, rfl, rfl⟩
  unfold State.addDefect
  dsimp only
  split
  · exact hlist
  · exact hlist

/-- A defect confirmed by a March pass: counted, its site to be fenced and no READY_SPARE. -/
theorem State.confirm_leaves (s : State) (i : Nat) : (s.confirm i 14 0).heal.replacing = s.heal.replacing ∧
    i ∈ (s.confirm i 14 0).heal.fenceDue ∧ i ∉ (s.confirm i 14 0).heal.readySpares ∧
    ((s.confirm i 14 0).quad (i / 576)).confirmed = bump16 (s.quad (i / 576)).confirmed 1 ∧ (s.confirm i 14 0).sites = s.sites := by
  unfold State.confirm
  extract_lets q t u v
  obtain ⟨hr, hq, hs⟩ := t.addDefect_leaves q (t.runtimeDefect i 14 0)
  rw [if_neg (by decide)]
  refine ⟨hr, (mem_nins _ _ _).mpr (.inl rfl), not_mem_ndel _ _, ?_, hs⟩
  refine (congrArg (fun l => (aget Quad.reset l (i / 576)).confirmed) hq).trans ?_
  exact congrArg Quad.confirmed (s.quad_modQuad_self (i / 576) _)

/-! ### Re-placement copies -/

theorem Memory.isPoisoned_marks (l : List Nat) (m : Memory) (w : Nat) :
    (l.foldl (fun m v => m.mark v true) m).isPoisoned w = (decide (w ∈ l) || m.isPoisoned w) := by
  induction l generalizing m with
  | nil => rfl
  | cons v l ih =>
    rw [List.foldl_cons, ih, Memory.isPoisoned_mark]
    by_cases h : w = v <;> simp [h]

theorem State.stagePlacement_leaves (s : State) (q tile site : Nat) : (s.stagePlacement q tile site).sites = s.sites ∧
    ∃ z, alook (s.stagePlacement q tile site).sets (65552 + q) = some z ∧ z.state = .opened ∧ z.held = false ∧
      Change.placement q tile site ∈ z.changes := by
  refine ⟨s.sites_clearFor _, _, alook_aset_self _ _ _, rfl, rfl, ?_⟩
  exact List.mem_append_right _ List.mem_cons_self

theorem replacementCopied {s : State} {q tile : Nat} {bad : List Nat} {r : Replacement}
    (hr : s.heal.replacing.find? (fun z => z.quad == q && z.tile == tile && !z.copied) = some r) (hs : r.site ∈ s.heal.readySpares) :
    ∃ t, exec (.replacementCopyDone q tile bad) s = .next t ∧ (∀ w, (t.site r.site).scr.isPoisoned w = decide (w ∈ bad)) ∧
      ∃ z, alook t.sets (65552 + q) = some z ∧ z.state = .opened ∧ z.held = false ∧ Change.placement q tile r.site ∈ z.changes := by
  have hx : exec (.replacementCopyDone q tile bad) s = execReplacementCopyDone q tile bad s := exec_replacementCopyDone
  unfold execReplacementCopyDone at hx
  rw [hr] at hx
  dsimp only at hx
  rw [if_neg (by rw [List.contains_iff_mem.mpr hs]; exact Bool.false_ne_true)] at hx
  refine ⟨_, hx, fun w => ?_, (State.stagePlacement_leaves _ q tile r.site).2⟩
  rw [State.site_of_sites (State.stagePlacement_leaves _ q tile r.site).1 r.site]
  have hself := s.site_setSite_self r.site { s.site r.site with scr := bad.foldl (fun m w => m.mark w true) Memory.cleared }
  refine (congrArg (fun a : Site => a.scr.isPoisoned w) hself).trans ?_
  refine (Memory.isPoisoned_marks bad Memory.cleared w).trans ?_
  exact Bool.or_false _

/-! ### The wear log -/

theorem State.degradedToday_eq (s : State) :
    s.degradedToday = { s with heal := { s.heal with portDegraded := s.degradedToday.heal.portDegraded } } := by
  have h : ∀ (l : List Nat) (u : State),
      l.foldl (fun u n => { u with heal := { u.heal with portDegraded := amod [] u.heal.portDegraded n (fun l => 1 :: l.drop 1) } }) u =
        { u with heal := { u.heal with portDegraded := (l.foldl (fun u n => ({ u with
          heal := { u.heal with portDegraded := amod [] u.heal.portDegraded n (fun l => 1 :: l.drop 1) } } : State)) u).heal.portDegraded } } := by
    intro l
    induction l with
    | nil => exact fun _ => rfl
    | cons n l ih => exact fun u => ih _
  exact h _ s

theorem wearDayEnded {s : State} (h : s.mod.phase.running = true) : ∃ t, exec .wearDayEnd s = .next t ∧
    t.heal.poweredHours = s.heal.poweredHours + 24 ∧ t.heal.logPending = true ∧ t.heal.lastCorrected = s.heal.dayCorrected ∧
    t.heal.dayCorrected = [] ∧ t.heal.lastRetrains = s.heal.portRetrains ∧ t.heal.portRetrains = [] ∧ t.sites = s.sites ∧
    t.quads = s.quads := by
  refine ⟨_, exec_wearDayEnd.trans (congrArg Host.Outcome.next (if_pos h)), ?_⟩
  rw [State.degradedToday_eq]
  exact ⟨rfl, rfl, rfl, rfl, rfl, rfl, rfl, rfl⟩

end Sys2Proof.Machine

open Sys2Proof Sys2Proof.Machine

/-- Settles O57: digests, device DDR, sites under test, the wear log. -/
theorem memoryChecksAndHealing : Obligations.MemoryChecksAndHealing := by
  unfold Obligations.MemoryChecksAndHealing
  refine ⟨fun s h c q r e => ⟨weightDigestAccepted, digestPassStarted, digestPassWaits, regionDigested⟩,
    fun s n temp f => ⟨fun h => ⟨?_, fun l hu hl => ⟨fun ds bytes he => scrubCorrected h hu hl he, scrubPoisoned h hu hl⟩⟩,
      fun h => exec_scrubRead.trans (congrArg Host.Outcome.next (if_pos (by rw [h]; rfl))), moduleTempKept⟩,
    fun s i item => ⟨dressWatchEnded, fun hr hd hw => ?_, fun h ok => ?_, fun q tile bad r => replacementCopied⟩,
    fun s => ⟨wearDayEnded, fun h => exec_wearDayEnd.trans (congrArg Host.Outcome.next (if_neg (by rw [h]; exact Bool.false_ne_true))),
      exec_wearLogWrite⟩⟩
  · obtain ⟨t, hx, hchan, hmem, -, hsites⟩ := exec_scrubRead_found h EccFind.clean
    rw [s.scrubFound_clean] at hchan hmem hsites
    refine ⟨t, hx, hmem, hsites, ?_⟩
    rw [hchan]
    exact Channel.scrub_advance _
  · obtain ⟨hclean, hwatch, hfail⟩ := exec_marchPassDone_spare hr hd hw
    obtain ⟨hrep, hfence, hready, hcount, hsites⟩ := s.confirm_leaves i
    refine ⟨⟨_, hclean, (mem_nins _ _ _).mpr (.inl rfl), rfl⟩,
      ⟨_, hwatch, not_mem_ndel _ _, List.mem_append_right _ List.mem_cons_self, rfl, rfl⟩, fun hno => ?_⟩
    refine ⟨_, hfail ?_, hfence, hready, hcount, hsites⟩
    rw [hrep]
    exact List.find?_eq_none.mpr fun r hr he => hno r hr (eq_of_beq he)
  · refine exec_marchPassDone.trans (congrArg Host.Outcome.next (if_pos ?_))
    rcases h with h | h | h <;> simp [h]
end

section
/-! ## Snapshots, engine resets, replay, watchdogs and SERVICE loads -/
namespace Sys2Proof.Machine

/-! ### What recovery leaves of a quadrant -/

/-- How a quadrant recovers, its heartbeat, and what it counts of hangs. -/
def Quad.vigil (x : Quad) : RecState × Nat × Nat × Nat := (x.recState, x.heartbeatTurn, x.quarantines, x.transientHangs)

/-- The turn, and every quadrant's vigil. -/
def State.vigils (s : State) : Turn × (Nat → RecState × Nat × Nat × Nat) := (s.turn, fun k => (s.quad k).vigil)

theorem State.vigils_foldl {α : Type} {f : State → α → State} (h : ∀ t x, (f t x).vigils = t.vigils) (l : List α) (s : State) :
    (l.foldl f s).vigils = s.vigils := foldl_fixes State.vigils f h l s

theorem State.vigils_of_eq {s t : State} (ht : t.turn = s.turn) (hq : t.quads = s.quads) : t.vigils = s.vigils :=
  Prod.ext ht (funext fun k => congrArg (fun l => (aget Quad.reset l k).vigil) hq)

theorem State.vigils_of_map {s t : State} {f : Quad → Quad} (ht : t.turn = s.turn) (hq : t.quads = s.quads.map (fun e => (e.1, f e.2)))
    (hf : ∀ x, (f x).vigil = x.vigil) : t.vigils = s.vigils :=
  Prod.ext ht (funext fun k => State.quad_map Quad.vigil hq hf k)

theorem State.vigils_modQuad (s : State) (q : Nat) {g : Quad → Quad} (h : (g (s.quad q)).vigil = (s.quad q).vigil) :
    (s.modQuad q g).vigils = s.vigils :=
  Prod.ext rfl (funext fun k => by
    show ((s.modQuad q g).quad k).vigil = (s.quad k).vigil
    by_cases hk : k = q
    · rw [hk, State.quad_modQuad_self, h]
    · rw [State.quad_modQuad_ne _ _ _ _ hk])

theorem State.vigils_finish (s : State) (p : Cmd → Bool) (st : Status) (res : Cmd → List Byte) : (s.finish p st res).vigils = s.vigils := by
  rw [(s.finish_eq p st res).2]
  rfl

theorem State.vigils_setHolds (s : State) : s.setHolds.vigils = s.vigils :=
  foldl_fixes State.vigils _ (fun u c => by
    dsimp only
    split <;> rfl) allCtxs s

theorem State.vigils_endStep (s : State) (id : Nat) (st : Status) (reason : Nat) (fin : StreamState) :
    (s.endStep id st reason fin).vigils = s.vigils := by
  unfold State.endStep
  extract_lets e res s1 s2
  have h2 : s2.vigils = s.vigils := (State.vigils_finish _ _ _ _).trans (s.vigils_finish _ _ _)
  clear_value s2
  unfold State.release State.modSlot
  split
  · exact h2
  · exact h2

theorem State.vigils_endSteps (s : State) (c : Nat) (st : Status) : (s.endSteps c st).vigils = s.vigils :=
  State.vigils_foldl (fun u id => u.vigils_endStep id st 5 .idle) _ s

theorem State.vigils_stopCtx (s : State) (c : Nat) : (s.stopCtx c).vigils = s.vigils := by
  have hsites : ∀ (g : Site → Site) (l : List Nat), (l.foldl (fun u i => u.modSite i g) s).vigils = s.vigils := fun g l =>
    State.vigils_foldl (fun u i => by exact rfl) l s
  unfold State.stopCtx
  extract_lets cleared empty m u
  have hu : u.vigils = s.vigils := hsites _ _
  clear_value u
  refine Eq.trans ?_ hu
  exact State.vigils_of_map (f := fun x => { x with replay := x.replay.map (fun r => r.leave c) }) rfl rfl fun _ => rfl

theorem State.vigils_dropLoad (s : State) (c : Nat) : (s.dropLoad c).vigils = s.vigils :=
  State.vigils_of_map (f := fun x => { x with sluices := x.sluices.filter (fun z => z.2.ctx != c) }) rfl rfl fun _ => rfl

theorem State.vigils_haltForReset (s : State) (c : Nat) : (s.haltForReset c).vigils = s.vigils := by
  unfold State.haltForReset
  dsimp only
  split
  · rfl
  split
  · exact (State.vigils_dropLoad _ c).trans (s.vigils_finish _ _ _)
  · exact (State.vigils_stopCtx _ c).trans (s.vigils_finish _ _ _)

theorem State.vigils_loseShadow (s : State) (p : Change → Bool) : (s.loseShadow p).vigils = s.vigils := rfl

theorem State.vigils_rearm (s : State) (c : Nat) : (s.rearm c).vigils = s.vigils :=
  State.vigils_of_map (f := fun x => { x with sluices := x.sluices.map (fun z =>
    if z.2.ctx = c then (z.1, z.2.anew (s.ctx c).gen x.gen) else z) }) rfl rfl fun _ => rfl

theorem State.vigils_abortCtx (s : State) (c : Nat) (fin : CtxState) : (s.abortCtx c fin).vigils = s.vigils := by
  unfold State.abortCtx
  extract_lets x a b d
  have ha : a.vigils = s.vigils := (State.vigils_finish _ _ _ _).trans (s.vigils_endSteps c _)
  clear_value a
  have hb : b.vigils = s.vigils := (State.vigils_stopCtx a c).trans ha
  clear_value b
  have hd : d.vigils = b.vigils := (b.rearm c).vigils_loseShadow _ |>.trans (b.vigils_rearm c)
  clear_value d
  refine (State.vigils_foldl (fun u q => ?_) x.quads d).trans (hd.trans hb)
  exact u.vigils_modQuad q rfl

theorem State.vigils_snapWrite (s : State) (slot off : Nat) (bs : List Byte) : (s.snapWrite slot off bs).vigils = s.vigils := by
  unfold State.snapWrite
  rw [State.ddrPut_eq]
  rfl

/-- A snapshot of a quadrant, noted there. -/
theorem State.vigils_captured (s : State) (m : Mod) (q : Nat) (z : Snapshot) :
    ((({ s with mod := m } : State).modQuad q (fun x => { x with snap := z })).setHolds).vigils = s.vigils := by
  refine (State.vigils_setHolds _).trans ?_
  exact State.vigils_modQuad { s with mod := m } q rfl

theorem State.vigils_snapshot (s : State) (q trigger engine : Nat) (suspects ctxs : List Nat) (cmd : Option Cmd) :
    (s.snapshot q trigger engine suspects ctxs cmd).vigils = s.vigils := by
  have hquad : ∀ slot (u : State), (u.snapQuad q slot).vigils = u.vigils := fun slot u => by
    refine (State.vigils_foldl (fun u n => u.vigils_snapWrite _ _ _) _ _).trans ?_
    exact State.vigils_foldl (fun u n => u.vigils_snapWrite _ _ _) _ _
  unfold State.snapshot
  dsimp only
  split
  · exact s.vigils_captured s.mod q _
  · exact (State.vigils_captured _ _ q _).trans ((hquad _ _).trans (s.vigils_snapWrite _ _ _))

/-! ### Snapshots and replay -/

theorem State.snap_emptyCtx (s : State) (c q : Nat) : ((s.emptyCtx c).quad q).snap = (s.quad q).snap :=
  foldl_fixes (fun u : State => (u.quad q).snap) _ (fun u i => by
    dsimp only
    by_cases hq : q = i / Config.sitesPerQuad
    · rw [hq, State.quad_modQuad_self]
      rfl
    · rw [State.quad_modQuad_ne _ _ _ _ hq]
      rfl) _ s

theorem snapshotCaptured {s : State} {q : Nat} (hp : (s.quad q).snap.pending = true) (hw : s.turn.window ≠ .close) :
    ∃ t, exec (.snapshotSiteCapture q) s = .next t ∧
      (t.quad q).snap = { (s.quad q).snap with valid := true, pending := false, ctxs := [] } := by
  refine ⟨_, exec_snapshotSiteCapture.trans (congrArg Host.Outcome.next (if_pos (by rw [hp, decide_eq_true hw]; rfl))), ?_⟩
  dsimp only
  have hmodes : ∀ u : State, u.drivenModes.quad q = u.quad q := fun _ => rfl
  rw [hmodes, State.quads_setHolds_quad]
  refine (foldl_fixes (fun u : State => (u.quad q).snap) _ (fun u c => u.snap_emptyCtx c q) _ _).trans ?_
  rw [State.quad_modQuad_self]

/-- The suspects that are still to be replayed. -/
def State.stillTodo (s : State) (r : Replay) : List Nat := r.todo.dropWhile (fun c => !(s.ctx c).replays)

theorem State.nextReplay_leaves (s : State) (q : Nat) (r : Replay) :
    (s.nextReplay q r).quad q = { s.quad q with
      recState := .replay, replay := some { r with todo := s.stillTodo r, left := if (s.stillTodo r).isEmpty then 0 else 64 } } ∧
      (s.nextReplay q r).sites = s.sites ∧ (s.stillTodo r = [] → (s.nextReplay q r).ctxs = s.ctxs) := by
  have hquad : ∀ u : State, u.quads = (s.modQuad q (fun x => { x with
      recState := .replay, replay := some { r with todo := s.stillTodo r, left := if (s.stillTodo r).isEmpty then 0 else 64 } })).quads →
      u.quad q = { s.quad q with
        recState := .replay, replay := some { r with todo := s.stillTodo r, left := if (s.stillTodo r).isEmpty then 0 else 64 } } :=
    fun u hu => (congrArg (aget Quad.reset · q) hu).trans (s.quad_modQuad_self q _)
  unfold State.nextReplay
  extract_lets todo u
  have hu : u.quad q = _ := hquad u rfl
  have hsites : u.sites = s.sites := rfl
  have hctxs : u.ctxs = s.ctxs := rfl
  have htodo : s.stillTodo r = todo := rfl
  clear_value u todo
  split
  · exact ⟨hu, hsites, fun _ => hctxs⟩
  · have hne : ∀ {P : Prop}, s.stillTodo r = [] → P := fun hn => nomatch htodo.symm.trans hn
    split
    · exact ⟨hu, hsites, hne⟩
    · exact ⟨hu, hsites, hne⟩

/-- A quadrant whose engine `e` has been reset. -/
def Quad.engineDone (x : Quad) (e : Nat) : Quad :=
  { x with
    engineResets := bump16 x.engineResets 1
    engines := amod Engine.reset x.engines e (fun n => { n with now := [], retired := 0, tripped := false }) }

theorem engineResetEnded {s : State} {q : Nat} {r : Replay} (hr : (s.quad q).replay = some r) (hs : (s.quad q).recState = .engineReset) :
    (∀ c l, r.todo = c :: l → (s.ctx c).replays = true → ∃ t, exec (.engineResetDone q r.engine) s = .next t ∧
        (t.quad q).recState = .replay ∧ (t.quad q).replay = some { r with left := 64 } ∧
        (t.quad q).engineResets = min ((s.quad q).engineResets + 1) (2 ^ 16 - 1) ∧ t.sites = s.sites) ∧
      (r.todo = [] → ∃ t, exec (.engineResetDone q r.engine) s = .next t ∧ (t.quad q).recState = .replay ∧
        (t.quad q).replay = some { r with left := 0 } ∧ t.sites = s.sites ∧ t.ctxs = s.ctxs) ∧
      (∀ e, e ≠ r.engine → exec (.engineResetDone q e) s = .next s) := by
  have hx : ∀ e, exec (.engineResetDone q e) s = execEngineResetDone q e s := fun e => exec_engineResetDone
  unfold execEngineResetDone at hx
  simp only [hr, hs] at hx
  have hrun : exec (.engineResetDone q r.engine) s = .next ((s.modQuad q (fun x => x.engineDone r.engine)).nextReplay q r) :=
    (hx r.engine).trans (congrArg Host.Outcome.next (if_neg (fun hn => hn rfl)))
  obtain ⟨hquad, hsites, hctxs⟩ := State.nextReplay_leaves (s.modQuad q (fun x => x.engineDone r.engine)) q r
  rw [State.quad_modQuad_self] at hquad
  refine ⟨fun c l hl hc => ⟨_, hrun, ?_⟩, fun hl => ⟨_, hrun, ?_⟩, fun e he => (hx e).trans (congrArg Host.Outcome.next (if_pos he.symm))⟩
  · have htodo : State.stillTodo (s.modQuad q (fun x => x.engineDone r.engine)) r = r.todo := by
      unfold State.stillTodo
      rw [hl, List.dropWhile_cons_of_neg]
      show ¬(!(s.ctx c).replays) = true
      rw [hc]
      exact Bool.false_ne_true
    have hmore : r.todo.isEmpty = false := by rw [hl]; rfl
    rw [htodo, hmore] at hquad
    rw [hquad, hsites]
    exact ⟨rfl, rfl, rfl, rfl⟩
  · have htodo : State.stillTodo (s.modQuad q (fun x => x.engineDone r.engine)) r = [] := by
      unfold State.stillTodo
      rw [hl, List.dropWhile_nil]
    rw [htodo, ← hl] at hquad
    rw [hquad, hsites, hctxs htodo, hl]
    exact ⟨rfl, rfl, rfl, rfl⟩

/-- A context's state and generation. -/
def Ctx.post (x : Ctx) : CtxState × Nat := (x.state, x.gen)

theorem State.post_setHolds (s : State) (c : Nat) : (s.setHolds.ctx c).post = (s.ctx c).post :=
  foldl_fixes (fun u : State => (u.ctx c).post) _ (fun u k => by
    dsimp only
    split
    · rfl
    · exact State.proj_of_set Ctx.post ⟨_, rfl, by rfl⟩ c) allCtxs s

/-- The end of a suspect's replay, where it was the last. -/
theorem exec_replayEnd_last {s : State} {q : Nat} {r : Replay} (hr : (s.quad q).replay = some r) (hs : (s.quad q).recState = .replay)
    (hl : r.left = 0) (hw : s.turn.window = .intake) (hd : r.todo.drop 1 = []) :
    ∃ (u : State) (n : Replay), exec (.replayEnd q) s = .next ((u.endReplay q n).setHolds) ∧ n.guilty = r.guilty ∧
      (u.quad q).vigil.2 = (s.quad q).vigil.2 ∧ u.ctxs = s.ctxs := by
  have hx : exec (.replayEnd q) s = execReplayEnd q s := exec_replayEnd
  unfold execReplayEnd at hx
  simp only [hr, hs] at hx
  rw [if_pos (by rw [decide_eq_true hw, decide_eq_true hl]; rfl)] at hx
  obtain ⟨hquad, -, hctxs⟩ := s.nextReplay_leaves q { r with todo := r.todo.drop 1 }
  have htodo : s.stillTodo { r with todo := r.todo.drop 1 } = [] := by
    unfold State.stillTodo
    dsimp only
    rw [hd, List.dropWhile_nil]
  rw [htodo] at hquad
  have hctxs := hctxs htodo
  unfold State.replayOver at hx
  dsimp only at hx
  generalize s.nextReplay q { r with todo := r.todo.drop 1 } = u at hx hquad hctxs
  have hreplay : (u.quad q).replay = some { r with todo := [], left := 0 } := by
    rw [hquad]
    rfl
  rw [hreplay] at hx
  exact ⟨u, _, hx, rfl, by rw [hquad]; rfl, hctxs⟩

theorem replayEnded {s : State} {q : Nat} {r : Replay} (hr : (s.quad q).replay = some r) (hs : (s.quad q).recState = .replay) :
    (r.left ≠ 0 ∨ s.turn.window ≠ .intake → exec (.replayEnd q) s = .next s) ∧
      (r.left = 0 → s.turn.window = .intake → r.todo.drop 1 = [] → r.guilty = [] → ∃ t, exec (.replayEnd q) s = .next t ∧
        (t.quad q).recState = .normal ∧ (t.quad q).transientHangs = min ((s.quad q).transientHangs + 1) (2 ^ 16 - 1)) ∧
      (∀ g, r.left = 0 → s.turn.window = .intake → r.todo.drop 1 = [] → r.guilty = [g] → ∃ t, exec (.replayEnd q) s = .next t ∧
        (t.quad q).recState = .normal ∧ (t.ctx g).state = .quarantined ∧ (t.ctx g).gen = ((s.ctx g).gen + 1) % 256 ∧
        (t.quad q).quarantines = min ((s.quad q).quarantines + 1) (2 ^ 8 - 1)) := by
  refine ⟨fun h => ?_, fun hl hw hd hg => ?_, fun g hl hw hd hg => ?_⟩
  · have hx : exec (.replayEnd q) s = execReplayEnd q s := exec_replayEnd
    unfold execReplayEnd at hx
    simp only [hr, hs] at hx
    refine hx.trans (congrArg Host.Outcome.next (if_neg ?_))
    rw [Bool.and_eq_true, decide_eq_true_iff, decide_eq_true_iff]
    rintro ⟨h1, h2⟩
    exact h.elim (fun h => h h1) (fun h => h h2)
  · obtain ⟨u, n, hx, hguilty, hvigil, -⟩ := exec_replayEnd_last hr hs hl hw hd
    refine ⟨_, hx, ?_⟩
    rw [State.quads_setHolds_quad]
    unfold State.endReplay
    rw [hguilty, hg]
    dsimp only
    rw [State.quad_modQuad_self, State.quad_modQuad_self]
    exact ⟨rfl, congrArg (fun v => bump16 v.2.2 1) hvigil⟩
  · obtain ⟨u, n, hx, hguilty, hvigil, hctxs⟩ := exec_replayEnd_last hr hs hl hw hd
    have hend : u.endReplay q n = ((u.modQuad q (fun x => { x with recState := .normal, replay := none })).abortCtx g .quarantined).modQuad q
        (fun x => { x with quarantines := satAdd 8 x.quarantines 1 }) := by
      unfold State.endReplay
      rw [hguilty, hg]
    have hstart : ((u.modQuad q (fun x => { x with recState := .normal, replay := none })).quad q).vigil = (.normal, (u.quad q).vigil.2) := by
      rw [State.quad_modQuad_self]
      rfl
    have hmid := (congrArg (fun v => v.2 q) (State.vigils_abortCtx (u.modQuad q (fun x => { x with recState := .normal, replay := none }))
      g .quarantined)).trans hstart
    obtain ⟨hstate, hgen, -⟩ := (u.modQuad q (fun x => { x with recState := .normal, replay := none })).abortCtx_leaves g .quarantined
    have hctx : u.ctx g = s.ctx g := congrArg (aget Ctx.reset · g) hctxs
    rw [hend] at hx
    generalize (u.modQuad q (fun x => { x with recState := .normal, replay := none })).abortCtx g .quarantined = w at hx hmid hstate hgen
    have hctxw : (w.modQuad q (fun x => { x with quarantines := satAdd 8 x.quarantines 1 })).ctx g = w.ctx g := rfl
    have hpost := (w.modQuad q (fun x => { x with quarantines := satAdd 8 x.quarantines 1 })).post_setHolds g
    rw [hctxw] at hpost
    obtain ⟨hst, hgn⟩ := Prod.mk.inj hpost
    refine ⟨_, hx, ?_, ?_, ?_, ?_⟩
    · rw [State.quads_setHolds_quad, State.quad_modQuad_self]
      exact congrArg Prod.fst hmid
    · rw [hst, hstate]
    · rw [hgn, ← hctx]
      exact hgen
    · rw [State.quads_setHolds_quad, State.quad_modQuad_self]
      have hquar : (w.quad q).quarantines = (s.quad q).quarantines := (congrArg (fun v => v.2.2.1) hmid).trans (congrArg (fun v => v.2.1) hvigil)
      dsimp only
      rw [hquar]
      rfl

/-! ### The heartbeat and the hub watchdog -/

theorem State.quadReset_keeps (s : State) (q : Nat) (full host : Bool) : (s.quadReset q full host).turn = s.turn ∧
    ((s.quadReset q full host).quad q).heartbeatTurn = (s.quad q).heartbeatTurn := by
  unfold State.quadReset
  dsimp only
  have ha : (List.foldl (fun u c => u.haltForReset c) (s.loseShadow (s.inQuad q)) (s.ctxsOn q)).vigils = s.vigils :=
    (State.vigils_foldl (fun u c => u.vigils_haltForReset c) _ _).trans (s.vigils_loseShadow _)
  generalize List.foldl _ (s.loseShadow (s.inQuad q)) (s.ctxsOn q) = a at ha
  have hb : ∀ (b : State) g, b.turn = a.turn → b.quads = (a.modQuad q g).quads → (g (a.quad q)).heartbeatTurn = (a.quad q).heartbeatTurn →
      b.setHolds.turn = s.turn ∧ (b.setHolds.quad q).heartbeatTurn = (s.quad q).heartbeatTurn := by
    intro b g ht hq hg
    obtain ⟨hhold, -⟩ := Prod.mk.inj b.vigils_setHolds
    obtain ⟨hturn, -⟩ := Prod.mk.inj ha
    refine ⟨hhold.trans (ht.trans hturn), ?_⟩
    rw [State.quads_setHolds_quad]
    have hbq : b.quad q = g (a.quad q) := (congrArg (aget Quad.reset · q) hq).trans (a.quad_modQuad_self q g)
    have hbeat : (a.quad q).heartbeatTurn = (s.quad q).heartbeatTurn := congrArg (fun v => (v.2 q).2.1) ha
    rw [hbq, hg, hbeat]
  exact hb _ (fun x => x.toReset ((s.quad q).resetPath full) host (decide ((s.quad q).load.kind ≠ 0) && !(s.quad q).load.valid))
    rfl rfl rfl

theorem heartbeatMissed {s : State} {q : Nat} (hl : s.live = true) (hw : s.turn.window = .close) (hq : q ∈ s.mod.order.quads)
    (hr : (s.quad q).recState.resetting = false) : ∃ t, exec (.qcHeartbeatMiss q) s = .next t ∧
      (t.quad q).recState.resetting = true ∧ (t.quad q).hostReset = false ∧ (t.quad q).heartbeatTurn = s.turn.no - 2 ∧ t.turn = s.turn := by
  have hx : exec (.qcHeartbeatMiss q) s = .next (((s.modQuad q (fun x => { x with heartbeatTurn := s.turn.no - 2 })).snapshot q 3 0 []
      ((s.modQuad q (fun x => { x with heartbeatTurn := s.turn.no - 2 })).ctxsOn q) none).quadReset q false false) := by
    refine exec_qcHeartbeatMiss.trans (congrArg Host.Outcome.next (if_pos ?_))
    rw [hl, decide_eq_true hw, List.contains_iff_mem.mpr hq, hr]
    rfl
  have hsnap := (s.modQuad q (fun x => { x with heartbeatTurn := s.turn.no - 2 })).vigils_snapshot q 3 0 []
    ((s.modQuad q (fun x => { x with heartbeatTurn := s.turn.no - 2 })).ctxsOn q) none
  generalize (s.modQuad q (fun x => { x with heartbeatTurn := s.turn.no - 2 })).snapshot q 3 0 [] _ none = u at hx hsnap
  obtain ⟨-, hpath, -⟩ := u.quadReset_halts q false false
  obtain ⟨hrec, hhost⟩ := Quad.path_eq hpath
  obtain ⟨hturn, hbeat⟩ := u.quadReset_keeps q false false
  have hub : (u.quad q).heartbeatTurn = s.turn.no - 2 := by
    refine (congrArg (fun v => (v.2 q).2.1) hsnap).trans ?_
    show ((s.modQuad q _).quad q).heartbeatTurn = _
    rw [State.quad_modQuad_self]
  refine ⟨_, hx, ?_, hhost, hbeat.trans hub, hturn.trans (Prod.mk.inj hsnap).1⟩
  rw [hrec]
  unfold Quad.resetPath
  split <;> rfl

theorem State.running_of_live {s : State} (h : s.live = true) : s.turn.running = true ∧ s.check.chipBraked = false := by
  unfold State.live at h
  rw [Bool.and_eq_true, Bool.not_eq_true'] at h
  exact h

theorem hubUnserved {s : State} (hl : s.live = true) (hw : s.mod.watchdog = false) : ∃ t, exec .hubWatchdogExpire s = .next t ∧
    t.mod.watchdog = true ∧ t.check.chipBraked = true ∧ t.mod.dev = .braked ∧ t.mod.brakeN = false ∧
    t.mod.serviced = s.turn.no - 1 ∧ (t.check.braking = none → t.mod.cycleReqN = false) := by
  obtain ⟨hrun, hchip⟩ := State.running_of_live hl
  have hx : exec .hubWatchdogExpire s = execHubWatchdogExpire s := exec_hubWatchdogExpire
  unfold execHubWatchdogExpire at hx
  rw [if_pos (by rw [hrun, hw]; rfl)] at hx
  dsimp only at hx
  obtain ⟨hn, hbrake, -, -, -, hservice⟩ := State.brake_brakes { s with mod := { s.mod with watchdog := true, serviced := s.turn.no - 1 } } []
    true .watchdog (some { (State.plainFault { s with mod := { s.mod with watchdog := true, serviced := s.turn.no - 1 } } .watchdog []
      (watchdogData 1 0xFF (s.turn.no - 1))) with scope := 3 }) [] hchip
  generalize State.brake _ [] true .watchdog _ [] = u at hx hn hbrake hservice
  obtain ⟨hdog, hlast⟩ := Prod.mk.inj hservice
  obtain ⟨hb, hd⟩ := hbrake rfl
  refine ⟨_, hx, ?_⟩
  split
  · exact ⟨hdog, hb, hd, hn, hlast, fun _ => rfl⟩
  · next h => exact ⟨hdog, hb, hd, hn, hlast, fun hnone => absurd (by rw [hnone]; rfl) h⟩

/-! ### SERVICE loads -/

/-- A quadrant in which a SERVICE load begins: the image is staged. -/
def Quad.staged (x : Quad) (img : List Byte) : Quad :=
  { x with
    staging := some img
    load := { valid := false, result := 0, kind := 1, round := 0, incomplete := 0, fenced := 0
              seq := (x.load.seq + 1) % 65536, activate := 0, bad := [] } }

theorem filter_presentSites {s : State} {q : Nat} {bad : List Nat} (h : ∀ i ∈ bad, i / 576 = q ∧ (s.site i).role ≠ .fenced) :
    bad.filter (fun i => i / Config.sitesPerQuad == q && decide ((s.site i).role ≠ .fenced)) = bad :=
  List.filter_eq_self.mpr fun i hi => by
    rw [Bool.and_eq_true, decide_eq_true_iff]
    exact ⟨beq_iff_eq.mpr (h i hi).1, (h i hi).2⟩

/-- Pass 0 of a SERVICE load without an incomplete site, or with some. -/
theorem exec_broadcastReceipt_first {s : State} {q : Nat} {bad : List Nat} (hl : s.live = true) (hq : q ∈ s.mod.order.quads)
    (hz : (s.quad q).load.kind = 0 ∨ (s.quad q).load.valid = true) (hbad : ∀ i ∈ bad, i / 576 = q ∧ (s.site i).role ≠ .fenced) :
    exec (.broadcastReceipt q true bad) s = .next (if bad.isEmpty then
      (s.modQuad q (fun x => x.staged s.serviceImage)).repaired q true []
      else (s.modQuad q (fun x => x.staged s.serviceImage)).modQuad q (fun x => { x with
        load := { x.load with round := x.load.round + 1, incomplete := bad.length } })) := by
  have hbusy : ¬(decide ((s.quad q).load.kind ≠ 0) && !(s.quad q).load.valid) = true := by
    rcases hz with hz | hz <;> simp [hz]
  have hserved : ¬(!s.live || !s.mod.order.quads.contains q) = true := by
    rw [hl, List.contains_iff_mem.mpr hq]
    decide
  have hstaged : (s.modQuad q (fun x => x.staged s.serviceImage)).quad q = (s.quad q).staged s.serviceImage := s.quad_modQuad_self q _
  have hx : exec (.broadcastReceipt q true bad) s = execBroadcastReceipt q true bad s := exec_broadcastReceipt
  unfold execBroadcastReceipt at hx
  dsimp only at hx
  rw [filter_presentSites hbad, if_neg hserved, if_neg hbusy, if_pos rfl] at hx
  refine hx.trans (congrArg Host.Outcome.next ?_)
  have hload : ((s.modQuad q (fun x => x.staged s.serviceImage)).quad q).load = ((s.quad q).staged s.serviceImage).load := by
    rw [hstaged]
  refine (if_neg ?_).trans ?_
  · show ¬(((s.modQuad q (fun x => x.staged s.serviceImage)).quad q).load.valid ||
      decide (((s.modQuad q (fun x => x.staged s.serviceImage)).quad q).load.kind ≠ 1) ||
      decide (((s.modQuad q (fun x => x.staged s.serviceImage)).quad q).load.activate ≠ 0)) = true
    rw [hload]
    exact Bool.false_ne_true
  · split
    · rfl
    · refine if_pos ?_
      show ((s.modQuad q (fun x => x.staged s.serviceImage)).quad q).load.round < 3
      rw [hload]
      exact Nat.zero_lt_succ 2

theorem State.fenceTooLarge_nil (s : State) (q : Nat) : s.fenceTooLarge q [] = false := by
  unfold State.fenceTooLarge
  exact decide_eq_false (Nat.not_lt_zero _)

/-- A SERVICE load without an incomplete site is to activate two turns on. -/
theorem State.repaired_nil {s : State} {q : Nat} (h : (s.quad q).recState = .normal) :
    (s.repaired q true []).quad q = { s.quad q with load := { (s.quad q).load with
      incomplete := 0, fenced := 0, bad := [], activate := (s.turn.no + 2) % 2 ^ 64 } } ∧ (s.repaired q true []).sites = s.sites := by
  have hreset : ¬(s.quad q).recState.resetting = true := by
    rw [h]
    exact Bool.false_ne_true
  have heq : s.repaired q true [] = ((({ s with heal := { s.heal with fenceDue := s.heal.fenceDue } } : State).modQuad q (fun x => { x with
      load := { x.load with incomplete := 0, fenced := 0, bad := [], activate := s.activateTurn [] % 2 ^ 64 } })).setHolds) := by
    unfold State.repaired
    dsimp only
    rw [if_neg hreset, if_neg (by decide), if_neg (by rw [List.foldl_nil, s.fenceTooLarge_nil]; exact Bool.false_ne_true)]
    rfl
  rw [heq, State.quads_setHolds_quad, State.sites_setHolds, State.quad_modQuad_self]
  exact ⟨rfl, rfl⟩

theorem serviceLoadReceived {s : State} {q : Nat} {bad : List Nat} (hl : s.live = true) (hq : q ∈ s.mod.order.quads)
    (hz : (s.quad q).load.kind = 0 ∨ (s.quad q).load.valid = true) (hn : (s.quad q).recState = .normal) :
    (∃ t, exec (.broadcastReceipt q true []) s = .next t ∧ (t.quad q).load.valid = false ∧ (t.quad q).load.kind = 1 ∧
        (t.quad q).load.seq = ((s.quad q).load.seq + 1) % 65536 ∧ (t.quad q).load.activate = (s.turn.no + 2) % 2 ^ 64 ∧
        (t.quad q).load.incomplete = 0 ∧ (t.quad q).staging = some s.serviceImage ∧ (t.quad q).store = (s.quad q).store ∧
        t.sites = s.sites) ∧
      (bad ≠ [] → (∀ i ∈ bad, i / 576 = q ∧ (s.site i).role ≠ .fenced) → ∃ t, exec (.broadcastReceipt q true bad) s = .next t ∧
        (t.quad q).load.round = 1 ∧ (t.quad q).load.incomplete = bad.length ∧ (t.quad q).load.activate = 0 ∧ t.sites = s.sites) := by
  have hstaged : (s.modQuad q (fun x => x.staged s.serviceImage)).quad q = (s.quad q).staged s.serviceImage := s.quad_modQuad_self q _
  refine ⟨⟨_, exec_broadcastReceipt_first hl hq hz (fun _ h => nomatch h), ?_⟩, fun hne hbad =>
    ⟨_, exec_broadcastReceipt_first hl hq hz hbad, ?_⟩⟩
  · obtain ⟨hquad, hsites⟩ := State.repaired_nil (s := s.modQuad q (fun x => x.staged s.serviceImage)) (q := q) (by rw [hstaged]; exact hn)
    rw [if_pos List.isEmpty_nil, hquad, hsites, hstaged]
    exact ⟨rfl, rfl, rfl, rfl, rfl, rfl, rfl, rfl⟩
  · rw [if_neg (by rw [List.isEmpty_iff]; exact hne), State.quad_modQuad_self, hstaged]
    exact ⟨rfl, rfl, rfl, rfl⟩

/-! ### The switch to a new service store -/

/-- A quadrant's load, its staged image and its store. -/
def Quad.stock (x : Quad) : LoadStatus × Option (List Byte) × List Byte := (x.load, x.staging, x.store)

theorem State.stock_of_quads {s t : State} (h : t.quads = s.quads) (q : Nat) : (t.quad q).stock = (s.quad q).stock :=
  congrArg (fun l => (aget Quad.reset l q).stock) h

theorem State.stock_replaceSite (s : State) (old tile q : Nat) : ((s.replaceSite old tile).quad q).stock = (s.quad q).stock := by
  unfold State.replaceSite
  dsimp only
  split
  · rfl
  · have hquad : ((s.modQuad (old / Config.sitesPerQuad) (fun x => { x with noSpare := true })).quad q).stock = (s.quad q).stock := by
      by_cases hq : q = old / Config.sitesPerQuad
      · rw [hq, State.quad_modQuad_self]
        rfl
      · rw [State.quad_modQuad_ne _ _ _ _ hq]
    split
    · exact hquad
    · exact hquad

theorem State.sites_replaceSite (s : State) (old tile : Nat) : (s.replaceSite old tile).sites = s.sites := by
  unfold State.replaceSite
  dsimp only
  split
  · rfl
  · split <;> rfl

/-- Roles are balanced among the sites that carry no tile and are not FENCED. -/
theorem State.fenced_rebalance {s : State} {j : Nat} (q : Nat) (h : (s.site j).role = .fenced) : ((s.rebalance q).site j).role = .fenced := by
  have hout : j ∉ s.extraSites q := fun hj => by
    have hrole := (List.mem_filter.mp hj).2
    rw [h] at hrole
    simp at hrole
  have hset : ∀ (r : Role) (l : List Nat), (∀ i ∈ l, i ∈ s.extraSites q) → ∀ u : State, (u.site j).role = .fenced →
      ((l.foldl (fun u i => u.setRole i r) u).site j).role = .fenced := by
    intro r l hl
    induction l with
    | nil => exact fun _ hu => hu
    | cons i l ih =>
      intro u hu
      refine ih (fun k hk => hl k (List.mem_cons_of_mem _ hk)) _ ?_
      have hij : j ≠ i := fun hji => hout (hji ▸ hl i List.mem_cons_self)
      unfold State.setRole
      dsimp only
      split
      · exact hu
      · rw [State.modSite, State.site_setSite_ne _ _ _ _ hij]
        exact hu
  unfold State.rebalance
  extract_lets l n t u
  exact hset _ _ (fun i hi => List.mem_of_mem_drop hi) t (hset _ _ (fun i hi => List.mem_of_mem_take hi) s h)

/-- A site that is fenced stays so while others are, and the loads and stores stand. -/
theorem State.fenceSite_leaves (s : State) (i : Nat) : ((s.fenceSite i).site i).role = .fenced ∧
    (∀ j, (s.site j).role = .fenced → ((s.fenceSite i).site j).role = .fenced) ∧
    ∀ q, ((s.fenceSite i).quad q).stock = (s.quad q).stock := by
  unfold State.fenceSite
  extract_lets a t heal u
  split
  · next h => exact ⟨h, fun _ hj => hj, fun _ => rfl⟩
  have hself : (u.site i).role = .fenced := congrArg Site.role (s.site_setSite_self i _)
  have hkeep : ∀ j, (s.site j).role = .fenced → (u.site j).role = .fenced := fun j hj => by
    by_cases hij : j = i
    · rw [hij]
      exact hself
    · exact (congrArg Site.role (s.site_setSite_ne i j _ hij)).trans hj
  have hquads : u.quads = s.quads := rfl
  clear_value u
  split
  · split
    · exact ⟨hself, hkeep, State.stock_of_quads hquads⟩
    · rw [State.site_of_sites (u.sites_replaceSite i _)]
      refine ⟨hself, fun j hj => ?_, fun q => (u.stock_replaceSite i _ q).trans (State.stock_of_quads hquads q)⟩
      rw [State.site_of_sites (u.sites_replaceSite i _)]
      exact hkeep j hj
  · exact ⟨State.fenced_rebalance _ hself, fun j hj => State.fenced_rebalance _ (hkeep j hj),
      State.stock_of_quads ((u.quads_rebalance _).trans hquads)⟩

/-- Sites that miss the activation are fenced. -/
theorem State.fenceMissed_leaves (l : List Nat) (s : State) :
    (∀ i ∈ l, ((l.foldl (fun u i => (u.incompleteSite 0 i).fenceSite i) s).site i).role = .fenced) ∧
    (∀ j, (s.site j).role = .fenced → ((l.foldl (fun u i => (u.incompleteSite 0 i).fenceSite i) s).site j).role = .fenced) ∧
    ∀ q, ((l.foldl (fun u i => (u.incompleteSite 0 i).fenceSite i) s).quad q).stock = (s.quad q).stock := by
  induction l generalizing s with
  | nil => exact ⟨fun _ h => (nomatch h), fun _ h => h, fun _ => rfl⟩
  | cons i l ih =>
    obtain ⟨-, hq, hs⟩ := s.addDefect_leaves (i / Config.sitesPerQuad)
      { kind := 2, site := i, structure_ := 15, fused := false, runtime := decide (0 = 0), index := 0, starts := 0
        missed := 0, firstHours := s.heal.poweredHours }
    obtain ⟨fself, fkeep, fstock⟩ := (s.incompleteSite 0 i).fenceSite_leaves i
    obtain ⟨iall, ikeep, istock⟩ := ih ((s.incompleteSite 0 i).fenceSite i)
    refine ⟨fun k hk => ?_, fun j hj => ikeep j (fkeep j ?_), fun q => (istock q).trans ((fstock q).trans (State.stock_of_quads hq q))⟩
    · rcases List.mem_cons.mp hk with rfl | hk
      · exact ikeep _ fself
      · exact iall k hk
    · exact (congrArg Site.role (State.site_of_sites hs j)).trans hj

/-- The READY sites of a quadrant switch to the image that its staging banks hold. -/
theorem State.activate_leaves (s : State) (q : Nat) (missed : List Nat) :
    let x := (s.activate q missed).quad q
    x.load.valid = true ∧ x.load.result = 1 ∧ x.load.fenced = (s.quad q).load.fenced + missed.length ∧
      x.store = (s.quad q).staging.getD (s.quad q).store ∧ x.staging = none ∧ x.round = 0 ∧
      ∀ i ∈ missed, ((s.activate q missed).site i).role = .fenced := by
  obtain ⟨hall, -, hstock⟩ := State.fenceMissed_leaves missed s
  have hwear : ∀ u : State, u.rewear.quad q = u.quad q ∧ u.rewear.sites = u.sites := fun _ => ⟨rfl, rfl⟩
  unfold State.activate
  dsimp only
  generalize missed.foldl (fun u i => (u.incompleteSite 0 i).fenceSite i) s = t at hall hstock
  have hq := hstock q
  obtain ⟨hload, hrest⟩ := Prod.mk.inj hq
  obtain ⟨hstaging, hstore⟩ := Prod.mk.inj hrest
  rw [(hwear _).1, State.quads_setHolds_quad, State.quad_modQuad_self, ← hload, ← hstaging, ← hstore]
  refine ⟨rfl, rfl, rfl, rfl, rfl, rfl, fun i hi => ?_⟩
  have hsites := (hwear ((t.modQuad q (fun x => { x.redress with
    store := x.staging.getD x.store, staging := none
    load := { x.load with valid := true, result := 1, fenced := x.load.fenced + missed.length, bad := [] } })).setHolds)).2.trans
    (State.sites_setHolds _)
  exact (congrArg Site.role (State.site_of_sites hsites i)).trans (hall i hi)

theorem serviceLoadActivated {s : State} {q : Nat} {bad : List Nat} (hl : s.live = true) (hk : (s.quad q).load.kind = 1) :
    ((s.quad q).load.valid = false → (s.quad q).load.activate ≠ 0 → (s.quad q).load.activate ≤ s.turn.no → s.turn.window = .intake →
      s.turn.cycle = 0 → (∀ i ∈ bad, i / 576 = q ∧ (s.site i).role ≠ .fenced) →
      exec (.broadcastActivate { quad := q, missed := bad }) s = .next (if s.fenceTooLarge q bad then
        s.modQuad q (fun x => { x with staging := none, load := { x.load with valid := true, result := 2, bad := [] } })
        else s.activate q bad)) ∧
    ((s.quad q).load.activate = 0 ∨ s.turn.no < (s.quad q).load.activate ∨ s.turn.window ≠ .intake ∨ s.turn.cycle ≠ 0 →
      exec (.broadcastActivate { quad := q, missed := bad }) s = .next s) := by
  have hx : exec (.broadcastActivate { quad := q, missed := bad }) s = execBroadcastActivate { quad := q, missed := bad } s :=
    exec_broadcastActivate
  unfold execBroadcastActivate at hx
  dsimp only at hx
  refine ⟨fun hv ha hno hw hc hbad => ?_, fun h => hx.trans (congrArg Host.Outcome.next (if_neg ?_))⟩
  · rw [filter_presentSites hbad, if_pos] at hx
    · exact hx
    · rw [hl, hk, hv, decide_eq_true ha, decide_eq_true hno, decide_eq_true hw, hc]
      rfl
  · simp only [Bool.and_eq_true, decide_eq_true_iff, beq_iff_eq]
    rintro ⟨⟨⟨⟨-, ha⟩, hno⟩, hw⟩, hc⟩
    rcases h with h | h | h | h
    · exact ha h
    · omega
    · exact h hw
    · exact h hc

end Sys2Proof.Machine

open Sys2Proof Sys2Proof.Machine

/-- Settles O58: snapshots and replay, the two watchdogs, SERVICE loads. -/
theorem recovery : Obligations.Recovery := by
  unfold Obligations.Recovery
  refine ⟨fun s q c g r => ⟨snapshotCaptured, fun hr hs => ?_, fun hr hs => ?_⟩, fun s q => ⟨heartbeatMissed, hubUnserved, fun hw => ⟨?_, ?_⟩,
    fun hw => exec_cycleReqTimeout.trans (congrArg Host.Outcome.next (if_neg (by rw [hw]; exact Bool.false_ne_true)))⟩,
    fun s q bad hl hq => ⟨fun hz hn => serviceLoadReceived hl hq hz hn, fun hk hv ha hno hw hc hbad => ?_,
      fun hk h => (serviceLoadActivated hl hk).2 h⟩⟩
  · obtain ⟨hgo, hnone, hother⟩ := engineResetEnded hr hs
    exact ⟨fun l => hgo c l, hnone, hother⟩
  · obtain ⟨hwait, hhang, hguilty⟩ := replayEnded hr hs
    exact ⟨hwait, hhang, hguilty g⟩
  · exact exec_hubWatchdogExpire.trans (congrArg Host.Outcome.next (if_neg (by rw [hw, Bool.not_true, Bool.and_false]; exact Bool.false_ne_true)))
  · exact exec_cycleReqTimeout.trans (congrArg Host.Outcome.next (if_pos hw))
  · have hx := (serviceLoadActivated (bad := bad) hl hk).1 hv ha hno hw hc hbad
    refine ⟨fun hf => ?_, fun hf => ?_⟩
    · rw [if_neg (by rw [hf]; exact Bool.false_ne_true)] at hx
      exact ⟨_, hx, s.activate_leaves q bad⟩
    · rw [if_pos hf] at hx
      refine ⟨_, hx, ?_⟩
      rw [State.quad_modQuad_self]
      exact ⟨rfl, rfl, rfl, rfl, rfl⟩
end

section
/-! ### What the training of a port leaves: the module, the security engine, the DDR and the loads of the quadrants -/

namespace Sys2Proof.Machine

/-- The module's state, the security engine, the DDR, and the SERVICE load of every quadrant. -/
def State.depot (s : State) : Mod × Security × Ddr × (Nat → LoadStatus) := (s.mod, s.sec, s.ddr, fun q => (s.quad q).load)

theorem State.depot_modQuad (s : State) (q : Nat) {g : Quad → Quad} (h : (g (s.quad q)).load = (s.quad q).load) :
    (s.modQuad q g).depot = s.depot := by
  refine congrArg (fun l : Nat → LoadStatus => (s.mod, s.sec, s.ddr, l)) (funext fun k => ?_)
  by_cases hk : k = q
  · rw [hk, State.quad_modQuad_self, h]
  · rw [State.quad_modQuad_ne _ _ _ _ hk]

theorem State.depot_modEntry (s : State) (q k : Nat) (f : SluiceEntry → SluiceEntry) : (s.modEntry q k f).depot = s.depot :=
  s.depot_modQuad q (by rfl)

theorem State.depot_countVerdict (s : State) (q : Nat) (v : Verdict) : (s.countVerdict q v).depot = s.depot := by
  cases v with
  | stale => exact s.depot_modQuad q (by rfl)
  | resetting => exact s.depot_modQuad q (by rfl)
  | noEntry => exact s.depot_modQuad q (by rfl)
  | violation k _ => exact (State.depot_modEntry _ q k _).trans (s.depot_modQuad q (by rfl))
  | bankOff k => exact s.depot_modEntry q k _
  | notOwned k => exact (State.depot_modEntry _ q k _).trans (s.depot_modQuad q (by rfl))
  | allow k => exact s.depot_modEntry q k _

theorem State.depot_takeWord (s : State) (q id : Nat) (p : Packet) (acc : List Nat) (i : Nat) :
    (s.takeWord q id p acc i).1.depot = s.depot := by
  unfold State.takeWord
  dsimp only
  split
  · split
    · exact s.depot_countVerdict q _
    · exact s.depot_countVerdict q _
  all_goals exact s.depot_countVerdict q _

theorem State.depot_judgePacket (s : State) (c q d : Nat) (p : Packet) : (s.judgePacket c q d p).1.depot = s.depot := by
  have hwords : (s.takeWords q s.avdin.arrivalNo p).1.depot = s.depot :=
    foldl_fixes (fun a : State × List Nat => a.1.depot) _ (fun a i => State.depot_takeWord a.1 q _ p a.2 i) _ _
  unfold State.judgePacket
  dsimp only
  split
  · exact hwords
  · exact hwords

theorem State.depot_takeWrite (s : State) (p : Packet) : (s.takeWrite p).1.depot = s.depot := by
  unfold State.takeWrite
  dsimp only
  split
  · rfl
  split
  · exact s.depot_modQuad _ (by rfl)
  split
  · split
    · exact s.depot_modQuad _ (by rfl)
    split
    · exact s.depot_modQuad _ (by rfl)
    split
    · exact s.depot_judgePacket _ _ _ p
    split <;> rfl
  · exact s.depot_modQuad _ (by rfl)

theorem State.depot_takeAnswer (s : State) (p : Packet) : (s.takeAnswer p).depot = s.depot := by
  unfold State.takeAnswer
  dsimp only
  split
  · rfl
  split
  · rfl
  next o _ =>
    have hretire : ∀ g : Ctx → Ctx, ((s.modCtx p.srcCtx g).engineRetire p.srcQuad 3).depot = s.depot := fun g =>
      (State.depot_modQuad _ _ (by rfl)).trans rfl
    have hnote : ∀ (b : Bool) (u : State) (i : Nat) (f : Site → Site), u.depot = s.depot →
        (if b then u else u.modSite i f).depot = s.depot := fun b u i f hu => by
      split
      · exact hu
      · exact hu
    split
    · split
      · exact hnote _ _ _ _ (hretire _)
      · exact hnote _ _ _ _ (hretire _)
    · exact hnote _ _ _ _ (hretire _)

theorem State.depot_sendAnswer (s : State) (p : Packet) : (s.sendAnswer p).depot = s.depot := by
  unfold State.sendAnswer
  split
  · exact s.depot_takeAnswer p
  · rfl
  · rfl

theorem State.depot_forward (s : State) (p : Packet) (d : Option Nat) : (s.forward p d).depot = s.depot := by
  unfold State.forward
  split
  · split
    · dsimp only
      split
      · exact (State.depot_sendAnswer _ _).trans (s.depot_takeWrite p)
      · exact s.depot_takeWrite p
    · exact s.depot_takeAnswer p
  · rfl
  · dsimp only
    split
    · split
      · exact State.depot_takeAnswer _ _
      · exact State.depot_sendAnswer _ _
    · rfl

theorem State.depot_portDown (s : State) (n : Nat) (st : PortState) (brake : Bool) : (s.portDown n st brake).depot = s.depot := by
  unfold State.portDown
  dsimp only
  refine (foldl_fixes State.depot _ (fun u p => ?_) _ _).trans rfl
  split
  · exact u.depot_forward p none
  · exact u.depot_forward p none
  · rfl

theorem State.depot_train (s : State) (n : Nat) : (s.train n).depot = s.depot := by
  unfold State.train
  dsimp only
  split
  · exact s.depot_portDown n .training false
  · exact s.depot_portDown n .training false

theorem State.depot_startPorts (s : State) : s.startPorts.depot = s.depot :=
  foldl_fixes State.depot _ (fun u n => u.depot_train n) _ s

/-! ### The chip controller's start: SERVICE code into every quadrant -/

/-- What a quadrant's rebuild does not change: the module, the security engine, the DDR. -/
def State.cellar (s : State) : Mod × Security × Ddr := (s.mod, s.sec, s.ddr)

theorem State.cellar_setRole (s : State) (i : Nat) (r : Role) : (s.setRole i r).cellar = s.cellar := by
  unfold State.setRole
  split <;> rfl

theorem State.cellar_rebalance (s : State) (q : Nat) : (s.rebalance q).cellar = s.cellar := by
  unfold State.rebalance
  dsimp only
  refine (foldl_fixes State.cellar _ (fun u i => u.cellar_setRole i .spare) _ _).trans ?_
  exact foldl_fixes State.cellar _ (fun u i => u.cellar_setRole i .auditor) _ _

theorem State.depot_rebalance (s : State) (q : Nat) : (s.rebalance q).depot = s.depot := by
  have hq : (fun k => ((s.rebalance q).quad k).load) = fun k => (s.quad k).load :=
    funext fun k => congrArg (fun l => (aget Quad.reset l k).load) (s.quads_rebalance q)
  have hc := Prod.mk.inj (s.cellar_rebalance q)
  have hd := Prod.mk.inj hc.2
  exact Prod.ext hc.1 (Prod.ext hd.1 (Prod.ext hd.2 hq))

theorem Quad.load_remap (x : Quad) (m : List (Nat × RemapEntry)) : ({ x with remap := m } : Quad).load = x.load := rfl

theorem State.depot_rebuild (s : State) (q : Nat) (fences : List Nat) : (s.rebuild q fences).depot = s.depot := by
  have hfence : ∀ u : State, (fences.foldl (fun u i => u.setSite i (Site.fresh i .fenced none)) u).depot = u.depot := fun u =>
    foldl_fixes State.depot (fun u i => u.setSite i (Site.fresh i .fenced none)) (fun _ _ => rfl) fences u
  unfold State.rebuild
  dsimp only
  split
  · exact (State.depot_rebalance _ q).trans ((State.depot_modQuad _ q (by rfl)).trans ((hfence _).trans rfl))
  · refine (State.depot_rebalance _ q).trans ((State.depot_modQuad _ q (Quad.load_remap _ _)).trans
      ((foldl_fixes State.depot _ (fun u t => ?_) _ _).trans ((hfence _).trans rfl)))
    split <;> rfl

/-- A load that the start gave to its quadrant: a valid record of kind 1. -/
def LoadStatus.started (l : LoadStatus) : Prop := l.valid = true ∧ l.kind = 1

theorem State.startQuad_starts (s : State) (q : Nat) :
    (s.startQuad [] q).cellar = s.cellar ∧ ((s.startQuad [] q).quad q).load.started ∧
      ∀ k, k ≠ q → ((s.startQuad [] q).quad k).load = (s.quad k).load := by
  have hr := fun fences => s.depot_rebuild q fences
  unfold State.startQuad
  dsimp only [List.filter_nil, List.foldl_nil]
  specialize hr (fencedBy (applyList ((aget [] s.heal.defects q).filter (fun d => d.fused))))
  generalize s.rebuild q _ = b at hr ⊢
  obtain ⟨hm, hr⟩ := Prod.mk.inj hr
  obtain ⟨hs, hr⟩ := Prod.mk.inj hr
  obtain ⟨hd, hl⟩ := Prod.mk.inj hr
  refine ⟨Prod.ext hm (Prod.ext hs hd), ?_, fun k hk => ?_⟩
  · rw [State.quad_modQuad_self]
    exact ⟨rfl, rfl⟩
  · rw [State.quad_modQuad_ne _ _ _ _ hk]
    exact congrFun hl k

theorem State.startQuads_start (l : List Nat) (s : State) :
    (l.foldl (fun u q => u.startQuad [] q) s).cellar = s.cellar ∧
      ∀ q, q ∈ l ∨ (s.quad q).load.started → ((l.foldl (fun u q => u.startQuad [] q) s).quad q).load.started := by
  induction l generalizing s with
  | nil => exact ⟨rfl, fun q h => h.resolve_left List.not_mem_nil⟩
  | cons a l ih =>
    obtain ⟨hc, hself, hother⟩ := s.startQuad_starts a
    obtain ⟨hcl, hl⟩ := ih (s.startQuad [] a)
    refine ⟨hcl.trans hc, fun q h => hl q ?_⟩
    by_cases hqa : q = a
    · exact .inr (hqa ▸ hself)
    · rcases h with h | h
      · exact .inl ((List.mem_cons.mp h).resolve_left hqa)
      · rw [hother q hqa]
        exact .inr h

/-- The flash is read into the defect lists, the slot number and the fabric: the module otherwise, the security engine and the DDR
stay. -/
theorem State.readFlash_leaves (s : State) :
    s.readFlash.mod.trained = s.mod.trained ∧ s.readFlash.sec = s.sec ∧ s.readFlash.ddr = s.ddr := by
  unfold State.readFlash
  dsimp only
  split <;> exact ⟨rfl, rfl, rfl⟩

theorem controllerStarts {s : State} (h : s.mod.phase = .bootRom) :
    ∃ t, exec (.chipControllerStart []) s = .next t ∧ t.mod.phase = .starting ∧ t.sec.aliasReady = true ∧
      t.ddr.zeroing = s.mod.trained ∧ ∀ q ∈ s.mod.order.quads, (t.quad q).load.valid = true ∧ (t.quad q).load.kind = 1 := by
  refine ⟨_, exec_chipControllerStart.trans (congrArg Host.Outcome.next (if_neg (fun hn => hn h))), ?_⟩
  obtain ⟨hf, -, -⟩ := s.readFlash_leaves
  dsimp only
  generalize hb : ({ s.readFlash with sec := _, mod := _, ddr := _ } : State) = b
  have hbm : b.mod.phase = .starting := by rw [← hb]
  have hbs : b.sec.aliasReady = true := by rw [← hb]
  have hbd : b.ddr.zeroing = s.mod.trained := by rw [← hb]; exact hf
  obtain ⟨hc, hl⟩ := State.startQuads_start s.mod.order.quads b
  generalize s.mod.order.quads.foldl (fun u q => u.startQuad [] q) b = u at hc hl ⊢
  obtain ⟨hm, hc⟩ := Prod.mk.inj hc
  obtain ⟨hs, hd⟩ := Prod.mk.inj hc
  obtain ⟨tm, hp⟩ := Prod.mk.inj u.depot_startPorts
  obtain ⟨ts, hp⟩ := Prod.mk.inj hp
  obtain ⟨td, tl⟩ := Prod.mk.inj hp
  refine ⟨by rw [tm, hm, hbm], by rw [ts, hs, hbs], by rw [td, hd, hbd], fun q hq => ?_⟩
  have hload : (u.startPorts.quad q).load = (u.quad q).load := congrFun tl q
  rw [hload]
  exact hl q (.inl hq)

end Sys2Proof.Machine
end
section
/-! ### The DDR's training and zeroing, the dressing and the energy floor -/

namespace Sys2Proof.Machine

/-- What a channel's training reads of it: its module and its marks. -/
def Channel.plugged (c : Channel) : Option MemModule × BitVec 20 := (c.module, c.marks)

theorem Channel.afterTraining_congr {c d : Channel} (h : c.plugged = d.plugged) (failed : Bool) :
    c.afterTraining failed = d.afterTraining failed := by
  obtain ⟨hmodule, hmarks⟩ := Prod.mk.inj h
  have hmarked : c.marked = d.marked := by unfold Channel.marked; rw [hmarks]
  unfold Channel.afterTraining
  rw [hmodule, hmarked]

/-- A channel that was trained. -/
def Channel.trainedAs (c d : Channel) (failed : Bool) : Prop := d.plugged = c.plugged ∧ d.state = c.afterTraining failed

theorem State.chan_modChan (s : State) (n k : Nat) (g : Channel → Channel) :
    (s.modChan n g).chan k = if k = n then g (s.chan k) else s.chan k := by
  by_cases h : k = n
  · rw [if_pos h, h, State.chan_modChan_self]
  · rw [if_neg h]
    exact aget_aset_ne _ _ _ _ _ h

/-- A training of all channels gives each of them its state once, however often the list names it. -/
theorem State.trains_foldl (failed : Nat → Bool) {g : Nat → Channel → Channel} (hg : ∀ n c, Channel.trainedAs c (g n c) (failed n))
    (l : List Nat) (s : State) (ch : Nat) :
    ((l.foldl (fun u n => u.modChan n (g n)) s).chan ch).plugged = (s.chan ch).plugged ∧
      (ch ∈ l ∨ (s.chan ch).state = (s.chan ch).afterTraining (failed ch) →
        ((l.foldl (fun u n => u.modChan n (g n)) s).chan ch).state = (s.chan ch).afterTraining (failed ch)) := by
  induction l generalizing s with
  | nil => exact ⟨rfl, fun h => h.resolve_left List.not_mem_nil⟩
  | cons n l ih =>
    obtain ⟨hplug, hstate⟩ := ih (s.modChan n (g n))
    rw [State.chan_modChan] at hplug hstate
    by_cases hn : ch = n
    · subst hn
      obtain ⟨hp, hs⟩ := hg ch (s.chan ch)
      rw [if_pos rfl] at hplug hstate
      rw [Channel.afterTraining_congr hp] at hstate
      exact ⟨hplug.trans hp, fun _ => hstate (.inr hs)⟩
    · rw [if_neg hn] at hplug hstate
      exact ⟨hplug, fun h => hstate (h.imp_left fun hm => (List.mem_cons.mp hm).resolve_left hn)⟩

theorem State.trainDdr_trains (s : State) (failed : List Nat) {q ch : Nat} (hq : q ∈ s.mod.order.quads)
    (hch : ch ∈ s.mod.order.channels q) :
    ((s.trainDdr failed).chan ch).state = (s.chan ch).afterTraining (failed.contains ch) := by
  have hall : ch ∈ s.mod.order.quads.flatMap s.mod.order.channels := List.mem_flatMap.mpr ⟨q, hq, hch⟩
  have htrain := (State.trains_foldl (fun n => failed.contains n)
    (g := fun n c => { c with state := c.afterTraining (failed.contains n), touched := false }) (fun n c => ⟨rfl, rfl⟩)
    (s.mod.order.quads.flatMap s.mod.order.channels) s ch).2 (.inl hall)
  unfold State.trainDdr
  extract_lets all good a capOf set low larger b
  have hb : (b.chan ch).state = (a.chan ch).state := by
    refine foldl_fixes (fun u : State => (u.chan ch).state) _ (fun u n => ?_) all a
    rw [State.chan_modChan]
    split <;> rfl
  exact hb.trans htrain

theorem ddrTrained {s : State} (hp : s.mod.phase = .starting) (ht : s.mod.trained = false) (failed : List Nat) (ms : Nat) :
    ∃ t, exec (.ddrTrainingDone failed ms) s = .next t ∧ t.mod.trained = true ∧ t.ddr.zeroing = true ∧
      t.mod.ddrMs = min ms 65535 ∧ ∀ q ∈ s.mod.order.quads, ∀ ch ∈ s.mod.order.channels q,
        (t.chan ch).state = (s.chan ch).afterTraining (failed.contains ch) := by
  have hgo : ¬(s.mod.phase ≠ .starting ∨ s.mod.trained = true) := by rw [hp, ht]; decide
  exact ⟨_, exec_ddrTrainingDone.trans (congrArg Host.Outcome.next (if_neg hgo)), rfl, rfl, rfl,
    fun q hq ch hch => s.trainDdr_trains failed hq hch⟩

theorem ddrZeroed {s : State} (hp : s.mod.phase = .starting) (hz : s.ddr.zeroing = true) (ms : Nat) :
    ∃ t, exec (.zeroingDone ms) s = .next t ∧ t.mod.zeroed = true ∧ t.ddr.zeroing = false ∧
      (∀ q, t.ddr.memory q = Memory.cleared) ∧ t.sites = s.sites :=
  ⟨_, exec_zeroingDone.trans (congrArg Host.Outcome.next (if_pos ⟨hp, hz⟩)), rfl, rfl, fun _ => rfl, rfl⟩

/-- The generation of the CPB is the module's alone. -/
theorem State.cpbStarted_leaves (s : State) : s.cpbStarted.mod.dressedDone = s.mod.dressedDone ∧ s.cpbStarted.turn = s.turn := by
  unfold State.cpbStarted
  split
  · exact ⟨rfl, rfl⟩
  · unfold State.cpbSettle
    split
    · exact ⟨rfl, rfl⟩
    · dsimp only
      split <;> exact ⟨rfl, rfl⟩

theorem deviceDressed {s : State} (hp : s.mod.phase = .starting) (hd : s.mod.dressedDone = false) (found : List DefectFact) (ms : Nat) :
    ∃ t, exec (.fullDressingDone found ms) s = .next t ∧ t.mod.dressedDone = true ∧
      t.turn.running = true ∧ t.turn.no = 0 ∧ t.turn.window = .intake ∧ t.turn.cycle = 0 := by
  have hgo : ¬(s.mod.phase ≠ .starting ∨ s.mod.dressedDone = true) := by rw [hp, hd]; decide
  refine ⟨_, exec_fullDressingDone.trans (congrArg Host.Outcome.next (if_neg hgo)), ?_⟩
  dsimp only
  generalize s.mod.order.quads.foldl (fun u q => u.softRepair found q) s = a
  generalize hb : ({ a with mod := _, reef := _, turn := _ } : State) = b
  obtain ⟨hm, ht⟩ := b.cpbStarted_leaves
  have hbm : b.mod.dressedDone = true := by rw [← hb]
  have hrun : b.cpbStarted.turn.running = true := by rw [ht, ← hb]
  have hno : b.cpbStarted.turn.no = 0 := by rw [ht, ← hb]
  have hwin : b.cpbStarted.turn.window = .intake := by rw [ht, ← hb]
  have hcyc : b.cpbStarted.turn.cycle = 0 := by rw [ht, ← hb]
  exact ⟨hm.trans hbm, hrun, hno, hwin, hcyc⟩

/-! ### The decision of step 9 and the fuses -/

/-- What the decision of step 9 and the emitted event leave: the security engine, the repairs, the DDR and the number of starts. -/
def State.vault (s : State) : Security × Heal × Ddr × Nat := (s.sec, s.heal, s.ddr, s.mod.starts)

theorem State.vault_setDev (s : State) (d : DevCode) (l : List Nat) : (s.setDev d l).vault = s.vault := by
  unfold State.setDev
  split <;> rfl

theorem State.causes_setDev (s : State) (d : DevCode) (l : List Nat) : (s.setDev d l).mod.causes = s.mod.causes := by
  unfold State.setDev
  split <;> rfl

/-- The rows of Table 16.3 that hold. -/
def State.rows (s : State) : List Nat := s.startRows ++ s.linkRows (missingPorts s.linkChecks)

theorem State.decide9_leaves (s : State) : s.decide9.vault = s.vault ∧ s.decide9.mod.causes = s.rows ∧
    s.decide9.mod.dev = readiness s.rows := by
  unfold State.decide9
  extract_lets checks missing rows a mod' b
  have ha : a.vault = s.vault := foldl_fixes State.vault _ (fun _ _ => by rfl) s.mod.order.quads s
  have hb : b.vault = a.vault := rfl
  exact ⟨(b.vault_setDev _ _).trans (hb.trans ha), b.causes_setDev _ _, b.dev_setDev _ _⟩

/-- The conditions under which the decision of step 9 is taken. -/
theorem State.decides {s : State} (hp : s.mod.phase = .starting) (hf : s.mod.floorDone = true) (hr : s.portsReady = true)
    (hc : s.check.chipBraked = false) :
    ¬(s.mod.phase ≠ .starting ∨ s.mod.floorDone = false ∨ s.portsReady = false ∨ s.check.chipBraked = true) := by
  rw [hp, hf, hr, hc]
  decide

theorem decisionCut {s : State} (hgo : ¬(s.mod.phase ≠ .starting ∨ s.mod.floorDone = false ∨ s.portsReady = false ∨
    s.check.chipBraked = true)) (ms : Nat) {cut : FuseEnd} (hcut : ∀ n, cut ≠ .done n) :
    exec (.readinessDecision ms cut) s = .next (s.decide9.cutStart cut) := by
  refine exec_readinessDecision.trans (congrArg Host.Outcome.next ((if_neg hgo).trans ?_))
  cases cut with
  | done n => exact absurd rfl (hcut n)
  | cutVersion _ => rfl
  | cutEntry _ => rfl
  | cutFlash => rfl

theorem flashCut {s : State} (hgo : ¬(s.mod.phase ≠ .starting ∨ s.mod.floorDone = false ∨ s.portsReady = false ∨
    s.check.chipBraked = true)) (ms : Nat) :
    ∃ t, exec (.readinessDecision ms .cutFlash) s = .next t ∧ t.mod.phase = .off ∧ t.mod.pwrEn = false ∧
      t.mod.starts = s.mod.starts ∧ t.ddr.record = s.ddr.record ∧ t.heal.defects = t.heal.saved ∧ t.sec.svn = s.sec.fuse.1.svn := by
  refine ⟨_, decisionCut hgo ms (fun _ h => FuseEnd.noConfusion h), ?_⟩
  obtain ⟨hv, -, -⟩ := s.decide9_leaves
  obtain ⟨hs, hv⟩ := Prod.mk.inj hv
  obtain ⟨-, hv⟩ := Prod.mk.inj hv
  obtain ⟨hd, hn⟩ := Prod.mk.inj hv
  exact ⟨rfl, rfl, hn, (congrArg Ddr.record hd :), rfl, (congrArg (fun x : Security => x.fuse.1.svn) hs :)⟩

theorem versionCut {s : State} (hgo : ¬(s.mod.phase ≠ .starting ∨ s.mod.floorDone = false ∨ s.portsReady = false ∨
    s.check.chipBraked = true)) (ms n : Nat) :
    ∃ t, exec (.readinessDecision ms (.cutVersion n)) s = .next t ∧ t.mod.phase = .off ∧
      t.sec.svn = min (s.sec.svn + n) s.sec.fuse.1.svn ∧ t.heal.fuseUsed = s.heal.fuseUsed ∧ t.heal.defects = s.heal.saved := by
  refine ⟨_, decisionCut hgo ms (fun _ h => FuseEnd.noConfusion h), ?_⟩
  obtain ⟨hv, -, -⟩ := s.decide9_leaves
  obtain ⟨hs, hv⟩ := Prod.mk.inj hv
  obtain ⟨hh, -⟩ := Prod.mk.inj hv
  exact ⟨rfl, (congrArg (fun x : Security => (x.cut n).svn) hs :), (congrArg Heal.fuseUsed hh :), (congrArg Heal.saved hh :)⟩

theorem moduleUp {s : State} (hgo : ¬(s.mod.phase ≠ .starting ∨ s.mod.floorDone = false ∨ s.portsReady = false ∨
    s.check.chipBraked = true)) (ms n : Nat) :
    ∃ t, exec (.readinessDecision ms (.done n)) s = .next t ∧ t.mod.phase = .up ∧
      t.mod.causes = s.startRows ++ s.linkRows (missingPorts s.linkChecks) ∧ t.mod.dev = readiness t.mod.causes ∧
      t.mod.starts = min (s.mod.starts + 1) (2 ^ 16 - 1) ∧ t.mod.totalMs = min ms 65535 ∧ t.mod.fuseMs = min n 65535 := by
  refine ⟨_, exec_readinessDecision.trans (congrArg Host.Outcome.next (if_neg hgo)), ?_⟩
  obtain ⟨hv, hcauses, hdev⟩ := s.decide9_leaves
  have hstarts : s.decide9.mod.starts = s.mod.starts := (Prod.mk.inj (Prod.mk.inj (Prod.mk.inj hv).2).2).2
  dsimp only
  generalize hu : (if (s.decide9.commitStart ms n).mod.dev = .degraded then
    (s.decide9.commitStart ms n).emit (.event .readinessChanged) else s.decide9.commitStart ms n) = u
  have hmod : u.mod = (s.decide9.commitStart ms n).mod := by
    rw [← hu]
    split <;> rfl
  have hrewear : u.rewear.mod = (s.decide9.commitStart ms n).mod := hmod
  rw [hrewear]
  refine ⟨rfl, hcauses, ?_, (congrArg (fun k => min (k + 1) (2 ^ 16 - 1)) hstarts :), rfl, rfl⟩
  exact hdev.trans (congrArg readiness hcauses).symm

end Sys2Proof.Machine
end
section
/-! ### Temperatures -/

namespace Sys2Proof.Machine

/-- Whether a temperature sensor's die is on the module (R3). -/
def State.senses (s : State) (i : Nat) : Bool := (dieQuad i).all (fun q => s.mod.order.quads.contains q)

/-- The temperatures that a sample takes: those of an absent quadrant read 0. -/
def State.heat (s : State) (all : List Nat) : List Nat := (List.range 9).map (fun i => if s.senses i then all.getD i 0 else 0)

/-- The reef that a sample of temperatures leaves. -/
def Reef.sampled (r : Reef) (temps : List Nat) : Reef :=
  let hot := (List.range 9).map (fun i => decide (105 ≤ temps.getD i 0) || (r.hot.getD i false && decide (100 < temps.getD i 0)))
  { r with hot := hot, tempsNow := (List.range 9).map (fun i => max (r.tempsNow.getD i 0) (temps.getD i 0))
           peak := max r.peak (temps.foldl max 0), hotNow := r.hotNow || hot.any id }

theorem State.sample_eq {s : State} (h : s.mod.phase.running = true) (all : List Nat) : exec (.tempSample all) s = .next
    ((List.range 9).foldl (fun u i => if 110 ≤ (s.heat all).getD i 0 then u.heatBrake i ((s.heat all).getD i 0) else u)
      { s with reef := s.reef.sampled (s.heat all) }) :=
  exec_tempSample.trans (congrArg Host.Outcome.next (if_neg (by rw [h]; exact Bool.false_ne_true)))

theorem getD_range_map {α : Type} (f : Nat → α) (d : α) {i n : Nat} (h : i < n) : ((List.range n).map f).getD i d = f i := by
  rw [List.getD_eq_getElem _ _ (by rwa [List.length_map, List.length_range]), List.getElem_map, List.getElem_range]

theorem State.heat_getD (s : State) (all : List Nat) {i : Nat} (h : i < 9) :
    (s.heat all).getD i 0 = if s.senses i then all.getD i 0 else 0 := getD_range_map _ _ h

theorem State.heat_le (s : State) (all : List Nat) {i : Nat} (h : i < 9) : (s.heat all).getD i 0 ≤ all.getD i 0 := by
  rw [s.heat_getD all h]
  split
  · exact Nat.le_refl _
  · exact Nat.zero_le _

theorem State.senses_iff (s : State) (i : Nat) : s.senses i = false ↔ i < 8 ∧ i / 2 ∉ s.mod.order.quads := by
  unfold State.senses dieQuad
  by_cases h : i < 8
  · simp [h]
  · simp [h]

/-- Where no die but one is at 110 °C, only that one can brake. -/
theorem heatFold (f : State → Nat → State) {temps : List Nat} {l : List Nat} (hl : l.Nodup) (i : Nat) (s : State)
    (h : ∀ j ∈ l, j ≠ i → temps.getD j 0 < 110) :
    l.foldl (fun u j => if 110 ≤ temps.getD j 0 then f u j else u) s =
      if i ∈ l ∧ 110 ≤ temps.getD i 0 then f s i else s := by
  induction l generalizing s with
  | nil => exact (if_neg (fun hn => List.not_mem_nil hn.1)).symm
  | cons a l ih =>
    obtain ⟨ha, hl⟩ := List.nodup_cons.mp hl
    rw [List.foldl_cons, ih hl _ (fun j hj => h j (List.mem_cons_of_mem _ hj))]
    by_cases hai : a = i
    · subst hai
      rw [if_neg (fun hn => ha hn.1)]
      simp only [List.mem_cons_self, true_and]
    · have hcold : ¬110 ≤ temps.getD a 0 := Nat.not_le.mpr (h a List.mem_cons_self hai)
      have hmem : i ∈ a :: l ↔ i ∈ l := by simp [Ne.symm hai]
      simp only [if_neg hcold, hmem]

theorem State.hot_sampled (s : State) (all : List Nat) {i : Nat} (h : i < 9) :
    (s.reef.sampled (s.heat all)).hot.getD i false = (if i < 8 ∧ i / 2 ∉ s.mod.order.quads then false
      else decide (105 ≤ all.getD i 0) || (s.reef.hot.getD i false && decide (100 < all.getD i 0))) := by
  unfold Reef.sampled
  dsimp only
  rw [getD_range_map _ _ h, s.heat_getD all h]
  by_cases hs : i < 8 ∧ i / 2 ∉ s.mod.order.quads
  · rw [if_pos hs, if_neg (by rw [(s.senses_iff i).mpr hs]; exact Bool.false_ne_true)]
    simp
  · have hsense : s.senses i = true := Bool.of_not_eq_false (fun hf => hs ((s.senses_iff i).mp hf))
    rw [if_neg hs, if_pos hsense]

theorem temperaturesBelow {s : State} (hr : s.mod.phase.running = true) {temps : List Nat} (h : ∀ i, i < 9 → temps.getD i 0 < 110) :
    ∃ t, exec (.tempSample temps) s = .next t ∧ t = { s with reef := t.reef } ∧
      ∀ i, i < 9 → t.reef.hot.getD i false = (if i < 8 ∧ i / 2 ∉ s.mod.order.quads then false
        else decide (105 ≤ temps.getD i 0) || (s.reef.hot.getD i false && decide (100 < temps.getD i 0))) := by
  have hcold : ∀ j, j < 9 → (s.heat temps).getD j 0 < 110 := fun j hj => Nat.lt_of_le_of_lt (s.heat_le temps hj) (h j hj)
  have hx := State.sample_eq hr temps
  rw [heatFold (fun u i => u.heatBrake i ((s.heat temps).getD i 0)) List.nodup_range 9 _
    (fun j hj _ => hcold j (List.mem_range.mp hj)), if_neg (fun hn => absurd (List.mem_range.mp hn.1) (by decide))] at hx
  exact ⟨_, hx, rfl, fun i hi => s.hot_sampled temps hi⟩

/-- A die at 110 °C brakes its quadrant. -/
theorem State.heatBrake_brakes {s : State} {i : Nat} (temp : Nat) (h : i < 8) (hq : i / 2 ∈ s.mod.order.quads)
    (hc : s.check.chipBraked = false) : ((s.heatBrake i temp).quad (i / 2)).braked = true := by
  have hdie : dieQuad i = some (i / 2) := if_pos h
  unfold State.heatBrake
  rw [hdie]
  dsimp only
  split
  · next hb =>
    rw [List.contains_iff_mem.mpr hq, Bool.not_true, Bool.or_false] at hb
    exact hb
  · obtain ⟨-, -, -, hbraked, -⟩ := s.brake_brakes [i / 2] false .thermal
      (some (s.plainFault .thermal [i / 2] (thermalData i temp))) [] hc
    exact hbraked _ (State.mem_brakeQuads hq (.inr List.mem_cons_self))

theorem dieOverheats {s : State} (hr : s.mod.phase.running = true) {temps : List Nat} {i : Nat} (h8 : i < 8) (hi : 110 ≤ temps.getD i 0)
    (hj : ∀ j, j < 9 → j ≠ i → temps.getD j 0 < 110) (hc : s.check.chipBraked = false) (hq : i / 2 ∈ s.mod.order.quads) :
    ∃ t, exec (.tempSample temps) s = .next t ∧ (t.quad (i / 2)).braked = true := by
  have h9 : i < 9 := by omega
  have hsense : s.senses i = true := Bool.of_not_eq_false (fun hf => ((s.senses_iff i).mp hf).2 hq)
  have hheat : (s.heat temps).getD i 0 = temps.getD i 0 := (s.heat_getD temps h9).trans (if_pos hsense)
  have hx := State.sample_eq hr temps
  rw [heatFold (fun u i => u.heatBrake i ((s.heat temps).getD i 0)) List.nodup_range i _
    (fun j hm hne => Nat.lt_of_le_of_lt (s.heat_le temps (List.mem_range.mp hm)) (hj j (List.mem_range.mp hm) hne)),
    if_pos ⟨List.mem_range.mpr h9, hheat ▸ hi⟩] at hx
  exact ⟨_, hx, State.heatBrake_brakes (s := { s with reef := _ }) _ h8 hq hc⟩

end Sys2Proof.Machine

open Sys2Proof Sys2Proof.Machine

/-- Settles O52: the steps of Table 16.2 one by one, and a sample of temperatures by the dies that stand at 110 °C. -/
theorem startSteps : Obligations.StartSteps := by
  unfold Obligations.StartSteps
  intro s ms n
  refine ⟨controllerStarts, fun hp => ⟨fun failed ht => ddrTrained hp ht failed ms, fun hz => ddrZeroed hp hz ms,
    fun found hd => deviceDressed hp hd found ms, fun hz hd => ?_, fun hf hr hc => ?_⟩, fun temps hr =>
    ⟨fun h => temperaturesBelow hr h, fun i h8 hi hj hc hq => dieOverheats hr h8 hi hj hc hq⟩⟩
  · exact exec_eFloorMeasured.trans (congrArg Host.Outcome.next (if_pos ⟨hp, hz, hd⟩))
  · have hgo := State.decides hp hf hr hc
    exact ⟨flashCut hgo ms, versionCut hgo ms n, moduleUp hgo ms n⟩

end
